-- ==== Sys2Proof/Word.lean ====
section
/-! DEFINITION. The word types of the machine (R3, R34). -/

namespace Sys2Proof

/-- A scalar register, a CSR or a global address: 64 bits. -/
abbrev Word := BitVec 64

/-- One byte of memory. -/
abbrev Byte := BitVec 8

/-- A register row of a vector register: VLEN = 1024 bits (R34). -/
abbrev VReg := BitVec 1024

/-- A predicate: 16 rows of 1,024 bits (R34). -/
abbrev PReg := BitVec 16384

/-- A scale register: 256 entries of 8 bits (R34). -/
abbrev KReg := BitVec 2048

/-- A carry register: 128 pairs of 2 × 32 bits (R34). -/
abbrev HReg := BitVec 8192

/-- A tensor descriptor: 32 bytes (R217). -/
abbrev Desc := BitVec 256

end Sys2Proof
end

