-- ==== Sys2Proof/Machine/Bits.lean ====
section
/-! DEFINITION. Bit fields, sign extension, byte order and the sparse tables of the state. -/

namespace Sys2Proof.Machine

/-- Bits `hi` down to `lo` of a number (R3). -/
def bits (n hi lo : Nat) : Nat := n / 2 ^ lo % 2 ^ (hi + 1 - lo)

/-- Bit `i` of a number. -/
def bit (n i : Nat) : Bool := n.testBit i

/-- Field `[lo + len − 1 : lo]` of a word, as a number. -/
def field {w : Nat} (x : BitVec w) (lo len : Nat) : Nat := (x.extractLsb' lo len).toNat

/-- A word with bits `[lo + len − 1 : lo]` replaced by `v`. -/
def setField {w : Nat} (x : BitVec w) (lo len : Nat) (v : Nat) : BitVec w :=
  let mask : BitVec w := BitVec.ofNat w ((2 ^ len - 1) * 2 ^ lo)
  (x &&& ~~~mask) ||| BitVec.ofNat w (v % 2 ^ len * 2 ^ lo)

/-- The signed value of the low `w` bits of a number (two's complement, R54). -/
def toSigned (w n : Nat) : Int :=
  let m := n % 2 ^ w
  if m < 2 ^ (w - 1) then (m : Int) else (m : Int) - (2 : Int) ^ w

/-- The low `w` bits of an integer, two's complement (R54). -/
def ofSigned (w : Nat) (i : Int) : Nat := (i % (2 : Int) ^ w).toNat

/-- The low `w` bits of a number, sign-extended to 64 bits (R157). -/
def sextN (w n : Nat) : Word := BitVec.ofInt 64 (toSigned w n)

/-- An immediate field, sign-extended to 64 bits (R145). -/
def sext {w : Nat} (x : BitVec w) : Word := x.signExtend 64

/-- 1 or 0 as a scalar register holds a truth value (R159). -/
def ofBool (b : Bool) : Word := if b then 1 else 0

/-- The number of leading zero bits of the low `w` bits (R159). -/
def clzN : Nat → Nat → Nat
  | 0, _ => 0
  | w + 1, n => if bit n w then 0 else clzN w n + 1

/-- The number of trailing zero bits of the low `w` bits (R159). -/
def ctzN : Nat → Nat → Nat
  | 0, _ => 0
  | w + 1, n => if n % 2 = 1 then 0 else ctzN w (n / 2) + 1

/-- The number of one bits among the low `w` bits (R159). -/
def popcountN : Nat → Nat → Nat
  | 0, _ => 0
  | w + 1, n => n % 2 + popcountN w (n / 2)

/-- The little-endian bytes of a number, lowest address first (R3). -/
def toBytes : Nat → Nat → List Byte
  | 0, _ => []
  | n + 1, x => BitVec.ofNat 8 x :: toBytes n (x / 256)

/-- The number that bytes make, the lowest address holding bits 7..0 (R3). -/
def ofBytes : List Byte → Nat
  | [] => 0
  | b :: r => b.toNat + 256 * ofBytes r

/-- The value a sparse table holds at a key; `d` where it lists none. -/
def sparseGet {β : Type} (d : β) : List (Nat × β) → Nat → β
  | [], _ => d
  | (k, v) :: r, i => if i = k then v else sparseGet d r i

/-- A sparse table with one key set: keys stay strictly rising, and no entry equals the default `d`. -/
def sparseSet {β : Type} [DecidableEq β] (d : β) : List (Nat × β) → Nat → β → List (Nat × β)
  | [], i, x => if x = d then [] else [(i, x)]
  | (k, v) :: r, i, x =>
    if i < k then (if x = d then (k, v) :: r else (i, x) :: (k, v) :: r)
    else if i = k then (if x = d then r else (i, x) :: r)
    else (k, v) :: sparseSet d r i x

/-- The canonical form of a sparse table: keys strictly rising and above `lo`, no entry equal to the default. -/
def sparseWfFrom {β : Type} [DecidableEq β] (d : β) : Nat → List (Nat × β) → Bool
  | _, [] => true
  | lo, (k, v) :: r => decide (lo ≤ k) && decide (v ≠ d) && sparseWfFrom d (k + 1) r

/-- The canonical form of a sparse table. -/
def sparseWf {β : Type} [DecidableEq β] (d : β) (l : List (Nat × β)) : Bool := sparseWfFrom d 0 l

/-- What a table lists at a key, if it lists anything. -/
def lookup {β : Type} (l : List (Nat × β)) (i : Nat) : Option β :=
  match l with
  | [] => none
  | (k, v) :: r => if i = k then some v else lookup r i

/-- A table with the entry of a key written: keys stay strictly rising. -/
def insertKey {β : Type} : List (Nat × β) → Nat → β → List (Nat × β)
  | [], i, x => [(i, x)]
  | (k, v) :: r, i, x =>
    if i < k then (i, x) :: (k, v) :: r
    else if i = k then (i, x) :: r
    else (k, v) :: insertKey r i x

/-- A table without the entry of a key. -/
def eraseKey {β : Type} (l : List (Nat × β)) (i : Nat) : List (Nat × β) := l.filter (fun e => e.1 ≠ i)

/-- A table with the entry of a key, if it has one, changed. -/
def adjustKey {β : Type} (l : List (Nat × β)) (i : Nat) (f : β → β) : List (Nat × β) :=
  l.map (fun e => if e.1 = i then (e.1, f e.2) else e)

/-- The keys of a table are strictly rising. -/
def keysRise {β : Type} : Nat → List (Nat × β) → Bool
  | _, [] => true
  | lo, (k, _) :: r => decide (lo ≤ k) && keysRise (k + 1) r

/-- Element `i` of a list with its value replaced; the list unchanged where it has no such element. -/
def setNth {α : Type} : List α → Nat → α → List α
  | [], _, _ => []
  | _ :: r, 0, x => x :: r
  | y :: r, i + 1, x => y :: setNth r i x

/-- The list without its element `i`. -/
def dropNth {α : Type} : List α → Nat → List α
  | [], _ => []
  | _ :: r, 0 => r
  | y :: r, i + 1 => y :: dropNth r i

/-- The numbers `lo, lo + 1, …, lo + n − 1`. -/
def range (lo : Nat) : Nat → List Nat
  | 0 => []
  | n + 1 => lo :: range (lo + 1) n

/-- The least member of a list that the order puts before every other; the first of them on a tie. -/
def leastBy {α : Type} (before : α → α → Bool) : List α → Option α
  | [] => none
  | x :: r =>
    match leastBy before r with
    | none => some x
    | some y => if before y x then some y else some x

/-- The integer square root, by `fuel` binary digits from above. -/
def isqrtFrom : Nat → Nat → Nat → Nat
  | 0, _, r => r
  | f + 1, n, r => let t := r + 2 ^ f; if t * t ≤ n then isqrtFrom f n t else isqrtFrom f n r

/-- The greatest integer whose square is at most `n`. -/
def isqrt (n : Nat) : Nat := isqrtFrom (n.log2 / 2 + 1) n 0

end Sys2Proof.Machine
end

