-- ==== Sys2Proof/Machine/Flags.lean ====
section
/-! DEFINITION. The sticky flags of FFLAGS (R50). What raises each is computed where its operation is: rounding in Float.lean (R63), the
invalid and divide-by-zero cases beside them (R164–R166), the exact accumulator's in Matrix.lean (R70–R72), the horizon's in Affine.lean
(R80). -/

namespace Sys2Proof.Machine

/-- NV, DZ, OF, UF, NX, XOF and HZ of FFLAGS (R50). -/
def flagNV : Nat := 1
/-- DZ. -/
def flagDZ : Nat := 2
/-- OF. -/
def flagOF : Nat := 4
/-- UF. -/
def flagUF : Nat := 8
/-- NX. -/
def flagNX : Nat := 16
/-- XOF. -/
def flagXOF : Nat := 32
/-- HZ. -/
def flagHZ : Nat := 64

/-- NV where a condition holds. -/
def nvIf (b : Bool) : Nat := if b then flagNV else 0

end Sys2Proof.Machine
end

