-- ==== Sys2Proof/Machine/Float.lean ====
section
/-! DEFINITION. Number formats (R51–R58), rounding and conversion (R61–R65), the stochastic draw (R64), and the arithmetic of
R164–R166 on exact values. Every value is an exact magnitude m × 2^e until one rounding delivers it. -/

namespace Sys2Proof.Machine

/-- A floating or narrow format: sign bit, exponent and mantissa widths, bias, and its special codes as SPEC has them: 0 none, 1 NaN at
the all-ones magnitude, 2 infinities and NaNs in the top exponent (R51, R55, R57). -/
structure Fmt where
  sgn : Bool
  ew : Nat
  mw : Nat
  bias : Int
  spec : Nat
deriving DecidableEq, Repr

/-- FP64, FP32, FP16, BF16, E4M3 and E5M2 (R51). -/
def fp64 : Fmt := ⟨true, 11, 52, 1023, 2⟩
/-- FP32. -/
def fp32 : Fmt := ⟨true, 8, 23, 127, 2⟩
/-- FP16. -/
def fp16 : Fmt := ⟨true, 5, 10, 15, 2⟩
/-- BF16. -/
def bf16 : Fmt := ⟨true, 8, 7, 127, 2⟩
/-- E4M3. -/
def e4m3 : Fmt := ⟨true, 4, 3, 7, 1⟩
/-- E5M2. -/
def e5m2 : Fmt := ⟨true, 5, 2, 15, 2⟩

/-- The format that a narrow code describes (R55). -/
def narrowFmt (code : Nat) : Fmt :=
  ⟨bit code 0, bits code 3 1, bits code 6 4, toSigned 8 (bits code 15 8), bits code 17 16⟩

/-- The codes of R56 that are legal. -/
def narrowLegal (code : Nat) : Bool :=
  let s := code % 2
  let ew := bits code 3 1
  let mw := bits code 6 4
  let spec := bits code 17 16
  decide (code / 2 ^ 18 = 0 ∧ bit code 7 = false ∧ 2 ≤ s + ew + mw ∧ s + ew + mw ≤ 8 ∧ 1 ≤ ew + mw ∧ spec ≠ 3 ∧
    (spec = 1 → 2 ≤ ew + mw) ∧ (spec = 2 → 2 ≤ ew ∧ 1 ≤ mw) ∧
    ((2 ^ ew - 1 : Nat) : Int) - toSigned 8 (bits code 15 8) ≤ 127)

/-- W, the width of a code. -/
def Fmt.width (f : Fmt) : Nat := (if f.sgn then 1 else 0) + f.ew + f.mw

/-- The all-ones exponent T. -/
def Fmt.top (f : Fmt) : Nat := 2 ^ f.ew - 1

/-- The magnitude bits of a code. -/
def Fmt.mag (f : Fmt) (c : Nat) : Nat := c % 2 ^ (f.ew + f.mw)

/-- The sign bit of a code. -/
def Fmt.neg (f : Fmt) (c : Nat) : Bool := f.sgn && bit c (f.ew + f.mw)

/-- A magnitude code that is a NaN (R51, R57). -/
def Fmt.magNaN (f : Fmt) (m : Nat) : Bool :=
  if f.spec = 1 then m == 2 ^ (f.ew + f.mw) - 1
  else if f.spec = 2 then decide (f.top * 2 ^ f.mw < m)
  else false

/-- A magnitude code that is an infinity (R51, R57). -/
def Fmt.magInf (f : Fmt) (m : Nat) : Bool := f.spec == 2 && m == f.top * 2 ^ f.mw

/-- The magnitude code of the largest finite value (R57). -/
def Fmt.maxMag (f : Fmt) : Nat :=
  if f.spec = 2 then f.top * 2 ^ f.mw - 1
  else if f.spec = 1 then 2 ^ (f.ew + f.mw) - 2
  else 2 ^ (f.ew + f.mw) - 1

/-- The canonical NaN; none in a format without NaNs (R52, R57). -/
def Fmt.canonical (f : Fmt) : Option Nat :=
  if f.spec = 1 then some (2 ^ (f.ew + f.mw) - 1)
  else if f.spec = 2 then some (f.top * 2 ^ f.mw + 2 ^ (f.mw - 1))
  else none

/-- A code of a format as a sign bit and a magnitude code. -/
def Fmt.code (f : Fmt) (neg : Bool) (m : Nat) : Nat := m + (if f.sgn && neg then 2 ^ (f.ew + f.mw) else 0)

/-- A value: a NaN, an infinity, or a sign with magnitude m × 2^e, to which a sticky value adds something below 2^e. -/
inductive Val where
  | nan (signalling : Bool)
  | inf (neg : Bool)
  | num (neg : Bool) (m : Nat) (e : Int) (sticky : Bool)
deriving DecidableEq, Repr

/-- The exponent of the smallest subnormal, 1 − bias − w. -/
def Fmt.minExp (f : Fmt) : Int := 1 - f.bias - f.mw

/-- The value of a code (R51, R57). Bits above W are ignored (R58). -/
def Fmt.decode (f : Fmt) (c : Nat) : Val :=
  let m := f.mag c
  let e := m / 2 ^ f.mw
  if f.magNaN m then .nan (decide (2 ≤ f.mw) && !bit m (f.mw - 1))
  else if f.magInf m then .inf (f.neg c)
  else if e = 0 then .num (f.neg c) m f.minExp false
  else .num (f.neg c) (2 ^ f.mw + m % 2 ^ f.mw) (f.minExp + (e : Int) - 1) false

/-- A signalling NaN (R52). -/
def Val.signals : Val → Bool
  | .nan s => s
  | _ => false

/-- A NaN. -/
def Val.isNaN : Val → Bool
  | .nan _ => true
  | _ => false

/-- An infinity. -/
def Val.isInf : Val → Bool
  | .inf _ => true
  | _ => false

/-- A zero of either sign. -/
def Val.isZero : Val → Bool
  | .num _ m _ s => m == 0 && !s
  | _ => false

/-- The sign of a value; a NaN counts as positive. -/
def Val.neg : Val → Bool
  | .nan _ => false
  | .inf n => n
  | .num n _ _ _ => n

/-- A value with its sign flipped where `b` holds. -/
def Val.flip (b : Bool) : Val → Val
  | .nan s => .nan s
  | .inf n => .inf (n != b)
  | .num n m e s => .num (n != b) m e s

/-- m × 2^e shifted to the exponent q: the integer part of m × 2^(e − q), and whether something is left below it. -/
def alignTo (m : Nat) (e q : Int) (sticky : Bool) : Nat × Bool :=
  if q ≤ e then (m * 2 ^ (e - q).toNat, sticky)
  else
    let k := (q - e).toNat
    if m.log2 + 2 < k then (0, sticky || m != 0)
    else (m / 2 ^ k, sticky || m % 2 ^ k != 0)

/-! ## Rounding -/

/-- The magnitude chosen between k and k + 1 quanta: `frac` is the remainder in units of 2^-64 quanta, rounded down, `more` that
something is left below that; `r` is the draw of R64. A tie under RNE goes to the even number of quanta, the one whose last mantissa bit is 0;
with no mantissa field (MW = 0) that is the greater magnitude of two normal ones. [DEDUCED, log 18] -/
def roundUp (mode r k frac : Nat) (more neg : Bool) : Bool :=
  if frac = 0 ∧ more = false then false
  else
    match mode with
    | 0 => decide (2 ^ 63 < frac) || (frac == 2 ^ 63 && (more || k % 2 == 1))
    | 1 => false
    | 2 => neg
    | 3 => !neg
    | 4 => decide (2 ^ 63 ≤ frac)
    | _ => decide (r < frac / 2 ^ 32)

/-- The whole quanta in a magnitude and the fraction that is left, in units of 2^-64 quanta, with what is below that. -/
def splitAt (m : Nat) (e q : Int) (sticky : Bool) : Nat × Nat × Bool :=
  let (w, more) := alignTo m e (q - 64) sticky
  (w / 2 ^ 64, w % 2 ^ 64, more)

/-- A finite non-zero magnitude rounded to a format (R61–R63). -/
def Fmt.deliverNum (f : Fmt) (mode r : Nat) (neg : Bool) (m : Nat) (e : Int) (sticky : Bool) : Nat × Nat :=
  let lead : Int := (m.log2 : Int) + e
  let qFree : Int := lead - f.mw
  let q : Int := max qFree f.minExp
  let (k, frac, more) := splitAt m e q sticky
  let base := (q - f.minExp).toNat * 2 ^ f.mw
  let up := roundUp mode r k frac more neg
  let code := base + k + (if up then 1 else 0)
  let inexact := decide (frac ≠ 0) || more
  let (k2, frac2, more2) := splitAt m e qFree sticky
  let k2' := k2 + (if roundUp mode r k2 frac2 more2 neg then 1 else 0)
  let tiny := decide (f.ew = 0) || decide (qFree + (k2'.log2 : Int) < 1 - f.bias)
  let uf := if inexact && tiny then flagUF else 0
  if f.maxMag < code then
    let toMax : Bool :=
      if f.spec ≠ 2 then true
      else match mode with
        | 1 => true
        | 2 => !neg
        | 3 => neg
        | _ => false
    (f.code neg (if toMax then f.maxMag else f.top * 2 ^ f.mw), flagOF ||| flagNX ||| (if tiny then flagUF else 0))
  else (f.code neg code, if inexact then flagNX ||| uf else 0)

/-- A value delivered to a format under a rounding mode and a draw: the code and the flags (R61–R63). [DEDUCED, log 17] [DEDUCED, log 110] -/
def Fmt.deliver (f : Fmt) (mode r : Nat) : Val → Nat × Nat
  | .nan _ =>
    match f.canonical with
    | some c => (c, 0)
    | none => (0, flagNV)
  | .inf neg =>
    if f.sgn = false ∧ neg = true then (0, flagNX)
    else if f.spec = 2 then (f.code neg (f.top * 2 ^ f.mw), 0)
    else (f.code neg f.maxMag, flagOF ||| flagNX)
  | .num neg m e sticky =>
    if m = 0 ∧ sticky = false then (f.code neg 0, 0)
    else if f.sgn = false ∧ neg = true then (0, flagNX)
    else f.deliverNum mode r neg m e sticky

/-- The rounding function of a format applied to a code of another, with NV for a signalling NaN (R52, R62). -/
def convert (src dst : Fmt) (mode r c : Nat) : Nat × Nat :=
  let v := src.decode c
  let d := dst.deliver mode r v
  (d.1, d.2 ||| (if v.signals then flagNV else 0))

/-- A value rounded to an integer of `w` bits (R65). -/
def toInteger (signed : Bool) (w mode r : Nat) : Val → Nat × Nat
  | .nan _ => (0, flagNV)
  | .inf neg => (if neg then (if signed then 2 ^ (w - 1) else 0) else (if signed then 2 ^ (w - 1) - 1 else 2 ^ w - 1), flagNV)
  | .num neg m e sticky =>
    let lo : Int := if signed then -(2 : Int) ^ (w - 1) else 0
    let hi : Int := if signed then (2 : Int) ^ (w - 1) - 1 else (2 : Int) ^ w - 1
    -- a magnitude of 2^80 or more lies outside every range
    if 80 ≤ (m.log2 : Int) + e ∧ m ≠ 0 then (ofSigned w (if neg then lo else hi), flagNV)
    else
      let (k, frac, more) := splitAt m e 0 sticky
      let k' := k + (if roundUp mode r k frac more neg then 1 else 0)
      let v : Int := if neg then -(k' : Int) else k'
      if v < lo then (ofSigned w lo, flagNV)
      else if hi < v then (ofSigned w hi, flagNV)
      else (ofSigned w v, if frac ≠ 0 ∨ more = true then flagNX else 0)

/-- A code of a format rounded to an integer (R65). A signalling NaN raises NV, as every NaN does here. -/
def toIntegerCode (f : Fmt) (signed : Bool) (w mode r c : Nat) : Nat × Nat := toInteger signed w mode r (f.decode c)

/-- The exact value of an integer. -/
def intVal (i : Int) : Val := .num (decide (i < 0)) i.natAbs 0 false

/-- The mixing step of R64's generator. -/
def srMix (x : BitVec 64) : BitVec 64 :=
  let x := (x ^^^ (x >>> 30)) * 0xBF58476D1CE4E5B9#64
  let x := (x ^^^ (x >>> 27)) * 0x94D049BB133111EB#64
  x ^^^ (x >>> 31)

/-- SRBits of R64. -/
def srBits (seed tid n e : Nat) : Nat :=
  let x : BitVec 64 := BitVec.ofNat 64 seed ^^^ (BitVec.ofNat 64 n * 0x9E3779B97F4A7C15#64)
  let x := x ^^^ BitVec.ofNat 64 (tid % 2 ^ 32 * 2 ^ 32 + e % 2 ^ 32)
  (srMix (srMix x)).toNat / 2 ^ 32

/-! ## Arithmetic on values -/

/-- A finite signed magnitude as an integer in units of 2^q, exact when q is at most its exponent. -/
def signedAt (neg : Bool) (m : Nat) (e q : Int) : Int :=
  let k : Int := ((m * 2 ^ (e - q).toNat : Nat) : Int)
  if neg then -k else k

/-- The exact sum of two finite values; an exact zero of operands of opposite sign is +0, or −0 under RDN (R164). A tiny addend far below
the other becomes a sticky part, so that the alignment stays short. -/
def addNum (mode : Nat) (n1 : Bool) (m1 : Nat) (e1 : Int) (n2 : Bool) (m2 : Nat) (e2 : Int) : Val :=
  if m1 = 0 ∧ m2 = 0 then .num (if n1 = n2 then n1 else mode == 2) 0 0 false
  else if m1 = 0 then .num n2 m2 e2 false
  else if m2 = 0 then .num n1 m1 e1 false
  else
    let q := min e1 e2
    let s := signedAt n1 m1 e1 q + signedAt n2 m2 e2 q
    if s = 0 then .num (mode == 2) 0 0 false else .num (decide (s < 0)) s.natAbs q false

/-- a + b, exactly (R164). -/
def addVal (mode : Nat) (a b : Val) : Val × Nat :=
  match a, b with
  | .nan s, y => (.nan false, nvIf (s || y.signals))
  | x, .nan s => (.nan false, nvIf (s || x.signals))
  | .inf x, .inf y => if x = y then (.inf x, 0) else (.nan false, flagNV)
  | .inf x, _ => (.inf x, 0)
  | _, .inf y => (.inf y, 0)
  | .num n1 m1 e1 _, .num n2 m2 e2 _ => (addNum mode n1 m1 e1 n2 m2 e2, 0)

/-- a × b, exactly (R164). -/
def mulVal (a b : Val) : Val × Nat :=
  match a, b with
  | .nan s, y => (.nan false, nvIf (s || y.signals))
  | x, .nan s => (.nan false, nvIf (s || x.signals))
  | .inf x, .inf y => (.inf (x != y), 0)
  | .inf x, .num y m _ _ => if m = 0 then (.nan false, flagNV) else (.inf (x != y), 0)
  | .num x m _ _, .inf y => if m = 0 then (.nan false, flagNV) else (.inf (x != y), 0)
  | .num n1 m1 e1 _, .num n2 m2 e2 _ => (.num (n1 != n2) (m1 * m2) (e1 + e2) false, 0)

/-- a × b + d, exactly; 0 × ∞ raises NV even beside a quiet NaN (R166). -/
def fmaVal (mode : Nat) (a b d : Val) : Val × Nat :=
  let invalid : Bool := (a.isInf && b.isZero) || (a.isZero && b.isInf)
  let sig : Bool := a.signals || b.signals || d.signals
  if a.isNaN || b.isNaN || d.isNaN then (.nan false, nvIf (sig || invalid))
  else
    let p := mulVal a b
    if p.1.isNaN then p else addVal mode p.1 d

/-- a / b, to 2^-130 of its own size and a sticky part (R164). -/
def divVal (a b : Val) : Val × Nat :=
  match a, b with
  | .nan s, y => (.nan false, nvIf (s || y.signals))
  | x, .nan s => (.nan false, nvIf (s || x.signals))
  | .inf _, .inf _ => (.nan false, flagNV)
  | .inf x, .num y _ _ _ => (.inf (x != y), 0)
  | .num x _ _ _, .inf y => (.num (x != y) 0 0 false, 0)
  | .num n1 m1 e1 _, .num n2 m2 e2 _ =>
    if m2 = 0 then
      if m1 = 0 then (.nan false, flagNV) else (.inf (n1 != n2), flagDZ)
    else
      let k := m2.log2 + 130
      let n := m1 * 2 ^ k
      (.num (n1 != n2) (n / m2) (e1 - e2 - (k : Int)) (n % m2 != 0), 0)

/-- √a, to 2^-130 of its own size and a sticky part (R164). -/
def sqrtVal (a : Val) : Val × Nat :=
  match a with
  | .nan s => (.nan false, nvIf s)
  | .inf n => if n then (.nan false, flagNV) else (.inf false, 0)
  | .num n m e _ =>
    if m = 0 then (.num n 0 0 false, 0)
    else if n then (.nan false, flagNV)
    else
      let odd := decide (e % 2 = 1)
      let x := (if odd then 2 * m else m) * 2 ^ 260
      let h : Int := ((if odd then e - 1 else e) - 260) / 2
      let r := isqrt x
      (.num false r h (r * r != x), 0)

/-- a < b for numbers and infinities (−0 = +0). -/
def ltVal (a b : Val) : Bool :=
  match a, b with
  | .nan _, _ => false
  | _, .nan _ => false
  | .inf x, .inf y => x && !y
  | .inf x, _ => x
  | _, .inf y => !y
  | .num n1 m1 e1 _, .num n2 m2 e2 _ =>
    let q := min e1 e2
    decide (signedAt n1 m1 e1 q < signedAt n2 m2 e2 q)

/-- a = b for numbers and infinities (−0 = +0). -/
def eqVal (a b : Val) : Bool := !a.isNaN && !b.isNaN && !ltVal a b && !ltVal b a

/-- a is ordered below b with −0 below +0 (R165). -/
def belowVal (a b : Val) : Bool := ltVal a b || (a.isZero && b.isZero && a.neg && !b.neg)

/-- FMIN and FMAX on codes (R165). -/
def minMax (f : Fmt) (wantMax : Bool) (a b : Nat) : Nat × Nat :=
  let x := f.decode a
  let y := f.decode b
  let nv := nvIf (x.signals || y.signals)
  let a' := a % 2 ^ f.width
  let b' := b % 2 ^ f.width
  if x.isNaN && y.isNaN then (f.canonical.getD 0, nv)
  else if x.isNaN then (b', nv)
  else if y.isNaN then (a', nv)
  else if (if wantMax then belowVal x y else belowVal y x) then (b', nv)
  else (a', nv)

/-- The class code of R165. -/
def classCode (f : Fmt) (c : Nat) : Nat :=
  let s := if f.neg c then 8 else 0
  match f.decode c with
  | .nan sig => s + (if sig then 5 else 4)
  | .inf _ => s + 3
  | .num _ m _ _ => s + (if m = 0 then 0 else if f.mag c < 2 ^ f.mw then 1 else 2)

/-- A value rounded to a format, with the flags of the operation before it. -/
def finish (f : Fmt) (mode r : Nat) (v : Val × Nat) : Nat × Nat :=
  let d := f.deliver mode r v.1
  (d.1, d.2 ||| v.2)

/-- Round(a + b), Round(a − b), Round(a × b), Round(a / b) and Round(√a) on codes (R164). -/
def fAdd (f : Fmt) (mode r a b : Nat) : Nat × Nat := finish f mode r (addVal mode (f.decode a) (f.decode b))
/-- Round(a − b). -/
def fSub (f : Fmt) (mode r a b : Nat) : Nat × Nat := finish f mode r (addVal mode (f.decode a) ((f.decode b).flip true))
/-- Round(a × b). -/
def fMul (f : Fmt) (mode r a b : Nat) : Nat × Nat := finish f mode r (mulVal (f.decode a) (f.decode b))
/-- Round(a / b). -/
def fDiv (f : Fmt) (mode r a b : Nat) : Nat × Nat := finish f mode r (divVal (f.decode a) (f.decode b))
/-- Round(√a). -/
def fSqrt (f : Fmt) (mode r a : Nat) : Nat × Nat := finish f mode r (sqrtVal (f.decode a))
/-- Round(±(a × b) ± d), the operands in `f` and the addend and result in `w` (R166, R193). -/
def fFma (f w : Fmt) (mode r : Nat) (negP negD : Bool) (a b d : Nat) : Nat × Nat :=
  finish w mode r (fmaVal mode ((f.decode a).flip negP) (f.decode b) ((w.decode d).flip negD))

/-! ## Estimates (R192) -/

/-- RoundNE(n / d). -/
def roundDivNE (n d : Nat) : Nat :=
  let q := n / d
  let r := 2 * (n % d)
  if d < r ∨ (r = d ∧ q % 2 = 1) then q + 1 else q

/-- RoundNE(√(n / d)). -/
def roundSqrtNE (n d : Nat) : Nat :=
  let k := isqrt (n / d)
  if (2 * k + 1) * (2 * k + 1) * d < 4 * n then k + 1 else k

/-- r of VFRECE. -/
def receEntry (m : Nat) : Nat := roundDivNE 65536 (257 + 2 * m) - 128

/-- r of VFRSQE, with E mod 2. -/
def rsqeEntry (odd m : Nat) : Nat := min 127 (roundSqrtNE (65536 * 256) (2 ^ odd * (257 + 2 * m)) - 128)

/-- r of VFEXP2E: the number of thresholds 128 + k + ½ that 128 × 2^((j + ½)/128) passes, compared through their 256th powers. -/
def exp2eEntry (j : Nat) : Nat :=
  min 127 (((range 0 128).filter (fun k => decide ((2 * (128 + k) + 1) ^ 256 < 2 ^ (2049 + 2 * j)))).length)

/-- (1 + r/128) × 2^p delivered under RNE; no estimate raises NX or UF (R192). -/
def deliverEst (f : Fmt) (neg : Bool) (r : Nat) (p : Int) : Nat × Nat :=
  let d := f.deliver 0 0 (.num neg (128 + r) (p - 7) false)
  (d.1, d.2 &&& flagOF)

/-- E and m of a finite non-zero operand (R192). -/
def estParts (m : Nat) (e : Int) : Int × Nat :=
  ((m.log2 : Int) + e, (if 7 ≤ m.log2 then m / 2 ^ (m.log2 - 7) else m * 2 ^ (7 - m.log2)) - 128)

/-- VFRECE (R192). -/
def fRece (f : Fmt) (c : Nat) : Nat × Nat :=
  match f.decode c with
  | .nan s => finish f 0 0 (.nan false, nvIf s)
  | .inf n => (f.code n 0, 0)
  | .num n m e _ =>
    if m = 0 then finish f 0 0 (.inf n, flagDZ)
    else
      let (ex, fr) := estParts m e
      deliverEst f n (receEntry fr) (-ex - 1)

/-- VFRSQE (R192). -/
def fRsqe (f : Fmt) (c : Nat) : Nat × Nat :=
  match f.decode c with
  | .nan s => finish f 0 0 (.nan false, nvIf s)
  | .inf n => if n then finish f 0 0 (.nan false, flagNV) else (f.code false 0, 0)
  | .num n m e _ =>
    if m = 0 then finish f 0 0 (.inf n, flagDZ)
    else if n then finish f 0 0 (.nan false, flagNV)
    else
      let (ex, fr) := estParts m e
      deliverEst f false (rsqeEntry (ex % 2).toNat fr) (-(ex / 2) - 1)

/-- VFEXP2E (R192). -/
def fExp2e (f : Fmt) (c : Nat) : Nat × Nat :=
  match f.decode c with
  | .nan s => finish f 0 0 (.nan false, nvIf s)
  | .inf n => if n then (f.code false 0, 0) else finish f 0 0 (.inf false, 0)
  | .num n m e _ =>
    -- ⌊128 x⌋
    let (k, more) := alignTo m e (-7) false
    let y : Int := if n then (if more then -(k : Int) - 1 else -(k : Int)) else k
    deliverEst f false (exp2eEntry (y % 128).toNat) (y / 128)

end Sys2Proof.Machine
end

