-- ==== Sys2Proof/Config.lean ====
section
/-! DEFINITION. The values the manual leaves open and the constants one implementation fixes. None has a body that a proof
could see, so a theorem about the machine holds whatever they are. A free value that may differ from one occasion to the
next is a function of the counter State.free, which every use advances. -/

namespace Sys2Proof

/-- The value of a scratch byte that nothing has written since reset, at one read of it (R392). [DEDUCED, log 3] -/
opaque Config.freeByte (n key : Nat) : Byte

/-- A choice the manual leaves to the hardware: which of several pending steps comes first, in which association an
unordered sum is taken (R68, R77, R108, R213), in which order chunks are written (R91). [DESIGN CHOICE, log 9] -/
opaque Config.choice (n : Nat) : Nat

/-- How many clocks one step of the device takes (R10: results never depend on it). -/
opaque Config.clocks (n : Nat) : Nat

/-- How many microjoules a tandem is charged for between two reads of ENERGY (R387: an estimate). -/
opaque Config.microjoules (n : Nat) : Nat

/-- How many microjoules tandem `u` is charged for at the end of a stay from clock `since` to clock `now` (R387: an estimate). [DESIGN CHOICE, log 8] -/
opaque Config.stayMicrojoules (u since now : Nat) : Nat

/-- What the host has stored to a byte of its own memory since the device last looked there, if anything (R123, R374). -/
opaque Config.hostStore (n pa : Nat) : Option Byte

/-- What the Thoud keeps in the matrix save area of a parked tandem, by offset: its contents are private to the Thoud (R231). -/
opaque Config.areaBytes (n : Nat) : List (Nat × Byte)

/-- The value the return path of an undefined byte of a failed copy chunk takes: old when false, new when true (R245). [DESIGN CHOICE, log 55] -/
opaque Config.newByte (n : Nat) : Bool

/-- SHA-512 of a string of bytes, as a number below 2^512 (R384 names the function and does not define it). [DESIGN CHOICE, log 15] -/
opaque Config.sha512 (data : List Byte) : Nat

/-- Whether an ECDSA signature over a SHA-512 digest verifies under a P-521 public key (R384, R386). -/
opaque Config.ecdsaVerify (key digest signature : Nat) : Bool

/-- The ECDSA signature of a digest under the device identity key (R384). -/
opaque Config.ecdsaSign (digest : Nat) : Nat

/-- The bytes that stand for a debug unlock or relock in DSM (R384): kind 0 or 1 for the unlock or relock of firmware debug, 2 or 3 for that
of the kernel debug of context `x`. -/
opaque Config.debugEvent (kind x : Nat) : List Byte

/-- What extending a measurement register that holds `old` with a digest gives (R384). -/
opaque Config.extendMeasurement (old digest : Nat) : Nat

/-- The digest that an attestation report is signed over (R384). -/
opaque Config.reportDigest (nonce : Nat) (measurements : List Nat) (dsm lifecycle : Nat) (keys : List Nat) : Nat

/-- The key that unwrapping a wrapped tenant key gives (R385). -/
opaque Config.unwrapKey (wrapped : Nat) : Nat

/-- The challenge the device draws (R386). -/
opaque Config.freshChallenge (n : Nat) : Nat

/-- The fused device identity public key, as bytes (R384). -/
opaque Config.identityKey : List Byte

/-- The fused vendor key that firmware images verify under (R384). -/
opaque Config.vendorKey : Nat

/-- The fused debug authority key (R386). -/
opaque Config.authorityKey : Nat

/-- The lifecycle state the fuses hold: 1 MANUFACTURE, 2 DEPLOYED, 3 RETURNED (R386). -/
opaque Config.lifecycle : Nat

/-- Whether the fuses disable firmware debug for good (R386). -/
opaque Config.debugFusedOff : Bool

/-- DEVID, the SHA-512 digest of the identity public key (R384). -/
def Config.devId : Nat := Config.sha512 Config.identityKey

end Sys2Proof
end

