-- ==== Sys2Proof/Syntax.lean ====
section
/-! DEFINITION. The syntax of the Thoud: one constructor of Instr for each row of the opcode table. A row with an
encoding takes the fields of its word, each a bit vector of the field's width, in ascending bit order (R142). A row
without an encoding is a step of an engine, of the scheduler, of the firmware or of the outside world: its arguments
say which unit it happens to, and what it carries in. -/

namespace Sys2Proof

/-- What a tagged peer request or a host CXL.mem access asks of the target (R367, R373). -/
inductive PeerOp where
  | read (len : Nat)
  /-- A write of bytes, each with the bits of it that change (R58). -/
  | write (data : List (Byte × Byte))
  /-- An atomic of `n` bytes with operation code `op` (R173), operand `x` and comparison value `e`. -/
  | atomic (op n : Nat) (x e : Nat)
deriving DecidableEq, Repr

/-- How lane training of a Ranlys port ends (R368). -/
inductive TrainResult where
  | allLanes
  | halfLanes
  | failed
deriving DecidableEq, Repr

/-- A function whose READY bit the registers READY0 and READY1 show (R390). -/
inductive Function where
  | cluster (i : Nat)
  | station (i : Nat)
  | port (i : Nat)
  | cxl
  | firmwareCore (i : Nat)
deriving DecidableEq, Repr

/-- One row of the time-triggered table as the mailbox carries it (R282). -/
structure TtRow where
  start : Nat
  len : Nat
  queue : Nat
  skipNext : Bool
  enabled : Bool
deriving DecidableEq, Repr

/-- A firmware image presented at reset: its SHA-512 digest and its ECDSA signature (R384). -/
structure FwImage where
  digest : Nat
  signature : Nat
deriving DecidableEq, Repr

/-- The instructions and events of the device, one constructor per row of the opcode table. Register numbers in the
two sides' names are those of R34; a hart is numbered 2 × its tandem's number + its side, 0 for the E-side. A peer's
request is told by the peer that makes it and that peer's tag. -/
inductive Instr where
  | fenceRetire (h : Nat)  -- R172
  | queueStallEnd (h : Nat)  -- R17
  | matrixComplete (t : Nat) (i : Nat)  -- R231
  | copyChunkWritten (h : Nat) (c : Nat) (k : Nat)  -- R95
  | copyRetire (h : Nat) (c : Nat)  -- R91
  | copyErrorTrap (h : Nat)  -- R245
  | replayIteration (t : Nat)  -- R321
  | handBack (t : Nat)  -- R324
  | pagerResume (x : Nat) (va : Word)  -- R313
  | pagerUnservable (t : Nat) (queue : Bool)  -- R313
  | faultRecordPost (die : Nat)  -- R347
  | progressExpiry (h : Nat)  -- R351
  | preempt (t : Nat)  -- R348
  | stripBufferDrain (h : Nat) (k : Nat)  -- R108
  | stripTimeout (h : Nat)  -- R108
  | writeApply (die : Nat) (k : Nat)  -- R120
  | recheckSecondRun (h : Nat) (agree : Bool)  -- R355
  | recheckForce (h : Nat)  -- R355
  | knownAnswerOp (core : Nat) (lane : Nat) (pass : Bool)  -- R357
  | knownAnswerSweep (core : Nat) (pass : Bool)  -- R357
  | qtailWrite (q : Nat) (v : Word)  -- R278
  | enable (q : Nat)  -- R279
  | disable (q : Nat)  -- R279
  | clrfault (q : Nat)  -- R279
  | missClear (row : Nat)  -- R282
  | registerWrite (a : Nat) (v : Word)  -- R4
  | schedulerScan  -- R281
  | queueSwitchIn  -- R280
  | queueAging (q : Nat)  -- R280
  | packetTake  -- R281
  | tandemDispatch (t : Nat) (core : Nat) (slot : Nat)  -- R31
  | kernelComplete (x : Nat) (csn : Nat)  -- R289
  | kernelFaultRecord (x : Nat) (csn : Nat)  -- R288
  | cancel (x : Nat) (csn : Nat)  -- R287
  | release (x : Nat) (csn : Nat)  -- R287
  | queueCreate (q : Nat) (block : Nat) (x : Nat)  -- R276
  | bind (x : Nat)  -- R267
  | destroy (x : Nat)  -- R271
  | contextReclaim  -- R270
  | shootdown (x : Nat) (va : Nat) (len : Nat)  -- R314
  | shootdownComplete (k : Nat)  -- R314
  | vectorEntryWrite (idx : Nat) (v : Word)  -- R310
  | vectorEntryRead (idx : Nat)  -- R310
  | ttModeEnable (period : Nat) (epoch : Nat) (rows : List (TtRow))  -- R282
  | ttSlotStart (row : Nat)  -- R283
  | ttSlotEnd (row : Nat)  -- R283
  | ppsInput  -- R282
  | timeOfDay (ns : Nat)  -- R282
  | energyWindow (part : Nat) (used : Nat)  -- R389
  | budgetTableWrite (i : Nat) (v : Nat)  -- R388
  | classTableWrite (i : Nat) (v : Nat)  -- R388
  | peerRouteWrite (n : Nat) (valid : Bool) (mask : BitVec 12)  -- R366
  | peerRequest (port : Nat) (tag : Nat × Nat) (op : PeerOp) (pa : Nat)  -- R367
  | quiesce (p : Nat)  -- R368
  | portResume (p : Nat)  -- R368
  | portReset (p : Nat)  -- R368
  | partnerDetected (p : Nat)  -- R368
  | partnerLost (p : Nat)  -- R368
  | trainingDone (p : Nat) (r : TrainResult)  -- R368
  | laneFailure (p : Nat)  -- R368
  | flitReceive (p : Nat) (sq : Nat) (intact : Bool)  -- R369
  | flitAckTimeout (p : Nat)  -- R369
  | hostMemAccess (op : PeerOp) (pa : Nat)  -- R373
  | resume (cluster : Nat)  -- R378
  | hold (q : Nat)  -- R379
  | debugRelease (q : Nat)  -- R379
  | historyEnable (x : Nat) (base : Word)  -- R380
  | pcSample  -- R376
  | dropRecord (x : Nat)  -- R376
  | trialEnd (h : Nat)  -- R382
  | deviceReset (images : List (FwImage))  -- R384
  | challenge  -- R386
  | firmwareDebugUnlock (token : List (Byte))  -- R386
  | kernelDebugUnlock (x : Nat) (slot : Nat)  -- R383
  | attestationReport (nonce : Nat)  -- R384
  | keyLoad (slot : Nat) (wrapped : Nat)  -- R385
  | checkpoint  -- R363
  | checkpointDone (ok : Bool)  -- R363
  | recoveryReturn  -- R364
  | functionReady (f : Function)  -- R390
  | illegalInstruction (w : BitVec 32)  -- R148
  | memoryReply (tag : Nat) (data : List (Byte))  -- R175
  | debugRelock (firmware : Bool) (x : Nat)  -- R384
  | traceEnable (x : Nat) (base : Nat) (len : Nat) (trace : Bool) (sample : Bool) (period : Nat)  -- R376
  | contextCreate (x : Nat) (block : Nat)  -- R284
  | add (d : BitVec 7) (a : BitVec 7) (b : BitVec 7)  -- R159
  | sub (d : BitVec 7) (a : BitVec 7) (b : BitVec 7)  -- R159
  | and (d : BitVec 7) (a : BitVec 7) (b : BitVec 7)  -- R159
  | or (d : BitVec 7) (a : BitVec 7) (b : BitVec 7)  -- R159
  | xor (d : BitVec 7) (a : BitVec 7) (b : BitVec 7)  -- R159
  | andn (d : BitVec 7) (a : BitVec 7) (b : BitVec 7)  -- R159
  | sll (d : BitVec 7) (a : BitVec 7) (b : BitVec 7)  -- R159
  | srl (d : BitVec 7) (a : BitVec 7) (b : BitVec 7)  -- R159
  | sra (d : BitVec 7) (a : BitVec 7) (b : BitVec 7)  -- R159
  | slt (d : BitVec 7) (a : BitVec 7) (b : BitVec 7)  -- R159
  | sltn (d : BitVec 7) (a : BitVec 7) (b : BitVec 7)  -- R159
  | min (d : BitVec 7) (a : BitVec 7) (b : BitVec 7)  -- R159
  | max (d : BitVec 7) (a : BitVec 7) (b : BitVec 7)  -- R159
  | minn (d : BitVec 7) (a : BitVec 7) (b : BitVec 7)  -- R159
  | maxn (d : BitVec 7) (a : BitVec 7) (b : BitVec 7)  -- R159
  | mul (d : BitVec 7) (a : BitVec 7) (b : BitVec 7)  -- R159
  | mulh (d : BitVec 7) (a : BitVec 7) (b : BitVec 7)  -- R159
  | mulhn (d : BitVec 7) (a : BitVec 7) (b : BitVec 7)  -- R159
  | div (d : BitVec 7) (a : BitVec 7) (b : BitVec 7)  -- R160
  | divn (d : BitVec 7) (a : BitVec 7) (b : BitVec 7)  -- R160
  | rem (d : BitVec 7) (a : BitVec 7) (b : BitVec 7)  -- R160
  | remn (d : BitVec 7) (a : BitVec 7) (b : BitVec 7)  -- R160
  | clz (d : BitVec 7) (a : BitVec 7)  -- R159
  | ctz (d : BitVec 7) (a : BitVec 7)  -- R159
  | popc (d : BitVec 7) (a : BitVec 7)  -- R159
  | addw (d : BitVec 7) (a : BitVec 7) (b : BitVec 7)  -- R159
  | subw (d : BitVec 7) (a : BitVec 7) (b : BitVec 7)  -- R159
  | sllw (d : BitVec 7) (a : BitVec 7) (b : BitVec 7)  -- R159
  | srlw (d : BitVec 7) (a : BitVec 7) (b : BitVec 7)  -- R159
  | sraw (d : BitVec 7) (a : BitVec 7) (b : BitVec 7)  -- R159
  | addi (d : BitVec 7) (a : BitVec 7) (i : BitVec 10)  -- R161
  | andi (d : BitVec 7) (a : BitVec 7) (i : BitVec 10)  -- R161
  | ori (d : BitVec 7) (a : BitVec 7) (i : BitVec 10)  -- R161
  | xori (d : BitVec 7) (a : BitVec 7) (i : BitVec 10)  -- R161
  | slli (d : BitVec 7) (a : BitVec 7) (i : BitVec 6)  -- R161
  | srli (d : BitVec 7) (a : BitVec 7) (i : BitVec 6)  -- R161
  | srai (d : BitVec 7) (a : BitVec 7) (i : BitVec 6)  -- R161
  | slti (d : BitVec 7) (a : BitVec 7) (i : BitVec 10)  -- R161
  | lui (d : BitVec 7) (i : BitVec 19)  -- R162
  | addpc (d : BitVec 7) (i : BitVec 19)  -- R162
  | faddS (d : BitVec 7) (a : BitVec 7) (b : BitVec 7)  -- R164
  | fsubS (d : BitVec 7) (a : BitVec 7) (b : BitVec 7)  -- R164
  | fmulS (d : BitVec 7) (a : BitVec 7) (b : BitVec 7)  -- R164
  | fdivS (d : BitVec 7) (a : BitVec 7) (b : BitVec 7)  -- R164
  | fsqrtS (d : BitVec 7) (a : BitVec 7)  -- R164
  | fminS (d : BitVec 7) (a : BitVec 7) (b : BitVec 7)  -- R165
  | fmaxS (d : BitVec 7) (a : BitVec 7) (b : BitVec 7)  -- R165
  | feqS (d : BitVec 7) (a : BitVec 7) (b : BitVec 7)  -- R165
  | fltS (d : BitVec 7) (a : BitVec 7) (b : BitVec 7)  -- R165
  | fleS (d : BitVec 7) (a : BitVec 7) (b : BitVec 7)  -- R165
  | fclassS (d : BitVec 7) (a : BitVec 7)  -- R165
  | fcvtSI (d : BitVec 7) (a : BitVec 7)  -- R164
  | fcvtIS (d : BitVec 7) (a : BitVec 7)  -- R164
  | faddD (d : BitVec 7) (a : BitVec 7) (b : BitVec 7)  -- R164
  | fsubD (d : BitVec 7) (a : BitVec 7) (b : BitVec 7)  -- R164
  | fmulD (d : BitVec 7) (a : BitVec 7) (b : BitVec 7)  -- R164
  | fdivD (d : BitVec 7) (a : BitVec 7) (b : BitVec 7)  -- R164
  | fsqrtD (d : BitVec 7) (a : BitVec 7)  -- R164
  | fminD (d : BitVec 7) (a : BitVec 7) (b : BitVec 7)  -- R165
  | fmaxD (d : BitVec 7) (a : BitVec 7) (b : BitVec 7)  -- R165
  | feqD (d : BitVec 7) (a : BitVec 7) (b : BitVec 7)  -- R165
  | fltD (d : BitVec 7) (a : BitVec 7) (b : BitVec 7)  -- R165
  | fleD (d : BitVec 7) (a : BitVec 7) (b : BitVec 7)  -- R165
  | fcvtDS (d : BitVec 7) (a : BitVec 7)  -- R164
  | fcvtSD (d : BitVec 7) (a : BitVec 7)  -- R164
  | fcvtDI (d : BitVec 7) (a : BitVec 7)  -- R164
  | fcvtID (d : BitVec 7) (a : BitVec 7)  -- R164
  | fsgcS (d : BitVec 7) (a : BitVec 7) (b : BitVec 7)  -- R164
  | fsgiS (d : BitVec 7) (a : BitVec 7) (b : BitVec 7)  -- R164
  | fsgxS (d : BitVec 7) (a : BitVec 7) (b : BitVec 7)  -- R164
  | fcvtHS (d : BitVec 7) (a : BitVec 7)  -- R164
  | fcvtSH (d : BitVec 7) (a : BitVec 7)  -- R164
  | fmaS (d : BitVec 7) (a : BitVec 7) (b : BitVec 7)  -- R166
  | fmsS (d : BitVec 7) (a : BitVec 7) (b : BitVec 7)  -- R166
  | fnmaS (d : BitVec 7) (a : BitVec 7) (b : BitVec 7)  -- R166
  | fmaD (d : BitVec 7) (a : BitVec 7) (b : BitVec 7)  -- R166
  | fmsD (d : BitVec 7) (a : BitVec 7) (b : BitVec 7)  -- R166
  | fnmaD (d : BitVec 7) (a : BitVec 7) (b : BitVec 7)  -- R166
  | beqz (a : BitVec 7) (o : BitVec 16)  -- R167
  | bnez (a : BitVec 7) (o : BitVec 16)  -- R167
  | bltz (a : BitVec 7) (o : BitVec 16)  -- R167
  | bgez (a : BitVec 7) (o : BitVec 16)  -- R167
  | bgtz (a : BitVec 7) (o : BitVec 16)  -- R167
  | blez (a : BitVec 7) (o : BitVec 16)  -- R167
  | beq (a : BitVec 7) (b : BitVec 7) (o : BitVec 9)  -- R167
  | bne (a : BitVec 7) (b : BitVec 7) (o : BitVec 9)  -- R167
  | blt (a : BitVec 7) (b : BitVec 7) (o : BitVec 9)  -- R167
  | bge (a : BitVec 7) (b : BitVec 7) (o : BitVec 9)  -- R167
  | bltn (a : BitVec 7) (b : BitVec 7) (o : BitVec 9)  -- R167
  | bgen (a : BitVec 7) (b : BitVec 7) (o : BitVec 9)  -- R167
  | j (o : BitVec 26)  -- R168
  | jl (o : BitVec 26)  -- R168
  | jlr (d : BitVec 7) (a : BitVec 7) (i : BitVec 12)  -- R168
  | ldg (d : BitVec 7) (a : BitVec 7) (z : BitVec 2) (i : BitVec 10)  -- R169
  | ldgz (d : BitVec 7) (a : BitVec 7) (z : BitVec 2) (i : BitVec 10)  -- R169
  | stg (d : BitVec 7) (a : BitVec 7) (z : BitVec 2) (i : BitVec 10)  -- R169
  | lds (d : BitVec 7) (a : BitVec 7) (z : BitVec 2) (i : BitVec 10)  -- R169
  | sts (d : BitVec 7) (a : BitVec 7) (z : BitVec 2) (i : BitVec 10)  -- R169
  | ldaW (d : BitVec 7) (a : BitVec 7)  -- R171
  | ldaD (d : BitVec 7) (a : BitVec 7)  -- R171
  | stlW (a : BitVec 7) (b : BitVec 7)  -- R171
  | stlD (a : BitVec 7) (b : BitVec 7)  -- R171
  | ldasW (d : BitVec 7) (a : BitVec 7)  -- R171
  | ldasD (d : BitVec 7) (a : BitVec 7)  -- R171
  | stlsW (a : BitVec 7) (b : BitVec 7)  -- R171
  | stlsD (a : BitVec 7) (b : BitVec 7)  -- R171
  | fenceAcq (s : BitVec 7)  -- R172
  | fenceRel (s : BitVec 7)  -- R172
  | fenceAr (s : BitVec 7)  -- R172
  | fenceSc (s : BitVec 7)  -- R172
  | fenceIo (s : BitVec 7)  -- R172
  | fenceEng (s : BitVec 7)  -- R172
  | amgAdd (r : BitVec 2) (d : BitVec 7) (a : BitVec 7) (b : BitVec 7) (z : BitVec 1)  -- R173
  | amgAnd (r : BitVec 2) (d : BitVec 7) (a : BitVec 7) (b : BitVec 7) (z : BitVec 1)  -- R173
  | amgOr (r : BitVec 2) (d : BitVec 7) (a : BitVec 7) (b : BitVec 7) (z : BitVec 1)  -- R173
  | amgXor (r : BitVec 2) (d : BitVec 7) (a : BitVec 7) (b : BitVec 7) (z : BitVec 1)  -- R173
  | amgMin (r : BitVec 2) (d : BitVec 7) (a : BitVec 7) (b : BitVec 7) (z : BitVec 1)  -- R173
  | amgMax (r : BitVec 2) (d : BitVec 7) (a : BitVec 7) (b : BitVec 7) (z : BitVec 1)  -- R173
  | amgMinn (r : BitVec 2) (d : BitVec 7) (a : BitVec 7) (b : BitVec 7) (z : BitVec 1)  -- R173
  | amgMaxn (r : BitVec 2) (d : BitVec 7) (a : BitVec 7) (b : BitVec 7) (z : BitVec 1)  -- R173
  | amgSwp (r : BitVec 2) (d : BitVec 7) (a : BitVec 7) (b : BitVec 7) (z : BitVec 1)  -- R173
  | amgCas (r : BitVec 2) (d : BitVec 7) (a : BitVec 7) (b : BitVec 7) (z : BitVec 1)  -- R173
  | amgFadd (r : BitVec 2) (d : BitVec 7) (a : BitVec 7) (b : BitVec 7) (z : BitVec 1)  -- R174
  | amgInc (r : BitVec 2) (d : BitVec 7) (a : BitVec 7) (b : BitVec 7) (z : BitVec 1)  -- R173
  | amsAdd (r : BitVec 2) (d : BitVec 7) (a : BitVec 7) (b : BitVec 7) (z : BitVec 1)  -- R173
  | amsAnd (r : BitVec 2) (d : BitVec 7) (a : BitVec 7) (b : BitVec 7) (z : BitVec 1)  -- R173
  | amsOr (r : BitVec 2) (d : BitVec 7) (a : BitVec 7) (b : BitVec 7) (z : BitVec 1)  -- R173
  | amsXor (r : BitVec 2) (d : BitVec 7) (a : BitVec 7) (b : BitVec 7) (z : BitVec 1)  -- R173
  | amsMin (r : BitVec 2) (d : BitVec 7) (a : BitVec 7) (b : BitVec 7) (z : BitVec 1)  -- R173
  | amsMax (r : BitVec 2) (d : BitVec 7) (a : BitVec 7) (b : BitVec 7) (z : BitVec 1)  -- R173
  | amsMinn (r : BitVec 2) (d : BitVec 7) (a : BitVec 7) (b : BitVec 7) (z : BitVec 1)  -- R173
  | amsMaxn (r : BitVec 2) (d : BitVec 7) (a : BitVec 7) (b : BitVec 7) (z : BitVec 1)  -- R173
  | amsSwp (r : BitVec 2) (d : BitVec 7) (a : BitVec 7) (b : BitVec 7) (z : BitVec 1)  -- R173
  | amsCas (r : BitVec 2) (d : BitVec 7) (a : BitVec 7) (b : BitVec 7) (z : BitVec 1)  -- R173
  | amsFadd (r : BitVec 2) (d : BitVec 7) (a : BitVec 7) (b : BitVec 7) (z : BitVec 1)  -- R174
  | amsInc (r : BitVec 2) (d : BitVec 7) (a : BitVec 7) (b : BitVec 7) (z : BitVec 1)  -- R173
  | sysc (c : BitVec 7)  -- R176
  | tret  -- R177
  | brk (c : BitVec 7)  -- R176
  | wbase (c : BitVec 7) (k : BitVec 7)  -- R178
  | pause  -- R179
  | csrrd (d : BitVec 5) (c : BitVec 12)  -- R180
  | csrwr (d : BitVec 5) (a : BitVec 7) (c : BitVec 12)  -- R180
  | csrset (d : BitVec 5) (a : BitVec 7) (c : BitVec 12)  -- R180
  | csrclr (d : BitVec 5) (a : BitVec 7) (c : BitVec 12)  -- R180
  | spawn (d : BitVec 7) (a : BitVec 7) (b : BitVec 7)  -- R251
  | exit  -- R252
  | join (d : BitVec 7) (a : BitVec 7)  -- R253
  | leave (a : BitVec 7)  -- R253
  | gsize (d : BitVec 7) (a : BitVec 7)  -- R253
  | grank (d : BitVec 7) (a : BitVec 7)  -- R253
  | gbar (a : BitVec 7)  -- R254
  | tidg (d : BitVec 7)  -- R253
  | binit (a : BitVec 7) (b : BitVec 7)  -- R247
  | bexp (a : BitVec 7) (b : BitVec 7)  -- R247
  | barv (d : BitVec 7) (a : BitVec 7) (b : BitVec 7)  -- R247
  | bwait (a : BitVec 7) (b : BitVec 7)  -- R247
  | btest (d : BitVec 7) (a : BitVec 7) (b : BitVec 7)  -- R247
  | binitG (a : BitVec 7) (b : BitVec 7)  -- R247
  | bexpG (a : BitVec 7) (b : BitVec 7)  -- R247
  | barvG (d : BitVec 7) (a : BitVec 7) (b : BitVec 7)  -- R247
  | bwaitG (a : BitVec 7) (b : BitVec 7)  -- R247
  | btestG (d : BitVec 7) (a : BitVec 7) (b : BitVec 7)  -- R247
  | bqpush (a : BitVec 7)  -- R255
  | qstat (d : BitVec 7) (q : BitVec 7)  -- R256
  | qdrain (q : BitVec 7)  -- R256
  | bqt (o : BitVec 16)  -- R255
  | bqf (o : BitVec 16)  -- R255
  | vsetl (d : BitVec 7) (a : BitVec 7) (v : BitVec 12)  -- R181
  | vsetr (a : BitVec 7)  -- R182
  | vsetlx (d : BitVec 7) (a : BitVec 7) (b : BitVec 7)  -- R182
  | vstrip  -- R182
  | vadd (d : BitVec 7) (a : BitVec 7) (b : BitVec 7) (m : BitVec 1)  -- R188
  | vsub (d : BitVec 7) (a : BitVec 7) (b : BitVec 7) (m : BitVec 1)  -- R188
  | vmul (d : BitVec 7) (a : BitVec 7) (b : BitVec 7) (m : BitVec 1)  -- R188
  | vmulh (d : BitVec 7) (a : BitVec 7) (b : BitVec 7) (m : BitVec 1)  -- R188
  | vmulhn (d : BitVec 7) (a : BitVec 7) (b : BitVec 7) (m : BitVec 1)  -- R188
  | vand (d : BitVec 7) (a : BitVec 7) (b : BitVec 7) (m : BitVec 1)  -- R188
  | vor (d : BitVec 7) (a : BitVec 7) (b : BitVec 7) (m : BitVec 1)  -- R188
  | vxor (d : BitVec 7) (a : BitVec 7) (b : BitVec 7) (m : BitVec 1)  -- R188
  | vsll (d : BitVec 7) (a : BitVec 7) (b : BitVec 7) (m : BitVec 1)  -- R188
  | vsrl (d : BitVec 7) (a : BitVec 7) (b : BitVec 7) (m : BitVec 1)  -- R188
  | vsra (d : BitVec 7) (a : BitVec 7) (b : BitVec 7) (m : BitVec 1)  -- R188
  | vmin (d : BitVec 7) (a : BitVec 7) (b : BitVec 7) (m : BitVec 1)  -- R188
  | vmax (d : BitVec 7) (a : BitVec 7) (b : BitVec 7) (m : BitVec 1)  -- R188
  | vminn (d : BitVec 7) (a : BitVec 7) (b : BitVec 7) (m : BitVec 1)  -- R188
  | vmaxn (d : BitVec 7) (a : BitVec 7) (b : BitVec 7) (m : BitVec 1)  -- R188
  | vsadd (d : BitVec 7) (a : BitVec 7) (b : BitVec 7) (m : BitVec 1)  -- R188
  | vaddVs (d : BitVec 7) (a : BitVec 7) (b : BitVec 7) (m : BitVec 1)  -- R188
  | vsubVs (d : BitVec 7) (a : BitVec 7) (b : BitVec 7) (m : BitVec 1)  -- R188
  | vmulVs (d : BitVec 7) (a : BitVec 7) (b : BitVec 7) (m : BitVec 1)  -- R188
  | vmulhVs (d : BitVec 7) (a : BitVec 7) (b : BitVec 7) (m : BitVec 1)  -- R188
  | vmulhnVs (d : BitVec 7) (a : BitVec 7) (b : BitVec 7) (m : BitVec 1)  -- R188
  | vandVs (d : BitVec 7) (a : BitVec 7) (b : BitVec 7) (m : BitVec 1)  -- R188
  | vorVs (d : BitVec 7) (a : BitVec 7) (b : BitVec 7) (m : BitVec 1)  -- R188
  | vxorVs (d : BitVec 7) (a : BitVec 7) (b : BitVec 7) (m : BitVec 1)  -- R188
  | vsllVs (d : BitVec 7) (a : BitVec 7) (b : BitVec 7) (m : BitVec 1)  -- R188
  | vsrlVs (d : BitVec 7) (a : BitVec 7) (b : BitVec 7) (m : BitVec 1)  -- R188
  | vsraVs (d : BitVec 7) (a : BitVec 7) (b : BitVec 7) (m : BitVec 1)  -- R188
  | vminVs (d : BitVec 7) (a : BitVec 7) (b : BitVec 7) (m : BitVec 1)  -- R188
  | vmaxVs (d : BitVec 7) (a : BitVec 7) (b : BitVec 7) (m : BitVec 1)  -- R188
  | vminnVs (d : BitVec 7) (a : BitVec 7) (b : BitVec 7) (m : BitVec 1)  -- R188
  | vmaxnVs (d : BitVec 7) (a : BitVec 7) (b : BitVec 7) (m : BitVec 1)  -- R188
  | vsaddVs (d : BitVec 7) (a : BitVec 7) (b : BitVec 7) (m : BitVec 1)  -- R188
  | vfadd (d : BitVec 7) (a : BitVec 7) (b : BitVec 7) (m : BitVec 1)  -- R189
  | vfsub (d : BitVec 7) (a : BitVec 7) (b : BitVec 7) (m : BitVec 1)  -- R189
  | vfmul (d : BitVec 7) (a : BitVec 7) (b : BitVec 7) (m : BitVec 1)  -- R189
  | vfdiv (d : BitVec 7) (a : BitVec 7) (b : BitVec 7) (m : BitVec 1)  -- R189
  | vfmin (d : BitVec 7) (a : BitVec 7) (b : BitVec 7) (m : BitVec 1)  -- R189
  | vfmax (d : BitVec 7) (a : BitVec 7) (b : BitVec 7) (m : BitVec 1)  -- R189
  | vfsqrt (d : BitVec 7) (a : BitVec 7) (m : BitVec 1)  -- R189
  | vfabs (d : BitVec 7) (a : BitVec 7) (m : BitVec 1)  -- R189
  | vfneg (d : BitVec 7) (a : BitVec 7) (m : BitVec 1)  -- R189
  | vfsgc (d : BitVec 7) (a : BitVec 7) (b : BitVec 7) (m : BitVec 1)  -- R189
  | vfrece (d : BitVec 7) (a : BitVec 7) (m : BitVec 1)  -- R192
  | vfrsqe (d : BitVec 7) (a : BitVec 7) (m : BitVec 1)  -- R192
  | vfexp2e (d : BitVec 7) (a : BitVec 7) (m : BitVec 1)  -- R192
  | vfclass (d : BitVec 7) (a : BitVec 7) (m : BitVec 1)  -- R189
  | vfaddw (d : BitVec 7) (a : BitVec 7) (b : BitVec 7) (m : BitVec 1)  -- R190
  | vfmulw (d : BitVec 7) (a : BitVec 7) (b : BitVec 7) (m : BitVec 1)  -- R190
  | vfaddVs (d : BitVec 7) (a : BitVec 7) (b : BitVec 7) (m : BitVec 1)  -- R189
  | vfsubVs (d : BitVec 7) (a : BitVec 7) (b : BitVec 7) (m : BitVec 1)  -- R189
  | vfmulVs (d : BitVec 7) (a : BitVec 7) (b : BitVec 7) (m : BitVec 1)  -- R189
  | vfdivVs (d : BitVec 7) (a : BitVec 7) (b : BitVec 7) (m : BitVec 1)  -- R189
  | vfminVs (d : BitVec 7) (a : BitVec 7) (b : BitVec 7) (m : BitVec 1)  -- R189
  | vfmaxVs (d : BitVec 7) (a : BitVec 7) (b : BitVec 7) (m : BitVec 1)  -- R189
  | vfsqrtVs (d : BitVec 7) (b : BitVec 7) (m : BitVec 1)  -- R189
  | vfabsVs (d : BitVec 7) (b : BitVec 7) (m : BitVec 1)  -- R189
  | vfnegVs (d : BitVec 7) (b : BitVec 7) (m : BitVec 1)  -- R189
  | vfsgcVs (d : BitVec 7) (a : BitVec 7) (b : BitVec 7) (m : BitVec 1)  -- R189
  | vfreceVs (d : BitVec 7) (b : BitVec 7) (m : BitVec 1)  -- R192
  | vfrsqeVs (d : BitVec 7) (b : BitVec 7) (m : BitVec 1)  -- R192
  | vfexp2eVs (d : BitVec 7) (b : BitVec 7) (m : BitVec 1)  -- R192
  | vfclassVs (d : BitVec 7) (b : BitVec 7) (m : BitVec 1)  -- R189
  | vfclamp (d : BitVec 7) (a : BitVec 7) (b : BitVec 7) (m : BitVec 1)  -- R191
  | vfma (d : BitVec 7) (a : BitVec 7) (b : BitVec 7) (m : BitVec 1)  -- R193
  | vfms (d : BitVec 7) (a : BitVec 7) (b : BitVec 7) (m : BitVec 1)  -- R193
  | vfnma (d : BitVec 7) (a : BitVec 7) (b : BitVec 7) (m : BitVec 1)  -- R193
  | vfnms (d : BitVec 7) (a : BitVec 7) (b : BitVec 7) (m : BitVec 1)  -- R193
  | vfmaX (d : BitVec 7) (a : BitVec 7) (b : BitVec 7) (m : BitVec 1)  -- R193
  | vfmsX (d : BitVec 7) (a : BitVec 7) (b : BitVec 7) (m : BitVec 1)  -- R193
  | vfnmaX (d : BitVec 7) (a : BitVec 7) (b : BitVec 7) (m : BitVec 1)  -- R193
  | vfnmsX (d : BitVec 7) (a : BitVec 7) (b : BitVec 7) (m : BitVec 1)  -- R193
  | vfmaw (d : BitVec 7) (a : BitVec 7) (b : BitVec 7) (m : BitVec 1)  -- R193
  | vfmawX (d : BitVec 7) (a : BitVec 7) (b : BitVec 7) (m : BitVec 1)  -- R193
  | vmacc (d : BitVec 7) (a : BitVec 7) (b : BitVec 7) (m : BitVec 1)  -- R193
  | vmaccX (d : BitVec 7) (a : BitVec 7) (b : BitVec 7) (m : BitVec 1)  -- R193
  | vseq (p : BitVec 4) (a : BitVec 7) (b : BitVec 7) (m : BitVec 1)  -- R194
  | vsne (p : BitVec 4) (a : BitVec 7) (b : BitVec 7) (m : BitVec 1)  -- R194
  | vslt (p : BitVec 4) (a : BitVec 7) (b : BitVec 7) (m : BitVec 1)  -- R194
  | vsle (p : BitVec 4) (a : BitVec 7) (b : BitVec 7) (m : BitVec 1)  -- R194
  | vsltn (p : BitVec 4) (a : BitVec 7) (b : BitVec 7) (m : BitVec 1)  -- R194
  | vslen (p : BitVec 4) (a : BitVec 7) (b : BitVec 7) (m : BitVec 1)  -- R194
  | vfeq (p : BitVec 4) (a : BitVec 7) (b : BitVec 7) (m : BitVec 1)  -- R194
  | vfne (p : BitVec 4) (a : BitVec 7) (b : BitVec 7) (m : BitVec 1)  -- R194
  | vflt (p : BitVec 4) (a : BitVec 7) (b : BitVec 7) (m : BitVec 1)  -- R194
  | vfle (p : BitVec 4) (a : BitVec 7) (b : BitVec 7) (m : BitVec 1)  -- R194
  | vfunord (p : BitVec 4) (a : BitVec 7) (b : BitVec 7) (m : BitVec 1)  -- R194
  | vsltX (p : BitVec 4) (a : BitVec 7) (b : BitVec 7) (m : BitVec 1)  -- R194
  | vsgtX (p : BitVec 4) (a : BitVec 7) (b : BitVec 7) (m : BitVec 1)  -- R194
  | vfltX (p : BitVec 4) (a : BitVec 7) (b : BitVec 7) (m : BitVec 1)  -- R194
  | vfgtX (p : BitVec 4) (a : BitVec 7) (b : BitVec 7) (m : BitVec 1)  -- R194
  | vseqX (p : BitVec 4) (a : BitVec 7) (b : BitVec 7) (m : BitVec 1)  -- R194
  | pand (d : BitVec 4) (a : BitVec 4) (b : BitVec 4)  -- R195
  | por (d : BitVec 4) (a : BitVec 4) (b : BitVec 4)  -- R195
  | pxor (d : BitVec 4) (a : BitVec 4) (b : BitVec 4)  -- R195
  | pandn (d : BitVec 4) (a : BitVec 4) (b : BitVec 4)  -- R195
  | pnot (d : BitVec 4) (a : BitVec 4)  -- R195
  | pset (d : BitVec 4)  -- R195
  | pclr (d : BitVec 4)  -- R195
  | pcut (d : BitVec 4) (a : BitVec 4) (b : BitVec 4)  -- R195
  | pcuti (d : BitVec 4) (a : BitVec 4) (b : BitVec 4)  -- R195
  | ppop (d : BitVec 7) (a : BitVec 4)  -- R195
  | pfirst (d : BitVec 7) (a : BitVec 4)  -- R195
  | pfromv (d : BitVec 4) (a : BitVec 7)  -- R195
  | ptov (d : BitVec 7) (a : BitVec 4)  -- R195
  | vslideup (d : BitVec 7) (a : BitVec 7) (b : BitVec 7) (m : BitVec 1)  -- R196
  | vslidedn (d : BitVec 7) (a : BitVec 7) (b : BitVec 7) (m : BitVec 1)  -- R196
  | vslide1up (d : BitVec 7) (a : BitVec 7) (b : BitVec 7) (m : BitVec 1)  -- R196
  | vslide1dn (d : BitVec 7) (a : BitVec 7) (b : BitVec 7) (m : BitVec 1)  -- R196
  | vpermi (d : BitVec 7) (a : BitVec 7) (b : BitVec 7) (m : BitVec 1)  -- R196
  | vcompress (d : BitVec 7) (a : BitVec 7) (b : BitVec 4)  -- R197
  | vexpand (d : BitVec 7) (a : BitVec 7) (b : BitVec 4)  -- R197
  | vmerge (d : BitVec 7) (a : BitVec 7) (b : BitVec 7)  -- R197
  | vsplat (d : BitVec 7) (a : BitVec 7) (m : BitVec 1)  -- R196
  | vmvxs (d : BitVec 7) (a : BitVec 7) (b : BitVec 7)  -- R197
  | vrowbc (d : BitVec 7) (a : BitVec 7) (b : BitVec 7)  -- R197
  | vtrans (d : BitVec 7) (a : BitVec 7)  -- R197
  | vredo (d : BitVec 7) (a : BitVec 7) (b : BitVec 7) (m : BitVec 1)  -- R198
  | vredt (d : BitVec 7) (a : BitVec 7) (b : BitVec 7) (m : BitVec 1)  -- R198
  | vredu (d : BitVec 7) (a : BitVec 7) (b : BitVec 7) (m : BitVec 1)  -- R198
  | vfredmin (d : BitVec 7) (a : BitVec 7) (b : BitVec 7) (m : BitVec 1)  -- R198
  | vfredmax (d : BitVec 7) (a : BitVec 7) (b : BitVec 7) (m : BitVec 1)  -- R198
  | vredsum (d : BitVec 7) (a : BitVec 7) (b : BitVec 7) (m : BitVec 1)  -- R198
  | vredmin (d : BitVec 7) (a : BitVec 7) (b : BitVec 7) (m : BitVec 1)  -- R198
  | vredmax (d : BitVec 7) (a : BitVec 7) (b : BitVec 7) (m : BitVec 1)  -- R198
  | vscano (d : BitVec 7) (a : BitVec 7) (b : BitVec 7) (m : BitVec 1)  -- R198
  | vscant (d : BitVec 7) (a : BitVec 7) (b : BitVec 7) (m : BitVec 1)  -- R198
  | vscanu (d : BitVec 7) (a : BitVec 7) (b : BitVec 7) (m : BitVec 1)  -- R198
  | viscan (d : BitVec 7) (a : BitVec 7) (b : BitVec 7) (m : BitVec 1)  -- R198
  | vredand (d : BitVec 7) (a : BitVec 7) (b : BitVec 7) (m : BitVec 1)  -- R198
  | vredor (d : BitVec 7) (a : BitVec 7) (b : BitVec 7) (m : BitVec 1)  -- R198
  | vredrow (d : BitVec 7) (a : BitVec 7) (b : BitVec 7) (m : BitVec 1)  -- R198
  | vcvtf (d : BitVec 7) (a : BitVec 7) (c : BitVec 7) (m : BitVec 1)  -- R199
  | vcvtfi (d : BitVec 7) (a : BitVec 7) (c : BitVec 7) (m : BitVec 1)  -- R199
  | vcvtif (d : BitVec 7) (a : BitVec 7) (c : BitVec 7) (m : BitVec 1)  -- R199
  | vqnt (d : BitVec 7) (a : BitVec 7) (c : BitVec 7) (m : BitVec 1)  -- R200
  | vdqnt (d : BitVec 7) (a : BitVec 7) (c : BitVec 7) (m : BitVec 1)  -- R200
  | vbscale (d : BitVec 3) (a : BitVec 7) (c : BitVec 7) (m : BitVec 1)  -- R200
  | vcvti (d : BitVec 7) (a : BitVec 7) (c : BitVec 7) (m : BitVec 1)  -- R199
  | vindex (d : BitVec 7) (m : BitVec 1) (s : BitVec 9) (p : BitVec 9)  -- R201
  | vld (d : BitVec 7) (a : BitVec 7) (k : BitVec 3) (m : BitVec 1)  -- R208
  | vlds (d : BitVec 7) (a : BitVec 7) (b : BitVec 7) (m : BitVec 1)  -- R208
  | vldff (d : BitVec 7) (a : BitVec 7) (k : BitVec 3) (m : BitVec 1)  -- R209
  | vldseg (d : BitVec 7) (a : BitVec 7) (f : BitVec 3) (k : BitVec 3) (m : BitVec 1)  -- R208
  | vldx (d : BitVec 7) (a : BitVec 7) (b : BitVec 7) (m : BitVec 1)  -- R208
  | vldrow (d : BitVec 7) (a : BitVec 7) (b : BitVec 7) (m : BitVec 1)  -- R208
  | vldbc (d : BitVec 7) (a : BitVec 7) (k : BitVec 3) (m : BitVec 1)  -- R208
  | vst (d : BitVec 7) (a : BitVec 7) (k : BitVec 3) (m : BitVec 1)  -- R210
  | vsts (d : BitVec 7) (a : BitVec 7) (b : BitVec 7) (m : BitVec 1)  -- R210
  | vstseg (d : BitVec 7) (a : BitVec 7) (f : BitVec 3) (k : BitVec 3) (m : BitVec 1)  -- R210
  | vstx (d : BitVec 7) (a : BitVec 7) (b : BitVec 7) (m : BitVec 1)  -- R210
  | vstrow (d : BitVec 7) (a : BitVec 7) (b : BitVec 7) (m : BitVec 1)  -- R210
  | vstxaddo (d : BitVec 7) (a : BitVec 7) (b : BitVec 7) (m : BitVec 1)  -- R212
  | vstxadd (d : BitVec 7) (a : BitVec 7) (b : BitVec 7) (m : BitVec 1)  -- R212
  | vldsh (d : BitVec 7) (a : BitVec 7) (k : BitVec 3) (m : BitVec 1)  -- R211
  | vldshs (d : BitVec 7) (a : BitVec 7) (b : BitVec 7) (m : BitVec 1)  -- R211
  | vldshrow (d : BitVec 7) (a : BitVec 7) (b : BitVec 7) (m : BitVec 1)  -- R211
  | vstsh (d : BitVec 7) (a : BitVec 7) (k : BitVec 3) (m : BitVec 1)  -- R211
  | vstshs (d : BitVec 7) (a : BitVec 7) (b : BitVec 7) (m : BitVec 1)  -- R211
  | vstshrow (d : BitVec 7) (a : BitVec 7) (b : BitVec 7) (m : BitVec 1)  -- R211
  | vldshx (d : BitVec 7) (a : BitVec 7) (b : BitVec 7) (m : BitVec 1)  -- R211
  | vstshx (d : BitVec 7) (a : BitVec 7) (b : BitVec 7) (m : BitVec 1)  -- R211
  | vstshxaddo (d : BitVec 7) (a : BitVec 7) (b : BitVec 7) (m : BitVec 1)  -- R212
  | vstshxadd (d : BitVec 7) (a : BitVec 7) (b : BitVec 7) (m : BitVec 1)  -- R212
  | vgwin (p : BitVec 4) (a : BitVec 7) (m : BitVec 1)  -- R214
  | vgwset (d : BitVec 7) (a : BitVec 7) (m : BitVec 1)  -- R214
  | vconf (p : BitVec 4) (a : BitVec 7) (m : BitVec 1)  -- R215
  | vcomb (d : BitVec 7) (a : BitVec 7) (b : BitVec 7) (m : BitVec 1)  -- R215
  | vconfm (d : BitVec 7) (a : BitVec 7) (m : BitVec 1)  -- R215
  | vpacknz (d : BitVec 7) (a : BitVec 7) (b : BitVec 7) (m : BitVec 1)  -- R216
  | mmac (z : BitVec 4) (a : BitVec 7) (b : BitVec 7) (s : BitVec 2)  -- R229
  | mmacn (z : BitVec 4) (a : BitVec 7) (b : BitVec 7) (s : BitVec 2)  -- R229
  | mmaco (z : BitVec 4) (a : BitVec 7) (b : BitVec 7) (s : BitVec 2)  -- R229
  | mmacs (z : BitVec 4) (a : BitVec 7) (b : BitVec 7) (s : BitVec 2)  -- R229
  | mzcfg (z : BitVec 4) (a : BitVec 7)  -- R222
  | mzero (z : BitVec 4)  -- R222
  | mzld (z : BitVec 4) (a : BitVec 7) (b : BitVec 7)  -- R233
  | mzst (z : BitVec 4) (a : BitVec 7) (b : BitVec 7)  -- R233
  | mzrv (d : BitVec 7) (z : BitVec 4) (b : BitVec 7)  -- R235
  | mzwv (z : BitVec 4) (a : BitVec 7) (b : BitVec 7)  -- R235
  | manch (z : BitVec 4) (a : BitVec 7)  -- R223
  | mscan (z : BitVec 4) (h : BitVec 3)  -- R236
  | mcarry (h : BitVec 3) (a : BitVec 7)  -- R237
  | mcarryst (h : BitVec 3) (a : BitVec 7)  -- R237
  | mcommit  -- R232
  | mwait (n : BitVec 7)  -- R232
  | mgain (z : BitVec 4) (a : BitVec 7)  -- R236
  | mstat (d : BitVec 7) (z : BitVec 4)  -- R224
  | tdset (t : BitVec 4) (a : BitVec 7)  -- R218
  | tdget (t : BitVec 4) (a : BitVec 7)  -- R218
  | scld (k : BitVec 3) (t : BitVec 4)  -- R218
  | scst (k : BitVec 3) (t : BitVec 4)  -- R218
  | tdinv (t : BitVec 4)  -- R218
  | cpy (a : BitVec 7)  -- R242
  | cpyb (p : BitVec 4) (a : BitVec 7)  -- R243
  | cpyseg (a : BitVec 7)  -- R242
  | cpyw (n : BitVec 7)  -- R244
  | cpyq (d : BitVec 7)  -- R244
  | lmark (a : BitVec 7) (b : BitVec 7) (o : BitVec 9)  -- R257
  | lmarkSweep (a : BitVec 7) (b : BitVec 7) (o : BitVec 9)  -- R260
  | lend  -- R258
  | loff (a : BitVec 7)  -- R261
  | rsnew (a : BitVec 7) (b : BitVec 7)  -- R262
  | rsq (d : BitVec 7) (a : BitVec 7)  -- R262
  | rspol (a : BitVec 7) (b : BitVec 7)  -- R262
  | tmark (a : BitVec 7)  -- R263
  | progpt (c : BitVec 7)  -- R263
deriving DecidableEq, Repr

end Sys2Proof
end

