-- ==== Sys2Proof/Machine/State.lean ====
section
/-! DEFINITION. The state of the device as plain data: the harts and tandems, their queues, windows, checkpoints and engines'
work (R11–R41, R183, R217–R240, R316–R336), memory and its views (R84–R131), contexts, queues, kernels, groups (R266–R301),
translation (R303–R315), reliability, links, debug, security, energy and bring-up (R354–R390). A default value of a field of
Csr, Hart or Tandem is the value R22, R48 or R220 gives it when a tandem starts. -/

namespace Sys2Proof.Machine

/-- KIND of a fault record: what the faulting access was (R346). -/
inductive AccessKind where
  | load | store | atomic | fetch | copyRead | copyWrite | replay
deriving DecidableEq, Repr

/-- The control and status registers of a hart (R48–R50). TID, KID, CTXID and SIDE belong to the tandem; CYCLE is `cycle`
plus the clocks since `since` while the tandem is resident. -/
structure Csr where
  frm : Word := 0
  fflags : Word := 0
  srseed : Word := 0
  hctl : Word := 8
  skm : Word := 0xFF
  vl : Word := 0
  vtype : Word := 2
  rc : Word := 1
  vstart : Word := 0
  gwbase : Word := 0
  nfmt : Word := 0x115
  xpc : Word := 0
  xcause : Word := 0
  xaddr : Word := 0
  xinfo : Word := 0
  xvec : Word := 0
  xscratch : Word := 0
  lrecn : Word := 4
  lstat : Word := 0
  lidx : Word := 0
  proglim : Word := 0x100000
  waitrsn : Word := 0
  trlo : Word := 0
  trhi : Word := 0
  trdly : Word := 0
  trctl : Word := 0
  trbase : Word := 0
  trexp : Word := 0
  cycle : Word := 0
  instret : Word := 0
  energy : Word := 0
deriving DecidableEq, Repr

/-- A queue between the two sides (R15): the slot number of its front, the entries popped but kept for a re-run of the popper's
open strip (R183), the entries present, and the fault marker's position from the head (R345). -/
structure Fifo (α : Type) where
  head : Nat := 0
  spent : List α := []
  items : List α := []
  marker : Option Nat := none
  /-- The instruction that placed the marker: its address, and whether a handler's (the model's own field, for R345). -/
  owner : Option (Word × Bool) := none
  /-- Markers of other instructions that stand behind it: the position and the instruction (the model's own field, for R345). -/
  others : List (Nat × Word × Bool) := []
  /-- The next pop meets an uncorrectable error in an entry (R360). -/
  bad : Bool := false
deriving DecidableEq, Repr

/-- One byte of a held store: its address, where translation sent it, and the bits it writes (R58, R108). -/
structure HeldByte where
  va : Nat
  pa : Nat
  val : Byte
  mask : Byte
deriving DecidableEq, Repr

/-- A store in the strip buffer (R108), with the serial number of the strip that it belongs to. `eligible` once a VSETL, VSETLX or VSTRIP
closed that strip. -/
structure HeldStore where
  shared : Bool
  eligible : Bool
  strip : Nat := 0
  bytes : List HeldByte
deriving DecidableEq, Repr

/-- The registers that an instruction's operands are taken from, as they stood at its first issue (R344). -/
structure Issue where
  s : List (Nat × Word)
  v : List (Nat × VReg)
  p : List (Nat × PReg)
  k : List (Nat × KReg)
  h : List (Nat × HReg)
  /-- INSTRET, which the draws of its rounding take as their instruction number (R64). -/
  instret : Word
deriving DecidableEq, Repr

/-- The saved operand state of an instruction that stopped before it retired (R18, R41): its address, the operands it popped in
the order it popped them, the flags of the elements it has performed, and the registers of the row in the staging area. -/
structure Saved where
  pc : Word
  vops : List (List VReg) := []
  sops : List Word := []
  flags : Word := 0
  staged : List VReg := []
  /-- The staged row is complete and waits only for its push. -/
  full : Bool := false
  /-- How many rows have been pushed or stand complete in the staging area. -/
  rows : Nat := 0
  /-- An active element has been performed since the instruction was last entered (R209). -/
  seen : Bool := false
  /-- What a broadcast load has read of row 0: lanes with their values (R208). -/
  bcast : List (Nat × Nat) := []
  /-- The addresses of the first and the last element performed, for the history ring (R380). -/
  first : Option Nat := none
  last : Option Nat := none
  /-- The first element of an MZLD or MZWV that raised XOF (R234). -/
  spill : Option Nat := none
  /-- How many of the popped operands this execution has taken so far. -/
  curV : Nat := 0
  curS : Nat := 0
  /-- The registers at its first issue, once it has stopped (R344). -/
  issue : Option Issue := none
deriving DecidableEq, Repr

/-- Segment mode of a copy (R92, R239). -/
structure Segment where
  fields : Nat
  kind : Nat
  df : Nat
  rstr : Nat
  nfmt : Nat
deriving DecidableEq, Repr

/-- A pager-routed fault record (R346). -/
structure FaultRecord where
  csn : Nat
  addr : Word
  qid : Nat
  core : Nat
  slot : Nat
  side : Nat
  kind : AccessKind
  reason : Nat
  asid : Nat
  tid : Nat
  age : Nat
deriving DecidableEq, Repr

/-- A copy in flight, in its range-scoreboard slot (R91–R96, R239–R245). -/
structure Copy where
  id : Nat
  toShared : Bool
  src : Nat
  dst : Nat
  count : Nat
  clog : Nat
  seg : Option Segment
  /-- The barrier object it arrives at: whether it is global, and its address. -/
  bar : Option (Bool × Nat)
  /-- The predicate and bit base of its chunk mask. -/
  mask : Option (Nat × Nat)
  done : List Nat := []
  /-- Chunks whose bytes stand and whose arrival at a peer's object is awaited, with whether they succeeded. -/
  stood : List (Nat × Bool) := []
  /-- What it has read of DEV memory: a byte there is read once (R102). -/
  kept : List (Nat × Byte) := []
  /-- How many bytes of the chunk under way it has written to a destination with DEV memory (R102). -/
  wrote : Nat := 0
  failed : Bool := false
  failAddr : Nat := 0
  flags : Word := 0
  word0 : Word
  /-- A chunk's page fault is with the pager: the address and the reason. -/
  waiting : Option (Nat × Nat) := none
  /-- Addresses in pages that the pager could not serve for it (R313). -/
  lost : List Nat := []
  /-- The record of that fault, where it found the die's buffer full (R347). -/
  heldRecord : Option FaultRecord := none
  /-- The core whose cluster's engine performs it. -/
  core : Nat := 0
deriving DecidableEq, Repr

/-- A failed copy whose COPY-ERROR trap is pending (R245). -/
structure CopyError where
  addr : Word
  word0 : Word
deriving DecidableEq, Repr

/-- One recorded instruction of an iteration (R317, R320): its address and word, what its conditional branch did, whether that
branch is a decision point, and the address of its stream. -/
structure RecInstr where
  pc : Word
  word : BitVec 32
  taken : Option Bool := none
  decision : Bool := false
  addr : Option Nat := none
  isStore : Bool := false
deriving DecidableEq, Repr

/-- A register as the recorder tracks it: class 0 scalar, 1 vector, 2 predicate, and architectural number. -/
structure RegRef where
  cls : Nat
  num : Nat
deriving DecidableEq, Repr

/-- A write of a register in a recorded iteration: for ADD or ADDI of a scalar and itself, the addend's register, or none for an
immediate (R319). -/
structure RegWrite where
  reg : RegRef
  form : Option (Option RegRef) := none
deriving DecidableEq, Repr

/-- What the recorder knows of an iteration's register use (R319, R320): the registers read before any write of the iteration, its writes,
the scalars last written directly by a compare or by a count of a compared predicate, the predicates last written by a member of 0x29,
and the scalars that hold the result of PPOP or PFIRST. -/
structure RegUse where
  readFirst : List RegRef := []
  writes : List RegWrite := []
  decided : List RegRef := []
  compared : List RegRef := []
  popped : List RegRef := []
deriving DecidableEq, Repr

/-- A recording in progress (R316–R320). -/
structure Recording where
  l : Nat
  first : Nat
  iters : List (List RecInstr) := []
  cur : List RecInstr := []
  lead : Option Nat := none
  /-- The lead station is final, and its log slot is held. -/
  claimed : Bool := false
  logBytes : Nat := 0
  invariants : List RegRef := []
  /-- Register use of the iteration under way and of the iterations recorded. -/
  use : RegUse := {}
  past : List RegUse := []
  /-- The index value (iteration number, or member id in a sweep) of each recorded iteration. -/
  index : List Nat := []
deriving DecidableEq, Repr

/-- One element that a sweep's measured stores wrote: member, element of its block, the value before the sweep's first measured
write and the value of its last (R333). -/
structure Measure where
  id : Nat
  elem : Nat
  old : Nat
  new : Nat
deriving DecidableEq, Repr

/-- An active sweep of a rate-classed set: the copy of header and records it works from (R329–R333). -/
structure Sweep where
  header : Nat
  cnt : Nat
  s : Nat
  pol : Nat
  qmax : Nat
  thup : Nat
  thdn : Nat
  dbase : Nat
  blen : Nat
  ek : Nat
  slopeb : Nat
  /-- The due members, ascending, with their q and LAST. -/
  due : List (Nat × Nat × Nat)
  /-- LAST of every member. -/
  lasts : List (Nat × Nat)
  /-- How many of them have been performed. -/
  pos : Nat := 0
  measures : List Measure := []
  /-- The address of the iteration's measured store, once it has executed one. -/
  storePc : Option Word := none
deriving DecidableEq, Repr

/-- How a replay stopped (R323, R324). -/
inductive ReplayEnd where
  | replayed | departed | returned
deriving DecidableEq, Repr

/-- A replay under way or ended and waiting for its hand-back (R321–R324). -/
structure Replay where
  /-- The next iteration to perform. -/
  j : Nat
  /-- The path every recorded iteration took. -/
  path : List RecInstr
  ended : Option ReplayEnd := none
  /-- Both runs of iteration j agree, where HCTL.RCK asks for two (R321). -/
  checked : Bool := false
  flags : Word := 0
  /-- The affine inductions at the start of iteration j, by architectural number. -/
  inductions : List (Nat × Word) := []
  lead : Nat := 0
  /-- The streams: the address at index 0, the distance from one index to the next, and the bytes of an access (R319). -/
  streams : List (Nat × Int × Nat) := []
deriving DecidableEq, Repr

/-- The active marked loop of a hart (R257–R260, R316). RECORDING when `recd` is there, REPLAY when `replay` is, else SELF. -/
structure Loop where
  start : Word
  lend : Word
  ra : Nat
  rb : Nat
  count : Nat
  start0 : Word
  iter : Nat := 0
  frm : Word := 0
  recd : Option Recording := none
  replay : Option Replay := none
  /-- A hand-back has happened and iteration `iter` is the one R325 speaks of. -/
  handed : Bool := false
  sweep : Option Sweep := none
deriving DecidableEq, Repr

/-- The strip checkpoint (R183). `regs` lists the SKM scalars by architectural number. -/
structure Checkpoint where
  pc : Word
  regs : List (Nat × Word)
  winS : Nat
  winV : Nat
  vl : Word
  vtype : Word
  rc : Word
  instret : Word
  /-- The marked loop that is active there (the model's own field). -/
  loop : Option Loop := none
deriving DecidableEq, Repr

/-- The open strip of a hart (R108, R183, R286, R359–R361). -/
structure Strip where
  rewindable : Bool := true
  ckpt : Option Checkpoint := none
  openRc : Nat := 1
  rollbacks : Nat := 0
  /-- How many strips the hart has opened: its serial number, from 1 (the model's own field, for R286). -/
  serial : Nat := 1
deriving DecidableEq, Repr

/-- A causal trial's hidden sums (R381, R382): CYCLE at its start, clocks withheld, instructions retired inside and outside the
range, and the eight progress counters. -/
structure Trial where
  startCycle : Nat := 0
  withheld : Nat := 0
  inside : Nat := 0
  outside : Nat := 0
  counters : List Nat := [0, 0, 0, 0, 0, 0, 0, 0]
deriving DecidableEq, Repr

/-- Where a rechecked instruction stands between its two runs (R355, R356). -/
inductive Recheck where
  | idle
  | pending (pc : Word)
  | forced (pc : Word)
  | agreed (pc : Word)
deriving DecidableEq, Repr

/-- An uncorrectable error that a hart meets at its next instruction: a residue or parity check, or an error in what holds its architectural
state (R360, R362). -/
inductive Upset where
  | check | heldState
deriving DecidableEq, Repr

/-- The wait of a BWAIT: its instruction, the object's place and the parity it waits on; `met` is the outcome once a change of the object has
ended the wait: true where the phase has completed, false where the object was found invalid (R298). -/
structure BarWait where
  pc : Word
  /-- The object lies in scratch, at 2^22 × unit + offset, or else at a global address of the tandem. -/
  shared : Bool
  place : Nat
  parity : Bool
  met : Option Bool := none
deriving DecidableEq, Repr

/-- One hart (R11, R34). Registers are sparse tables by architectural number; an unlisted register holds 0. -/
structure Hart where
  pc : Word := 0
  s : List (Nat × Word) := []
  v : List (Nat × VReg) := []
  p : List (Nat × PReg) := []
  k : List (Nat × KReg) := []
  h : List (Nat × HReg) := []
  winS : Nat := 0
  winV : Nat := 0
  csr : Csr := {}
  exited : Bool := false
  held : List HeldStore := []
  strip : Strip := {}
  copies : List Copy := []
  copyErrors : List CopyError := []
  nextCopy : Nat := 0
  /-- Bits of predicates that chunks of its copies set once no instruction is under way: the predicate and the bit (R95). -/
  dueBits : List (Nat × Nat) := []
  /-- Saved operand state of an instruction interrupted outside and inside a trap handler (R18, R41). -/
  saved : Option Saved := none
  savedInTrap : Option Saved := none
  loop : Option Loop := none
  /-- LOFF is in force (R261). -/
  loff : Bool := false
  /-- The header address of the current rate-classed set (R262). -/
  rateSet : Option Nat := none
  /-- The hidden count of covered instructions, and the recheck under way (R354). -/
  covered : Nat := 0
  recheck : Recheck := .idle
  /-- The covered instructions issued and not retired, in a handler or outside one, and whether each was selected (R354). -/
  counted : List (Bool × Word × Bool) := []
  /-- The instruction that last disagreed, and the core that ran it (R356). -/
  disagreed : Option (Word × Nat) := none
  trial : Trial := {}
  /-- The hart waits in its instruction, for the reason WAITRSN gives; the queue or unit it waits on (R351). -/
  stalled : Option Nat := none
  /-- The address of the access that the hart waits at, or 0, and the word that waits (the model's own fields, for R351). -/
  stallAddr : Word := 0
  stallWord : BitVec 32 := 0
  /-- How many entries, or free places, of a queue it waits for (the model's own field, for R18 and R31). -/
  stallNeed : Nat := 0
  /-- The BWAIT that it waits in (R297, R298). -/
  barWait : Option BarWait := none
  /-- The wait in which it left its slot: its WAITRSN code and its port (the model's own field, for R31). -/
  leftIn : Option (Nat × Nat) := none
  /-- Earlier accesses of the hart to host or peer memory not yet complete at their targets, by tag (R124). -/
  outstanding : List Nat := []
  /-- An error that its next instruction meets (R360, R362). -/
  upset : Option Upset := none
  /-- Vector instructions retired, for the history ring (R380). -/
  history : Nat := 0
  /-- Entries of the history ring that stand behind stores of the hart not yet performed: the strip's serial number, the address and the bytes (R380). -/
  histLate : List (Nat × Nat × List Byte) := []
deriving DecidableEq, Repr

/-- An operand of a posted matrix instruction (R225, R226, R228): its element codes by row and depth, or the origin and pitch of scratch
rows that the engine has still to read, with what they have held since the post (R128). -/
inductive MatrixSource where
  | codes (xs : List Nat)
  | scratch (origin pitch : Nat) (early : List (List Nat))
deriving DecidableEq, Repr

/-- A posted matrix instruction with what it captured at issue (R228). -/
structure Posted where
  batch : Nat
  op : Nat
  tile : Nat
  cfg : BitVec 64
  anchor : Int
  tda : Desc
  tdb : Desc
  ka : KReg
  kb : KReg
  a : MatrixSource
  b : MatrixSource
  /-- Its place among the tandem's posts, its first unfinished row, the flags of its rows and the first element that overflowed (R72,
  R231). -/
  seq : Nat
  row : Nat := 0
  flags : Nat := 0
  spill : Option Nat := none
deriving DecidableEq, Repr

/-- An exact-accumulator overflow that a trap has still to report (R72). -/
structure Overflow where
  seq : Nat
  batch : Nat
  tile : Nat
  elem : Nat
  done : Bool
deriving DecidableEq, Repr

/-- Where a tandem is (R31–R33). -/
inductive Place where
  /-- Created, never yet dispatched. -/
  | waiting
  | resident (core slot : Nat)
  /-- Away from its slot, with the wait reason and the order in which it left. -/
  | parked (reason since : Nat)
  /-- Ended, with matrix work still under way in its slot (R252). -/
  | draining (core slot : Nat)
  | ended
  /-- Stopped by a fault, a cancellation or a destroy (TST 3). -/
  | stopped
deriving DecidableEq, Repr

/-- What the two sides of a tandem share (R34): identity, descriptors, z-tiles, queues, matrix work. -/
structure Tandem where
  uid : Nat := 0
  ctx : Nat := 0
  tid : Nat := 0
  csn : Nat := 0
  tix : Nat := 0
  qid : Nat := 0
  single : Bool := true
  /-- One of the four firmware cores rather than a tandem (R151). -/
  firmware : Option Nat := none
  z : Nat := 0
  prio : Nat := 0
  ecls : Nat := 0
  place : Place := .waiting
  /-- The slot it sits in, or last sat in, on core `core`. -/
  slot : Nat := 0
  started : Bool := false
  /-- The core whose cluster scratch is its own, and whose accumulator store holds its z-tiles (R44, R84). -/
  core : Nat := 0
  td : List (Nat × Desc) := []
  /-- Descriptors that a side has written and the other side may not see yet, in order: whether the A-side wrote it, and which (R219). -/
  tdLate : List (Bool × Nat × Desc) := []
  zcfg : List (Nat × BitVec 64) := []
  zanchor : List (Nat × Int) := []
  /-- Word w of tile j is entry 16384 × j + w (R66). -/
  zt : List (Nat × BitVec 32) := []
  /-- The z-tiles have been written to their save slots (R44). -/
  zsaved : Bool := false
  /-- What its matrix save area held after its work was saved there: offset and byte (R231). -/
  areaHeld : List (Nat × Byte) := []
  /-- xq0–xq7 as 0–7 and yq0–yq7 as 8–15; xs0–xs7 as 0–7 and ys0–ys7 as 8–15 (R256). -/
  vq : List (Nat × Fifo VReg) := []
  sq : List (Nat × Fifo Word) := []
  bq : Fifo Bool := {}
  matrix : List Posted := []
  openBatch : Nat := 0
  /-- How many matrix instructions the tandem has posted. -/
  posts : Nat := 0
  overflows : List Overflow := []
  cidx : Nat := 0
  /-- What closed strips still owe CIDX until their held stores have been performed: serial number and amount (R286). -/
  owed : List (Nat × Nat) := []
  /-- A fault record that found the die's buffer full (R347). -/
  heldRecord : Option FaultRecord := none
  /-- The page that the tandem waits for, when parked with wait reason PAGE or MIGRATE. -/
  page : Option Word := none
  /-- The history ring's count of vector instructions, and when the tandem became resident. -/
  vectorCount : Nat := 0
  since : Nat := 0
deriving DecidableEq, Repr

/-- A tandem that is not the one in focus, with both its harts. -/
structure Away where
  t : Tandem
  e : Hart
  a : Hart
deriving DecidableEq, Repr

/-- A write that has taken effect in some die views and not yet in all (R119–R121). The list of them is in coherence order. -/
structure Flight where
  origin : Nat
  /-- The vector clock it was tagged with. -/
  tag : List Nat
  /-- The bytes it writes, with the bits of each that it changes. -/
  bytes : List (Nat × Byte × Byte)
  seen : List Bool
deriving DecidableEq, Repr

/-- A cached translation (R309): `pages` pages of 2^`shift` bytes from virtual page number `vpn`, the frame of page i being
`fn + i × stride` in 4 KiB frames. -/
structure TlbEntry where
  die : Nat
  asid : Nat
  vpn : Nat
  pages : Nat
  shift : Nat
  fn : Nat
  stride : Nat
  attr : Nat
  /-- The leaf line it came from, and the entry of its first page. -/
  line : Nat
  first : Nat
deriving DecidableEq, Repr

/-- The states of a context (R270). -/
inductive CtxState where
  | defined | boundIdle | running | reclaimed | faulted | destroyed
deriving DecidableEq, Repr

/-- A context (R266–R274, R284). -/
structure Context where
  num : Nat
  block : Nat
  /-- Which of the contexts that have had this number it is (the model's own field). -/
  serial : Nat := 0
  state : CtxState := .defined
  asid : Option Nat := none
  /-- It needs an ASID, and waits for one to be free (R270). -/
  wants : Bool := false
  id : Nat := 0
  key : Nat := 0
  /-- A bind has put its key into slot `key` (R267, R271). -/
  keyed : Bool := false
  epart : Nat := 0
  sroot : Nat := 0
  vbase : Nat := 0
  vcount : Nat := 0
  imgBase : Nat := 0
  msaBase : Nat := 0
  recBase : Nat := 0
  nextCsn : Nat := 0
  lastRun : Nat := 0
  /-- Kernel debug is open (R383); history base (R380); the trace sink's number, trace and sampling enables and period. -/
  debugOpen : Bool := false
  histBase : Option Nat := none
  traced : Bool := false
  sampled : Bool := false
  period : Nat := 0
deriving DecidableEq, Repr

/-- The states of a queue (R279), by code. -/
inductive QState where
  | disabled | empty | ready | active | blocked | switchedOut | faulted
deriving DecidableEq, Repr

/-- A queue (R276–R280). -/
structure Queue where
  num : Nat
  ctx : Nat
  block : Nat
  ring : Nat := 0
  log2n : Nat := 1
  prio : Nat := 0
  tt : Bool := false
  ageLim : Nat := 0
  agePer : Nat := 0
  tail : Nat := 0
  prog : Nat := 0
  state : QState := .disabled
  fcode : Nat := 0
  eprio : Nat := 0
  /-- Packets taken since the switch-in, and the orders in which it was switched in and became waiting. -/
  takes : Nat := 0
  heldSince : Nat := 0
  waitSince : Nat := 0
  /-- A debugger holds it (R379), and the hold has landed. -/
  hold : Bool := false
  landed : Bool := false
  /-- The page that a read of its head packet waits for the pager to serve (R279). -/
  page : Option Word := none
  /-- The eight words of the head packet, once read (R278). -/
  head : Option (List Word) := none
  /-- The record of that page's fault, where it found the die's buffer full (R347). -/
  heldRecord : Option FaultRecord := none
deriving DecidableEq, Repr

/-- The states of a kernel record (R287). -/
inductive KState where
  | free | starting | running | draining | complete | faulted | cancelled
deriving DecidableEq, Repr

/-- The first fault of a kernel, or its cancellation, waiting for its engines to finish (R288). -/
structure KernelStop where
  cancelled : Bool
  fcode : Nat
  ftid : Nat
  faddr : Word
  finfo : Nat
deriving DecidableEq, Repr

/-- A kernel (R284–R289). -/
structure Kernel where
  ctx : Nat
  csn : Nat
  state : KState
  fcode : Nat := 0
  qid : Nat := 0
  tcnt : Nat
  /-- The tandem count of the packet itself, without spawned tandems. -/
  t0 : Nat
  tend : Nat := 0
  argAddr : Word := 0
  args : List Word := []
  total : Nat := 0
  doneAddr : Word := 0
  faddr : Word := 0
  ftid : Nat := 0
  finfo : Nat := 0
  eentry : Word := 0
  aentry : Word := 0
  z : Nat := 0
  prio : Nat := 0
  ecls : Nat := 0
  irq : Bool := false
  stop : Option KernelStop := none
  /-- The time-triggered row that started it. -/
  row : Option Nat := none
  ttParked : Bool := false
  /-- The tag of the request that adds to its completion counter at a peer (R289). -/
  adding : Option Nat := none
  /-- Its completion sequence has begun and has still to end (R287, R289). -/
  closing : Bool := false
deriving DecidableEq, Repr

/-- A group (R290–R294). Members are tandem numbers with their ranks. -/
structure Group where
  ctx : Nat
  key : Word
  members : List (Nat × Nat)
  pending : Bool := false
  counted : List Nat := []
  arrived : List Nat := []
  early : List Nat := []
  /-- Members whose phase has completed and whose GBAR has still to return. -/
  returned : List Nat := []
deriving DecidableEq, Repr

/-- The states of a Ranlys port (R368), in the order of LINKSTAT.STATE. -/
inductive PortState where
  | down | training | up | degraded | quiesced | faulted
deriving DecidableEq, Repr

/-- What a flit carries a part of: a request of this device, or its reply to a peer's (R367, R369). -/
inductive FlitLoad where
  | request (tag : Nat)
  | reply (tag : Nat × Nat)
deriving DecidableEq, Repr

/-- An unacknowledged flit: its sequence number, what it carries, and its failures in succession (R369). -/
structure Flit where
  seq : Nat
  load : FlitLoad
  fails : Nat := 0
deriving DecidableEq, Repr

/-- A Ranlys port (R368–R371). -/
structure Port where
  state : PortState := .down
  retry : Nat := 0
  fails : Nat := 0
  trainFails : Nat := 0
  /-- The replay buffer: unacknowledged flits, oldest first. -/
  buffer : List Flit := []
  nextSeq : Nat := 0
  expect : Nat := 0
  /-- How often in succession the flit that is expected has come with a bad CRC. -/
  rejects : Nat := 0
deriving DecidableEq, Repr

/-- A request to host or peer memory whose reply has not arrived (R367, R370), with its reply once it has. -/
structure Request where
  tag : Nat
  hart : Nat
  va : Nat
  pa : Nat
  op : PeerOp
  port : Option Nat
  /-- Its flits have entered the replay buffer of its port (R369). -/
  sent : Bool := false
  reply : Option (List Byte) := none
  /-- A store performed from the strip buffer after retirement, and the serial number of the strip that held it, or 0. -/
  posted : Bool := false
  strip : Nat := 0
  /-- The instruction that waits for the reply: its address, whether a handler's, and the element (the model's own field, for R344 and R367). -/
  owner : Option (Word × Bool × Nat) := none
deriving DecidableEq, Repr

/-- A row of the time-triggered table as the device holds it (R282, R283). -/
structure TtSlot where
  row : TtRow := { start := 0, len := 0, queue := 0, skipNext := false, enabled := false }
  ovrcnt : Nat := 0
  miss : Bool := false
  skip : Bool := false
  active : Bool := false
deriving DecidableEq, Repr

/-- A debug comparator (R377). -/
structure Comparator where
  addr : Word := 0
  ctl : Word := 0
deriving DecidableEq, Repr

/-- A trace sink of a context or of the firmware domain (R376). -/
structure Sink where
  base : Nat
  len : Nat
  windex : Nat := 0
  rindex : Nat := 0
  dropped : Nat := 0
deriving DecidableEq, Repr

/-- A shootdown that has not completed (R314). -/
structure Shootdown where
  ctx : Nat
  asid : Nat
  va : Nat
  len : Nat
deriving DecidableEq, Repr

/-- What the host is interrupted for, and what a command hands back to the driver or a partner. -/
inductive Report where
  | kernelDone (ctx csn : Nat)
  | kernelFaulted (ctx csn : Nat)
  | contextFaulted (ctx : Nat)
  | bufferFull (die : Nat)
  /-- A record that entered a die's fault buffer, as firmware passes it to the pager: its four words (R346). -/
  | faultRecord (die : Nat) (dwords : List Nat)
  | coreFenced (core lane passed : Nat) (tasks : List (Nat × Nat))
  | checkpointFailed
  | vectorEntry (idx : Nat) (v : Word)
  | challenge (c : Nat)
  | attestation (nonce : Nat) (measurements : List Nat) (dsm lifecycle : Nat) (keys : List Nat) (signature : Nat)
  | reply (port tag : Nat) (data : List Byte)
  | hostReply (data : List Byte) (poisoned : Bool)
  | granuleRefused (pa : Nat)
  | tableRejected
  | imageRefused (i : Nat)
  | flitAck (port sq : Nat) (ok : Bool)
deriving DecidableEq, Repr

/-- One element of the order in which the device acts: an event from outside, or the turn of a hart. -/
inductive Input where
  | event (i : Instr)
  /-- The step that an access of the device to a doorbell register starts: it comes before what is from outside (R277). -/
  | rung (i : Instr)
  | turn (h : Nat)
deriving DecidableEq, Repr

/-- The device's memory and its view on each die (R89, R119–R121). -/
structure Mem where
  /-- Physical bytes that every die view agrees on; an unlisted byte reads 0. -/
  cells : List Host.Cell := []
  flight : List Flight := []
  /-- The four-entry vector clock of each die. -/
  clocks : List (List Nat) := [[0, 0, 0, 0], [0, 0, 0, 0], [0, 0, 0, 0], [0, 0, 0, 0]]
  /-- Scratch bytes written since reset: cluster × 2^22 + offset, or (64 + i) × 2^22 + offset for firmware core i's memory. -/
  scratch : List Host.Cell := []
  /-- Physical bytes whose next read meets an uncorrectable error; true when the error persists after a scrub (R360, R361). -/
  bad : List (Nat × Bool) := []
  /-- Scratch bytes, keyed as `scratch`, whose next read meets one. -/
  badScratch : List Nat := []
deriving DecidableEq, Repr

/-- The safe-tier copy that a recovery point holds (R363, R364). -/
structure Safe where
  cells : List Host.Cell
  vtab : List (Nat × Word)
  vtag : List (Nat × Nat)
  ctxs : List Context
  queues : List Queue
  kernels : List Kernel
  tandems : List Away
  groups : List Group
deriving DecidableEq, Repr

/-- Translation state: the vector table of each die, cached translations, shootdowns under way (R303–R315). -/
structure Paging where
  /-- Entry i of die d is entry 131072 × d + i. -/
  vtab : List (Nat × Word) := []
  /-- The tag of a vector-table entry: the serial number of the context whose ASID it carries, 0 for none (R269). -/
  vtag : List (Nat × Nat) := []
  tlb : List TlbEntry := []
  shoots : List Shootdown := []
deriving DecidableEq, Repr

/-- Time-triggered mode and the local clock (R282, R283). -/
structure TtMode where
  on : Bool := false
  period : Nat := 0
  epoch : Nat := 0
  /-- The 64 rows (R282). -/
  rows : List TtSlot := List.replicate 64 {}
  timeOfDay : Nat := 0
  seconds : Nat := 0
deriving DecidableEq, Repr

/-- Energy accounting (R387–R389). -/
structure Energy where
  /-- The counter of each island, by its number. -/
  islands : List (Nat × Nat) := []
  budget : List (Nat × Nat) := []
  classes : List (Nat × Nat) := []
  /-- The islands that run below nominal in this window, each with the partition for which it does. -/
  slowed : List (Nat × Nat) := []
deriving DecidableEq, Repr

/-- Reliability state of the cores and the checkpoint engine (R357–R364). -/
structure Reliability where
  fenced : List Nat := []
  /-- When a lane of a core last passed: core + 256 × lane; and when a core last passed a sweep of all its lanes. -/
  passed : List (Nat × Nat) := []
  swept : List (Nat × Nat) := []
  /-- Cores of which a disagreement asked for a sweep, and whether they are fenced even though it passes (R356). -/
  sweeps : List (Nat × Bool) := []
  /-- The stays on cores that have ended: core, CTXID, TID, and when the tandem left (R358). -/
  stays : List (Nat × Nat × Nat × Nat) := []
  quiesced : Bool := false
  safe : Option Safe := none
deriving DecidableEq, Repr

/-- Debug and security state (R375–R386). -/
structure Debug where
  /-- Comparator c of cluster i is entry 8 × i + c. -/
  comparators : List (Nat × Comparator) := []
  frozen : List Nat := []
  /-- When each frozen cluster froze: its clocks stand from then on (R378). -/
  frozenAt : List (Nat × Nat) := []
  /-- Replies held in a frozen cluster's skid buffer: cluster, tag, data. -/
  skid : List (Nat × Nat × List Byte) := []
  /-- A comparator match has been reported and the access may go ahead once: the hart. -/
  passed : List Nat := []
  /-- Context sinks by context number; 65536 is the firmware domain's. -/
  sinks : List (Nat × Sink) := []
  dsm : Nat := 0
  measurements : List Nat := []
  keys : List (Nat × Nat) := []
  challenge : Option Nat := none
  unlockFails : Nat := 0
  firmwareOpen : Bool := false
  /-- Granules of device memory that the firmware's map closes to the host (R373). -/
  closed : List Nat := []
  /-- Granules to which the map assigns another key slot than that of the data there (R373). -/
  otherKey : List Nat := []
deriving DecidableEq, Repr

/-- A tagged request of a peer that has been performed (R367): the peer and its tag, what it is answered with, over which port, and once which of each die's own writes
have been applied at every die (R124). -/
structure Served where
  tag : Nat × Nat
  port : Nat
  data : List Byte
  after : List Nat := [0, 0, 0, 0]
  answered : Bool := false
deriving DecidableEq, Repr

/-- Links and the host attachment (R365–R374). -/
structure Links where
  ports : List (Nat × Port) := []
  /-- The peer route table: valid bit and port mask of each entry. -/
  routes : List (Nat × Bool × BitVec 12) := []
  requests : List Request := []
  nextTag : Nat := 0
  /-- Tagged requests of peers already performed. -/
  served : List Served := []
deriving DecidableEq, Repr

/-- The 32 bytes of a fault record, as four words (R346). -/
def FaultRecord.dwords (r : FaultRecord) : List Nat :=
  let kind : Nat := match r.kind with
    | .load => 0 | .store => 1 | .atomic => 2 | .fetch => 3 | .copyRead => 4 | .copyWrite => 5 | .replay => 6
  [r.csn, r.addr.toNat,
   r.qid + r.core % 256 * 2 ^ 12 + r.slot * 2 ^ 20 + r.side * 2 ^ 23 + kind * 2 ^ 25 + r.reason * 2 ^ 28 + r.asid * 2 ^ 32 + r.tid * 2 ^ 41,
   r.age % 2 ^ 32]

/-- A die's fault buffer (R346, R347). -/
structure FaultBuffer where
  records : List FaultRecord := []
  age : Nat := 0
  overflow : Nat := 0
deriving DecidableEq, Repr

/-- A write of the Thoud for context `ctx` by die `die`, of its kernel area or of a set's header, that waits for a migration (R284, R315, R332). -/
structure AreaWrite where
  ctx : Nat
  die : Nat
  addr : Nat
  data : List Byte
  /-- It is made in the system view, and a failure of it makes the context FAULTED; one of a queue block or a set's header is neither (R270, R307). -/
  faults : Bool := true
deriving DecidableEq, Repr

/-- One access that the instruction under way has made (the model's own note for the recorder, the sweep and the history). -/
structure Note where
  store : Bool
  shared : Bool
  va : Nat
  len : Nat := 1
  /-- The first physical byte of each run of consecutive bytes. -/
  pas : List Nat
  dev : Bool
  /-- Every page it touches is PRESENT. -/
  present : Bool := true
  /-- It is no access of the program itself, but one that makes an extrapolated value (R336). -/
  side : Bool := false
  /-- What the stored bytes held before and what they hold now, for a store. -/
  old : List Byte := []
  new : List Byte := []
deriving DecidableEq, Repr

/-- The state of the device. `me` is the hart in focus, `peer` the other side of its tandem `tan`; every other tandem is in
`away`. -/
structure State where
  onA : Bool
  me : Hart
  peer : Hart
  tan : Tandem
  away : List Away
  mem : Mem
  paging : Paging
  ctxs : List Context
  queues : List Queue
  kernels : List Kernel
  groups : List Group
  links : Links
  tt : TtMode
  energy : Energy
  rel : Reliability
  dbg : Debug
  ready0 : Word
  ready1 : Word
  faults : List (Nat × FaultBuffer)
  /-- Writes of kernel areas that wait for the migration of their page, in order (R284, R315). -/
  areaWrites : List AreaWrite
  /-- Events and turns from outside that the device has still to take, in order. -/
  inputs : List Input
  reports : List Report
  /-- Clocks since device reset. -/
  now : Nat
  /-- How many free values have been used: the argument of the next one (the model's own field). -/
  free : Nat
  /-- The word of the instruction under way, and its accesses (the model's own fields). -/
  ir : BitVec 32
  notes : List Note
  /-- Steps left to the hart in focus before another gets a turn (the model's own field, R28–R30). -/
  quantum : Nat
  nextUid : Nat
  /-- The queue last served, for the round-robin of R280. -/
  lastServed : Nat
  /-- A hart runs: false until a tandem or a firmware core is in focus. -/
  live : Bool
deriving DecidableEq, Repr

/-- Why the machine stops with a fault. -/
inductive Fault where
  /-- Raised by a host CXL.mem access or a peer request to a physical address outside device memory, which the range it is made
  in does not have (R89, R365, R373). Safe: the machine stops where the access does not exist. -/
  | outsideDevice (pa : Nat)
deriving DecidableEq, Repr

/-- Why an instruction has no meaning here. -/
inductive Refusal where
  /-- Raised by an arm of the dispatch for an instruction whose meaning is not written. Safe: nothing is claimed of it. -/
  | notModelled (mnemonic : String)
deriving DecidableEq, Repr

/-- The device right after reset: nothing bound, no tandem, empty queues, memory not written, every port down and every READY bit
0 (R270, R279, R368, R390), no firmware core started, DSM the digest of 64 zero bytes (R384). [DESIGN CHOICE, log 1] -/
def State.reset : State where
  onA := false
  me := {}
  peer := {}
  tan := {}
  away := []
  mem := {}
  paging := {}
  ctxs := []
  queues := []
  kernels := []
  groups := []
  links := {}
  tt := {}
  energy := {}
  rel := {}
  dbg := { dsm := Config.sha512 (List.replicate 64 0) }
  ready0 := 0
  ready1 := 0
  faults := []
  areaWrites := []
  inputs := []
  reports := []
  now := 0
  free := 0
  ir := 0
  notes := []
  quantum := 64
  nextUid := 1
  lastServed := 4095
  live := false

end Sys2Proof.Machine
end

