-- ==== Sys2Proof/Machine/Mem.lean ====
section
/-! DEFINITION. Memory: device memory and its die views (R89, R119–R122), scratch (R86, R392), and the physical map (R365). -/

namespace Sys2Proof.Machine

/-- What an unlisted byte of memory reads as. [DESIGN CHOICE, log 2] -/
def memDefault : Byte := 0

/-- The canonical form of a list of memory cells: addresses strictly rising, none equal to what an unlisted byte reads as. [DESIGN CHOICE, log 10] -/
abbrev Memory.wf (m : List Host.Cell) : Bool := sparseWf memDefault m

/-- One byte of a list of cells. -/
def readCell (m : List Host.Cell) (pa : Nat) : Byte := sparseGet memDefault m pa

/-- A list of cells with the bits `mask` of one byte replaced by those of `val`. -/
def writeCell (m : List Host.Cell) (pa : Nat) (val mask : Byte) : List Host.Cell :=
  sparseSet memDefault m pa ((val &&& mask) ||| (readCell m pa &&& ~~~mask))

/-- A list of cells with several bytes written, in order. -/
def writeCells (m : List Host.Cell) : List (Nat × Byte × Byte) → List Host.Cell
  | [] => m
  | (pa, val, mask) :: r => writeCells (writeCell m pa val mask) r

/-- What the writes of a list, in order, make of a byte that reads `b` before them. -/
def overlay (pa : Nat) (b : Byte) : List (Nat × Byte × Byte) → Byte
  | [] => b
  | (q, val, mask) :: r => overlay pa (if q = pa then (val &&& mask) ||| (b &&& ~~~mask) else b) r

/-- A byte of device memory as the writes in flight that `keep` selects leave it: they stand in coherence order, so a byte keeps
the latest of those applied (R121). -/
def flightByte (keep : Flight → Bool) (pa : Nat) (b : Byte) : List Flight → Byte
  | [] => b
  | f :: r => flightByte keep pa (if keep f then overlay pa b f.bytes else b) r

/-- Die `d` has applied the write (R119). -/
def Flight.seenBy (f : Flight) (d : Nat) : Bool := f.seen.getD d false

/-- A byte as die `d`'s view holds it (R119). -/
def Mem.viewByte (m : Mem) (d pa : Nat) : Byte :=
  flightByte (fun f => f.seenBy d) pa (readCell m.cells pa) m.flight

/-- A byte as the latest write of its coherence order leaves it, whichever dies have applied it (R131). -/
def Mem.latestByte (m : Mem) (pa : Nat) : Byte :=
  flightByte (fun _ => true) pa (readCell m.cells pa) m.flight

/-- Bytes `pa, pa + 1, …` in a die's view. -/
def Mem.viewBytes (m : Mem) (d pa : Nat) : Nat → List Byte
  | 0 => []
  | n + 1 => m.viewByte d pa :: m.viewBytes d (pa + 1) n

/-- The little-endian number at a physical address in a die's view. -/
def Mem.viewNat (m : Mem) (d pa n : Nat) : Nat := ofBytes (m.viewBytes d pa n)

/-- Writes that every die has applied become part of the memory all views agree on. -/
def settle (cells : List Host.Cell) : List Flight → List Host.Cell × List Flight
  | [] => (cells, [])
  | f :: r => if f.seen.all id && f.seen.length == 4 then settle (writeCells cells f.bytes) r else (cells, f :: r)

/-- The memory with its settled writes folded in. -/
def Mem.settled (m : Mem) : Mem :=
  let r := settle m.cells m.flight
  { m with cells := r.1, flight := r.2 }

/-- A store of a hart of die `d`, or a write that arrives at die `d`: it takes effect in that view at once, tagged with the view's
vector clock, and is applied elsewhere later (R119, R120). [DEDUCED, log 22] -/
def Mem.store (m : Mem) (d : Nat) (bytes : List (Nat × Byte × Byte)) : Mem :=
  let clock := m.clocks.getD d [0, 0, 0, 0]
  let clock' := setNth clock d (clock.getD d 0 + 1)
  { m with
    clocks := setNth m.clocks d clock'
    flight := m.flight ++ [{ origin := d, tag := clock', bytes := bytes, seen := (range 0 4).map (fun e => e == d) }] }

/-- A die may apply a write when it has applied every causal predecessor: the write before it of its own die, and for every other
die all that the write's view held (R120). -/
def Mem.mayApply (m : Mem) (d : Nat) (f : Flight) : Bool :=
  let clock := m.clocks.getD d [0, 0, 0, 0]
  !f.seenBy d && (range 0 4).all (fun j =>
    if j = f.origin then clock.getD j 0 + 1 = f.tag.getD j 0 else f.tag.getD j 0 ≤ clock.getD j 0)

/-- Die `d` applies write `k` of the list (R120). -/
def Mem.apply (m : Mem) (d k : Nat) : Mem :=
  match m.flight[k]? with
  | none => m
  | some f =>
    if m.mayApply d f then
      let clock := m.clocks.getD d [0, 0, 0, 0]
      Mem.settled { m with
        clocks := setNth m.clocks d (setNth clock f.origin (f.tag.getD f.origin 0))
        flight := setNth m.flight k { f with seen := setNth f.seen d true } }
    else m

/-- Every write that die `d`'s view holds is applied at die `e` (R122, R131). -/
def Mem.pull (m : Mem) (d e : Nat) : Mem :=
  let cd := m.clocks.getD d [0, 0, 0, 0]
  let ce := m.clocks.getD e [0, 0, 0, 0]
  Mem.settled { m with
    clocks := setNth m.clocks e ((range 0 4).map (fun j => max (cd.getD j 0) (ce.getD j 0)))
    flight := m.flight.map (fun f => if f.seenBy d then { f with seen := setNth f.seen e true } else f) }

/-- A write with this tag, and all its causal predecessors, are applied at die `d` (R120). -/
def Mem.absorb (m : Mem) (tag : List Nat) (d : Nat) : Mem :=
  let c := (range 0 4).map (fun j => max ((m.clocks.getD d [0, 0, 0, 0]).getD j 0) (tag.getD j 0))
  Mem.settled { m with
    clocks := setNth m.clocks d c
    flight := m.flight.map (fun f =>
      if f.tag.getD f.origin 0 ≤ c.getD f.origin 0 then { f with seen := setNth f.seen d true } else f) }

/-- Every write in flight to one of `n` bytes from `pa` is applied, with its causal predecessors, at die `d` (R105, R114, R120). -/
def Mem.catchUp (m : Mem) (pa n d : Nat) : Mem :=
  ((m.flight.filter (fun f => f.bytes.any (fun b => decide (pa ≤ b.1 ∧ b.1 < pa + n)))).map (·.tag)).foldl (fun m t => m.absorb t d) m

/-- Every write in die `d`'s view has been applied at every die (R122, R124). -/
def Mem.publish (m : Mem) (d : Nat) : Mem := (range 0 4).foldl (fun m e => m.pull d e) m

/-- What every die's view holds is applied at every die, as after FENCE.REL.SYSTEM on each (R124). -/
def publishAll (m : Mem) : Mem := (range 0 4).foldl (fun m d => m.publish d) m

/-- Every write present in die `d`'s view has been applied at every die. -/
def Mem.published (m : Mem) (d : Nat) : Bool := m.flight.all (fun f => !f.seenBy d || f.seen.all id)

/-- The ranges of physical addresses (R365). -/
inductive Region where
  | device | doorbell | peer (n : Nat) | host | unassigned
deriving DecidableEq, Repr

/-- Device memory ends here (R89). -/
def deviceTop : Nat := 0x9000000000

/-- Which range a physical address lies in (R365). -/
def regionOf (pa : Nat) : Region :=
  if pa < deviceTop then .device
  else if pa < 0x9001000000 then .doorbell
  else if 0x8000000000000 ≤ pa ∧ pa < 0x10000000000000 then .host
  else if 0x4000000000000 ≤ pa ∧ pa < 0x4000000000000 + 1024 * 0x10000000000 then
    (if (pa - 0x4000000000000) % 0x10000000000 < deviceTop then .peer ((pa - 0x4000000000000) / 0x10000000000)
     else .unassigned)
  else .unassigned

/-- The station that homes a byte of device memory, and its die (R89). -/
def homeStation (pa : Nat) : Nat := pa / 0xC00000000

/-- The die that homes a byte of device memory (R89). -/
def homeDie (pa : Nat) : Nat := homeStation pa / 3

/-- The die, and the cluster, of a core (R7). -/
def coreDie (core : Nat) : Nat := core / 64

/-- The cluster of a core (R7). -/
def coreCluster (core : Nat) : Nat := core / 4

/-- The extent of a cluster's scratch (R86). -/
def scratchSize : Nat := 0x400000

/-- Bytes of device memory, each as the latest write applied at its home die leaves it. -/
def homeBytes (m : Mem) (pa n : Nat) : List Byte := (range pa n).map (fun a => m.viewByte (homeDie a) a)

/-- Bytes written to device memory, each in the bits given, taking effect first in the view of each byte's home die. -/
def homeStore (m : Mem) (pa : Nat) (data : List (Byte × Byte)) : Mem :=
  let bs := (range pa data.length).zip data
  (range 0 4).foldl (fun m d =>
    let mine := bs.filter (fun e => homeDie e.1 == d)
    if mine.isEmpty then m else m.store d mine) m

/-- A scratch byte: what was written to it, or a value that is not fixed (R392). -/
def Mem.scratchByte (m : Mem) (free unit off : Nat) : Byte :=
  (lookup m.scratch (unit * 0x400000 + off)).getD (Config.freeByte free (unit * 0x400000 + off))

/-- A scratch byte written, in the bits `mask`. -/
def Mem.writeScratch (m : Mem) (free unit off : Nat) (val mask : Byte) : Mem :=
  let b := (val &&& mask) ||| (m.scratchByte free unit off &&& ~~~mask)
  { m with scratch := insertKey m.scratch (unit * 0x400000 + off) b }

end Sys2Proof.Machine
end

