-- ==== Sys2Proof/Machine/Page.lean ====
section
/-! DEFINITION. Translation of global addresses (R85, R303–R315). -/

namespace Sys2Proof.Machine

/-- An access kind that writes: an atomic always counts as a write (R308). -/
def AccessKind.writes : AccessKind → Bool
  | .store | .atomic | .copyWrite => true
  | .load | .fetch | .copyRead | .replay => false

/-- Why a byte of an access has no translation. -/
inductive XlatErr where
  /-- SPACE-BOUND (R85, R303). -/
  | spaceBound
  /-- A page fault, with its reason code (R308). -/
  | page (reason : Nat)
  /-- A write to a page under migration waits (R315). -/
  | migrate
  /-- A station that is not ready homes a table entry or the byte itself: the access waits (R390). -/
  | notReady
  /-- The translation root cannot be walked: the context faults (R270). -/
  | root
deriving DecidableEq, Repr

/-- The access is made again later: it waits for a migration or for a station (R315, R390). -/
def XlatErr.later : XlatErr → Bool
  | .migrate | .notReady => true
  | _ => false

/-- A translated byte: where it lies, its page's attributes, and what the walk may cache. -/
structure Xlat where
  pa : Nat
  attr : Nat
  /-- The byte of the table entry that holds A and D, for the scalar tables; the vector entry otherwise. -/
  mark : Nat ⊕ Nat
  /-- The size of the page, as a power of two. -/
  shift : Nat := 12
  install : Option TlbEntry := none
  /-- A firmware core's physical address, which no table entry translates. -/
  direct : Bool := false
deriving DecidableEq, Repr

/-- The page state ST, and DEV (R307). -/
def Xlat.st (x : Xlat) : Nat := x.attr % 8

/-- The page is of class DEV (R101, R307). -/
def Xlat.dev (x : Xlat) : Bool := bit x.attr 6

/-- The page is DISCARDED: reads give 0 and touch no frame (R312). -/
def Xlat.discarded (x : Xlat) : Bool := x.st == 3

/-- A 64-bit value is a canonical global address: bits 63..57 equal bit 56 (R85). -/
def canonical (a : Nat) : Bool := a / 2 ^ 56 == 0 || a / 2 ^ 56 == 255

/-- An address of the vector region (R303). [DESIGN CHOICE, log 27] -/
def vectorRegion (a : Nat) : Bool := a / 2 ^ 41 == 0

/-- The context with a number. -/
def State.ctx? (s : State) (n : Nat) : Option Context := s.ctxs.find? (fun c => c.num == n)

/-- What stands for a context at a firmware core's hart: no context has this number. [DESIGN CHOICE, log 14] -/
def firmwareCtx : Nat := 65536

/-- The context of the tandem in focus. -/
def State.myCtx (s : State) : Context := (s.ctx? s.tan.ctx).getD { num := s.tan.ctx, block := 0 }

/-- The SPACE-BOUND checks of one byte of a global access (R85, R303). A firmware core has no regions. [DESIGN CHOICE, log 14] -/
def byteInBounds (c : Context) (vectorPort : Bool) (a : Nat) : Bool :=
  canonical a && (c.num == firmwareCtx || if vectorRegion a then decide (a < c.vcount * 2 ^ 25) else !vectorPort)

/-- The first check of R308 that an access through these attributes fails. [DEDUCED, log 28] -/
def attrFault (attr : Nat) (misaligned : Bool) (pa : Nat) (kind : AccessKind) (system : Bool) : Option Nat :=
  let st := attr % 8
  if attr / 2 ^ 11 ≠ 0 ∨ st > 4 ∨ misaligned = true ∨ (bit attr 6 = true ∧ bits attr 8 7 ≠ 0) then some 7
  else if st ≠ 0 ∧ st ≠ 3 ∧ regionOf pa = .unassigned then some 7
  else if st = 0 ∨ (kind = .fetch ∧ st = 3) then some 1
  else if st = 4 then some 6
  else if system = false ∧ bit attr 5 = false then some 4
  else if kind = .fetch ∧ bit attr 4 = false then some 3
  else if kind.writes = true ∧ bit attr 3 = false then some 2
  else if kind.writes = true ∧ st = 3 then some 5
  else none

/-- A directory or leaf as it then stands in memory, whichever dies have applied its latest write (R314); an uncorrectable error there is a
walk error (R308), and a station that is not ready is waited for: `r` is READY1 (R390). [DEDUCED, log 95] -/
def walkRead (m : Mem) (r : Word) (pa n : Nat) : Except XlatErr Nat :=
  if r.getLsbD (homeStation pa) = false then .error .notReady
  else if (range pa n).any (fun p => (lookup m.bad p).isSome) then .error (.page 8)
  else .ok (ofBytes ((range pa n).map m.latestByte))

/-- A leaf line's translation of entry `e` (R306, R308, R309): `shift` gives the page size. -/
def leafXlat (m : Mem) (r : Word) (d : Nat) (asid : Option Nat) (line e shift a : Nat) (kind : AccessKind) (system : Bool) : Except XlatErr Xlat :=
  match walkRead m r line 64 with
  | .error e => .error e
  | .ok w =>
    let entry (i : Nat) : Nat := bits w (56 * i + 55) (56 * i)
    let fnOf (i : Nat) : Nat := entry i % 2 ^ 40
    let attrOf (i : Nat) : Nat := entry i / 2 ^ 40
    let summary := w / 2 ^ 448
    let attr := attrOf e
    let off := a % 2 ^ shift
    let pa := fnOf e * 4096 + off
    match attrFault attr (decide (fnOf e % 2 ^ (shift - 12) ≠ 0)) pa kind system with
    | some r => .error (.page r)
    | none =>
      if attr % 8 = 2 ∧ kind.writes = true then .error .migrate
      else
        let stride := summary % 2 ^ 41
        let uniform := bit summary 63 && (range 0 8).all (fun i =>
          attrOf i % 8 == 1 && (attrOf i &&& 0xF9FF) == (attrOf 0 &&& 0xF9FF) &&
          fnOf i == (fnOf 0 + i * stride) % 2 ^ 40)
        let vpn := a / 2 ^ shift
        let install : Option TlbEntry := asid.bind (fun asid =>
          if attr % 8 ≠ 1 then none
          else if uniform then
            some { die := d, asid := asid, vpn := vpn - e, pages := 8, shift := shift, fn := fnOf 0, stride := stride,
                   attr := attr, line := line, first := 0 }
          else some { die := d, asid := asid, vpn := vpn, pages := 1, shift := shift, fn := fnOf e, stride := 0,
                      attr := attr, line := line, first := e })
        .ok { pa := pa, attr := attr, mark := .inl (line + 7 * e + 6), shift := shift, install := install }

/-- The walk below a directory: `level` directories are left, 3 for L4 (R305). What makes an entry malformed is looked at before V (R308). A walk
of a context without an ASID leaves nothing to be cached, for it would carry no tag (R269). [DEDUCED, log 95] -/
def walkFrom (m : Mem) (r : Word) (d : Nat) (asid : Option Nat) (a : Nat) (kind : AccessKind) (system : Bool) :
    Nat → Nat → Except XlatErr Xlat
  | 0, table =>
    -- the L1 directory
    match walkRead m r (table + 8 * bits a 29 21) 8 with
    | .error e => .error e
    | .ok e =>
      let next := bits e 51 8 * 256
      let t := bits e 2 1
      if bits e 63 52 ≠ 0 ∨ bits e 7 3 ≠ 0 ∨ (t ≠ 1 ∧ t ≠ 2) ∨ (t = 1 ∧ bits e 11 8 ≠ 0) then
        .error (.page 7)
      else if e % 2 = 0 then .error (.page 1)
      else if t = 1 then leafXlat m r d asid (next + 64 * bits a 20 15) (bits a 14 12) 12 a kind system
      else leafXlat m r d asid (next + 64 * bits a 20 19) (bits a 18 16) 16 a kind system
  | level + 1, table =>
    let shift := 30 + 9 * level
    match walkRead m r (table + 8 * bits a (shift + 8) shift) 8 with
    | .error e => .error e
    | .ok e =>
      let next := bits e 51 8 * 256
      let t := bits e 2 1
      if bits e 63 52 ≠ 0 ∨ bits e 7 3 ≠ 0 ∨ (t ≠ 0 ∧ ¬(level = 0 ∧ t = 3)) ∨ bits e 11 8 ≠ 0 then .error (.page 7)
      else if e % 2 = 0 then .error (.page 1)
      else if t = 0 then walkFrom m r d asid a kind system level next
      else leafXlat m r d asid (next + 64 * bits a 29 24) (bits a 23 21) 21 a kind system

/-- A cached translation of an ASID that serves an address (R269, R309). -/
def tlbHit (tlb : List TlbEntry) (d : Nat) (asid : Option Nat) (a : Nat) : Option TlbEntry :=
  tlb.find? (fun e => e.die == d && asid == some e.asid && decide (e.vpn ≤ a / 2 ^ e.shift) &&
    decide (a / 2 ^ e.shift < e.vpn + e.pages))

/-- The translation that a cached entry gives. -/
def TlbEntry.xlat (e : TlbEntry) (a : Nat) (kind : AccessKind) (system : Bool) : Except XlatErr Xlat :=
  let i := a / 2 ^ e.shift - e.vpn
  let frame := (e.fn + i * e.stride) % 2 ^ 40
  let pa := frame * 4096 + a % 2 ^ e.shift
  match attrFault e.attr (decide (frame % 2 ^ (e.shift - 12) ≠ 0)) pa kind system with
  | some r => .error (.page r)
  | none => .ok { pa := pa, attr := e.attr, mark := .inl (e.line + 7 * (e.first + i) + 6), shift := e.shift }

/-- The vector-table entry of a context's page on a die; an entry tagged for another context translates nothing (R269). -/
def Paging.vectorEntry (p : Paging) (c : Context) (d n : Nat) : Nat :=
  if sparseGet 0 p.vtag (c.vbase + n) = c.serial then (sparseGet 0 p.vtab (131072 * d + c.vbase + n)).toNat else 0

/-- The vector table's translation (R310). -/
def vectorXlat (p : Paging) (c : Context) (d a : Nat) (kind : AccessKind) (system : Bool) : Except XlatErr Xlat :=
  let e := p.vectorEntry c d (a / 2 ^ 25)
  let attr := e % 65536
  let pa := bits e 51 25 * 2 ^ 25 + a % 2 ^ 25
  match attrFault attr false pa kind system with
  | some r => .error (.page r)
  | none =>
    if attr % 8 = 2 ∧ kind.writes = true then .error .migrate
    else .ok { pa := pa, attr := attr, mark := .inr (131072 * d + c.vbase + a / 2 ^ 25), shift := 25 }

/-- A firmware core's access: its address is the physical one, device memory as IDEM and the other ranges as DEV. [DESIGN CHOICE, log 14] -/
def directXlat (a : Nat) (kind : AccessKind) : Except XlatErr Xlat :=
  let attr : Nat := if regionOf a = .device then 0x39 else 0x79
  match attrFault attr false a kind true with
  | some r => .error (.page r)
  | none => .ok { pa := a, attr := attr, mark := .inr 0, direct := true }

/-- The translation of one byte of a global access by die `d` in context `c` (R303–R310). The bounds come first (R303). An access that a cached
entry stops takes that fault: its retry finds the entry then in memory (R311, R313). -/
def translate (s : State) (c : Context) (d : Nat) (vectorPort system : Bool) (kind : AccessKind) (a : Nat) :
    Except XlatErr Xlat :=
  if byteInBounds c vectorPort a = false then .error .spaceBound
  else if c.num = firmwareCtx then directXlat a kind
  else if vectorRegion a then vectorXlat s.paging c d a kind system
  else
    match tlbHit s.paging.tlb d c.asid a with
    | some e => e.xlat a kind system
    | none => if regionOf c.sroot ≠ .device then .error .root else walkFrom s.mem s.ready1 d c.asid a kind system 3 c.sroot

/-- The entries that a die's last-level TLB holds (R8). -/
def tlbSize : Nat := 65536

/-- A translation enters its die's TLB; a full one drops an entry that the spec does not choose (R8, R309). [DESIGN CHOICE, log 107] -/
def installXlat (s : State) (e : TlbEntry) : State :=
  if s.paging.tlb.contains e then s
  else
    let mine := s.paging.tlb.filter (fun x => x.die == e.die)
    if mine.length < tlbSize then { s with paging := { s.paging with tlb := e :: s.paging.tlb } }
    else
      let gone := mine[Config.choice s.free % mine.length]?
      { s with free := s.free + 1, paging := { s.paging with tlb := e :: s.paging.tlb.filter (fun x => some x ≠ gone) } }

/-- A translated access leaves the entry that its walk found in the TLB (R309). -/
def cacheXlat (s : State) (x : Xlat) : State :=
  match x.install with
  | some e => installXlat s e
  | none => s

/-- A translated access sets A of its page's entry and, where it writes, D (R307). -/
def setAccessed (s : State) (kind : AccessKind) (x : Xlat) : State :=
  let want : Nat := if kind.writes then 6 else 2
  if x.direct = true then s
  else match x.mark with
  | .inl pa =>
    let old := (s.mem.latestByte pa).toNat
    if old &&& want = want then s
    else { s with mem := s.mem.store (homeDie pa) [(pa, BitVec.ofNat 8 want, BitVec.ofNat 8 want)] }
  | .inr idx =>
    let e := sparseGet 0 s.paging.vtab idx
    { s with paging := { s.paging with vtab := sparseSet 0 s.paging.vtab idx (e ||| BitVec.ofNat 64 (want * 256)) } }

/-- What a translated access leaves behind: the cached entry, and A and, for a write, D (R307, R309). -/
def markXlat (s : State) (kind : AccessKind) (x : Xlat) : State := setAccessed (cacheXlat s x) kind x

/-- A byte's home station is ready; memory that no station homes always is (R390). -/
def State.stationReady (s : State) (x : Xlat) : Bool :=
  regionOf x.pa != .device || x.discarded || s.ready1.getLsbD (homeStation x.pa)

/-- The CXL port is trained, so that host memory can be reached (R390). -/
def State.hostReady (s : State) : Bool := s.ready1.getLsbD 28

/-- What keeps the Thoud's own access to a translated byte from being made now: its station is not ready, or the CXL port is not, which is handled as a
port without which there is no other (R370, R390). [DEDUCED, log 84] -/
def State.thoudStop (s : State) (x : Xlat) : Option XlatErr :=
  if s.stationReady x = false then some .notReady
  else if regionOf x.pa = .host ∧ x.discarded = false ∧ s.hostReady = false then some (.page 9)
  else none

/-- The translations of `n` bytes from `a`: the bounds of every byte first, then each byte's page (R303, R314). The error names the
byte. -/
def translateBytes (s : State) (c : Context) (d : Nat) (vectorPort system : Bool) (kind : AccessKind) (a n : Nat) :
    Except (XlatErr × Nat) (List Xlat) :=
  match (range a n).find? (fun b => byteInBounds c vectorPort (b % 2 ^ 64) = false) with
  | some b => .error (.spaceBound, b % 2 ^ 64)
  | none => (range a n).foldr (fun b r =>
      match translate s c d vectorPort system kind (b % 2 ^ 64) with
      | .error e => .error (e, b % 2 ^ 64)
      | .ok x =>
        match r with
        | .error e => .error e
        | .ok xs => .ok (x :: xs)) (.ok [])

end Sys2Proof.Machine
end

