-- ==== Sys2Proof/Machine/Focus.lean ====
section
/-! DEFINITION. The tandems of the device and the hart in focus: where a tandem acts (R6, R7, R84, R151), changes made to every tandem, and the
moving of the focus (R13, R33). -/

namespace Sys2Proof.Machine

/-- The scratch that a tandem's shared space is: its cluster's, or a firmware core's own local memory (R84, R151). -/
def Tandem.unit (t : Tandem) : Nat :=
  match t.firmware with
  | some i => 64 + i
  | none => coreCluster t.core

/-- The die a tandem runs on. An I/O tile attaches to two dies, and its firmware cores act in the view of the lower one (R6). [DESIGN CHOICE, log 105] -/
def Tandem.die (t : Tandem) : Nat :=
  match t.firmware with
  | some i => i / 2 * 2
  | none => coreDie t.core

/-- The cluster of a tandem is frozen; a firmware core belongs to none (R6, R378). -/
def State.frozen (s : State) (t : Tandem) : Bool := t.firmware.isNone && s.dbg.frozen.contains (coreCluster t.core)

/-- A hart's number: 2 × its tandem's number + its side. -/
def hartNumber (t : Tandem) (onA : Bool) : Nat := 2 * t.uid + (if onA then 1 else 0)

/-- The tandem in focus with both its harts. -/
def State.focusAway (s : State) : Away :=
  if s.onA then { t := s.tan, e := s.peer, a := s.me } else { t := s.tan, e := s.me, a := s.peer }

/-- The state with the tandem in focus replaced. -/
def State.withFocus (s : State) (x : Away) : State :=
  if s.onA then { s with tan := x.t, peer := x.e, me := x.a } else { s with tan := x.t, me := x.e, peer := x.a }

/-- Change, one after the other, every tandem away from the focus that a test selects. -/
def mapAway (p : Tandem → Bool) (f : State → Away → State × Away) : State → List Away → State × List Away
  | s, [] => (s, [])
  | s, x :: r =>
    let (s, x) := if p x.t then f s x else (s, x)
    let (s, r) := mapAway p f s r
    (s, x :: r)

/-- Change every tandem that a test selects: the one in focus first. -/
def mapTandems (p : Tandem → Bool) (f : State → Away → State × Away) (s : State) : State :=
  let s := if s.live && p s.tan then (let r := f s s.focusAway; r.1.withFocus r.2) else s
  let r := mapAway p f s s.away
  { r.1 with away := r.2 }

/-- Every tandem of the device. -/
def State.allTandems (s : State) : List Away := (if s.live then [s.focusAway] else []) ++ s.away

/-- The tandem with a number. -/
def State.tandem? (s : State) (u : Nat) : Option Away := s.allTandems.find? (fun x => x.t.uid == u)

/-- A hart is a firmware core's (R151). -/
def State.isFirmware (s : State) (hart : Nat) : Bool := ((s.tandem? (hart / 2)).map (fun x => x.t.firmware.isSome)).getD false

/-- Move the focus to a hart: its tandem comes into focus and the former one goes away. -/
def State.focus (s : State) (h : Nat) : State :=
  let u := h / 2
  let onA := decide (h % 2 = 1)
  if s.live && s.tan.uid == u then
    if s.onA == onA then s else { s with onA := onA, me := s.peer, peer := s.me }
  else
    match s.away.find? (fun x => x.t.uid == u) with
    | none => s
    | some x =>
      let rest := s.away.filter (fun y => y.t.uid ≠ u)
      let s' := { s with away := if s.live then rest ++ [s.focusAway] else rest, onA := onA, live := true }
      s'.withFocus x

/-- The number of the hart in focus. -/
def State.hart (s : State) : Nat := hartNumber s.tan s.onA

/-- Do something at a hart and come back to the hart in focus. Where there is no such hart nothing happens. -/
def atHart (h : Nat) (f : State → State) (s : State) : State :=
  match s.tandem? (h / 2) with
  | none => s
  | some _ =>
    let back := s.hart
    let wasLive := s.live
    let s' := f (s.focus h)
    if wasLive then s'.focus back else s'

/-- The clock as a tandem's core counts it: that of a frozen cluster stands (R378). -/
def State.clockOf (s : State) (t : Tandem) : Nat :=
  if s.frozen t then (lookup s.dbg.frozenAt (coreCluster t.core)).getD s.now else s.now

/-- CYCLE and ENERGY count while the tandem is resident: what its stay has brought is added when it leaves (R48, R387). [DESIGN CHOICE, log 8] -/
def bankCycles (s : State) (t : Tandem) (h : Hart) : Hart :=
  match t.place with
  | .resident _ _ =>
    let now := s.clockOf t
    { h with csr := { h.csr with
        cycle := h.csr.cycle + BitVec.ofNat 64 (now - t.since)
        energy := BitVec.ofNat 64 (min (h.csr.energy.toNat + Config.stayMicrojoules t.uid t.since now) (2 ^ 64 - 1)) } }
  | _ => h

/-- The stay of a tandem on a core ends (R358). -/
def endStay (s : State) (t : Tandem) : State :=
  match t.place with
  | .resident core _ =>
    let id := ((s.ctx? t.ctx).map (·.id)).getD 0
    if t.firmware.isSome then s
    else { s with rel := { s.rel with stays := s.rel.stays ++ [(core, id, t.tid, s.now)] } }
  | _ => s

end Sys2Proof.Machine
end

