-- ==== Sys2Proof/Machine/Image.lean ====
section
/-! DEFINITION. The context image (R41–R45): the bytes that stand for a tandem's registers, how they are written when the tandem
leaves, and what an access to them from outside meets. The registers themselves stay with the tandem, as in the register cache of R43; so do
the program counters, windows, checkpoints and engine state that R41 gives no offset. -/

namespace Sys2Proof.Machine

/-- The numbers of the CSRs a hart holds itself (R48). -/
def csrNumbers : List Nat := [0x000, 0x001, 0x002, 0x010, 0x011, 0x100, 0x101, 0x102, 0x103, 0x104, 0x105, 0x200, 0x201, 0x202, 0x203, 0x204, 0x205, 0x300, 0x301, 0x302, 0x400, 0x401, 0x500, 0x501, 0x502, 0x503, 0x504, 0x505, 0x600, 0x601, 0x602]

/-- The CSR with a number, as the hart holds it (R48); none for a number that is not defined or that the tandem holds. -/
def Csr.get (c : Csr) (n : Nat) : Option Word :=
  match n with
  | 0x000 => some c.frm
  | 0x001 => some c.fflags
  | 0x002 => some c.srseed
  | 0x010 => some c.hctl
  | 0x011 => some c.skm
  | 0x100 => some c.vl
  | 0x101 => some c.vtype
  | 0x102 => some c.rc
  | 0x103 => some c.vstart
  | 0x104 => some c.gwbase
  | 0x105 => some c.nfmt
  | 0x200 => some c.xpc
  | 0x201 => some c.xcause
  | 0x202 => some c.xaddr
  | 0x203 => some c.xinfo
  | 0x204 => some c.xvec
  | 0x205 => some c.xscratch
  | 0x300 => some c.lrecn
  | 0x301 => some c.lstat
  | 0x302 => some c.lidx
  | 0x400 => some c.proglim
  | 0x401 => some c.waitrsn
  | 0x500 => some c.trlo
  | 0x501 => some c.trhi
  | 0x502 => some c.trdly
  | 0x503 => some c.trctl
  | 0x504 => some c.trbase
  | 0x505 => some c.trexp
  | 0x600 => some c.cycle
  | 0x601 => some c.instret
  | 0x602 => some c.energy
  | _ => none

/-- A CSR of the hart replaced (R48). -/
def Csr.set (c : Csr) (n : Nat) (v : Word) : Csr :=
  match n with
  | 0x000 => { c with frm := v }
  | 0x001 => { c with fflags := v }
  | 0x002 => { c with srseed := v }
  | 0x010 => { c with hctl := v }
  | 0x011 => { c with skm := v }
  | 0x100 => { c with vl := v }
  | 0x101 => { c with vtype := v }
  | 0x102 => { c with rc := v }
  | 0x103 => { c with vstart := v }
  | 0x104 => { c with gwbase := v }
  | 0x105 => { c with nfmt := v }
  | 0x200 => { c with xpc := v }
  | 0x201 => { c with xcause := v }
  | 0x202 => { c with xaddr := v }
  | 0x203 => { c with xinfo := v }
  | 0x204 => { c with xvec := v }
  | 0x205 => { c with xscratch := v }
  | 0x300 => { c with lrecn := v }
  | 0x301 => { c with lstat := v }
  | 0x302 => { c with lidx := v }
  | 0x400 => { c with proglim := v }
  | 0x401 => { c with waitrsn := v }
  | 0x500 => { c with trlo := v }
  | 0x501 => { c with trhi := v }
  | 0x502 => { c with trdly := v }
  | 0x503 => { c with trctl := v }
  | 0x504 => { c with trbase := v }
  | 0x505 => { c with trexp := v }
  | 0x600 => { c with cycle := v }
  | 0x601 => { c with instret := v }
  | 0x602 => { c with energy := v }
  | _ => c

/-- The bytes of a value at an offset, as image cells; zero bytes are not listed. -/
def imageOf (off n x : Nat) : List (Nat × Byte) :=
  ((range off n).zip (toBytes n x)).filter (fun e => e.2 ≠ 0)

/-- The saved operand state in force: that of the trap handler while a trap is in service (R18). [DEDUCED, log 38] -/
def Hart.savedNow (h : Hart) : Option Saved := if h.csr.xcause.getLsbD 63 then h.savedInTrap else h.saved

/-- A hart with the saved operand state in force replaced. -/
def Hart.withSaved (h : Hart) (x : Option Saved) : Hart :=
  if h.csr.xcause.getLsbD 63 then { h with savedInTrap := x } else { h with saved := x }

/-- The saved operand state that the image shows: of the instruction stopped in the handler in service, or else of the one outside it (R18,
R41). [DEDUCED, log 38] -/
def Hart.savedShown (h : Hart) : Option Saved :=
  if h.csr.xcause.getLsbD 63 then h.savedInTrap.orElse (fun _ => h.saved) else h.saved

/-- A hart with the saved operand state that the image shows replaced. -/
def Hart.withShown (h : Hart) (x : Option Saved) : Hart :=
  if h.csr.xcause.getLsbD 63 && h.savedInTrap.isSome then { h with savedInTrap := x } else { h with saved := x }

/-- The hart image, at its offset (R41). -/
def hartImage (base : Nat) (h : Hart) : List (Nat × Byte) :=
  h.s.flatMap (fun e => imageOf (base + 8 * e.1) 8 e.2.toNat) ++
  csrNumbers.flatMap (fun n => imageOf (base + 0x1000 + 8 * (n / 256 * 64 + n % 64)) 8 ((h.csr.get n).getD 0).toNat) ++
  h.p.flatMap (fun e => imageOf (base + 0x2000 + 2048 * e.1) 2048 e.2.toNat) ++
  h.k.flatMap (fun e => imageOf (base + 0xA000 + 256 * e.1) 256 e.2.toNat) ++
  h.h.flatMap (fun e => imageOf (base + 0xA800 + 1024 * e.1) 1024 e.2.toNat) ++
  (match h.savedShown with
   | none => []
   | some x =>
     ((range 0 2).flatMap (fun i => (range 0 16).flatMap (fun r =>
       imageOf (base + 0xC800 + 2048 * i + 128 * r) 128 (((x.vops.getD i []).getD r 0).toNat)))) ++
     ((range 0 2).flatMap (fun i => imageOf (base + 0xD800 + 8 * i) 8 (x.sops.getD i 0).toNat)) ++
     imageOf (base + 0xD810) 8 x.flags.toNat) ++
  h.v.flatMap (fun e => imageOf (base + 0x10000 + 128 * e.1) 128 e.2.toNat)

/-- The CSRs of a side that its tandem holds, at their places in the hart image: TID, KID, CTXID and SIDE (R41, R48). -/
def namesImage (base : Nat) (c : Context) (t : Tandem) (side : Nat) : List (Nat × Byte) :=
  imageOf (base + 0x1100) 8 t.tid ++ imageOf (base + 0x1108) 8 t.csn ++ imageOf (base + 0x1110) 8 c.id ++ imageOf (base + 0x1118) 8 side

/-- The slot of a queue's front entry, behind the slots kept for a re-run (R183). -/
def Fifo.front {α : Type} (f : Fifo α) (depth : Nat) : Nat := (f.head + f.spent.length) % depth

/-- A queue control word: head, count, marker present, marker position (R41). -/
def Fifo.control {α : Type} (f : Fifo α) (depth : Nat) : Nat :=
  f.front depth + f.items.length * 256 + (match f.marker with | none => 0 | some m => 2 ^ 15 + m * 2 ^ 16)

/-- The vector or scalar queue with a number. -/
def Tandem.vfifo (t : Tandem) (q : Nat) : Fifo VReg := sparseGet {} t.vq q

/-- The scalar queue with a number. -/
def Tandem.sfifo (t : Tandem) (q : Nat) : Fifo Word := sparseGet {} t.sq q

/-- The entries of a queue by slot. -/
def Fifo.slots {α : Type} (f : Fifo α) (depth : Nat) : List (Nat × α) :=
  (range 0 f.items.length).zip f.items |>.map (fun e => ((f.front depth + e.1) % depth, e.2))

/-- The staged registers of a hart. -/
def Hart.staged (h : Hart) : List VReg := (h.savedShown.map (·.staged)).getD []

/-- A tensor descriptor as its last write leaves it, seen by both sides or not. -/
def Tandem.latestTd (t : Tandem) (n : Nat) : Desc := t.tdLate.foldl (fun d w => if w.2.1 = n then w.2.2 else d) (sparseGet 0 t.td n)

/-- The first `k` descriptors that a side has written and the other may not see yet are seen by both (R219). -/
def Tandem.showTds (t : Tandem) (onA : Bool) (k : Nat) : Tandem :=
  let mine := t.tdLate.filter (fun w => w.1 == onA)
  { t with
    td := (mine.take k).foldl (fun m w => sparseSet 0 m w.2.1 w.2.2) t.td
    tdLate := t.tdLate.filter (fun w => w.1 != onA) ++ mine.drop k }

/-- Every descriptor that a side has written is seen by both (R109, R219). -/
def Tandem.releaseTds (t : Tandem) (onA : Bool) : Tandem := t.showTds onA t.tdLate.length

/-- The tandem area, at its offset (R41, R220). -/
def tandemImage (base : Nat) (t : Tandem) (e a : Hart) : List (Nat × Byte) :=
  ((range 0 16).flatMap (fun i => imageOf (base + 32 * i) 32 (t.latestTd i).toNat)) ++
  t.zcfg.flatMap (fun x => imageOf (base + 0x200 + 16 * x.1) 8 x.2.toNat) ++
  t.zanchor.flatMap (fun x => imageOf (base + 0x200 + 16 * x.1 + 8) 2 (ofSigned 10 x.2)) ++
  (range 0 16).flatMap (fun q => imageOf (base + 0x300 + 8 * q) 8 ((t.vfifo q).control 16)) ++
  (range 0 16).flatMap (fun q => imageOf (base + 0x380 + 8 * q) 8 ((t.sfifo q).control 32)) ++
  imageOf (base + 0x400) 8 (t.bq.control 64) ++
  imageOf (base + 0x500) 8 ((t.bq.slots 64).foldl (fun n x => n + (if x.2 then 2 ^ x.1 else 0)) 0) ++
  (range 0 16).flatMap (fun q => ((t.sfifo q).slots 32).flatMap (fun x =>
    imageOf (base + 0x800 + 256 * q + 8 * x.1) 8 x.2.toNat)) ++
  (range 0 16).flatMap (fun q => ((t.vfifo q).slots 16).flatMap (fun x =>
    imageOf (base + 0x2000 + 2048 * q + 128 * x.1) 128 x.2.toNat)) ++
  ((range 0 8).zip e.staged).flatMap (fun x => imageOf (base + 0xA000 + 128 * x.1) 128 x.2.toNat) ++
  ((range 0 8).zip a.staged).flatMap (fun x => imageOf (base + 0xA400 + 128 * x.1) 128 x.2.toNat)

/-- Where a tandem's context image lies (R268). -/
def imageBase (c : Context) (t : Tandem) : Nat := c.imgBase + t.tid * 0x200000

/-- The size of a context image (R41). -/
def imageSize (z : Nat) : Nat := 0x50000 + z * 0x10000

/-- The translations of the 4 KiB pages of a range in the system view, for reads or for writes (R42, R307, R308). Where one fails, or is not
IDEM with CMP 0, the error is the lowest failing address, and whether it only waits for a migration or a station (R315, R390). -/
def imagePages (s : State) (c : Context) (d : Nat) (kind : AccessKind) (a : Nat) : Nat → Except (Nat × Bool) (List Xlat)
  | 0 => .ok []
  | n + 1 =>
    match translate s c d false true kind a with
    | .ok x =>
      if x.dev || bits x.attr 8 7 ≠ 0 then .error (a, false)
      else
        (match s.thoudStop x with
         | some e => .error (a, e.later)
         | none => (imagePages s c d kind (a + 4096) n).map (fun r => x :: r))
    | .error e => .error (a, e.later)

/-- A and D as the Thoud's own access through some pages leaves them (R307). -/
def markPages (kind : AccessKind) (xs : List Xlat) (s : State) : State := xs.foldl (fun s x => markXlat s kind x) s

/-- The memory with the bytes of some pages replaced by image cells; offsets beyond the pages are ignored. -/
def replacePages (cells : List Host.Cell) (frames : List Nat) (img : List (Nat × Byte)) : List Host.Cell :=
  let kept := cells.filter (fun e => !frames.any (fun f => decide (f ≤ e.1 ∧ e.1 < f + 4096)))
  img.foldl (fun m e =>
    match frames[e.1 / 4096]? with
    | some f => sparseSet memDefault m (f + e.1 % 4096) e.2
    | none => m) kept

/-- The memory with every write applied, where one under way touches some pages. -/
def settledAt (m : Mem) (frames : List Nat) : Mem :=
  if m.flight.any (fun f => f.bytes.any (fun b => frames.any (fun p => decide (p ≤ b.1 ∧ b.1 < p + 4096)))) then publishAll m else m

/-- The cells of a tandem's image that stand for its registers (R41). -/
def registerImage (c : Context) (t : Tandem) (e a : Hart) : List (Nat × Byte) :=
  hartImage 0 e ++ namesImage 0 c t (if t.single then 2 else 0) ++
  (if t.single then [] else hartImage 0x20000 a ++ namesImage 0x20000 c t 1) ++ tandemImage 0x40000 t e a

/-- The tandem's registers become the contents of its image in memory (R43, R45). The error is that of a page that takes no write now. -/
def storeImage (s : State) (t : Tandem) (e a : Hart) : Except (Nat × Bool) State :=
  match s.ctx? t.ctx with
  | none => .ok s
  | some c =>
    (imagePages s c t.die .store (imageBase c t) 80).map (fun xs =>
      let s := markPages .store xs s
      let frames := xs.map (·.pa)
      let m := settledAt s.mem frames
      { s with mem := { m with cells := replacePages m.cells frames (registerImage c t e a) } })

/-- The same as a tandem leaves its slot: where a page takes no write now nothing is written, and the registers stay in the register cache alone. [DEDUCED, log 72] -/
def writeImage (s : State) (t : Tandem) (e a : Hart) : State :=
  match storeImage s t e a with
  | .ok s' => s'
  | .error _ => s

/-- The image's bytes as memory holds them, by offset; zero bytes are not listed. -/
def imageCells (m : Mem) (frames : List Nat) : List (Nat × Byte) :=
  ((range 0 frames.length).zip frames).flatMap (fun f =>
    (m.cells.filter (fun e => decide (f.2 ≤ e.1 ∧ e.1 < f.2 + 4096))).map (fun e => (4096 * f.1 + (e.1 - f.2), e.2)))

/-- The number that image cells make at an offset. -/
def cellsNat (img : List (Nat × Byte)) (off n : Nat) : Nat :=
  (img.filter (fun e => decide (off ≤ e.1 ∧ e.1 < off + n))).foldl (fun x e => x + e.2.toNat * 2 ^ (8 * (e.1 - off))) 0

/-- A table of registers of `n` bytes each, `count` of them, from the cells of their part of the image. -/
def cellsTable (img : List (Nat × Byte)) (off n count w : Nat) : List (Nat × BitVec w) :=
  let part := img.filter (fun e => decide (off ≤ e.1 ∧ e.1 < off + n * count))
  part.foldl (fun t e =>
    let i := (e.1 - off) / n
    let k := (e.1 - off) % n
    sparseSet 0 t i (sparseGet 0 t i ||| BitVec.ofNat w (e.2.toNat * 2 ^ (8 * k)))) []

/-- Saved operand state with the operands and flags that the image holds (R41, R45). -/
def savedFromImage (img : List (Nat × Byte)) (base : Nat) (x : Saved) : Saved :=
  { x with
    vops := ((range 0 x.vops.length).zip x.vops).map (fun o => (range 0 o.2.length).map (fun r =>
      BitVec.ofNat 1024 (cellsNat img (base + 0xC800 + 2048 * o.1 + 128 * r) 128)))
    sops := (range 0 x.sops.length).map (fun i => BitVec.ofNat 64 (cellsNat img (base + 0xD800 + 8 * i) 8))
    flags := BitVec.ofNat 64 (cellsNat img (base + 0xD810) 8) }

/-- The bits of a CSR that are not reserved (R4, R46, R48–R50, R326, R339, R349, R381): an image write leaves 0 in the others. -/
def csrMask (n : Nat) : Nat :=
  match n with
  | 0x000 => 7
  | 0x001 => 0x7F
  | 0x010 => 0x1F
  | 0x011 => 0xFFFF
  | 0x101 => 0x7FF
  | 0x103 => 0x3FFF
  | 0x105 => 0xFFFFFF
  | 0x201 => 0x800000000000FFFF
  | 0x204 => 2 ^ 64 - 4
  | 0x301 => 0xF1FF
  | 0x401 => 0xFF
  | 0x502 => 0xFFF
  | 0x503 => 0xFFFFFFFF0000000D
  | _ => 2 ^ 64 - 1

/-- A hart with its registers and saved operand state read from its image (R45); entry 0 of the scalars and reserved bits read 0. -/
def hartFromImage (img : List (Nat × Byte)) (base stage : Nat) (h : Hart) : Hart :=
  let saved := h.savedShown.map (fun x =>
    { savedFromImage img base x with
      staged := (range 0 x.staged.length).map (fun i => BitVec.ofNat 1024 (cellsNat img (stage + 128 * i) 128)) })
  { h.withShown saved with
    s := eraseKey (cellsTable img base 8 512 64) 0
    csr := csrNumbers.foldl (fun c n =>
      c.set n (BitVec.ofNat 64 (cellsNat img (base + 0x1000 + 8 * (n / 256 * 64 + n % 64)) 8 &&& csrMask n))) h.csr
    p := cellsTable img (base + 0x2000) 2048 16 16384
    k := cellsTable img (base + 0xA000) 256 8 2048
    h := cellsTable img (base + 0xA800) 1024 8 8192
    v := cellsTable img (base + 0x10000) 128 512 1024 }

/-- A queue with its entries read from their slots. -/
def Fifo.fromSlots {α : Type} (f : Fifo α) (depth control : Nat) (slot : Nat → α) : Fifo α :=
  { f with
    head := (control % 128 + depth - f.spent.length % depth) % depth
    items := (range 0 (bits control 14 8)).map (fun i => slot ((control % 128 + i) % depth))
    marker := if bit control 15 then some (bits control 22 16) else none
    others := [] }

/-- A tandem with what its area of the image holds (R41); the reserved bits of a tile configuration read 0 (R4, R220). -/
def tandemFromImage (img : List (Nat × Byte)) (base : Nat) (t : Tandem) : Tandem :=
  { t with
    td := cellsTable img base 32 16 256
    tdLate := []
    zcfg := (range 0 16).foldl (fun m i => sparseSet 0 m i (BitVec.ofNat 64 (cellsNat img (base + 0x200 + 16 * i) 8 % 2 ^ 28))) []
    zanchor := (range 0 16).foldl (fun m i => sparseSet 0 m i (toSigned 10 (cellsNat img (base + 0x208 + 16 * i) 2))) []
    vq := (range 0 16).foldl (fun m q => sparseSet {} m q ((t.vfifo q).fromSlots 16 (cellsNat img (base + 0x300 + 8 * q) 8)
      (fun i => BitVec.ofNat 1024 (cellsNat img (base + 0x2000 + 2048 * q + 128 * i) 128)))) []
    sq := (range 0 16).foldl (fun m q => sparseSet {} m q ((t.sfifo q).fromSlots 32 (cellsNat img (base + 0x380 + 8 * q) 8)
      (fun i => BitVec.ofNat 64 (cellsNat img (base + 0x800 + 256 * q + 8 * i) 8)))) []
    bq := t.bq.fromSlots 64 (cellsNat img (base + 0x400) 8) (fun i => bit (cellsNat img (base + 0x500) 8) i) }

/-- A tandem whose registers the register cache holds: it has started, and its TID is not free yet (R43, R45). -/
def Tandem.cached (t : Tandem) : Bool := t.started && t.firmware.isNone

/-- The frames of a tandem's image, where it stands; the register-cache lines of a destroyed context are gone (R271). -/
def imageFrames (s : State) (t : Tandem) : List Nat :=
  match s.ctx? t.ctx with
  | none => []
  | some c =>
    if c.state = .destroyed then [] else
    match imagePages s c t.die .load (imageBase c t) 80 with
    | .ok xs => xs.map (·.pa)
    | .error _ => []

/-- Some bytes of `n` from physical address `pa` lie in a tandem's image (R45). -/
def Away.imageMeets (s : State) (pa n : Nat) (x : Away) : Bool :=
  x.t.cached && (imageFrames s x.t).any (fun f => decide (f < pa + n ∧ pa < f + 4096))

/-- A tandem's registers with some bytes of its image, each in the bits given, replaced (R45). The bytes are physical. -/
def imageWritten (s : State) (bs : List (Nat × Byte × Byte)) (x : Away) : Away :=
  match s.ctx? x.t.ctx with
  | none => x
  | some c =>
    let frames := imageFrames s x.t
    let at? (pa : Nat) : Option Nat := ((range 0 frames.length).zip frames).findSome? (fun f =>
      if f.2 ≤ pa ∧ pa < f.2 + 4096 then some (4096 * f.1 + (pa - f.2)) else none)
    let old := registerImage c x.t (bankCycles s x.t x.e) (bankCycles s x.t x.a)
    let img := bs.foldl (fun m b => match at? b.1 with
      | some o => writeCell m o b.2.1 b.2.2
      | none => m) (old.foldl (fun m e => sparseSet memDefault m e.1 e.2) [])
    { t := { tandemFromImage img 0x40000 x.t with since := s.clockOf x.t }
      e := hartFromImage img 0 0x4A000 x.e
      a := if x.t.single then bankCycles s x.t x.a else hartFromImage img 0x20000 0x4A400 x.a }

/-- A byte of physical memory as a tandem's registers hold it, where it lies in the tandem's image (R45). -/
def imageByte (s : State) (x : Away) (pa : Nat) : Option Byte :=
  match s.ctx? x.t.ctx with
  | none => none
  | some c =>
    let frames := imageFrames s x.t
    ((range 0 frames.length).zip frames).findSome? (fun f =>
      if f.2 ≤ pa ∧ pa < f.2 + 4096 ∧ 4096 * f.1 + (pa - f.2) < 0x50000 then
        some (readCell ((registerImage c x.t (bankCycles s x.t x.e) (bankCycles s x.t x.a)).foldl
          (fun m e => sparseSet memDefault m e.1 e.2) []) (4096 * f.1 + (pa - f.2)))
      else none)

/-- Physical bytes as an agent that reaches images reads them: in the image of a tandem, its registers (R45). -/
def imageView (s : State) (pa : Nat) (bs : List Byte) : List Byte :=
  match s.allTandems.filter (Away.imageMeets s pa bs.length) with
  | [] => bs
  | xs => ((range pa bs.length).zip bs).map (fun e => (xs.findSome? (fun x => imageByte s x e.1)).getD e.2)

/-- What a write to physical bytes makes of the registers whose images hold them (R45). -/
def writeImages (bs : List (Nat × Byte × Byte)) (s : State) : State :=
  mapTandems (fun _ => true) (fun s x => (s, if bs.any (fun b => x.imageMeets s b.1 1) then imageWritten s bs x else x)) s

/-- The words of z-tile `j` as cells of its save slot (R41). -/
def tileCells (t : Tandem) (j : Nat) : List (Nat × Byte) :=
  (t.zt.filter (fun e => decide (e.1 / 16384 = j))).flatMap (fun e => imageOf (4 * (e.1 % 16384)) 4 e.2.toNat)

/-- The pages of a tandem's z-tile save slots in the system view, tile by tile (R44, R268). -/
def tilePages (s : State) (c : Context) (t : Tandem) (kind : AccessKind) : Except (Nat × Bool) (List (List Xlat)) :=
  (range 0 t.z).foldr (fun j r =>
    match imagePages s c t.die kind (imageBase c t + 0x50000 + 0x10000 * j) 16, r with
    | .ok xs, .ok r => .ok (xs :: r)
    | .error e, _ => .error e
    | _, .error e => .error e) (.ok [])

/-- A departed tandem's z-tiles are written to their save slots for a newcomer (R44). The error is that of the lowest page that takes no
write. -/
def saveTiles (s : State) (t : Tandem) : Except (Nat × Bool) (State × Tandem) :=
  match s.ctx? t.ctx with
  | none => .ok (s, t)
  | some c =>
    match tilePages s c t .store with
    | .error e => .error e
    | .ok tiles =>
      .ok (((range 0 t.z).zip tiles).foldl (fun s p =>
        let s := markPages .store p.2 s
        let frames := p.2.map (·.pa)
        let m := settledAt s.mem frames
        { s with mem := { m with cells := replacePages m.cells frames (tileCells t p.1) } }) s, { t with zsaved := true })

/-- A returning tandem's z-tiles are read back from their save slots, if they were written there; those of a discarded page are 0 (R44,
R312). -/
def restoreTiles (s : State) (t : Tandem) : Except (Nat × Bool) (State × Tandem) :=
  if t.zsaved = false then .ok (s, t)
  else
    match s.ctx? t.ctx with
    | none => .ok (s, t)
    | some c =>
      match tilePages s c t .load with
      | .error e => .error e
      | .ok tiles =>
        let s := tiles.foldl (fun s xs => markPages .load xs s) s
        .ok (s, { t with
          zsaved := false
          zt := ((range 0 t.z).zip tiles).foldl (fun z p =>
            let frames := p.2.map (fun x => if x.discarded then 2 ^ 52 else x.pa)
            (cellsTable (imageCells (settledAt s.mem frames) frames) 0 4 16384 32).foldl
              (fun z e => sparseSet 0 z (16384 * p.1 + e.1) e.2) z) [] })

end Sys2Proof.Machine
end

