-- ==== Sys2Proof/Machine/Strip.lean ====
section
/-! DEFINITION. Where accesses land: the Thoud's own accesses in a context's system view (R307), the recovery record (R272, R273),
doorbell, peer and host accesses (R277, R365–R370), and the performing of held stores (R108). -/

namespace Sys2Proof.Machine

/-- A port; one never named is DOWN. -/
def Links.port (l : Links) (p : Nat) : Port := (lookup l.ports p).getD {}

/-- A port is UP or DEGRADED: only then it carries traffic (R368). -/
def Port.carries (p : Port) : Bool :=
  match p.state with
  | .up | .degraded => true
  | _ => false

/-- What is in flight on a port completes, though a QUIESCED one takes no new request (R368). -/
def Port.completes (p : Port) : Bool := p.carries || p.state == .quiesced

/-- The 256-byte flits that so many bytes of data take: at least one (R369). [DEDUCED, log 84] -/
def flitCount (n : Nat) : Nat := max 1 ((n + 255) / 256)

/-- The flits of a request; the data of a read comes with its reply. -/
def requestFlits : PeerOp → Nat
  | .write bs => flitCount bs.length
  | .read _ | .atomic _ _ _ _ => 1

/-- The replay buffer of 512 flits has room for so many more (R369). -/
def Port.room (p : Port) (n : Nat) : Bool := decide (p.buffer.length + n ≤ 512)

/-- A port that sends `n` flits of a load, kept until they are acknowledged (R369). -/
def Port.put (p : Port) (load : FlitLoad) (n : Nat) : Port :=
  { p with buffer := p.buffer ++ (range p.nextSeq n).map (fun i => { seq := i, load := load }), nextSeq := p.nextSeq + n }

/-- The requests whose port has room for their flits are sent, in order (R369). -/
def Links.pump (l : Links) : Links :=
  l.requests.foldl (fun l r =>
    match r.port with
    | some p =>
      if !r.sent && r.reply.isNone && (l.port p).room (requestFlits r.op) then
        { l with
          requests := l.requests.map (fun q => if q.tag = r.tag then { q with sent := true } else q)
          ports := adjustKey l.ports p (fun q => q.put (.request r.tag) (requestFlits r.op)) }
      else l
    | none => l) l

/-- The ports of a peer's route that carry traffic (R366). -/
def usablePorts (l : Links) (n : Nat) : List Nat :=
  match lookup l.routes n with
  | some (true, mask) => (range 0 12).filter (fun p => mask.getLsbD p &&
      (match lookup l.ports p with
       | some x => x.state == .up || x.state == .degraded
       | none => false))
  | _ => []

/-- The port that an access to a peer's address takes: one for each 4 KiB of peer address (R366). [DEDUCED, log 31] -/
def routePort (l : Links) (n pa : Nat) : Option Nat :=
  let ps := usablePorts l n
  ps[pa / 4096 % ps.length]?

/-- A step that the device's own access starts stands behind those started before it and before everything from outside (R277). -/
def ring (i : Instr) (l : List Input) : List Input :=
  let mine (x : Input) : Bool := match x with
    | .rung _ => true
    | _ => false
  l.takeWhile mine ++ .rung i :: l.dropWhile mine

/-- The step that an 8-byte write of a doorbell register starts (R277). [DEDUCED, log 51] -/
def doorbellEvent (pa v : Nat) : Option Instr :=
  let q := pa % 0x1000000 / 0x1000
  if pa % 0x1000 = 0 then some (.qtailWrite q (BitVec.ofNat 64 v))
  else if pa % 0x1000 = 24 then
    (if v = 1 then some (.enable q) else if v = 2 then some (.disable q) else if v = 4 then some (.clrfault q) else none)
  else none

/-- The physical bytes that an access touches. -/
def accessLength : PeerOp → Nat
  | .read n => n
  | .write bs => bs.length
  | .atomic _ n _ _ => n

/-- A request to host or peer memory leaves for its port with a fresh tag, as soon as the port has room (R367, R369). [DESIGN CHOICE, log 13] -/
def sendRequest (s : State) (hart va pa : Nat) (op : PeerOp) (port : Option Nat) (posted : Bool) (strip : Nat := 0)
    (owner : Option (Word × Bool × Nat) := none) : State × Nat :=
  let tag := s.links.nextTag
  let r : Request := { tag := tag, hart := hart, va := va, pa := pa, op := op, port := port, posted := posted, strip := strip, owner := owner }
  ({ s with links := { s.links with requests := s.links.requests ++ [r], nextTag := tag + 1 }.pump }, tag)

/-- The bytes of one access reach the space they go to: device memory in the issuer's die view, the doorbell window as a doorbell
write, host memory at its coherence point, a peer as a tagged request (R112, R119, R123, R131). All bytes lie in one region.
A firmware core's reach the registers whose image they write (R45). `strip` is the serial number of the strip that held the store, 0 for none.
The result names the request's tag, if one was sent. -/
def landBytes (s : State) (d hart va : Nat) (posted : Bool) (strip : Nat) (bs : List (Nat × Byte × Byte)) : State × Option Nat :=
  match bs with
  | [] => (s, none)
  | (pa, _, _) :: _ =>
    match regionOf pa with
    | .device =>
      let s' : State := { s with mem := s.mem.store d bs }
      (if s.isFirmware hart then writeImages bs s' else s', none)
    | .doorbell =>
      if bs.length = 8 ∧ pa % 8 = 0 then
        match doorbellEvent pa (ofBytes (bs.map (fun b => b.2.1))) with
        | some e => ({ s with inputs := ring e s.inputs }, none)
        | none => (s, none)
      else (s, none)
    | .host =>
      if s.hostReady then ({ s with mem := { s.mem with cells := writeCells s.mem.cells bs } }, none)
      else
        -- a port that is not ready, and no other one: the store fails as on a link without a usable port (R370, R390)
        let r := sendRequest s hart va pa (.write (bs.map (fun b => b.2))) none posted strip
        (r.1, some r.2)
    | .peer n =>
      let r := sendRequest s hart va pa (.write (bs.map (fun b => b.2))) (routePort s.links n pa) posted strip
      (r.1, some r.2)
    | .unassigned => (s, none)

/-- A byte of host memory as it stands: what the host has last stored there, or what the device knows of it (R123, R374). [DESIGN CHOICE, log 13] -/
def State.hostByte (s : State) (pa : Nat) : Byte := (Config.hostStore s.free pa).getD (readCell s.mem.cells pa)

/-- The bytes of host memory at some addresses are looked at: what the host has stored to them stands in them from then on (R123, R374). [DESIGN CHOICE, log 13] -/
def State.hostSeen (s : State) (pas : List Nat) : State :=
  { s with free := s.free + 1, mem := { s.mem with cells := pas.foldl (fun m a => sparseSet memDefault m a (s.hostByte a)) s.mem.cells } }

/-- A byte at a translated address as a read of the Thoud itself meets it: the latest write to device memory (R131), the host's own byte
(R123), and of a peer's memory a value that is not fixed. [DESIGN CHOICE, log 13] -/
def State.thoudByte (s : State) (x : Xlat) : Byte :=
  if x.discarded then 0
  else
    match regionOf x.pa with
    | .host => s.hostByte x.pa
    | .peer _ => Config.freeByte s.free x.pa
    | _ => s.mem.latestByte x.pa

/-- A read of the Thoud itself in a context, in the system view where R307 names what it reads (R45, R131, R307). -/
def sysRead (s : State) (c : Context) (d a n : Nat) (view : Bool := true) : Except XlatErr Nat :=
  match translateBytes s c d false view .load a n with
  | .ok xs =>
    match xs.findSome? s.thoudStop with
    | some e => .error e
    | none => .ok (ofBytes (xs.map s.thoudByte))
  | .error e => .error e.1

/-- A as such a read leaves it (R307), and the host's bytes as it found them. -/
def sysSeen (s : State) (c : Context) (d a n : Nat) (view : Bool := true) : State :=
  match translateBytes s c d false view .load a n with
  | .ok xs =>
    let s := xs.foldl (fun s x => markXlat s .load x) s
    let mine := (xs.filter (fun x => !x.discarded && regionOf x.pa == .host)).map (·.pa)
    if mine.isEmpty then s else s.hostSeen mine
  | .error _ => s

/-- A device-scope relaxed write of the Thoud in a context, in the system view where R307 names what it writes (R273, R284). It reaches host memory at its
coherence point and a peer as a tagged request; without a usable port it meets a link error (R123, R366, R370). -/
def sysWrite (s : State) (c : Context) (d a : Nat) (bs : List Byte) (view : Bool := true) : Except XlatErr State :=
  match translateBytes s c d false view .store a bs.length with
  | .ok xs =>
    match xs.findSome? s.thoudStop with
    | some e => .error e
    | none =>
    let s := xs.foldl (fun s x => markXlat s .store x) s
    let ys := (xs.zip bs).map (fun e => (e.1.pa, e.2, (0xFF : Byte)))
    if xs.all (fun x => regionOf x.pa == .device) then .ok { s with mem := s.mem.store d ys }
    else
      match regionOf ((xs.head?.map (·.pa)).getD 0) with
      | .peer n => if (routePort s.links n ((xs.head?.map (·.pa)).getD 0)).isNone then .error (.page 9) else .ok (landBytes s d 0 a true 0 ys).1
      | _ => .ok (landBytes s d 0 a true 0 ys).1
  | .error e => .error e.1

/-- The context block, as firmware and scheduler read it: the eight words at a physical address, in the view of die 0. -/
def blockWords (s : State) (pa : Nat) : Nat → Nat := fun i => s.mem.viewNat 0 (pa + 8 * i) 8

/-- A context with the copy of its block that a bind makes (R267). A bind is no run of it: one that has never run ranks as the least recently run. [DEDUCED, log 83] -/
def boundContext (c : Context) (asid : Nat) (w : Nat → Nat) : Context :=
  { c with
    state := .boundIdle
    asid := some asid
    id := w 0 % 2 ^ 32
    key := bits (w 0) 39 32
    keyed := true
    wants := false
    epart := bits (w 0) 44 40
    sroot := w 1
    vbase := bits (w 2) 16 0
    vcount := bits (w 2) 33 17
    imgBase := w 3
    msaBase := w 4
    recBase := w 5 }

/-- A context as the Thoud translates for it: one that has never been bound by its block as it stands, with no ASID and no tag of its own (R266, R267,
R276). [DEDUCED, log 78] -/
def State.seenCtx (s : State) (c : Context) : Context :=
  match c.state with
  | .defined => { boundContext c 0 (blockWords s c.block) with
      state := .defined, asid := none, serial := 0, keyed := c.keyed, wants := c.wants, nextCsn := c.nextCsn }
  | _ => c

/-- A context faults: dispatch of it stops and the host is interrupted (R270). Its resident tandems are parked by the caller. -/
def faultContext (s : State) (n : Nat) : State :=
  let runs (c : Context) : Bool := c.num == n && (c.state == .running || c.state == .boundIdle)
  if s.ctxs.any runs then
    { s with
      ctxs := s.ctxs.map (fun c => if runs c then { c with state := .faulted } else c)
      reports := s.reports ++ [.contextFaulted n] }
  else s

/-- The address of entry `i` of a recovery record (R272). -/
def recEntry (c : Context) (i : Nat) : Nat := c.recBase + 0x40 + 16 * i

/-- The entry of a recovery record that a range of the same target and port overlaps or adjoins (R273). -/
def recFind (s : State) (c : Context) (d lo hi target port : Nat) : Nat → Nat → Except XlatErr (Option (Nat × Nat × Nat))
  | 0, _ => .ok none
  | fuel + 1, i =>
    match sysRead s c d (recEntry c i) 8, sysRead s c d (recEntry c i + 8) 8 with
    | .ok a, .ok w =>
      let len := bits w 39 0
      if bits w 41 40 = target ∧ bits w 45 42 = port ∧ lo ≤ a + len ∧ a ≤ hi then .ok (some (i, a, len))
      else recFind s c d lo hi target port fuel (i + 1)
    | .error e, _ => .error e
    | _, .error e => .error e

/-- A as the reading of the record's header and of its first `n` entries leaves it: once for each page (R307). -/
def recSeen (s : State) (c : Context) (d n : Nat) : State :=
  (range 0 n).foldl (fun s i => if recEntry c i % 4096 = 0 then sysSeen s c d (recEntry c i) 16 else s) (sysSeen s c d (c.recBase + 8) 8)

/-- A write to host or peer memory is entered in the recovery record before it is issued to its port (R273). The error says why the record
cannot be reached now: a reset of the record that waits for the migration of its page comes first (R274, R315). -/
def enterRecord (s : State) (c : Context) (d a n target port : Nat) : Except XlatErr State :=
  if s.areaWrites.any (fun w => w.ctx == c.num && w.addr == c.recBase) then .error .migrate
  else
  match sysRead s c d (c.recBase + 8) 8 with
  | .error e => .error e
  | .ok cw =>
    let count := bits cw 12 0
    let word (len : Nat) : Nat := len + target * 2 ^ 40 + port * 2 ^ 42
    match recFind s c d a (a + n) target port count 0 with
    | .error e => .error e
    | .ok (some (i, b, len)) =>
      let lo := min a b
      let hi := max (a + n) (b + len)
      sysWrite (recSeen s c d (i + 1)) c d (recEntry c i) (toBytes 8 lo ++ toBytes 8 (word (hi - lo)))
    | .ok none =>
      let s := recSeen s c d count
      if count ≥ 4096 then sysWrite s c d (c.recBase + 8) (toBytes 8 (cw % 2 ^ 63 + 2 ^ 63))
      else
        match sysWrite s c d (recEntry c count) (toBytes 8 a ++ toBytes 8 (word n)) with
        | .error e => .error e
        | .ok s' => sysWrite s' c d (c.recBase + 8) (toBytes 8 (cw + 1))

/-- The queue with a number. -/
def State.queue? (s : State) (q : Nat) : Option Queue := s.queues.find? (fun x => x.num == q)

/-- The state code of a queue (R279). -/
def QState.code : QState → Nat
  | .disabled => 0 | .empty => 1 | .ready => 2 | .active => 3 | .blocked => 4 | .switchedOut => 5 | .faulted => 6

/-- A queue holds a slot in these states only (R279). -/
def QState.holdsSlot : QState → Bool
  | .active | .blocked => true
  | _ => false

/-- A word of a queue's block as it stands in memory, where nothing written to it still waits and it can be read. [DEDUCED, log 78] -/
def queueWord (s : State) (q : Queue) (i : Nat) : Option Nat :=
  match s.ctx? q.ctx with
  | none => none
  | some c =>
    if s.areaWrites.any (fun w => w.ctx == c.num) then none
    else
      match sysRead s (s.seenCtx c) 0 (q.block + 8 * i) 8 false with
      | .ok v => some v
      | .error _ => none

/-- A as a read of a queue's saved words leaves it (R307). -/
def blockSeen (s : State) (q : Queue) : State :=
  match s.ctx? q.ctx with
  | none => s
  | some c => sysSeen s (s.seenCtx c) 0 (q.block + 0x18) 16 false

/-- An 8-byte read of a doorbell register (R277), with PROG of a queue without a slot as SAVPROG holds it (R278); 0 at every other offset. The page of a queue that has not been created reads as at reset: no
slot is held, so QPROG is stale. [DEDUCED, log 35] -/
def doorbellRead (s : State) (pa : Nat) : Nat :=
  match s.queue? (pa % 0x1000000 / 0x1000) with
  | none => if pa % 0x1000 = 8 then 2 ^ 63 else 0
  | some q =>
    if pa % 0x1000 = 0 then q.tail
    else if pa % 0x1000 = 8 then (if q.state.holdsSlot then q.prog else ((queueWord s q 4).getD q.prog) % 2 ^ 63 + 2 ^ 63)
    else if pa % 0x1000 = 16 then q.state.code + q.fcode * 256 + q.eprio * 65536
    else 0

/-- What such a read leaves: it has read a queue block where it gives SAVPROG (R278, R307). -/
def doorbellSeen (s : State) (pa : Nat) : State :=
  match s.queue? (pa % 0x1000000 / 0x1000) with
  | some q => if pa % 0x1000 = 8 ∧ q.state.holdsSlot = false then blockSeen s q else s
  | none => s

/-- A request that has been sent goes again over port `p`, with its tag (R367, R370). -/
def resendOver (l : Links) (tag p : Nat) : Links :=
  Links.pump { l with requests := l.requests.map (fun r => if r.tag = tag then { r with port := some p, sent := false } else r) }

/-- The cells in which a held store's bytes land, with its shared space's unit. -/
def landShared (s : State) (unit : Nat) (bs : List HeldByte) : State :=
  bs.foldl (fun s b => { s with mem := s.mem.writeScratch s.free unit b.va b.val b.mask }) s

/-- One held store is performed (R108). Where it goes to host or peer memory, the recovery record took it as it was held (R273). [DEDUCED, log 108] -/
def performOne (s : State) (d unit hart : Nat) (x : HeldStore) : State × Option Nat :=
  if x.shared then (landShared s unit x.bytes, none)
  else landBytes s d hart ((x.bytes.head?.map (·.va)).getD 0) true x.strip (x.bytes.map (fun b => (b.pa, b.val, b.mask)))

/-- Several held stores are performed at once: in program order, where R108 fixes no order between those to different bytes. The result lists
the tags of requests sent. [DESIGN CHOICE, log 115] -/
def performAll (s : State) (d unit hart : Nat) : List HeldStore → State × List Nat
  | [] => (s, [])
  | x :: r =>
    let (s, t) := performOne s d unit hart x
    let (s, ts) := performAll s d unit hart r
    (s, t.toList ++ ts)

/-- A hart with its held stores performed. If any was, its strip is non-rewindable until it closes, and the slots its pops kept
are freed by the caller (R108, R183, R359). -/
def performHeldOf (s : State) (t : Tandem) (onA : Bool) (h : Hart) : State × Hart :=
  if h.held = [] then (s, h)
  else
    let r := performAll s t.die t.unit (hartNumber t onA) h.held
    (r.1, { h with held := [], outstanding := h.outstanding ++ r.2, strip := { h.strip with rewindable := false } })

/-- The slots of a queue that its popper's strip kept are freed (R183). -/
def Fifo.freed {α : Type} (f : Fifo α) (depth : Nat) : Fifo α :=
  { f with head := (f.head + f.spent.length) % depth, spent := [] }

/-- The slots of every queue that the given side pops are freed to the pusher (R183). -/
def freeSpent (t : Tandem) (onA : Bool) : Tandem :=
  let mine (q : Nat) : Bool := if onA then decide (8 ≤ q) else decide (q < 8)
  { t with
    vq := t.vq.map (fun e => if mine e.1 then (e.1, e.2.freed 16) else e)
    sq := t.sq.map (fun e => if mine e.1 then (e.1, e.2.freed 32) else e)
    bq := if onA then t.bq else t.bq.freed 64 }

/-- The pops kept for a re-run go back to the front of the queue (R360). -/
def Fifo.restored {α : Type} (f : Fifo α) : Fifo α :=
  { f with spent := [], items := f.spent ++ f.items, marker := f.marker.map (fun m => m + f.spent.length)
           others := f.others.map (fun m => (m.1 + f.spent.length, m.2)) }

/-- The pops of a side's open strip are undone: each queue it pops returns to its head at the checkpoint (R360). -/
def restoreSpent (t : Tandem) (onA : Bool) : Tandem :=
  let mine (q : Nat) : Bool := if onA then decide (8 ≤ q) else decide (q < 8)
  { t with
    vq := t.vq.map (fun e => if mine e.1 then (e.1, e.2.restored) else e)
    sq := t.sq.map (fun e => if mine e.1 then (e.1, e.2.restored) else e)
    bq := if onA then t.bq else t.bq.restored }

/-- The strip of the hart in focus becomes non-rewindable and the slots it kept are freed (R183). [DEDUCED, log 24] -/
def State.spoilStrip (s : State) : State :=
  { s with
    me := { s.me with strip := { s.me.strip with rewindable := false } }
    tan := freeSpent s.tan s.onA }

/-- PH of a barrier object (R295). -/
def barPh (m : Nat) : Bool := bit m 64
/-- V of a barrier object (R295). -/
def barValid (m : Nat) : Bool := bit m 66

/-- What the test of an object of 128 bits makes of a wait that has not ended (R298). -/
def BarWait.test (w : BarWait) (m : Nat) : BarWait :=
  if w.met.isSome then w
  else if barValid m = false then { w with met := some false }
  else if barPh m != w.parity then { w with met := some true }
  else w

/-- The physical address of the object that a wait of a tandem names, as its page stands now (R297). [DEDUCED, log 48] -/
def BarWait.target (s : State) (t : Tandem) (w : BarWait) : Option Nat :=
  match s.ctx? t.ctx with
  | none => none
  | some c =>
    match translate s c t.die false false .load w.place with
    | .ok x => some x.pa
    | .error _ => none

/-- The 16 bytes of the object that a wait names; what a peer's memory holds is not seen here (R297). -/
def BarWait.object (s : State) (t : Tandem) (w : BarWait) : Option (List Byte) :=
  if w.shared then some ((range (w.place % 0x400000) 16).map (s.mem.scratchByte s.free (w.place / 0x400000)))
  else
    match w.target s t with
    | none => none
    | some pa =>
      match regionOf pa with
      | .device => some ((range pa 16).map s.mem.latestByte)
      | .host => some ((range pa 16).map (readCell s.mem.cells))
      | _ => none

/-- The wait of a hart with its object tested as it now stands (R297, R298). -/
def testBarrier (s : State) (t : Tandem) (h : Hart) : Hart :=
  match h.barWait with
  | none => h
  | some w =>
    match w.object s t with
    | none => h
    | some bs => { h with barWait := some (w.test (ofBytes bs)) }

/-- Every BWAIT that waits tests its object again (R297, R298). [DEDUCED, log 48] -/
def testBarriers (s : State) : State :=
  { s with
    me := testBarrier s s.tan s.me
    peer := testBarrier s s.tan s.peer
    away := s.away.map (fun x => { x with e := testBarrier s x.t x.e, a := testBarrier s x.t x.a }) }

/-- The strip is ended: the held stores of the hart in focus are performed, with its writes of descriptors, and whoever waits at a barrier object finds
them (R108, R219, R298). -/
def State.endStrip (s : State) : State :=
  if s.me.held = [] ∧ s.tan.tdLate = [] then s
  else
    let r := performHeldOf s s.tan s.onA s.me
    let t := r.1.tan.releaseTds s.onA
    testBarriers { r.1 with me := r.2, tan := if s.me.held = [] then t else freeSpent t s.onA }

end Sys2Proof.Machine
end

