-- ==== Sys2Proof/Machine/Ops.lean ====
section
/-! DEFINITION. The operations the meanings share: how an instruction stops, the register files and windows (R34–R39), the queues
between the sides (R15–R20), groups (R290–R294), kernels' stops (R288), parking and pre-emption (R33, R313, R348), strip rollback
(R360–R362), and taking a trap and returning from one (R339–R345, R177). -/

namespace Sys2Proof.Machine

/-- Where an uncorrectable error lies that an instruction consumes (R360): a global address with its byte, a scratch byte, a queue of the
tandem, or a check of the pipeline. -/
inductive ErrorAt where
  | memory (va pa : Nat)
  | scratch (unit off : Nat)
  | vectorQueue (q : Nat)
  | scalarQueue (q : Nat)
  | branchQueue
  | check
deriving DecidableEq, Repr

/-- Why an instruction does not retire now. -/
inductive Stop where
  /-- A trap on the handler route: cause, sub-cause, XPC, XADDR, XINFO (R340). -/
  | trap (code sub : Nat) (xpc xaddr xinfo : Word)
  /-- A page fault: reason, access kind and address (R308, R313). -/
  | page (reason : Nat) (kind : AccessKind) (addr : Word)
  /-- The instruction waits: the WAITRSN code, the port, the address of the access that waits or 0 (R351), and how many entries or places of a
  queue it needs. -/
  | wait (reason port : Nat) (addr : Word := 0) (need : Nat := 1)
  /-- An uncorrectable error was consumed (R360). -/
  | consumed (e : ErrorAt)
  /-- A pop from the queue of this name, or 128 for bq, whose pusher has exited and left too few entries (R19). -/
  | drained (name : Nat)
  /-- A comparator matched (R377). -/
  | freeze (cmp : Nat) (addr : Word)
  /-- The translation root, or the recovery record, failed (R270). -/
  | rootFault
  /-- A request to a peer has still to be sent, and its reply awaited (R367). -/
  | remote (va pa : Nat) (op : PeerOp) (kind : AccessKind)
deriving DecidableEq, Repr

/-- A step of an instruction: it goes on with a value and a state, or stops with a state. -/
abbrev Exec (α : Type) : Type := EStateM Stop State α

/-- The state as the instruction has left it so far. -/
def getState : Exec State := fun s => .ok s s

/-- The state changed. -/
def modState (f : State → State) : Exec Unit := fun s => .ok () (f s)

/-- The hart in focus changed. -/
def modMe (f : Hart → Hart) : Exec Unit := fun s => .ok () { s with me := f s.me }

/-- The tandem in focus changed. -/
def modTan (f : Tandem → Tandem) : Exec Unit := fun s => .ok () { s with tan := f s.tan }

/-- The instruction stops. -/
def stopWith {α : Type} (e : Stop) : Exec α := fun s => .error e s

/-- What an instruction, or a part of one, of state `s` that stops in state `s'` leaves: nothing of its own, but held stores that it has performed stay
performed (R108, R158), and a strip that it made non-rewindable stays so (R359). [DEDUCED, log 32] -/
def undone (s s' : State) : State :=
  let s := if s.me.held ≠ [] ∧ s'.me.held = [] then s.endStrip else s
  if s.me.strip.rewindable && !s'.me.strip.rewindable then s.spoilStrip else s

/-- A part that stops leaves the state as it found it, but for held stores that it has performed and the strip (R101, R108, R359). -/
def atomically {α : Type} (m : Exec α) : Exec α := fun s =>
  match m s with
  | .ok a s' => .ok a s'
  | .error e s' => .error e (undone s s')

/-- The next free value's argument; each use advances the counter. -/
def nextFree : Exec Nat := fun s => .ok s.free { s with free := s.free + 1 }

/-- The word of the instruction under way, as XINFO holds it (R340). -/
def State.irWord (s : State) : Word := s.ir.setWidth 64

/-- An illegal-instruction trap (R148). -/
def illegalInstr {α : Type} : Exec α := fun s => .error (.trap 1 0 s.me.pc 0 s.irWord) s

/-- An illegal-operand trap without an address (R340). -/
def illegalOperand {α : Type} : Exec α := fun s => .error (.trap 2 0 s.me.pc 0 s.irWord) s

/-- An illegal-operand trap with the address of a misaligned access (R87). -/
def misaligned {α : Type} (addr : Word) : Exec α := fun s => .error (.trap 2 0 s.me.pc addr s.irWord) s

/-- A SPACE-BOUND fault (R85, R86). [DEDUCED, log 26] -/
def spaceBound {α : Type} (addr : Word) : Exec α := fun s => .error (.trap 3 0 s.me.pc addr s.irWord) s

/-- A DET-VIOLATION trap (R78). -/
def detViolation {α : Type} : Exec α := fun s => .error (.trap 4 0 s.me.pc 0 s.irWord) s

/-- Go on only where a condition holds; otherwise an illegal-operand trap. -/
def require (b : Bool) : Exec Unit := if b then pure () else illegalOperand

/-! ## Registers -/

/-- The architectural register that window name `n` (1–111) denotes under window `k` (R36). -/
def archReg (k n : Nat) : Nat := 16 * k + n

/-- A scalar name outside the queue names, read (R36, R37). -/
def Hart.readS (h : Hart) (n : Nat) : Word := if n = 0 then 0 else sparseGet 0 h.s (archReg h.winS n)

/-- A scalar name outside the queue names, written; a write to s0 is discarded (R37). -/
def Hart.writeS (h : Hart) (n : Nat) (x : Word) : Hart :=
  if n = 0 then h else { h with s := sparseSet 0 h.s (archReg h.winS n) x }

/-- The architectural number of a vector name outside the queue names: v0 is not windowed (R37). -/
def Hart.archV (h : Hart) (n : Nat) : Nat := if n = 0 then 0 else archReg h.winV n

/-- A vector register. -/
def Hart.readV (h : Hart) (n : Nat) : VReg := sparseGet 0 h.v (h.archV n)

/-- A vector register written. -/
def Hart.writeV (h : Hart) (n : Nat) (x : VReg) : Hart := { h with v := sparseSet 0 h.v (h.archV n) x }

/-- A predicate. -/
def Hart.readP (h : Hart) (n : Nat) : PReg := sparseGet 0 h.p n

/-- A predicate written. -/
def Hart.writeP (h : Hart) (n : Nat) (x : PReg) : Hart := { h with p := sparseSet 0 h.p n x }

/-- A scale register. -/
def Hart.readK (h : Hart) (n : Nat) : KReg := sparseGet 0 h.k n

/-- A scale register written. -/
def Hart.writeK (h : Hart) (n : Nat) (x : KReg) : Hart := { h with k := sparseSet 0 h.k n x }

/-- A carry register. -/
def Hart.readH (h : Hart) (n : Nat) : HReg := sparseGet 0 h.h n

/-- A carry register written. -/
def Hart.writeH (h : Hart) (n : Nat) (x : HReg) : Hart := { h with h := sparseSet 0 h.h n x }

/-- A tensor descriptor of the tandem as one side reads it: its own last write, or what both sides see (R219). -/
def Tandem.readTd (t : Tandem) (onA : Bool) (n : Nat) : Desc :=
  (t.tdLate.filter (fun w => w.1 == onA)).foldl (fun d w => if w.2.1 = n then w.2.2 else d) (sparseGet 0 t.td n)

/-- A tensor descriptor written by one side, as its store: the other side sees it later (R219). -/
def Tandem.writeTd (t : Tandem) (onA : Bool) (n : Nat) (v : Desc) : Tandem :=
  if t.single then { t with td := sparseSet 0 t.td n v } else { t with tdLate := t.tdLate ++ [(onA, n, v)] }

/-- Before a side reads a descriptor it comes to see some of what the other side has written, in order: how many is open (R219). [DEDUCED, log 113] -/
def State.seeTds (s : State) : State :=
  let n := (s.tan.tdLate.filter (fun w => w.1 != s.onA)).length
  if n = 0 then s else { s with free := s.free + 1, tan := s.tan.showTds (!s.onA) (Config.choice s.free % (n + 1)) }

/-- The hart with flags raised in FFLAGS (R50, R63). -/
def Hart.raise (h : Hart) (f : Word) : Hart := { h with csr := { h.csr with fflags := h.csr.fflags ||| f } }

/-- The hart in focus is the E-side, or the one hart of a single-mode tandem (R13, R14). -/
def State.runsE (s : State) : Bool := !s.onA

/-- SIDE as R48 gives it. -/
def State.sideCode (s : State) : Nat := if s.tan.single then 2 else if s.onA then 1 else 0

/-! ## Queues -/

/-- A name 112–127 that this side may read: the E-side reads xq and xs, the A-side yq and ys (R16). -/
def popEnd (onA : Bool) (n : Nat) : Bool := if onA then decide (120 ≤ n) else decide (112 ≤ n ∧ n < 120)

/-- A name 112–127 that this side may write (R16). -/
def pushEnd (onA : Bool) (n : Nat) : Bool := if onA then decide (112 ≤ n ∧ n < 120) else decide (120 ≤ n)

/-- A source field's check before anything is popped: queue names only in a paired tandem and at their pop end (R14, R16). -/
def checkSrc (n : Nat) : Exec Unit := fun s =>
  if n < 112 ∨ (s.tan.single = false ∧ popEnd s.onA n = true) then .ok () s
  else .error (.trap 2 0 s.me.pc 0 s.irWord) s

/-- A destination field's check before anything is popped (R14, R16). -/
def checkDst (n : Nat) : Exec Unit := fun s =>
  if n < 112 ∨ (s.tan.single = false ∧ pushEnd s.onA n = true) then .ok () s
  else .error (.trap 2 0 s.me.pc 0 s.irWord) s

/-- A field that is read and written names no queue end (R16). -/
def checkRmw (n : Nat) : Exec Unit := fun s =>
  if n < 112 then .ok () s else .error (.trap 2 0 s.me.pc 0 s.irWord) s

/-- The first `n` entries of a queue leave it. While the popper's strip can be re-run they keep their slots (R183). -/
def Fifo.pop {α : Type} (f : Fifo α) (n depth : Nat) (keep : Bool) : Fifo α :=
  let taken := f.items.take n
  { f with
    items := f.items.drop n
    marker := f.marker.map (fun m => m - n)
    others := f.others.map (fun m => (m.1 - n, m.2))
    spent := if keep then f.spent ++ taken else f.spent
    head := if keep then f.head else (f.head + n) % depth }

/-- The open strip's pops are kept for a re-run (R183). -/
def Hart.keepsPops (h : Hart) : Bool := h.strip.rewindable && h.strip.ckpt.isSome

/-- Whether a pop of `n` entries can be made: it waits behind a fault marker (R345), traps once the pusher has exited and too few
are left (R19), or waits for the peer (R17). An error in the entries is consumed (R360). -/
def popReady {α : Type} (f : Fifo α) (n port xinfo : Nat) (err : ErrorAt) : Exec Unit := fun s =>
  let blocked := match f.marker with
    | some m => decide (m < n)
    | none => false
  if blocked && !s.peer.exited then .error (.wait 3 port 0 n) s
  else if n ≤ f.items.length then (if f.bad then .error (.consumed err) s else .ok () s)
  else if s.peer.exited then .error (.drained xinfo) s
  else .error (.wait 2 port 0 n) s

/-- The entries of the queue that a wait's port names, how many it can hold, and where its fault marker stands (R15, R345, R351). -/
def portQueue (t : Tandem) (port : Nat) : Nat × Nat × Option Nat :=
  if port ≤ 16 then let f := t.vfifo (port - 1); (f.items.length, 16, f.marker)
  else if port ≤ 32 then let f := t.sfifo (port - 17); (f.items.length, 32, f.marker)
  else (t.bq.items.length, 64, t.bq.marker)

/-- A wait on a queue, by its WAITRSN code, is over: there is room for all that is pushed, or all that is popped is there and in front of the fault
marker, or the queue is drained; the pusher's exit ends a pop's wait, and the popper's a drain's (R17, R18, R19, R31, R345). -/
def queueWaitOver (t : Tandem) (otherExited : Bool) (code port need : Nat) : Bool :=
  let q := portQueue t port
  if code = 1 then decide (q.1 + need ≤ q.2.1)
  else if code = 4 then q.1 == 0 || otherExited
  else (decide (need ≤ q.1) && q.2.2.all (fun m => decide (need ≤ m))) || otherExited

/-- One entry popped from the scalar queue that a name denotes (R16, R17). -/
def popScalar (n : Nat) : Exec Word := do
  let s ← getState
  let q := n - 112
  let f := s.tan.sfifo q
  popReady f 1 (q + 17) n (.scalarQueue q)
  let x := f.items.headD 0
  modTan (fun t => { t with sq := sparseSet {} t.sq q (f.pop 1 32 s.me.keepsPops) })
  pure x

/-- `n` entries popped from the vector queue that a name denotes, in queue order (R16, R17). -/
def popVector (name n : Nat) : Exec (List VReg) := do
  let s ← getState
  let q := name - 112
  let f := s.tan.vfifo q
  popReady f n (q + 1) name (.vectorQueue q)
  modTan (fun t => { t with vq := sparseSet {} t.vq q (f.pop n 16 s.me.keepsPops) })
  pure (f.items.take n)

/-- The peer's open strip becomes non-rewindable, so that the slots its pops kept are freed (R183). -/
def State.spoilPeer (s : State) : State :=
  { s with
    peer := { s.peer with strip := { s.peer.strip with rewindable := false } }
    tan := freeSpent s.tan (!s.onA) }

/-- A trap is in service (R339). -/
def Hart.tis (h : Hart) : Bool := h.csr.xcause.getLsbD 63

/-- A queue with entries pushed behind the others by the instruction at `pc`, in a handler or not. The fault marker goes when the push is one of
the instruction that met the fault (R345). [DEDUCED, log 99] -/
def Fifo.push {α : Type} (f : Fifo α) (pc : Word) (inTrap : Bool) (xs : List α) : Fifo α :=
  if f.owner == some (pc, inTrap) then
    { f with items := f.items ++ xs, marker := f.others.head?.map (·.1), owner := f.others.head?.map (·.2), others := f.others.tail }
  else { f with items := f.items ++ xs, others := f.others.filter (fun m => m.2 != (pc, inTrap)) }

/-- A queue with the fault marker of the instruction at `pc` behind its last entry; one of it that stands there already stays, and another's stands
before it (R345). -/
def Fifo.mark {α : Type} (f : Fifo α) (pc : Word) (inTrap : Bool) : Fifo α :=
  if f.owner == some (pc, inTrap) || f.others.any (fun m => m.2 == (pc, inTrap)) then f
  else if f.marker.isSome then { f with others := f.others ++ [(f.items.length, pc, inTrap)] }
  else { f with marker := some f.items.length, owner := some (pc, inTrap) }

/-- Entries pushed to a scalar queue; a full queue stalls, unless only slots kept for a re-run fill it (R17, R183). The strip becomes
non-rewindable. -/
def pushScalar (n : Nat) (x : Word) : Exec Unit := fun s =>
  let q := n - 112
  let f := s.tan.sfifo q
  if 32 ≤ f.items.length then .error (.wait 1 (q + 17)) s
  else
    let s := if 32 ≤ f.items.length + f.spent.length then s.spoilPeer else s
    let s := s.spoilStrip
    .ok () { s with tan := { s.tan with sq := sparseSet {} s.tan.sq q ((s.tan.sfifo q).push s.me.pc s.me.tis [x]) } }

/-- The registers of one completed row pushed to a vector queue (R18). -/
def pushVector (name : Nat) (xs : List VReg) : Exec Unit := fun s =>
  let q := name - 112
  let f := s.tan.vfifo q
  if 16 < f.items.length + xs.length then .error (.wait 1 (q + 1) 0 xs.length) s
  else
    let s := if 16 < f.items.length + f.spent.length + xs.length then s.spoilPeer else s
    let s := s.spoilStrip
    .ok () { s with tan := { s.tan with vq := sparseSet {} s.tan.vq q ((s.tan.vfifo q).push s.me.pc s.me.tis xs) } }

/-- A scalar source operand: the register, or one entry of the queue (R16, R157). -/
def readS (n : Nat) : Exec Word := fun s =>
  if n < 112 then .ok (s.me.readS n) s else popScalar n s

/-- A scalar result: into the register, or one entry onto the queue (R16, R157). -/
def writeS (n : Nat) (x : Word) : Exec Unit := fun s =>
  if n < 112 then .ok () { s with me := s.me.writeS n x } else pushScalar n x s

/-! ## Groups -/

/-- The current phase of a group completes: its waiting members return, and early arrivals begin the next phase (R293). -/
def completePhase (g : Group) : Group :=
  { g with
    returned := g.returned ++ g.arrived
    pending := !g.early.isEmpty
    counted := if g.early.isEmpty then [] else g.members.map (·.1)
    arrived := g.early
    early := [] }

/-- The phase completes once every counted member has arrived (R293); the next may complete at once. -/
def settlePhase (g : Group) : Group :=
  let ready (g : Group) : Bool := g.pending && g.counted.all (fun u => g.arrived.contains u)
  let g1 := if ready g then completePhase g else g
  if ready g1 then completePhase g1 else g1

/-- A member leaves: its rank is freed, and a pending phase no longer counts it (R292, R294). -/
def Group.leave (g : Group) (u : Nat) : Group :=
  settlePhase { g with
    members := g.members.filter (fun m => m.1 ≠ u)
    counted := g.counted.filter (· ≠ u)
    arrived := g.arrived.filter (· ≠ u)
    early := g.early.filter (· ≠ u)
    returned := g.returned.filter (· ≠ u) }

/-- A tandem leaves every group it belongs to; a group without members is gone (R252, R294). -/
def leaveGroups (gs : List Group) (u : Nat) : List Group :=
  (gs.map (fun g => if g.members.any (fun m => m.1 = u) then g.leave u else g)).filter (fun g => !g.members.isEmpty)

/-! ## Tandems as a whole -/

/-- A hart that leaves its instruction stopped enters it anew when it comes back (R18, R209). -/
def Hart.enterAnew (h : Hart) : Hart :=
  { h with
    saved := h.saved.map (fun x => { x with seen := false })
    savedInTrap := h.savedInTrap.map (fun x => { x with seen := false }) }

/-- LSTAT with REASON replaced (R326). [DEDUCED, log 59] -/
def setLoopReason (l : Word) (r : Nat) : Word := setField l 4 4 r

/-- A recording declines: REASON takes the code, the log is freed, and the loop runs on in SELF (R316). -/
def declineLoop (code : Nat) (h : Hart) : Hart :=
  match h.loop with
  | some l =>
    if l.recd.isSome then
      { h with loop := some { l with recd := none }, csr := { h.csr with lstat := setLoopReason h.csr.lstat code } }
    else h
  | none => h

/-- A trap, fault, pre-emption or parking of the tandem ends the recordings of both sides with INTERRUPTED (R319). [DEDUCED, log 49] -/
def State.interruptRecordings (s : State) : State :=
  { s with me := declineLoop 10 s.me, peer := declineLoop 10 s.peer }

/-- Both harts leave the slot together: the held stores of both are performed, their strips can no longer be re-run if any was, WAITRSN
of both gives the reason, what the die's view holds has reached every die as after FENCE.SC.DEVICE, and the registers stand in the image
(R33, R43, R108, R111, R348, R349). [DEDUCED, log 50] -/
def leaveSlot (reason : Nat) (s : State) (x : Away) : State × Away :=
  match x.t.place with
  | .resident _ _ =>
    let (s, e) := performHeldOf s x.t false x.e
    let (s, a) := performHeldOf s x.t true x.a
    let t := if x.e.held = [] then x.t else freeSpent x.t false
    let t := if x.a.held = [] then t else freeSpent t true
    let t := (t.releaseTds false).releaseTds true
    let e := bankCycles s t e
    let a := bankCycles s t a
    let e := (declineLoop 10 e).enterAnew
    let a := (declineLoop 10 a).enterAnew
    let t := { t with place := .parked reason s.now }
    let wait (h : Hart) : Hart :=
      { h with stalled := none, leftIn := h.stalled.map (fun p => (h.csr.waitrsn.toNat, p)), csr := { h.csr with waitrsn := BitVec.ofNat 64 reason } }
    let e := wait e
    let a := wait a
    let s := { s with mem := s.mem.publish t.die }
    (writeImage (endStay s x.t) t e a, { t := t, e := e, a := a })
  | _ => (s, x)

/-- A parked tandem whose wait has another reason from now on (R347, R349). -/
def Away.waitFor (reason : Nat) (x : Away) : Away :=
  let tell (h : Hart) : Hart := { h with csr := { h.csr with waitrsn := BitVec.ofNat 64 reason } }
  match x.t.place with
  | .parked _ w => { t := { x.t with place := .parked reason w }, e := tell x.e, a := tell x.a }
  | _ => x

/-- The tandem in focus parks with a wait reason (R33, R313). -/
def parkFocus (reason : Nat) (s : State) : State :=
  let r := leaveSlot reason s s.focusAway
  r.1.withFocus r.2

/-- Every resident tandem of a context is parked as at pre-emption, and the context is FAULTED (R270). One of a frozen cluster is parked at RESUME (R378). -/
def faultContextAll (s : State) (n : Nat) : State :=
  mapTandems (fun t => t.ctx == n && !s.frozen t) (leaveSlot 19) (faultContext s n)

/-! ## The kernel area (R284, R285) -/

/-- Where the kernel area begins (R284). -/
def kernelArea (c : Context) : Nat := c.recBase + 0x11000

/-- The address of a kernel record (R284). -/
def kernelRecordAddr (c : Context) (csn : Nat) : Nat := kernelArea c + 64 * (csn % 4096)

/-- The address of a tandem entry (R284). -/
def tandemEntryAddr (c : Context) (tid : Nat) : Nat := kernelArea c + 0x40000 + 16 * tid

/-- A write of the Thoud for a context that has not been destroyed: of its kernel area, in the system view and where a failure makes the context FAULTED, or
of a set's header or a queue block, as a program of it would write there (R276, R307). One whose page is under migration waits, and behind it every later one to the same page (R270, R284, R315, R332). -/
def thoudWrite (faults : Bool) (s : State) (c : Context) (d a : Nat) (bs : List Byte) : State :=
  let later : State := { s with areaWrites := s.areaWrites ++ [{ ctx := c.num, die := d, addr := a, data := bs, faults := faults }] }
  if c.state = .destroyed then s
  else if s.areaWrites.any (fun w => w.ctx == c.num && w.addr / 4096 == a / 4096) then later
  else
    match sysWrite s c d a bs faults with
    | .ok s' => s'
    | .error e => if e.later then later else if faults then faultContextAll s c.num else s

/-- A write of the kernel area of a context (R284). -/
def areaWrite (s : State) (c : Context) (d a : Nat) (bs : List Byte) : State := thoudWrite true s c d a bs

/-- Every write of a kernel area that waits is tried again, in order (R315). One that the destroy of its context left waiting changes no state of the
context any more (R271). -/
def flushArea (s : State) : State :=
  s.areaWrites.foldl (fun s w =>
    match s.ctx? w.ctx with
    | none => s
    | some c =>
      if c.state = .destroyed then
        match sysWrite s c w.die w.addr w.data w.faults with
        | .ok s' => s'
        | .error e => if e.later then { s with areaWrites := s.areaWrites ++ [w] } else s
      else thoudWrite w.faults s (s.seenCtx c) w.die w.addr w.data) { s with areaWrites := [] }

/-- TST of a tandem entry (R285). -/
def Tandem.tst (t : Tandem) : Nat :=
  match t.place with
  | .ended | .draining _ _ => 2
  | .stopped => 3
  | _ => 1

/-- A tandem's entry is written (R285). -/
def writeTandemEntry (s : State) (t : Tandem) : State :=
  match s.ctx? t.ctx with
  | some c =>
    areaWrite s c t.die (tandemEntryAddr c t.tid)
      (toBytes 8 t.csn ++ toBytes 8 (t.cidx % 2 ^ 40 + t.tix * 2 ^ 40 + t.tst * 2 ^ 57))
  | none => s

/-- A store of the hart from the strip with a serial number has still to be performed, at its peer too. -/
def pendingStore (s : State) (t : Tandem) (onA : Bool) (h : Hart) (strip : Nat) : Bool :=
  h.held.any (fun x => x.strip == strip) || s.links.requests.any (fun r => r.posted && r.hart == hartNumber t onA && r.strip == strip)

/-- CIDX takes what a closed strip owes it once every store that the strip held has been performed, those to peers at their targets too
(R286). [DEDUCED, log 57] -/
def settleOwed (s : State) (x : Away) : State × Tandem :=
  let done (o : Nat × Nat) : Bool := !pendingStore s x.t false x.e o.1
  match x.t.owed.takeWhile done with
  | [] => (s, x.t)
  | os =>
    let t := { x.t with cidx := x.t.cidx + (os.map (·.2)).sum, owed := x.t.owed.dropWhile done }
    (writeTandemEntry s t, t)

/-- CIDX of every tandem that is owed something (R286). -/
def settleAllOwed (s : State) : State :=
  if s.allTandems.all (fun x => x.t.owed.isEmpty) then s
  else mapTandems (fun t => !t.owed.isEmpty) (fun s x => let r := settleOwed s x; (r.1, { x with t := r.2 })) s

/-- The entries of a hart's history that no store of its own stands before any more are written (R380). -/
def flushHistory (s : State) (t : Tandem) (onA : Bool) (h : Hart) : State × Hart :=
  let due (o : Nat × Nat × List Byte) : Bool := !pendingStore s t onA h o.1
  match s.ctx? t.ctx with
  | none => (s, { h with histLate := [] })
  | some c => ((h.histLate.takeWhile due).foldl (fun s o => areaWrite s c t.die o.2.1 o.2.2) s, { h with histLate := h.histLate.dropWhile due })

/-- Every entry of a history ring that is due is written (R380). -/
def settleHistory (s : State) : State :=
  if s.allTandems.all (fun x => x.e.histLate.isEmpty && x.a.histLate.isEmpty) then s
  else mapTandems (fun _ => true) (fun s x =>
    let e := flushHistory s x.t false x.e
    let a := flushHistory e.1 x.t true x.a
    (a.1, { x with e := e.2, a := a.2 })) s

/-! ## Sweeps and loops that are left -/

/-- LSTAT with STATE replaced (R326). -/
def setLoopState (l : Word) (st : Nat) : Word := setField l 0 4 st

/-- The sweep that a stopped tandem abandons: the Thoud writes ACT ← 0, S and every record unchanged (R332). [DEDUCED, log 116] -/
def clearAct (s : State) (t : Tandem) (header : Nat) : State :=
  match s.ctx? t.ctx with
  | none => s
  | some c => thoudWrite false s c t.die ((header + 15) % 2 ^ 64) [0]

/-- The loop of a hart whose tandem stops: its sweep is abandoned, and LSTAT and LIDX stay (R326, R332). -/
def dropLoop (s : State) (t : Tandem) (h : Hart) : State × Hart :=
  ((match h.loop.bind (·.sweep) with
    | some w => clearAct s t w.header
    | none => s), { h with loop := none })

/-- A hart whose loop is left by a branch or EXIT: STATE ← LEFT, LIDX the iteration, the recording abandoned (R259, R316, R326). -/
def Hart.leaveLoop (h : Hart) : Hart :=
  match h.loop with
  | none => h
  | some l => { h with
      loop := none
      csr := { h.csr with lstat := setLoopState h.csr.lstat 6, lidx := BitVec.ofNat 64 l.iter } }

/-! ## Kernels that stop -/

/-- The kernel with a context and a sequence number. -/
def State.kernel? (s : State) (ctx csn : Nat) : Option Kernel := s.kernels.find? (fun k => k.ctx == ctx && k.csn == csn)

/-- Change a kernel. -/
def State.modKernel (s : State) (ctx csn : Nat) (f : Kernel → Kernel) : State :=
  { s with kernels := s.kernels.map (fun k => if k.ctx == ctx && k.csn == csn then f k else k) }

/-- A kernel that has neither completed nor stopped (R287). -/
def Kernel.live (k : Kernel) : Bool :=
  match k.state with
  | .starting | .running | .draining => true
  | _ => false

/-- A member of groups leaves them all, as LEAVE does: what its die's view holds has then reached every die (R252, R253, R294). -/
def leaveAll (s : State) (t : Tandem) : State :=
  if s.groups.any (fun g => g.members.any (fun m => m.1 = t.uid)) then
    { s with mem := s.mem.publish t.die, groups := leaveGroups s.groups t.uid }
  else s

/-- A tandem of a stopping kernel: its held stores are performed, or those of its open strips are discarded, CIDX is not advanced for strips
that still held any, its sweep is abandoned, and it stops (R286, R288, R332, R362). One of a frozen cluster stops at RESUME (R378). [DEDUCED, log 57] [DEDUCED, log 104] -/
def stopTandem (discard : Nat → Bool) (s : State) (x : Away) : State × Away :=
  match x.t.place with
  | .ended | .draining _ _ | .stopped => (s, x)
  | place =>
    if s.frozen x.t && (match place with | .resident _ _ => true | _ => false) then (s, x) else
    let drop := discard x.t.uid
    let kept (h : Hart) : Hart := if drop then { h with held := h.held.filter (·.eligible) } else h
    let (s, e) := performHeldOf s x.t false (kept x.e)
    let (s, a) := performHeldOf s x.t true (kept x.a)
    let (s, e) := dropLoop s x.t e
    let (s, a) := dropLoop s x.t a
    let t := { (x.t.releaseTds false).releaseTds true with place := .stopped, page := none, owed := x.t.owed.filter (fun o => !x.e.held.any (fun h => h.strip == o.1)) }
    (leaveAll (endStay s x.t) t, { t := t, e := bankCycles s x.t e, a := bankCycles s x.t a })

/-- The first fault or cancellation of a kernel: its tandems stop and their entries take TST 3; the record is written once its engines
have finished (R288). A later cause changes nothing, nor does a cancel once the completion sequence has begun (R287). -/
def stopKernel (s : State) (ctx csn : Nat) (why : KernelStop) (discard : Nat → Bool) : State :=
  match s.kernel? ctx csn with
  | none => s
  | some k =>
    if k.live = false ∨ k.stop ≠ none ∨ (why.cancelled = true ∧ k.closing = true) then s
    else
      let s := s.modKernel ctx csn (fun k => { k with stop := some why, closing := false })
      let s := mapTandems (fun t => t.ctx == ctx && t.csn == csn) (stopTandem discard) s
      (s.allTandems.filter (fun x => x.t.ctx == ctx && x.t.csn == csn)).foldl (fun s x => writeTandemEntry s x.t) s

/-- A tandem fault with FCODE 2 of a cause that writes no XINFO: what FINFO then holds is not said (R288, R340). -/
def stopKernelOpen (s : State) (ctx csn ftid : Nat) (faddr : Word) (discard : Nat → Bool) : State :=
  stopKernel { s with free := s.free + 1 } ctx csn
    { cancelled := false, fcode := 2, ftid := ftid, faddr := faddr, finfo := Config.choice s.free % 2 ^ 32 } discard

/-- The kernel of the tandem in focus faults with FCODE 2 (R288, R341). -/
def faultMyKernel (s : State) (addr : Word) (info : Nat) : State :=
  stopKernel s s.tan.ctx s.tan.csn
    { cancelled := false, fcode := 2, ftid := s.tan.tid, faddr := addr, finfo := info % 2 ^ 32 }
    (fun _ => false)

/-! ## Fault records and trace records -/

/-- The fault buffer of a die. -/
def State.faultBuffer (s : State) (d : Nat) : FaultBuffer := sparseGet {} s.faults d

/-- The address-space identifier of a tandem's context. -/
def State.asidOf (s : State) (t : Tandem) : Nat := ((s.ctx? t.ctx).bind (·.asid)).getD 0

/-- A fault record of a hart (R346), with the count of die `d` as AGE. -/
def faultRecordOf (s : State) (t : Tandem) (d side : Nat) (kind : AccessKind) (reason : Nat) (addr : Word) : FaultRecord :=
  { csn := t.csn, addr := addr, qid := t.qid, core := t.core, slot := t.slot, side := side, kind := kind, reason := reason,
    asid := s.asidOf t, tid := t.tid, age := (s.faultBuffer d).age }

/-- A record enters a die's buffer, which has room; firmware passes it on, and the host is interrupted as the buffer becomes full (R346,
R347). -/
def enterBuffer (s : State) (d : Nat) (r : FaultRecord) : State :=
  let b := s.faultBuffer d
  let s := { s with faults := sparseSet {} s.faults d { b with records := b.records ++ [r] }, reports := s.reports ++ [.faultRecord d r.dwords] }
  if b.records.length + 1 = 1024 then { s with reports := s.reports ++ [.bufferFull d] } else s

/-- A record goes to a die's buffer; when that is full the overflow counter counts it, and the answer false says that its task keeps the
record (R347). AGE is a 32-bit count of the die's faults. [DEDUCED, log 75] -/
def postRecord (s : State) (d : Nat) (r : FaultRecord) : State × Bool :=
  let b := s.faultBuffer d
  let counted (b : FaultBuffer) : FaultBuffer := { b with age := (b.age + 1) % 2 ^ 32 }
  if b.records.length < 1024 then (enterBuffer { s with faults := sparseSet {} s.faults d (counted b) } d r, true)
  else ({ s with faults := sparseSet {} s.faults d { counted b with overflow := min (b.overflow + 1) (2 ^ 32 - 1) } }, false)

/-- A record of the tandem in focus is posted to a die's buffer; where that is full the tandem keeps it (R347). -/
def postMine (s : State) (d : Nat) (r : FaultRecord) : State :=
  let q := postRecord s d r
  if q.2 then q.1 else { q.1 with tan := { q.1.tan with heldRecord := some r } }

/-- A 32-byte task record enters the sink of a context, or is counted when the ring is full (R375, R376). -/
def putRecord (s : State) (sink : Nat) (t : Tandem) (side typ data cmp : Nat) : State :=
  match lookup s.dbg.sinks sink with
  | none => s
  | some k =>
    if k.len ≤ k.windex - k.rindex then
      { s with dbg := { s.dbg with sinks := insertKey s.dbg.sinks sink { k with dropped := k.dropped + 1 } } }
    else
      let dw2 := t.qid + t.core % 256 * 2 ^ 12 + t.slot * 2 ^ 20 + side * 2 ^ 23 + cmp * 2 ^ 25 + typ * 2 ^ 28
      let bs := toBytes 8 t.csn ++ toBytes 8 data ++ toBytes 8 dw2 ++ toBytes 8 (s.now * 5 / 9)
      let pa := k.base + 32 * (k.windex % k.len)
      { s with
        dbg := { s.dbg with sinks := insertKey s.dbg.sinks sink { k with windex := k.windex + 1 } }
        mem := s.mem.store (homeDie pa) (((range pa 32).zip bs).map (fun e => (e.1, e.2, (0xFF : Byte)))) }

/-! ## Traps -/

/-- A word's D field (R142). -/
def wordD (w : BitVec 32) : Nat := field w 6 7

/-- The queue that an instruction pushes through its D field: whether it is a vector queue, and its number (R345). -/
def pushTarget (w : BitVec 32) : Option (Bool × Nat) :=
  let maj := field w 0 6
  let d := wordD w
  let fn5 := field w 27 5
  let fn4 := field w 28 4
  let scalar : Bool :=
    decide ((1 ≤ maj ∧ maj ≤ 6) ∨ (0x0C ≤ maj ∧ maj ≤ 0x0E) ∨ maj = 0x10 ∨ maj = 0x22 ∨
      (maj = 0x12 ∧ fn5 ∈ [0, 1, 4, 5]) ∨ (maj = 0x1E ∧ fn5 ∈ [0, 2, 4, 5, 7]) ∨ (maj = 0x1F ∧ fn5 ∈ [2, 4, 7, 9]) ∨
      (maj = 0x20 ∧ fn5 = 1) ∨ (maj = 0x23 ∧ fn5 = 1) ∨ (maj = 0x2A ∧ fn4 ∈ [9, 10]) ∨ (maj = 0x2B ∧ fn4 = 9) ∨
      (maj = 0x32 ∧ fn4 = 1) ∨ (maj = 0x34 ∧ fn5 = 13) ∨ (maj = 0x36 ∧ fn5 = 4) ∨ (maj = 0x38 ∧ fn5 = 3))
  let vector : Bool :=
    decide ((0x24 ≤ maj ∧ maj ≤ 0x27) ∨ (maj = 0x2A ∧ fn4 = 12) ∨ (maj = 0x2B ∧ fn4 ≠ 9) ∨ maj = 0x2C ∨
      (maj = 0x2D ∧ fn4 ≠ 5) ∨ maj = 0x2E ∨ (maj = 0x2F ∧ fn4 ≠ 3) ∨ (maj = 0x31 ∧ fn4 ∈ [0, 1, 2, 6]) ∨
      (maj = 0x32 ∧ fn4 ∈ [3, 4, 5]) ∨ (maj = 0x34 ∧ fn5 = 4))
  if d < 112 then none else if scalar then some (false, d - 112) else if vector then some (true, d - 112) else none

/-- A trap or fault in an instruction that pushes a queue places the fault marker behind the last entry pushed (R345). [DEDUCED, log 99] -/
def placeMarker (s : State) : State :=
  if s.tan.single then s
  else
    match pushTarget s.ir with
    | some (true, q) =>
      if pushEnd s.onA (q + 112) then
        let f := s.tan.vfifo q
        { s with tan := { s.tan with vq := sparseSet {} s.tan.vq q (f.mark s.me.pc s.me.tis) } }
      else s
    | some (false, q) =>
      if pushEnd s.onA (q + 112) then
        let f := s.tan.sfifo q
        { s with tan := { s.tan with sq := sparseSet {} s.tan.sq q (f.mark s.me.pc s.me.tis) } }
      else s
    | none =>
      if field s.ir 0 6 = 0x20 ∧ field s.ir 27 5 = 0 ∧ s.onA = true then
        { s with tan := { s.tan with bq := s.tan.bq.mark s.me.pc s.me.tis } }
      else s

/-- What a comparator match let go ahead is over: the hart's next access is compared again (R377). -/
def Debug.goneOn (d : Debug) (hart : Nat) : Debug := { d with passed := d.passed.filter (fun h => h ≠ hart) }

/-- XCAUSE at trap entry: TIS set, the sub-cause and the code (R339). -/
def causeWord (code sub : Nat) : Word := BitVec.ofNat 64 (2 ^ 63 + sub % 256 * 256 + code % 256)

/-- Trap entry on the handler route (R341): the held stores are performed; with XVEC = 0 or a trap in service the kernel faults;
otherwise XPC, XADDR, XINFO and XCAUSE are written and the program counter goes to XVEC. A trap whose XPC is not the instruction under way finds it
retired (R343) and leaves no fault marker. A comparator match of what does not go on is over (R377). -/
def takeTrap (code sub : Nat) (xpc xaddr xinfo : Word) (s : State) : State :=
  let s := s.endStrip
  let s := (if code = 10 ∨ xpc ≠ s.me.pc then s else placeMarker s).interruptRecordings
  let s := { s with dbg := s.dbg.goneOn s.hart }
  if s.me.csr.xvec = 0 ∨ s.me.tis = true then faultMyKernel s xaddr xinfo.toNat
  else
    { s with me := { s.me.enterAnew with
        pc := s.me.csr.xvec
        stalled := none
        barWait := none
        csr := { s.me.csr with xpc := xpc, xcause := causeWord code sub, xaddr := xaddr, xinfo := xinfo } } }

/-- The return from the trap in service (R177): the held stores are performed, TIS is cleared, and the program counter goes to XPC.
Saved operand state of another instruction than the one at XPC is discarded (R18), and a reply that it waited for comes to nothing. [DEDUCED, log 69] -/
def returnFromTrap (s : State) : State :=
  let s := s.endStrip
  let back := s.me.csr.xpc
  let keep := match s.me.saved with
    | some x => if x.pc = back then some x else none
    | none => none
  let gone (r : Request) : Bool := r.hart == s.hart && !r.posted && r.owner.any (fun o => o.2.1 || o.1 != back)
  { s with
    links := { s.links with requests := s.links.requests.filter (fun r => !gone r) }
    me := { s.me with
      pc := back
      saved := keep
      savedInTrap := none
      counted := s.me.counted.filter (fun c => !c.1 && c.2.1 == back)
      csr := { s.me.csr with xcause := s.me.csr.xcause &&& ~~~(BitVec.ofNat 64 (2 ^ 63)) } } }

/-- A page fault (R313): a fault record names the access, and the tandem parks with wait reason PAGE, or with FAULT-HELD where it keeps the
record (R347). -/
def takePageFault (reason : Nat) (kind : AccessKind) (addr : Word) (s : State) : State :=
  let s := placeMarker s
  let s := postMine s s.tan.die (faultRecordOf s s.tan s.tan.die s.sideCode kind reason addr)
  let s := parkFocus (if s.tan.heldRecord.isSome then 17 else 15) s
  { s with tan := { s.tan with page := some addr } }

/-! ## Shootdowns (R314) -/

/-- A cached translation serves part of a range. -/
def TlbEntry.touches (e : TlbEntry) (asid a n : Nat) : Bool :=
  e.asid == asid && decide (e.vpn * 2 ^ e.shift < a + n ∧ a < (e.vpn + e.pages) * 2 ^ e.shift)

/-- The cached translations of an ASID for a range are dropped on every die (R313, R314). -/
def dropTranslations (s : State) (asid : Option Nat) (a n : Nat) : State :=
  match asid with
  | none => s
  | some k => { s with paging := { s.paging with tlb := s.paging.tlb.filter (fun e => !e.touches k a n) } }

/-- Two ranges of addresses share a byte. -/
def rangesMeet (a n b m : Nat) : Bool := decide (a < b + m ∧ b < a + n)

/-- A stream of a loop's replay touches a range in one of its iterations (R319, R323). -/
def replayTouches (l : Loop) (r : Replay) (a n : Nat) : Bool :=
  (range 0 l.count).any (fun i =>
    let x := match l.sweep with
      | none => i
      | some w => (w.due[i]?.map (fun d => d.1)).getD 0
    r.streams.any (fun t => rangesMeet (((t.1 : Int) + (x : Int) * t.2.1) % (2 : Int) ^ 64).toNat t.2.2 a n))

/-- A replay under way with a stream in the range of a shootdown stops where it is (R314, R323). -/
def returnReplay (a n : Nat) (h : Hart) : Hart :=
  match h.loop with
  | none => h
  | some l =>
    match l.replay with
    | none => h
    | some r =>
      if r.ended.isNone && replayTouches l r a n then { h with loop := some { l with replay := some { r with ended := some .returned } } }
      else h

/-- A replay still to be handed back has a stream in a range. -/
def replayIn (a n : Nat) (h : Hart) : Bool :=
  match h.loop with
  | none => false
  | some l =>
    match l.replay with
    | none => false
    | some r => replayTouches l r a n

/-- A shootdown begins: the cached translations go at once, and a replay with a stream in the range stops (R314, R323). [DEDUCED, log 90] -/
def startShootdown (c : Context) (va len : Nat) (s : State) : State :=
  let s := dropTranslations s c.asid va len
  let s := mapTandems (fun t => t.ctx == c.num) (fun s y =>
    (s, { y with e := returnReplay va len y.e, a := returnReplay va len y.a })) s
  { s with paging := { s.paging with shoots := s.paging.shoots ++ [{ ctx := c.num, asid := c.asid.getD 512, va := va, len := len }] } }

/-- The page of a global address becomes POISONED in its table, with a shootdown (R311, R361). -/
def poisonPage (s : State) (c : Context) (va : Nat) : State :=
  match translate s c s.tan.die false true .load va with
  | .error _ => s
  | .ok x =>
    if x.direct = true then s
    else
    let s := match x.mark with
      | .inl pa => { s with mem := s.mem.store (homeDie pa) [(pa - 1, 4, 7)] }
      | .inr _ =>
        { s with paging := { s.paging with vtab := (range 0 4).foldl (fun v d =>
            let i := 131072 * d + c.vbase + va / 2 ^ 25
            sparseSet 0 v i (setField (sparseGet 0 v i) 0 3 4)) s.paging.vtab } }
    startShootdown c (va / 2 ^ x.shift * 2 ^ x.shift) (2 ^ x.shift) s

/-- The location of an error is read and scrubbed again: a transient error is gone, a persistent one in memory poisons its page (R361). -/
def scrub (s : State) (e : ErrorAt) : State :=
  match e with
  | .memory va pa =>
    if lookup s.mem.bad pa = some true then poisonPage s s.myCtx va
    else { s with mem := { s.mem with bad := eraseKey s.mem.bad pa } }
  | .scratch u o => { s with mem := { s.mem with badScratch := s.mem.badScratch.filter (· ≠ u * 0x400000 + o) } }
  | .vectorQueue q => { s with tan := { s.tan with vq := sparseSet {} s.tan.vq q { s.tan.vfifo q with bad := false } } }
  | .scalarQueue q => { s with tan := { s.tan with sq := sparseSet {} s.tan.sq q { s.tan.sfifo q with bad := false } } }
  | .branchQueue => { s with tan := { s.tan with bq := { s.tan.bq with bad := false } } }
  | .check => { s with me := { s.me with upset := none } }

/-- The address that a NOREWIND reports for an error (R288, R340). -/
def ErrorAt.addr (e : ErrorAt) : Word :=
  match e with
  | .memory va _ => BitVec.ofNat 64 va
  | .scratch _ o => BitVec.ofNat 64 o
  | _ => 0

/-- The strip of the hart in focus is taken back to its checkpoint: its held stores are discarded, its pops undone, the checkpoint is
restored (R360), and with the program counter the place in a marked loop; LSTAT and LIDX keep their values. [DEDUCED, log 66] -/
def rewindTo (k : Checkpoint) (s : State) : State :=
  let s := s.interruptRecordings
  { s with
    links := { s.links with requests := s.links.requests.filter (fun r => r.hart ≠ s.hart ∨ r.posted = true) }
    dbg := s.dbg.goneOn s.hart
    tan := restoreSpent s.tan s.onA
    me := { s.me with
      pc := k.pc
      held := s.me.held.filter (·.eligible)
      s := k.regs.foldl (fun t e => sparseSet 0 t e.1 e.2) s.me.s
      winS := k.winS
      winV := k.winV
      saved := none
      savedInTrap := none
      stalled := none
      barWait := none
      recheck := .idle
      counted := []
      loop := k.loop
      csr := { s.me.csr with vl := k.vl, vtype := k.vtype, rc := k.rc, instret := k.instret, vstart := 0 } } }

/-- NOREWIND: the kernel of the tandem in focus faults, and that tandem's held stores are discarded (R288, R362). -/
def noRewind (addr : Word) (s : State) : State :=
  stopKernelOpen s s.tan.ctx s.tan.csn s.tan.tid addr (fun u => u == s.tan.uid)

/-- An uncorrectable error consumed by the hart in focus (R360–R362): a rewindable strip is run again from its checkpoint, twice at
most; otherwise the kernel faults with NOREWIND and the held stores are discarded. -/
def consumeError (e : ErrorAt) (s : State) : State :=
  match s.me.strip.ckpt with
  | none => noRewind e.addr s
  | some k =>
    if s.me.strip.rewindable = false ∨ 2 ≤ s.me.strip.rollbacks then noRewind e.addr s
    else
      let s := scrub s e
      rewindTo k { s with me := { s.me with strip := { s.me.strip with rollbacks := s.me.strip.rollbacks + 1 } } }

/-- A comparator match freezes the cluster before the access and writes a type-2 record (R377, R378). When the cluster resumes the
access goes ahead. [DEDUCED, log 92] -/
def freezeCluster (cmp : Nat) (addr : Word) (s : State) : State :=
  let cl := coreCluster s.tan.core
  let s := putRecord s s.tan.ctx s.tan s.sideCode 2 addr.toNat cmp
  let s := putRecord s s.tan.ctx s.tan s.sideCode 3 cl 0
  { s with dbg := { s.dbg with frozen := if s.dbg.frozen.contains cl then s.dbg.frozen else cl :: s.dbg.frozen,
                               frozenAt := if s.dbg.frozen.contains cl then s.dbg.frozenAt else insertKey s.dbg.frozenAt cl s.now,
                               passed := s.hart :: s.dbg.passed } }

/-- An address as a word. -/
def addrWord (a : Nat) : Word := BitVec.ofNat 64 a

/-- The hart in focus waits: WAITRSN gives the reason, and `addr` is the access that it waits at, or 0 (R349, R351). The instruction has
not retired. [DEDUCED, log 93] -/
def waitHere (reason port : Nat) (addr : Word) (s : State) (need : Nat := 1) : State :=
  { s with me := { s.me with stalled := some port, stallAddr := addr, stallWord := s.ir, stallNeed := need, csr := { s.me.csr with waitrsn := BitVec.ofNat 64 reason } } }

/-- The instruction under way as the owner of a request: its address, whether a handler's, and the element it stands at. -/
def State.asOwner (s : State) : Word × Bool × Nat := (s.me.pc, s.me.tis, s.me.csr.vstart.toNat)

/-- An operation of an atomic may write; BWAIT and BTEST, under their numbers for a peer, never do (R173, R247). -/
def opWrites (op : Nat) : Bool := decide (op < 19)

/-- The recovery record takes a request of the hart in focus that writes, before it is issued to its port; a firmware core has no record (R151, R273). [DEDUCED, log 108] -/
def enterRemote (s : State) (va : Nat) (op : PeerOp) (port : Nat) : Except XlatErr State :=
  if s.tan.firmware.isSome then .ok s
  else
    let writes : Bool := match op with
      | .read _ => false
      | .write _ => true
      | .atomic o _ _ _ => opWrites o
    if writes then enterRecord s s.myCtx s.tan.die va (accessLength op) 1 port else .ok s

/-- A request to a peer is sent over a port of its route and the hart waits for the reply; one that has lost its port is sent again with its
tag (R366, R367), and one that writes is recorded first (R273). Without a usable port the access meets a link error (R370). -/
def sendAndWait (va pa : Nat) (op : PeerOp) (kind : AccessKind) (s : State) : State :=
  match regionOf pa with
  | .peer n =>
    match routePort s.links n pa with
    | none => takePageFault 9 kind (BitVec.ofNat 64 va) s
    | some p =>
      match s.links.requests.find? (fun r => r.hart == s.hart && r.pa == pa && r.op == op && !r.posted && r.reply.isNone && r.owner == some s.asOwner) with
      | some r => waitHere 14 0x40 (addrWord va) { s with links := resendOver s.links r.tag p }
      | none =>
        match enterRemote s va op p with
        | .error .migrate => waitHere 16 0 0 s
        | .error .notReady => waitHere 14 0x40 0 s
        | .error _ => faultContextAll s s.tan.ctx
        | .ok s =>
          -- its hart's earlier stores come before an atomic at every die (R118)
          let s := match op with
            | .atomic _ _ _ _ => { s with mem := s.mem.publish s.tan.die }
            | _ => s
          waitHere 14 0x40 (addrWord va) (sendRequest s s.hart va pa op (some p) false 0 (some s.asOwner)).1
  | _ => s

/-- What becomes of a hart whose instruction stopped. -/
def applyStop (e : Stop) (s : State) : State :=
  match e with
  | .trap code sub xpc xaddr xinfo => takeTrap code sub xpc xaddr xinfo s
  | .page reason kind addr => takePageFault reason kind addr s
  | .wait reason port addr need => waitHere reason port addr s need
  | .consumed e => consumeError e s
  | .drained n => takeTrap 2 0 s.me.pc 0 (BitVec.ofNat 64 n) s
  | .freeze cmp addr => freezeCluster cmp addr s
  | .rootFault => faultContextAll s s.tan.ctx
  | .remote va pa op kind => sendAndWait va pa op kind s

end Sys2Proof.Machine
end

