-- ==== Sys2Proof/Machine/Access.lean ====
section
/-! DEFINITION. Accesses to memory by the hart in focus: bounds and translation (R85, R86, R303), comparators (R377), the range
scoreboard (R93–R95), loads with the hart's own held stores (R105), stores held in the strip buffer (R108, R393), DEV accesses (R101),
releases, atomics (R131, R171–R175) and the view of members that are not due (R336). -/

namespace Sys2Proof.Machine

/-- A global address or a shared offset as a number. -/
def wrap64 (a : Int) : Nat := (a % (2 : Int) ^ 64).toNat

/-! ## Copies and the range scoreboard -/

/-- The width of an element in nibbles: DF of a segment copy, or a memory field kind (R152, R153, R239). -/
def formatNibbles (df nfmt : Nat) : Nat :=
  if df < 8 then 2 * 2 ^ (df % 4)
  else if df = 8 ∨ df = 9 then 4
  else if df = 10 then 8
  else if df = 11 then 16
  else if df = 14 then (if (narrowFmt nfmt).width ≤ 4 then 1 else 2)
  else 2

/-- The width in nibbles of a memory field of kind `k`; kind 0 is as wide as the other side (R153, R203). -/
def kindNibbles (k other nfmt : Nat) : Nat :=
  match k with
  | 0 => other
  | 1 | 3 => 2
  | 2 | 4 | 5 | 6 => 4
  | _ => if (narrowFmt nfmt).width ≤ 4 then 1 else 2

/-- dsz of a segment copy, in nibbles (R239). -/
def Segment.dn (g : Segment) : Nat := formatNibbles g.df g.nfmt

/-- The width of a source field, in nibbles (R239). -/
def Segment.sn (g : Segment) : Nat := kindNibbles g.kind g.dn g.nfmt

/-- The bytes a copy reads (R91, R239). -/
def Copy.srcLen (c : Copy) : Nat :=
  match c.seg with
  | none => c.count
  | some g => (c.count * g.fields * g.sn + 1) / 2

/-- The bytes of one destination region (R239). [DEDUCED, log 102] -/
def Copy.regionLen (c : Copy) : Nat :=
  match c.seg with
  | none => c.count
  | some g => (c.count * g.dn + 1) / 2

/-- The destination regions of a copy (R92, R239). -/
def Copy.regions (c : Copy) : List (Nat × Nat) :=
  match c.seg with
  | none => [(c.dst, c.regionLen)]
  | some g => (range 0 g.fields).map (fun f => ((c.dst + f * 256 * g.rstr) % 2 ^ 64, c.regionLen))

/-- The destination bytes of a copy (R91, R92). -/
def Copy.total (c : Copy) : Nat :=
  match c.seg with
  | none => c.count
  | some g => g.fields * c.regionLen

/-- The number of chunks (R91). -/
def Copy.chunks (c : Copy) : Nat := (c.total + 2 ^ c.clog - 1) / 2 ^ c.clog

/-- The bytes of chunk `i`. -/
def Copy.chunkLen (c : Copy) (i : Nat) : Nat := min (2 ^ c.clog) (c.total - i * 2 ^ c.clog)

/-- Where destination byte `b` of a copy lies (R239). -/
def Copy.dstAddr (c : Copy) (b : Nat) : Nat :=
  match c.seg with
  | none => (c.dst + b) % 2 ^ 64
  | some g => (c.dst + b / c.regionLen * 256 * g.rstr + b % c.regionLen) % 2 ^ 64

/-- Two ranges of addresses modulo 2^64 share a byte (R93). -/
def overlaps (a n b m : Nat) : Bool :=
  decide (0 < n ∧ 0 < m ∧ ((b + 2 ^ 64 - a % 2 ^ 64) % 2 ^ 64 < n ∨ (a + 2 ^ 64 - b % 2 ^ 64) % 2 ^ 64 < m))

/-- A byte at an address belongs to a chunk that has not been written (R95). -/
def Copy.unwritten (c : Copy) (a : Nat) : Bool :=
  let regions := (range 0 c.regions.length).zip c.regions
  regions.any (fun r =>
    let off := (a + 2 ^ 64 - r.2.1) % 2 ^ 64
    decide (off < r.2.2) && !c.done.contains ((r.1 * c.regionLen + off) / 2 ^ c.clog))

/-- The copy makes an access of the hart wait (R93, R95). -/
def Copy.blocks (c : Copy) (store shared masked : Bool) (a n : Nat) : Bool :=
  let dst := c.toShared == shared && c.regions.any (fun r => overlaps a n r.1 r.2)
  if store then dst || (c.toShared != shared && overlaps a n c.src c.srcLen)
  else if masked && c.mask.isSome then c.toShared == shared && (range a n).any (fun b => c.unwritten (b % 2 ^ 64))
  else dst

/-- The range scoreboard's check of one access (R93). -/
def scoreboard (store shared masked : Bool) (a n : Nat) : Exec Unit := fun s =>
  if s.me.copies.any (fun c => c.blocks store shared masked a n) then .error (.wait 9 0x41 (addrWord a)) s else .ok () s

/-! ## Comparators -/

/-- The KIND code of DBGCTL for an access; copies and replays match no comparator (R377). -/
def comparatorKind : AccessKind → Nat
  | .fetch => 0
  | .load => 1
  | .store | .atomic => 2
  | .copyRead | .copyWrite | .replay => 4

/-- A comparator matches an access of the hart in focus, whose context has kernel debug open (R377, R383). -/
def Comparator.hits (c : Comparator) (s : State) (k : AccessKind) (a n : Nat) : Bool :=
  let mask := field c.ctl 5 6
  let kind := field c.ctl 3 2
  c.ctl.getLsbD 0 && s.myCtx.debugOpen && (kind == 3 || kind == comparatorKind k) && field c.ctl 11 9 == s.asidOf s.tan &&
    (!c.ctl.getLsbD 20 || field c.ctl 21 12 == s.tan.qid) &&
    (range a n).any (fun b => b % 2 ^ 57 / 2 ^ mask == c.addr.toNat % 2 ^ 57 / 2 ^ mask)

/-- A match freezes the cluster before the access, unless it has been reported already (R377, R378). [DEDUCED, log 30] -/
def comparators (k : AccessKind) (a n : Nat) : Exec Unit := fun s =>
  if s.tan.firmware.isSome || s.dbg.passed.contains s.hart then .ok () s
  else
    match (range 0 8).find? (fun i => (sparseGet {} s.dbg.comparators (8 * coreCluster s.tan.core + i)).hits s k a n) with
    | some i => .error (.freeze i (addrWord a)) s
    | none => .ok () s

/-! ## Translation of an access -/

/-- The translations of the bytes of a global access (R303–R310); a firmware core's are made in the system view. A and D are set (R307). An
access homed on a station that is not ready waits, and a read of host memory before the CXL port is ready is a link error (R370, R390). [DEDUCED, log 84] -/
def resolve (vport : Bool) (k : AccessKind) (a n : Nat) : Exec (List Xlat) := fun s =>
  match translateBytes s s.myCtx s.tan.die vport s.tan.firmware.isSome k a n with
  | .ok xs =>
    if xs.all s.stationReady = false then .error (.wait 14 0x40 (addrWord a)) s
    else if k ≠ .store ∧ s.hostReady = false ∧ xs.any (fun x => !x.discarded && regionOf x.pa == .host) then .error (.page 9 k (addrWord a)) s
    else .ok xs (xs.foldl (fun s x => markXlat s k x) s)
  | .error (.spaceBound, b) => .error (.trap 3 0 s.me.pc (addrWord b) s.irWord) s
  | .error (.page r, b) => .error (.page r k (addrWord b)) s
  | .error (.migrate, _) => .error (.wait 16 0) s
  | .error (.notReady, _) => .error (.wait 14 0x40 (addrWord a)) s
  | .error (.root, _) => .error .rootFault s

/-- Bytes as the runs of consecutive physical addresses they make, each within 4 KiB. [DESIGN CHOICE, log 111] -/
def runsOf : List (Nat × Xlat) → List (List (Nat × Xlat))
  | [] => []
  | x :: r =>
    match runsOf r with
    | [] => [[x]]
    | [] :: _ => [[x]]
    | (y :: q) :: rest =>
      if x.2.pa + 1 = y.2.pa ∧ x.2.pa / 4096 = y.2.pa / 4096 then (x :: y :: q) :: rest else [x] :: (y :: q) :: rest

/-- Whether some byte of an access has an uncorrectable error (R360); a discarded page touches no frame (R312). [DESIGN CHOICE, log 29] -/
def checkErrors (xs : List (Nat × Xlat)) : Exec Unit := fun s =>
  match xs.find? (fun x => !x.2.discarded && (lookup s.mem.bad x.2.pa).isSome) with
  | some x => .error (.consumed (.memory x.1 x.2.pa)) s
  | none => .ok () s

/-- A reply that has arrived for a request of the instruction under way, at the element it stands at, is taken; without one the hart waits, or sends
the request (R123, R367). -/
def takeReply (va pa : Nat) (op : PeerOp) (kind : AccessKind) : Exec (List Byte) := fun s =>
  match s.links.requests.find? (fun r => r.hart == s.hart && r.pa == pa && r.op == op && !r.posted && r.owner == some s.asOwner) with
  | some r =>
    match r.reply with
    | some d =>
      .ok d { s with links := { s.links with requests := s.links.requests.filter (fun q => q.tag ≠ r.tag) } }
    | none => if r.port.isNone then .error (.remote va pa op kind) s else .error (.wait 14 0x40 (addrWord va)) s
  | none => .error (.remote va pa op kind) s

/-- The bytes of one run as a load, or a fetch, reads them where they lie (R112, R119, R123, R312). -/
def readRun (run : List (Nat × Xlat)) (kind : AccessKind := .load) : Exec (List Byte) := fun s =>
  match run with
  | [] => .ok [] s
  | (va, x) :: _ =>
    if x.discarded then .ok (run.map (fun _ => 0)) s
    else
      match regionOf x.pa with
      | .device =>
        let bs := s.mem.viewBytes s.tan.die x.pa run.length
        -- a firmware core that reads an image meets registers (R45)
        .ok (if s.tan.firmware.isSome then imageView s x.pa bs else bs) s
      | .doorbell =>
        if run.length = 8 ∧ x.pa % 8 = 0 then .ok (toBytes 8 (doorbellRead s x.pa)) (doorbellSeen s x.pa) else .ok (run.map (fun _ => 0)) s
      | .host => .ok (run.map (fun y => s.hostByte y.2.pa)) (s.hostSeen (run.map (fun y => y.2.pa)))
      | .peer _ => takeReply va x.pa (.read run.length) kind s
      | .unassigned => .ok (run.map (fun _ => 0)) s

/-- The writes of some runs to host and peer memory enter the recovery record before anything is issued (R273). A record that cannot be
reached makes the context FAULTED, and one whose page is under migration makes the instruction wait (R270, R315). The port field of an entry for the
host holds 0. [DEDUCED, log 108] -/
def enterRuns (runs : List (List (Nat × Xlat))) : Exec Unit := fun s =>
  let one (r : Except XlatErr State) (run : List (Nat × Xlat)) : Except XlatErr State :=
    match r, run with
    | .error e, _ => .error e
    | .ok s, [] => .ok s
    | .ok s, (va, x) :: _ =>
      match regionOf x.pa with
      | .host => enterRecord s s.myCtx s.tan.die va run.length 0 0
      | .peer n => enterRecord s s.myCtx s.tan.die va run.length 1 ((routePort s.links n x.pa).getD 0)
      | _ => .ok s
  if s.tan.firmware.isSome then .ok () s
  else
    match runs.foldl one (.ok s) with
    | .ok s' => .ok () s'
    | .error .migrate => .error (.wait 16 0) s
    | .error .notReady => .error (.wait 14 0x40 0) s
    | .error _ => .error .rootFault s

/-- Several runs read one after the other. -/
def readRuns (runs : List (List (Nat × Xlat))) (kind : AccessKind := .load) : Exec (List Byte) :=
  match runs with
  | [] => pure []
  | r :: rest => do
    let b ← readRun r kind
    let c ← readRuns rest kind
    pure (b ++ c)

/-- What the hart's held stores make of a byte (R105): a later store stands behind an earlier one. [DEDUCED, log 25] -/
def overlayHeld (held : List HeldStore) (shared : Bool) (va : Nat) (b : Byte) : Byte :=
  held.foldl (fun b x =>
    if x.shared == shared then
      x.bytes.foldl (fun b y => if y.va = va then (y.val &&& y.mask) ||| (b &&& ~~~y.mask) else b) b
    else b) b

/-- An access enters the model's notes of the instruction. -/
def note (x : Note) : Exec Unit := modState (fun s => { s with notes := x :: s.notes })

/-! ## Members of a set that are not due (R336) -/

/-- The element size of an element kind (R329). -/
def ekSize (ek : Nat) : Nat := if ek = 0 then 4 else 2

/-- The format of an element kind (R329). -/
def ekFmt (ek : Nat) : Fmt := if ek = 0 then fp32 else if ek = 1 then fp16 else bf16

/-- The member and the element of its block that a byte of the data area belongs to (R329). -/
def Sweep.elementOf (w : Sweep) (a : Nat) : Option (Nat × Nat) :=
  let esz := ekSize w.ek
  let off := (a + 2 ^ 64 - w.dbase) % 2 ^ 64
  if off < w.cnt * w.blen * esz then some (off / esz / w.blen, off / esz % w.blen) else none

/-- The address of an element of a member's block. -/
def Sweep.elementAddr (w : Sweep) (id k : Nat) : Nat := (w.dbase + (id * w.blen + k) * ekSize w.ek) % 2 ^ 64

/-- The extrapolated value of an element: fma(RoundNE(S − LAST), slope, v), rounded in FP32 and then to EK; a NaN value or slope gives the
canonical NaN of EK (R336). [DEDUCED, log 64] -/
def extrapolate (w : Sweep) (last slope v : Nat) : Nat :=
  let f := ekFmt w.ek
  let x := f.decode v
  let y := fp32.decode slope
  if x.isNaN || y.isNaN then f.canonical.getD 0
  else
    let t := fp32.deliver 0 0 (intVal ((w.s : Int) - last))
    let r := fp32.deliver 0 0 (fmaVal 0 (fp32.decode t.1) y x).1
    (f.deliver 0 0 (fp32.decode r.1)).1

/-- The bytes that an extrapolating load reads of itself, in the slope area and the rest of an element: the hart's held stores over what the space
holds (R105, R336). They are no access of the program, and no copy's destination holds them up. [DEDUCED, log 64] -/
def plainRead (vport : Bool) (a n : Nat) : Exec (List Byte) := do
  let xs ← resolve vport .load a n
  let vs := (range a n).map (fun b => b % 2 ^ 64)
  checkErrors (vs.zip xs)
  let runs := runsOf (vs.zip xs)
  let bs ← readRuns runs
  note { store := false, shared := false, va := a, len := n, pas := runs.filterMap (fun r => r.head?.map (fun x => x.2.pa)),
         dev := xs.any (·.dev), present := xs.all (fun x => x.st == 1), side := true }
  let s ← getState
  pure ((vs.zip bs).map (fun e => overlayHeld s.me.held false e.1 e.2))

/-- One byte of the data area as the sweep shows it (R336). -/
def sweptByte (w : Sweep) (vport : Bool) (a : Nat) (b : Byte) : Exec Byte :=
  match w.elementOf a with
  | none => pure b
  | some (id, k) =>
    if w.due.any (fun d => d.1 = id) then pure b
    else do
      let ea := w.elementAddr id k
      let v ← plainRead vport ea (ekSize w.ek)
      let sl ← plainRead false ((w.slopeb + 4 * (id * w.blen + k)) % 2 ^ 64) 4
      let r := toBytes (ekSize w.ek) (extrapolate w ((lookup w.lasts id).getD 0) (ofBytes sl) (ofBytes v))
      pure (r.getD ((a + 2 ^ 64 - ea) % 2 ^ 64) b)

/-- The bytes of a read as an active sweep of the hart shows them (R336). -/
def sweptBytes (w : Sweep) (vport : Bool) : List (Nat × Byte) → Exec (List Byte)
  | [] => pure []
  | (a, b) :: r => do
    let x ← sweptByte w vport a b
    let xs ← sweptBytes w vport r
    pure (x :: xs)

/-- The sweep of the hart in focus, where its loads may see extrapolated values. -/
def State.extrapolating (s : State) : Option Sweep :=
  match s.me.loop.bind (·.sweep) with
  | some w => if w.pol = 1 ∧ w.slopeb ≠ 0 then some w else none
  | none => none

/-! ## Loads and stores -/

/-- DEV memory is reached only after the hart's held stores, and leaves the strip non-rewindable (R101, R108). -/
def beforeDev (xs : List Xlat) : Exec Unit := fun s =>
  if xs.any (·.dev) then .ok () s.endStrip.spoilStrip else .ok () s

/-- A load of `n` bytes of global memory (R169, R206). -/
def loadGlobal (vport masked : Bool) (a n : Nat) : Exec (List Byte) := do
  let xs ← resolve vport .load a n
  comparators .load a n
  scoreboard false false masked a n
  let vs := (range a n).map (fun b => b % 2 ^ 64)
  beforeDev xs
  checkErrors (vs.zip xs)
  let runs := runsOf (vs.zip xs)
  let bs ← readRuns runs
  let s ← getState
  let own := (vs.zip bs).map (fun e => overlayHeld s.me.held false e.1 e.2)
  let r ← match s.extrapolating with
    | some w => sweptBytes w vport (vs.zip own)
    | none => pure own
  note { store := false, shared := false, va := a, len := n, pas := runs.filterMap (fun r => r.head?.map (fun x => x.2.pa)),
         dev := xs.any (·.dev), present := xs.all (fun x => x.st == 1) }
  pure r

/-- The last offset of the hart's shared space (R86, R151). -/
def State.sharedTop (s : State) : Nat := if s.tan.firmware.isSome then 0xFFFF else 0x3FFFFF

/-- Every byte of a shared access lies in bounds; otherwise SPACE-BOUND with the access's offset (R86). -/
def sharedBounds (a n : Nat) : Exec Unit := fun s =>
  if n = 0 ∨ a + n - 1 ≤ s.sharedTop then .ok () s else .error (.trap 3 0 s.me.pc (addrWord a) s.irWord) s

/-- The bytes of scratch as the hart reads them: its held stores over what scratch holds. A byte nothing has written is a free value
(R392); an uncorrectable error there is consumed (R360). -/
def scratchRead (a n : Nat) : Exec (List Byte) := fun s =>
  match (range a n).find? (fun b => s.mem.badScratch.contains (s.tan.unit * 0x400000 + b)) with
  | some b => .error (.consumed (.scratch s.tan.unit b)) s
  | none => .ok ((range a n).map (fun b => overlayHeld s.me.held true b (s.mem.scratchByte s.free s.tan.unit b))) { s with free := s.free + 1 }

/-- A load of `n` bytes of the shared space (R169, R211). -/
def loadShared (masked : Bool) (a n : Nat) : Exec (List Byte) := do
  sharedBounds a n
  scoreboard false true masked a n
  note { store := false, shared := true, va := a, pas := [], dev := false }
  scratchRead a n

/-- A load from either space. -/
def loadBytes (shared vport masked : Bool) (a n : Nat) : Exec (List Byte) :=
  if shared then loadShared masked a n else loadGlobal vport masked a n

/-- The distinct bytes a list of held stores holds (R393). -/
def distinctHeld (held : List HeldStore) : Nat :=
  ((held.flatMap (fun x => x.bytes.map (fun b => (x.shared, b.va)))).dedup).length

/-- The share of the strip buffer that the hart has (R393). -/
def State.stripShare (s : State) : Nat := if s.tan.single then 32768 else 16384

/-- The bytes of `vs` that a list of held stores does not hold yet. -/
def freshBytes (shared : Bool) (vs : List Nat) (held : List HeldStore) : List Nat :=
  vs.filter (fun v => !(held.any (fun x => x.shared == shared && x.bytes.any (fun b => b.va == v))))

/-- A store that would not fit first has the hart's held stores performed and its strip made non-rewindable (R108, R393). Where even all
held bytes counted apart fit, the distinct ones do. -/
def makeRoom (shared : Bool) (vs : List Nat) (s : State) : State :=
  if s.me.held.foldl (fun n x => n + x.bytes.length) vs.length ≤ s.stripShare then s
  else if s.stripShare < distinctHeld s.me.held + (freshBytes shared vs s.me.held).length then s.endStrip.spoilStrip
  else s

/-- A plain store is held (R108). Bytes of a misaligned store are held apart, for they are performed in no fixed order (R87). [DEDUCED, log 33] -/
def hold (shared : Bool) (aligned : Bool) (bs : List HeldByte) (s : State) : State :=
  let s := makeRoom shared (bs.map (·.va)) s
  let new : List HeldStore :=
    let k := s.me.strip.serial
    if aligned then [{ shared := shared, eligible := false, strip := k, bytes := bs }]
    else bs.map (fun b => { shared := shared, eligible := false, strip := k, bytes := [b] })
  { s with me := { s.me with held := s.me.held ++ new } }

/-- The tag of a request that is under way joins those the hart's system fences wait for (R124). -/
def addOutstanding (t : Option Nat) (s : State) : State :=
  match t with
  | none => s
  | some t => { s with me := { s.me with outstanding := s.me.outstanding ++ [t] } }

/-- Runs of bytes land one after the other (R112, R119, R123). -/
def landRuns (posted : Bool) : List (List (Nat × Nat × Byte × Byte)) → State → State
  | [], s => s
  | r :: rest, s =>
    let x := landBytes s s.tan.die s.hart ((r.head?.map (·.1)).getD 0) posted 0 (r.map (·.2))
    landRuns posted rest (addOutstanding x.2 x.1)

/-- The runs of an access with the bytes stored to them. -/
def storeRuns (vs : List Nat) (xs : List Xlat) (bs : List (Byte × Byte)) : List (List (Nat × Nat × Byte × Byte)) :=
  let table := vs.zip bs
  (runsOf (vs.zip xs)).map (fun r => r.map (fun e =>
    let b := ((table.find? (fun t => t.1 == e.1)).map (·.2)).getD (0, 0)
    (e.1, e.2.pa, b.1, b.2)))

/-- What a store's bytes hold before it, where the sweep or the recorder may ask for it: the hart's own view of them. What a peer's memory holds
is not known here and stands as a free value. -/
def State.ownBytes (s : State) (vs : List Nat) (xs : List Xlat) : List Byte :=
  (vs.zip xs).map (fun e => overlayHeld s.me.held false e.1
    (match regionOf e.2.pa with
     | .device => s.mem.viewByte s.tan.die e.2.pa
     | .host => s.hostByte e.2.pa
     | .peer _ => Config.freeByte s.free e.1
     | _ => 0))

/-- A plain store of bytes, each with the bits it changes, to global memory (R169, R206). -/
def storeGlobal (vport : Bool) (a : Nat) (bs : List (Byte × Byte)) : Exec Unit := do
  let n := bs.length
  let xs ← resolve vport .store a n
  comparators .store a n
  scoreboard true false false a n
  let vs := (range a n).map (fun b => b % 2 ^ 64)
  let s ← getState
  let old := s.ownBytes vs xs
  enterRuns (runsOf (vs.zip xs))
  beforeDev xs
  if xs.any (·.dev) then modState (landRuns true (storeRuns vs xs bs))
  else modState (hold false (decide (a % n = 0))
    ((vs.zip (xs.zip bs)).map (fun e => { va := e.1, pa := e.2.1.pa, val := e.2.2.1, mask := e.2.2.2 })))
  note { store := true, shared := false, va := a, len := n,
         pas := (runsOf (vs.zip xs)).filterMap (fun r => r.head?.map (fun x => x.2.pa)),
         dev := xs.any (·.dev), present := xs.all (fun x => x.st == 1), old := old,
         new := (old.zip bs).map (fun e => (e.2.1 &&& e.2.2) ||| (e.1 &&& ~~~e.2.2)) }

/-- A plain store to the shared space (R169, R211). -/
def storeShared (a : Nat) (bs : List (Byte × Byte)) : Exec Unit := do
  let n := bs.length
  sharedBounds a n
  scoreboard true true false a n
  note { store := true, shared := true, va := a, pas := [], dev := false }
  modState (hold true (decide (a % n = 0))
    (((range a n).zip bs).map (fun e => { va := e.1, pa := 0, val := e.2.1, mask := e.2.2 })))

/-- A plain store to either space. -/
def storeMasked (shared vport : Bool) (a : Nat) (bs : List (Byte × Byte)) : Exec Unit :=
  if shared then storeShared a bs else storeGlobal vport a bs

/-- A plain store of whole bytes. -/
def storeBytes (shared vport : Bool) (a : Nat) (bs : List Byte) : Exec Unit :=
  storeMasked shared vport a (bs.map (fun b => (b, 0xFF)))

/-- ReadG and ReadS of R157. -/
def readMem (shared : Bool) (a n : Nat) : Exec Nat := do
  let b ← loadBytes shared false false a n
  pure (ofBytes b)

/-- WriteG and WriteS of R157. -/
def writeMem (shared : Bool) (a n x : Nat) : Exec Unit := storeBytes shared false a (toBytes n x)

/-- A naturally aligned address, or the illegal-operand trap of R87. -/
def requireAligned (a n : Nat) : Exec Unit := fun s =>
  if a % n = 0 then .ok () s else .error (.trap 2 0 s.me.pc (addrWord a) s.irWord) s

/-! ## Release stores and atomics -/

/-- Scratch bytes written at once. -/
def writeScratchNow (a : Nat) (bs : List (Byte × Byte)) (s : State) : State :=
  ((range a bs.length).zip bs).foldl (fun s e =>
    { s with mem := s.mem.writeScratch s.free s.tan.unit e.1 e.2.1 e.2.2 }) s

/-- Before an access that comes after the hart's earlier ones reaches memory outside every die view, what its die's view holds has been applied
at every die: harts of every die read that memory directly (R113, R114, R118, R123). -/
def publishFor (pa : Nat) (s : State) : State := if regionOf pa = .device then s else { s with mem := s.mem.publish s.tan.die }

/-- A release store: the hart's held stores are performed first, its own store is never held, and the strip can no longer be run again
(R113, R171, R359). -/
def releaseStore (shared : Bool) (a n x : Nat) : Exec Unit := do
  let bs := (toBytes n x).map (fun b => (b, (0xFF : Byte)))
  if shared then do
    sharedBounds a n
    scoreboard true true false a n
    modState (fun s => writeScratchNow a bs s.endStrip.spoilStrip)
    note { store := true, shared := true, va := a, pas := [], dev := false }
  else do
    let xs ← resolve false .store a n
    comparators .store a n
    scoreboard true false false a n
    let vs := (range a n).map (fun b => b % 2 ^ 64)
    let s ← getState
    let old := s.ownBytes vs xs
    enterRuns (runsOf (vs.zip xs))
    modState (fun s => landRuns true (storeRuns vs xs bs) (publishFor ((xs.head?.map (·.pa)).getD 0) s.endStrip.spoilStrip))
    note { store := true, shared := false, va := a, len := n, pas := xs.head?.toList.map (·.pa), dev := xs.any (·.dev),
           present := xs.all (fun x => x.st == 1), old := old, new := bs.map (·.1) }

/-- The operations of an atomic on an `n`-byte value (R173, R174): what is written, if anything, and the flags. -/
def atomicNew (op n m x e : Nat) : Option Nat × Nat :=
  let w := 8 * n
  match op with
  | 0 => (some ((m + x) % 2 ^ w), 0)
  | 1 => (some (m &&& x), 0)
  | 2 => (some (m ||| x), 0)
  | 3 => (some (m ^^^ x), 0)
  | 4 => (some (if toSigned w x < toSigned w m then x else m), 0)
  | 5 => (some (if toSigned w m < toSigned w x then x else m), 0)
  | 6 => (some (min m x), 0)
  | 7 => (some (max m x), 0)
  | 8 => (some x, 0)
  | 9 => (if m = e then some x else none, 0)
  | 10 => let r := fAdd (if n = 4 then fp32 else fp64) 0 0 m x; (some r.1, r.2)
  | _ => (some (if x ≤ m then 0 else m + 1), 0)

/-- One indivisible read and write of device memory: the write is ordered after everything in the issuing die's view and the home die's,
takes effect in the home view first, and returns the value before it in the coherence order (R131). The writes to the location that it comes
after stand, with all that precedes them, in both views from then on (R105, R114). [DEDUCED, log 23] [DEDUCED, log 34] -/
def atomicDevice (d pa n : Nat) (f : Nat → Option Nat × Nat) (s : State) : State × Nat × Nat :=
  let h := homeDie pa
  let m := (((s.mem.pull d h).pull h d).catchUp pa n h).catchUp pa n d
  let old := ofBytes ((range pa n).map m.latestByte)
  let r := f old
  match r.1 with
  | none => ({ s with mem := m }, old, r.2)
  | some v =>
    let m := m.store h (((range pa n).zip (toBytes n v)).map (fun e => (e.1, e.2, (0xFF : Byte))))
    ({ s with mem := m.pull h d }, old, r.2)

/-- Such an atomic of an agent that reaches images: in a tandem's image it meets the registers (R45). -/
def atomicImage (d pa n : Nat) (f : Nat → Option Nat × Nat) (s : State) : State × Nat × Nat :=
  let held := (range pa n).map s.mem.latestByte
  let seen := imageView s pa held
  let s : State := if seen = held then s else { s with mem := homeStore s.mem pa (seen.map (fun b => (b, (0xFF : Byte)))) }
  let r := atomicDevice d pa n f s
  (writeImages ((range pa n).map (fun a => (a, r.1.mem.latestByte a, (0xFF : Byte)))) r.1, r.2)

/-- An atomic's read and write at the place of its target (R131): the old value and the flags. `op`, `x` and `e` describe it to a peer; `xs` are
the translations of its bytes. -/
def atomicAt (va pa : Nat) (xs : List Xlat) (n op x e : Nat) (f : Nat → Option Nat × Nat) : Exec (Nat × Nat) := do
  let s ← getState
  match regionOf pa with
  | .device => fun s =>
    (let r := if s.tan.firmware.isSome then atomicImage s.tan.die pa n f s else atomicDevice s.tan.die pa n f s
     .ok r.2 r.1)
  | .doorbell =>
    if n = 8 then
      let old := doorbellRead s pa
      let r := f old
      modState (fun s => doorbellSeen s pa)
      match r.1.bind (doorbellEvent pa) with
      | some i => do
        modState (fun s => { publishFor pa s with inputs := ring i s.inputs })
        pure (old, r.2)
      | none => pure (old, r.2)
    else pure (0, (f 0).2)
  | .host => do
    if opWrites op then enterRuns [((range va n).zip xs)] else pure ()
    let s ← getState
    let old := ofBytes ((range pa n).map s.hostByte)
    let r := f old
    modState (fun s => s.hostSeen (range pa n))
    match r.1 with
    | none => pure (old, r.2)
    | some v => do
      modState (fun s =>
        let s := publishFor pa s
        { s with mem := { s.mem with
            cells := writeCells s.mem.cells (((range pa n).zip (toBytes n v)).map (fun e => (e.1, e.2, (0xFF : Byte)))) } })
      pure (old, r.2)
  | .peer _ => do
    let b ← takeReply va pa (.atomic op n x e) .atomic
    let old := ofBytes b
    pure (old, (f old).2)
  | .unassigned => pure (0, 0)

/-- An atomic of the hart on an aligned location: the held stores are performed first, and the strip can no longer be run again
(R173, R175). `f` gives what is written and the flags; `op`, `x` and `e` describe it to a peer. -/
def atomicMem (shared vport : Bool) (a n op x e : Nat) (f : Nat → Option Nat × Nat) : Exec (Nat × Nat) := do
  if shared then do
    sharedBounds a n
    scoreboard true true false a n
    modState (fun s => s.endStrip.spoilStrip)
    note { store := true, shared := true, va := a, pas := [], dev := false }
    let b ← scratchRead a n
    let old := ofBytes b
    let r := f old
    match r.1 with
    | none => pure (old, r.2)
    | some v => do
      modState (writeScratchNow a ((toBytes n v).map (fun b => (b, (0xFF : Byte)))))
      pure (old, r.2)
  else do
    let xs ← resolve vport .atomic a n
    comparators .atomic a n
    scoreboard true false false a n
    let vs := (range a n).map (fun b => b % 2 ^ 64)
    modState (fun s => s.endStrip.spoilStrip)
    checkErrors (vs.zip xs)
    match xs with
    | [] => pure (0, 0)
    | x0 :: _ => do
      let r ← atomicAt a x0.pa xs n op x e f
      note { store := true, shared := false, va := a, len := n, pas := [x0.pa], dev := xs.any (·.dev),
             old := toBytes n r.1, new := ((f r.1).1.map (toBytes n)).getD [] }
      pure r

end Sys2Proof.Machine
end

