-- ==== Sys2Proof/Machine/Area.lean ====
section
/-! DEFINITION. The kernel area of a context: kernel records and tandem entries (R284–R287), and the committed element index (R286). The
Thoud writes it in the system view; a write that fails makes the context FAULTED (R270). -/

namespace Sys2Proof.Machine

/-- The state code of a kernel record (R287). -/
def KState.code : KState → Nat
  | .free => 0 | .starting => 1 | .running => 2 | .draining => 3 | .complete => 4 | .faulted => 5 | .cancelled => 6

/-- A kernel's record as memory holds it (R285). -/
def kernelRecordBytes (k : Kernel) : List Byte :=
  toBytes 8 k.csn ++ toBytes 8 (k.state.code + k.fcode * 2 ^ 8 + k.qid * 2 ^ 16) ++
  toBytes 8 (k.tcnt + k.tend * 2 ^ 32) ++ toBytes 8 k.argAddr.toNat ++ toBytes 8 k.total ++ toBytes 8 k.doneAddr.toNat ++
  toBytes 8 k.faddr.toNat ++ toBytes 8 (k.ftid + k.finfo * 2 ^ 32)

/-- A kernel's record is written (R284, R285). -/
def writeKernel (s : State) (d ctx csn : Nat) : State :=
  match s.ctx? ctx, s.kernel? ctx csn with
  | some c, some k => areaWrite s c d (kernelRecordAddr c csn) (kernelRecordBytes k)
  | _, _ => s

/-- What closed strips owe CIDX of the tandem in focus, as far as it is due (R286). [DEDUCED, log 57] -/
def settleCidx (s : State) : State :=
  let r := settleOwed s s.focusAway
  { r.1 with tan := r.2 }

/-- The strip of the hart in focus closes: its held stores become eligible to perform, the slots its pops kept are freed, and CIDX is owed
RC × VL, with RC as the strip opened and VL as it stands (R108, R183, R286). -/
def closeStrip (s : State) : State :=
  let n := s.me.strip.openRc * s.me.csr.vl.toNat
  { s with
    me := { s.me with held := s.me.held.map (fun x => { x with eligible := true }) }
    tan := { freeSpent s.tan s.onA with
      owed := if s.onA = true ∨ n = 0 then s.tan.owed else s.tan.owed ++ [(s.me.strip.serial, n)] } }

/-- The strip checkpoint, with the address of the next instruction and INSTRET as that instruction will find it (R183). -/
def takeCheckpoint (s : State) : State :=
  let h := s.me
  let names := (range 1 16).filter (fun n => h.csr.skm.getLsbD (n - 1))
  let c : Checkpoint :=
    { pc := h.pc + 4
      regs := names.map (fun n => (archReg h.winS n, h.readS n))
      winS := h.winS
      winV := h.winV
      vl := h.csr.vl
      vtype := h.csr.vtype
      rc := h.csr.rc
      instret := h.csr.instret + 1
      loop := h.loop.map (fun l => { l with recd := none }) }
  { s with me := { h with strip :=
      { rewindable := true, ckpt := some c, openRc := h.csr.rc.toNat, rollbacks := 0, serial := h.strip.serial + 1 } } }

end Sys2Proof.Machine
end

