-- ==== Sys2Proof/Machine/Record.lean ====
section
/-! DEFINITION. What happens when an instruction retires beside its own effect: the recording of a marked loop (R316–R320), the
measuring of a sweep's stores (R333), the history ring (R380) and the sums of a causal trial (R381). The instruction is told from its
word, in State.ir. -/

namespace Sys2Proof.Machine

/-- MAJ of a word. -/
def wMaj (w : BitVec 32) : Nat := field w 0 6
/-- D. -/
def wD (w : BitVec 32) : Nat := field w 6 7
/-- A. -/
def wA (w : BitVec 32) : Nat := field w 13 7
/-- B. -/
def wB (w : BitVec 32) : Nat := field w 20 7
/-- FN5. -/
def wFn5 (w : BitVec 32) : Nat := field w 27 5
/-- FN4. -/
def wFn4 (w : BitVec 32) : Nat := field w 28 4
/-- M of F3V. -/
def wM (w : BitVec 32) : Bool := w.getLsbD 27
/-- FN2 of FI2. -/
def wFn2 (w : BitVec 32) : Nat := field w 20 2

/-! ## VTYPE -/

/-- SEW in bits (R46). -/
def Csr.sew (c : Csr) : Nat := 8 * 2 ^ field c.vtype 0 2
/-- g (R46). -/
def Csr.grp (c : Csr) : Nat := 2 ^ field c.vtype 4 2
/-- FK (R46). -/
def Csr.fk (c : Csr) : Nat := field c.vtype 2 2
/-- IP (R46). -/
def Csr.ip (c : Csr) : Bool := c.vtype.getLsbD 6
/-- BLK (R46). -/
def Csr.blk (c : Csr) : Nat := field c.vtype 7 4
/-- RC. -/
def Csr.rows (c : Csr) : Nat := c.rc.toNat
/-- VL. -/
def Csr.len (c : Csr) : Nat := c.vl.toNat
/-- VSTART. -/
def Csr.start (c : Csr) : Nat := c.vstart.toNat

/-- Linear element e's bit of a predicate (R12, R95). -/
def predBit (p : PReg) (vl e : Nat) : Bool := p.getLsbD (e / vl * 1024 + e % vl)

/-- The hart with the registers that its instruction's operands are taken from: those at the first issue of one that has stopped (R344). -/
def Hart.issued (h : Hart) : Hart :=
  match h.savedNow with
  | some x =>
    if x.pc = h.pc then
      (match x.issue with
       | some i => { h with s := i.s, v := i.v, p := i.p, k := i.k, h := i.h, csr := { h.csr with instret := i.instret } }
       | none => h)
    else h
  | none => h

/-- active(e) (R186), under p0 as the instruction's first issue found it (R95, R344). -/
def Hart.active (h : Hart) (m : Bool) (e : Nat) : Bool := !m || predBit (h.issued.readP 0) h.csr.len e

/-! ## Registers that a recorded instruction reads and writes -/

/-- A scalar of the hart; s0 and queue names denote none. -/
def sRef (h : Hart) (n : Nat) : List RegRef := if n = 0 ∨ 112 ≤ n then [] else [⟨0, archReg h.winS n⟩]

/-- A scalar that is read; s0 counts as the invariant that it is (R317). -/
def sRead (h : Hart) (n : Nat) : List RegRef := if n = 0 then [⟨0, 0⟩] else sRef h n

/-- The registers of a tile operand with group factor `g` that hold elements below VL, `w` bits wide (R38). -/
def vRefs (h : Hart) (b g w : Nat) : List RegRef :=
  let used := min g ((h.csr.len * w + 1023) / 1024)
  (range 0 h.csr.rows).flatMap (fun j => (range 0 used).map (fun k => ⟨1, h.archV (b + j * g + k)⟩))

/-- A predicate. -/
def pRef (n : Nat) : List RegRef := [⟨2, n⟩]

/-- The width of a VCVT code (R152). -/
def codeWidth (c : Nat) : Nat := 4 * formatNibbles (if c = 14 then 12 else c) 0

/-- The registers that a word of the replayable set reads, and those it writes (R319). -/
def regUse (h : Hart) (w : BitVec 32) : List RegRef × List RegRef :=
  let sew := h.csr.sew
  let g := h.csr.grp
  let s := sRef h
  let r := sRead h
  let v := fun n => vRefs h n g sew
  let mask := if wM w then pRef 0 else []
  let kept := wM w && !h.csr.ip && (range 0 (h.csr.rows * h.csr.len)).any (fun e => !h.active true e)
  let keep (d : List RegRef) : List RegRef := if kept then d else []
  let fn := wFn4 w
  match wMaj w with
  | 0x01 => (r (wA w) ++ r (wB w), s (wD w))
  | 0x06 => (r (wA w) ++ (if 30 ≤ wFn5 w then [] else r (wB w)), s (wD w))
  | 0x02 | 0x03 | 0x0D | 0x0E => (r (wA w), s (wD w))
  | 0x07 => (r (wA w) ++ r (wB w) ++ r (wD w), s (wD w))
  | 0x0F => (r (wA w) ++ r (wD w), [])
  | 0x08 => (r (wD w), [])
  | 0x09 => (r (wD w) ++ r (wA w), [])
  | 0x24 => (v (wA w) ++ v (wB w) ++ mask ++ keep (v (wD w)), v (wD w))
  | 0x25 => (v (wA w) ++ r (wB w) ++ mask ++ keep (v (wD w)), v (wD w))
  | 0x26 => (v (wA w) ++ (if fn = 7 ∨ fn = 8 then [] else v (wB w)) ++ mask ++ keep (v (wD w)), v (wD w))
  | 0x27 =>
    let hi := if fn = 14 then r (wB w + 1) else []
    ((if fn = 7 ∨ fn = 8 then [] else v (wA w)) ++ r (wB w) ++ hi ++ mask ++ keep (v (wD w)), v (wD w))
  | 0x28 =>
    let b := if (4 ≤ fn ∧ fn ≤ 7) ∨ fn = 11 then r (wB w) else v (wB w)
    (v (wA w) ++ b ++ v (wD w) ++ mask, v (wD w))
  | 0x29 =>
    let b := if 11 ≤ fn then r (wB w) else v (wB w)
    (v (wA w) ++ b ++ mask ++ keep (pRef (wD w)), pRef (wD w))
  | 0x2A =>
    if fn = 9 ∨ fn = 10 then (pRef (wA w), s (wD w))
    else (pRef (wA w) ++ (if fn = 4 then [] else pRef (wB w)), pRef (wD w))
  | 0x2B => (v (wA w) ++ v (wB w) ++ pRef 0, v (wD w))
  | 0x2D =>
    let dw := codeWidth (wB w)
    let d := vRefs h (wD w) (max 1 (g * dw / sew)) dw
    (v (wA w) ++ mask ++ keep d, d)
  | 0x2F => (r (wA w) ++ mask ++ keep (v (wD w)), v (wD w))
  | 0x30 => (r (wA w) ++ mask ++ v (wD w), [])
  | _ => ([], [])

/-- A field names a queue end. -/
def queueName (n : Nat) : Bool := decide (112 ≤ n)

/-- A scalar or vector operand of a word of the replayable set names a queue end. -/
def namesQueue (w : BitVec 32) : Bool :=
  let d := queueName (wD w)
  let a := queueName (wA w)
  let b := queueName (wB w)
  match wMaj w with
  | 0x01 | 0x06 | 0x07 | 0x24 | 0x25 | 0x26 | 0x27 | 0x28 | 0x2B => d || a || b
  | 0x02 | 0x03 | 0x0D | 0x0E | 0x0F | 0x2D | 0x2F | 0x30 => d || a
  | 0x08 => d
  | 0x09 => d || a
  | 0x29 => a || b
  | 0x2A => d
  | _ => false

/-- The replayable set (R318), apart from its condition on PPOP and PFIRST. -/
def replayable (w : BitVec 32) : Bool :=
  let fn5 := wFn5 w
  let fn4 := wFn4 w
  let inSet : Bool :=
    match wMaj w with
    | 0x01 => decide (fn5 ≤ 15 ∨ fn5 = 25 ∨ fn5 = 26)
    | 0x02 | 0x03 | 0x0D | 0x0E | 0x0F | 0x08 | 0x09 | 0x29 => true
    | 0x06 => decide (fn5 ∈ [0, 1, 2, 5, 6, 7, 8, 9, 27, 28, 29, 30, 31])
    | 0x07 => decide (fn5 ≤ 2)
    | 0x24 | 0x25 => decide (fn4 ≠ 3 ∧ fn4 ≠ 4)
    | 0x26 => decide (fn4 ∈ [0, 1, 2, 4, 5, 7, 8, 9])
    | 0x27 => decide (fn4 ∈ [0, 1, 2, 4, 5, 7, 8, 9, 14])
    | 0x28 => decide (fn4 ≤ 7 ∨ fn4 = 10 ∨ fn4 = 11)
    | 0x2A => decide (fn4 ≤ 4 ∨ fn4 = 9 ∨ fn4 = 10)
    | 0x2B => decide (fn4 = 7)
    | 0x2D =>
      if fn4 = 0 ∨ fn4 = 2 then decide (8 ≤ wB w ∧ wB w ≤ 10) else decide ((fn4 = 1 ∨ fn4 = 6) ∧ wB w ≤ 7)
    | 0x2F | 0x30 => decide (fn4 = 0 ∧ wB w / 8 ≤ 6)
    | _ => false
  inSet && !namesQueue w

/-- A floating vector instruction of the replayable set (R318). -/
def floatVector (w : BitVec 32) : Bool :=
  match wMaj w with
  | 0x26 | 0x27 => true
  | 0x28 => decide (wFn4 w < 10)
  | 0x29 => decide ((6 ≤ wFn4 w ∧ wFn4 w ≤ 10) ∨ wFn4 w = 13 ∨ wFn4 w = 14)
  | 0x2D => decide (wFn4 w ≤ 1)
  | _ => false

/-- The decline code MODE applies (R318). -/
def modeBad (h : Hart) (w : BitVec 32) : Bool :=
  h.csr.frm == 5 || (decide (0x24 ≤ wMaj w) && (h.csr.sew == 64 || (floatVector w && h.csr.sew == 8)))

/-- A conditional branch. -/
def isBranch (w : BitVec 32) : Bool := wMaj w == 0x08 || wMaj w == 0x09

/-- The target of a conditional branch (R167). -/
def branchTarget (pc : Word) (w : BitVec 32) : Word :=
  if wMaj w = 0x08 then pc + 4 * sext (w.extractLsb' 16 16) else pc + 4 * sext (w.extractLsb' 23 9)

/-- A compare that writes a scalar directly (R320). -/
def isCompare (w : BitVec 32) : Bool :=
  match wMaj w with
  | 0x01 => wFn5 w == 9 || wFn5 w == 10
  | 0x03 => wFn2 w == 3
  | 0x06 => wFn5 w == 7 || wFn5 w == 8 || wFn5 w == 9
  | _ => false

/-- PPOP or PFIRST. -/
def isCount (w : BitVec 32) : Bool := wMaj w == 0x2A && (wFn4 w == 9 || wFn4 w == 10)

/-- ADD or ADDI of a scalar and itself: the addend's registers; none is another instruction (R319). -/
def inductionForm (h : Hart) (w : BitVec 32) : Option (Option RegRef) :=
  if wD w = 0 then none
  else if wMaj w = 0x02 ∧ wFn2 w = 0 ∧ wA w = wD w then some none
  else if wMaj w = 0x01 ∧ wFn5 w = 0 ∧ wA w = wD w then some (sRef h (wB w)).head?
  else if wMaj w = 0x01 ∧ wFn5 w = 0 ∧ wB w = wD w then some (sRef h (wA w)).head?
  else none

/-- A log entry's size for an invariant (R317). -/
def logSize (r : RegRef) : Nat := if r.cls = 0 then 8 else 128

/-- The address of a recorded access's stream: its base with any displacement (R319). -/
def streamAddr (h : Hart) (w : BitVec 32) : Option Nat :=
  match wMaj w with
  | 0x0D | 0x0E | 0x0F => some (h.readS (wA w) + sext (w.extractLsb' 22 10)).toNat
  | 0x2F | 0x30 => some (h.readS (wA w)).toNat
  | _ => none

/-- The points of a stream lie on one line a0 + i × d (R319). -/
def affinePoints (pts : List (Nat × Nat)) : Bool :=
  match pts with
  | [] => true
  | (i0, a0) :: r =>
    match r.find? (fun p => p.1 ≠ i0) with
    | none => r.all (fun p => p.2 = a0)
    | some (i1, a1) =>
      let di : Int := (i1 : Int) - i0
      let da : Int := toSigned 64 ((a1 + 2 ^ 64 - a0) % 2 ^ 64)
      decide (da % di = 0) && r.all (fun p => decide (p.2 = wrap64 ((a0 : Int) + ((p.1 : Int) - i0) * (da / di))))

/-- The recordings and replays that hold a log slot of a station (R317). -/
def slotsUsed (s : State) (st : Nat) : Nat :=
  let uses (h : Hart) : Nat :=
    match h.loop with
    | none => 0
    | some l =>
      (if (l.recd.bind (fun r => if r.claimed then r.lead else none)) = some st then 1 else 0) +
      (match l.replay with
       | some r => if r.lead = st then 1 else 0
       | none => 0)
  (s.allTandems.map (fun x => uses x.e + uses x.a)).sum

/-- A log slot of a recording's lead station is claimed, where it has one free (R317). -/
def claimSlot (s : State) (r : Recording) : Except Nat Recording :=
  match r.lead with
  | none => .error 3
  | some st => if r.claimed then .ok r else if 16 ≤ slotsUsed s st then .error 3 else .ok { r with claimed := true }

/-- What the recorder makes of the instruction's accesses: every byte lies in an IDEM page of the vector region, homed on one die; the lead
station is the home of the first iteration's first store, or where it has none of its first load (R317, R319). A load's station is the lead
until then, and the slot is claimed once the lead is known. [DEDUCED, log 58] -/
def recordAccess (s : State) (r : Recording) : List Note → Except Nat Recording
  | [] => .ok r
  | n :: rest =>
    if n.shared ∨ n.dev = true ∨ vectorRegion n.va = false ∨ vectorRegion (n.va + n.len - 1) = false ∨
        n.pas.any (fun p => regionOf p ≠ .device) = true then .error 8
    else
      match r.lead, n.pas with
      | some st, ps =>
        if ps.any (fun p => homeDie p ≠ st / 3) then .error 8
        else if r.claimed = false ∧ n.store = true ∧ r.iters = [] then
          (match claimSlot s { r with lead := (ps.head?.map homeStation).orElse (fun _ => r.lead) } with
           | .error c => .error c
           | .ok r => recordAccess s r rest)
        else recordAccess s r rest
      | none, p :: ps =>
        if ps.any (fun q => homeDie q ≠ homeDie p) then .error 8
        else
          let r := { r with lead := some (homeStation p) }
          (match (if n.store then claimSlot s r else .ok r) with
           | .error c => .error c
           | .ok r => recordAccess s r rest)
      | none, [] => recordAccess s r rest

/-- The program's own accesses by the instruction, oldest first. -/
def State.ownNotes (s : State) : List Note := (s.notes.filter (fun n => !n.side)).reverse

/-- Every access of the instruction, those that make extrapolated values last: they touch bytes, but name no lead station (R317, R319). -/
def State.allNotes (s : State) : List Note := s.ownNotes ++ s.notes.filter (·.side)

/-- What an iteration's decision point at an address did, each time it was executed. -/
def decisionsAt (it : List RecInstr) (pc : Word) : List (Option Bool) :=
  (it.filter (fun x => x.decision && x.pc == pc)).map (·.taken)

/-- Two recorded iterations disagree at a decision point that both executed (R320). -/
def decisionsDiffer (x y : List RecInstr) : Bool :=
  ((x.filter (·.decision)).map (·.pc)).dedup.any (fun pc =>
    ((decisionsAt x pc).zip (decisionsAt y pc)).any (fun t => t.1 != t.2))

/-- Some two iterations disagree at a decision point (R320). -/
def anyDiffer (its : List (List RecInstr)) : Bool := its.any (fun x => its.any (decisionsDiffer x))

/-- The registers outside the index that iterations read before they write them, and write (R319). -/
def carriedRegs (index : List RegRef) (us : List RegUse) : List RegRef :=
  ((us.flatMap (·.readFirst)).dedup).filter (fun x => us.any (fun u => u.writes.any (·.reg == x)) && !index.contains x)

/-- An iteration steps a register as an affine induction, by an addend that the body does not write: once, or in one that is not `whole` at most once so
far (R319). -/
def stepsAffinely (index body : List RegRef) (whole : Bool) (x : RegRef) (u : RegUse) : Bool :=
  match u.writes.filter (·.reg == x) with
  | [] => !whole
  | [y] =>
    (match y.form with
     | some none => true
     | some (some a) => !body.contains a && !index.contains a
     | none => false)
  | _ => false

/-- Every carried register of the iterations that are over and of the one under way is an affine induction so far (R319). -/
def carriesAffinely (index : List RegRef) (past : List RegUse) (cur : RegUse) : Bool :=
  let us := past ++ [cur]
  let body := (us.flatMap (fun u => u.writes.map (·.reg))).dedup
  (carriedRegs index us).all (fun x =>
    x.cls == 0 && past.all (stepsAffinely index body true x) && stepsAffinely index body false x cur)

/-- The recorder takes one retired instruction of an iteration: `s0` is the state it began in, `s` the state it leaves (R317–R320). Each breach declines as
it shows. [DEDUCED, log 58] -/
def recordInstr (s0 s : State) (taken : Option Bool) (l : Loop) (r : Recording) : Except Nat Recording :=
  let w := s0.ir
  let h := s0.me
  let pc := h.pc
  if wMaj w ∈ [0x10, 0x11, 0x31] ∨ (wMaj w = 0x12 ∧ 4 ≤ wFn5 w) then .error 8
  else if replayable w = false ∨ 32 ≤ r.cur.length then .error 5
  else if isBranch w = true ∧
      ¬(l.start.toNat ≤ (branchTarget pc w).toNat ∧ (branchTarget pc w).toNat ≤ l.lend.toNat) then .error 5
  else if modeBad h w = true then .error 9
  else
    let (reads, writes) := regUse h w
    let written (u : RegUse) (x : RegRef) : Bool := u.writes.any (fun y => y.reg == x)
    let mine := reads.filter (written r.use)
    let decision := isBranch w && !mine.isEmpty && mine.all r.use.decided.contains
    if reads.any r.use.popped.contains = true ∧ decision = false then .error 5
    else
      let index := sRef h l.ra ++ sRef h l.rb
      let first := reads.filter (fun x => !written r.use x)
      let inv := (first.filter (fun x => !r.invariants.contains x && !index.contains x &&
        !r.past.any (fun u => written u x))).dedup
      let bytes := r.logBytes + 16 + (inv.map logSize).sum
      if 4096 < bytes then .error 2
      else
        let gone := (r.invariants ++ inv).filter (fun x => writes.contains x && !index.contains x)
        let addr := streamAddr h w
        let isStore := decide (wMaj w = 0x0F ∨ wMaj w = 0x30)
        let entry : RecInstr := { pc := pc, word := w, taken := taken, decision := decision, addr := addr, isStore := isStore }
        let cmpS := isCompare w || (isCount w && (pRef (wA w)).all r.use.compared.contains)
        let use : RegUse :=
          { readFirst := (r.use.readFirst ++ first).dedup
            writes := r.use.writes ++ writes.map (fun x => { reg := x, form := inductionForm h w })
            decided := (r.use.decided.filter (fun x => !writes.contains x)) ++ (if cmpS then writes else [])
            compared := (r.use.compared.filter (fun x => !writes.contains x)) ++ (if wMaj w = 0x29 then writes else [])
            popped := (r.use.popped.filter (fun x => !writes.contains x)) ++ (if isCount w then writes else []) }
        let r' : Recording := { r with
          cur := r.cur ++ [entry]
          invariants := (r.invariants ++ inv).filter (fun x => !gone.contains x)
          logBytes := bytes - (gone.map logSize).sum
          use := use }
        match recordAccess s r' s.allNotes with
        | .error c => .error c
        | .ok r' =>
          let all := (r'.iters ++ [r'.cur]).flatten.filter (fun x => x.addr.isSome)
          let loads := ((all.filter (fun x => !x.isStore)).map (·.pc)).dedup
          let stores := ((all.filter (·.isStore)).map (·.pc)).dedup
          if 6 < loads.length ∨ 2 < stores.length then .error 4
          -- a path that a differing decision has taken is told at the last LEND (R320)
          else if carriesAffinely index r'.past r'.use = false ∧ anyDiffer (r'.iters ++ [r'.cur]) = false then .error 6
          else .ok r'

/-- The recording hook of retirement (R316). -/
def recordHook (s0 : State) (taken : Option Bool) (s : State) : State :=
  match s0.me.loop with
  | some l =>
    match l.recd, s.me.loop with
    | some r, some l' =>
      match recordInstr s0 s taken l r with
      | .ok r' => { s with me := { s.me with loop := some { l' with recd := some r' } } }
      | .error c => { s with me := declineLoop c s.me }
    | _, _ => s
  | none => s

/-- The recorder looks at what an instruction of a recorded iteration that stops has accessed so far (R319). -/
def recordPartial (s0 s : State) : State :=
  match s0.me.loop.bind (·.recd), s.me.loop with
  | some r, some l =>
    if replayable s0.ir then
      match recordAccess s r s.allNotes with
      | .ok r => { s with me := { s.me with loop := some { l with recd := l.recd.map (fun _ => r) } } }
      | .error c => { s with me := declineLoop c s.me }
    else s
  | _, _ => s

/-- The points of a static instruction in the recorded iterations. -/
def streamPoints (r : Recording) (pc : Word) : List (Nat × Nat) :=
  (r.index.zip r.iters).flatMap (fun it => (it.2.filter (fun x => x.pc == pc)).filterMap (fun x => x.addr.map (fun a => (it.1, a))))

/-- The bytes that an access of a recorded word spans. -/
def streamBytes (c : Csr) (w : BitVec 32) : Nat :=
  if wMaj w ≤ 0x0F then 2 ^ wFn2 w else (c.rows * c.len * kindNibbles (wB w / 8) (c.sew / 4) c.nfmt.toNat + 1) / 2

/-- The line that a stream's points lie on: its address at index 0, and its distance (R319). -/
def lineOf (pts : List (Nat × Nat)) : Nat × Int :=
  match pts with
  | [] => (0, 0)
  | (i0, a0) :: r =>
    let d : Int := match r.find? (fun p => p.1 ≠ i0) with
      | none => 0
      | some (i1, a1) => toSigned 64 ((a1 + 2 ^ 64 - a0) % 2 ^ 64) / ((i1 : Int) - i0)
    (wrap64 ((a0 : Int) - (i0 : Int) * d), d)

/-- The streams of a recording (R319). -/
def streamsOf (c : Csr) (r : Recording) : List (Nat × Int × Nat) :=
  ((((r.iters.headD []).filter (fun x => x.addr.isSome)).map (fun x => (x.pc, x.word))).dedup).map (fun x =>
    let l := lineOf (streamPoints r x.1)
    (l.1, l.2, streamBytes c x.2))

/-- Every stream of the recorded iterations lies on its line (R319). -/
def streamsAffine (r : Recording) : Bool :=
  ((r.iters.flatten.map (·.pc)).dedup).all (fun pc => affinePoints (streamPoints r pc))

/-- How the recorded iterations differ: none, or the decline code. A decision point that has not had the same outcome everywhere comes
first (R320). -/
def iterationsDiffer (its : List (List RecInstr)) : Option Nat :=
  if anyDiffer its then some 7
  else
    match its with
    | [] => some 5
    | base :: rest => if rest.all (fun y => y.map (·.pc) == base.map (·.pc)) then none else some 5

/-- The affine inductions of the iterations that are over; none where a register is carried (R319). -/
def affineInductions (index : List RegRef) (r : Recording) : Option (List RegRef) :=
  if carriesAffinely index r.past {} then some (carriedRegs index r.past) else none

/-- The check of a recording at the LEND of its last iteration (R320): the affine inductions, or a decline code. -/
def confirmRecording (index : List RegRef) (r : Recording) : Except Nat (List RegRef) :=
  match iterationsDiffer r.iters with
  | some c => .error c
  | none =>
    match affineInductions index r with
    | none => .error 6
    | some xs => .ok xs

/-! ## Measuring (R333) -/

/-- A byte of global memory as the hart in focus would read it, without an access. -/
def peekByte (s : State) (va : Nat) : Byte :=
  match translate s s.myCtx s.tan.die false true .load va with
  | .ok x => overlayHeld s.me.held false va (if x.discarded then 0 else
      match regionOf x.pa with
      | .device => s.mem.viewByte s.tan.die x.pa
      | .host => readCell s.mem.cells x.pa
      | _ => Config.freeByte s.free va)
  | .error _ => 0

/-- A byte of global memory as the first of some stores that wrote it found or left it, or as it is where none did. -/
def storedByte (s : State) (ns : List Note) (bytes : Note → List Byte) (a : Nat) : Byte :=
  (ns.findSome? (fun n => (bytes n)[(a + 2 ^ 64 - n.va) % 2 ^ 64]?)).getD (peekByte s a)

/-- The elements of a member's block that some stores write (R333). -/
def storedElements (w : Sweep) (id : Nat) (ns : List Note) : List Nat :=
  ((ns.flatMap (fun n => (range n.va n.new.length).filterMap (fun a => w.elementOf (a % 2 ^ 64)))).filter (fun e => e.1 = id)).map (·.2) |>.dedup

/-- The stores of one instruction enter the measures of the member that the iteration visits: an element is taken as the first of them found it and
as the last left it (R333). -/
def measureStores (s : State) (w : Sweep) (id : Nat) (ns : List Note) : List Measure :=
  let value (ns : List Note) (bytes : Note → List Byte) (k : Nat) : Nat :=
    ofBytes ((range (w.elementAddr id k) (ekSize w.ek)).map (fun a => storedByte s ns bytes (a % 2 ^ 64)))
  (storedElements w id ns).foldl (fun ms k =>
    let new := value ns.reverse (·.new) k
    if ms.any (fun m => m.id = id ∧ m.elem = k) then
      ms.map (fun m => if m.id = id ∧ m.elem = k then { m with new := new } else m)
    else ms ++ [{ id := id, elem := k, old := value ns (·.old) k, new := new }]) w.measures

/-- The measuring of the instruction's stores; `done` where the instruction retires (R333). [DEDUCED, log 100] -/
def measureHook (done : Bool) (s : State) : State :=
  match s.me.loop with
  | none => s
  | some l =>
    match l.sweep with
    | none => s
    | some w =>
      let stores := s.ownNotes.filter (fun n => n.store && !n.shared)
      match w.due[w.pos]? with
      | none => s
      | some (id, _, _) =>
        -- a store instruction without an active element is the iteration's first all the same
        if w.storePc.isSome ∨ (stores.isEmpty = true ∧ ¬(wMaj s.ir = 0x30 ∧ done = true)) ∨ s.me.tis = true then s
        else
          let w' := { w with
            measures := measureStores s w id stores
            storePc := if done then some s.me.pc else none }
          { s with me := { s.me with loop := some { l with sweep := some w' } } }

/-! ## The history ring (R380) -/

/-- A vector instruction, for the history ring and for recheck (R354, R380). -/
def isVector (w : BitVec 32) : Bool := decide (0x24 ≤ wMaj w ∧ wMaj w ≤ 0x32)

/-- The M bit of a vector word (R142). -/
def vectorMask (w : BitVec 32) : Bool := if wMaj w = 0x2E then w.getLsbD 13 else wM w

/-- The entry of a retired vector instruction: it is written once the instruction's own stores have been performed (R380). [DEDUCED, log 117] -/
def historyHook (s0 s : State) : State :=
  if isVector s0.ir = false then s
  else
    let n := s.tan.vectorCount
    let s := { s with tan := { s.tan with vectorCount := n + 1 }, me := { s.me with history := s.me.history + 1 } }
    match s.myCtx.histBase with
    | none => s
    | some base =>
      let h := s0.me
      let vl := h.csr.len
      let active := ((range 0 (h.csr.rows * vl)).filter (h.active (vectorMask s0.ir))).length
      let prior := h.savedNow.filter (fun x => x.pc == h.pc)
      let first := ((prior.bind (·.first)).orElse (fun _ => s.ownNotes.head?.map (·.va))).getD 0
      let last := ((s.ownNotes.getLast?.map (·.va)).orElse (fun _ => prior.bind (·.last))).getD first
      let word := vl + (h.csr.rows - 1) * 2 ^ 11 + field h.csr.vtype 0 2 * 2 ^ 15 + active * 2 ^ 17 +
        s.tan.csn % 65536 * 2 ^ 32 + (if s.onA then 2 ^ 62 else 0) + 2 ^ 63
      let a := base + s.tan.tid * 0x2000 + 32 * (n % 256)
      let entry := (s.me.strip.serial, a, toBytes 8 h.pc.toNat ++ toBytes 8 first ++ toBytes 8 last ++ toBytes 8 word)
      { s with me := { s.me with histLate := s.me.histLate ++ [entry] } }

/-! ## Causal trials (R381) -/

/-- The sums of a running trial take one retired instruction (R381). -/
def trialHook (s0 s : State) : State :=
  let c := s0.me.csr
  if c.trctl.getLsbD 0 = false ∨ s.me.csr.trctl.getLsbD 0 = false then s
  else
    let pc := s0.me.pc.toNat
    let t := s.me.trial
    if c.trlo.toNat ≤ pc ∧ pc < c.trhi.toNat then { s with me := { s.me with trial := { t with inside := t.inside + 1 } } }
    else
      let d := field c.trdly 0 12
      { s with now := s.now + d, me := { s.me with trial := { t with outside := t.outside + 1, withheld := t.withheld + d } } }

end Sys2Proof.Machine
end

