-- ==== Sys2Proof/Machine/Run.lean ====
section
/-! DEFINITION. How an instruction's body becomes a step of its hart: retirement (R47, R180, R186), the roll-back of a scalar instruction
that stops (R158), the saved operands of a vector instruction (R18, R344), the recheck gate (R354, R355), and branches out of a marked
loop (R259). -/

namespace Sys2Proof.Machine

/-! ## Saved operand state (R18, R344) -/

/-- The saved operand state of the instruction under way; an empty one where it has none. -/
def Hart.savedOr (h : Hart) : Saved := h.savedNow.getD { pc := h.pc }

/-- The saved operand state of the instruction under way changed. -/
def modSaved (f : Saved → Saved) : Exec Unit := modMe (fun h => h.withSaved (some (f h.savedOr)))

/-- Flags of performed elements: kept with the saved operand state until the instruction retires (R41, R186). -/
def raiseSaved (f : Nat) : Exec Unit :=
  if f = 0 then pure () else modSaved (fun x => { x with flags := x.flags ||| BitVec.ofNat 64 f })

/-- A vector or MSCAN instruction begins: a resumed one takes its saved operands again from the first, any other starts afresh (R18). -/
def beginVector (s : State) : State :=
  match s.me.savedNow with
  | some x => if x.pc = s.me.pc then { s with me := s.me.withSaved (some { x with curV := 0, curS := 0 }) }
              else { s with me := s.me.withSaved none }
  | none => s

/-- A scalar operand of a vector instruction that goes into its elements' addresses: the register as it stands (R344), one popped entry, or the
entry this execution popped before it stopped. -/
def vecScalar (n : Nat) : Exec Word := do
  let s ← getState
  if n < 112 then pure (s.me.readS n)
  else
    let x := s.me.savedOr
    match x.sops[x.curS]? with
    | some v => do
      modSaved (fun x => { x with curS := x.curS + 1 })
      pure v
    | none => do
      let v ← popScalar n
      modSaved (fun x => { x with sops := x.sops ++ [v], curS := x.curS + 1 })
      pure v

/-- Any other scalar operand of a vector instruction: the register as its first issue found it, or the popped entry (R18, R344). -/
def vecValue (n : Nat) : Exec Word := do
  let s ← getState
  if n < 112 then pure (s.me.issued.readS n) else vecScalar n

/-- `n` registers popped for a vector operand, or those this execution popped before it stopped. -/
def vecPop (name n : Nat) : Exec (List VReg) := do
  let s ← getState
  let x := s.me.savedOr
  match x.vops[x.curV]? with
  | some v => do
    modSaved (fun x => { x with curV := x.curV + 1 })
    pure v
  | none => do
    let v ← popVector name n
    modSaved (fun x => { x with vops := x.vops ++ [v], curV := x.curV + 1 })
    pure v

/-! ## Retirement -/

/-- A store that was performed after its instruction retired and finds no usable port towards its peer: a LINK-ERROR fault with KIND 1, and
the kernel faults with FCODE 2 (R370). CIDX is not advanced for its strip, for it was not performed (R286). -/
def failPosted (s : State) : State :=
  match s.links.requests.find? (fun r => r.posted && r.port.isNone && r.reply.isNone) with
  | none => s
  | some r =>
    let s := { s with links := { s.links with requests := s.links.requests.filter (fun q => q.tag ≠ r.tag) } }
    match s.tandem? (r.hart / 2) with
    | none => s
    | some x =>
      let side := if x.t.single then 2 else r.hart % 2
      let s := mapTandems (fun t => t.uid == x.t.uid && r.strip != 0) (fun s y =>
        (s, { y with t := { y.t with owed := y.t.owed.takeWhile (fun o => decide (o.1 < r.strip)) } })) s
      let s := atHart r.hart (fun s => postMine s s.tan.die (faultRecordOf s x.t s.tan.die side .store 9 (addrWord r.va))) s
      stopKernelOpen s x.t.ctx x.t.csn x.t.tid (addrWord r.va) (fun _ => false)

/-- The instruction of `s0` retires with next pc `npc`: flags of its elements merge, INSTRET counts it, its saved operand state goes.
`recorded` says that a recording takes it, `taken` what a conditional branch did. A reply that it has not taken comes to nothing (R367). -/
def retireWith (recorded : Bool) (s0 : State) (npc : Word) (taken : Option Bool) (s : State) : State :=
  let flags := (s.me.savedNow.map (·.flags)).getD 0
  let s := if recorded then recordHook s0 taken s else s
  let s := trialHook s0 (historyHook s0 (measureHook true s))
  let mine (r : Request) : Bool := r.hart == s.hart && !r.posted && r.owner.any (fun o => o.1 == s0.me.pc && o.2.1 == s0.me.tis)
  failPosted <| settleCidx { s with
    links := { s.links with requests := s.links.requests.filter (fun r => !mine r) }
    dbg := s.dbg.goneOn s.hart
    me := { s.me.withSaved none with
      pc := npc
      stalled := none
      stallAddr := 0
      barWait := none
      recheck := .idle
      counted := s.me.counted.filter (fun c => c.1 != s0.me.tis)
      disagreed := none
      csr := { s.me.csr with fflags := s.me.csr.fflags ||| flags, instret := s.me.csr.instret + 1 } } }

/-- Retirement of an instruction that a recording takes. -/
def retire (s0 : State) (npc : Word) (s : State) : State := retireWith true s0 npc none s

/-- A scalar instruction: it retires, or it stops and has changed nothing (R158). -/
def runScalar (b : Exec Unit) (s : State) : Host.Outcome State Fault Refusal :=
  match b s with
  | .ok _ s' => .next (retire s (s.me.pc + 4) s')
  | .error e s' => .next (applyStop e (undone s s'))

/-- ACT ← 0 in the header of a sweep that a branch or EXIT abandons, as an access of the hart's own (R332): a page fault or a migration there is met before the
branch retires, and the header may lie in host or peer memory. [DEDUCED, log 116] -/
def abandonSweep (h : Hart) : Exec Unit :=
  match h.loop.bind (·.sweep) with
  | none => pure ()
  | some w => do
    let a := (w.header + 15) % 2 ^ 64
    let xs ← resolve false .store a 1
    scoreboard true false false a 1
    enterRuns (runsOf ([a].zip xs))
    modState (fun s => landRuns true (storeRuns [a] xs [(0, 0x80)]) (publishFor ((xs.head?.map (·.pa)).getD 0) s))

/-- A branch or jump to `t` leaves the active loop; in a trap handler the loop stays active (R259). -/
def leavesLoop (h : Hart) (t : Word) : Bool :=
  match h.loop with
  | none => false
  | some l => !h.tis && !decide (l.start.toNat ≤ t.toNat ∧ t.toNat ≤ l.lend.toNat)

/-- A branch or jump: the body gives the target where it is taken; one out of the active loop deactivates it (R167, R168, R255, R259, R332). -/
def runBranch (b : Exec (Option Word)) (s : State) : Host.Outcome State Fault Refusal :=
  match b s with
  | .ok (some t) s' =>
    if leavesLoop s'.me t then
      (match abandonSweep s'.me s' with
       | .ok _ u =>
         let u := retireWith true s t (some true) u
         .next { u with me := u.me.leaveLoop }
       | .error e u => .next (applyStop e (undone s u)))
    else .next (retireWith true s t (some true) s')
  | .ok none s' => .next (retireWith true s (s.me.pc + 4) (some false) s')
  | .error e _ => .next (applyStop e s)

/-- A transfer that stops keeps the addresses of the elements it has performed, for the history ring (R380). -/
def keepSpan (s : State) : State :=
  match s.ownNotes.head?, s.ownNotes.getLast? with
  | some a, some b =>
    let x := s.me.savedOr
    { s with me := s.me.withSaved (some { x with first := some (x.first.getD a.va), last := some b.va }) }
  | _, _ => s

/-- The instruction stopped before it had popped what it needs: it pops nothing until all of it is there (R18, R19). -/
def Stop.atPop (e : Stop) : Bool :=
  match e with
  | .wait r _ _ _ => r == 2 || r == 3
  | .drained _ => true
  | _ => false

/-- The instruction was issued before it stopped: it has performed or popped something, or an access of it stopped. -/
def Stop.afterIssue (e : Stop) (h : Hart) : Bool :=
  h.savedNow.isSome ||
  (match e with
   | .wait _ _ _ _ | .page _ _ _ | .remote _ _ _ _ => true
   | .trap c _ _ a _ => c == 3 || (c == 2 && a != 0)
   | _ => false)

/-- What an instruction's operands are taken from, as the hart's registers stand (R64, R344). -/
def Hart.asIssue (h : Hart) : Issue := { s := h.s, v := h.v, p := h.p, k := h.k, h := h.h, instret := h.csr.instret }

/-- A vector instruction that stops keeps the registers that its first issue found: those of `s` (R344). -/
def keepIssue (e : Stop) (s s' : State) : State :=
  if decide (0x24 ≤ wMaj s.ir ∧ wMaj s.ir ≤ 0x35) && e.afterIssue s'.me then
    let x := s'.me.savedOr
    { s' with me := s'.me.withSaved (some { x with issue := some (x.issue.getD (s.me.asIssue)) }) }
  else s'

/-- What an instruction of state `s` whose effects stand up to where it stops leaves, in state `s'`: nothing is popped unless all that it pops is
there (R18, R19). -/
def stopped (e : Stop) (s s' : State) : State :=
  if e.atPop then applyStop e (undone (beginVector s) s')
  else applyStop e (recordPartial s (measureHook false (keepIssue e (beginVector s) (keepSpan s'))))

/-- An instruction whose effects up to where it stops stand: a fence, a group barrier, a transfer that stops between elements
(R172, R254, R348). -/
def runKeep (b : Exec Unit) (s : State) : Host.Outcome State Fault Refusal :=
  match b (beginVector s) with
  | .ok _ s' => .next (retire s (s.me.pc + 4) s')
  | .error e s' => .next (stopped e s s')

/-! ## Recheck (R354, R355) -/

/-- HCTL.RCK. -/
def Csr.rck (c : Csr) : Nat := field c.hctl 1 2

/-- Whether the covered instruction of the hart in focus is run twice, as its issue decided, if it has been issued (R354). -/
def Hart.selected (h : Hart) : Option Bool := (h.counted.find? (fun c => c.1 == h.tis && c.2.1 == h.pc)).map (·.2.2)

/-- Under RCK = 2 a covered instruction is counted once, at its issue, which decides whether it is run twice (R354). -/
def countCovered (s : State) : State :=
  if s.me.csr.rck = 2 ∧ s.me.selected = none then
    { s with me := { s.me with
        covered := s.me.covered + 1
        counted := (s.me.tis, s.me.pc, s.me.covered % 16 == s.tan.tid % 16) :: s.me.counted.filter (fun c => c.1 != s.me.tis) } }
  else s

/-- The wait for the second run of an instruction of the hart in focus, which it must pass before it retires (R355); none where it may run
now. The wait is on no unit that WAITRSN names (R349, R351). [DESIGN CHOICE, log 65] -/
def recheckWait (s : State) : Option State :=
  let pc := s.me.pc
  let waits (r : Recheck) : Option State := some { s with me := { s.me with
    recheck := r, stalled := some 0, stallAddr := 0, stallWord := s.ir, stallNeed := 0, csr := { s.me.csr with waitrsn := 0 } } }
  let gate := if s.me.csr.rck = 1 ∨ s.me.selected = some true then waits (.pending pc) else none
  if s.me.csr.rck = 0 then none
  else
    match s.me.recheck with
    | .agreed p => if p = pc then none else gate
    | .pending p | .forced p => if p = pc then waits s.me.recheck else gate
    | .idle => gate

/-- A covered vector instruction: it runs twice where HCTL.RCK selects it and retires when both runs agree; its effects up to where it
stops stand (R18, R206, R354, R355). -/
def runVector (b : Exec Unit) (s : State) : Host.Outcome State Fault Refusal :=
  let s := countCovered s
  match recheckWait s with
  | some s' => .next s'
  | none => runKeep b s

/-- FFLAGS of the hart raised by a scalar instruction (R63, R163). -/
def raise (f : Nat) : Exec Unit := if f = 0 then pure () else modMe (fun h => h.raise (BitVec.ofNat 64 f))

end Sys2Proof.Machine
end

