-- ==== Sys2Proof/Machine/Alu.lean ====
section
/-! DEFINITION. Integer arithmetic: ALU, ALUI, SHI, LUI and ADDPC (R157–R162). -/

namespace Sys2Proof.Machine

/-- The quotient of DIV: truncated, saturating toward the sign of the true result (R160). -/
def divS (a b : Word) : Word :=
  if b = 0 then (if a = 0 then 0 else if a.toInt < 0 then BitVec.ofNat 64 (2 ^ 63) else BitVec.ofNat 64 (2 ^ 63 - 1))
  else if a = BitVec.ofNat 64 (2 ^ 63) ∧ b = BitVec.ofInt 64 (-1) then BitVec.ofNat 64 (2 ^ 63 - 1)
  else BitVec.ofInt 64 (a.toInt.tdiv b.toInt)

/-- The quotient of DIVN (R160). -/
def divU (a b : Word) : Word :=
  if b = 0 then (if a = 0 then 0 else BitVec.ofNat 64 (2 ^ 64 - 1)) else BitVec.ofNat 64 (a.toNat / b.toNat)

/-- The remainder of REM, with the sign of a (R160). -/
def remS (a b : Word) : Word :=
  if b = 0 then a else BitVec.ofInt 64 (a.toInt.tmod b.toInt)

/-- The remainder of REMN (R160). -/
def remU (a b : Word) : Word := if b = 0 then a else BitVec.ofNat 64 (a.toNat % b.toNat)

/-- The low 32 bits of a result, sign-extended (R159). -/
def sextW (x : Word) : Word := sext (x.extractLsb' 0 32)

/-- s[D] ← f(s[A], s[B]), both operands read before the write (R157, R159). -/
def alu2 (f : Word → Word → Word) (d a b : BitVec 7) : Exec Unit := do
  checkSrc a.toNat
  checkSrc b.toNat
  checkDst d.toNat
  let x ← readS a.toNat
  let y ← readS b.toNat
  writeS d.toNat (f x y)

/-- s[D] ← f(s[A]) (R157, R159, R161). -/
def alu1 (f : Word → Word) (d a : BitVec 7) : Exec Unit := do
  checkSrc a.toNat
  checkDst d.toNat
  let x ← readS a.toNat
  writeS d.toNat (f x)

/-- s[D] ← a value that no register gives (R162). -/
def aluConst (f : State → Word) (d : BitVec 7) : Exec Unit := do
  checkDst d.toNat
  let s ← getState
  writeS d.toNat (f s)

/-- The function of each member of major 0x01 (R159, R160). -/
def aluFn : Nat → Word → Word → Word
  | 0, a, b => a + b
  | 1, a, b => a - b
  | 2, a, b => a &&& b
  | 3, a, b => a ||| b
  | 4, a, b => a ^^^ b
  | 5, a, b => a &&& ~~~b
  | 6, a, b => a <<< field b 0 6
  | 7, a, b => a >>> field b 0 6
  | 8, a, b => a.sshiftRight (field b 0 6)
  | 9, a, b => ofBool (decide (a.toInt < b.toInt))
  | 10, a, b => ofBool (decide (a.toNat < b.toNat))
  | 11, a, b => if b.toInt < a.toInt then b else a
  | 12, a, b => if a.toInt < b.toInt then b else a
  | 13, a, b => if b.toNat < a.toNat then b else a
  | 14, a, b => if a.toNat < b.toNat then b else a
  | 15, a, b => a * b
  | 16, a, b => BitVec.ofInt 64 (a.toInt * b.toInt / 2 ^ 64)
  | 17, a, b => BitVec.ofNat 64 (a.toNat * b.toNat / 2 ^ 64)
  | 18, a, b => divS a b
  | 19, a, b => divU a b
  | 20, a, b => remS a b
  | 21, a, b => remU a b
  | 22, a, _ => BitVec.ofNat 64 (clzN 64 a.toNat)
  | 23, a, _ => BitVec.ofNat 64 (ctzN 64 a.toNat)
  | 24, a, _ => BitVec.ofNat 64 (popcountN 64 a.toNat)
  | 25, a, b => sextW (a + b)
  | 26, a, b => sextW (a - b)
  | 27, a, b => sext (a.extractLsb' 0 32 <<< field b 0 5)
  | 28, a, b => sext (a.extractLsb' 0 32 >>> field b 0 5)
  | _, a, b => sext ((a.extractLsb' 0 32).sshiftRight (field b 0 5))

/-- ADD: s[D] ← a + b (R159). -/
def execAdd (d : BitVec 7) (a : BitVec 7) (b : BitVec 7) (s : State) : Host.Outcome State Fault Refusal :=
  runScalar (alu2 (aluFn 0) d a b) s

/-- SUB: s[D] ← a − b (R159). -/
def execSub (d : BitVec 7) (a : BitVec 7) (b : BitVec 7) (s : State) : Host.Outcome State Fault Refusal :=
  runScalar (alu2 (aluFn 1) d a b) s

/-- AND: s[D] ← a AND b (R159). -/
def execAnd (d : BitVec 7) (a : BitVec 7) (b : BitVec 7) (s : State) : Host.Outcome State Fault Refusal :=
  runScalar (alu2 (aluFn 2) d a b) s

/-- OR: s[D] ← a OR b (R159). -/
def execOr (d : BitVec 7) (a : BitVec 7) (b : BitVec 7) (s : State) : Host.Outcome State Fault Refusal :=
  runScalar (alu2 (aluFn 3) d a b) s

/-- XOR: s[D] ← a XOR b (R159). -/
def execXor (d : BitVec 7) (a : BitVec 7) (b : BitVec 7) (s : State) : Host.Outcome State Fault Refusal :=
  runScalar (alu2 (aluFn 4) d a b) s

/-- ANDN: s[D] ← a AND NOT b (R159). -/
def execAndn (d : BitVec 7) (a : BitVec 7) (b : BitVec 7) (s : State) : Host.Outcome State Fault Refusal :=
  runScalar (alu2 (aluFn 5) d a b) s

/-- SLL: s[D] ← a shifted left by b[5:0] (R159). -/
def execSll (d : BitVec 7) (a : BitVec 7) (b : BitVec 7) (s : State) : Host.Outcome State Fault Refusal :=
  runScalar (alu2 (aluFn 6) d a b) s

/-- SRL: s[D] ← a shifted right by b[5:0] (R159). -/
def execSrl (d : BitVec 7) (a : BitVec 7) (b : BitVec 7) (s : State) : Host.Outcome State Fault Refusal :=
  runScalar (alu2 (aluFn 7) d a b) s

/-- SRA: s[D] ← a shifted right by b[5:0], arithmetic (R159). -/
def execSra (d : BitVec 7) (a : BitVec 7) (b : BitVec 7) (s : State) : Host.Outcome State Fault Refusal :=
  runScalar (alu2 (aluFn 8) d a b) s

/-- SLT: s[D] ← a < b, signed (R159). -/
def execSlt (d : BitVec 7) (a : BitVec 7) (b : BitVec 7) (s : State) : Host.Outcome State Fault Refusal :=
  runScalar (alu2 (aluFn 9) d a b) s

/-- SLTN: s[D] ← a < b, unsigned (R159). -/
def execSltn (d : BitVec 7) (a : BitVec 7) (b : BitVec 7) (s : State) : Host.Outcome State Fault Refusal :=
  runScalar (alu2 (aluFn 10) d a b) s

/-- MIN: s[D] ← the signed lesser (R159). -/
def execMin (d : BitVec 7) (a : BitVec 7) (b : BitVec 7) (s : State) : Host.Outcome State Fault Refusal :=
  runScalar (alu2 (aluFn 11) d a b) s

/-- MAX: s[D] ← the signed greater (R159). -/
def execMax (d : BitVec 7) (a : BitVec 7) (b : BitVec 7) (s : State) : Host.Outcome State Fault Refusal :=
  runScalar (alu2 (aluFn 12) d a b) s

/-- MINN: s[D] ← the unsigned lesser (R159). -/
def execMinn (d : BitVec 7) (a : BitVec 7) (b : BitVec 7) (s : State) : Host.Outcome State Fault Refusal :=
  runScalar (alu2 (aluFn 13) d a b) s

/-- MAXN: s[D] ← the unsigned greater (R159). -/
def execMaxn (d : BitVec 7) (a : BitVec 7) (b : BitVec 7) (s : State) : Host.Outcome State Fault Refusal :=
  runScalar (alu2 (aluFn 14) d a b) s

/-- MUL: s[D] ← the low half of a × b (R159). -/
def execMul (d : BitVec 7) (a : BitVec 7) (b : BitVec 7) (s : State) : Host.Outcome State Fault Refusal :=
  runScalar (alu2 (aluFn 15) d a b) s

/-- MULH: s[D] ← the high half of the signed product (R159). -/
def execMulh (d : BitVec 7) (a : BitVec 7) (b : BitVec 7) (s : State) : Host.Outcome State Fault Refusal :=
  runScalar (alu2 (aluFn 16) d a b) s

/-- MULHN: s[D] ← the high half of the unsigned product (R159). -/
def execMulhn (d : BitVec 7) (a : BitVec 7) (b : BitVec 7) (s : State) : Host.Outcome State Fault Refusal :=
  runScalar (alu2 (aluFn 17) d a b) s

/-- DIV: s[D] ← the signed quotient (R160). -/
def execDiv (d : BitVec 7) (a : BitVec 7) (b : BitVec 7) (s : State) : Host.Outcome State Fault Refusal :=
  runScalar (alu2 (aluFn 18) d a b) s

/-- DIVN: s[D] ← the unsigned quotient (R160). -/
def execDivn (d : BitVec 7) (a : BitVec 7) (b : BitVec 7) (s : State) : Host.Outcome State Fault Refusal :=
  runScalar (alu2 (aluFn 19) d a b) s

/-- REM: s[D] ← the signed remainder (R160). -/
def execRem (d : BitVec 7) (a : BitVec 7) (b : BitVec 7) (s : State) : Host.Outcome State Fault Refusal :=
  runScalar (alu2 (aluFn 20) d a b) s

/-- REMN: s[D] ← the unsigned remainder (R160). -/
def execRemn (d : BitVec 7) (a : BitVec 7) (b : BitVec 7) (s : State) : Host.Outcome State Fault Refusal :=
  runScalar (alu2 (aluFn 21) d a b) s

/-- CLZ: s[D] ← leading zero bits of a (R159). -/
def execClz (d : BitVec 7) (a : BitVec 7) (s : State) : Host.Outcome State Fault Refusal :=
  runScalar (alu1 (fun a => aluFn 22 a 0) d a) s

/-- CTZ: s[D] ← trailing zero bits of a (R159). -/
def execCtz (d : BitVec 7) (a : BitVec 7) (s : State) : Host.Outcome State Fault Refusal :=
  runScalar (alu1 (fun a => aluFn 23 a 0) d a) s

/-- POPC: s[D] ← one bits of a (R159). -/
def execPopc (d : BitVec 7) (a : BitVec 7) (s : State) : Host.Outcome State Fault Refusal :=
  runScalar (alu1 (fun a => aluFn 24 a 0) d a) s

/-- ADDW: s[D] ← the low word of a + b, sign-extended (R159). -/
def execAddw (d : BitVec 7) (a : BitVec 7) (b : BitVec 7) (s : State) : Host.Outcome State Fault Refusal :=
  runScalar (alu2 (aluFn 25) d a b) s

/-- SUBW: s[D] ← the low word of a − b, sign-extended (R159). -/
def execSubw (d : BitVec 7) (a : BitVec 7) (b : BitVec 7) (s : State) : Host.Outcome State Fault Refusal :=
  runScalar (alu2 (aluFn 26) d a b) s

/-- SLLW: s[D] ← a[31:0] shifted left by b[4:0], sign-extended (R159). -/
def execSllw (d : BitVec 7) (a : BitVec 7) (b : BitVec 7) (s : State) : Host.Outcome State Fault Refusal :=
  runScalar (alu2 (aluFn 27) d a b) s

/-- SRLW: s[D] ← a[31:0] shifted right by b[4:0], sign-extended (R159). -/
def execSrlw (d : BitVec 7) (a : BitVec 7) (b : BitVec 7) (s : State) : Host.Outcome State Fault Refusal :=
  runScalar (alu2 (aluFn 28) d a b) s

/-- SRAW: s[D] ← a[31:0] shifted right by b[4:0], arithmetic, sign-extended (R159). -/
def execSraw (d : BitVec 7) (a : BitVec 7) (b : BitVec 7) (s : State) : Host.Outcome State Fault Refusal :=
  runScalar (alu2 (aluFn 29) d a b) s

/-- ADDI: s[D] ← a + sext(I10) (R161). -/
def execAddi (d : BitVec 7) (a : BitVec 7) (i : BitVec 10) (s : State) : Host.Outcome State Fault Refusal :=
  runScalar (alu1 (fun a => a + sext i) d a) s

/-- ANDI: s[D] ← a AND sext(I10) (R161). -/
def execAndi (d : BitVec 7) (a : BitVec 7) (i : BitVec 10) (s : State) : Host.Outcome State Fault Refusal :=
  runScalar (alu1 (fun a => a &&& sext i) d a) s

/-- ORI: s[D] ← a OR sext(I10) (R161). -/
def execOri (d : BitVec 7) (a : BitVec 7) (i : BitVec 10) (s : State) : Host.Outcome State Fault Refusal :=
  runScalar (alu1 (fun a => a ||| sext i) d a) s

/-- XORI: s[D] ← a XOR sext(I10) (R161). -/
def execXori (d : BitVec 7) (a : BitVec 7) (i : BitVec 10) (s : State) : Host.Outcome State Fault Refusal :=
  runScalar (alu1 (fun a => a ^^^ sext i) d a) s

/-- SLLI: s[D] ← a shifted left by I10[5:0] (R161). -/
def execSlli (d : BitVec 7) (a : BitVec 7) (i : BitVec 6) (s : State) : Host.Outcome State Fault Refusal :=
  runScalar (alu1 (fun a => a <<< i.toNat) d a) s

/-- SRLI: s[D] ← a shifted right by I10[5:0] (R161). -/
def execSrli (d : BitVec 7) (a : BitVec 7) (i : BitVec 6) (s : State) : Host.Outcome State Fault Refusal :=
  runScalar (alu1 (fun a => a >>> i.toNat) d a) s

/-- SRAI: s[D] ← a shifted right by I10[5:0], arithmetic (R161). -/
def execSrai (d : BitVec 7) (a : BitVec 7) (i : BitVec 6) (s : State) : Host.Outcome State Fault Refusal :=
  runScalar (alu1 (fun a => a.sshiftRight i.toNat) d a) s

/-- SLTI: s[D] ← a < sext(I10), signed (R161). -/
def execSlti (d : BitVec 7) (a : BitVec 7) (i : BitVec 10) (s : State) : Host.Outcome State Fault Refusal :=
  runScalar (alu1 (fun a => aluFn 9 a (sext i)) d a) s

/-- LUI: s[D] ← sext(I19) << 12 (R162). -/
def execLui (d : BitVec 7) (i : BitVec 19) (s : State) : Host.Outcome State Fault Refusal :=
  runScalar (aluConst (fun _ => sext i <<< 12) d) s

/-- ADDPC: s[D] ← PC + (sext(I19) << 12) (R162). -/
def execAddpc (d : BitVec 7) (i : BitVec 19) (s : State) : Host.Outcome State Fault Refusal :=
  runScalar (aluConst (fun s => s.me.pc + (sext i <<< 12)) d) s

end Sys2Proof.Machine
end

