-- ==== Sys2Proof/Machine/Operands.lean ====
section
/-! DEFINITION. The operand forms of vector instructions: tiles (R38, R39), their limits and overlaps (R185), elements and rows, element
formats (R46, R56), the elementwise scheme (R186) and the pushing of rows (R18). -/

namespace Sys2Proof.Machine

/-! ## Checks -/

/-- A source tile's limits: R39 for registers, the queue's depth and end for a queue name (R14, R16). -/
def checkTileSrc (n g : Nat) : Exec Unit := do
  let s ← getState
  checkSrc n
  require (if n < 112 then decide (n % g = 0 ∧ n + s.me.csr.rows * g ≤ 112) else decide (s.me.csr.rows * g ≤ 16))

/-- A destination tile's limits. -/
def checkTileDst (n g : Nat) : Exec Unit := do
  let s ← getState
  checkDst n
  require (if n < 112 then decide (n % g = 0 ∧ n + s.me.csr.rows * g ≤ 112) else decide (s.me.csr.rows * g ≤ 16))

/-- The architectural registers of a tile; none for a queue name. -/
def tileRegs (h : Hart) (n g : Nat) : List Nat :=
  if 112 ≤ n then [] else (range 0 (h.csr.rows * g)).map (fun k => h.archV (n + k))

/-- Two tiles share an architectural register. -/
def tilesMeet (h : Hart) (a ga b gb : Nat) : Bool := (tileRegs h a ga).any (fun r => (tileRegs h b gb).contains r)

/-- A source tile that meets the destination must have its base and its group factor (R185). -/
def checkOverlap (d gd a ga : Nat) : Exec Unit := do
  let s ← getState
  require (!tilesMeet s.me d gd a ga || (d == a && gd == ga))

/-- Two tiles must share no register (R190, R196, R199, R205, R216). -/
def checkDisjoint (d gd a ga : Nat) : Exec Unit := do
  let s ← getState
  require (!tilesMeet s.me d gd a ga)

/-- VTYPE.BLK must be 0 (R185). [DEDUCED, log 40] -/
def checkUnscaled : Exec Unit := do
  let s ← getState
  require (s.me.csr.blk == 0)

/-- VSTART must be 0 (R187), unless the instruction is resumed between two rows of its push (R18, R186). -/
def checkStart0 : Exec Unit := do
  let s ← getState
  require (s.me.csr.vstart == 0 || decide (s.me.savedOr.rows ≠ 0))

/-! ## Formats -/

/-- The floating format of elements of the width in force (R46, R185). -/
def Csr.fmt (c : Csr) : Fmt :=
  match field c.vtype 0 2 with
  | 3 => fp64
  | 2 => fp32
  | 1 => if c.fk = 1 then bf16 else fp16
  | _ => if c.fk = 1 then e4m3 else if c.fk = 2 then e5m2 else narrowFmt c.nfmt.toNat

/-- NFMT must be legal where the element format is the one it holds (R56). -/
def checkFmt : Exec Unit := do
  let s ← getState
  let c := s.me.csr
  require (!(c.sew == 8 && c.fk == 0) || narrowLegal c.nfmt.toNat)

/-- The format twice as wide (R190). -/
def Csr.wideFmt (c : Csr) : Fmt :=
  match field c.vtype 0 2 with
  | 0 => bf16
  | 1 => fp32
  | _ => fp64

/-- The draw of R64 for element `e` of an instruction of the hart in focus, with INSTRET as its first issue found it, and the rounding mode. -/
def State.rounding (s : State) (e : Nat) : Nat × Nat :=
  (s.me.csr.frm.toNat, if s.me.csr.frm = 5 then srBits s.me.csr.srseed.toNat s.tan.tid s.me.issued.csr.instret.toNat e else 0)

/-! ## Tiles and elements -/

/-- A source tile: its registers in order, as the instruction's first issue found them, or the entries of the queue it names (R16, R38, R344). -/
def readTile (n g : Nat) : Exec (List VReg) := do
  let s ← getState
  if n < 112 then pure ((range 0 (s.me.csr.rows * g)).map (fun k => s.me.issued.readV (n + k)))
  else vecPop n (s.me.csr.rows * g)

/-- A tile of indices that go into addresses: its registers as they stand (R344), or the entries of the queue it names. -/
def readIndices (n g : Nat) : Exec (List VReg) := do
  let s ← getState
  if n < 112 then pure ((range 0 (s.me.csr.rows * g)).map (fun k => s.me.readV (n + k)))
  else vecPop n (s.me.csr.rows * g)

/-- The trap of a pop for which an exited pusher has left too few entries comes before a DET-VIOLATION or a fault of an access (R19, R150). -/
def drainedFirst {α : Type} (pops : Exec α) : Exec Unit := fun s =>
  match pops s with
  | .error (.drained n) _ => .error (.drained n) s
  | _ => .ok () s

/-- The elements of a row's registers, `w` bits each (R38). -/
def unpackRow (w : Nat) (regs : List VReg) : List Nat :=
  regs.flatMap (fun r => (range 0 (1024 / w)).map (fun i => field r (i * w) w))

/-- The number that elements make, `w` bits each, the first in the low bits. -/
def packNat (w : Nat) : List Nat → Nat
  | [] => 0
  | x :: r => x % 2 ^ w + 2 ^ w * packNat w r

/-- A row's elements packed into its registers. -/
def packRow (w : Nat) : Nat → List Nat → List VReg
  | 0, _ => []
  | n + 1, xs => BitVec.ofNat 1024 (packNat w (xs.take (1024 / w))) :: packRow w n (xs.drop (1024 / w))

/-- The registers of row `j` of a tile. -/
def rowRegs (regs : List VReg) (g j : Nat) : List VReg := (regs.drop (j * g)).take g

/-- Element i of row j of a tile. -/
def elemAt (regs : List VReg) (g w j i : Nat) : Nat := field (regs.getD (j * g + i * w / 1024) 0) (i * w % 1024) w

/-- Element e of a tile in linear order (R12). -/
def elemLin (regs : List VReg) (g w vl e : Nat) : Nat := elemAt regs g w (e / vl) (e % vl)

/-- The registers of a tile written. -/
def writeTile (n : Nat) (regs : List VReg) (h : Hart) : Hart :=
  ((range 0 regs.length).zip regs).foldl (fun h e => h.writeV (n + e.1) e.2) h

/-- VSTART written. -/
def setVstart (n : Nat) : Exec Unit := modMe (fun h => { h with csr := { h.csr with vstart := BitVec.ofNat 64 n } })

/-! ## Rows of a result -/

/-- One element of a result row: performed with a value and flags, or inactive. -/
inductive Elem where
  | value (v : Nat) (flags : Nat)
  | inactive
  /-- Left as it stands whatever IP says. -/
  | kept
deriving DecidableEq, Repr

/-- Row `j` of a destination: its elements from `f`, and the flags of the row. A queue entry holds zero where nothing is performed (R16,
R186). -/
def resultRow (h : Hart) (queue : Bool) (gd w : Nat) (old : List VReg) (f : Nat → Nat → Elem) (j : Nat) : List VReg × Nat :=
  let olds := if queue then [] else unpackRow w (rowRegs old gd j)
  let one (i : Nat) : Nat × Nat :=
    let o := olds.getD i 0
    match f j i with
    | .value v fl => (v, fl)
    | .inactive => (if h.csr.ip then 0 else o, 0)
    | .kept => (o, 0)
  let es := (range 0 (gd * 1024 / w)).map one
  (packRow w gd (es.map (·.1)), es.foldl (fun a e => a ||| e.2) 0)

/-- Elements below VL by linear index; elements from VL to the row's last are tail (R186). -/
def withTail (vl : Nat) (f : Nat → Elem) (j i : Nat) : Elem := if i < vl then f (j * vl + i) else .inactive

/-- Rows of a result are pushed in order. A row that finds the queue full stands in the staging area (R18, R186). [DEDUCED, log 39] -/
def pushRows (name vl : Nat) : Nat → List (List VReg × Nat) → Exec Unit
  | _, [] => pure ()
  | j, (regs, fl) :: rest => do
    raiseSaved fl
    modSaved (fun x => { x with rows := j + 1, staged := regs, full := true })
    setVstart ((j + 1) * vl)
    pushVector name regs
    modSaved (fun x => { x with staged := [], full := false })
    pushRows name vl (j + 1) rest

/-- A row left complete in the staging area is pushed before anything else (R18). -/
def pushStaged (name : Nat) : Exec Unit := do
  let s ← getState
  let x := s.me.savedOr
  if x.full then do
    pushVector name x.staged
    modSaved (fun x => { x with staged := [], full := false })
  else pure ()

/-- The rows of a result go to a register tile or a queue, and VSTART becomes 0. With VL = 0 no register is written (R186). -/
def putRows (d gd w : Nat) (f : Nat → Nat → Elem) : Exec Unit := do
  let s ← getState
  let h := s.me
  let rows := range 0 h.csr.rows
  if d < 112 then do
    if h.csr.len = 0 then pure ()
    else do
      let old := (range 0 (h.csr.rows * gd)).map (fun k => h.readV (d + k))
      let res := rows.map (resultRow h false gd w old f)
      modMe (writeTile d (res.flatMap (·.1)))
      raiseSaved (res.foldl (fun a r => a ||| r.2) 0)
  else do
    pushStaged d
    let s ← getState
    let k := s.me.savedOr.rows
    pushRows d h.csr.len k ((rows.drop k).map (resultRow h true gd w [] f))
  setVstart 0

/-- Where an elementwise member performs element e (R186): from VSTART, active; below VSTART nothing is written. -/
def elementwiseAt (h : Hart) (m : Bool) (op : Nat → Nat × Nat) (e : Nat) : Elem :=
  if e < h.csr.start then .kept
  else if h.active m e then (let r := op e; .value r.1 r.2)
  else .inactive

/-- An elementwise member: the scheme of R186. -/
def elementwise (d gd w : Nat) (m : Bool) (op : Nat → Nat × Nat) : Exec Unit := do
  let s ← getState
  putRows d gd w (withTail s.me.csr.len (elementwiseAt s.me m op))

/-- The instruction may not run on a firmware core (R151). -/
def coreOnly : Exec Unit := do
  let s ← getState
  if s.tan.firmware.isSome then illegalInstr else pure ()

/-- The low bits of an element that its format reads (R58, R185). -/
def readWidth (c : Csr) (float : Bool) (x : Nat) : Nat := if float then x % 2 ^ c.fmt.width else x

/-! ## Predicates -/

/-- The number that truth values make, the first in bit 0. -/
def packBits : List Bool → Nat
  | [] => 0
  | b :: r => (if b then 1 else 0) + 2 * packBits r

/-- Bits of row `j` of a predicate from lane 0 replaced; `none` leaves a bit. -/
def setPredRow (p : PReg) (j : Nat) (bs : List (Option Bool)) : PReg :=
  let mask : PReg := BitVec.ofNat 16384 (packBits (bs.map (·.isSome)) * 2 ^ (1024 * j))
  let val : PReg := BitVec.ofNat 16384 (packBits (bs.map (fun b => b.getD false)) * 2 ^ (1024 * j))
  (p &&& ~~~mask) ||| val

/-- The rows of a predicate's tile written: `f` gives lane i of row j, for the first `lanes` lanes. -/
def writePredRows (h : Hart) (lanes : Nat) (f : Nat → Nat → Option Bool) (p : PReg) : PReg :=
  (range 0 h.csr.rows).foldl (fun p j => setPredRow p j ((range 0 lanes).map (f j))) p

/-- A predicate register written by lanes below VL of rows below RC (R195, R214, R215). With VL = 0 none is. -/
def putPred (d : Nat) (f : Nat → Nat → Option Bool) : Exec Unit :=
  modMe (fun h => h.writeP d (writePredRows h h.csr.len f (h.readP d)))

end Sys2Proof.Machine
end

