-- ==== Sys2Proof/Machine/Atomic.lean ====
section
/-! DEFINITION. Atomics: AMG and AMS (R173–R175). -/

namespace Sys2Proof.Machine

/-- While HCTL.DET is 1, an operation whose grouping the hardware chooses traps before any access (R78). -/
def checkDet : Exec Unit := do
  let s ← getState
  if s.me.csr.hctl.getLsbD 0 then detViolation else pure ()

/-- An atomic (R173–R175): D names no queue end, A and B may pop, the address is naturally aligned, and the old value reaches s[D],
zero-extended for MINN, MAXN, FADD and INC and sign-extended otherwise. A firmware core has no AMS (R151). The ordering field is accepted in every value: the hart's
accesses are performed in program order, and every atomic performs its held stores first. -/
def atomicBody (shared : Bool) (op : Nat) (_order : BitVec 2) (d a b : BitVec 7) (z : BitVec 1) : Exec Unit := do
  if shared then coreOnly else pure ()
  checkSrc a.toNat
  checkSrc b.toNat
  checkRmw d.toNat
  let n := if z = 0 then 4 else 8
  let addr ← readS a.toNat
  let y ← readS b.toNat
  let c ← readS d.toNat
  requireAligned addr.toNat n
  if op = 10 then checkDet else pure ()
  let x := y.toNat % 2 ^ (8 * n)
  let e := c.toNat % 2 ^ (8 * n)
  let r ← atomicMem shared false addr.toNat n op x e (fun m => atomicNew op n m x e)
  raise r.2
  writeS d.toNat (if op ∈ [6, 7, 10, 11] then BitVec.ofNat 64 r.1 else sextN (8 * n) r.1)

/-- AMG.ADD (R173). -/
def execAmgAdd (r : BitVec 2) (d : BitVec 7) (a : BitVec 7) (b : BitVec 7) (z : BitVec 1) (s : State) : Host.Outcome State Fault Refusal :=
  runScalar (atomicBody false 0 r d a b z) s

/-- AMG.AND (R173). -/
def execAmgAnd (r : BitVec 2) (d : BitVec 7) (a : BitVec 7) (b : BitVec 7) (z : BitVec 1) (s : State) : Host.Outcome State Fault Refusal :=
  runScalar (atomicBody false 1 r d a b z) s

/-- AMG.OR (R173). -/
def execAmgOr (r : BitVec 2) (d : BitVec 7) (a : BitVec 7) (b : BitVec 7) (z : BitVec 1) (s : State) : Host.Outcome State Fault Refusal :=
  runScalar (atomicBody false 2 r d a b z) s

/-- AMG.XOR (R173). -/
def execAmgXor (r : BitVec 2) (d : BitVec 7) (a : BitVec 7) (b : BitVec 7) (z : BitVec 1) (s : State) : Host.Outcome State Fault Refusal :=
  runScalar (atomicBody false 3 r d a b z) s

/-- AMG.MIN (R173). -/
def execAmgMin (r : BitVec 2) (d : BitVec 7) (a : BitVec 7) (b : BitVec 7) (z : BitVec 1) (s : State) : Host.Outcome State Fault Refusal :=
  runScalar (atomicBody false 4 r d a b z) s

/-- AMG.MAX (R173). -/
def execAmgMax (r : BitVec 2) (d : BitVec 7) (a : BitVec 7) (b : BitVec 7) (z : BitVec 1) (s : State) : Host.Outcome State Fault Refusal :=
  runScalar (atomicBody false 5 r d a b z) s

/-- AMG.MINN (R173). -/
def execAmgMinn (r : BitVec 2) (d : BitVec 7) (a : BitVec 7) (b : BitVec 7) (z : BitVec 1) (s : State) : Host.Outcome State Fault Refusal :=
  runScalar (atomicBody false 6 r d a b z) s

/-- AMG.MAXN (R173). -/
def execAmgMaxn (r : BitVec 2) (d : BitVec 7) (a : BitVec 7) (b : BitVec 7) (z : BitVec 1) (s : State) : Host.Outcome State Fault Refusal :=
  runScalar (atomicBody false 7 r d a b z) s

/-- AMG.SWP (R173). -/
def execAmgSwp (r : BitVec 2) (d : BitVec 7) (a : BitVec 7) (b : BitVec 7) (z : BitVec 1) (s : State) : Host.Outcome State Fault Refusal :=
  runScalar (atomicBody false 8 r d a b z) s

/-- AMG.CAS (R173). -/
def execAmgCas (r : BitVec 2) (d : BitVec 7) (a : BitVec 7) (b : BitVec 7) (z : BitVec 1) (s : State) : Host.Outcome State Fault Refusal :=
  runScalar (atomicBody false 9 r d a b z) s

/-- AMG.FADD (R174). -/
def execAmgFadd (r : BitVec 2) (d : BitVec 7) (a : BitVec 7) (b : BitVec 7) (z : BitVec 1) (s : State) : Host.Outcome State Fault Refusal :=
  runScalar (atomicBody false 10 r d a b z) s

/-- AMG.INC (R173). -/
def execAmgInc (r : BitVec 2) (d : BitVec 7) (a : BitVec 7) (b : BitVec 7) (z : BitVec 1) (s : State) : Host.Outcome State Fault Refusal :=
  runScalar (atomicBody false 11 r d a b z) s

/-- AMS.ADD (R173). -/
def execAmsAdd (r : BitVec 2) (d : BitVec 7) (a : BitVec 7) (b : BitVec 7) (z : BitVec 1) (s : State) : Host.Outcome State Fault Refusal :=
  runScalar (atomicBody true 0 r d a b z) s

/-- AMS.AND (R173). -/
def execAmsAnd (r : BitVec 2) (d : BitVec 7) (a : BitVec 7) (b : BitVec 7) (z : BitVec 1) (s : State) : Host.Outcome State Fault Refusal :=
  runScalar (atomicBody true 1 r d a b z) s

/-- AMS.OR (R173). -/
def execAmsOr (r : BitVec 2) (d : BitVec 7) (a : BitVec 7) (b : BitVec 7) (z : BitVec 1) (s : State) : Host.Outcome State Fault Refusal :=
  runScalar (atomicBody true 2 r d a b z) s

/-- AMS.XOR (R173). -/
def execAmsXor (r : BitVec 2) (d : BitVec 7) (a : BitVec 7) (b : BitVec 7) (z : BitVec 1) (s : State) : Host.Outcome State Fault Refusal :=
  runScalar (atomicBody true 3 r d a b z) s

/-- AMS.MIN (R173). -/
def execAmsMin (r : BitVec 2) (d : BitVec 7) (a : BitVec 7) (b : BitVec 7) (z : BitVec 1) (s : State) : Host.Outcome State Fault Refusal :=
  runScalar (atomicBody true 4 r d a b z) s

/-- AMS.MAX (R173). -/
def execAmsMax (r : BitVec 2) (d : BitVec 7) (a : BitVec 7) (b : BitVec 7) (z : BitVec 1) (s : State) : Host.Outcome State Fault Refusal :=
  runScalar (atomicBody true 5 r d a b z) s

/-- AMS.MINN (R173). -/
def execAmsMinn (r : BitVec 2) (d : BitVec 7) (a : BitVec 7) (b : BitVec 7) (z : BitVec 1) (s : State) : Host.Outcome State Fault Refusal :=
  runScalar (atomicBody true 6 r d a b z) s

/-- AMS.MAXN (R173). -/
def execAmsMaxn (r : BitVec 2) (d : BitVec 7) (a : BitVec 7) (b : BitVec 7) (z : BitVec 1) (s : State) : Host.Outcome State Fault Refusal :=
  runScalar (atomicBody true 7 r d a b z) s

/-- AMS.SWP (R173). -/
def execAmsSwp (r : BitVec 2) (d : BitVec 7) (a : BitVec 7) (b : BitVec 7) (z : BitVec 1) (s : State) : Host.Outcome State Fault Refusal :=
  runScalar (atomicBody true 8 r d a b z) s

/-- AMS.CAS (R173). -/
def execAmsCas (r : BitVec 2) (d : BitVec 7) (a : BitVec 7) (b : BitVec 7) (z : BitVec 1) (s : State) : Host.Outcome State Fault Refusal :=
  runScalar (atomicBody true 9 r d a b z) s

/-- AMS.FADD (R174). -/
def execAmsFadd (r : BitVec 2) (d : BitVec 7) (a : BitVec 7) (b : BitVec 7) (z : BitVec 1) (s : State) : Host.Outcome State Fault Refusal :=
  runScalar (atomicBody true 10 r d a b z) s

/-- AMS.INC (R173). -/
def execAmsInc (r : BitVec 2) (d : BitVec 7) (a : BitVec 7) (b : BitVec 7) (z : BitVec 1) (s : State) : Host.Outcome State Fault Refusal :=
  runScalar (atomicBody true 11 r d a b z) s

end Sys2Proof.Machine
end

