-- ==== Sys2Proof/Machine/Barrier.lean ====
section
/-! DEFINITION. Barrier objects: BAR (R246–R249, R295–R299). -/

namespace Sys2Proof.Machine

/-- EXP of an object (R295). -/
def barExp (m : Nat) : Nat := bits m 31 0
/-- ARR. -/
def barArr (m : Nat) : Nat := bits m 63 32
/-- OVR. -/
def barOvr (m : Nat) : Bool := bit m 65

/-- An object from its fields; its reserved bits are 0 (R295). -/
def barObject (exp arr : Nat) (ph ovr valid : Bool) : Nat :=
  exp + arr * 2 ^ 32 + (if ph then 2 ^ 64 else 0) + (if ovr then 2 ^ 65 else 0) + (if valid then 2 ^ 66 else 0)

/-- The phase completes (R297). -/
def barComplete (m : Nat) (ovr : Bool) : Nat := barObject (barExp m) 0 (!barPh m) (barOvr m || ovr) true

/-- An arrival of u units that stays within EXP, or that finds ARR ≥ EXP already (R296, R297). -/
def barArrive (m u : Nat) : Nat :=
  if barExp m ≤ barArr m ∨ barArr m + u = barExp m then barComplete m false
  else barObject (barExp m) (barArr m + u) (barPh m) (barOvr m) true

/-- A BARV of u units exceeds what its phase expects (R247, R296). -/
def barBeyond (m u : Nat) : Bool := decide (barArr m < barExp m ∧ barExp m < barArr m + u)

/-- The case of R249 that an operation meets on an object; 0 for none. Operations are numbered by FN5: 0 BINIT, 1 BEXP, 2 BARV, 3 BWAIT,
4 BTEST. -/
def barMisuse (op m u : Nat) : Nat :=
  if op = 0 then 0
  else if barValid m = false then 2
  else if op = 2 ∧ barBeyond m u = true then 3
  else if op = 1 ∧ 2 ^ 32 ≤ barExp m + u then 4
  else 0

/-- What an operation writes to an object, if anything (R247, R249). -/
def barNew (op u m : Nat) : Option Nat :=
  if barMisuse op m u ≠ 0 then none
  else
    match op with
    | 0 => some (barObject u 0 false false true)
    | 1 => some (barObject (barExp m + u) (barArr m) (barPh m) (barOvr m) true)
    | 2 => if u = 0 then none else some (barArrive m u)
    | _ => none

/-- What a copy's arrival of u units makes of a valid object (R248, R296). -/
def barCopyNew (u m : Nat) : Nat := if barBeyond m u then barComplete m true else barArrive m u

/-- The operation code under which a peer performs a member (the model's own, beside those of R173). [DESIGN CHOICE, log 36] -/
def barPeerOp (op : Nat) : Nat := 16 + op

/-- The operation writes its object. -/
def barWrites (op : Nat) : Bool := decide (op < 3)

/-- BARRIER-MISUSE with the object's address and the case (R249). -/
def barTrap {α : Type} (addr case : Nat) : Exec α := fun s =>
  .error (.trap 9 0 s.me.pc (addrWord addr) (BitVec.ofNat 64 case)) s

/-- The strip ends; where the member writes, it can no longer be run again (R246). -/
def barEnds (op : Nat) (s : State) : State := if barWrites op then s.endStrip.spoilStrip else s.endStrip

/-- The object, as an atomic on it finds it, with the operation performed unless it meets a misuse (R246, R298). The checks come in the
order of R249. -/
def barAccess (global : Bool) (op addr u : Nat) : Exec Nat := do
  requireAligned addr 16
  if global then do
    let xs ← resolve false .atomic addr 16
    if xs.any (·.dev) then barTrap addr 5 else pure ()
    if op = 0 ∧ (u = 0 ∨ 2 ^ 32 ≤ u) then barTrap addr 1 else pure ()
    comparators .atomic addr 16
    scoreboard true false false addr 16
    modState (barEnds op)
    checkErrors (((range addr 16).map (fun b => b % 2 ^ 64)).zip xs)
    match xs with
    | [] => pure 0
    | x :: _ => do
      let r ← atomicAt addr x.pa xs 16 (barPeerOp op) u 0 (fun m => (barNew op u m, 0))
      note { store := barWrites op, shared := false, va := addr, len := 16, pas := [x.pa], dev := false,
             old := toBytes 16 r.1, new := toBytes 16 ((barNew op u r.1).getD r.1) }
      pure r.1
  else do
    sharedBounds addr 16
    if op = 0 ∧ (u = 0 ∨ 2 ^ 32 ≤ u) then barTrap addr 1 else pure ()
    scoreboard true true false addr 16
    modState (barEnds op)
    note { store := barWrites op, shared := true, va := addr, pas := [], dev := false }
    let b ← scratchRead addr 16
    match barNew op u (ofBytes b) with
    | none => pure (ofBytes b)
    | some v => do
      modState (writeScratchNow addr ((toBytes 16 v).map (fun b => (b, (0xFF : Byte)))))
      pure (ofBytes b)

/-- A result that would find its queue full stalls before the member is performed (R17). -/
def roomFor (d : Nat) : Exec Unit := fun s =>
  match writeS d 0 s with
  | .ok _ _ => .ok () s
  | .error e _ => .error e s

/-- How the wait of the BWAIT under way has ended, if a change of its object has ended it (R297, R298). -/
def barMet (s : State) : Option Bool := (s.me.barWait.filter (fun w => w.pc == s.me.pc)).bind (·.met)

/-- The BWAIT under way waits on a parity, from its first test of the object on (R298). -/
def barWaits (global : Bool) (addr : Nat) (parity : Bool) : Exec Unit := do
  modState (fun s => { s with me := { s.me with
    barWait := some { pc := s.me.pc, shared := !global, place := if global then addr else s.tan.unit * 0x400000 + addr, parity := parity } } })
  stopWith (.wait 12 0x43)

/-- A member of BAR (R247): the operands, the access, the misuse traps, the wait of BWAIT and the result in s[D]. [DEDUCED, log 48] -/
def barBody (global : Bool) (op : Nat) (d : Option (BitVec 7)) (a b : BitVec 7) : Exec Unit := do
  coreOnly
  checkSrc a.toNat
  checkSrc b.toNat
  match d with
  | some d => checkDst d.toNat
  | none => pure ()
  let addr ← readS a.toNat
  let u ← readS b.toNat
  match d with
  | some d => roomFor d.toNat
  | none => pure ()
  let s ← getState
  let m ← barAccess global op addr.toNat u.toNat
  match (if op = 3 then barMet s else none) with
  | some true => pure ()
  | some false => barTrap addr.toNat 2
  | none => do
    if barMisuse op m u.toNat ≠ 0 then barTrap addr.toNat (barMisuse op m u.toNat) else pure ()
    if op = 3 ∧ barPh m = u.getLsbD 0 then barWaits global addr.toNat (u.getLsbD 0) else pure ()
  match d with
  | some d => writeS d.toNat (ofBool (if op = 2 then barPh m else barPh m != u.getLsbD 0))
  | none => pure ()

/-- A member of BAR retires, or it stops and has changed nothing of its own; a peer's reply that it took stays taken, and a BWAIT that
waits has ended the strip (R108, R158, R246). -/
def runBarrier (b : Exec Unit) (s : State) : Host.Outcome State Fault Refusal :=
  match b s with
  | .ok _ s' => .next (retire s (s.me.pc + 4) s')
  | .error e s' =>
    let t := undone s s'
    .next (applyStop e { t with links := s'.links, me := { t.me with barWait := s'.me.barWait } })

/-- BINIT (sA), sB (R247). -/
def execBinit (a : BitVec 7) (b : BitVec 7) (s : State) : Host.Outcome State Fault Refusal := runBarrier (barBody false 0 none a b) s

/-- BEXP (sA), sB (R247). -/
def execBexp (a : BitVec 7) (b : BitVec 7) (s : State) : Host.Outcome State Fault Refusal := runBarrier (barBody false 1 none a b) s

/-- BARV sD, (sA), sB (R247). -/
def execBarv (d : BitVec 7) (a : BitVec 7) (b : BitVec 7) (s : State) : Host.Outcome State Fault Refusal :=
  runBarrier (barBody false 2 (some d) a b) s

/-- BWAIT (sA), sB (R247). -/
def execBwait (a : BitVec 7) (b : BitVec 7) (s : State) : Host.Outcome State Fault Refusal := runBarrier (barBody false 3 none a b) s

/-- BTEST sD, (sA), sB (R247). -/
def execBtest (d : BitVec 7) (a : BitVec 7) (b : BitVec 7) (s : State) : Host.Outcome State Fault Refusal :=
  runBarrier (barBody false 4 (some d) a b) s

/-- BINIT.G (sA), sB (R247). -/
def execBinitG (a : BitVec 7) (b : BitVec 7) (s : State) : Host.Outcome State Fault Refusal := runBarrier (barBody true 0 none a b) s

/-- BEXP.G (sA), sB (R247). -/
def execBexpG (a : BitVec 7) (b : BitVec 7) (s : State) : Host.Outcome State Fault Refusal := runBarrier (barBody true 1 none a b) s

/-- BARV.G sD, (sA), sB (R247). -/
def execBarvG (d : BitVec 7) (a : BitVec 7) (b : BitVec 7) (s : State) : Host.Outcome State Fault Refusal :=
  runBarrier (barBody true 2 (some d) a b) s

/-- BWAIT.G (sA), sB (R247). -/
def execBwaitG (a : BitVec 7) (b : BitVec 7) (s : State) : Host.Outcome State Fault Refusal := runBarrier (barBody true 3 none a b) s

/-- BTEST.G sD, (sA), sB (R247). -/
def execBtestG (d : BitVec 7) (a : BitVec 7) (b : BitVec 7) (s : State) : Host.Outcome State Fault Refusal :=
  runBarrier (barBody true 4 (some d) a b) s

end Sys2Proof.Machine
end

