-- ==== Sys2Proof/Machine/Branch.lean ====
section
/-! DEFINITION. Branches and jumps: BZ, B2, J, JL and JLR (R167, R168). -/

namespace Sys2Proof.Machine

/-- The tests of BZ on s[A] (R167). -/
def bzTest : Nat → Word → Bool
  | 0, a => a == 0
  | 1, a => a != 0
  | 2, a => decide (a.toInt < 0)
  | 3, a => decide (0 ≤ a.toInt)
  | 4, a => decide (0 < a.toInt)
  | _, a => decide (a.toInt ≤ 0)

/-- The tests of B2 on s[A] and s[B] (R167). -/
def b2Test : Nat → Word → Word → Bool
  | 0, a, b => a == b
  | 1, a, b => a != b
  | 2, a, b => decide (a.toInt < b.toInt)
  | 3, a, b => decide (b.toInt ≤ a.toInt)
  | 4, a, b => decide (a.toNat < b.toNat)
  | _, a, b => decide (b.toNat ≤ a.toNat)

/-- The address a word offset names, counted from the instruction (R145). -/
def offsetFrom {w : Nat} (pc : Word) (o : BitVec w) : Word := pc + 4 * sext o

/-- BZ: the target where the test holds (R167). -/
def branchZ (c : Nat) (a : BitVec 7) (o : BitVec 16) : Exec (Option Word) := do
  checkSrc a.toNat
  let x ← readS a.toNat
  let s ← getState
  pure (if bzTest c x then some (offsetFrom s.me.pc o) else none)

/-- B2: the target where the test holds (R167). -/
def branch2 (c : Nat) (a b : BitVec 7) (o : BitVec 9) : Exec (Option Word) := do
  checkSrc a.toNat
  checkSrc b.toNat
  let x ← readS a.toNat
  let y ← readS b.toNat
  let s ← getState
  pure (if b2Test c x y then some (offsetFrom s.me.pc o) else none)

/-- BEQZ (R167). -/
def execBeqz (a : BitVec 7) (o : BitVec 16) (s : State) : Host.Outcome State Fault Refusal :=
  runBranch (branchZ 0 a o) s

/-- BNEZ (R167). -/
def execBnez (a : BitVec 7) (o : BitVec 16) (s : State) : Host.Outcome State Fault Refusal :=
  runBranch (branchZ 1 a o) s

/-- BLTZ (R167). -/
def execBltz (a : BitVec 7) (o : BitVec 16) (s : State) : Host.Outcome State Fault Refusal :=
  runBranch (branchZ 2 a o) s

/-- BGEZ (R167). -/
def execBgez (a : BitVec 7) (o : BitVec 16) (s : State) : Host.Outcome State Fault Refusal :=
  runBranch (branchZ 3 a o) s

/-- BGTZ (R167). -/
def execBgtz (a : BitVec 7) (o : BitVec 16) (s : State) : Host.Outcome State Fault Refusal :=
  runBranch (branchZ 4 a o) s

/-- BLEZ (R167). -/
def execBlez (a : BitVec 7) (o : BitVec 16) (s : State) : Host.Outcome State Fault Refusal :=
  runBranch (branchZ 5 a o) s

/-- BEQ (R167). -/
def execBeq (a : BitVec 7) (b : BitVec 7) (o : BitVec 9) (s : State) : Host.Outcome State Fault Refusal :=
  runBranch (branch2 0 a b o) s

/-- BNE (R167). -/
def execBne (a : BitVec 7) (b : BitVec 7) (o : BitVec 9) (s : State) : Host.Outcome State Fault Refusal :=
  runBranch (branch2 1 a b o) s

/-- BLT (R167). -/
def execBlt (a : BitVec 7) (b : BitVec 7) (o : BitVec 9) (s : State) : Host.Outcome State Fault Refusal :=
  runBranch (branch2 2 a b o) s

/-- BGE (R167). -/
def execBge (a : BitVec 7) (b : BitVec 7) (o : BitVec 9) (s : State) : Host.Outcome State Fault Refusal :=
  runBranch (branch2 3 a b o) s

/-- BLTN (R167). -/
def execBltn (a : BitVec 7) (b : BitVec 7) (o : BitVec 9) (s : State) : Host.Outcome State Fault Refusal :=
  runBranch (branch2 4 a b o) s

/-- BGEN (R167). -/
def execBgen (a : BitVec 7) (b : BitVec 7) (o : BitVec 9) (s : State) : Host.Outcome State Fault Refusal :=
  runBranch (branch2 5 a b o) s

/-- J: PC ← PC + 4 × sext(OFF26) (R168). -/
def jumpBody (o : BitVec 26) : Exec (Option Word) := do
  let s ← getState
  pure (some (offsetFrom s.me.pc o))

/-- JL: window name s1 takes PC + 4, then J (R168). -/
def jumpLinkBody (o : BitVec 26) : Exec (Option Word) := do
  let s ← getState
  writeS 1 (s.me.pc + 4)
  pure (some (offsetFrom s.me.pc o))

/-- JLR: t ← s[A] + sext(I12) with bits [1:0] cleared, s[D] ← PC + 4, PC ← t (R168). -/
def jumpLinkRegBody (d a : BitVec 7) (i : BitVec 12) : Exec (Option Word) := do
  checkSrc a.toNat
  checkDst d.toNat
  let x ← readS a.toNat
  let s ← getState
  writeS d.toNat (s.me.pc + 4)
  pure (some ((x + sext i) &&& ~~~(3 : Word)))

/-- J (R168). -/
def execJ (o : BitVec 26) (s : State) : Host.Outcome State Fault Refusal :=
  runBranch (jumpBody o) s

/-- JL (R168). -/
def execJl (o : BitVec 26) (s : State) : Host.Outcome State Fault Refusal :=
  runBranch (jumpLinkBody o) s

/-- JLR (R168). -/
def execJlr (d : BitVec 7) (a : BitVec 7) (i : BitVec 12) (s : State) : Host.Outcome State Fault Refusal :=
  runBranch (jumpLinkRegBody d a i) s

end Sys2Proof.Machine
end

