-- ==== Sys2Proof/Machine/Launch.lean ====
section
/-! DEFINITION. How tandems begin and end: free TIDs (R268), the registers of a new tandem (R22), the end of a tandem and of a kernel's last
tandem (R252, R287), and what the states of the contexts follow from (R270). -/

namespace Sys2Proof.Machine

/-- The tandems of a context: those whose TIDs are not free (R268, R287). -/
def State.contextTandems (s : State) (ctx : Nat) : List Away :=
  s.allTandems.filter (fun x => x.t.ctx == ctx && x.t.firmware.isNone)

/-- The `n` lowest numbers from `i` on that a list does not hold, among `fuel` numbers. -/
def lowestFree (used : List Nat) : Nat → Nat → Nat → List Nat
  | 0, _, _ => []
  | f + 1, i, n =>
    if n = 0 then []
    else if used.contains i then lowestFree used f (i + 1) n
    else i :: lowestFree used f (i + 1) (n - 1)

/-- The `n` lowest TIDs free in a context; fewer where it has no more (R268). -/
def freeTids (s : State) (ctx n : Nat) : List Nat := lowestFree ((s.contextTandems ctx).map (·.t.tid)) 65536 0 n

/-- A hart at its start: s1 and those after it hold `regs`, everything else its reset value (R22). -/
def startHart (pc : Word) (regs : List Word) : Hart :=
  { pc := pc, s := ((range 1 regs.length).zip regs).foldl (fun t e => sparseSet 0 t e.1 e.2) [] }

/-- A new tandem of a kernel; s1 to s4 come first in `regs`, then the argument words (R22, R251, R286). -/
def newTandem (k : Kernel) (uid tid tix : Nat) (regs : List Word) : Away :=
  { t := { uid := uid, ctx := k.ctx, tid := tid, csn := k.csn, tix := tix, qid := k.qid, single := k.aentry == 0,
           z := k.z, prio := k.prio, ecls := k.ecls, cidx := (regs.headD 0).toNat }
    e := startHart k.eentry regs
    a := startHart k.aentry regs }

/-- Tandems added to the device, with their entries set live (R285, R287). -/
def addTandems (s : State) (xs : List Away) : State :=
  xs.foldl (fun s x => writeTandemEntry s x.t) { s with away := s.away ++ xs, nextUid := s.nextUid + xs.length }

/-- A tandem has matrix work that has not completed. -/
def Tandem.posting (t : Tandem) : Bool := !t.matrix.isEmpty

/-- The tandem of the hart in focus ends: it leaves its groups, what is left in its queues is discarded, its slot and z-tiles stay taken
while its matrix work runs, and the kernel counts it (R19, R252, R287). -/
def endTandem (s : State) : State :=
  let place := match s.tan.place with
    | .resident c k => if s.tan.posting then Place.draining c k else .ended
    | p => p
  let t := { s.tan with place := place, vq := [], sq := [], bq := {} }
  let s := { leaveAll (endStay s s.tan) s.tan with tan := t }
  let s := writeTandemEntry s t
  let s := s.modKernel t.ctx t.csn (fun k =>
    { k with
      tend := k.tend + 1
      state := if k.tend + 1 = k.tcnt ∧ k.state = .running then .draining else k.state })
  writeKernel s t.die t.ctx t.csn

/-- The entry of a TID that is free again: TST is 0, and the rest stays (R285). [DEDUCED, log 71] -/
def clearTandemEntry (s : State) (t : Tandem) : State :=
  match s.ctx? t.ctx with
  | some c => areaWrite s c t.die (tandemEntryAddr c t.tid + 8) (toBytes 8 (t.cidx % 2 ^ 40 + t.tix * 2 ^ 40))
  | none => s

/-- Tandems are forgotten: their TIDs are free, and their entries say so (R285, R287). [DEDUCED, log 71] -/
def dropTandems (p : Tandem → Bool) (s : State) : State :=
  let s := (s.allTandems.filter (fun x => p x.t)).foldl (fun s x => clearTandemEntry s x.t) s
  let s := { s with away := s.away.filter (fun x => !p x.t) }
  if s.live && p s.tan then { s with live := false, onA := false, me := {}, peer := {}, tan := {} } else s

/-- A tandem occupies a slot, or an engine works for it (R270). -/
def Away.busy (x : Away) : Bool :=
  (match x.t.place with
   | .resident _ _ | .draining _ _ => true
   | _ => false) ||
  !x.e.copies.isEmpty || !x.a.copies.isEmpty || (!x.t.matrix.isEmpty && !x.t.zsaved) ||
  (x.e.loop.bind (·.replay)).isSome || (x.a.loop.bind (·.replay)).isSome

/-- A context is RUNNING while a tandem of it is resident or work of it is in flight, and BOUND-IDLE from then on (R270). -/
def settleContexts (s : State) : State :=
  { s with ctxs := s.ctxs.map (fun c =>
      if c.state = .running ∧ (s.contextTandems c.num).any (·.busy) = false then { c with state := .boundIdle, lastRun := s.now }
      else c) }

end Sys2Proof.Machine
end

