-- ==== Sys2Proof/Machine/VConvert.lean ====
section
/-! DEFINITION. Conversions, block scales and indices: VCVT and VINDEX (R199–R201). -/

namespace Sys2Proof.Machine

/-- The floating format that a format code names (R152). -/
def codeFmt (c nfmt : Nat) : Fmt :=
  match c with
  | 8 => fp16
  | 9 => bf16
  | 10 => fp32
  | 11 => fp64
  | 12 => e4m3
  | 13 => e5m2
  | _ => narrowFmt nfmt

/-- One conversion of R199 from elements of `w` bits in format `f`. -/
def convertFn (fn : Nat) (f : Fmt) (w code nfmt mode r x : Nat) : Nat × Nat :=
  let dw := codeWidth code
  match fn with
  | 0 => convert f (codeFmt code nfmt) mode r x
  | 1 => toIntegerCode f (decide (code < 4)) dw mode r x
  | 2 => (codeFmt code nfmt).deliver mode r (intVal (toSigned w x))
  | _ =>
    if code < 4 then
      let v := toSigned w x
      let lo : Int := -(2 : Int) ^ (dw - 1)
      let hi : Int := (2 : Int) ^ (dw - 1) - 1
      (ofSigned dw (max lo (min hi v)), nvIf (decide (v < lo ∨ hi < v)))
    else (min x (2 ^ dw - 1), nvIf (decide (2 ^ dw - 1 < x)))

/-- A source and a destination of different width must not meet; of one width they meet only as R185 allows (R199). -/
def checkConvert (d gd a ga : Nat) (same : Bool) : Exec Unit :=
  if same then checkOverlap d gd a ga else checkDisjoint d gd a ga

/-- VCVTF, VCVTFI, VCVTIF and VCVTI (R199). -/
def convertBody (fn : Nat) (d a c : BitVec 7) (m : BitVec 1) : Exec Unit := do
  let s ← getState
  let t := s.me.csr
  let dw := codeWidth c.toNat
  let gd := max 1 (t.grp * dw / t.sew)
  coreOnly
  checkTileSrc a.toNat t.grp
  require (decide (t.grp * dw ≤ 8 * t.sew))
  checkTileDst d.toNat gd
  checkUnscaled
  checkConvert d.toNat gd a.toNat t.grp (t.sew == dw)
  if fn ≤ 1 then checkFmt else pure ()
  require (decide (c.toNat ≠ 14) || narrowLegal t.nfmt.toNat)
  let x ← readTile a.toNat t.grp
  let s ← getState
  elementwise d.toNat gd dw (m == 1) (fun e =>
    convertFn fn t.fmt t.sew c.toNat t.nfmt.toNat (s.rounding e).1 (s.rounding e).2 (elemLin x t.grp t.sew t.len e))

/-! ## Block scales (R200) -/

/-- The code of the narrow format that FK selects (R200). -/
def fkCode (c : Csr) : Nat := if c.fk = 1 then 12 else if c.fk = 2 then 13 else 14

/-- The conditions of R200: SEW 8, BLK 3–8, g at most 2, the limit of R60, and a legal NFMT where it is read. -/
def checkScaled : Exec Unit := do
  let s ← getState
  let c := s.me.csr
  coreOnly
  require (decide (c.sew = 8 ∧ 3 ≤ c.blk ∧ c.blk ≤ 8 ∧ c.grp ≤ 2 ∧ (c.rows * c.len - 1) / 2 ^ c.blk ≤ 255))
  checkFmt

/-- Entry m of a scale register. -/
def scaleEntry (k : KReg) (m : Nat) : Nat := field k (8 * m) 8

/-- A value times the E8M0 scale 2^x, or a NaN where the scale byte is 0xFF (R59). -/
def scaleBy (nan : Bool) (x : Int) (v : Val) : Val × Nat :=
  mulVal v (if nan then .nan false else .num false 1 x false)

/-- VQNT (R200). -/
def vqntBody (d a c : BitVec 7) (m : BitVec 1) : Exec Unit := do
  checkScaled
  let s ← getState
  let t := s.me.csr
  require (c.toNat == fkCode t)
  checkTileSrc a.toNat (4 * t.grp)
  checkTileDst d.toNat t.grp
  checkDisjoint d.toNat t.grp a.toNat (4 * t.grp)
  let x ← readTile a.toNat (4 * t.grp)
  let s ← getState
  let k := s.me.issued.readK 0
  elementwise d.toNat t.grp 8 (m == 1) (fun e =>
    let b := scaleEntry k (e / 2 ^ t.blk)
    finish t.fmt (s.rounding e).1 (s.rounding e).2
      (scaleBy (b == 255) (127 - (b : Int)) (fp32.decode (elemLin x (4 * t.grp) 32 t.len e))))

/-- VDQNT (R200). -/
def vdqntBody (d a c : BitVec 7) (m : BitVec 1) : Exec Unit := do
  checkScaled
  let s ← getState
  let t := s.me.csr
  let dw := codeWidth c.toNat
  let gd := t.grp * dw / 8
  checkTileSrc a.toNat t.grp
  checkTileDst d.toNat gd
  checkDisjoint d.toNat gd a.toNat t.grp
  let x ← readTile a.toNat t.grp
  let s ← getState
  let k := s.me.issued.readK 0
  elementwise d.toNat gd dw (m == 1) (fun e =>
    let b := scaleEntry k (e / 2 ^ t.blk)
    finish (codeFmt c.toNat 0) (s.rounding e).1 (s.rounding e).2
      (scaleBy (b == 255) ((b : Int) - 127) (t.fmt.decode (elemLin x t.grp 8 t.len e))))

/-- The magnitude of a value. -/
def Val.abs (v : Val) : Val := if v.neg then v.flip true else v

/-- The scale entry of a block whose active elements have these values; `top` is the largest finite value of the narrow format (R200). -/
def blockScale (top : Val) (vs : List Val) : Nat :=
  if vs.any (fun v => v.isNaN || v.isInf) then 255
  else
    match vs.foldl (fun a v => if ltVal a v.abs then v.abs else a) (.num false 0 0 false), top with
    | .num _ m e _, .num _ lm le _ =>
      if m = 0 then 127
      else
        let x0 : Int := e - le + (m.log2 : Int) - (lm.log2 : Int) - 1
        let fits (i : Nat) : Bool := !ltVal (.num false lm (le + x0 + i) false) (.num false m e false)
        let x : Int := x0 + (((range 0 3).find? fits).getD 2 : Nat)
        (min 254 (max 0 (x + 127))).toNat
    | _, _ => 127

/-- VBSCALE (R200). -/
def vbscaleBody (d : BitVec 3) (a c : BitVec 7) (m : BitVec 1) : Exec Unit := do
  checkScaled
  let s ← getState
  let t := s.me.csr
  require (c.toNat == fkCode t)
  checkStart0
  checkTileSrc a.toNat (4 * t.grp)
  let x ← readTile a.toNat (4 * t.grp)
  let s ← getState
  let n := t.rows * t.len
  let blocks := (n + 2 ^ t.blk - 1) / 2 ^ t.blk
  let entry (i : Nat) : Nat :=
    let es := (range (i * 2 ^ t.blk) (2 ^ t.blk)).filter (fun e => decide (e < n) && s.me.active (m == 1) e)
    blockScale (t.fmt.decode t.fmt.maxMag) (es.map (fun e => fp32.decode (elemLin x (4 * t.grp) 32 t.len e)))
  modMe (fun h => h.writeK d.toNat ((range 0 blocks).foldl (fun k i => setField k (8 * i) 8 (entry i)) (h.readK d.toNat)))
  -- a signalling NaN among the active elements raises NV (R52)
  raiseSaved (nvIf ((range 0 n).any (fun e =>
    s.me.active (m == 1) e && (fp32.decode (elemLin x (4 * t.grp) 32 t.len e)).signals)))

/-- VINDEX (R201). -/
def vindexBody (d : BitVec 7) (m : BitVec 1) (s9 p9 : BitVec 9) : Exec Unit := do
  let s ← getState
  let c := s.me.csr
  coreOnly
  checkTileDst d.toNat c.grp
  checkUnscaled
  elementwise d.toNat c.grp c.sew (m == 1) (fun e => (ofSigned c.sew (s9.toInt + (e : Int) * p9.toInt), 0))

/-- VCVTF (R199). -/
def execVcvtf (d : BitVec 7) (a : BitVec 7) (c : BitVec 7) (m : BitVec 1) (s : State) : Host.Outcome State Fault Refusal :=
  runVector (convertBody 0 d a c m) s

/-- VCVTFI (R199). -/
def execVcvtfi (d : BitVec 7) (a : BitVec 7) (c : BitVec 7) (m : BitVec 1) (s : State) : Host.Outcome State Fault Refusal :=
  runVector (convertBody 1 d a c m) s

/-- VCVTIF (R199). -/
def execVcvtif (d : BitVec 7) (a : BitVec 7) (c : BitVec 7) (m : BitVec 1) (s : State) : Host.Outcome State Fault Refusal :=
  runVector (convertBody 2 d a c m) s

/-- VCVTI (R199). -/
def execVcvti (d : BitVec 7) (a : BitVec 7) (c : BitVec 7) (m : BitVec 1) (s : State) : Host.Outcome State Fault Refusal :=
  runVector (convertBody 6 d a c m) s

/-- VQNT (R200). -/
def execVqnt (d : BitVec 7) (a : BitVec 7) (c : BitVec 7) (m : BitVec 1) (s : State) : Host.Outcome State Fault Refusal :=
  runVector (vqntBody d a c m) s

/-- VDQNT (R200). -/
def execVdqnt (d : BitVec 7) (a : BitVec 7) (c : BitVec 7) (m : BitVec 1) (s : State) : Host.Outcome State Fault Refusal :=
  runVector (vdqntBody d a c m) s

/-- VBSCALE (R200). -/
def execVbscale (d : BitVec 3) (a : BitVec 7) (c : BitVec 7) (m : BitVec 1) (s : State) : Host.Outcome State Fault Refusal :=
  runVector (vbscaleBody d a c m) s

/-- VINDEX, START9 and STEP9 (R201). -/
def execVindex (d : BitVec 7) (m : BitVec 1) (st : BitVec 9) (p : BitVec 9) (s : State) : Host.Outcome State Fault Refusal :=
  runVector (vindexBody d m st p) s

end Sys2Proof.Machine
end

