-- ==== Sys2Proof/Machine/VMem.lean ====
section
/-! DEFINITION. Vector loads, stores and scatter-adds (R202–R213). -/

namespace Sys2Proof.Machine

/-! ## Elements and memory fields (R153, R203) -/

/-- Bits of a code of width W kept: the others are ignored on load and written 0 on store (R58). -/
def lowCode (f : Fmt) (x : Nat) : Nat := x % 2 ^ f.width

/-- An integer saturated to `w` bits, with NV where it does not fit (R92). -/
def saturate (signed : Bool) (w : Nat) (v : Int) : Nat × Nat :=
  let lo : Int := if signed then -(2 : Int) ^ (w - 1) else 0
  let hi : Int := if signed then (2 : Int) ^ (w - 1) - 1 else (2 : Int) ^ w - 1
  (ofSigned w (max lo (min hi v)), nvIf (decide (v < lo ∨ hi < v)))

/-- The format of a floating memory field (R153). -/
def kindFmt (k nfmt : Nat) : Fmt := if k = 5 then fp16 else if k = 6 then bf16 else narrowFmt nfmt

/-- A conversion between the memory format and the element format: exact or RNE, with canonical NaNs and NV for a signalling one, where both
formats are one too (R52, R92). [DEDUCED, log 20] -/
def fieldConvert (src dst : Fmt) (x : Nat) : Nat × Nat := convert src dst 0 0 x

/-- A memory field of kind `k` as an element of `w` bits in format `ef` (R92, R203). -/
def loadConv (k w nfmt : Nat) (ef : Fmt) (x : Nat) : Nat × Nat :=
  match k with
  | 0 => (x, 0)
  | 1 => saturate true w (toSigned 8 x)
  | 2 => saturate true w (toSigned 16 x)
  | 3 => saturate false w (x % 2 ^ 8 : Nat)
  | 4 => saturate false w (x % 2 ^ 16 : Nat)
  | _ => fieldConvert (kindFmt k nfmt) ef x

/-- An element of `w` bits in format `ef` as a memory field of kind `k` (R92, R203). -/
def storeConv (k w nfmt : Nat) (ef : Fmt) (x : Nat) : Nat × Nat :=
  match k with
  | 0 => (x, 0)
  | 1 => saturate true 8 (toSigned w x)
  | 2 => saturate true 16 (toSigned w x)
  | 3 => saturate false 8 (x % 2 ^ w : Nat)
  | 4 => saturate false 16 (x % 2 ^ w : Nat)
  | _ => fieldConvert ef (kindFmt k nfmt) x

/-- Where a memory field lies: its first byte, its bytes, and which nibble it is where it is one. -/
structure Place1 where
  addr : Nat
  len : Nat
  nib : Option Nat := none
deriving DecidableEq, Repr

/-- Field number `q` of `nib` nibbles each, counted from a base (R58, R204). -/
def fieldAt (base nib q : Nat) : Place1 :=
  if nib = 1 then { addr := (base + q / 2) % 2 ^ 64, len := 1, nib := some (q % 2) }
  else { addr := (base + q * (nib / 2)) % 2 ^ 64, len := nib / 2 }

/-- One memory field read, as an element, with its flags. -/
def loadField (shared masked : Bool) (k : Nat) (c : Csr) (p : Place1) : Exec (Nat × Nat) := do
  let bs ← loadBytes shared true masked p.addr p.len
  let raw := match p.nib with
    | some h => ofBytes bs / 16 ^ h % 16
    | none => ofBytes bs
  pure (loadConv k c.sew c.nfmt.toNat c.fmt raw)

/-- One element written to its memory field: a nibble leaves the other nibble of its byte alone (R58). -/
def storeField (shared : Bool) (k : Nat) (c : Csr) (p : Place1) (x : Nat) : Exec Nat := do
  let r := storeConv k c.sew c.nfmt.toNat c.fmt x
  let bs : List (Byte × Byte) := match p.nib with
    | some h => [(BitVec.ofNat 8 (r.1 % 16 * 16 ^ h), BitVec.ofNat 8 (15 * 16 ^ h))]
    | none => (toBytes p.len r.1).map (fun b => (b, 0xFF))
  storeMasked shared true p.addr bs
  pure r.2

/-! ## Destination elements -/

/-- A register of a list with element `i` of its row, `w` bits each, replaced. -/
def setElemRow (w i v : Nat) (row : List VReg) : List VReg :=
  setNth row (i * w / 1024) (setField (row.getD (i * w / 1024) 0) (i * w % 1024) w v)

/-- The staged row padded to `g` registers. -/
def Saved.row (x : Saved) (g : Nat) : List VReg := (range 0 g).map (fun k => x.staged.getD k 0)

/-- Element (j, i) of a load's destination written: in its register, or in the staging area (R18, R206). -/
def putElem (d g w j i v : Nat) : Exec Unit :=
  if d < 112 then
    modMe (fun h =>
      let n := d + j * g + i * w / 1024
      h.writeV n (setField (h.readV n) (i * w % 1024) w v))
  else modSaved (fun x => { x with staged := setElemRow w i v (x.row g) })

/-- A complete row is pushed; where the queue is full it waits in the staging area (R18). -/
def finishRow (d g next : Nat) : Exec Unit :=
  if d < 112 then pure ()
  else do
    modSaved (fun x => { x with staged := x.row g, rows := x.rows + 1, full := true })
    setVstart next
    let s ← getState
    pushVector d s.me.savedOr.staged
    modSaved (fun x => { x with staged := [], full := false })

/-- Rows that lie wholly below `start` and have still to be pushed (R18, R342). -/
def catchUp (d g rows vl start : Nat) : Nat → Exec Unit
  | 0 => pure ()
  | n + 1 => do
    let s ← getState
    let j := s.me.savedOr.rows
    if 112 ≤ d ∧ j < rows ∧ (j + 1) * vl ≤ start then do
      finishRow d g (max start ((j + 1) * vl))
      catchUp d g rows vl start n
    else pure ()

/-- Elements in linear order from `e`: VSTART names each before it is performed (R206). -/
def elementsFrom (act : Nat → Exec Unit) : Nat → Nat → Exec Unit
  | 0, _ => pure ()
  | n + 1, e => do
    setVstart e
    act e
    elementsFrom act n (e + 1)

/-- The tail of every row below RC becomes 0 under IP; queue entries hold zero there already (R186). -/
def zeroTail (d g w : Nat) : Exec Unit := do
  let s ← getState
  let c := s.me.csr
  if d < 112 ∧ c.ip = true ∧ c.len ≠ 0 then
    modMe (fun h => (range 0 c.rows).foldl (fun h j =>
      (range 0 g).foldl (fun h k =>
        let n := d + j * g + k
        let keep := min 1024 (c.len * w - k * 1024)
        h.writeV n (h.readV n &&& BitVec.ofNat 1024 (2 ^ keep - 1))) h) h)
  else pure ()

/-! ## Addresses (R204) -/

/-- The forms of a vector access. -/
inductive Form where
  | unit | strided | row | indexed
deriving DecidableEq, Repr

/-- Where element e lies; `x` is the stride, the pitch, or the element's index (R204). -/
def placeOf (f : Form) (base nib vl : Nat) (x : Int) (e : Nat) : Place1 :=
  match f with
  | .unit => fieldAt base nib e
  | .strided => { addr := wrap64 (base + (e : Int) * x), len := nib / 2 }
  | .row => { addr := wrap64 (base + ((e / vl : Nat) : Int) * x + ((e % vl * (nib / 2) : Nat) : Int)), len := nib / 2 }
  | .indexed => { addr := wrap64 (base + x * ((nib / 2 : Nat) : Int)), len := nib / 2 }

/-- The nibbles of a memory field of kind `k` beside elements in force (R203). -/
def memNibbles (k : Nat) (c : Csr) : Nat := kindNibbles k (c.sew / 4) c.nfmt.toNat

/-- The formats that a kind reads must be legal (R56, R185). -/
def checkKind (k : Nat) : Exec Unit := do
  let s ← getState
  if 5 ≤ k then checkFmt else pure ()
  require (decide (k ≠ 7) || narrowLegal s.me.csr.nfmt.toNat)

/-- What B names beside a form: a scalar, an index tile, or nothing (R202). -/
def checkSecond (f : Form) (b : Nat) : Exec Unit := do
  let s ← getState
  match f with
  | .unit => pure ()
  | .strided | .row => checkSrc b
  | .indexed => checkTileSrc b s.me.csr.grp

/-- The operand B: for element e, its stride, pitch or index (R202). -/
def readSecond (f : Form) (b : Nat) : Exec (Nat → Int) := do
  let s ← getState
  let c := s.me.csr
  match f with
  | .unit => pure (fun _ => 0)
  | .strided | .row => do
    let x ← vecScalar b
    pure (fun _ => x.toInt)
  | .indexed => do
    let t ← readIndices b c.grp
    pure (fun e => ((elemLin t c.grp c.sew c.len e : Nat) : Int))

/-- A wait on a queue in a vector access is at the element that VSTART names: `place` gives its address (R351). -/
def atElement {α : Type} (n : Nat) (place : Nat → Nat) (b : Exec α) : Exec α := fun s =>
  match b s with
  | .ok x s' => .ok x s'
  | .error (.wait r p a k) s' =>
    if r ≤ 3 ∧ s'.me.csr.start < n then .error (.wait r p (addrWord (place s'.me.csr.start)) k) s' else .error (.wait r p a k) s'
  | .error e s' => .error e s'

/-! ## Loads (R206, R208) -/

/-- One element of a load: performed, zeroed under IP, or kept; the last of a row completes it. -/
def loadStep (one : Nat → Exec (Nat × Nat)) (d : Nat) (m : Bool) (e : Nat) : Exec Unit := do
  let s ← getState
  let c := s.me.csr
  if s.me.active m e then do
    let r ← atomically (one e)
    raiseSaved r.2
    putElem d c.grp c.sew (e / c.len) (e % c.len) r.1
  else if c.ip then putElem d c.grp c.sew (e / c.len) (e % c.len) 0
  else pure ()
  if e % c.len + 1 = c.len then finishRow d c.grp (e + 1) else pure ()

/-- A load's elements from VSTART, its tail, and its end (R206). One that is resumed beyond its last element still does its tail. [DEDUCED, log 39] -/
def runLoad (one : Nat → Exec (Nat × Nat)) (d : Nat) (m : Bool) : Exec Unit := do
  let s ← getState
  let c := s.me.csr
  let start := c.start
  if 112 ≤ d then pushStaged d else pure ()
  catchUp d c.grp c.rows c.len start c.rows
  elementsFrom (loadStep one d m) (c.rows * c.len - start) start
  zeroTail d c.grp c.sew
  setVstart 0

/-- A transfer that begins, and is not resumed, with VSTART beyond its last element performs nothing (R206); one of no element into queue end `d` pushes
its entries all the same (R16, R186). [DEDUCED, log 39] -/
def unlessBeyond (n d : Nat) (fresh : Bool) (b : Exec Unit) : Exec Unit := do
  let s ← getState
  if fresh && decide (n ≤ s.me.csr.start) && !(n == 0 && decide (112 ≤ d)) then setVstart 0 else b

/-- VLD, VLDS, VLDROW, VLDX and their shared forms (R208, R211). They name no scale register, and BLK does not limit them (R60). [DEDUCED, log 40] -/
def loadBody (shared : Bool) (f : Form) (k : Nat) (d a b : BitVec 7) (m : BitVec 1) : Exec Unit := do
  let s ← getState
  let c := s.me.csr
  coreOnly
  checkSrc a.toNat
  checkSecond f b.toNat
  checkTileDst d.toNat c.grp
  if f = .indexed then checkDisjoint d.toNat c.grp b.toNat c.grp else pure ()
  checkKind k
  let base ← vecScalar a.toNat
  let x ← readSecond f b.toNat
  let nib := memNibbles k c
  let place := fun e => placeOf f base.toNat nib c.len (x e) e
  unlessBeyond (c.rows * c.len) d.toNat s.me.savedNow.isNone
    (atElement (c.rows * c.len) (fun e => (place e).addr)
      (runLoad (fun e => loadField shared (m == 1) k c (place e)) d.toNat (m == 1)))

/-- A stop that counts as an element's fault (R209): not a wait, and a peer access only where no port carries it. -/
def Stop.faults (s : State) : Stop → Bool
  | .trap _ _ _ _ _ => true
  | .page _ _ _ => true
  | .remote _ pa _ _ =>
    match regionOf pa with
    | .peer n => (routePort s.links n pa).isNone
    | _ => true
  | _ => false

/-- VLDFF's elements: a fault above the first one performed sets VL instead (R209). -/
def firstFaultFrom (one : Nat → Exec (Nat × Nat)) (d : Nat) (m : Bool) : Nat → Nat → Exec Unit
  | 0, _ => pure ()
  | n + 1, e => fun s =>
    let c := s.me.csr
    match (do setVstart e; loadStep one d m e) s with
    | .ok _ s' =>
      let s'' := if s.me.active m e then { s' with me := s'.me.withSaved (some { s'.me.savedOr with seen := true }) } else s'
      firstFaultFrom one d m n (e + 1) s''
    | .error st s' =>
      if s.me.savedOr.seen = true ∧ st.faults s' = true ∧ s.me.active m e = true then
        .ok () { s' with me := { s'.me with csr := { c with vl := BitVec.ofNat 64 e } } }
      else .error st s'

/-- VLDFF's transfer (R209). -/
def runFirstFault (k : Nat) (d : BitVec 7) (m : BitVec 1) (base : Word) : Exec Unit := do
  let s ← getState
  let c := s.me.csr
  let nib := memNibbles k c
  if 112 ≤ d.toNat then pushStaged d.toNat else pure ()
  catchUp d.toNat c.grp 1 c.len c.start 1
  firstFaultFrom (fun e => loadField false (m == 1) k c (fieldAt base.toNat nib e)) d.toNat (m == 1)
    (c.len - c.start) c.start
  let s ← getState
  if 112 ≤ d.toNat ∧ s.me.savedOr.rows = 0 then finishRow d.toNat c.grp s.me.csr.len else pure ()
  zeroTail d.toNat c.grp c.sew
  setVstart 0

/-- VLDFF (R209). -/
def vldffBody (k : Nat) (d a : BitVec 7) (m : BitVec 1) : Exec Unit := do
  let s ← getState
  let c := s.me.csr
  coreOnly
  checkSrc a.toNat
  checkTileDst d.toNat c.grp
  require (c.rows == 1)
  checkKind k
  let base ← vecScalar a.toNat
  unlessBeyond (c.rows * c.len) d.toNat s.me.savedNow.isNone
    (atElement (c.rows * c.len) (fun e => (fieldAt base.toNat (memNibbles k c) e).addr) (runFirstFault k d m base))

/-- One record of a segment load: all its fields, or none (R206, R208). -/
def segmentLoad (k : Nat) (m : Bool) (c : Csr) (base nib nf e : Nat) : Nat → Exec (List (Nat × Nat))
  | 0 => pure []
  | n + 1 => do
    let r ← loadField false m k c (fieldAt base nib (e * nf + (nf - (n + 1))))
    let rest ← segmentLoad k m c base nib nf e n
    pure (r :: rest)

/-- The fields of a record put in their tiles. -/
def putFields (d step g w j i : Nat) : Nat → List (Nat × Nat) → Exec Unit
  | _, [] => pure ()
  | f, r :: rest => do
    raiseSaved r.2
    putElem (d + f * step) g w j i r.1
    putFields d step g w j i (f + 1) rest

/-- The checks of a segment form: the F tiles fit and D names no queue end (R205). -/
def checkSegment (nf : Nat) (d a : BitVec 7) (k : Nat) : Exec Unit := do
  let s ← getState
  let c := s.me.csr
  coreOnly
  checkSrc a.toNat
  require (decide (d.toNat < 112 ∧ d.toNat % c.grp = 0 ∧ d.toNat + nf * c.rows * c.grp ≤ 112))
  checkKind k

/-- VLDSEG's transfer (R208). -/
def runSegments (nf k d : Nat) (m : Bool) (base : Word) : Exec Unit := do
  let s ← getState
  let c := s.me.csr
  let nib := memNibbles k c
  let step := c.rows * c.grp
  elementsFrom (fun e => do
    let s ← getState
    let j := e / c.len
    let i := e % c.len
    if s.me.active m e then do
      let rs ← atomically (segmentLoad k m c base.toNat nib nf e nf)
      putFields d step c.grp c.sew j i 0 rs
    else if c.ip then putFields d step c.grp c.sew j i 0 (List.replicate nf (0, 0))
    else pure ()) (c.rows * c.len - c.start) c.start
  (range 0 nf).foldl (fun (t : Exec Unit) i => do
    t
    zeroTail (d + i * step) c.grp c.sew) (pure ())
  setVstart 0

/-- VLDSEG (R208). `f` holds F − 1. -/
def vldsegBody (f k : BitVec 3) (d a : BitVec 7) (m : BitVec 1) : Exec Unit := do
  let nf := f.toNat + 1
  checkSegment nf d a k.toNat
  let s ← getState
  let c := s.me.csr
  let base ← vecScalar a.toNat
  unlessBeyond (c.rows * c.len) d.toNat s.me.savedNow.isNone (runSegments nf k.toNat d.toNat (m == 1) base)

/-- An element of row 0 of VLDBC: what it reads is kept for the rows above (R208). [DEDUCED, log 42] -/
def broadcastStep (one : Nat → Exec (Nat × Nat)) (d : Nat) (m : Bool) (e : Nat) : Exec Unit :=
  loadStep (fun e => do
    let r ← one e
    modSaved (fun x => { x with bcast := x.bcast ++ [(e, r.1)] })
    pure r) d m e

/-- An element of a row above row 0 of VLDBC (R208). -/
def broadcastElem (h : Hart) (m : Bool) (start : Nat) (vals : List (Nat × Nat)) (j i : Nat) : Elem :=
  if h.csr.len ≤ i then .inactive
  else if j * h.csr.len + i < start then .kept
  else
    match lookup vals i with
    | some v => if h.active m (j * h.csr.len + i) then .value v 0 else .inactive
    | none => .inactive

/-- VLDBC's transfer (R208). -/
def runBroadcast (k : Nat) (d : BitVec 7) (m : BitVec 1) (base : Word) : Exec Unit := do
  let s ← getState
  let c := s.me.csr
  let start := c.start
  let nib := memNibbles k c
  if 112 ≤ d.toNat then pushStaged d.toNat else pure ()
  catchUp d.toNat c.grp 1 c.len start 1
  elementsFrom (broadcastStep (fun e => loadField false (m == 1) k c (fieldAt base.toNat nib e)) d.toNat (m == 1))
    (c.len - start) start
  let s ← getState
  let h := s.me
  let vals := h.savedOr.bcast
  if d.toNat < 112 then do
    if c.len = 0 then pure ()
    else
      let old := (range 0 (c.rows * c.grp)).map (fun k => h.readV (d.toNat + k))
      let res := (range 1 (c.rows - 1)).map (resultRow h false c.grp c.sew old (broadcastElem h (m == 1) start vals))
      modMe (writeTile (d.toNat + c.grp) (res.flatMap (·.1)))
    zeroTail d.toNat c.grp c.sew
  else do
    let k := max 1 h.savedOr.rows
    pushRows d.toNat c.len k ((range k (c.rows - k)).map (resultRow h true c.grp c.sew [] (broadcastElem h (m == 1) start vals)))
  setVstart 0

/-- VLDBC (R208). -/
def vldbcBody (k : Nat) (d a : BitVec 7) (m : BitVec 1) : Exec Unit := do
  let s ← getState
  let c := s.me.csr
  coreOnly
  checkSrc a.toNat
  checkTileDst d.toNat c.grp
  checkKind k
  let base ← vecScalar a.toNat
  unlessBeyond (c.rows * c.len) d.toNat s.me.savedNow.isNone
    (atElement c.len (fun e => (fieldAt base.toNat (memNibbles k c) e).addr) (runBroadcast k d m base))

/-! ## Stores (R206, R210) -/

/-- VST, VSTS, VSTROW, VSTX and their shared forms (R210, R211). The pops are made in the order A, B, D (R16). They name no scale register, and BLK does
not limit them (R60). [DEDUCED, log 40] -/
def storeBody (shared : Bool) (f : Form) (k : Nat) (d a b : BitVec 7) (m : BitVec 1) : Exec Unit := do
  let s ← getState
  let c := s.me.csr
  coreOnly
  checkSrc a.toNat
  checkSecond f b.toNat
  checkTileSrc d.toNat c.grp
  checkKind k
  let base ← vecScalar a.toNat
  let x ← readSecond f b.toNat
  let nib := memNibbles k c
  let place := fun e => placeOf f base.toNat nib c.len (x e) e
  let data ← atElement (c.rows * c.len) (fun e => (place e).addr) (readTile d.toNat c.grp)
  elementsFrom (fun e => do
    let s ← getState
    if s.me.active (m == 1) e then do
      let fl ← atomically (storeField shared k c (place e)
        (elemLin data c.grp c.sew c.len e))
      raiseSaved fl
    else pure ()) (c.rows * c.len - c.start) c.start
  setVstart 0

/-- One record of a segment store (R210). -/
def segmentStore (k : Nat) (c : Csr) (base nib nf e : Nat) : List Nat → Nat → Exec Nat
  | [], _ => pure 0
  | v :: rest, f => do
    let fl ← storeField false k c (fieldAt base nib (e * nf + f)) v
    let r ← segmentStore k c base nib nf e rest (f + 1)
    pure (fl ||| r)

/-- VSTSEG (R210). `f` holds F − 1. -/
def vstsegBody (f k : BitVec 3) (d a : BitVec 7) (m : BitVec 1) : Exec Unit := do
  let nf := f.toNat + 1
  checkSegment nf d a k.toNat
  let s ← getState
  let c := s.me.csr
  let base ← vecScalar a.toNat
  let nib := memNibbles k.toNat c
  let step := c.rows * c.grp
  let data := (range 0 nf).map (fun i => (range 0 step).map (fun r => s.me.issued.readV (d.toNat + i * step + r)))
  elementsFrom (fun e => do
    let s ← getState
    if s.me.active (m == 1) e then do
      let fl ← atomically (segmentStore k.toNat c base.toNat nib nf e
        (data.map (fun t => elemLin t c.grp c.sew c.len e)) 0)
      raiseSaved fl
    else pure ()) (c.rows * c.len - c.start) c.start
  setVstart 0

/-! ## Scatter-add (R212, R213) -/

/-- How a scatter-add's element adds, as a peer is told: the format, the rounding mode and the draw. -/
def scatterRule (c : Csr) (mode r : Nat) : Nat :=
  let f := if c.sew = 64 then 11 else if c.sew = 32 then 10 else if c.sew = 16 then (if c.fk = 1 then 9 else 8)
    else if c.fk = 1 then 12 else if c.fk = 2 then 13 else 14
  mode + 8 * f + 128 * c.nfmt.toNat + 2 ^ 32 * r

/-- The format that a rule of `scatterRule` names. -/
def ruleFmt (e : Nat) : Fmt :=
  match e / 8 % 16 with
  | 8 => fp16
  | 9 => bf16
  | 10 => fp32
  | 11 => fp64
  | 12 => e4m3
  | 13 => e5m2
  | _ => narrowFmt (e / 128 % 2 ^ 18)

/-- What a scatter-add writes over m (R212). -/
def scatterNew (e m x : Nat) : Option Nat × Nat :=
  let r := fAdd (ruleFmt e) (e % 8) (e / 2 ^ 32) m x
  (some r.1, r.2)

/-- One element of a scatter-add: a relaxed atomic at an aligned address (R212, R213). -/
def scatterOne (shared : Bool) (sz : Nat) (p : Place1) (rule x : Nat) : Exec Nat := do
  requireAligned p.addr sz
  let r ← atomicMem shared true p.addr sz 12 x rule (fun m => scatterNew rule m x)
  pure r.2

/-- The checks that an element of a scatter-add must pass, and whether it may be taken out of order: not one of DEV memory, and not one
that leaves the device (R213). -/
def scatterProbe (shared : Bool) (sz : Nat) (p : Place1) : Exec Bool := do
  requireAligned p.addr sz
  if shared then do
    sharedBounds p.addr sz
    scoreboard true true false p.addr sz
    pure true
  else do
    let xs ← resolve true .atomic p.addr sz
    comparators .atomic p.addr sz
    scoreboard true false false p.addr sz
    checkErrors (((range p.addr sz).map (fun b => b % 2 ^ 64)).zip xs)
    pure (xs.all (fun x => !x.dev && regionOf x.pa == .device))

/-- The elements, ascending, up to the first that would stop; with the stop, and whether all of them may be taken in any order. -/
def scatterReady (probe : Nat → Exec Bool) (s : State) : List Nat → List Nat × Bool × Option (Nat × Stop)
  | [] => ([], true, none)
  | e :: r =>
    match probe e s with
    | .error st _ => ([], true, some (e, st))
    | .ok free _ =>
      let q := scatterReady probe s r
      (e :: q.1, free && q.2.1, q.2.2)

/-- A list in an order that the hardware chooses (R213). -/
def chosenOrder : Nat → Nat → List Nat → List Nat
  | 0, _, l => l
  | n + 1, k, l =>
    match l with
    | [] => []
    | x :: _ =>
      let i := Config.choice k % l.length
      l.getD i x :: chosenOrder n (k + 1) (dropNth l i)

/-- Elements of a scatter-add performed in the order given, with their flags. -/
def scatterAll (one : Nat → Exec Nat) : List Nat → Exec Unit
  | [] => pure ()
  | e :: r => do
    let fl ← atomically (one e)
    raiseSaved fl
    scatterAll one r

/-- VSTXADD, VSTXADDO and their shared forms (R212, R213). The unordered forms take the elements below the first that stops in any
order; those of DEV memory, and those that leave the device, in ascending order. They name no scale register, and BLK does not limit
them (R60). [DEDUCED, log 40] [DEDUCED, log 43] -/
def scatterBody (shared ordered : Bool) (d a b : BitVec 7) (m : BitVec 1) : Exec Unit := do
  let s ← getState
  let c := s.me.csr
  coreOnly
  checkSrc a.toNat
  checkTileSrc b.toNat c.grp
  checkTileSrc d.toNat c.grp
  checkFmt
  if ordered then pure () else do
    drainedFirst (do
      let _ ← vecScalar a.toNat
      let _ ← readIndices b.toNat c.grp
      readTile d.toNat c.grp)
    checkDet
  let base ← vecScalar a.toNat
  let idx ← readIndices b.toNat c.grp
  let sz := c.sew / 8
  let place (e : Nat) : Place1 := placeOf .indexed base.toNat (2 * sz) c.len ((elemLin idx c.grp c.sew c.len e : Nat) : Int) e
  let data ← atElement (c.rows * c.len) (fun e => (place e).addr) (readTile d.toNat c.grp)
  let s ← getState
  let one (e : Nat) : Exec Nat :=
    scatterOne shared sz (place e) (scatterRule c (s.rounding e).1 (s.rounding e).2) (elemLin data c.grp c.sew c.len e)
  let act := (range c.start (c.rows * c.len - c.start)).filter (s.me.active (m == 1))
  modState (fun s => s.endStrip.spoilStrip)
  let s ← getState
  let ready := scatterReady (fun e => scatterProbe shared sz (place e)) s act
  if ordered = true ∨ ready.2.1 = false then
    elementsFrom (fun e => do
      if s.me.active (m == 1) e then do
        let fl ← atomically (one e)
        raiseSaved fl
      else pure ()) (c.rows * c.len - c.start) c.start
  else do
    let k ← nextFree
    modState (fun s => { s with free := s.free + ready.1.length })
    scatterAll one (chosenOrder ready.1.length k ready.1)
    match ready.2.2 with
    | none => pure ()
    | some (e, st) => do
      setVstart e
      stopWith st
  setVstart 0

/-- VLD (R208). -/
def execVld (d : BitVec 7) (a : BitVec 7) (k : BitVec 3) (m : BitVec 1) (s : State) : Host.Outcome State Fault Refusal :=
  runVector (loadBody false .unit k.toNat d a 0 m) s

/-- VLDS (R208). -/
def execVlds (d : BitVec 7) (a : BitVec 7) (b : BitVec 7) (m : BitVec 1) (s : State) : Host.Outcome State Fault Refusal :=
  runVector (loadBody false .strided 0 d a b m) s

/-- VLDFF (R209). -/
def execVldff (d : BitVec 7) (a : BitVec 7) (k : BitVec 3) (m : BitVec 1) (s : State) : Host.Outcome State Fault Refusal :=
  runVector (vldffBody k.toNat d a m) s

/-- VLDSEG, F − 1 in `f` (R208). -/
def execVldseg (d : BitVec 7) (a : BitVec 7) (f : BitVec 3) (k : BitVec 3) (m : BitVec 1) (s : State) : Host.Outcome State Fault Refusal :=
  runVector (vldsegBody f k d a m) s

/-- VLDX (R208). -/
def execVldx (d : BitVec 7) (a : BitVec 7) (b : BitVec 7) (m : BitVec 1) (s : State) : Host.Outcome State Fault Refusal :=
  runVector (loadBody false .indexed 0 d a b m) s

/-- VLDROW (R208). -/
def execVldrow (d : BitVec 7) (a : BitVec 7) (b : BitVec 7) (m : BitVec 1) (s : State) : Host.Outcome State Fault Refusal :=
  runVector (loadBody false .row 0 d a b m) s

/-- VLDBC (R208). -/
def execVldbc (d : BitVec 7) (a : BitVec 7) (k : BitVec 3) (m : BitVec 1) (s : State) : Host.Outcome State Fault Refusal :=
  runVector (vldbcBody k.toNat d a m) s

/-- VST (R210). -/
def execVst (d : BitVec 7) (a : BitVec 7) (k : BitVec 3) (m : BitVec 1) (s : State) : Host.Outcome State Fault Refusal :=
  runVector (storeBody false .unit k.toNat d a 0 m) s

/-- VSTS (R210). -/
def execVsts (d : BitVec 7) (a : BitVec 7) (b : BitVec 7) (m : BitVec 1) (s : State) : Host.Outcome State Fault Refusal :=
  runVector (storeBody false .strided 0 d a b m) s

/-- VSTSEG, F − 1 in `f` (R210). -/
def execVstseg (d : BitVec 7) (a : BitVec 7) (f : BitVec 3) (k : BitVec 3) (m : BitVec 1) (s : State) : Host.Outcome State Fault Refusal :=
  runVector (vstsegBody f k d a m) s

/-- VSTX (R210). -/
def execVstx (d : BitVec 7) (a : BitVec 7) (b : BitVec 7) (m : BitVec 1) (s : State) : Host.Outcome State Fault Refusal :=
  runVector (storeBody false .indexed 0 d a b m) s

/-- VSTROW (R210). -/
def execVstrow (d : BitVec 7) (a : BitVec 7) (b : BitVec 7) (m : BitVec 1) (s : State) : Host.Outcome State Fault Refusal :=
  runVector (storeBody false .row 0 d a b m) s

/-- VSTXADDO (R212). -/
def execVstxaddo (d : BitVec 7) (a : BitVec 7) (b : BitVec 7) (m : BitVec 1) (s : State) : Host.Outcome State Fault Refusal :=
  runVector (scatterBody false true d a b m) s

/-- VSTXADD (R212). -/
def execVstxadd (d : BitVec 7) (a : BitVec 7) (b : BitVec 7) (m : BitVec 1) (s : State) : Host.Outcome State Fault Refusal :=
  runVector (scatterBody false false d a b m) s

/-- VLDSH (R211). -/
def execVldsh (d : BitVec 7) (a : BitVec 7) (k : BitVec 3) (m : BitVec 1) (s : State) : Host.Outcome State Fault Refusal :=
  runVector (loadBody true .unit k.toNat d a 0 m) s

/-- VLDSHS (R211). -/
def execVldshs (d : BitVec 7) (a : BitVec 7) (b : BitVec 7) (m : BitVec 1) (s : State) : Host.Outcome State Fault Refusal :=
  runVector (loadBody true .strided 0 d a b m) s

/-- VLDSHROW (R211). -/
def execVldshrow (d : BitVec 7) (a : BitVec 7) (b : BitVec 7) (m : BitVec 1) (s : State) : Host.Outcome State Fault Refusal :=
  runVector (loadBody true .row 0 d a b m) s

/-- VSTSH (R211). -/
def execVstsh (d : BitVec 7) (a : BitVec 7) (k : BitVec 3) (m : BitVec 1) (s : State) : Host.Outcome State Fault Refusal :=
  runVector (storeBody true .unit k.toNat d a 0 m) s

/-- VSTSHS (R211). -/
def execVstshs (d : BitVec 7) (a : BitVec 7) (b : BitVec 7) (m : BitVec 1) (s : State) : Host.Outcome State Fault Refusal :=
  runVector (storeBody true .strided 0 d a b m) s

/-- VSTSHROW (R211). -/
def execVstshrow (d : BitVec 7) (a : BitVec 7) (b : BitVec 7) (m : BitVec 1) (s : State) : Host.Outcome State Fault Refusal :=
  runVector (storeBody true .row 0 d a b m) s

/-- VLDSHX (R211). -/
def execVldshx (d : BitVec 7) (a : BitVec 7) (b : BitVec 7) (m : BitVec 1) (s : State) : Host.Outcome State Fault Refusal :=
  runVector (loadBody true .indexed 0 d a b m) s

/-- VSTSHX (R211). -/
def execVstshx (d : BitVec 7) (a : BitVec 7) (b : BitVec 7) (m : BitVec 1) (s : State) : Host.Outcome State Fault Refusal :=
  runVector (storeBody true .indexed 0 d a b m) s

/-- VSTSHXADDO (R212). -/
def execVstshxaddo (d : BitVec 7) (a : BitVec 7) (b : BitVec 7) (m : BitVec 1) (s : State) : Host.Outcome State Fault Refusal :=
  runVector (scatterBody true true d a b m) s

/-- VSTSHXADD (R212). -/
def execVstshxadd (d : BitVec 7) (a : BitVec 7) (b : BitVec 7) (m : BitVec 1) (s : State) : Host.Outcome State Fault Refusal :=
  runVector (scatterBody true false d a b m) s

end Sys2Proof.Machine
end

