-- ==== Sys2Proof/Machine/Copy.lean ====
section
/-! DEFINITION. Copies: CPY, the chunks that the cluster's engine writes, and COPY-ERROR (R91–R96, R238–R245). -/

namespace Sys2Proof.Machine

/-! ## Descriptors (R238–R241) -/

/-- The copy that four descriptor words ask for (R238–R240). -/
def copyOf (id nfmt core : Nat) (w0 w1 w2 w3 : Word) : Copy :=
  let seg := w2.getLsbD 39
  let baddr := field w3 0 43 * 16
  let global := w3.getLsbD 44
  { id := id
    toShared := !w2.getLsbD 32
    src := w0.toNat
    dst := w1.toNat
    count := field w2 0 23
    clog := field w2 33 5
    seg := if seg then
        some { fields := field w2 40 3 + 1, kind := field w2 43 3, df := field w2 46 4, rstr := field w2 50 14, nfmt := nfmt }
      else none
    bar := if w3.getLsbD 43 then some (global, if global then (sextN 47 baddr).toNat else baddr) else none
    mask := if w3.getLsbD 45 then some (field w3 46 4, field w3 50 14) else none
    word0 := w0
    core := core }

/-- A field kind pairs with a destination format by class (R241). -/
def segmentPairs (kind df : Nat) : Bool :=
  kind == 0 || (decide (kind ≤ 4) && decide (df ≤ 7)) || (decide (5 ≤ kind) && decide (8 ≤ df))

/-- The descriptor is legal (R241), apart from its ranges. -/
def copyLegal (c : Copy) (w2 : Word) : Bool :=
  decide (field w2 38 1 = 0 ∧ field w2 23 9 = 0 ∧ 8 ≤ c.clog ∧ c.clog ≤ 16 ∧ c.count ≤ 0x400000) &&
  (match c.seg with
   | none => decide (field w2 40 24 = 0)
   | some g => c.toShared && decide (2 ≤ g.fields ∧ g.df ≤ 14) && ((g.df != 14 && g.kind != 7) || narrowLegal g.nfmt) &&
       segmentPairs g.kind g.df && decide (c.regionLen ≤ 256 * g.rstr)) &&
  (match c.bar with
   | some (true, a) => canonical a
   | _ => true)

/-- The lowest byte of a range that lies at or above a limit (R241). -/
def beyond (limit a n : Nat) : Option Nat :=
  if n = 0 ∨ a + n ≤ limit then none else some (max a limit)

/-- The lowest failing byte of a range in the shared space (R86). -/
def sharedBeyond (rs : List (Nat × Nat)) : Option Nat :=
  (rs.filterMap (fun r => beyond 0x400000 r.1 r.2)).foldl (fun a b => some (match a with
    | some x => min x b
    | none => b)) none

/-- The lowest failing byte of a range that the vector port reaches (R303). -/
def globalBeyond (c : Context) (a n : Nat) : Option Nat := beyond (c.vcount * 2 ^ 25) a n

/-- The first range of a copy that fails its bounds, in the order source, destination, barrier object: the address (R241). [DEDUCED, log 52] -/
def copyBounds (x : Context) (c : Copy) : Option Nat :=
  let src := if c.toShared then globalBeyond x c.src c.srcLen else sharedBeyond [(c.src, c.srcLen)]
  let dst := if c.toShared then sharedBeyond c.regions else globalBeyond x c.dst c.count
  let bar := match c.bar with
    | some (false, a) => if 0x3FFFF0 < a then some a else none
    | some (true, a) => if canonical a then none else some a
    | none => none
  (src.orElse (fun _ => dst)).orElse (fun _ => bar)

/-! ## Acceptance (R238, R242, R243) -/

/-- Copies are issued by the A-side or in single mode, on a core (R13, R151). -/
def copySide : Exec Unit := do
  let s ← getState
  if s.tan.firmware.isSome || (!s.onA && !s.tan.single) then illegalInstr else pure ()

/-- A copy is accepted into a range-scoreboard slot; one without bytes retires at once (R91, R93, R241). -/
def acceptCopy (c : Copy) (h : Hart) : Hart :=
  { h with copies := if c.count = 0 then h.copies else h.copies ++ [c], nextCopy := h.nextCopy + 1 }

/-- What precedes a copy's acceptance: the held stores are performed and the strip can no longer be run again (R183, R238). -/
def beforeCopy : Exec Unit := modState (fun s => s.endStrip.spoilStrip)

/-- CPY and CPYSEG: the descriptor stands in four window names (R242). -/
def cpyBody (seg : Bool) (a : BitVec 7) : Exec Unit := do
  copySide
  let n := a.toNat
  require (decide (1 ≤ n ∧ n ≤ 108))
  let s ← getState
  let w := fun k => s.me.readS (n + k)
  let c := copyOf s.me.nextCopy s.me.csr.nfmt.toNat s.tan.core (w 0) (w 1) (w 2) (w 3)
  require (c.seg.isSome == seg && copyLegal c (w 2))
  match copyBounds s.myCtx c with
  | some b => spaceBound (addrWord b)
  | none => pure ()
  if 64 ≤ s.me.copies.length then stopWith (.wait 8 0x41) else pure ()
  beforeCopy
  modMe (acceptCopy c)

/-- CPY sA (R242). -/
def execCpy (a : BitVec 7) (s : State) : Host.Outcome State Fault Refusal := runScalar (cpyBody false a) s

/-- CPYSEG sA (R242). -/
def execCpyseg (a : BitVec 7) (s : State) : Host.Outcome State Fault Refusal := runScalar (cpyBody true a) s

/-- One descriptor of a batch: what the batch leaves of the hart, the bits, and whether a descriptor has found no free slot (R243). -/
def batchOne (x : Context) (core : Nat) (tile : List VReg) (r : Hart × List (Nat × Bool) × Bool) (d : Nat) :
    Hart × List (Nat × Bool) × Bool :=
  let (h, bs, full) := r
  let e := 4 * d
  let w (k : Nat) : Word := BitVec.ofNat 64 (elemLin tile h.csr.grp 64 h.csr.len (e + k))
  let c := copyOf h.nextCopy h.csr.nfmt.toNat core (w 0) (w 1) (w 2) (w 3)
  let good := predBit (h.readP 0) h.csr.len e && !full && copyLegal c (w 2) && (copyBounds x c).isNone
  let full' := full || (good && decide (64 ≤ h.copies.length))
  let ok := good && !full'
  (if ok then acceptCopy c h else h, bs ++ [(e, ok)], full')

/-- Bits of a predicate replaced by linear element (R12, R243). -/
def setPredBits (p : PReg) (vl : Nat) (bs : List (Nat × Bool)) : PReg :=
  bs.foldl (fun p b => setField p (b.1 / vl * 1024 + b.1 % vl) 1 (if b.2 then 1 else 0)) p

/-- CPYB pD, vA (R243). -/
def cpybBody (p : BitVec 4) (a : BitVec 7) : Exec Unit := do
  copySide
  let s ← getState
  let c := s.me.csr
  checkTileSrc a.toNat c.grp
  require (decide (c.sew = 64 ∧ c.len % 4 = 0 ∧ c.start = 0))
  let x ← readTile a.toNat c.grp
  beforeCopy
  modState (fun s =>
    let r := (range 0 (c.rows * c.len / 4)).foldl (batchOne s.myCtx s.tan.core x) (s.me, [], false)
    { s with me := r.1.writeP p.toNat (setPredBits (r.1.readP p.toNat) c.len r.2.1) })

/-- CPYB pD, vA (R243). -/
def execCpyb (p : BitVec 4) (a : BitVec 7) (s : State) : Host.Outcome State Fault Refusal := runKeep (cpybBody p a) s

/-- CPYW #n: waits until every copy but the n most recently accepted has retired (R244). [DEDUCED, log 37] -/
def cpywBody (n : BitVec 7) : Exec Unit := do
  copySide
  let s ← getState
  if s.me.copies.any (fun c => decide (c.id + n.toNat < s.me.nextCopy)) then stopWith (.wait 10 0x41) else pure ()

/-- CPYW #n (R244). -/
def execCpyw (n : BitVec 7) (s : State) : Host.Outcome State Fault Refusal := runScalar (cpywBody n) s

/-- CPYQ sD (R244). -/
def cpyqBody (d : BitVec 7) : Exec Unit := do
  copySide
  checkDst d.toNat
  let s ← getState
  writeS d.toNat (BitVec.ofNat 64 (s.me.copies.length + (if s.me.copyErrors.isEmpty then 0 else 128)))

/-- CPYQ sD (R244). -/
def execCpyq (d : BitVec 7) (s : State) : Host.Outcome State Fault Refusal := runScalar (cpyqBody d) s

/-! ## The bytes of a chunk (R91, R92, R239) -/

/-- A source field converted to the destination format: the code and the flags (R92). [DEDUCED, log 19] -/
def segmentConvert (g : Segment) (x : Nat) : Nat × Nat :=
  if g.kind = 0 then (x, 0)
  else if g.kind ≤ 4 then
    let sw := 4 * g.sn
    let dw := 4 * g.dn
    let v : Int := if g.kind ≤ 2 then toSigned sw x else ((x % 2 ^ sw : Nat) : Int)
    if sw < dw then (ofSigned dw v, 0) else saturate (decide (g.df < 4)) dw v
  else fieldConvert (kindFmt g.kind g.nfmt) (codeFmt g.df g.nfmt) x

/-- The source bytes of field `f` of record `r`, and which nibble it is. -/
def Copy.fieldPlace (c : Copy) (g : Segment) (f r : Nat) : Place1 := fieldAt c.src g.sn (r * g.fields + f)

/-- The records whose elements destination byte `b` holds, with its field (R239). -/
def Copy.recordsOf (c : Copy) (g : Segment) (b : Nat) : Nat × List Nat :=
  let f := b / c.regionLen
  let o := b % c.regionLen
  (f, if g.dn = 1 then [2 * o, 2 * o + 1].filter (fun r => decide (r < c.count)) else [o / (g.dn / 2)])

/-- The source addresses that destination byte `b` depends on. -/
def Copy.sourcesOf (c : Copy) (b : Nat) : List Nat :=
  match c.seg with
  | none => [(c.src + b) % 2 ^ 64]
  | some g =>
    let (f, rs) := c.recordsOf g b
    rs.flatMap (fun r => let p := c.fieldPlace g f r; (range p.addr p.len).map (fun a => a % 2 ^ 64))

/-- Destination byte `b`: its value, the bits it writes, and the flags of its elements (R58, R92). -/
def Copy.byteValue (c : Copy) (rd : Nat → Byte) (b : Nat) : Byte × Byte × Nat :=
  match c.seg with
  | none => (rd ((c.src + b) % 2 ^ 64), 0xFF, 0)
  | some g =>
    let (f, rs) := c.recordsOf g b
    let elem (r : Nat) : Nat × Nat :=
      let p := c.fieldPlace g f r
      let raw := ofBytes ((range p.addr p.len).map (fun a => rd (a % 2 ^ 64)))
      segmentConvert g (match p.nib with
        | some h => raw / 16 ^ h % 16
        | none => raw)
    if g.dn = 1 then
      let es := rs.map elem
      let v := ((es.map (·.1)).zip (range 0 2)).foldl (fun a e => a + e.1 % 16 * 16 ^ e.2) 0
      (BitVec.ofNat 8 v, if es.length = 2 then 0xFF else 0x0F, es.foldl (fun a e => a ||| e.2) 0)
    else
      let e := elem (rs.headD 0)
      (BitVec.ofNat 8 (e.1 / 256 ^ (b % c.regionLen % (g.dn / 2))), 0xFF, e.2)

/-! ## What keeps a chunk from being written (R245) -/

/-- Why a chunk cannot be written now. -/
inductive ChunkStop where
  /-- A page fault goes to the pager. -/
  | pager (addr reason : Nat) (kind : AccessKind)
  /-- The chunk fails, with the address. -/
  | hard (addr : Nat)
  /-- A page under migration, or a station that is not ready, is waited for (R315, R390). -/
  | later
  /-- The translation root failed (R270). -/
  | root
deriving DecidableEq, Repr

/-- What a translation error of a copy's access means (R245). [DEDUCED, log 54] -/
def chunkError (kind : AccessKind) (a : Nat) : XlatErr → ChunkStop
  | .page 6 => .hard a
  | .page r => .pager a r kind
  | .spaceBound => .hard a
  | .migrate | .notReady => .later
  | .root => .root

/-- The addresses of a chunk on its global side, translated (R303). -/
def copyXlats (s : State) (d : Nat) (vport : Bool) (kind : AccessKind) (as : List Nat) : List (Nat × Except XlatErr Xlat) :=
  as.map (fun a => (a, translate s s.myCtx d vport false kind a))

/-- The stops that translations give, with uncorrectable errors where the copy reads and host memory behind a port that is not ready (R245, R360, R370,
R390). -/
def copyStops (s : State) (kind : AccessKind) (xs : List (Nat × Except XlatErr Xlat)) : List ChunkStop :=
  xs.filterMap (fun e =>
    match e.2 with
    | .error x => some (chunkError kind e.1 x)
    | .ok x =>
      if x.discarded then none
      else if s.stationReady x = false then some .later
      else if kind = .copyRead ∧ (lookup s.mem.bad x.pa).isSome = true then some (.hard e.1)
      else if regionOf x.pa = .host ∧ s.hostReady = false then some (.hard e.1) else none)

/-- The stop that decides: a failing root, then the hard error at the lowest address, then the lowest page fault. -/
def worstStop (l : List ChunkStop) : Option ChunkStop :=
  if l.contains .root then some .root
  else
    let hards := l.filterMap (fun e => match e with | .hard a => some a | _ => none)
    match leastBy (fun a b => decide (a < b)) hards with
    | some a => some (.hard a)
    | none =>
      match leastBy (fun (a b : Nat × Nat × AccessKind) => decide (a.1 < b.1))
          (l.filterMap (fun e => match e with | .pager a r k => some (a, r, k) | _ => none)) with
      | some (a, r, k) => some (.pager a r k)
      | none => l.head?

/-! ## Requests of a copy to a peer (R367) -/

/-- The number under which a chunk's requests stand in the table of requests (the model's own). -/
def copyKey (h c k : Nat) : Nat := h + 2 ^ 40 * (c * 2 ^ 24 + k + 1)

/-- A chunk's request to a peer that has been sent. -/
def sentRequest (s : State) (key pa : Nat) (op : PeerOp) : Option Request :=
  s.links.requests.find? (fun r => r.hart == key && r.pa == pa && (match r.op, op with
    | .read n, .read m => n == m
    | .write _, .write _ => true
    | .atomic _ _ _ _, .atomic _ _ _ _ => true
    | _, _ => false))

/-- A write of a copy that the recovery record does not take is not issued: a record under migration is waited for, and one that cannot be
reached makes the context FAULTED (R270, R273, R315). -/
def recordStops (s : State) (e : XlatErr) : State := if e.later then s else faultContextAll s s.tan.ctx

/-- The recovery record with a request to a peer entered, where the request writes (R273). -/
def enterRequest (s : State) (q : Nat × Nat × PeerOp) (port : Nat) : Except XlatErr State :=
  match q.2.2 with
  | .read _ => .ok s
  | .write bs => enterRecord s s.myCtx s.tan.die q.1 bs.length 1 port
  | .atomic _ m _ _ => enterRecord s s.myCtx s.tan.die q.1 m 1 port

/-- The requests of a chunk that have not been sent are sent; a write to a peer is recorded first (R273). One for which there is no usable port is a
link error (R366, R370). -/
def sendChunk (s : State) (key : Nat) (reqs : List (Nat × Nat × PeerOp)) : State :=
  reqs.foldl (fun s q =>
    if (sentRequest s key q.2.1 q.2.2).isSome then s
    else
      match regionOf q.2.1 with
      | .peer n =>
        (match routePort s.links n q.2.1 with
         | none => (sendRequest s key q.1 q.2.1 q.2.2 none false).1
         | some port =>
           match enterRequest s q port with
           | .ok s' => (sendRequest s' key q.1 q.2.1 q.2.2 (some port) false).1
           | .error e => recordStops s e)
      | _ => s) s

/-- The replies to a chunk's requests, once all have come. -/
def chunkReplies (s : State) (key : Nat) (reqs : List (Nat × Nat × PeerOp)) : Option (List (Nat × Nat × List Byte)) :=
  reqs.foldr (fun q r =>
    match r, (sentRequest s key q.2.1 q.2.2).bind (·.reply) with
    | some l, some bs => some ((q.1, q.2.1, bs) :: l)
    | _, _ => none) (some [])

/-- The bytes that replies to a chunk's reads have brought so far. -/
def chunkArrived (s : State) (key : Nat) : List (Nat × Byte) :=
  (s.links.requests.filter (fun r => r.hart == key && (match r.op with | .read _ => true | _ => false))).flatMap (fun r =>
    match r.reply with
    | some bs => (range r.va bs.length).zip bs
    | none => [])

/-- The runs of translated bytes that lie in a peer, as requests. -/
def peerRuns (xs : List (Nat × Xlat)) (op : List (Nat × Xlat) → PeerOp) : List (Nat × Nat × PeerOp) :=
  (runsOf xs).filterMap (fun r =>
    match r with
    | [] => none
    | e :: _ =>
      match regionOf e.2.pa with
      | .peer _ => if e.2.discarded then none else some (e.1, e.2.pa, op r)
      | _ => none)

/-! ## Performing a chunk -/

/-- The translations that succeeded. -/
def okXlats (xs : List (Nat × Except XlatErr Xlat)) : List (Nat × Xlat) :=
  xs.filterMap (fun e => match e.2 with | .ok x => some (e.1, x) | .error _ => none)

/-- One source byte of a copy: from scratch, or where its translation says; `replies` are the bytes read from peers. A byte of DEV memory that
the copy has read is not read again (R102). -/
def copyByte (s : State) (c : Copy) (xs : List (Nat × Xlat)) (replies : List (Nat × Byte)) (a : Nat) : Byte :=
  if c.toShared then
    match lookup c.kept a, lookup xs a with
    | some b, _ => b
    | none, none => 0
    | none, some x =>
      if x.discarded then 0
      else
        match regionOf x.pa with
        | .device => s.mem.viewByte (coreDie c.core) x.pa
        | .host => readCell s.mem.cells x.pa
        | .peer _ => (lookup replies a).getD 0
        | _ => 0
  else s.mem.scratchByte s.free (coreCluster c.core) a

/-- The ranges that ascending addresses make: where each begins, and its length. -/
def rangesOf : List Nat → List (Nat × Nat)
  | [] => []
  | a :: r =>
    match rangesOf r with
    | [] => [(a, 1)]
    | (b, n) :: q => if a + 1 = b then (a, n + 1) :: q else (a, 1) :: (b, n) :: q

/-- Ranges of host memory entered in the recovery record, in order (R273). -/
def enterRanges : List (Nat × Nat) → State → Except XlatErr State
  | [], s => .ok s
  | h :: r, s =>
    match enterRecord s s.myCtx s.tan.die h.1 h.2 0 0 with
    | .ok s' => enterRanges r s'
    | .error e => .error e

/-- Destination bytes written: to scratch, to device memory as one write, to host memory, every range there entered in the record first (R119,
R123, R273). Bytes for a peer go as requests. The error says why the record took none of it. -/
def putChunk (s : State) (c : Copy) (xs : List (Nat × Xlat)) (bs : List (Nat × Byte × Byte)) : Except XlatErr State :=
  if c.toShared then
    .ok (bs.foldl (fun s b => { s with mem := s.mem.writeScratch s.free (coreCluster c.core) b.1 b.2.1 b.2.2 }) s)
  else
    let placed := bs.filterMap (fun b => (lookup xs b.1).map (fun x => (b.1, x.pa, b.2)))
    let dev := placed.filter (fun b => regionOf b.2.1 = .device)
    let host := placed.filter (fun b => regionOf b.2.1 = .host)
    match enterRanges (rangesOf (host.map (·.1))) s with
    | .error e => .error e
    | .ok s =>
      let s := if dev.isEmpty then s else { s with mem := s.mem.store (coreDie c.core) (dev.map (·.2)) }
      .ok (if host.isEmpty then s else { s with mem := { s.mem with cells := writeCells s.mem.cells (host.map (·.2)) } })

/-- A change of the copy of the hart in focus. -/
def State.modCopy (s : State) (id : Nat) (f : Copy → Copy) : State :=
  { s with me := { s.me with copies := s.me.copies.map (fun c => if c.id = id then f c else c) } }

/-- The copy fails at an address; the lowest one is kept (R245). -/
def Copy.fail (c : Copy) (a : Nat) : Copy := { c with failed := true, failAddr := if c.failed then min c.failAddr a else a }

/-- The arrival of `u` units at a copy's barrier object; a peer's reply is its old value. An arrival at an invalid or DEV object fails
the copy (R96, R245, R248, R299). The error says why the recovery record did not take an arrival at host memory (R273). -/
def copyArrive (s : State) (c : Copy) (u : Nat) (reply : Option Nat) : Except XlatErr State :=
  let bad (a : Nat) : Except XlatErr State := .ok (s.modCopy c.id (fun c => c.fail a))
  match c.bar with
  | none => .ok s
  | some (false, a) =>
    let unit := coreCluster c.core
    let m := ofBytes ((range a 16).map (s.mem.scratchByte s.free unit))
    if barValid m = false then bad a
    else .ok (((range a 16).zip (toBytes 16 (barCopyNew u m))).foldl
      (fun s e => { s with mem := s.mem.writeScratch s.free unit e.1 e.2 0xFF }) s)
  | some (true, a) =>
    match translate s s.myCtx (coreDie c.core) false false .atomic a with
    | .error _ => bad a
    | .ok x =>
      let s := markXlat s .atomic x
      if x.dev then bad a
      else
        match regionOf x.pa with
        | .device =>
          let r := atomicDevice (coreDie c.core) x.pa 16 (fun m => (if barValid m then some (barCopyNew u m) else none, 0)) s
          if barValid r.2.1 then .ok r.1 else bad a
        | .host =>
          let s := s.hostSeen (range x.pa 16)
          let m := ofBytes ((range x.pa 16).map (readCell s.mem.cells))
          if s.hostReady = false ∨ barValid m = false then bad a
          else
            (enterRecord s s.myCtx s.tan.die a 16 0 0).map (fun s =>
              { s with mem := { s.mem.publish (coreDie c.core) with
                  cells := writeCells (s.mem.publish (coreDie c.core)).cells (((range x.pa 16).zip (toBytes 16 (barCopyNew u m))).map
                    (fun e => (e.1, e.2, (0xFF : Byte)))) } })
        | .peer _ =>
          match reply with
          | some m => if barValid m then .ok s else bad a
          | none => bad a
        | _ => bad a

/-- A registers' image of a parked tandem follows its registers (R45). -/
def syncImage (s : State) : State :=
  match s.tan.place with
  | .parked _ _ => let x := s.focusAway; writeImage s x.t x.e x.a
  | _ => s

/-- A chunk's bytes stand, or it has failed; its flags wait for retirement (R91). -/
def chunkStands (k : Nat) (ok : Bool) (flags : Nat) (c : Copy) (s : State) : State :=
  s.modCopy c.id (fun c => { c with stood := c.stood ++ [(k, ok)], flags := c.flags ||| BitVec.ofNat 64 flags, waiting := none, wrote := 0 })

/-- Bits of predicates of the hart in focus set (R95). -/
def setMaskBits (bs : List (Nat × Nat)) (h : Hart) : Hart :=
  bs.foldl (fun h b => h.writeP b.1 (setField (h.readP b.1) b.2 1 1)) h

/-- A chunk is done: its mask bit is set where it succeeded, between two instructions of its hart, and its requests are gone (R95). -/
def chunkDone (key : Nat) (k : Nat) (ok : Bool) (c : Copy) (s : State) : State :=
  let s := s.modCopy c.id (fun c => { c with done := c.done ++ [k], stood := eraseKey c.stood k })
  let s := { s with links := { s.links with requests := s.links.requests.filter (fun r => r.hart ≠ key) } }
  match c.mask with
  | some (p, b) =>
    if ok = false ∨ 16383 < b + k then s
    else if s.me.savedNow.isSome then { s with me := { s.me with dueBits := s.me.dueBits ++ [(p, b + k)] } }
    else syncImage { s with me := setMaskBits [(p, b + k)] s.me }
  | none => s

/-- A chunk whose bytes stand arrives at its barrier object and is done; an object of a peer is reached by a request, before which what the engine's
die has written stands at every die (R96, R127, R367). -/
def chunkFinish (key k : Nat) (c : Copy) (s : State) : State :=
  let stood := ((s.me.copies.find? (fun x => x.id == c.id)).map (fun x => x.stood)).getD []
  let ok := (lookup stood k).getD false
  let arrival : List (Nat × Nat × PeerOp) := match c.bar with
    | some (true, a) =>
      (okXlats (copyXlats s (coreDie c.core) false .atomic [a])).filterMap (fun e =>
        match regionOf e.2.pa with
        | .peer _ => if e.2.dev then none else some (e.1, e.2.pa, PeerOp.atomic (barPeerOp 5) 16 (c.chunkLen k) 0)
        | _ => none)
    | _ => []
  match chunkReplies s key arrival with
  | none =>
    let sent := arrival.all (fun q => (sentRequest s key q.2.1 q.2.2).isSome)
    sendChunk (if sent then s else { s with mem := s.mem.publish (coreDie c.core) }) key arrival
  | some rs =>
    match copyArrive s c (c.chunkLen k) (rs.head?.map (fun r => ofBytes r.2.2)) with
    | .ok s' => chunkDone key k ok c s'
    | .error e => recordStops s e

/-- A fault record of a copy's chunk; where the buffer is full the copy keeps it (R245, R347). -/
def chunkFault (s : State) (c : Copy) (a reason : Nat) (kind : AccessKind) : State :=
  let d := coreDie c.core
  let r := { faultRecordOf s s.tan d s.sideCode kind reason (addrWord a) with core := c.core }
  let q := postRecord s d r
  q.1.modCopy c.id (fun c => { c with waiting := some (a, reason), heldRecord := if q.2 then none else some r })

/-- Some byte of a copy's global side lies in DEV memory: its chunks are then performed in ascending order (R102). -/
def copyDev (s : State) (c : Copy) : Bool :=
  let (a, n, kind) := if c.toShared then (c.src, c.srcLen, AccessKind.copyRead) else (c.dst, c.count, .copyWrite)
  ((range 0 (n / 4096 + 1)).map (fun i => a + 4096 * i) ++ [a + n - 1]).any (fun b =>
    match translate s s.myCtx (coreDie c.core) true false kind (b % 2 ^ 64) with
    | .ok x => x.dev
    | .error _ => false)

/-- What the host has stored to the bytes of its memory that a copy reads stands in them (R123). -/
def sourceSeen (xs : List (Nat × Xlat)) (s : State) : State :=
  let mine := (xs.filter (fun e => !e.2.discarded && regionOf e.2.pa == .host)).map (·.2.pa)
  if mine.isEmpty then s else s.hostSeen mine

/-- The old or the new value reaches each byte of a failed chunk that has not been written yet; the old one stays where a source byte cannot be reached or no reply has brought
it (R245). -/
def scatterFailed (s : State) (c : Copy) (key : Nat) (bytes : List Nat) (sx dx : List (Nat × Xlat)) : Except XlatErr State :=
  let s := sourceSeen sx s
  let replies := chunkArrived s key
  let known (a : Nat) : Bool := (lookup c.kept a).isSome || match lookup sx a with
    | none => false
    | some x => match regionOf x.pa with
      | .peer _ => x.discarded || (lookup replies a).isSome
      | _ => true
  let reach (b : Nat) : Bool :=
    (!c.toShared || (c.sourcesOf b).all known) && (c.toShared || (lookup dx (c.dstAddr b)).isSome) && Config.newByte (s.free + b)
  let bs := ((bytes.drop c.wrote).filter reach).map (fun b =>
    let v := c.byteValue (copyByte s c sx replies) b
    (c.dstAddr b, v.1, v.2.1))
  (putChunk s c dx bs).map (fun s => { s with free := s.free + c.total })

/-- What a chunk writes: each destination address with the byte's value, the bits it writes and its flags. -/
def chunkValues (s : State) (c : Copy) (bytes : List Nat) (sk : List (Nat × Xlat)) (replies : List (Nat × Byte)) : List (Nat × Byte × Byte × Nat) :=
  bytes.map (fun b => (c.dstAddr b, c.byteValue (copyByte s c sk replies) b))

/-- A run of destination bytes as a write to a peer. -/
def writeOf (vals : List (Nat × Byte × Byte × Nat)) (r : List (Nat × Xlat)) : PeerOp :=
  .write (r.map (fun e => ((lookup vals e.1).map (fun v => (v.1, v.2.1))).getD (0, 0)))

/-- The bytes of a chunk have all been written (R91, R92). -/
def chunkPut (key k : Nat) (c : Copy) (vals : List (Nat × Byte × Byte × Nat)) (s : State) : State :=
  chunkFinish key k c (chunkStands k true (vals.foldl (fun f v => f ||| v.2.2.2) 0) c s)

/-- The source of a chunk read run by run in ascending order, each byte once: what has been read is kept, and a peer is asked for one run at a time
(R102). The answer says whether all of it has been read. -/
def keepInOrder (key : Nat) (c : Copy) : List (List (Nat × Xlat)) → State → State × Bool
  | [], s => (s, true)
  | r :: rest, s =>
    let keep (bs : List (Nat × Byte)) (s : State) : State := s.modCopy c.id (fun c => { c with kept := c.kept ++ bs })
    match peerRuns r (fun r => .read r.length) with
    | q :: _ =>
      (match (sentRequest s key q.2.1 q.2.2).bind (·.reply) with
       | some bs => keepInOrder key c rest (keep ((r.map (·.1)).zip bs) s)
       | none => (sendChunk s key [q], false))
    | [] =>
      let s := sourceSeen r s
      keepInOrder key c rest (keep (r.map (fun e => (e.1, copyByte s c r [] e.1))) s)

/-- The destination of a chunk written run by run in ascending order, each byte once, with one write to a peer at a time (R102). The answer says
whether all of it has been written. -/
def putInOrder (key : Nat) (c : Copy) (vals : List (Nat × Byte × Byte × Nat)) : List (List (Nat × Xlat)) → State → State × Bool
  | [], s => (s, true)
  | r :: rest, s =>
    let past (s : State) : State := s.modCopy c.id (fun c => { c with wrote := c.wrote + r.length })
    match peerRuns r (writeOf vals) with
    | q :: _ =>
      if ((sentRequest s key q.2.1 q.2.2).bind (·.reply)).isSome then putInOrder key c vals rest (past s) else (sendChunk s key [q], false)
    | [] =>
      match putChunk s c r ((vals.filter (fun v => (lookup r v.1).isSome)).map (fun v => (v.1, v.2.1, v.2.2.1))) with
      | .ok s' => putInOrder key c vals rest (past s')
      | .error e => (recordStops s e, false)

/-- Chunk `k` of a copy with DEV memory on its global side: every byte there is read or written once, in ascending order (R102). -/
def chunkOrdered (key k : Nat) (c : Copy) (bytes : List Nat) (sk dk : List (Nat × Xlat)) (s : State) : State :=
  let r := keepInOrder key c (runsOf (sk.filter (fun e => (lookup c.kept e.1).isNone))) s
  if r.2 = false then r.1
  else
    let s := r.1
    let c := (s.me.copies.find? (fun x => x.id == c.id)).getD c
    let vals := chunkValues s c bytes sk []
    if c.toShared then
      match putChunk { s with free := s.free + 1 } c dk (vals.map (fun v => (v.1, v.2.1, v.2.2.1))) with
      | .ok s' => chunkPut key k c vals s'
      | .error e => recordStops s e
    else
      let q := putInOrder key c vals (runsOf (dk.drop c.wrote)) { s with free := s.free + 1 }
      if q.2 then chunkPut key k c vals q.1 else q.1

/-- Chunk `k` of a copy that nothing keeps back: its source is read and its bytes are written; bytes of a peer are asked for, and bytes
for a peer sent, first (R91, R92, R367). -/
def chunkData (key k : Nat) (c : Copy) (bytes : List Nat) (sk dk : List (Nat × Xlat)) (s : State) : State :=
  let ordered := copyDev s c
  let s := sk.foldl (fun s e => markXlat s .copyRead e.2) s
  let s := dk.foldl (fun s e => markXlat s .copyWrite e.2) s
  if ordered then chunkOrdered key k c bytes sk dk s
  else
    let reads := peerRuns sk (fun r => .read r.length)
    match chunkReplies s key reads with
    | none => sendChunk s key reads
    | some rs =>
      let s := sourceSeen sk s
      let vals := chunkValues s c bytes sk (rs.flatMap (fun r => (range r.1 r.2.2.length).zip r.2.2))
      let writes := peerRuns dk (writeOf vals)
      match chunkReplies s key writes with
      | none => sendChunk s key writes
      | some _ =>
        match putChunk { s with free := s.free + 1 } c dk (vals.map (fun v => (v.1, v.2.1, v.2.2.1))) with
        | .ok s' => chunkPut key k c vals s'
        | .error e => recordStops s e

/-- The size, as a power of two, of the page that the scalar tables give an address; 4 KiB where no leaf is reached (R305). -/
def leafShift (m : Mem) (r : Word) (a : Nat) : Nat → Nat → Nat
  | 0, table =>
    let e := ((walkRead m r (table + 8 * bits a 29 21) 8).toOption).getD 0
    if e % 2 = 1 ∧ bits e 2 1 = 2 then 16 else 12
  | level + 1, table =>
    let shift := 30 + 9 * level
    let e := ((walkRead m r (table + 8 * bits a (shift + 8) shift) 8).toOption).getD 0
    if e % 2 = 0 then 12
    else if bits e 2 1 = 3 then 21
    else leafShift m r a level (bits e 51 8 * 256)

/-- The size of the page of an address in a context. -/
def pageShift (s : State) (c : Context) (a : Nat) : Nat := if vectorRegion a then 25 else leafShift s.mem s.ready1 a 3 c.sroot

/-- Two addresses lie in one page. -/
def samePage (s : State) (c : Context) (a b : Nat) : Bool := let k := pageShift s c a; a / 2 ^ k == b / 2 ^ k

/-- A stop of a chunk with a page that the pager could not serve for its copy as the failure that it then is (R245, R313). -/
def servedStop (s : State) (c : Copy) (e : ChunkStop) : ChunkStop :=
  match e with
  | .pager a _ _ => if c.lost.any (samePage s s.myCtx a) then .hard a else e
  | _ => e

/-- Chunk `k` of copy `id` of the hart in focus is written, or fails, or waits (R91, R95, R96, R102, R245). [DEDUCED, log 53] -/
def chunkWritten (id k : Nat) (s : State) : State :=
  match s.me.copies.find? (fun c => c.id == id) with
  | none => s
  | some c =>
    if c.chunks ≤ k ∨ c.done.contains k = true ∨ s.dbg.frozen.contains (coreCluster c.core) = true then s
    else if copyDev s c = true ∧ (range 0 k).any (fun i => !c.done.contains i) = true then s
    else
      let d := coreDie c.core
      let key := copyKey s.hart id k
      -- a request of the chunk that lost its port and found no other (R370)
      let dead := (s.links.requests.filter (fun r => r.hart == key && r.port.isNone && r.reply.isNone)).map (fun r => ChunkStop.hard r.va)
      let bytes := range (k * 2 ^ c.clog) (c.chunkLen k)
      let srcs := match c.seg with
        | none => bytes.flatMap c.sourcesOf
        | some _ => ((bytes.flatMap c.sourcesOf).foldl (fun m a => insertKey m a ()) []).map (·.1)
      let sx := if c.toShared then copyXlats s d true .copyRead srcs else []
      let dx := if c.toShared then [] else copyXlats s d true .copyWrite (bytes.map c.dstAddr)
      let bx := match c.bar with
        | some (true, a) => copyXlats s d false .atomic [a]
        | _ => []
      -- the object's own page comes first; its other failures are met at the arrival
      let barStop := ((copyStops s .atomic bx).map (servedStop s c)).filter (fun e => match e with | .hard _ => false | _ => true)
      match barStop.head?.orElse (fun _ =>
          if (lookup c.stood k).isSome then dead.head?
          else worstStop ((copyStops s .copyRead sx ++ copyStops s .copyWrite dx).map (servedStop s c) ++ dead)) with
      | some .root => faultContextAll s s.tan.ctx
      | some .later => s
      | some (.pager a r kind) => if c.waiting.isSome then s else chunkFault s c a r kind
      | some (.hard a) =>
        if (lookup c.stood k).isSome then
          match copyArrive s c (c.chunkLen k) none with
          | .ok s' => chunkDone key k false c s'
          | .error e => recordStops s e
        else
          match scatterFailed s c key bytes (okXlats sx) (okXlats dx) with
          | .error e => recordStops s e
          | .ok s' =>
            let s := s'.modCopy id (fun c => c.fail a)
            let s := { s with links := { s.links with requests := s.links.requests.filter (fun r => r.hart ≠ key) } }
            chunkFinish key k c (chunkStands k false 0 c s)
      | none =>
        if (lookup c.stood k).isSome then chunkFinish key k c s
        else chunkData key k c bytes (okXlats sx) (okXlats dx) s

/-- COPY_CHUNK_WRITTEN (R95). -/
def execCopyChunkWritten (h c k : Nat) (s : State) : Host.Outcome State Fault Refusal := .next (atHart h (chunkWritten c k) s)

/-! ## Retirement and COPY-ERROR (R91, R245) -/

/-- A copy of the hart in focus retires once all its chunks have been written: its flags merge, and a failed one leaves a COPY-ERROR pending,
or faults the kernel of a side that has exited with FCODE 3 (R91, R245, R288). Where its tandem has come to another die, what it wrote stands in
that die's view from then on (R126, R244). [DEDUCED, log 103] -/
def retireCopy (id : Nat) (s : State) : State :=
  match s.me.copies.find? (fun c => c.id == id) with
  | none => s
  | some c =>
    if (range 0 c.chunks).any (fun k => !c.done.contains k) then s
    else
      let e : CopyError := { addr := addrWord c.failAddr, word0 := c.word0 }
      let h := { (s.me.raise c.flags) with
        copies := s.me.copies.filter (fun x => x.id ≠ id)
        copyErrors := if c.failed then s.me.copyErrors ++ [e] else s.me.copyErrors }
      let s := syncImage { s with me := h, mem := if coreDie c.core = s.tan.die then s.mem else s.mem.pull (coreDie c.core) s.tan.die }
      if c.failed ∧ s.me.exited = true then
        stopKernel s s.tan.ctx s.tan.csn
          { cancelled := false, fcode := 3, ftid := s.tan.tid, faddr := e.addr, finfo := c.word0.toNat % 2 ^ 32 } (fun _ => false)
      else s

/-- COPY_RETIRE (R91). -/
def execCopyRetire (h c : Nat) (s : State) : Host.Outcome State Fault Refusal := .next (atHart h (retireCopy c) s)

/-- The tandem sits in a slot and its cluster runs. -/
def State.running (s : State) : Bool :=
  (match s.tan.place with
   | .resident _ _ => true
   | _ => false) && !s.frozen s.tan

/-- A COPY-ERROR of the hart in focus is due at this instruction boundary (R245). -/
def copyErrorDue (s : State) : Bool :=
  !s.me.copyErrors.isEmpty && s.running && !s.me.exited && !s.me.tis && s.me.saved.isNone

/-- The first pending COPY-ERROR of the hart in focus is taken (R245). The trap stands in no instruction. -/
def takeCopyError (s : State) : State :=
  match s.me.copyErrors with
  | [] => s
  | e :: r =>
    let s : State := { s with me := { s.me with copyErrors := r }, ir := 0 }
    takeTrap 10 0 s.me.pc e.addr e.word0 s

/-- COPY_ERROR_TRAP (R245). -/
def execCopyErrorTrap (h : Nat) (s : State) : Host.Outcome State Fault Refusal :=
  .next (atHart h (fun s => if copyErrorDue s then takeCopyError s else s) s)

end Sys2Proof.Machine
end

