-- ==== Sys2Proof/Machine/Fence.lean ====
section
/-! DEFINITION. Fences (R103, R115, R122, R124, R172). -/

namespace Sys2Proof.Machine

/-- What a fence that orders stores waits for once the held stores are performed: its stores to peer memory performed at their targets, and
for device scope and wider the writes of its die's view applied at every die (R115, R122, R124, R172). One that orders loads only waits for
nothing: every earlier load has returned its value. -/
def fenceDone (store : Bool) (sc : Nat) (s : State) : Bool :=
  !store || (s.me.outstanding.isEmpty && (decide (sc < 4) || s.mem.published s.tan.die))

/-- What a fence of a kind still waits for, as the port of R351: 0 ACQ, 1 REL, 2 AR, 3 SC, 4 IO, 5 ENG (R172). -/
def fenceWaits (kind sc : Nat) (s : State) : Option Nat :=
  if kind = 5 ∧ s.me.copies ≠ [] then some 0x41
  else if fenceDone (kind != 0) sc s then none
  else some 0x40

/-- A fence ends the strip, waits for its accesses, and retires (R115, R172). -/
def fenceBody (kind sc : Nat) : Exec Unit := fun s =>
  let s := s.endStrip
  match fenceWaits kind sc s with
  | none => .ok () s
  | some port => .error (.wait 11 port) s

/-- FENCE.ACQ, its scope in D (R115, R172). -/
def execFenceAcq (sc : BitVec 7) (s : State) : Host.Outcome State Fault Refusal := runKeep (fenceBody 0 sc.toNat) s

/-- FENCE.REL, its scope in D (R115, R172). -/
def execFenceRel (sc : BitVec 7) (s : State) : Host.Outcome State Fault Refusal := runKeep (fenceBody 1 sc.toNat) s

/-- FENCE.AR, its scope in D (R115, R172). -/
def execFenceAr (sc : BitVec 7) (s : State) : Host.Outcome State Fault Refusal := runKeep (fenceBody 2 sc.toNat) s

/-- FENCE.SC, its scope in D (R115, R172). -/
def execFenceSc (sc : BitVec 7) (s : State) : Host.Outcome State Fault Refusal := runKeep (fenceBody 3 sc.toNat) s

/-- FENCE.IO, its scope in D (R115, R172). -/
def execFenceIo (sc : BitVec 7) (s : State) : Host.Outcome State Fault Refusal := runKeep (fenceBody 4 sc.toNat) s

/-- FENCE.ENG, its scope in D (R115, R172). -/
def execFenceEng (sc : BitVec 7) (s : State) : Host.Outcome State Fault Refusal := runKeep (fenceBody 5 sc.toNat) s

end Sys2Proof.Machine
end

