-- ==== Sys2Proof/Machine/Fetch.lean ====
section
/-! DEFINITION. Instruction fetch: the word at an address as the hart in focus fetches it (R308, R360). -/

namespace Sys2Proof.Machine

/-- The word at an address, fetched, with the hart's own held stores in it (R105, R308). Words are aligned to 4 bytes: an address that is not
one of a word is an illegal operand (R3, R87). [DEDUCED, log 56] [DEDUCED, log 69] -/
def fetchAt (a : Nat) : Exec (BitVec 32) := do
  requireAligned a 4
  let xs ← resolve false .fetch a 4
  let vs := (range a 4).map (fun b => b % 2 ^ 64)
  beforeDev xs
  checkErrors (vs.zip xs)
  let bs ← readRuns (runsOf (vs.zip xs)) .fetch
  let s ← getState
  let own := (vs.zip bs).map (fun e => overlayHeld s.me.held false e.1 e.2)
  pure (BitVec.ofNat 32 (ofBytes own))

end Sys2Proof.Machine
end

