-- ==== Sys2Proof/Machine/Matrix.lean ====
section
/-! DEFINITION. Products: descriptors, tiles, the matrix engine and MMA (R66–R72, R217, R220, R225–R231). -/

namespace Sys2Proof.Machine

/-! ## Tensor descriptors (R217) -/

/-- KIND. -/
def tdKind (d : Desc) : Nat := field d 0 4
/-- BLK. -/
def tdBlk (d : Desc) : Nat := field d 4 4
/-- SK. -/
def tdSk (d : Desc) : Nat := field d 8 1
/-- KREG. -/
def tdKreg (d : Desc) : Nat := field d 9 3
/-- TR. -/
def tdTr (d : Desc) : Bool := d.getLsbD 12
/-- SPLIT. -/
def tdSplit (d : Desc) : Nat := field d 13 2
/-- V. -/
def tdValid (d : Desc) : Bool := d.getLsbD 15
/-- NF. -/
def tdNf (d : Desc) : Nat := field d 16 24
/-- DEPTH. -/
def tdDepth (d : Desc) : Nat := field d 40 13
/-- SBASE. -/
def tdSbase (d : Desc) : Nat := field d 64 64

/-- A descriptor with V = 1 that is legal (R217). -/
def tdLegal (d : Desc) : Bool :=
  (tdValid d) && decide ((tdKind d) ≤ 7 ∧ ((tdBlk d) = 0 ∨ (3 ≤ (tdBlk d) ∧ (tdBlk d) ≤ 8 ∧ ((tdKind d) = 3 ∨ (tdKind d) = 4 ∨ (tdKind d) = 7))) ∧
    1 ≤ (tdDepth d) ∧ (tdDepth d) ≤ 4096 ∧ (tdSplit d) ≤ 1 ∧ field d 53 11 = 0 ∧ field d 128 128 = 0) &&
  (if (tdKind d) = 7 then narrowLegal (tdNf d) else (tdNf d) == 0)

/-- The floating format of a KIND; none for the integer ones (R217). -/
def tdFmt (d : Desc) : Option Fmt :=
  match (tdKind d) with
  | 0 => some fp32
  | 1 => some fp16
  | 2 => some bf16
  | 3 => some e4m3
  | 4 => some e5m2
  | 7 => some (narrowFmt (tdNf d))
  | _ => none

/-- A narrow code of W ≤ 4 is one nibble in scratch (R226). -/
def tdNibble (d : Desc) : Bool := (tdKind d) == 7 && decide ((narrowFmt (tdNf d)).width ≤ 4)

/-- The bytes of an element that is not a nibble; a nibble counts 1 (R226). -/
def tdSize (d : Desc) : Nat := if (tdKind d) = 0 then 4 else if (tdKind d) ≤ 2 then 2 else 1

/-- The native step depth of an operand (R227). -/
def tdNative (d : Desc) : Nat := if (tdKind d) = 0 then 1 else if (tdKind d) ≤ 2 then 3 else if (tdNibble d) then 12 else 6

/-- t of R69: the exponent of the smallest unit of the operand's values. -/
def tdUnitExp (d : Desc) : Int :=
  match (tdFmt d) with
  | some f => f.minExp
  | none => 0

/-- The value of an element code (R217). -/
def tdValue (d : Desc) (code : Nat) : Val :=
  match (tdFmt d) with
  | some f => f.decode code
  | none => intVal (if (tdKind d) = 5 then toSigned 8 code else ((code % 2 ^ 8 : Nat) : Int))

/-! ## Tiles (R66, R220) -/

/-- MODE of a configuration word. -/
def cfgMode (c : BitVec 64) : Nat := field c 0 2
/-- M. -/
def cfgM (c : BitVec 64) : Nat := field c 2 7 + 1
/-- N. -/
def cfgN (c : BitVec 64) : Nat := field c 9 7 + 1
/-- TDA. -/
def cfgTda (c : BitVec 64) : Nat := field c 16 4
/-- TDB. -/
def cfgTdb (c : BitVec 64) : Nat := field c 20 4
/-- OF. -/
def cfgOf (c : BitVec 64) : Nat := field c 24 4

/-- A legal configuration word (R220). -/
def cfgLegal (c : BitVec 64) : Bool :=
  decide (cfgMode c ≠ 3 ∧ (cfgMode c = 1 → cfgM c ≤ 64 ∧ cfgN c ≤ 64) ∧ (cfgMode c = 2 → cfgN c ≤ 64 ∧ cfgOf c = 2) ∧
    cfgOf c ≤ 7 ∧ (cfgOf c = 7 → cfgMode c = 1) ∧ field c 28 36 = 0)

/-- A tile's configuration word. -/
def Tandem.cfg (t : Tandem) (j : Nat) : BitVec 64 := sparseGet 0 t.zcfg j

/-- A tile's anchor. -/
def Tandem.anchor (t : Tandem) (j : Nat) : Int := sparseGet 0 t.zanchor j

/-- Word `w` of tile `j`. -/
def Tandem.word (t : Tandem) (j w : Nat) : BitVec 32 := sparseGet 0 t.zt (16384 * j + w)

/-- Word `w` of tile `j` written. -/
def Tandem.setWord (t : Tandem) (j w x : Nat) : Tandem := { t with zt := sparseSet 0 t.zt (16384 * j + w) (BitVec.ofNat 32 x) }

/-- The integer of exact element `k` of tile `j` (R66, R69). -/
def Tandem.exact (t : Tandem) (j k : Nat) : Int :=
  toSigned 128 ((range 0 4).foldl (fun a i => a + (t.word j (4 * k + i)).toNat * 2 ^ (32 * i)) 0)

/-- Exact element `k` of tile `j` written. -/
def Tandem.setExact (t : Tandem) (j k : Nat) (x : Int) : Tandem :=
  (range 0 4).foldl (fun t i => t.setWord j (4 * k + i) (ofSigned 128 x / 2 ^ (32 * i))) t

/-- The NaN of an exact element (R69). -/
def exactNaN : Int := -(2 : Int) ^ 127

/-- The bound at which an exact element saturates (R69, R72). -/
def exactBound : Int := (2 : Int) ^ 127 - 1

/-- An exact element in a special state (R72). -/
def exactSpecial (i : Int) : Bool := i == exactNaN || i == exactBound || i == -exactBound

/-- RoundNE(m / 2^k), and whether it is inexact. -/
def roundShift (m k : Nat) : Nat × Bool :=
  let q := m / 2 ^ k
  let r := 2 * (m % 2 ^ k)
  (if 2 ^ k < r ∨ (r = 2 ^ k ∧ q % 2 = 1) then q + 1 else q, r != 0)

/-- RoundNE of a finite magnitude m × 2^e spill 2^a (R70, R234). -/
def roundAt (m : Nat) (e a : Int) : Nat × Bool :=
  if a ≤ e then (m * 2 ^ (e - a).toNat, false)
  else
    let k := (a - e).toNat
    if m.log2 + 2 < k then (0, m != 0) else roundShift m k

/-! ## Products (R67–R72, R227, R229) -/

/-- The value of a scale byte of kind SK (R59). -/
def scaleValue (sk x : Nat) : Val :=
  if sk = 1 then e4m3.decode x else if x = 255 then .nan false else .num false 1 ((x : Int) - 127) false

/-- Element `e` of an operand with its scale applied exactly (R59, R227). -/
def scaledValue (d : Desc) (k : KReg) (e code : Nat) : Val × Nat :=
  let v := (tdValue d) code
  if (tdBlk d) = 0 then (v, 0) else mulVal v (scaleValue (tdSk d) (field k (8 * (e / 2 ^ (tdBlk d))) 8))

/-- The values of row x of an operand of depth `n`, with their scales (R227). -/
def operandRow (d : Desc) (k : KReg) (n x : Nat) (codes : List Nat) : List (Val × Nat) :=
  ((range 0 n).zip ((codes.drop (x * n)).take n)).map (fun e => scaledValue d k (x * n + e.1) e.2)

/-- The exact products of two rows, and the flags of their scales. -/
def products (a b : List (Val × Nat)) : List Val × Nat :=
  ((a.zip b).map (fun e => (mulVal e.1.1 e.2.1).1), (a.zip b).foldl (fun f e => f ||| e.1.2 ||| e.2.2) 0)

/-- An exact sum of products. -/
def exactSum : List Val → Val
  | [] => .num false 0 0 false
  | p :: r => r.foldl (fun a x => (addVal 0 a x).1) p

/-- One depth group added to an FP32 element with one rounding under RNE; a NaN product, 0 × ∞ or infinities of both signs raise NV
(R67, R229). [DEDUCED, log 101] -/
def addGroup (neg : Bool) (t : Nat × Nat) (ps : List Val) : Nat × Nat :=
  let g := exactSum ps
  let r := finish fp32 0 0 (addVal 0 (fp32.decode t.1) (g.flip neg))
  (r.1, t.2 ||| r.2 ||| nvIf g.isNaN)

/-- A list cut into groups of `n`, the last of which may be short. -/
def chunksOf {α : Type} (n : Nat) : Nat → List α → List (List α)
  | 0, _ => []
  | f + 1, l => if l.isEmpty then [] else l.take n :: chunksOf n f (l.drop n)

/-- A list cut into groups that the engine chooses: each entry goes to any group (R68). [DEDUCED, log 47] -/
def chosenGroups {α : Type} (k : Nat) (l : List α) : List (List α) :=
  let at? (i : Nat) : Nat := Config.choice (k + i) % l.length
  ((range 0 l.length).map (fun g => (((range 0 l.length).zip l).filter (fun e => at? e.1 == g)).map (·.2))).filter (fun g => !g.isEmpty)

/-- The depth groups of one element's products: of the native depth, or chosen by the engine under the automatic split (R67, R68). -/
def depthGroups (split : Bool) (native k : Nat) (ps : List Val) : List (List Val) :=
  if split then
    let gs := chosenGroups k ps
    (chosenOrder gs.length (k + 4096) (range 0 gs.length)).map (fun i => gs.getD i [])
  else chunksOf native ps.length ps

/-- The finite contributions rounded and added, each on its own, with NX where one rounds (R70). -/
def roundedSum (a : Int) (neg : Bool) (cs : List Val) : Int × Nat :=
  cs.foldl (fun (t : Int × Nat) c =>
    match c with
    | .num n m e _ =>
      let r := roundAt m e a
      let x : Int := if n != neg then -(r.1 : Int) else r.1
      (t.1 + x, t.2 ||| (if r.2 then flagNX else 0))
    | _ => t) (0, 0)

/-- One instruction's contributions added to an exact element: the element, the flags, and whether it overflowed (R70–R72). An infinite
contribution leaves an element at a bound unchanged, and reports nothing there; infinite contributions of both signs make it NaN. [DEDUCED, log 109] -/
def addExact (a : Int) (neg : Bool) (i : Int) (cs : List Val) : Int × Nat × Bool :=
  let infs := cs.filter (·.isInf)
  let q := roundedSum a neg cs
  if cs.any (·.isNaN) || (infs.any (·.neg) && infs.any (fun v => !v.neg)) then (exactNaN, q.2 ||| flagNV, false)
  else if exactSpecial i then (i, q.2, false)
  else
    match infs with
    | v :: _ => (if v.neg != neg then -exactBound else exactBound, q.2 ||| flagXOF, true)
    | [] =>
      let i' := i + q.1
      if exactBound < i' then (exactBound, q.2 ||| flagXOF, true)
      else if i' < -exactBound then (-exactBound, q.2 ||| flagXOF, true)
      else (i', q.2, false)

/-- The contributions of an element's products: each product, or each block's sum where an operand is scaled (R70). -/
def contributions (blk : Nat) (ps : List Val) : List Val :=
  if blk = 0 then ps else (chunksOf (2 ^ blk) ps.length ps).map exactSum

/-- The depth of a posted instruction. -/
def Posted.depth (p : Posted) : Nat := (tdDepth p.tda)

/-- One output row of a posted instruction, as one indivisible step (R229, R231). `free` names the choices it may take. -/
def matrixRow (p : Posted) (as bs : List Nat) (free i : Nat) (t : Tandem) : Tandem × Nat × Option Nat :=
  let k := p.depth
  let ra := operandRow p.tda p.ka k i as
  let neg := p.op == 1
  (range 0 (cfgN p.cfg)).foldl (fun r j =>
    let (t, fl, spill) := r
    let (ps, f0) := products ra (operandRow p.tdb p.kb k j bs)
    if cfgMode p.cfg = 1 then
      let e := 64 * i + j
      let x := addExact p.anchor neg (if p.op = 3 then 0 else t.exact p.tile e)
        (contributions (max (tdBlk p.tda) (tdBlk p.tdb)) ps)
      (t.setExact p.tile e x.1, fl ||| f0 ||| x.2.1, if x.2.2 && spill.isNone then some e else spill)
    else
      let w := if cfgMode p.cfg = 2 then 8192 + 64 * i + j else 128 * i + j
      let split := decide ((tdSplit p.tda) = 1 ∨ (tdSplit p.tdb) = 1)
      let gs := depthGroups split (min (tdNative p.tda) (tdNative p.tdb)) (free + 8192 * (128 * i + j)) ps
      let x := gs.foldl (addGroup neg) (if p.op = 3 then 0 else (t.word p.tile w).toNat, 0)
      (t.setWord p.tile w x.1, fl ||| f0 ||| x.2, spill)) (t, 0, none)

/-! ## Scratch operands (R226, R128) -/

/-- Where element (x, k) of a scratch operand lies, and which nibble it is. -/
def scratchPos (d : Desc) (o p x k : Nat) : Nat × Nat :=
  let hi := if (tdTr d) then k else x
  let lo := if (tdTr d) then x else k
  if (tdNibble d) then (o + hi * p + lo / 2, lo % 2) else (o + hi * p + lo * (tdSize d), 0)

/-- One element of a scratch operand as the posting hart reads it. [DEDUCED, log 44] -/
def scratchCode (s : State) (unit : Nat) (held : List HeldStore) (d : Desc) (o p x k : Nat) : Nat :=
  let pos := scratchPos d o p x k
  let v := ofBytes ((range pos.1 (tdSize d)).map (fun b => overlayHeld held true b (s.mem.scratchByte s.free unit b)))
  if (tdNibble d) then v / 16 ^ pos.2 % 16 else v

/-- The codes of a scratch operand by row and depth. -/
def scratchCodes (s : State) (unit : Nat) (held : List HeldStore) (d : Desc) (o p rows k : Nat) : List Nat :=
  (range 0 rows).flatMap (fun x => (range 0 k).map (scratchCode s unit held d o p x))

/-- The codes of a captured operand: each element of a scratch operand is read at a moment between the post and the completion, so that it is any of
the codes the element has held since (R128). -/
def sourceCodes (s : State) (x : Away) (d : Desc) (rows k free : Nat) : MatrixSource → List Nat
  | .codes xs => xs
  | .scratch o p early =>
    let now := scratchCodes s x.t.unit x.e.held d o p rows k
    ((range 0 now.length).zip now).map (fun e =>
      match early[Config.choice (free + e.1) % (early.length + 1)]? with
      | some codes => codes.getD e.1 e.2
      | none => e.2)

/-- An operand that waits to be read with what it holds now noted, where that has changed (R128). -/
def sampleSource (s : State) (x : Away) (d : Desc) (rows k : Nat) : MatrixSource → MatrixSource
  | .codes xs => .codes xs
  | .scratch o p early =>
    let now := scratchCodes s x.t.unit x.e.held d o p rows k
    if early.getLast? = some now then .scratch o p early else .scratch o p (early ++ [now])

/-- The operands of a tandem's posted instructions sampled (R128). -/
def sampleTandem (s : State) (x : Away) : Away :=
  if x.t.matrix.isEmpty then x
  else
    { x with t := { x.t with matrix := x.t.matrix.map (fun p =>
        { p with a := sampleSource s x p.tda (cfgM p.cfg) (tdDepth p.tda) p.a
                 b := sampleSource s x p.tdb (cfgN p.cfg) (tdDepth p.tda) p.b }) } }

/-- Every scratch operand that waits to be read has what it holds at this step noted (R128). [DEDUCED, log 44] -/
def sampleSources (s : State) : State := mapTandems (fun _ => true) (fun s x => (s, sampleTandem s x)) s

/-- The first element out of the scratch, in ascending (x, k) order (R226). -/
def scratchOut (d : Desc) (o p rows k : Nat) : Option Nat :=
  (range 0 rows).findSome? (fun x => (range 0 k).findSome? (fun i =>
    let a := (scratchPos d o p x i).1
    if 0x3FFFFF < a + (tdSize d) - 1 then some a else none))

/-! ## The engine (R27, R231) -/

/-- No earlier posted instruction targets the tile of instruction `i` (R231). -/
def firstOfTile (ps : List Posted) (i : Nat) : Bool :=
  match ps[i]? with
  | some p => (ps.take i).all (fun q => q.tile ≠ p.tile)
  | none => false

/-- Rows of posted instruction `i` of a tandem performed, up to row `upTo`: its operands are read first, once (R128, R231). -/
def performRows (s : State) (x : Away) (i upTo : Nat) : State × Away :=
  match x.t.matrix[i]? with
  | none => (s, x)
  | some p =>
    let m := cfgM p.cfg
    let as := sourceCodes s x p.tda m p.depth s.free p.a
    let bs := sourceCodes s x p.tdb (cfgN p.cfg) p.depth (s.free + 2 ^ 20) p.b
    let r := (range p.row (min upTo m - p.row)).foldl (fun r i =>
      let (t, fl, spill) := r
      let q := matrixRow p as bs (s.free + 2 ^ 21) i t
      (q.1, fl ||| q.2.1, if spill.isSome then spill else q.2.2)) (x.t, p.flags, p.spill)
    let p' := { p with a := .codes as, b := .codes bs, row := max p.row (min upTo m), flags := r.2.1, spill := r.2.2 }
    ({ s with free := s.free + 2 ^ 28 }, { x with t := { r.1 with matrix := setNth r.1.matrix i p' } })

/-- Overflows in the order of their posts. -/
def insertOverflow (o : Overflow) : List Overflow → List Overflow
  | [] => [o]
  | p :: r => if o.seq < p.seq then o :: p :: r else p :: insertOverflow o r

/-- Posted instruction `i` of a tandem completes: its rows are all performed, its flags merge into the E-side's FFLAGS, and its first
overflow stands for the trap of R72 (R47, R229, R231). -/
def completePosted (s : State) (x : Away) (i : Nat) : State × Away :=
  if firstOfTile x.t.matrix i = false ∨ x.t.zsaved = true then (s, x)
  else
    let r := performRows s x i 128
    match r.2.t.matrix[i]? with
    | none => (s, x)
    | some p =>
      let t := { r.2.t with
        matrix := dropNth r.2.t.matrix i
        overflows := match p.spill with
          | some e =>
            -- a batch whose first overflow has been dealt with reports no other (R72)
            if r.2.t.overflows.any (fun o => o.done && o.batch == p.batch) then r.2.t.overflows
            else insertOverflow { seq := p.seq, batch := p.batch, tile := p.tile, elem := e, done := false } r.2.t.overflows
          | none => r.2.t.overflows }
      let e := r.2.e.raise (BitVec.ofNat 64 p.flags)
      match t.place with
      | .parked _ _ => (writeImage r.1 t e r.2.a, { t := t, e := e, a := r.2.a })
      | _ => (r.1, { t := t, e := e, a := r.2.a })

/-! ## Posting (R225–R228) -/

/-- The instruction runs on the E-side or in single mode, on a core (R13, R151). -/
def engineSide : Exec Unit := do
  let s ← getState
  if s.tan.firmware.isSome || s.onA then illegalInstr else pure ()

/-- A tile name below Z (R40). -/
def checkTile (j : Nat) : Exec Unit := do
  let s ← getState
  require (decide (j < s.tan.z))

/-- The checks of one operand: a scratch pair within R146, or a register tile within R225. -/
def checkOperand (pair : Bool) (n rows : Nat) (d : Desc) : Exec Unit := do
  let s ← getState
  let c := s.me.csr
  if pair then require (decide (1 ≤ n ∧ n ≤ 110))
  else do
    checkTileSrc n c.grp
    require (decide (rows ≤ c.rows ∧ (tdDepth d) * (8 * (tdSize d)) ≤ c.grp * 1024 ∧ (tdTr d) = false))

/-- The conditions of R227 on the two descriptors, and R69's on exact mode. -/
def pairLegal (mode m n : Nat) (a b : Desc) : Bool :=
  let int (d : Desc) : Bool := (tdKind d) == 5 || (tdKind d) == 6
  let scales (d : Desc) (rows : Nat) : Bool :=
    (tdBlk d) == 0 || decide ((tdDepth d) % 2 ^ (tdBlk d) = 0 ∧ (rows * (tdDepth d) - 1) / 2 ^ (tdBlk d) ≤ 255)
  (int a == int b) && (mode ≠ 1 || ((tdKind a) ≠ 0 && (tdKind b) ≠ 0)) && (tdDepth a) == (tdDepth b) && scales a m && scales b n &&
    ((tdBlk a) == 0 || (tdBlk b) == 0 || (tdBlk a) == (tdBlk b))

/-- The tile's mode allows the member (R229). -/
def modeAllows (op mode : Nat) (a b : Desc) : Bool :=
  if op = 2 then mode == 2 && decide ((tdSplit a) ≠ 1 ∧ (tdSplit b) ≠ 1) else mode ≠ 2

/-- The scratch bounds of an operand (R226, R228). -/
def checkScratch (pair : Bool) (n rows : Nat) (d : Desc) : Exec Unit := do
  let s ← getState
  if pair then
    match scratchOut d (s.me.readS n).toNat (s.me.readS (n + 1)).toNat rows (tdDepth d) with
    | some a => spaceBound (addrWord a)
    | none => pure ()
  else pure ()

/-- An uncorrectable error in a byte of a scratch operand is consumed where the product is posted (R360). -/
def soundScratch (d : Desc) (o p rows : Nat) : Exec Unit := fun s =>
  let meets (b : Nat) : Bool := (range 0 rows).any (fun x => (range 0 (tdDepth d)).any (fun k =>
    let a := s.tan.unit * 0x400000 + (scratchPos d o p x k).1
    decide (a ≤ b ∧ b < a + tdSize d)))
  match s.mem.badScratch.find? meets with
  | some b => .error (.consumed (.scratch (b / 0x400000) (b % 0x400000))) s
  | none => .ok () s

/-- The element codes of a register operand (R225). -/
def registerCodes (c : Csr) (rows : Nat) (d : Desc) (x : List VReg) : List Nat :=
  (range 0 rows).flatMap (fun j => (range 0 (tdDepth d)).map (fun k => elemAt x c.grp (8 * (tdSize d)) j k))

/-- An operand captured at issue (R27, R228). -/
def captureOperand (pair : Bool) (n rows : Nat) (d : Desc) : Exec MatrixSource := do
  let s ← getState
  if pair then
    let o := (s.me.readS n).toNat
    let p := (s.me.readS (n + 1)).toNat
    soundScratch d o p rows
    modState (fun s => { s with free := s.free + 1 })
    pure (.scratch o p [scratchCodes s s.tan.unit s.me.held d o p rows (tdDepth d)])
  else do
    let x ← readTile n s.me.csr.grp
    pure (.codes (registerCodes s.me.csr rows d x))

/-- MMAC, MMACN, MMACO and MMACS: the checks of R228 in their order, the capture and the post. Where both scratch operands are out of bounds, operand
A's offset is the one reported. [DESIGN CHOICE, log 118] -/
def mmaBody (op : Nat) (z : BitVec 4) (a b : BitVec 7) (sel : BitVec 2) : Exec Unit := do
  engineSide
  modState State.seeTds
  let s ← getState
  let j := z.toNat
  let cfg := s.tan.cfg j
  let da := s.tan.readTd s.onA (cfgTda cfg)
  let db := s.tan.readTd s.onA (cfgTdb cfg)
  let pa := sel.getLsbD 0
  let pb := sel.getLsbD 1
  checkTile j
  require (s.me.csr.vstart == 0 && (tdLegal da) && (tdLegal db) && modeAllows op (cfgMode cfg) da db)
  checkOperand pa a.toNat (cfgM cfg) da
  checkOperand pb b.toNat (cfgN cfg) db
  require (pairLegal (cfgMode cfg) (cfgM cfg) (cfgN cfg) da db)
  drainedFirst (do
    let _ ← if pa then pure [] else readTile a.toNat s.me.csr.grp
    if pb then pure [] else readTile b.toNat s.me.csr.grp)
  if cfgMode cfg = 0 ∧ s.me.csr.hctl.getLsbD 0 = true ∧ ((tdSplit da) = 1 ∨ (tdSplit db) = 1) then detViolation else pure ()
  checkScratch pa a.toNat (cfgM cfg) da
  checkScratch pb b.toNat (cfgN cfg) db
  if 64 ≤ s.tan.matrix.length then stopWith (.wait 5 0x42) else pure ()
  let x ← captureOperand pa a.toNat (cfgM cfg) da
  let y ← captureOperand pb b.toNat (cfgN cfg) db
  modState (fun s =>
    let s := s.spoilStrip
    let p : Posted :=
      { batch := s.tan.openBatch, op := op, tile := j, cfg := cfg, anchor := s.tan.anchor j, tda := da, tdb := db,
        ka := s.me.readK (tdKreg da), kb := s.me.readK (tdKreg db), a := x, b := y, seq := s.tan.posts }
    { s with tan := { s.tan with matrix := s.tan.matrix ++ [p], posts := s.tan.posts + 1 } })

/-- MMAC, its tile in Z and its operands' sources in SEL (R228, R229). -/
def execMmac (z : BitVec 4) (a : BitVec 7) (b : BitVec 7) (sel : BitVec 2) (s : State) : Host.Outcome State Fault Refusal :=
  runKeep (mmaBody 0 z a b sel) s

/-- MMACN, its tile in Z and its operands' sources in SEL (R228, R229). -/
def execMmacn (z : BitVec 4) (a : BitVec 7) (b : BitVec 7) (sel : BitVec 2) (s : State) : Host.Outcome State Fault Refusal :=
  runKeep (mmaBody 1 z a b sel) s

/-- MMACO, its tile in Z and its operands' sources in SEL (R228, R229). -/
def execMmaco (z : BitVec 4) (a : BitVec 7) (b : BitVec 7) (sel : BitVec 2) (s : State) : Host.Outcome State Fault Refusal :=
  runKeep (mmaBody 2 z a b sel) s

/-- MMACS, its tile in Z and its operands' sources in SEL (R228, R229). -/
def execMmacs (z : BitVec 4) (a : BitVec 7) (b : BitVec 7) (sel : BitVec 2) (s : State) : Host.Outcome State Fault Refusal :=
  runKeep (mmaBody 3 z a b sel) s

end Sys2Proof.Machine
end

