-- ==== Sys2Proof/Machine/Schedule.lean ====
section
/-! DEFINITION. Contexts, queues and tandems as the scheduler handles them: the bind of a context (R266–R270), reclaiming, dispatch into a
slot (R31–R33, R40–R44, R231, R268, R287), pre-emption for room, and the quiescing of the device. -/

namespace Sys2Proof.Machine

/-! ## Contexts -/

/-- Change the context with a number. -/
def State.modCtx (s : State) (n : Nat) (f : Context → Context) : State :=
  { s with ctxs := s.ctxs.map (fun c => if c.num == n then f c else c) }

/-- A context holds an address-space identifier and a partition of the vector table. -/
def Context.bound (c : Context) : Bool := c.asid.isSome

/-- A block that keeps R266, with its partition inside the table and apart from every other bound context's, and its ID unused (R267). A reserved bit of
CTLW that is not 0 breaks R266. [DESIGN CHOICE, log 120] -/
def bindOk (s : State) (n : Nat) (w : Nat → Nat) : Bool :=
  let vb := bits (w 2) 16 0
  let vc := bits (w 2) 33 17
  decide (w 0 / 2 ^ 45 = 0 ∧ w 1 % 4096 = 0 ∧ w 1 / 2 ^ 52 = 0 ∧ w 2 / 2 ^ 34 = 0 ∧ w 3 % 0x200000 = 0 ∧ w 4 % 0x10000 = 0 ∧
    w 5 % 64 = 0 ∧ w 6 = 0 ∧ w 7 = 0 ∧ vc ≠ 0 ∧ vc ≤ 65536 ∧ vb + vc ≤ 131072) &&
  s.ctxs.all (fun c => c.num == n || !c.bound || ((decide (c.vbase + c.vcount ≤ vb) || decide (vb + vc ≤ c.vbase)) && c.id != w 0 % 2 ^ 32))

/-- The lowest address-space identifier that no context holds, of the 512. -/
def freeAsid (s : State) : Option Nat := (lowestFree (s.ctxs.filterMap (·.asid)) 512 0 1).head?

/-- The entries of a partition that carry no tag carry that of the context that is bound to it; those of a former owner keep theirs and translate
nothing for it (R269). [DEDUCED, log 95] -/
def adoptEntries (p : Paging) (vb vc serial : Nat) : Paging :=
  { p with vtag := ((p.vtab.map (fun e => e.1 % 131072)).filter (fun i =>
      decide (vb ≤ i ∧ i < vb + vc) && sparseGet 0 p.vtag i == 0)).foldl (fun t i => sparseSet 0 t i serial) p.vtag }

/-- A context is bound where its block allows it; without a free ASID it waits for one, and a FAULTED one keeps its own (R267, R270). -/
def bindContext (s : State) (n : Nat) : State :=
  match s.ctx? n with
  | none => s
  | some c =>
    let w := blockWords s c.block
    match c.state with
    | .defined | .reclaimed | .faulted =>
      if bindOk s n w = false then s.modCtx n (fun c => { c with wants := false })
      else
        match c.asid.orElse (fun _ => freeAsid s) with
        | some a =>
          let s := s.modCtx n (fun c => boundContext c a w)
          { s with paging := adoptEntries s.paging (bits (w 2) 16 0) (bits (w 2) 33 17) c.serial }
        | none => s.modCtx n (fun c => { c with wants := true })
    | _ => s

/-- The contexts that wait for an ASID are bound once one is free (R270). -/
def settleBinds (s : State) : State :=
  (s.ctxs.filter (·.wants)).foldl (fun s c => if (freeAsid s).isSome then bindContext s c.num else s) s

/-- The RECLAIMED contexts that a test selects are bound again, as the scheduler would dispatch them (R270). -/
def rebind (p : Context → Bool) (s : State) : State :=
  (s.ctxs.filter (fun c => c.state == .reclaimed && p c)).foldl (fun s c => bindContext s c.num) s

/-! ## Departing tandems: z-tiles and matrix work (R44, R231) -/

/-- The posted instructions of a departed tandem stop: the first of each tile at a row boundary, and what they had still to read of scratch
is captured (R128, R231). -/
def stopMatrix : Nat → Nat → State → Away → State × Away
  | 0, _, s, x => (s, x)
  | n + 1, i, s, x =>
    let upTo := if firstOfTile x.t.matrix i then Config.choice s.free % 129 else 0
    let r := performRows { s with free := s.free + 1 } x i upTo
    stopMatrix n (i + 1) r.1 r.2

/-- The pages of a tandem's matrix save area in the system view (R231, R268). -/
def areaPages (s : State) (c : Context) (t : Tandem) (d : Nat) (kind : AccessKind) : Except (Nat × Bool) (List Xlat) :=
  if t.z = 0 then .ok [] else imagePages s c d kind (c.msaBase + t.tid * 0x210000) 528

/-- Of two failures, one that does not wait for a migration, and then the lower address. -/
def worseFailure (a b : Nat × Bool) : Nat × Bool := if a.2 && !b.2 then b else if b.2 && !a.2 then a else (min a.1 b.1, a.2)

/-- The frames of a matrix save area; a discarded page holds 0 (R312). -/
def areaFrames (xs : List Xlat) : List Nat := xs.map (fun x => if x.discarded then 2 ^ 52 else x.pa)

/-- A tandem's matrix work is written to its save area, in a form that is private to the Thoud; nothing where no work is posted (R231, R307). [DESIGN CHOICE, log 114] -/
def saveArea (s : State) (t : Tandem) : Except (Nat × Bool) (State × Tandem) :=
  match s.ctx? t.ctx with
  | none => .ok (s, t)
  | some c =>
    if t.matrix.isEmpty then .ok (s, t)
    else (areaPages s c t t.die .store).map (fun xs =>
      let frames := areaFrames xs
      let m := settledAt (markPages .store xs s).mem frames
      let m : Mem := { m with cells := replacePages m.cells frames (Config.areaBytes s.free) }
      ({ markPages .store xs s with free := s.free + 1, mem := m }, { t with areaHeld := imageCells m frames }))

/-- A posted instruction whose save area software has written: its rows give undefined results (R231). `n` names the choices. -/
def Posted.spoilt (n : Nat) (p : Posted) : Posted :=
  let codes (k rows : Nat) (d : Desc) : MatrixSource := .codes ((range 0 (rows * tdDepth p.tda)).map (fun e =>
    Config.choice (n + k + e) % (if tdNibble d then 16 else 2 ^ (8 * tdSize d))))
  { p with op := if p.op = 3 then 0 else p.op, row := 0, a := codes 0 (cfgM p.cfg) p.tda, b := codes (2 ^ 20) (cfgN p.cfg) p.tdb }

/-- The matrix results of a tandem whose save area software has written are undefined: the tiles that its work targets, and what that work adds to
them (R231). [DESIGN CHOICE, log 114] -/
def spoilWork (n : Nat) (t : Tandem) : Tandem :=
  let tiles := (t.matrix.map (·.tile)).dedup
  let z := tiles.foldl (fun t j => (range 0 16384).foldl (fun t w => t.setWord j w (Config.choice (n + 16384 * j + w) % 2 ^ 32)) t) t
  { z with matrix := ((range 0 t.matrix.length).zip t.matrix).map (fun e => e.2.spoilt (n + 2 ^ 21 * (e.1 + 1))) }

/-- A tandem's matrix work comes back from its save area: as it was saved where the area still holds what was written there (R231, R307). The second
value says whether the area was written. [DESIGN CHOICE, log 114] -/
def takeArea (s : State) (t : Tandem) : Except (Nat × Bool) (State × Bool) :=
  match s.ctx? t.ctx with
  | none => .ok (s, false)
  | some c =>
    if t.matrix.isEmpty then .ok (s, false)
    else (areaPages s c t t.die .load).map (fun xs =>
      let frames := areaFrames xs
      (markPages .load xs s, imageCells (settledAt s.mem frames) frames != t.areaHeld))

/-- A departed tandem's matrix work and z-tiles go to its save area and slots, in this order (R44, R231). The error is that of a page that takes no write. -/
def saveWork (s : State) (x : Away) : Except (Nat × Bool) (State × Away) :=
  if x.t.zsaved then .ok (s, x)
  else
    let r := stopMatrix x.t.matrix.length 0 s x
    match saveArea r.1 r.2.t, saveTiles r.1 r.2.t with
    | .ok w, .ok _ =>
      (match saveTiles w.1 w.2 with
       | .ok q => .ok (q.1, { r.2 with t := q.2 })
       | .error e => .error e)
    | .error a, .error b => .error (worseFailure a b)
    | .error a, .ok _ => .error a
    | .ok _, .error b => .error b

/-- A returning tandem's matrix work and z-tiles come back from where they were saved (R44, R231). -/
def restoreWork (s : State) (t : Tandem) : Except (Nat × Bool) (State × Tandem) :=
  if t.zsaved = false then .ok (s, t)
  else
    match takeArea s t with
    | .error e => .error e
    | .ok (s, spoilt) =>
      match restoreTiles s t with
      | .error e => .error e
      | .ok (s, t) =>
        let t := { t with areaHeld := [] }
        if spoilt then .ok ({ s with free := s.free + 2 ^ 28 }, spoilWork s.free t) else .ok (s, t)

/-- A kernel whose tandem's image or save area fails faults with FCODE 1 (R268, R288). -/
def failArea (s : State) (t : Tandem) (a : Nat) : State :=
  stopKernel s t.ctx t.csn { cancelled := false, fcode := 1, ftid := t.tid, faddr := addrWord a, finfo := 0 } (fun _ => false)

/-- The tandem `x` in the place of the one with its number. -/
def State.putTandem (s : State) (x : Away) : State := mapTandems (fun t => t.uid == x.t.uid) (fun s _ => (s, x)) s

/-- Tandem `u`'s matrix work and z-tiles are saved, and the result says whether they were: a page of theirs that fails faults its kernel, and one
under migration leaves them where they are (R44, R231, R288, R315). [DESIGN CHOICE, log 114] -/
def saveTandem (u : Nat) (s : State) : State × Bool :=
  match s.tandem? u with
  | none => (s, false)
  | some x =>
    match saveWork s x with
    | .ok r => (r.1.putTandem r.2, true)
    | .error (_, true) => (s, false)
    | .error (a, false) => (failArea s x.t a, false)

/-- Every tandem that a test selects has its matrix work and z-tiles saved. -/
def saveAll (p : Tandem → Bool) (s : State) : State :=
  ((s.allTandems.filter (fun x => p x.t)).map (·.t.uid)).foldl (fun s u => (saveTandem u s).1) s

/-- A tandem has left a core, with z-tiles or matrix work still there. -/
def leftBehind (core : Nat) (t : Tandem) : Bool :=
  (match t.place with
   | .parked _ _ => true
   | _ => false) && t.core == core && t.started && !t.zsaved && (decide (0 < t.z) || !t.matrix.isEmpty)

/-- When a tandem left. -/
def Tandem.leftAt (t : Tandem) : Nat :=
  match t.place with
  | .parked _ w => w
  | _ => 0

/-- A tandem keeps its slot and its tiles on its core: it is resident, or it has ended or stopped and its matrix work runs on (R252,
R288). -/
def Tandem.inSlot (t : Tandem) : Bool :=
  t.firmware.isNone &&
  (match t.place with
   | .resident _ _ | .draining _ _ => true
   | .stopped => !t.matrix.isEmpty && !t.zsaved
   | _ => false)

/-- The z-tiles of a core's store that are held (R40). -/
def tilesHeld (s : State) (core : Nat) : Nat :=
  ((s.allTandems.filter (fun x => x.t.core == core && x.t.inSlot)).map (fun x => x.t.z)).sum

/-- The tandems other than `u` that have left a core with z-tiles or matrix work still there. -/
def goneFrom (s : State) (core u : Nat) : List Tandem := (s.allTandems.map (·.t)).filter (fun t => leftBehind core t && t.uid != u)

/-- The store of a core has room for `z` tiles of tandem `u` (R40, R44). -/
def tileRoom (s : State) (core u z : Nat) : Bool := decide (tilesHeld s core + ((goneFrom s core u).map (·.z)).sum + z ≤ 16)

/-- Room for `z` tiles in a core's store: departed tandems are saved, the longest gone first, until they fit; those in `kept` cannot be saved now
(R44). -/
def makeTileRoom (core u z : Nat) : Nat → List Nat → State → State
  | 0, _, s => s
  | n + 1, kept, s =>
    if tileRoom s core u z then s
    else
      match leastBy (fun (a b : Tandem) => decide (a.leftAt < b.leftAt))
          ((goneFrom s core u).filter (fun t => decide (0 < t.z) && !kept.contains t.uid)) with
      | some t =>
        let r := saveTandem t.uid s
        makeTileRoom core u z n (if r.2 then kept else t.uid :: kept) r.1
      | none => s

/-- A departed tandem other than `u` whose matrix work holds a slot's matrix queue (R231). -/
def holdsQueue (core slot u : Nat) (t : Tandem) : Bool := leftBehind core t && t.slot == slot && !t.matrix.isEmpty && t.uid != u

/-- What a newcomer needs of a core is freed: the slot's matrix queue, and tiles of the store (R44, R231). -/
def makeRoomFor (t : Tandem) (core slot : Nat) (s : State) : State :=
  makeTileRoom core t.uid t.z 16 [] (saveAll (holdsQueue core slot t.uid) s)

/-- A newcomer has the room that it needs of a core. -/
def hasRoom (s : State) (t : Tandem) (core slot : Nat) : Bool :=
  tileRoom s core t.uid t.z && !s.allTandems.any (fun x => holdsQueue core slot t.uid x.t)

/-! ## Dispatch -/

/-- The lowest failing address of a tandem's image or save area, if any fails, and whether it only waits for a migration (R42, R268, R315). -/
def imageFault (s : State) (c : Context) (d : Nat) (t : Tandem) : Option (Nat × Bool) :=
  match imagePages s c d .store (imageBase c t) (80 + 16 * t.z), areaPages s c t d .store with
  | .error a, .error b => some (worseFailure a b)
  | .error a, .ok _ => some a
  | .ok _, .error b => some b
  | .ok _, .ok _ => none

/-- Something sits in a slot of a core. -/
def slotTaken (s : State) (core slot : Nat) : Bool :=
  s.allTandems.any (fun x => x.t.inSlot && x.t.core == core && x.t.slot == slot)

/-- A tandem's replay has not been handed back. -/
def Away.replaying (x : Away) : Bool := (x.e.loop.bind (·.replay)).isSome || (x.a.loop.bind (·.replay)).isSome

/-- A sweep that a disagreement of the tandem's asked for is still to be made (R356). -/
def sweepDue (s : State) (x : Away) : Bool :=
  let due (h : Hart) : Bool := match h.disagreed with
    | some (_, core) => s.rel.sweeps.any (fun w => w.1 == core)
    | none => false
  due x.e || due x.a

/-- A tandem may be placed now: it waits or is parked, for no page, no replay and no sweep, its context and kernel run, and the device is not
quiesced (R32, R270, R283, R288, R313, R347, R356, R363). -/
def mayDispatch (s : State) (x : Away) : Bool :=
  (match x.t.place with
   | .waiting => true
   | .parked _ _ => x.t.page.isNone && x.t.heldRecord.isNone && !x.replaying && !sweepDue s x
   | _ => false) &&
  x.t.firmware.isNone && !s.rel.quiesced &&
  (match s.ctx? x.t.ctx with
   | some c => (match c.state with
      | .boundIdle | .running | .reclaimed => true
      | _ => false)
   | none => false) &&
  (match s.kernel? x.t.ctx x.t.csn with
   | some k => k.live && k.stop.isNone && !k.ttParked
   | none => false)

/-- A slot can take a tandem: the core is not fenced, its cluster is ready and not frozen, the slot is free and the tiles fit; a tandem of
a fenced core stays in its cluster (R40, R358, R378, R390). [DEDUCED, log 91] -/
def slotOpen (s : State) (t : Tandem) (core slot : Nat) : Bool :=
  decide (core < 256 ∧ slot < 8) && !slotTaken s core slot && !s.rel.fenced.contains core &&
  s.ready0.getLsbD (coreCluster core) && !s.dbg.frozen.contains (coreCluster core) &&
  decide (tilesHeld s core + t.z ≤ 16) &&
  (!t.started || !s.rel.fenced.contains t.core || coreCluster core == coreCluster t.core)

/-- The first dispatch of the last of a kernel's own tandems moves it to RUNNING (R287). -/
def settleStarting (s : State) (ctx csn die : Nat) : State :=
  match s.kernel? ctx csn with
  | none => s
  | some k =>
    if k.state = .starting ∧ (s.allTandems.any (fun x => x.t.ctx == ctx && x.t.csn == csn && decide (x.t.tix < k.t0) && !x.t.started)) = false then
      writeKernel (s.modKernel ctx csn (fun k => { k with state := .running })) die ctx csn
    else s

/-- A returning or new tandem in its slot, with its matrix work and tiles in place; its registers are in the register cache (R43–R45, R231). What it
left on another core is saved first and comes from there. What its copies wrote while it was away stands in its new die's view (R126, R244), and for a
new tandem what the scheduler, on die 0, has read (R281). [DESIGN CHOICE, log 114] -/
def placeTandem (core slot : Nat) (s : State) (x : Away) : Except (Nat × Bool) (State × Away) :=
  let moved : Bool := x.t.started && x.t.core != core && !x.t.zsaved && (decide (0 < x.t.z) || !x.t.matrix.isEmpty)
  match (if moved then saveWork s x else .ok (s, x)) with
  | .error e => .error e
  | .ok (s, y) =>
    match restoreWork s { y.t with core := core, slot := slot } with
    | .error e => .error e
    | .ok (s, t) =>
      let back (h : Hart) : Hart := { h with leftIn := none }
      .ok ({ s with mem := if x.t.die != coreDie core then s.mem.pull x.t.die (coreDie core) else s.mem },
        { t := { t with place := .resident core slot, started := true, since := s.now, zsaved := false }, e := back y.e, a := back y.a })

/-- Tandem `u`, which may be placed, and whose context `c` is bound, is placed in an open slot, started or resumed. One whose image or save area
fails is not started, and its kernel faults with FCODE 1; a page of them under migration is waited for (R31, R268, R288, R315). -/
def placeOpen (x : Away) (c : Context) (core slot : Nat) (s : State) : State :=
  match (if x.t.started then none else imageFault s c (coreDie core) x.t) with
  | some (_, true) => s
  | some (a, false) => failArea s x.t a
  | none =>
    let s := makeRoomFor x.t core slot s
    match s.tandem? x.t.uid with
    | none => s
    | some x =>
      if mayDispatch s x = false ∨ hasRoom s x.t core slot = false then s
      else
        match placeTandem core slot s x with
        | .error (_, true) => s
        | .error (a, false) => failArea s x.t a
        | .ok r =>
          let s := (r.1.putTandem r.2).modCtx c.num (fun c => { c with state := .running })
          settleStarting s x.t.ctx x.t.csn (coreDie core)

/-- Tandem `u` is placed in a slot, where it may be and the slot takes it; a reclaimed context is bound again for it (R31, R270). -/
def dispatchTandem (u core slot : Nat) (s : State) : State :=
  match s.tandem? u with
  | none => s
  | some x =>
    let s := rebind (fun c => c.num == x.t.ctx) s
    if mayDispatch s x = false ∨ slotOpen s x.t core slot = false then s
    else
      match s.ctx? x.t.ctx with
      | none => s
      | some c => if c.bound then placeOpen x c core slot s else s

/-- TANDEM_DISPATCH (R31). [DEDUCED, log 73] -/
def execTandemDispatch (t core slot : Nat) (s : State) : Host.Outcome State Fault Refusal := .next (dispatchTandem t core slot s)

end Sys2Proof.Machine
end

