-- ==== Sys2Proof/Machine/System.lean ====
section
/-! DEFINITION. System instructions and CSR access (R176–R180, R46–R50). -/

namespace Sys2Proof.Machine

/-- An instruction whose own effect is a trap behind itself: it retires, and XPC names the next word (R176, R341). The strip becomes
non-rewindable (R183). -/
def trapAfter (code : Nat) (s : State) : State :=
  let s1 := retire s (s.me.pc + 4) s.spoilStrip
  takeTrap code 0 (s.me.pc + 4) 0 s.irWord s1

/-- SYSC #code: a system-call trap (R176). -/
def execSysc (_c : BitVec 7) (s : State) : Host.Outcome State Fault Refusal := .next (trapAfter 7 s)

/-- BRK #code: a breakpoint trap (R176). -/
def execBrk (_c : BitVec 7) (s : State) : Host.Outcome State Fault Refusal := .next (trapAfter 6 s)

/-- TRET: the return from the trap in service; without one an illegal instruction (R177). -/
def execTret (s : State) : Host.Outcome State Fault Refusal :=
  if s.me.tis then .next (returnFromTrap (retire s (s.me.pc + 4) s))
  else .next (takeTrap 1 0 s.me.pc 0 s.irWord s)

/-- WBASE: the window index of a class; class 1 is illegal on a firmware core (R151, R178). -/
def wbaseBody (c k : Nat) : Exec Unit := do
  let s ← getState
  if c = 1 ∧ s.tan.firmware.isSome then illegalInstr
  else modMe (fun h => if c = 0 then { h with winS := k } else { h with winV := k })

/-- WBASE #class, #k (R178). -/
def execWbase (c k : BitVec 7) (s : State) : Host.Outcome State Fault Refusal := runScalar (wbaseBody c.toNat k.toNat) s

/-- PAUSE: retires; the hart gives its turn away for 64 clocks (R179). -/
def execPause (s : State) : Host.Outcome State Fault Refusal := runScalar (modState (fun s => { s with quantum := 0 })) s

/-! ## CSR instructions (R47–R50, R180) -/

/-- The CSRs that are read-only to CSR instructions (R46, R48). -/
def csrReadOnly (n : Nat) : Bool :=
  decide (n ∈ [0x020, 0x021, 0x022, 0x023, 0x100, 0x101, 0x102, 0x301, 0x302, 0x401, 0x600, 0x601, 0x602])

/-- The CSRs that are defined on a firmware core (R151). -/
def csrOnFirmware (n : Nat) : Bool :=
  decide (n ∈ [0x000, 0x001, 0x002, 0x200, 0x201, 0x202, 0x203, 0x204, 0x205, 0x600, 0x601])

/-- A CSR number that is defined for the hart (R47, R48, R151). -/
def csrDefined (t : Tandem) (n : Nat) : Bool :=
  (decide (n ∈ csrNumbers) || decide (n ∈ [0x020, 0x021, 0x022, 0x023])) && (t.firmware.isNone || csrOnFirmware n)

/-- CYCLE: clocks while resident (R48). -/
def State.cycles (s : State) : Word := s.me.csr.cycle + BitVec.ofNat 64 (s.clockOf s.tan - s.tan.since)

/-- The value of a CSR (R48). -/
def readCsr (s : State) (n : Nat) : Word :=
  match n with
  | 0x020 => BitVec.ofNat 64 s.tan.tid
  | 0x021 => BitVec.ofNat 64 s.tan.csn
  | 0x022 => BitVec.ofNat 64 s.myCtx.id
  | 0x023 => BitVec.ofNat 64 s.sideCode
  | 0x600 => s.cycles
  | _ => (s.me.csr.get n).getD 0

/-- A write would leave no reserved value and no non-zero reserved bit (R47–R50, R56, R180, R381). -/
def csrValueOk (n : Nat) (v : Word) : Bool :=
  let x := v.toNat
  match n with
  | 0x000 => decide (x ≤ 5)
  | 0x001 => decide (x < 128)
  | 0x010 => decide (x < 32 ∧ bits x 2 1 ≠ 3)
  | 0x011 => decide (x < 65536)
  | 0x103 => decide (x ≤ 0x3FFF)
  | 0x105 => decide (x < 2 ^ 24) && narrowLegal x
  | 0x201 => decide (bits x 62 16 = 0)
  | 0x204 => decide (x % 4 = 0)
  | 0x300 => decide (2 ≤ x ∧ x ≤ 16)
  | 0x400 => decide (x ≠ 0)
  | 0x502 => decide (x < 4096)
  | 0x503 => decide (bits x 31 4 = 0 ∧ bit x 1 = false ∧ (bit x 0 = true → x / 2 ^ 32 ≠ 0))
  | 0x504 => decide (x % 64 = 0)
  | _ => true

/-- A CSR written: read-only fields of a register keep their value (R4), and a write that sets TRCTL.EN starts a trial (R381). [DEDUCED, log 70] -/
def writeCsr (n : Nat) (v : Word) (s : State) : State :=
  let c := s.me.csr
  match n with
  | 0x201 => { s with me := { s.me with csr := { c with xcause := setField v 63 1 (field c.xcause 63 1) } } }
  | 0x503 =>
    if v.getLsbD 0 = true ∧ c.trctl.getLsbD 0 = false then
      { s with me := { s.me with
          csr := { c with trctl := setField v 2 2 0 }
          trial := { startCycle := s.cycles.toNat } } }
    else { s with me := { s.me with csr := { c with trctl := setField v 2 2 (field c.trctl 2 2) } } }
  | _ => { s with me := { s.me with csr := c.set n v } }

/-- ENERGY is an estimate: its tandem's share grows by an amount that is not fixed between two reads (R387). [DESIGN CHOICE, log 8] -/
def refreshEnergy (n : Nat) : Exec Unit := do
  if n = 0x602 then do
    let k ← nextFree
    modState (fun s =>
      let e : Word := BitVec.ofNat 64 (min (s.me.csr.energy.toNat + Config.microjoules k) (2 ^ 64 - 1))
      { s with me := { s.me with csr := { s.me.csr with energy := e } },
               peer := { s.peer with csr := { s.peer.csr with energy := e } } })
  else pure ()

/-- CSRRD: s[SD] ← the CSR (R180). -/
def csrReadBody (d : BitVec 5) (n : Nat) : Exec Unit := do
  let s ← getState
  if csrDefined s.tan n = false then illegalInstr else do
    refreshEnergy n
    let s ← getState
    modMe (fun h => h.writeS d.toNat (readCsr s n))

/-- CSRWR, CSRSET and CSRCLR: the old value to s[SD], the new one to the CSR, as one step (R47, R180). -/
def csrWriteBody (f : Word → Word → Word) (d : BitVec 5) (a : BitVec 7) (n : Nat) : Exec Unit := do
  let s ← getState
  if csrDefined s.tan n = false ∨ csrReadOnly n = true then illegalInstr else do
    checkSrc a.toNat
    let x ← readS a.toNat
    let old := readCsr s n
    let new := f old x
    if csrValueOk n new = false then illegalInstr else do
      modState (writeCsr n new)
      modMe (fun h => h.writeS d.toNat old)

/-- CSRRD (R180). -/
def execCsrrd (d : BitVec 5) (c : BitVec 12) (s : State) : Host.Outcome State Fault Refusal := runScalar (csrReadBody d c.toNat) s

/-- CSRWR (R180). -/
def execCsrwr (d : BitVec 5) (a : BitVec 7) (c : BitVec 12) (s : State) : Host.Outcome State Fault Refusal :=
  runScalar (csrWriteBody (fun _ x => x) d a c.toNat) s

/-- CSRSET (R180). -/
def execCsrset (d : BitVec 5) (a : BitVec 7) (c : BitVec 12) (s : State) : Host.Outcome State Fault Refusal :=
  runScalar (csrWriteBody (fun o x => o ||| x) d a c.toNat) s

/-- CSRCLR (R180). -/
def execCsrclr (d : BitVec 5) (a : BitVec 7) (c : BitVec 12) (s : State) : Host.Outcome State Fault Refusal :=
  runScalar (csrWriteBody (fun o x => o &&& ~~~x) d a c.toNat) s

end Sys2Proof.Machine
end

