-- ==== Sys2Proof/Machine/CoreEvent.lean ====
section
/-! DEFINITION. Steps of the cores and of what surrounds them: a fence or a queue stall that ends (R17, R172), matrix work (R231), the
strip buffer (R108), die views (R120), pre-emption and progress (R348–R351), replies (R175, R367, R378), the end of a causal trial (R382), and
words that are illegal (R148). An event that names what is not there, or that may not happen now, changes nothing. -/

namespace Sys2Proof.Machine

/-- The hart in focus can execute: its tandem sits in a slot of a running cluster, the side has not ended, and it is no A-side of a single-mode
tandem (R14). -/
def State.active (s : State) : Bool := s.running && !s.me.exited && !(s.onA && s.tan.single)

/-- The state of an outcome; one that does not go on changes nothing. -/
def nextOr (s : State) : Host.Outcome State Fault Refusal → State
  | .next s' => s'
  | _ => s

/-! ## Fences, queues, matrix work -/

/-- FENCE_RETIRE: the fence that hart `h` waits in retires, once its accesses are performed or complete in its scope (R172). -/
def execFenceRetire (h : Nat) (s : State) : Host.Outcome State Fault Refusal :=
  .next (atHart h (fun s =>
    if s.active = false ∨ s.me.stalled.isNone = true then s
    else
      let w := s.me.stallWord
      if wMaj w = 0x13 ∧ wFn5 w ≤ 5 then nextOr s (runKeep (fenceBody (wFn5 w) (wD w)) { s with ir := w, notes := [] })
      else s) s)

/-- A hart stalled on a queue can go on: the queue has room, or the entries, or its pusher has exited (R17–R19). -/
def queueStallOver (s : State) : Bool :=
  match s.me.stalled with
  | none => false
  | some port =>
    decide (1 ≤ port ∧ port ≤ 33 ∧ (s.me.csr.waitrsn = 1 ∨ s.me.csr.waitrsn = 2)) &&
    queueWaitOver s.tan s.peer.exited s.me.csr.waitrsn.toNat port s.me.stallNeed

/-- QUEUE_STALL_END: hart `h` proceeds with the instruction that stalled; it has the next turn (R17). -/
def execQueueStallEnd (h : Nat) (s : State) : Host.Outcome State Fault Refusal :=
  .next (atHart h (fun s =>
    if s.active && queueStallOver s then
      { s with me := { s.me with stalled := none }, inputs := .turn h :: s.inputs }
    else s) s)

/-- A tandem whose matrix work is done leaves the slot it still held after its end (R252). -/
def settleDraining (t : Tandem) : Tandem :=
  match t.place with
  | .draining _ _ => if t.matrix.isEmpty then { t with place := .ended } else t
  | _ => t

/-- Saved matrix work of a tandem that does not come back, because its kernel stops or it has ended, runs to completion as well: its tiles come from their save slots and go back there (R252, R288). An
instruction whose tiles or save area cannot be reached is dropped. [DEDUCED, log 104] -/
def completeSaved (s : State) (x : Away) (i : Nat) : State × Away :=
  match restoreWork s x.t with
  | .error (_, true) => (s, x)
  | .error (_, false) => (s, { x with t := { x.t with matrix := dropNth x.t.matrix i } })
  | .ok (s1, t1) =>
    let r := completePosted s1 { x with t := t1 } i
    match saveWork r.1 r.2 with
    | .ok q => q
    | .error (_, true) => (s, x)
    | .error (_, false) => (r.1, { r.2 with t := { r.2.t with zsaved := true } })

/-- A tandem does not come back and has matrix work saved: its kernel has been stopped, or it ended on a core that has since been fenced. -/
def Tandem.stoppedSaved (t : Tandem) : Bool :=
  t.zsaved && (match t.place with
    | .stopped | .draining _ _ => true
    | _ => false)

/-- MATRIX_COMPLETE: posted instruction `i` of tandem `t` finishes its rows and merges its flags (R231). The engine of a frozen cluster
stands (R378). -/
def execMatrixComplete (t i : Nat) (s : State) : Host.Outcome State Fault Refusal :=
  .next (mapTandems (fun x => x.uid == t) (fun s x =>
    if s.frozen x.t then (s, x)
    else if x.t.stoppedSaved then
      let r := completeSaved s x i
      (r.1, { r.2 with t := settleDraining r.2.t })
    else
      let r := completePosted s x i
      (r.1, { r.2 with t := settleDraining r.2.t })) s)

/-! ## Strip buffer and die views -/

/-- STRIP_BUFFER_DRAIN: held store `k` of hart `h`, of a closed strip and behind no held store to the same byte, is performed (R105, R108). -/
def execStripBufferDrain (h k : Nat) (s : State) : Host.Outcome State Fault Refusal :=
  .next (atHart h (fun s =>
    match s.me.held[k]? with
    | none => s
    | some x =>
      let before := s.me.held.take k
      let blocked := before.any (fun y => y.shared == x.shared && y.bytes.any (fun b => x.bytes.any (fun c => c.va == b.va)))
      if x.eligible = false ∨ blocked = true ∨ s.frozen s.tan = true then s
      else
        let r := performOne s s.tan.die s.tan.unit s.hart x
        let s := addOutstanding r.2 { r.1 with me := { r.1.me with held := dropNth r.1.me.held k } }
        failPosted (settleCidx s)) s)

/-- STRIP_TIMEOUT: a strip open for 65,536 clocks: the hart's held stores are performed and the strip can no longer be run again (R108). -/
def execStripTimeout (h : Nat) (s : State) : Host.Outcome State Fault Refusal :=
  .next (atHart h (fun s => if s.active then failPosted (settleCidx s.endStrip.spoilStrip) else s) s)

/-- WRITE_APPLY: write `k` in flight is applied at a die, after its causal predecessors (R120). -/
def execWriteApply (die k : Nat) (s : State) : Host.Outcome State Fault Refusal :=
  .next (if die < 4 then { s with mem := s.mem.apply die k } else s)

/-! ## Pre-emption and progress -/

/-- PREEMPT: a resident tandem leaves its slot, both sides together; not out of a frozen cluster (R348, R378). -/
def execPreempt (t : Nat) (s : State) : Host.Outcome State Fault Refusal :=
  .next (mapTandems (fun x => x.uid == t && !s.frozen x) (leaveSlot 19) s)

/-- A cluster of the context of the tandem in focus is frozen (R378). -/
def contextFrozen (s : State) : Bool :=
  s.allTandems.any (fun x => x.t.ctx == s.tan.ctx && s.frozen x.t &&
    (match x.t.place with
     | .resident _ _ => true
     | _ => false))

/-- A trap of the hart is in service, or a page fault of a copy of it (R245, R350). -/
def Hart.inService (h : Hart) : Bool := h.tis || h.copies.any (·.waiting.isSome)

/-- A member that a group barrier of the tandem waits for is parked or has a fault in service (R350). One that has arrived early waits for the
members that have still to arrive at its own phase (R293). -/
def barrierHeld (s : State) : Bool :=
  s.groups.any (fun g => g.ctx == s.tan.ctx &&
    (if g.arrived.contains s.tan.uid then g.counted.filter (fun u => !g.arrived.contains u)
     else if g.early.contains s.tan.uid then (g.members.map (·.1)).filter (fun u => !g.early.contains u)
     else []).any (fun u =>
      match s.tandem? u with
      | some x =>
        (match x.t.place with
         | .resident _ _ => x.e.inService || x.a.inService
         | _ => true)
      | none => false))

/-- The element-progress timer of the hart in focus runs (R350, R378). [DEDUCED, log 68] -/
def timerRuns (s : State) : Bool :=
  s.active && s.me.stalled.isSome && !s.me.inService && !s.peer.inService && !contextFrozen s &&
  !(s.me.csr.waitrsn == 3 || s.me.csr.waitrsn == 15 || s.me.csr.waitrsn == 16 || s.me.csr.waitrsn == 17 || s.me.csr.waitrsn == 18) &&
  !(s.me.csr.waitrsn == 13 && barrierHeld s)

/-- A word of an instruction that may stop between elements, rows or bytes that VSTART counts (R18, R186, R206, R226, R344). -/
def countsElements (w : BitVec 32) : Bool :=
  decide ((0x24 ≤ wMaj w ∧ wMaj w ≤ 0x32) ∨ (wMaj w = 0x34 ∧ wFn5 w ∈ [2, 3, 4, 7, 9]) ∨ (wMaj w = 0x35 ∧ wFn5 w ∈ [2, 3]))

/-- The address of the element that the hart in focus stalls at, 0 where it stalls at no element's access (R351). [DEDUCED, log 68] -/
def stalledAddr (w : BitVec 32) (s : State) : Word :=
  if countsElements w = true ∧ (s.me.csr.waitrsn = 1 ∨ s.me.csr.waitrsn = 2 ∨ s.me.csr.waitrsn = 9 ∨ s.me.csr.waitrsn = 14) then s.me.stallAddr else 0

/-- The XINFO of a PROGRESS trap (R351). -/
def progressInfo (h : Hart) : Word := BitVec.ofNat 64 (h.csr.waitrsn.toNat % 256 + h.stalled.getD 0 % 256 * 256)

/-- PROGRESS_EXPIRY: the timer of hart `h` reaches PROGLIM: a PROGRESS trap at the stalled instruction (R351). -/
def execProgressExpiry (h : Nat) (s : State) : Host.Outcome State Fault Refusal :=
  .next (atHart h (fun s =>
    if timerRuns s then
      let w := s.me.stallWord
      let me := if countsElements w then s.me else { s.me with csr := { s.me.csr with vstart := 0 } }
      takeTrap 8 0 s.me.pc (stalledAddr w s) (progressInfo s.me) { s with ir := w, me := me }
    else s) s)

/-- ILLEGAL_INSTRUCTION: the hart in focus executes a word that no instruction has (R148), and that pushes no queue (R345). -/
def execIllegalInstruction (w : BitVec 32) (s : State) : Host.Outcome State Fault Refusal :=
  .next (takeTrap 1 0 s.me.pc 0 (w.setWidth 64) { s with ir := 0 })

/-! ## Replies (R123, R175, R367, R378) -/

/-- How many bytes of data a reply brings. -/
def replyLength : PeerOp → Nat
  | .read n => n
  | .write _ => 0
  | .atomic _ n _ _ => n

/-- The cluster that waits for a request's reply: the hart's, or that of the copy's engine. -/
def requestCluster (s : State) (r : Request) : Option Nat := (s.tandem? (r.hart % 2 ^ 40 / 2)).map (fun x => coreCluster x.t.core)

/-- A port's flits of a request are no longer held: its reply acknowledges them (R369). [DEDUCED, log 84] -/
def forgetTag (s : State) (tag : Nat) : List (Nat × Port) :=
  s.links.ports.map (fun p => (p.1, { p.2 with buffer := p.2.buffer.filter (fun f => f.load ≠ .request tag) }))

/-- A reply reaches its hart: a store of the strip buffer is complete, and a read or an atomic has its value (R123, R175). -/
def deliverReply (tag : Nat) (data : List Byte) (s : State) : State :=
  match s.links.requests.find? (fun r => r.tag == tag && r.reply.isNone) with
  | none => s
  | some r =>
    if data.length ≠ replyLength r.op then s
    else
      let rest := if r.posted then s.links.requests.filter (fun q => q.tag ≠ tag)
        else s.links.requests.map (fun q => if q.tag = tag then { q with reply := some data } else q)
      let s : State := { s with links := { s.links with requests := rest, ports := forgetTag s tag }.pump }
      atHart (r.hart % 2 ^ 40) (fun s =>
        { s with me := { s.me with outstanding := s.me.outstanding.filter (· ≠ tag) } }) s

/-- A request was sent over a port on which its reply can come (R368). -/
def replyComes (s : State) (r : Request) : Bool := r.sent && r.port.any (fun p => (s.links.port p).completes)

/-- MEMORY_REPLY: a reply arrives, over the port of its request; that of a frozen cluster is held in its skid buffer of 2,048 entries, and beyond that at its station
(R378). -/
def execMemoryReply (tag : Nat) (data : List Byte) (s : State) : Host.Outcome State Fault Refusal :=
  .next (match s.links.requests.find? (fun r => r.tag == tag && r.reply.isNone && replyComes s r) with
    | none => s
    | some r =>
      match requestCluster s r with
      | some c =>
        if s.dbg.frozen.contains c then
          (if s.dbg.skid.any (fun x => x.2.1 == tag) then s
           else { s with dbg := { s.dbg with skid := s.dbg.skid ++ [(c, tag, data)] } })
        else deliverReply tag data s
      | none => deliverReply tag data s)

/-! ## The end of a causal trial (R382) -/

/-- The words of a trial's result record (R382). -/
def trialWords (s : State) : List Nat :=
  let t := s.me.trial
  [s.me.csr.trexp.toNat, s.cycles.toNat - t.startCycle, t.withheld, t.inside, t.outside, 0, 0, 0] ++ t.counters

/-- The trial is over: EN ← 0, DONE ← 1, and ERR where its record could not be written (R382). -/
def stopTrial (err : Bool) (h : Hart) : Hart :=
  let c := setField h.csr.trctl 0 1 0
  let c := setField c 2 1 1
  { h with csr := { h.csr with trctl := setField c 3 1 (if err then 1 else 0) } }

/-- A trial of the hart in focus has run its WIN clocks, and no instruction is under way (R382). -/
def trialDue (s : State) : Bool :=
  s.active && s.me.csr.trctl.getLsbD 0 && s.me.savedNow.isNone &&
  decide (field s.me.csr.trctl 32 32 ≤ s.cycles.toNat - s.me.trial.startCycle)

/-- The record's stores, one for each word. -/
def trialStores (a : Nat) : List Nat → Exec Unit
  | [] => pure ()
  | x :: r => do
    storeBytes false false (a % 2 ^ 64) (toBytes 8 x)
    trialStores (a + 8) r

/-- The hart in focus writes its trial's record as its own plain stores and ends the trial. A page fault is served first; any other fault
leaves the record unwritten (R382). -/
def endTrial (s : State) : State :=
  let s0 := { s with ir := 0, notes := [] }
  match trialStores s.me.csr.trbase.toNat (trialWords s) s0 with
  | .ok _ s' => { s' with me := stopTrial false s'.me, notes := [], dbg := s'.dbg.goneOn s.hart }
  | .error (.page r k a) _ => takePageFault r k a s0
  | .error (.wait r p a k) _ => waitHere r p a s0 k
  | .error (.freeze c a) _ => freezeCluster c a s0
  | .error _ _ => { s0 with me := stopTrial true s0.me, dbg := s0.dbg.goneOn s.hart }

/-- TRIAL_END (R382). -/
def execTrialEnd (h : Nat) (s : State) : Host.Outcome State Fault Refusal :=
  .next (atHart h (fun s => if trialDue s then endTrial s else s) s)

end Sys2Proof.Machine
end

