-- ==== Sys2Proof/Machine/QueueEvent.lean ====
section
/-! DEFINITION. Launch queues (R275–R283): the queue block, the doorbell registers, slots and displacement, the reads of the scheduler, the tests
of a head packet (R281, R389), the taking of a packet as a kernel (R21, R22, R284–R287), and time-triggered mode. -/

namespace Sys2Proof.Machine

/-! ## Queues as the device holds them -/

/-- Change the queue with a number. -/
def State.modQueue (s : State) (n : Nat) (f : Queue → Queue) : State :=
  { s with queues := s.queues.map (fun q => if q.num == n then f q else q) }

/-- QSTATE of a queue (R277). -/
def Queue.stateWord (q : Queue) : Nat := q.state.code + q.fcode * 256 + q.eprio * 65536

/-- SAVTAIL, SAVPROG and SAVSTATE of a queue without a slot are written to its block, at its virtual address in the queue's context (R276, R278,
R304). A write whose page is under migration waits (R315); one that the page does not take is not made. [DEDUCED, log 78] -/
def saveQueue (s : State) (n : Nat) : State :=
  match s.queue? n with
  | none => s
  | some q =>
    match s.ctx? q.ctx with
    | none => s
    | some c =>
      if q.state.holdsSlot then s
      else thoudWrite false s (s.seenCtx c) 0 (q.block + 0x18) (toBytes 8 q.tail ++ toBytes 8 q.prog ++ toBytes 8 q.stateWord)

/-- A queue with TAIL and PROG as SAVTAIL and SAVPROG of its block give them (R276, R278). -/
def loadQueue (s : State) (q : Queue) : Queue :=
  let prog := ((queueWord s q 4).getD q.prog) % 2 ^ 63
  { q with tail := ((queueWord s q 3).getD q.tail) % 2 ^ 63, prog := prog, head := if prog = q.prog then q.head else none }

/-- A queue changed, and saved where it then holds no slot. -/
def changeQueue (s : State) (n : Nat) (f : Queue → Queue) : State := saveQueue (s.modQueue n f) n

/-- A queue that is enabled and not empty (R280). -/
def Queue.waitingWork (q : Queue) : Bool :=
  match q.state with
  | .ready | .active | .blocked | .switchedOut => true
  | _ => false

/-- EMPTY or READY, as PROG and TAIL have it (R279). -/
def Queue.rest (q : Queue) (now : Nat) : Queue :=
  if q.prog = q.tail then { q with state := .empty } else { q with state := .ready, waitSince := now }

/-- A queue faults with a code; one that is disabled stays as it is (R277, R279). -/
def Queue.fault (q : Queue) (code : Nat) : Queue :=
  match q.state with
  | .disabled => q
  | _ => { q with state := .faulted, fcode := code }

/-- An enabled row of the time-triggered table names a queue (R282). -/
def TtMode.names (t : TtMode) (q : Nat) : Bool := t.on && t.rows.any (fun r => r.row.enabled && r.row.queue == q)

/-- A queue that waits for a slot and whose context holds an ASID (R270, R280). -/
def waitsForSlot (s : State) (q : Queue) : Bool :=
  (match q.state with
   | .ready | .switchedOut => true
   | _ => false) && ((s.ctx? q.ctx).bind (·.asid)).isSome

/-- A queue is switched in: its slot sees what was saved (R278, R279). -/
def switchIn (s : State) (n : Nat) : State :=
  let s := match s.queue? n with
    | some q => blockSeen s q
    | none => s
  s.modQueue n (fun q => { loadQueue s q with state := .active, takes := 0, heldSince := s.now })

/-- A queue in an enabled row holds a slot for as long as the mode runs and its context has an ASID: once it has a packet it is ACTIVE (R270, R282). -/
def settleTt (s : State) : State :=
  (s.queues.filter (fun q => s.tt.names q.num && waitsForSlot s q)).foldl (fun s q => switchIn s q.num) s

/-! ## Doorbell writes (R277–R279) -/

/-- A as the saved words of a DISABLED queue are read back (R278, R307). -/
def readBack (s : State) (n : Nat) : State :=
  match s.queue? n with
  | some q => if q.state = .disabled then blockSeen s q else s
  | none => s

/-- QTAIL_WRITE: a value between TAIL and PROG + 2^LOG2N is the new TAIL; any other faults the queue with FCODE 2 (R278). Bit 63 is
reserved. -/
def execQtailWrite (q : Nat) (v : Word) (s : State) : Host.Outcome State Fault Refusal :=
  .next (let v := v.toNat % 2 ^ 63
    let s := readBack s q
    settleTt (changeQueue s q (fun q =>
      let q := match q.state with
        | .disabled => loadQueue s q
        | _ => q
      if q.prog ≤ v ∧ v ≤ q.prog + 2 ^ q.log2n ∧ q.tail ≤ v then
        let r := { q with tail := v }
        match q.state with
        | .empty => r.rest s.now
        | _ => r
      else q.fault 2)))

/-- ENABLE: DISABLED to EMPTY or READY (R279). -/
def execEnable (q : Nat) (s : State) : Host.Outcome State Fault Refusal :=
  .next (let s := readBack s q
    settleTt (changeQueue s q (fun q => match q.state with
    | .disabled => (loadQueue s q).rest s.now
    | _ => q)))

/-- DISABLE: any state to DISABLED; the slot is freed and FCODE kept (R279). -/
def execDisable (q : Nat) (s : State) : Host.Outcome State Fault Refusal :=
  .next (changeQueue s q (fun q => { q with state := .disabled, page := none, heldRecord := none }))

/-- CLRFAULT: FAULTED to EMPTY or READY; FCODE is cleared and the head packet read again (R279). -/
def execClrfault (q : Nat) (s : State) : Host.Outcome State Fault Refusal :=
  .next (settleTt (changeQueue s q (fun q => match q.state with
    | .faulted => { q with fcode := 0, head := none }.rest s.now
    | _ => q)))

/-! ## Creation (R276) -/

/-- The queue that a block describes, where the block keeps R276 and names the context's own block. [DEDUCED, log 78] -/
def queueOfBlock (num ctx ctxBlock block : Nat) (w : Nat → Nat) : Option Queue :=
  let cfg := w 1
  let log2n := bits cfg 4 0
  let ageLim := bits cfg 31 16
  let agePer := bits cfg 47 32
  if num < 4096 ∧ block % 64 = 0 ∧ w 0 % 64 = 0 ∧ bits cfg 7 5 = 0 ∧ bits cfg 15 12 = 0 ∧ cfg / 2 ^ 48 = 0 ∧ 1 ≤ log2n ∧ log2n ≤ 16 ∧
      w 2 = ctxBlock ∧ w 6 = 0 ∧ w 7 = 0 ∧ (ageLim = 0 ∨ 1 ≤ agePer) then
    some { num := num, ctx := ctx, block := block, ring := w 0, log2n := log2n, prio := bits cfg 10 8, tt := bit cfg 11, ageLim := ageLim,
           agePer := agePer, eprio := bits cfg 10 8 }
  else none

/-- The block at a virtual address of a context lies in an IDEM page with CMP 0, and its words are these, as a program of it would read them (R276, R304,
R307). -/
def readBlock (s : State) (c : Context) (a : Nat) : Option (List Nat) :=
  match imagePages s c 0 .load a 1 with
  | .error _ => none
  | .ok _ => ((range 0 8).map (fun i => sysRead s c 0 (a + 8 * i) 8 false)).foldr (fun r t =>
      match r, t with
      | .ok v, some vs => some (v :: vs)
      | _, _ => none) (some [])

/-- QUEUE_CREATE: a queue begins DISABLED with nothing in it (R276, R277). A number in use by an enabled queue, and a block that breaks R276,
create nothing. -/
def execQueueCreate (q block x : Nat) (s : State) : Host.Outcome State Fault Refusal :=
  .next (match s.ctx? x with
    | none => s
    | some c =>
      let inUse := match s.queue? q with
        | some y => (match y.state with
          | .disabled => false
          | _ => true)
        | none => false
      if c.state = .destroyed ∨ inUse = true then s
      else
        let c := s.seenCtx c
        match (readBlock s c block).bind (fun ws => queueOfBlock q x c.block block (fun i => ws.getD i 0)) with
        | some y => saveQueue (sysSeen { s with queues := s.queues.filter (fun z => z.num ≠ q) ++ [y] } c 0 block 8 false) q
        | none => s)

/-! ## Slots (R280) -/

/-- The queues that hold one of the 256 slots (R279, R282). -/
def slotHolders (s : State) : List Queue := s.queues.filter (fun q => q.state.holdsSlot || s.tt.names q.num)

/-- The waiting queue that a slot goes to: the highest EPRIO, and among equals the longest wait (R280). -/
def nextWaiting (s : State) : Option Queue :=
  leastBy (fun (a b : Queue) => decide (b.eprio < a.eprio ∨ (a.eprio = b.eprio ∧ a.waitSince < b.waitSince))) (s.queues.filter (waitsForSlot s))

/-- The order in which queues of the lowest EPRIO are displaced: a BLOCKED one first, then the one held longest (R280). -/
def displacedBefore (a b : Queue) : Bool :=
  let blocked (q : Queue) : Bool := match q.state with
    | .blocked => true
    | _ => false
  (blocked a && !blocked b) || (blocked a == blocked b && decide (a.heldSince < b.heldSince))

/-- The held queue that a waiting one of priority `p` displaces; a time-triggered queue never (R280). -/
def victim (s : State) (p : Nat) : Option Queue :=
  let held := s.queues.filter (fun q => q.state.holdsSlot && !q.tt)
  match leastBy (fun (a b : Nat) => decide (a < b)) (held.map (·.eprio)) with
  | none => none
  | some low =>
    let at_ := held.filter (fun q => q.eprio = low)
    if low < p then leastBy displacedBefore at_
    else if low = p then leastBy displacedBefore (at_.filter (fun q => 16 ≤ q.takes))
    else none

/-- A queue loses its slot with its state saved (R279). -/
def switchOut (s : State) (n : Nat) : State := changeQueue s n (fun q => { q with state := .switchedOut, waitSince := s.now })

/-- A context for which a queue waits for a slot (R270). -/
def waitedFor (s : State) (c : Context) : Bool :=
  s.queues.any (fun q => q.ctx == c.num && (match q.state with
    | .ready | .switchedOut => true
    | _ => false))

/-- QUEUE_SWITCH_IN: the waiting queue of highest EPRIO takes a free slot, or the slot of a queue it displaces (R280); a RECLAIMED context for
which a queue waits is bound first (R270). -/
def execQueueSwitchIn (s : State) : Host.Outcome State Fault Refusal :=
  .next (let s := settleTt (rebind (waitedFor s) s)
    match nextWaiting s with
    | none => s
    | some q =>
      if ((slotHolders s).filter (fun z => z.num ≠ q.num)).length < 256 then switchIn s q.num
      else
        match victim s q.eprio with
        | some v => switchIn (switchOut s v.num) q.num
        | none => s)

/-- QUEUE_AGING: AGELIM, or a further AGEPER, has passed without a take: EPRIO rises one level, up to 7 (R280). -/
def execQueueAging (q : Nat) (s : State) : Host.Outcome State Fault Refusal :=
  .next (changeQueue s q (fun q => if q.ageLim ≠ 0 ∧ q.waitingWork = true ∧ q.eprio < 7 then { q with eprio := q.eprio + 1 } else q))

/-! ## Reads of the scheduler (R279) -/

/-- How a read of the scheduler for a queue ends. -/
inductive SchedRead where
  | ok (v : Nat)
  /-- The queue waits in its state, for the pager, a station or a peer. -/
  | waits
  /-- It cannot be served: an uncorrectable error, a link error, or an address that is out of bounds. -/
  | failed
deriving DecidableEq, Repr

/-- The fault record of a page that a queue waits for; SIDE is 3, and what R346 gives a task but not a queue is free. -/
def queueRecord (s : State) (q : Queue) (reason : Nat) (a : Word) : FaultRecord :=
  { csn := Config.choice s.free, addr := a, qid := q.num, core := Config.choice (s.free + 1) % 256, slot := Config.choice (s.free + 2) % 8,
    side := 3, kind := .load, reason := reason, asid := ((s.ctx? q.ctx).bind (·.asid)).getD 0,
    tid := Config.choice (s.free + 3) % 65536, age := (s.faultBuffer 0).age }

/-- A queue waits for a page: its record goes to die 0's buffer, or is held where that is full (R279, R346, R347). -/
def queuePageFault (s : State) (q : Queue) (reason : Nat) (a : Word) : State :=
  let r := queueRecord s q reason a
  let p := postRecord { s with free := s.free + 4 } 0 r
  p.1.modQueue q.num (fun q => { q with page := some a, heldRecord := if p.2 then none else some r })

/-- The bytes of one run of a read of the Thoud itself, in the view of die 0. A peer is asked once and its reply taken. -/
def thoudRun (s : State) (run : List (Nat × Xlat)) : State × Option (Option (List Byte)) :=
  match run with
  | [] => (s, some (some []))
  | (va, x) :: _ =>
    if x.discarded then (s, some (some (run.map (fun _ => 0))))
    else if run.any (fun e => (lookup s.mem.bad e.2.pa).isSome) then (s, some none)
    else
      match regionOf x.pa with
      | .device => (s, some (some (s.mem.viewBytes 0 x.pa run.length)))
      | .doorbell => (doorbellSeen s x.pa, some (some (if run.length = 8 ∧ x.pa % 8 = 0 then toBytes 8 (doorbellRead s x.pa) else run.map (fun _ => 0))))
      | .host =>
        if s.hostReady then (s.hostSeen (run.map (fun e => e.2.pa)), some (some (run.map (fun e => s.hostByte e.2.pa)))) else (s, some none)
      | .peer n =>
        match s.links.requests.find? (fun r => r.hart == 0 && r.pa == x.pa && r.op == .read run.length) with
        | some r =>
          (match r.reply with
           | some d => ({ s with links := { s.links with requests := s.links.requests.filter (fun z => z.tag ≠ r.tag) } }, some (some d))
           | none => if r.port.isNone then
               ({ s with links := { s.links with requests := s.links.requests.filter (fun z => z.tag ≠ r.tag) } }, some none)
             else (s, none))
        | none =>
          (match routePort s.links n x.pa with
           | some p => ((sendRequest s 0 va x.pa (.read run.length) (some p) false).1, none)
           | none => (s, some none))
      | .unassigned => (s, some (some (run.map (fun _ => 0))))

/-- Several runs, one after the other: none while a reply is awaited, and an inner none where a run cannot be served. -/
def thoudRuns (s : State) : List (List (Nat × Xlat)) → State × Option (Option (List Byte))
  | [] => (s, some (some []))
  | r :: rest =>
    match thoudRun s r with
    | (s, some (some b)) =>
      (match thoudRuns s rest with
       | (s, some (some c)) => (s, some (some (b ++ c)))
       | z => z)
    | z => z

/-- A read of `n` bytes for a queue, in its context and as a program of it would make it (R279). A page fault goes to the pager. -/
def schedRead (s : State) (q : Queue) (a n : Nat) : State × SchedRead :=
  match s.ctx? q.ctx with
  | none => (s, .failed)
  | some c =>
    match translateBytes s c 0 false false .load a n with
    | .error (.spaceBound, _) => (s, .failed)
    | .error (.page r, b) => if r = 9 then (s, .failed) else (queuePageFault s q r (addrWord b), .waits)
    | .error (.migrate, _) | .error (.notReady, _) => (s, .waits)
    | .error (.root, _) => (faultContextAll s q.ctx, .waits)
    | .ok xs =>
      if xs.all s.stationReady then
        let s := xs.foldl (fun s x => markXlat s .load x) s
        let vs := (range a n).map (fun b => b % 2 ^ 64)
        match thoudRuns s (runsOf (vs.zip xs)) with
        | (s, some (some b)) => (s, .ok (ofBytes b))
        | (s, some none) => (s, .failed)
        | (s, none) => (s, .waits)
      else (s, .waits)

/-! ## The head packet (R275, R281) -/

/-- The fields of a launch packet (R275). -/
structure Packet where
  eentry : Word
  aentry : Word
  total : Nat
  t : Nat
  g : Nat
  waitAddr : Word
  waitVal : Word
  doneAddr : Word
  argAddr : Word
  ser : Bool
  irq : Bool
  prio : Nat
  zt : Nat
  ecls : Nat
deriving DecidableEq, Repr

/-- A canonical multiple of 8. -/
def canonical8 (a : Word) : Bool := canonical a.toNat && decide (a.toNat % 8 = 0)

/-- The packet that eight words make; none where it is malformed (R275). -/
def packetOf (ws : List Word) : Option Packet :=
  let w (i : Nat) : Word := ws.getD i 0
  let d := (w 2).toNat
  let f := (w 7).toNat
  if canonical (w 0).toNat = true ∧ (w 0).toNat % 4 = 0 ∧ d / 2 ^ 62 = 0 ∧ bits d 61 56 ≤ 40 ∧
      (w 3 = 0 ∨ canonical8 (w 3) = true) ∧ (w 5 = 0 ∨ canonical8 (w 5) = true) ∧ canonical8 (w 6) = true ∧
      bits f 7 2 = 0 ∧ bits f 15 11 ≤ 16 ∧ bits f 20 16 ≤ 16 ∧ f / 2 ^ 24 = 0 then
    some { eentry := w 0, aentry := w 1, total := bits d 39 0, t := bits d 55 40 + 1, g := 2 ^ bits d 61 56, waitAddr := w 3, waitVal := w 4,
           doneAddr := w 5, argAddr := w 6, ser := bit f 0, irq := bit f 1, prio := bits f 10 8, zt := bits f 15 11, ecls := bits f 23 21 }
  else none

/-- What the tests of a head packet find. -/
inductive HeadTest where
  /-- Every test has passed: the packet, and the eight argument words. -/
  | takeable (p : Packet) (args : List Word)
  /-- The head waits on its dependence, on SER, on TIDs, on its record slot or on energy. -/
  | blocked
  /-- A read has still to be served; the queue stays in its state. -/
  | waits
  /-- The queue faults with a code. -/
  | faulted (code : Nat)
deriving DecidableEq, Repr

/-- The words of a 64-byte read. -/
def wordsOf (v : Nat) : List Word := (range 0 8).map (fun i => BitVec.ofNat 64 (v / 2 ^ (64 * i)))

/-- The head packet: its copy, or read now as one 64-byte load (R278). [DEDUCED, log 77] -/
def readHead (s : State) (q : Queue) : State × Except HeadTest (List Word) :=
  match q.head with
  | some ws => (s, .ok ws)
  | none =>
    match schedRead s q (q.ring + 64 * (q.prog % 2 ^ q.log2n)) 64 with
    | (s, .ok v) => (s.modQueue q.num (fun q => { q with head := some (wordsOf v) }), .ok (wordsOf v))
    | (s, .waits) => (s, .error .waits)
    | (s, .failed) => (s, .error (.faulted 3))

/-- The class forecast of a kernel, in µJ for each tandem and window (R388). -/
def classForecast (s : State) (ecls : Nat) : Nat := (lookup s.energy.classes ecls).getD 0

/-- The energy partition of a context. -/
def partOf (s : State) (ctx : Nat) : Nat := ((s.ctx? ctx).map (·.epart)).getD 0

/-- The kernels of a partition that count in its forecast: those that are starting, running or draining (R388, R389). [DEDUCED, log 80] -/
def kernelsOfPart (s : State) (part : Nat) : List Kernel := s.kernels.filter (fun k => k.live && partOf s k.ctx == part)

/-- The forecast F of a partition (R388); a spawned tandem counts as the others do (R389). -/
def forecast (s : State) (part : Nat) : Nat := ((kernelsOfPart s part).map (fun k => k.tcnt * classForecast s k.ecls)).sum

/-- Energy admission of a packet (R389); the budget is in mJ and the forecasts in µJ. -/
def admitted (s : State) (ctx : Nat) (p : Packet) : Bool :=
  let part := partOf s ctx
  let budget := (lookup s.energy.budget part).getD 0
  budget == 0 || (kernelsOfPart s part).isEmpty || decide (forecast s part + p.t * classForecast s p.ecls ≤ budget * 1000)

/-- The tests of R281, R287 and R389 that read no memory: SER, the free TIDs, the record slot, energy. A COMPLETE kernel whose counter is still to be added
to keeps its slot. [DEDUCED, log 81] -/
def countsAllow (s : State) (q : Queue) (p : Packet) : Bool :=
  let csn := ((s.ctx? q.ctx).map (·.nextCsn)).getD 0
  (!p.ser || s.kernels.all (fun k => k.ctx != q.ctx || k.qid != q.num || k.state == .complete)) &&
  decide ((freeTids s q.ctx p.t).length = p.t) &&
  s.kernels.all (fun k => k.ctx != q.ctx || k.csn % 4096 != csn % 4096 || (k.state == .complete && !k.closing)) &&
  admitted s q.ctx p

/-- The wait counter has reached WAITVAL (R281). -/
def waitMet (s : State) (q : Queue) (p : Packet) : State × Except HeadTest Unit :=
  if p.waitAddr = 0 then (s, .ok ())
  else
    match schedRead s q p.waitAddr.toNat 8 with
    | (s, .ok v) => if p.waitVal.toNat ≤ v then (s, .ok ()) else (s, .error .blocked)
    | (s, .waits) => (s, .error .waits)
    | (s, .failed) => (s, .error (.faulted 3))

/-- The tests of a queue's head packet without the argument block (R281). -/
def testHead (s : State) (q : Queue) : State × Except HeadTest Packet :=
  match readHead s q with
  | (s, .error e) => (s, .error e)
  | (s, .ok ws) =>
    match packetOf ws with
    | none => (s, .error (.faulted 1))
    | some p =>
      match waitMet s q p with
      | (s, .error e) => (s, .error e)
      | (s, .ok ()) => if countsAllow s q p then (s, .ok p) else (s, .error .blocked)

/-- The tests of a queue's head packet; once all have passed, its argument block is read (R22, R281). -/
def examineHead (s : State) (q : Queue) : State × HeadTest :=
  match testHead s q with
  | (s, .error e) => (s, e)
  | (s, .ok p) =>
    match schedRead s q p.argAddr.toNat 64 with
    | (s, .ok v) => (s, .takeable p (wordsOf v))
    | (s, .waits) => (s, .waits)
    | (s, .failed) => (s, .faulted 3)

/-! ## Taking (R21, R22, R281, R284) -/

/-- base and count of tandem `t` (R21). -/
def splitRange (p : Packet) (t : Nat) : Nat × Nat :=
  let c := (p.total + p.g - 1) / p.g
  let q := c / p.t
  let x := c % p.t
  let chunks := q + (if t < x then 1 else 0)
  let first := t * q + min t x
  let base := min (first * p.g) p.total
  (base, min ((first + chunks) * p.g) p.total - base)

/-- A packet becomes a kernel: its record is written and its tandems get the lowest TIDs, in ascending order of their index (R268, R284,
R286, R287). -/
def startKernel (s : State) (q : Queue) (p : Packet) (args : List Word) (row : Option Nat) : State :=
  match s.ctx? q.ctx with
  | none => s
  | some c =>
    let k : Kernel :=
      { ctx := q.ctx, csn := c.nextCsn, state := .starting, qid := q.num, tcnt := p.t, t0 := p.t, argAddr := p.argAddr, args := args,
        total := p.total, doneAddr := p.doneAddr, eentry := p.eentry, aentry := p.aentry, z := p.zt, prio := p.prio, ecls := p.ecls,
        irq := p.irq, row := row }
    let tids := freeTids s q.ctx p.t
    let old := s.kernels.filter (fun j => j.ctx ≠ q.ctx ∨ j.csn % 4096 ≠ k.csn % 4096)
    let s : State := { s with kernels := old ++ [k] }
    let s := s.modCtx q.ctx (fun c => { c with nextCsn := c.nextCsn + 1 })
    let s := writeKernel s 0 k.ctx k.csn
    let made := ((range 0 p.t).zip tids).map (fun e =>
      let r := splitRange p e.1
      newTandem k (s.nextUid + e.1) e.2 e.1
        ([BitVec.ofNat 64 r.1, BitVec.ofNat 64 r.2, BitVec.ofNat 64 e.1, BitVec.ofNat 64 p.t] ++ args))
    addTandems s made

/-- A queue with its head packet taken (R279, R280). -/
def Queue.took (q : Queue) : Queue :=
  { q with
    prog := q.prog + 1
    head := none
    takes := q.takes + 1
    eprio := q.prio
    state := if q.prog + 1 = q.tail then .empty else .active }

/-- A queue's head packet is taken. -/
def takePacket (s : State) (q : Queue) (p : Packet) (args : List Word) (row : Option Nat) : State :=
  let s := startKernel s q p args row
  { changeQueue s q.num Queue.took with lastServed := q.num }

/-- A queue may have a packet taken now: it is held by no debugger, the device is not quiesced, and no read of it waits (R279, R363, R379). -/
def mayTake (s : State) (q : Queue) : Bool := !q.hold && !s.rel.quiesced && q.page.isNone && decide (q.prog < q.tail)

/-- A queue's head packet is taken where its tests allow it; the result says whether it was. A head that waits makes its queue BLOCKED, and one
that cannot be read or is malformed faults it (R279, R281). -/
def tryTake (s : State) (q : Queue) (row : Option Nat) : State × Bool :=
  if mayTake s q then
    match examineHead s q with
    | (s, .takeable p args) => (takePacket s q p args row, true)
    | (s, .blocked) => (s.modQueue q.num (fun q => match q.state with
        | .active => { q with state := .blocked }
        | _ => q), false)
    | (s, .waits) => (s, false)
    | (s, .faulted code) => (changeQueue s q.num (fun q => q.fault code), false)
  else (s, false)

/-- The order in which ACTIVE queues are served: the highest EPRIO, and among equals round-robin after the queue last served (R30, R280). -/
def servedBefore (last : Nat) (a b : Queue) : Bool :=
  let turn (q : Queue) : Nat := (q.num + 4095 - last) % 4096
  decide (b.eprio < a.eprio ∨ (a.eprio = b.eprio ∧ turn a < turn b))

/-- The first of the queues in turn whose packet can be taken has it taken. -/
def takeFirst : Nat → List Queue → State → State
  | 0, _, s => s
  | n + 1, qs, s =>
    match leastBy (servedBefore s.lastServed) qs with
    | none => s
    | some q =>
      match tryTake s q none with
      | (s, true) => s
      | (s, false) => takeFirst n (qs.filter (fun z => z.num ≠ q.num)) s

/-- The ACTIVE queues whose packets are taken in the order of R280; a time-triggered one not while that mode runs. -/
def servable (s : State) : List Queue :=
  s.queues.filter (fun q => (match q.state with
    | .active => true
    | _ => false) && !(q.tt && s.tt.on))

/-- PACKET_TAKE: one packet is taken, of the queue whose turn it is (R280, R281). -/
def execPacketTake (s : State) : Host.Outcome State Fault Refusal := .next (takeFirst (servable s).length (servable s) s)

/-! ## Scans (R31, R32, R281) -/

/-- A BLOCKED queue's head is tested again: ACTIVE where its wait is met (R279, R281). -/
def retest (s : State) (q : Queue) : State :=
  match q.state with
  | .blocked =>
    if q.page.isSome then s
    else
      match testHead s q with
      | (s, .ok _) => s.modQueue q.num (fun q => { q with state := .active })
      | (s, .error (.faulted code)) => changeQueue s q.num (fun q => q.fault code)
      | (s, .error _) => s
  | _ => s

/-- The BLOCKED queues that a test selects are tested again. -/
def retestAll (p : Queue → Bool) (s : State) : State := (s.queues.filter p).foldl retest s

/-- A tandem is parked on a replay, with wait reason REPLAY (R32). -/
def Tandem.onReplay (t : Tandem) : Bool :=
  match t.place with
  | .parked 18 _ => true
  | _ => false

/-- The parked tandem that is resumed next: the longest-waiting, but one handed back by a replay before it where its priority is no lower (R31,
R32). -/
def nextResumed (ts : List Tandem) : Option Tandem :=
  let back := leastBy (fun (a b : Tandem) => decide (b.prio < a.prio ∨ (a.prio = b.prio ∧ a.leftAt < b.leftAt))) (ts.filter (·.onReplay))
  match leastBy (fun (a b : Tandem) => decide (a.leftAt < b.leftAt)) (ts.filter (fun t => !t.onReplay)), back with
  | some l, some r => if l.prio ≤ r.prio then some r else some l
  | some l, none => some l
  | none, r => r

/-- A BWAIT is over, or has to look for itself: at an object of a peer, or one that can no longer be reached (R31, R297). -/
def barWaitOver (s : State) (t : Tandem) (w : BarWait) : Bool :=
  w.met.isSome || (!w.shared && (match w.target s t with
    | some pa => (match regionOf pa with
      | .device | .host => false
      | _ => true)
    | none => true))

/-- A side can go on when its tandem is back: it was in no wait as it left its slot, or the wait is over (R31). -/
def sideReady (s : State) (x : Away) (onA : Bool) : Bool :=
  let h := if onA then x.a else x.e
  let other := if onA then x.e else x.a
  !h.exited && !(onA && x.t.single) &&
  (match h.leftIn with
   | none => true
   | some (code, port) =>
     match code with
     | 1 | 2 | 3 | 4 => queueWaitOver x.t other.exited code port h.stallNeed
     | 12 => h.barWait.all (barWaitOver s x.t)
     | 13 => s.groups.all (fun g => !(g.arrived ++ g.early).contains x.t.uid)
     | 14 => s.links.requests.all (fun r => r.hart != hartNumber x.t onA || r.posted || r.reply.isSome || r.port.isNone)
     | _ => true)

/-- The slots that could take a tandem. -/
def openSlots (s : State) (t : Tandem) : List (Nat × Nat) :=
  ((range 0 256).flatMap (fun c => (range 0 8).map (fun k => (c, k)))).filter (fun x => slotOpen s t x.1 x.2)

/-- Parked tandems whose wait is over go back into free slots, each in its turn; which slot a tandem gets is free (R31). -/
def resumeParked : Nat → List Tandem → State → State
  | 0, _, s => s
  | n + 1, ts, s =>
    match nextResumed ts with
    | none => s
    | some t =>
      let rest := ts.filter (fun z => z.uid ≠ t.uid)
      let slots := openSlots s t
      match slots[Config.choice s.free % slots.length]? with
      | some (core, slot) => resumeParked n rest (dispatchTandem t.uid core slot { s with free := s.free + 1 })
      | none => resumeParked n rest s

/-- The parked tandems that may be placed and whose wait is over (R31). -/
def resumable (s : State) : List Tandem :=
  (s.allTandems.filter (fun x => mayDispatch s x && (match x.t.place with
    | .parked _ _ => true
    | _ => false) && (sideReady s x false || sideReady s x true))).map (·.t)

/-- A context for which a tandem or a queue waits (R270). -/
def hasWaiter (s : State) (c : Context) : Bool :=
  waitedFor s c || s.allTandems.any (fun x => x.t.ctx == c.num && (match x.t.place with
    | .waiting | .parked _ _ => true
    | _ => false))

/-- SCHEDULER_SCAN: writes of kernel areas that wait are tried again, RECLAIMED contexts for which something waits are bound, the heads of BLOCKED
queues are tested again, and parked tandems whose wait is over are dispatched (R31, R270, R281, R315). -/
def execSchedulerScan (s : State) : Host.Outcome State Fault Refusal :=
  .next (let s := flushArea s
    let s := rebind (hasWaiter s) s
    let s := retestAll (fun _ => true) s
    resumeParked (resumable s).length (resumable s) s)

/-! ## Time-triggered mode (R282, R283) -/

/-- Two enabled rows of one queue overlap (R282). -/
def rowsOverlap (a b : TtRow) : Bool :=
  a.enabled && b.enabled && a.queue == b.queue && decide (a.start < b.start + b.len ∧ b.start < a.start + a.len)

/-- A table that the mailbox accepts (R282). -/
def tableOk (s : State) (period : Nat) (rows : List TtRow) : Bool :=
  decide (10000 ≤ period ∧ period ≤ 10000000000 ∧ rows.length ≤ 64) &&
  rows.all (fun r => decide (r.start < 2 ^ 32 ∧ r.len < 2 ^ 32 ∧ r.queue < 4096) &&
    (!r.enabled || (decide (r.len ≠ 0 ∧ r.start + r.len ≤ period) && s.queues.any (fun q => q.num == r.queue && q.tt)))) &&
  (range 0 rows.length).all (fun i => (range 0 i).all (fun j =>
    match rows[i]?, rows[j]? with
    | some a, some b => !rowsOverlap a b
    | _, _ => true))

/-- Slots beyond the 256 are given up, the lowest EPRIO first (R280, R282). -/
def trimSlots : Nat → State → State
  | 0, s => s
  | n + 1, s =>
    if (slotHolders s).length ≤ 256 then s
    else
      match victim s 8 with
      | some v => trimSlots n (switchOut s v.num)
      | none => s

/-- The table in force with its queues in their slots. -/
def installTable (s : State) (period epoch : Nat) (rows : List TtSlot) : State :=
  let rows := rows ++ List.replicate (64 - rows.length) { row := {start := 0, len := 0, queue := 0, skipNext := false, enabled := false } }
  let s : State := { s with tt := { s.tt with on := true, period := period, epoch := epoch, rows := rows } }
  settleTt (trimSlots 256 s)

/-- TT_MODE_ENABLE: time-triggered mode runs with a table, or the mailbox rejects the table (R282). -/
def execTtModeEnable (period epoch : Nat) (rows : List TtRow) (s : State) : Host.Outcome State Fault Refusal :=
  .next (if tableOk s period rows then installTable s period epoch (rows.map (fun r => { row := r }))
    else { s with reports := s.reports ++ [.tableRejected] })

/-- Change a row of the table. -/
def State.modRow (s : State) (i : Nat) (f : TtSlot → TtSlot) : State :=
  { s with tt := { s.tt with rows := (range 0 s.tt.rows.length).zip s.tt.rows |>.map (fun e => if e.1 = i then f e.2 else e.2) } }

/-- The unfinished kernel that a row started. -/
def kernelOfRow (s : State) (i : Nat) : Option Kernel := s.kernels.find? (fun k => k.row == some i && k.live && k.stop.isNone)

/-- TT_SLOT_START: the row's parked kernel resumes; or its queue's head packet is taken; or MISS is set (R283). [DEDUCED, log 79] -/
def execTtSlotStart (row : Nat) (s : State) : Host.Outcome State Fault Refusal :=
  .next (match s.tt.rows[row]? with
    | none => s
    | some r =>
      if s.tt.on = false ∨ r.row.enabled = false then s
      else
        let s := s.modRow row (fun r => { r with active := true, skip := false })
        let miss (s : State) : State := s.modRow row (fun r => { r with miss := true })
        match s.kernels.find? (fun k => k.row == some row && k.ttParked && k.live && k.stop.isNone) with
        | some k => s.modKernel k.ctx k.csn (fun k => { k with ttParked := false })
        | none =>
          if r.skip then miss s
          else
            match s.queue? r.row.queue with
            | none => miss s
            | some q =>
              if q.state.holdsSlot then
                (match tryTake s q (some row) with
                 | (s, true) => s
                 | (s, false) => miss s)
              else miss s)

/-- TT_SLOT_END: a kernel of the row that has not completed counts as an overrun, and the row's rule acts: all of its tandems are parked, or
the next slot is skipped (R283). Tandems in a frozen cluster park when it resumes (R378). -/
def execTtSlotEnd (row : Nat) (s : State) : Host.Outcome State Fault Refusal :=
  .next (match s.tt.rows[row]? with
    | none => s
    | some r =>
      if r.active = false then s
      else
        let s := s.modRow row (fun r => { r with active := false })
        match kernelOfRow s row with
        | none => s
        | some k =>
          let s := s.modRow row (fun r => { r with ovrcnt := min (r.ovrcnt + 1) 0xFFFF, skip := r.row.skipNext })
          if r.row.skipNext then s
          else
            let s := s.modKernel k.ctx k.csn (fun k => { k with ttParked := true })
            mapTandems (fun t => t.ctx == k.ctx && t.csn == k.csn && !s.frozen t) (leaveSlot 19) s)

/-- MISS_CLEAR: a 1 written to a row's MISS clears it (R282). -/
def execMissClear (row : Nat) (s : State) : Host.Outcome State Fault Refusal := .next (s.modRow row (fun r => { r with miss := false }))

/-- PPS_INPUT: the 1PPS input marks a second of the local clock (R282). -/
def execPpsInput (s : State) : Host.Outcome State Fault Refusal :=
  .next { s with tt := { s.tt with seconds := s.tt.seconds + 1, timeOfDay := (s.tt.timeOfDay / 1000000000 + 1) * 1000000000 } }

/-- TIME_OF_DAY: the time of day arrives (R282). -/
def execTimeOfDay (ns : Nat) (s : State) : Host.Outcome State Fault Refusal := .next { s with tt := { s.tt with timeOfDay := ns } }

/-! ## Register writes (R4) -/

/-- DBGCTL's writable fields: the reserved bits read 0 (R4, R377). -/
def dbgctlFields (v : Word) : Word := v &&& 0x1FFFFFFF9

/-- Where the model puts the registers whose offsets the manual does not give: the comparators of cluster i at 0x10000 + 128 × i, 16 bytes each,
the rows of the time-triggered table at 0x20000, 16 bytes each, and the read index of sink i at 0x30000 + 8 × i. -/
inductive RegPlace where
  | readOnly
  | dbgaddr (i : Nat)
  | dbgctl (i : Nat)
  | row (i dword : Nat)
  | rindex (sink : Nat)
  | doorbell
  | elsewhere
deriving DecidableEq, Repr

/-- The register at an address of the mailbox BAR, where READY0, READY1 and LINKSTAT are read-only, or of the doorbell window (R277, R371, R390). -/
def regPlace (a : Nat) : RegPlace :=
  if regionOf a = .doorbell then .doorbell
  else if a % 8 ≠ 0 then .elsewhere
  else if a = 0x80 ∨ a = 0x88 ∨ (0x100 ≤ a ∧ a < 0x160) then .readOnly
  else if 0x10000 ≤ a ∧ a < 0x12000 then (if a % 16 = 0 then .dbgaddr ((a - 0x10000) / 16) else .dbgctl ((a - 0x10000) / 16))
  else if 0x20000 ≤ a ∧ a < 0x20400 then .row ((a - 0x20000) / 16) (a % 16 / 8)
  else if 0x30000 ≤ a ∧ a ≤ 0x30000 + 8 * 65536 then .rindex ((a - 0x30000) / 8)
  else .elsewhere

/-- A row with the writable fields of one dword replaced (R282). -/
def rowWrite (dword : Nat) (v : Word) (r : TtRow) : TtRow :=
  if dword = 0 then { r with start := field v 0 32, len := field v 32 32 }
  else { r with queue := field v 0 12, skipNext := v.getLsbD 12, enabled := v.getLsbD 13 }

/-- A row of the table written: MISS is cleared where its bit is written 1 (R4, R282). -/
def slotWrite (dword : Nat) (v : Word) (r : TtSlot) : TtSlot :=
  { r with row := rowWrite dword v r.row, miss := r.miss && !(dword == 1 && v.getLsbD 15) }

/-- REGISTER_WRITE: the writable fields of a register without behaviour of its own take the value; a write elsewhere in the mailbox BAR changes nothing
by itself, for what the firmware does with its mailbox are the other events; while time-triggered mode runs, a table that the
mailbox rejects is not written (R4, R277, R282, R376, R377). [DESIGN CHOICE, log 11] -/
def execRegisterWrite (a : Nat) (v : Word) (s : State) : Host.Outcome State Fault Refusal :=
  let comparator (i : Nat) (f : Comparator → Comparator) : State :=
    { s with dbg := { s.dbg with comparators := sparseSet {} s.dbg.comparators i (f (sparseGet {} s.dbg.comparators i)) } }
  match regPlace a with
  | .readOnly => .next s
  | .dbgaddr i => .next (comparator i (fun c => { c with addr := (v.setWidth 57).signExtend 64 }))
  | .dbgctl i => .next (comparator i (fun c => { c with ctl := dbgctlFields v }))
  | .row i d =>
    .next (let t := s.modRow i (slotWrite d v)
      if s.tt.on = false then t
      else if tableOk t t.tt.period (t.tt.rows.map (·.row)) then installTable t t.tt.period t.tt.epoch t.tt.rows
      else { s with reports := s.reports ++ [.tableRejected] })
  | .rindex k => .next { s with dbg := { s.dbg with sinks := adjustKey s.dbg.sinks k (fun x =>
      if x.rindex ≤ v.toNat ∧ v.toNat ≤ x.windex then { x with rindex := v.toNat } else x) } }
  | .doorbell =>
    .next (match doorbellEvent a v.toNat with
      | some e => { s with inputs := ring e s.inputs }
      | none => s)
  | .elsewhere => .next s

end Sys2Proof.Machine
end

