-- ==== Sys2Proof/Machine/KernelEvent.lean ====
section
/-! DEFINITION. The ends of kernels (R287–R289), the commands that create, bind, reclaim and destroy contexts (R267, R270, R271, R284), and
the tables of the energy budget (R387–R389). -/

namespace Sys2Proof.Machine

/-! ## Completion (R289) -/

/-- The tandems of a kernel. -/
def kernelTandems (s : State) (ctx csn : Nat) : List Away := s.allTandems.filter (fun x => x.t.ctx == ctx && x.t.csn == csn)

/-- No copy and no matrix instruction of a tandem is under way (R287, R288). -/
def Away.enginesIdle (x : Away) : Bool := x.e.copies.isEmpty && x.a.copies.isEmpty && x.t.matrix.isEmpty

/-- Every access of a tandem to host or peer memory is complete at its target (R124). -/
def Away.settled (x : Away) : Bool := x.e.outstanding.isEmpty && x.a.outstanding.isEmpty

/-- How the addition to a completion counter stands. -/
inductive AddEnd where
  | done | failed
  /-- A station, a page under migration or a peer is waited for. -/
  | later
deriving DecidableEq, Repr

/-- The addition cannot be entered in the recovery record: a page of the record that migrates is waited for, and another fault on it faults the
context, whose next bind the addition then waits for (R270, R273, R315). -/
def addWaits (s : State) (k : Kernel) (e : XlatErr) : State := if e.later then s else faultContextAll s k.ctx

/-- The addition at a physical address (R131, R289). -/
def addAt (s : State) (c : Context) (k : Kernel) (pa : Nat) : State × AddEnd :=
  let va := k.doneAddr.toNat
  match regionOf pa with
  | .device => ((atomicDevice 0 pa 8 (fun m => (some ((m + 1) % 2 ^ 64), 0)) s).1, .done)
  | .doorbell =>
    match doorbellEvent pa (doorbellRead s pa + 1) with
    | some i => (let s := doorbellSeen s pa
                 { s with inputs := ring i s.inputs }, .done)
    | none => (doorbellSeen s pa, .done)
  | .host =>
    if s.hostReady = false then (s, .failed)
    else
    match enterRecord s c 0 va 8 0 0 with
    | .error e => (addWaits s k e, .later)
    | .ok s =>
      let s := s.hostSeen (range pa 8)
      let old := ofBytes ((range pa 8).map (readCell s.mem.cells))
      ({ s with mem := { s.mem with
          cells := writeCells s.mem.cells (((range pa 8).zip (toBytes 8 (old + 1))).map (fun e => (e.1, e.2, (0xFF : Byte)))) } }, .done)
  | .peer n =>
    match routePort s.links n pa with
    | none => (s, .failed)
    | some p =>
      match enterRecord s c 0 va 8 1 p with
      | .error e => (addWaits s k e, .later)
      | .ok s =>
        let r := sendRequest s 0 va pa (.atomic 0 8 1 0) (some p) false
        (r.1.modKernel k.ctx k.csn (fun k => { k with adding := some r.2 }), .later)
  | .unassigned => (s, .failed)

/-- The addition of 1 to a kernel's completion counter, in the kernel's context as a program of it would make it (R289). [DEDUCED, log 81] -/
def addDone (s : State) (k : Kernel) : State × AddEnd :=
  if k.doneAddr = 0 then (s, .done)
  else
    match k.adding with
    | some tag =>
      (match s.links.requests.find? (fun r => r.tag == tag) with
       | some r =>
         let without : State := { s with links := { s.links with requests := s.links.requests.filter (fun z => z.tag ≠ tag) } }
         if r.reply.isSome then (without, .done) else if r.port.isNone then (without, .failed) else (s, .later)
       | none => (s, .failed))
    | none =>
      match s.ctx? k.ctx with
      | none => (s, .failed)
      | some c =>
        match translateBytes s c 0 false false .atomic k.doneAddr.toNat 8 with
        | .error (.migrate, _) | .error (.notReady, _) => (s, .later)
        | .error (.root, _) => (faultContextAll s k.ctx, .failed)
        | .error _ => (s, .failed)
        | .ok xs =>
          if xs.all s.stationReady = false then (s, .later)
          else if xs.any (fun x => (lookup s.mem.bad x.pa).isSome) then (s, .failed)
          else
            match xs with
            | [] => (s, .failed)
            | x :: _ => addAt (xs.foldl (fun s x => markXlat s .atomic x) s) c k x.pa

/-- The queues that a completion of a kernel may let go on: those of its context, and those of its energy partition (R281, R389). -/
def retestAfter (s : State) (ctx : Nat) : State :=
  retestAll (fun q => q.ctx == ctx || partOf s q.ctx == partOf s ctx) s

/-- A kernel's record is written, behind what its kernel area waits for (R284, R315). The error is the state in which it has still to be. -/
def recordKernel (s : State) (k : Kernel) : Except State State :=
  match s.ctx? k.ctx with
  | none => .error s
  | some c =>
    if s.areaWrites.any (fun w => w.ctx == k.ctx) then .error s
    else
      match sysWrite s c 0 (kernelRecordAddr c k.csn) (kernelRecordBytes k) with
      | .ok s' => .ok s'
      | .error e => .error (if e.later then s else faultContextAll s c.num)

/-- A kernel that has faulted or was cancelled is recorded, and then the host is interrupted (R288). -/
def recordStopped (s : State) (k : Kernel) : State :=
  match recordKernel s k with
  | .error s => s
  | .ok s =>
    let s := s.modKernel k.ctx k.csn (fun _ => { k with closing := false })
    retestAfter { s with reports := s.reports ++ [.kernelFaulted k.ctx k.csn] } k.ctx

/-- A kernel whose completion counter could not be added to (R288, R289). -/
def Kernel.addFailed (k : Kernel) : Kernel := { k with adding := none, state := .faulted, fcode := 5, ftid := 0, faddr := k.doneAddr, finfo := 0 }

/-- The end of the completion sequence: the addition is made, or the kernel faults with FCODE 5 (R288, R289). -/
def finishCompletion (s : State) (ctx csn : Nat) : State :=
  match s.kernel? ctx csn with
  | none => s
  | some k =>
    match addDone s k with
    | (s, .later) => s
    | (s, .done) =>
      let s := s.modKernel ctx csn (fun k => { k with adding := none, closing := false })
      let s : State := if k.irq then { s with reports := s.reports ++ [.kernelDone ctx csn] } else s
      retestAfter s ctx
    | (s, .failed) => recordStopped (s.modKernel ctx csn Kernel.addFailed) k.addFailed

/-- The stores that a kernel's tandems still hold are performed. -/
def performKernel (s : State) (ctx csn : Nat) : State :=
  mapTandems (fun t => t.ctx == ctx && t.csn == csn) (fun s x =>
    let (s, e) := performHeldOf s x.t false x.e
    let (s, a) := performHeldOf s x.t true x.a
    (s, { x with e := e, a := a })) s

/-- The record of a kernel whose last engine has finished becomes COMPLETE and its TIDs are free, at system scope before and after; what is added to
the counter comes later (R289). -/
def closeKernel (s : State) (k : Kernel) : State :=
  match recordKernel { s with mem := publishAll s.mem } { k with state := .complete, closing := true } with
  | .error s => s
  | .ok s =>
    let s := s.modKernel k.ctx k.csn (fun k => { k with state := .complete, closing := true })
    let s := dropTandems (fun t => t.ctx == k.ctx && t.csn == k.csn) s
    finishCompletion (retestAfter { s with mem := publishAll s.mem } k.ctx) k.ctx k.csn

/-- KERNEL_COMPLETE: a kernel whose tandems have ended and whose engines have finished is released at system scope, its record becomes
COMPLETE, its TIDs are free and its counter is added to, in this order (R287, R289). The sequence has begun from then on; what its kernel area still
waits for comes first (R315). -/
def execKernelComplete (x csn : Nat) (s : State) : Host.Outcome State Fault Refusal :=
  .next (match s.kernel? x csn with
    | none => s
    | some k =>
      if k.closing = true ∧ k.state = .complete then finishCompletion s x csn
      else if k.closing = true ∧ k.state = .faulted then recordStopped s k
      else if k.state ≠ .draining ∨ k.stop.isSome = true ∨ (kernelTandems s x csn).all (·.enginesIdle) = false then s
      else
        let s := s.modKernel x csn (fun k => { k with closing := true })
        let s := settleAllOwed (performKernel s x csn)
        if (kernelTandems s x csn).all (·.settled) then closeKernel s { k with closing := true } else s)

/-! ## Faults and cancellation (R287, R288) -/

/-- A stopped kernel as its record shows it (R285, R288). -/
def Kernel.stopped (k : Kernel) (w : KernelStop) : Kernel :=
  { k with state := if w.cancelled then .cancelled else .faulted, fcode := w.fcode, ftid := w.ftid, faddr := w.faddr, finfo := w.finfo,
           stop := none }

/-- A tandem of a stopped kernel has stopped or had ended; one of a frozen cluster stops at RESUME (R288, R378). -/
def Tandem.over (t : Tandem) : Bool :=
  match t.place with
  | .ended | .stopped | .draining _ _ => true
  | _ => false

/-- KERNEL_FAULT_RECORD: once a stopped kernel's tandems have stopped and its copies and matrix instructions have completed, its record is written, and
then the host interrupted (R288). -/
def execKernelFaultRecord (x csn : Nat) (s : State) : Host.Outcome State Fault Refusal :=
  .next (match s.kernel? x csn with
    | none => s
    | some k =>
      match k.stop with
      | none => s
      | some w => if (kernelTandems s x csn).all (fun y => y.enginesIdle && y.t.over) then recordStopped s (k.stopped w) else s)

/-- CANCEL: a kernel that has not completed stops; its record becomes CANCELLED once its engines have finished (R287, R288). -/
def execCancel (x csn : Nat) (s : State) : Host.Outcome State Fault Refusal :=
  .next (stopKernel s x csn { cancelled := true, fcode := 0, ftid := 0, faddr := 0, finfo := 0 } (fun _ => false))

/-- RELEASE: the record of a stopped kernel is FREE, and so are its TIDs (R287). -/
def execRelease (x csn : Nat) (s : State) : Host.Outcome State Fault Refusal :=
  .next (match s.kernel? x csn with
    | none => s
    | some k =>
      if k.closing then s
      else
      match k.state with
      | .faulted | .cancelled =>
        let s := s.modKernel x csn (fun k => { k with state := .free })
        let s := writeKernel s 0 x csn
        let s := dropTandems (fun t => t.ctx == x && t.csn == csn) s
        retestAfter { s with kernels := s.kernels.filter (fun j => !(j.ctx == x && j.csn == csn)) } x
      | _ => s)

/-! ## Contexts (R267, R270, R271, R284) -/

/-- CONTEXT_CREATE: a context enters DEFINED with its kernel numbering at 0 (R270, R284). A number in use creates nothing. -/
def execContextCreate (x block : Nat) (s : State) : Host.Outcome State Fault Refusal :=
  .next (let inUse := match s.ctx? x with
      | some c => (match c.state with
        | .destroyed => false
        | _ => true)
      | none => false
    if inUse = true ∨ block % 64 ≠ 0 then s
    else
      { s with
        ctxs := s.ctxs.filter (fun c => c.num ≠ x) ++ [{ num := x, block := block, serial := s.nextUid }]
        nextUid := s.nextUid + 1
        areaWrites := s.areaWrites.filter (fun w => w.ctx ≠ x)
        queues := s.queues.filter (fun q => q.ctx ≠ x)
        kernels := s.kernels.filter (fun k => k.ctx ≠ x)
        away := s.away.filter (fun y => y.t.ctx ≠ x || y.t.firmware.isSome) })

/-- BIND (R267, R270). -/
def execBind (x : Nat) (s : State) : Host.Outcome State Fault Refusal := .next (settleTt (bindContext s x))

/-- The idle context that has not run for longest (R270). -/
def idlest (s : State) : Option Context :=
  leastBy (fun (a b : Context) => decide (a.lastRun < b.lastRun)) (s.ctxs.filter (fun c => c.state = .boundIdle))

/-- The register-cache lines of a context's tandems are written back to their images (R43, R270). A page of theirs that fails faults its kernel, and one that
takes no write now leaves the rest undone (R268, R315). -/
def writeBackImages (s : State) (ctx : Nat) : Except State State :=
  ((s.contextTandems ctx).filter (·.t.started)).foldl (fun r x =>
    match r with
    | .error s => .error s
    | .ok s =>
      match storeImage s x.t x.e x.a with
      | .ok s' => .ok s'
      | .error (_, true) => .error s
      | .error (a, false) => .ok (failArea s x.t a)) (.ok s)

/-- CONTEXT_RECLAIM: while all 512 ASIDs are held and a context waits for one, the idle context that has not run for longest gives up its own: what
it has in the cores is written back, its translations go, and its queues lose their slots (R270). One whose write-back cannot be made now keeps
its ASID. [DEDUCED, log 83] -/
def execContextReclaim (s : State) : Host.Outcome State Fault Refusal :=
  .next (match freeAsid s, idlest s with
    | none, some c =>
      if s.ctxs.any (·.wants) = false then s
      else
      let s := saveAll (fun t => t.ctx == c.num && leftBehind t.core t) s
      if s.allTandems.any (fun y => y.t.ctx == c.num && leftBehind y.t.core y.t) then s
      else
      match writeBackImages s c.num with
      | .error s => s
      | .ok s =>
      let s : State := { s with paging := { s.paging with tlb := s.paging.tlb.filter (fun e => e.asid ≠ c.asid.getD 512) } }
      let s := s.modCtx c.num (fun c => { c with state := .reclaimed, asid := none })
      (s.queues.filter (fun q => q.ctx = c.num && q.state.holdsSlot)).foldl (fun s q => switchOut s q.num) s
    | _, _ => s)

/-- A copy that is cancelled: the bytes of its unwritten chunks hold old or new values (R271). Where the recovery record cannot take the range, they
hold the old ones (R273). -/
def cancelCopy (s : State) (c : Copy) : State :=
  let id := c.id
  let d := coreDie c.core
  let left := (range 0 c.chunks).filter (fun k => !c.done.contains k && (lookup c.stood k).isNone)
  left.foldl (fun s k =>
    let bytes := range (k * 2 ^ c.clog) (c.chunkLen k)
    let srcs := (bytes.flatMap c.sourcesOf).dedup
    let sx := if c.toShared then copyXlats s d true .copyRead srcs else []
    let dx := if c.toShared then [] else copyXlats s d true .copyWrite (bytes.map c.dstAddr)
    match scatterFailed s c (copyKey s.hart id k) bytes (okXlats sx) (okXlats dx) with
    | .ok s' => s'
    | .error _ => s) s

/-- The copies of the hart in focus are cancelled. -/
def cancelCopies (s : State) : State :=
  let s := s.me.copies.foldl cancelCopy s
  { s with me := { s.me with copies := [], copyErrors := [] } }

/-- A tandem of a destroyed context: its held stores and z-tiles are discarded, its matrix work and loops stop (R271). -/
def discardTandem (x : Away) : Away :=
  let quiet (h : Hart) : Hart := { h with held := [], outstanding := [], stalled := none, barWait := none }
  { t := { x.t with
      place := (match x.t.place with
        | .ended | .draining _ _ => .ended
        | _ => .stopped)
      matrix := []
      zt := []
      page := none
      heldRecord := none
      owed := [] }
    e := quiet x.e
    a := quiet x.a }

/-- A record of a destroyed context's kernel: FCODE 4 with every F field 0 (R271, R288). -/
def Kernel.destroyed (k : Kernel) : Kernel :=
  { k with state := .faulted, fcode := 4, ftid := 0, faddr := 0, finfo := 0, stop := none, closing := false, adding := none }

/-- The loops of a tandem are left and its stay on its core ends (R271, R332, R358). -/
def leaveTandem (s : State) (x : Away) : State × Away :=
  let (s, e) := dropLoop s x.t x.e
  let (s, a) := dropLoop s x.t x.a
  (endStay s x.t, { x with e := e, a := a })

/-- The tandem entries and kernel records of a destroyed context as memory then holds them, each behind what was to be written there before; one whose page
is under migration waits (R315). `c` is the context as it was. -/
def recordDestroyed (s : State) (c : Context) (ks : List Kernel) : State :=
  let s := (s.contextTandems c.num).foldl (fun s x =>
    areaWrite s c 0 (tandemEntryAddr c x.t.tid) (toBytes 8 x.t.csn ++ toBytes 8 (x.t.cidx % 2 ^ 40 + x.t.tix * 2 ^ 40 + x.t.tst * 2 ^ 57))) s
  ks.foldl (fun s k => areaWrite s c 0 (kernelRecordAddr c k.csn) (kernelRecordBytes k.destroyed)) s

/-- A context is destroyed: dispatch stops, its tandems and engines stop, what it holds in the device is discarded, its unfinished kernels are
recorded with CONTEXT-DESTROYED, and ASID, partition and key slot are free (R271, R279). [DEDUCED, log 82] -/
def destroyContext (x : Nat) (s : State) : State :=
  match s.ctx? x with
  | none => s
  | some c =>
    if c.state = .destroyed then s
    else
      let us := (s.contextTandems x).map (·.t.uid)
      let mine (r : Request) : Bool := us.contains (r.hart % 2 ^ 40 / 2)
      let s := us.foldl (fun s u => atHart (2 * u + 1) cancelCopies (atHart (2 * u) cancelCopies s)) s
      let s := mapTandems (fun t => t.ctx == x && t.firmware.isNone) leaveTandem s
      let s := mapTandems (fun t => t.ctx == x && t.firmware.isNone) (fun s y => (s, discardTandem y)) s
      let s := (s.queues.filter (fun q => q.ctx = x)).foldl (fun s q =>
        changeQueue s q.num (fun q => { q with state := .disabled, fcode := 4, page := none, heldRecord := none })) s
      let s := s.modCtx x (fun c => { c with
        state := .destroyed, asid := none, wants := false, debugOpen := false, histBase := none, traced := false, sampled := false })
      let s := recordDestroyed s c (s.kernels.filter (fun k => k.ctx == x && k.live))
      { s with
        kernels := s.kernels.map (fun k => if k.ctx == x && k.live then k.destroyed else k)
        groups := s.groups.filter (fun g => g.ctx ≠ x)
        links := { s.links with requests := s.links.requests.filter (fun r => !mine r) }
        paging := { s.paging with tlb := s.paging.tlb.filter (fun e => e.asid ≠ c.asid.getD 512) }
        dbg := if c.keyed then { s.dbg with keys := eraseKey s.dbg.keys c.key } else s.dbg }

/-- DESTROY (R271). -/
def execDestroy (x : Nat) (s : State) : Host.Outcome State Fault Refusal := .next (destroyContext x s)

/-! ## Energy (R387–R389) -/

/-- BUDGET_TABLE_WRITE: one of the 32 budgets (R388). -/
def execBudgetTableWrite (i v : Nat) (s : State) : Host.Outcome State Fault Refusal :=
  .next (if i < 32 then { s with energy := { s.energy with budget := insertKey s.energy.budget i v } } else s)

/-- CLASS_TABLE_WRITE: one of the 8 class forecasts (R388). -/
def execClassTableWrite (i v : Nat) (s : State) : Host.Outcome State Fault Refusal :=
  .next (if i < 8 then { s with energy := { s.energy with classes := insertKey s.energy.classes i v } } else s)

/-- The 32 islands (R9). -/
inductive Island where
  /-- Sixteen cores of a die: its clusters 4i to 4i + 3. -/
  | compute (die i : Nat)
  /-- The three stations of a die. -/
  | memory (die : Nat)
  | fabric (die : Nat)
  | tile (tile i : Nat)
deriving DecidableEq, Repr

/-- The number under which an island's counter is kept. [DESIGN CHOICE, log 106] -/
def Island.num : Island → Nat
  | .compute d i => 6 * d + i
  | .memory d => 6 * d + 4
  | .fabric d => 6 * d + 5
  | .tile t i => 24 + 4 * t + i

/-- The compute island of a core (R7, R9). -/
def coreIsland (core : Nat) : Island := .compute (coreDie core) (core % 64 / 16)

/-- The islands that a partition uses: those of the cores on which tandems of it sit, with the memory and the fabric of their dies (R9, R389). [DESIGN CHOICE, log 106] -/
def islandsUsed (s : State) (part : Nat) : List Island :=
  ((s.allTandems.filter (fun x => x.t.inSlot && partOf s x.t.ctx == part)).flatMap (fun x =>
    [coreIsland x.t.core, .memory x.t.die, .fabric x.t.die])).dedup

/-- The counters of the 32 islands after a window: each has risen by what its island used, which is free, and saturates (R9, R387). [DESIGN CHOICE, log 106] -/
def islandsAfter (s : State) : List (Nat × Nat) :=
  (range 0 32).foldl (fun m i => insertKey m i (min ((lookup m i).getD 0 + Config.microjoules (s.free + i)) (2 ^ 64 - 1))) s.energy.islands

/-- ENERGY_WINDOW: a window of a partition ends with `used` µJ measured; over its budget, the islands that it uses run below nominal in the next
(R389). -/
def execEnergyWindow (part used : Nat) (s : State) : Host.Outcome State Fault Refusal :=
  .next (let budget := (lookup s.energy.budget part).getD 0
    let others := s.energy.slowed.filter (fun e => e.1 ≠ part)
    { s with
      free := s.free + 32
      energy := { s.energy with
        islands := islandsAfter s
        slowed := if budget ≠ 0 ∧ budget * 1000 < used then (islandsUsed s part).map (fun i => (part, i.num)) ++ others else others } })

end Sys2Proof.Machine
end

