-- ==== Sys2Proof/Machine/DebugEvent.lean ====
section
/-! DEFINITION. Debug, trace and security from outside (R375–R386): RESUME, HOLD and RELEASE, sinks and samples, the history ring, the root of
trust, keys and the debug unlocks. -/

namespace Sys2Proof.Machine

/-! ## Stopping (R378, R379) -/

/-- The tandems whose matches froze a cluster. -/
def frozenTasks (s : State) (cl : Nat) : List Tandem :=
  (s.allTandems.filter (fun x => x.t.firmware.isNone && coreCluster x.t.core == cl &&
    (s.dbg.passed.contains (2 * x.t.uid) || s.dbg.passed.contains (2 * x.t.uid + 1)))).map (·.t)

/-- A tandem of a cluster sits in a slot there. -/
def Tandem.sitsIn (cl : Nat) (t : Tandem) : Bool :=
  t.firmware.isNone && coreCluster t.core == cl && (match t.place with
    | .resident _ _ => true
    | _ => false)

/-- What fell due for the tandems of a cluster while it stood frozen: those of kernels that have stopped stop, and those leave their slots that a row of
time-triggered mode parks, whose context is FAULTED, or that a checkpoint quiesces (R270, R283, R288, R363, R378). -/
def overdue (cl : Nat) (s : State) : State :=
  let stops (t : Tandem) : Bool := t.sitsIn cl && ((s.kernel? t.ctx t.csn).bind (·.stop)).isSome
  let leaves (t : Tandem) : Bool := t.sitsIn cl && (s.rel.quiesced || ((s.kernel? t.ctx t.csn).map (·.ttParked)).getD false ||
    ((s.ctx? t.ctx).map (fun c => c.state == .faulted)).getD false)
  let us := (s.allTandems.filter (fun x => stops x.t)).map (·.t.uid)
  let s := mapTandems stops (stopTandem (fun _ => false)) s
  let s := (s.allTandems.filter (fun x => us.contains x.t.uid)).foldl (fun s x => writeTandemEntry s x.t) s
  let s := mapTandems leaves (leaveSlot 19) s
  if s.rel.quiesced then saveAll (fun t => leftBehind t.core t) s else s

/-- The clock of a cluster's cores runs on from where it stood (R378). -/
def runClocks (cl : Nat) (s : State) : State :=
  let stood := s.now - (lookup s.dbg.frozenAt cl).getD s.now
  let s := mapTandems (·.sitsIn cl) (fun s x => (s, { x with t := { x.t with since := x.t.since + stood } })) s
  { s with dbg := { s.dbg with frozen := s.dbg.frozen.filter (· ≠ cl), frozenAt := eraseKey s.dbg.frozenAt cl } }

/-- RESUME: a frozen cluster runs on: its held replies are delivered in their order, a type-4 record is written, and what fell due meanwhile is
done (R375, R378). What DATA of that record holds is not said. [DEDUCED, log 86] -/
def execResume (cluster : Nat) (s : State) : Host.Outcome State Fault Refusal :=
  .next (if s.dbg.frozen.contains cluster then
      let held := s.dbg.skid.filter (fun e => e.1 == cluster)
      let ts := frozenTasks s cluster
      let s := runClocks cluster s
      let s : State := { s with dbg := { s.dbg with skid := s.dbg.skid.filter (fun e => e.1 ≠ cluster) } }
      let s := held.foldl (fun s e => deliverReply e.2.1 e.2.2 s) s
      let s := ts.foldl (fun s t =>
        let side := if t.single then 2 else if s.dbg.passed.contains (2 * t.uid + 1) then 1 else 0
        putRecord { s with free := s.free + 1 } t.ctx t side 4 (Config.choice s.free % 2 ^ 64) 0) s
      overdue cluster s
    else s)

/-- The context of a queue has kernel debug open (R383). -/
def queueDebugOpen (s : State) (q : Queue) : Bool := ((s.ctx? q.ctx).map (·.debugOpen)).getD false

/-- HOLD: a queue takes no further packet; the stop lands when its kernels have ended (R379, R383). -/
def execHold (q : Nat) (s : State) : Host.Outcome State Fault Refusal :=
  .next (s.modQueue q (fun q => if queueDebugOpen s q then { q with hold := true } else q))

/-- DEBUG_RELEASE: a held queue takes packets again (R379). -/
def execDebugRelease (q : Nat) (s : State) : Host.Outcome State Fault Refusal :=
  .next (s.modQueue q (fun q => { q with hold := false, landed := false }))

/-- The stops of held queues whose kernels have all ended have landed (R379). -/
def settleHolds (s : State) : State :=
  { s with queues := s.queues.map (fun q =>
      if q.hold && !q.landed && s.kernels.all (fun k => k.ctx != q.ctx || k.qid != q.num || !k.live) then { q with landed := true } else q) }

/-! ## Trace and history (R375, R376, R380) -/

/-- HISTORY_ENABLE: the context's tandems keep their rings at HISTBASE, a multiple of 0x2000 (R380, R383). -/
def execHistoryEnable (x : Nat) (base : Word) (s : State) : Host.Outcome State Fault Refusal :=
  .next (s.modCtx x (fun c => if c.debugOpen ∧ base.toNat % 0x2000 = 0 then { c with histBase := some base.toNat } else c))

/-- The number of the firmware domain's sink. -/
def firmwareSink : Nat := 65536

/-- The period of PC samples lies between 1 µs and 1 s, in nanoseconds (R376). -/
def periodOk (sample : Bool) (period : Nat) : Bool := !sample || decide (1000 ≤ period ∧ period ≤ 1000000000)

/-- TRACE_ENABLE: a sink of `len` records is named, and trace and PC samples of a context are turned on or off; firmware debug has a sink of its
own (R376, R383). A domain that is not open gets none. -/
def execTraceEnable (x base len : Nat) (trace sample : Bool) (period : Nat) (s : State) : Host.Outcome State Fault Refusal :=
  .next (let sink : State := { s with dbg := { s.dbg with sinks := insertKey s.dbg.sinks x { base := base, len := len } } }
    if periodOk sample period = false then s
    else if x = firmwareSink then (if s.dbg.firmwareOpen then sink else s)
    else if ((s.ctx? x).map (·.debugOpen)).getD false then
      sink.modCtx x (fun c => { c with traced := trace, sampled := sample, period := period })
    else s)

/-- The PC samples of one tandem's resident harts. -/
def samplePcs (s : State) (x : Away) : State :=
  let one (side : Nat) (h : Hart) (s : State) : State :=
    if h.exited then s else putRecord s x.t.ctx x.t side 6 h.pc.toNat 0
  match x.t.place with
  | .resident _ _ => if x.t.single then one 2 x.e s else one 1 x.a (one 0 x.e s)
  | _ => s

/-- PC_SAMPLE: a sample of each resident hart of every context whose samples are on (R376). -/
def execPcSample (s : State) : Host.Outcome State Fault Refusal :=
  .next (s.allTandems.foldl (fun s x => if ((s.ctx? x.t.ctx).map (·.sampled)).getD false then samplePcs s x else s) s)

/-- DROP_RECORD: once a sink has room, the count of discarded records is written as one type-5 record (R376). Which task it names is not
said. -/
def execDropRecord (x : Nat) (s : State) : Host.Outcome State Fault Refusal :=
  .next (match lookup s.dbg.sinks x with
    | none => s
    | some k =>
      if k.dropped = 0 ∨ k.len ≤ k.windex - k.rindex then s
      else
        let f (i n : Nat) : Nat := Config.choice (s.free + i) % n
        let t : Tandem := { csn := f 0 (2 ^ 64), qid := f 1 4096, core := f 2 256, slot := f 3 8 }
        let s : State := { s with
          free := s.free + 5
          dbg := { s.dbg with sinks := insertKey s.dbg.sinks x { k with dropped := 0 } } }
        putRecord s x t (f 4 3) 5 k.dropped 0)

/-! ## Root of trust (R384, R385) -/

/-- DSM extended with an event (R384). -/
def extendDsm (s : State) (kind x : Nat) : State :=
  { s with dbg := { s.dbg with dsm := Config.sha512 (toBytes 64 s.dbg.dsm ++ Config.debugEvent kind x) } }

/-- A firmware image verifies under the fused vendor key (R384). -/
def imageVerifies (i : FwImage) : Bool := Config.ecdsaVerify Config.vendorKey i.digest i.signature

/-- The measurement registers after the images that verify have been measured, one register each (R384). -/
def measured (images : List FwImage) : List Nat :=
  (images.filter imageVerifies).map (fun i => Config.extendMeasurement 0 i.digest)

/-- DEVICE_RESET: the device is as State.reset has it; every firmware image is verified, one that fails is refused, the others are measured, and
DSM is the digest of 64 zero bytes (R384). What the outside world has still to send stays. -/
def execDeviceReset (images : List FwImage) (s : State) : Host.Outcome State Fault Refusal :=
  .next { State.reset with
    inputs := s.inputs
    free := s.free
    dbg := { State.reset.dbg with measurements := measured images }
    reports := ((range 0 images.length).zip images).filterMap (fun e => if imageVerifies e.2 then none else some (.imageRefused e.1)) }

/-- CHALLENGE: the device issues a challenge of 32 bytes, good for one attempt (R386). -/
def execChallenge (s : State) : Host.Outcome State Fault Refusal :=
  .next (let c := Config.freshChallenge s.free % 2 ^ 256
    { s with free := s.free + 1, dbg := { s.dbg with challenge := some c }, reports := s.reports ++ [.challenge c] })

/-- The key slots in use. -/
def keysInUse (s : State) : List Nat := s.dbg.keys.map (·.1)

/-- ATTESTATION_REPORT: nonce, measurements, DSM, lifecycle state and key slots in use, signed with the identity key (R384). -/
def execAttestationReport (nonce : Nat) (s : State) : Host.Outcome State Fault Refusal :=
  .next { s with reports := s.reports ++
    [.attestation nonce s.dbg.measurements s.dbg.dsm Config.lifecycle (keysInUse s)
      (Config.ecdsaSign (Config.reportDigest nonce s.dbg.measurements s.dbg.dsm Config.lifecycle (keysInUse s)))] }

/-- KEY_LOAD: a wrapped tenant key goes into one of the 256 slots (R385). -/
def execKeyLoad (slot wrapped : Nat) (s : State) : Host.Outcome State Fault Refusal :=
  .next (if slot < 256 then { s with dbg := { s.dbg with keys := insertKey s.dbg.keys slot (Config.unwrapKey wrapped) } } else s)

/-! ## Debug unlocks (R383, R386) -/

/-- A token passes the first two steps (R386): the fuses allow firmware debug, and DEVID, lifecycle state, challenge and signature are right. -/
def tokenGood (s : State) (token : List Byte) : Bool :=
  let part (lo n : Nat) : Nat := ofBytes ((token.drop lo).take n)
  !Config.debugFusedOff && decide (token.length = 232) && part 0 64 == Config.devId && part 64 4 == Config.lifecycle &&
  s.dbg.challenge == some (part 68 32) &&
  Config.ecdsaVerify Config.authorityKey (Config.sha512 (token.take 100)) (part 100 132)

/-- The contexts that a firmware unlock destroys (R386). -/
def toDestroy (s : State) : List Nat :=
  (s.ctxs.filter (fun c => match c.state with
    | .defined | .destroyed => false
    | _ => true)).map (·.num)

/-- FIRMWARE_DEBUG_UNLOCK: with a good token the keys are wiped, the contexts destroyed, the port opened and DSM extended, in this order. A
failure is counted, and after eight every token is refused. Either way the challenge is used up (R386). [DEDUCED, log 87] -/
def execFirmwareDebugUnlock (token : List Byte) (s : State) : Host.Outcome State Fault Refusal :=
  .next (if 8 ≤ s.dbg.unlockFails then s
    else
      let good := tokenGood s token
      let s : State := { s with dbg := { s.dbg with challenge := none } }
      if good then
        let s : State := { s with dbg := { s.dbg with keys := [] } }
        let s := (toDestroy s).foldl (fun s x => destroyContext x s) s
        extendDsm { s with dbg := { s.dbg with firmwareOpen := true } } 0 0
      else { s with dbg := { s.dbg with unlockFails := s.dbg.unlockFails + 1 } })

/-- KERNEL_DEBUG_UNLOCK: the driver opens kernel debug for one context with the context's own key slot; DSM is extended (R383, R384). -/
def execKernelDebugUnlock (x slot : Nat) (s : State) : Host.Outcome State Fault Refusal :=
  .next (match s.ctx? x with
    | none => s
    | some c =>
      if c.bound ∧ c.key = slot ∧ (lookup s.dbg.keys slot).isSome = true ∧ c.debugOpen = false then
        extendDsm (s.modCtx x (fun c => { c with debugOpen := true })) 2 x
      else s)

/-- DEBUG_RELOCK: an open domain is closed, with what it had turned on, and DSM is extended (R383, R384). -/
def execDebugRelock (firmware : Bool) (x : Nat) (s : State) : Host.Outcome State Fault Refusal :=
  .next (if firmware then
      (if s.dbg.firmwareOpen then extendDsm { s with dbg := { s.dbg with firmwareOpen := false } } 1 0 else s)
    else
      match s.ctx? x with
      | none => s
      | some c =>
        if c.debugOpen then
          extendDsm (s.modCtx x (fun c => { c with debugOpen := false, histBase := none, traced := false, sampled := false })) 3 x
        else s)

end Sys2Proof.Machine
end

