-- ==== Sys2Proof/Machine/DebugInstr.lean ====
section
/-! DEFINITION. Trace marks and progress points: TMARK and PROGPT (R263, R375, R376, R381). -/

namespace Sys2Proof.Machine

/-- TMARK: a type-1 record that holds s[A], where the context is traced (R263, R375). -/
def tmarkBody (a : BitVec 7) : Exec Unit := do
  coreOnly
  checkSrc a.toNat
  let x ← readS a.toNat
  modState (fun s => if s.myCtx.traced then putRecord s s.tan.ctx s.tan s.sideCode 1 x.toNat 0 else s)

/-- PROGPT: progress counter c of a running trial, one more (R263, R381). -/
def progptBody (c : Nat) : Exec Unit := do
  coreOnly
  require (decide (c ≤ 7))
  modMe (fun h =>
    if h.csr.trctl.getLsbD 0 then
      { h with trial := { h.trial with counters := setNth h.trial.counters c ((h.trial.counters.getD c 0 + 1) % 2 ^ 64) } }
    else h)

/-- TMARK (R263). -/
def execTmark (a : BitVec 7) (s : State) : Host.Outcome State Fault Refusal := runScalar (tmarkBody a) s

/-- PROGPT (R263). -/
def execProgpt (c : BitVec 7) (s : State) : Host.Outcome State Fault Refusal := runScalar (progptBody c.toNat) s

end Sys2Proof.Machine
end

