-- ==== Sys2Proof/Machine/FloatScalar.lean ====
section
/-! DEFINITION. Scalar floating point: FALU and FMA (R163–R166). -/

namespace Sys2Proof.Machine

/-- The bits of a scalar register that an operand of a format reads (R163). [DEDUCED, log 21] -/
def fpIn (f : Fmt) (x : Word) : Nat := x.toNat % 2 ^ f.width

/-- A member of FALU that rounds under FRM with the draw of e = 0 (R163): D from A and B, the flags raised. -/
def falu2 (f : Nat → Nat → Nat → Nat → Nat × Nat) (src : Fmt) (d a b : BitVec 7) : Exec Unit := do
  checkSrc a.toNat
  checkSrc b.toNat
  checkDst d.toNat
  let x ← readS a.toNat
  let y ← readS b.toNat
  let s ← getState
  let m := s.rounding 0
  let r := f m.1 m.2 (fpIn src x) (fpIn src y)
  raise r.2
  writeS d.toNat (BitVec.ofNat 64 r.1)

/-- A unary member of FALU, its operand the low `w` bits of s[A] (R163). -/
def falu1 (f : Nat → Nat → Nat → Nat × Nat) (w : Nat) (d a : BitVec 7) : Exec Unit := do
  checkSrc a.toNat
  checkDst d.toNat
  let x ← readS a.toNat
  let s ← getState
  let m := s.rounding 0
  let r := f m.1 m.2 (x.toNat % 2 ^ w)
  raise r.2
  writeS d.toNat (BitVec.ofNat 64 r.1)

/-- FEQ, FLT and FLE: kind 0, 1, 2; every relation with a NaN is false, FEQ raises NV for a signalling NaN only, the others for any NaN
(R165). -/
def fCompare (f : Fmt) (kind x y : Nat) : Bool × Nat :=
  let a := f.decode x
  let b := f.decode y
  let nv := if kind = 0 then a.signals || b.signals else a.isNaN || b.isNaN
  let r := match kind with
    | 0 => eqVal a b
    | 1 => ltVal a b
    | _ => ltVal a b || eqVal a b
  (r, nvIf nv)

/-- A compare's result as a register holds it. -/
def fCompareReg (f : Fmt) (kind _mode _r x y : Nat) : Nat × Nat :=
  let c := fCompare f kind x y
  (if c.1 then 1 else 0, c.2)

/-- The sign operations on FP32 codes: copy, inverted copy, product; no flag, payloads kept (R164). -/
def fSign (kind _mode _r x y : Nat) : Nat × Nat :=
  let sx := bit x 31
  let sy := bit y 31
  let n := match kind with
    | 0 => sy
    | 1 => !sy
    | _ => sx != sy
  (x % 2 ^ 31 + (if n then 2 ^ 31 else 0), 0)

/-- FMA, FMS and FNMA: D is both accumulator and destination and names no queue end (R16, R166). -/
def fmaScalar (f : Fmt) (negP negD : Bool) (d a b : BitVec 7) : Exec Unit := do
  checkSrc a.toNat
  checkSrc b.toNat
  checkRmw d.toNat
  let x ← readS a.toNat
  let y ← readS b.toNat
  let z ← readS d.toNat
  let s ← getState
  let m := s.rounding 0
  let r := fFma f f m.1 m.2 negP negD (fpIn f x) (fpIn f y) (fpIn f z)
  raise r.2
  writeS d.toNat (BitVec.ofNat 64 r.1)

/-- FADD.S: correctly rounded (R164). -/
def execFaddS (d : BitVec 7) (a : BitVec 7) (b : BitVec 7) (s : State) : Host.Outcome State Fault Refusal :=
  runScalar (falu2 (fAdd fp32) fp32 d a b) s

/-- FSUB.S: correctly rounded (R164). -/
def execFsubS (d : BitVec 7) (a : BitVec 7) (b : BitVec 7) (s : State) : Host.Outcome State Fault Refusal :=
  runScalar (falu2 (fSub fp32) fp32 d a b) s

/-- FMUL.S: correctly rounded (R164). -/
def execFmulS (d : BitVec 7) (a : BitVec 7) (b : BitVec 7) (s : State) : Host.Outcome State Fault Refusal :=
  runScalar (falu2 (fMul fp32) fp32 d a b) s

/-- FDIV.S: correctly rounded (R164). -/
def execFdivS (d : BitVec 7) (a : BitVec 7) (b : BitVec 7) (s : State) : Host.Outcome State Fault Refusal :=
  runScalar (falu2 (fDiv fp32) fp32 d a b) s

/-- FSQRT.S: correctly rounded √a (R164). -/
def execFsqrtS (d : BitVec 7) (a : BitVec 7) (s : State) : Host.Outcome State Fault Refusal :=
  runScalar (falu1 (fSqrt fp32) 32 d a) s

/-- FMIN.S (R165). -/
def execFminS (d : BitVec 7) (a : BitVec 7) (b : BitVec 7) (s : State) : Host.Outcome State Fault Refusal :=
  runScalar (falu2 (fun _ _ x y => minMax fp32 false x y) fp32 d a b) s

/-- FMAX.S (R165). -/
def execFmaxS (d : BitVec 7) (a : BitVec 7) (b : BitVec 7) (s : State) : Host.Outcome State Fault Refusal :=
  runScalar (falu2 (fun _ _ x y => minMax fp32 true x y) fp32 d a b) s

/-- FEQ.S (R165). -/
def execFeqS (d : BitVec 7) (a : BitVec 7) (b : BitVec 7) (s : State) : Host.Outcome State Fault Refusal :=
  runScalar (falu2 (fCompareReg fp32 0) fp32 d a b) s

/-- FLT.S (R165). -/
def execFltS (d : BitVec 7) (a : BitVec 7) (b : BitVec 7) (s : State) : Host.Outcome State Fault Refusal :=
  runScalar (falu2 (fCompareReg fp32 1) fp32 d a b) s

/-- FLE.S (R165). -/
def execFleS (d : BitVec 7) (a : BitVec 7) (b : BitVec 7) (s : State) : Host.Outcome State Fault Refusal :=
  runScalar (falu2 (fCompareReg fp32 2) fp32 d a b) s

/-- FCVT.S.I: an i64 to FP32 (R164, R65). -/
def execFcvtSI (d : BitVec 7) (a : BitVec 7) (s : State) : Host.Outcome State Fault Refusal :=
  runScalar (falu1 (fun m r x => fp32.deliver m r (intVal (toSigned 64 x))) 64 d a) s

/-- FCVT.I.S: FP32 to an i64 (R164, R65). -/
def execFcvtIS (d : BitVec 7) (a : BitVec 7) (s : State) : Host.Outcome State Fault Refusal :=
  runScalar (falu1 (fun m r x => toIntegerCode fp32 true 64 m r x) 32 d a) s

/-- FMA.S (R166). -/
def execFmaS (d : BitVec 7) (a : BitVec 7) (b : BitVec 7) (s : State) : Host.Outcome State Fault Refusal :=
  runScalar (fmaScalar fp32 false false d a b) s

/-- FMS.S (R166). -/
def execFmsS (d : BitVec 7) (a : BitVec 7) (b : BitVec 7) (s : State) : Host.Outcome State Fault Refusal :=
  runScalar (fmaScalar fp32 false true d a b) s

/-- FNMA.S (R166). -/
def execFnmaS (d : BitVec 7) (a : BitVec 7) (b : BitVec 7) (s : State) : Host.Outcome State Fault Refusal :=
  runScalar (fmaScalar fp32 true false d a b) s

/-- FADD.D: correctly rounded (R164). -/
def execFaddD (d : BitVec 7) (a : BitVec 7) (b : BitVec 7) (s : State) : Host.Outcome State Fault Refusal :=
  runScalar (falu2 (fAdd fp64) fp64 d a b) s

/-- FSUB.D: correctly rounded (R164). -/
def execFsubD (d : BitVec 7) (a : BitVec 7) (b : BitVec 7) (s : State) : Host.Outcome State Fault Refusal :=
  runScalar (falu2 (fSub fp64) fp64 d a b) s

/-- FMUL.D: correctly rounded (R164). -/
def execFmulD (d : BitVec 7) (a : BitVec 7) (b : BitVec 7) (s : State) : Host.Outcome State Fault Refusal :=
  runScalar (falu2 (fMul fp64) fp64 d a b) s

/-- FDIV.D: correctly rounded (R164). -/
def execFdivD (d : BitVec 7) (a : BitVec 7) (b : BitVec 7) (s : State) : Host.Outcome State Fault Refusal :=
  runScalar (falu2 (fDiv fp64) fp64 d a b) s

/-- FSQRT.D: correctly rounded √a (R164). -/
def execFsqrtD (d : BitVec 7) (a : BitVec 7) (s : State) : Host.Outcome State Fault Refusal :=
  runScalar (falu1 (fSqrt fp64) 64 d a) s

/-- FMIN.D (R165). -/
def execFminD (d : BitVec 7) (a : BitVec 7) (b : BitVec 7) (s : State) : Host.Outcome State Fault Refusal :=
  runScalar (falu2 (fun _ _ x y => minMax fp64 false x y) fp64 d a b) s

/-- FMAX.D (R165). -/
def execFmaxD (d : BitVec 7) (a : BitVec 7) (b : BitVec 7) (s : State) : Host.Outcome State Fault Refusal :=
  runScalar (falu2 (fun _ _ x y => minMax fp64 true x y) fp64 d a b) s

/-- FEQ.D (R165). -/
def execFeqD (d : BitVec 7) (a : BitVec 7) (b : BitVec 7) (s : State) : Host.Outcome State Fault Refusal :=
  runScalar (falu2 (fCompareReg fp64 0) fp64 d a b) s

/-- FLT.D (R165). -/
def execFltD (d : BitVec 7) (a : BitVec 7) (b : BitVec 7) (s : State) : Host.Outcome State Fault Refusal :=
  runScalar (falu2 (fCompareReg fp64 1) fp64 d a b) s

/-- FLE.D (R165). -/
def execFleD (d : BitVec 7) (a : BitVec 7) (b : BitVec 7) (s : State) : Host.Outcome State Fault Refusal :=
  runScalar (falu2 (fCompareReg fp64 2) fp64 d a b) s

/-- FCVT.D.I: an i64 to FP64 (R164, R65). -/
def execFcvtDI (d : BitVec 7) (a : BitVec 7) (s : State) : Host.Outcome State Fault Refusal :=
  runScalar (falu1 (fun m r x => fp64.deliver m r (intVal (toSigned 64 x))) 64 d a) s

/-- FCVT.I.D: FP64 to an i64 (R164, R65). -/
def execFcvtID (d : BitVec 7) (a : BitVec 7) (s : State) : Host.Outcome State Fault Refusal :=
  runScalar (falu1 (fun m r x => toIntegerCode fp64 true 64 m r x) 64 d a) s

/-- FMA.D (R166). -/
def execFmaD (d : BitVec 7) (a : BitVec 7) (b : BitVec 7) (s : State) : Host.Outcome State Fault Refusal :=
  runScalar (fmaScalar fp64 false false d a b) s

/-- FMS.D (R166). -/
def execFmsD (d : BitVec 7) (a : BitVec 7) (b : BitVec 7) (s : State) : Host.Outcome State Fault Refusal :=
  runScalar (fmaScalar fp64 false true d a b) s

/-- FNMA.D (R166). -/
def execFnmaD (d : BitVec 7) (a : BitVec 7) (b : BitVec 7) (s : State) : Host.Outcome State Fault Refusal :=
  runScalar (fmaScalar fp64 true false d a b) s

/-- FCLASS.S: the class code; no flag (R165). -/
def execFclassS (d : BitVec 7) (a : BitVec 7) (s : State) : Host.Outcome State Fault Refusal :=
  runScalar (falu1 (fun _ _ x => (classCode fp32 x, 0)) 32 d a) s

/-- FCVT.D.S: FP32 to FP64, exact (R164). -/
def execFcvtDS (d : BitVec 7) (a : BitVec 7) (s : State) : Host.Outcome State Fault Refusal :=
  runScalar (falu1 (convert fp32 fp64) 32 d a) s

/-- FCVT.S.D: FP64 to FP32, rounded (R164). -/
def execFcvtSD (d : BitVec 7) (a : BitVec 7) (s : State) : Host.Outcome State Fault Refusal :=
  runScalar (falu1 (convert fp64 fp32) 64 d a) s

/-- FCVT.H.S: FP32 to FP16, rounded (R164). -/
def execFcvtHS (d : BitVec 7) (a : BitVec 7) (s : State) : Host.Outcome State Fault Refusal :=
  runScalar (falu1 (convert fp32 fp16) 32 d a) s

/-- FCVT.S.H: FP16 to FP32, exact (R164). -/
def execFcvtSH (d : BitVec 7) (a : BitVec 7) (s : State) : Host.Outcome State Fault Refusal :=
  runScalar (falu1 (convert fp16 fp32) 16 d a) s

/-- FSGC.S: sign copy; no flag (R164). -/
def execFsgcS (d : BitVec 7) (a : BitVec 7) (b : BitVec 7) (s : State) : Host.Outcome State Fault Refusal :=
  runScalar (falu2 (fSign 0) fp32 d a b) s

/-- FSGI.S: inverted sign; no flag (R164). -/
def execFsgiS (d : BitVec 7) (a : BitVec 7) (b : BitVec 7) (s : State) : Host.Outcome State Fault Refusal :=
  runScalar (falu2 (fSign 1) fp32 d a b) s

/-- FSGX.S: sign product; no flag (R164). -/
def execFsgxS (d : BitVec 7) (a : BitVec 7) (b : BitVec 7) (s : State) : Host.Outcome State Fault Refusal :=
  runScalar (falu2 (fSign 2) fp32 d a b) s

end Sys2Proof.Machine
end

