-- ==== Sys2Proof/Machine/Group.lean ====
section
/-! DEFINITION. Tandems and groups: GRP (R250–R254, R290–R294). -/

namespace Sys2Proof.Machine

/-- The member acts for the whole tandem: on the E-side or in single mode only (R250). -/
def tandemSide : Exec Unit := do
  coreOnly
  let s ← getState
  require (!s.onA)

/-- The strip ends and can no longer be run again; what the hart has written is in every die's view, as a device-scope release leaves it
(R183, R251, R253, R254). -/
def releaseStrip (s : State) : State :=
  let s := s.endStrip.spoilStrip
  { s with mem := s.mem.publish s.tan.die }

/-- The group with a key of the context of the tandem in focus (R290). -/
def State.group? (s : State) (key : Word) : Option Group := s.groups.find? (fun g => g.ctx == s.tan.ctx && g.key == key)

/-- A tandem is a member. -/
def Group.has (g : Group) (u : Nat) : Bool := g.members.any (fun m => m.1 = u)

/-- The group of a key changed; a group without members is gone (R293). -/
def State.modGroup (s : State) (key : Word) (f : Group → Group) : State :=
  let gs := s.groups.map (fun g => if g.ctx == s.tan.ctx && g.key == key then f g else g)
  { s with groups := gs.filter (fun g => !g.members.isEmpty) }

/-- The lowest rank that no member holds (R291). -/
def Group.freeRank (g : Group) : Nat := (lowestFree (g.members.map (·.2)) (g.members.length + 1) 0 1).headD 0

/-! ## SPAWN (R251) -/

/-- The new tandems of a SPAWN: s1 is s[A], s2 the place among them, s3 the index, s4 their number, then the argument words (R251). -/
def spawned (k : Kernel) (uid : Nat) (tids : List Nat) (x : Word) (n : Nat) : List Away :=
  ((range 0 tids.length).zip tids).map (fun e =>
    newTandem k (uid + e.1) e.2 (k.tcnt + e.1)
      ([x, BitVec.ofNat 64 e.1, BitVec.ofNat 64 (k.tcnt + e.1), BitVec.ofNat 64 n] ++ k.args))

/-- SPAWN: the tandems are created, or none where the context would hold more than 65,536 (R251). -/
def spawnBody (d a b : BitVec 7) : Exec Unit := do
  tandemSide
  checkSrc a.toNat
  checkSrc b.toNat
  checkDst d.toNat
  let x ← readS a.toNat
  let y ← readS b.toNat
  let n := y.toNat
  require (decide (1 ≤ n ∧ n ≤ 4096))
  modState releaseStrip
  let s ← getState
  let tids := freeTids s s.tan.ctx n
  match s.kernel? s.tan.ctx s.tan.csn with
  | none => writeS d.toNat (BitVec.allOnes 64)
  | some k =>
    if tids.length < n then writeS d.toNat (BitVec.allOnes 64)
    else do
      modState (fun s =>
        let s := addTandems s (spawned k s.nextUid tids x n)
        writeKernel (s.modKernel k.ctx k.csn (fun k => { k with tcnt := k.tcnt + n })) s.tan.die k.ctx k.csn)
      writeS d.toNat (BitVec.ofNat 64 k.tcnt)

/-- SPAWN (R251). -/
def execSpawn (d : BitVec 7) (a : BitVec 7) (b : BitVec 7) (s : State) : Host.Outcome State Fault Refusal :=
  runScalar (spawnBody d a b) s

/-! ## EXIT (R252) -/

/-- The fault markers of the queues that a side pushes are gone (R345). -/
def clearMarkers (onA : Bool) (t : Tandem) : Tandem :=
  let mine (q : Nat) : Bool := if onA then decide (q < 8) else decide (8 ≤ q)
  { t with
    vq := t.vq.map (fun e => if mine e.1 then (e.1, { e.2 with marker := none, owner := none, others := [] }) else e)
    sq := t.sq.map (fun e => if mine e.1 then (e.1, { e.2 with marker := none, owner := none, others := [] }) else e)
    bq := if onA then { t.bq with marker := none, owner := none, others := [] } else t.bq }

/-- EXIT: an active loop is left, the strip closes and its stores are performed, and the side has ended (R19, R252, R259, R286). -/
def exitBody : Exec Unit := do
  coreOnly
  let s ← getState
  abandonSweep s.me
  modState (fun s => ((closeStrip { s with me := s.me.leaveLoop }).endStrip).spoilStrip)
  modState (fun s => { s with me := { s.me with exited := true }, tan := clearMarkers s.onA s.tan })

/-- After an EXIT: a COPY-ERROR that is pending faults the kernel with FCODE 3 (R245, R288), and the tandem ends once both its sides, or
its one side, have exited. -/
def finishExit (s : State) : State :=
  let s := if s.tan.single ∨ s.peer.exited = true then endTandem s else s
  match s.me.copyErrors with
  | [] => s
  | c :: _ =>
    stopKernel s s.tan.ctx s.tan.csn
      { cancelled := false, fcode := 3, ftid := s.tan.tid, faddr := c.addr, finfo := c.word0.toNat % 2 ^ 32 } (fun _ => false)

/-- EXIT (R252). -/
def execExit (s : State) : Host.Outcome State Fault Refusal :=
  match exitBody s with
  | .ok _ s' => .next (finishExit (retire s (s.me.pc + 4) s'))
  | .error e s' => .next (applyStop e (undone s s'))

/-! ## Membership (R253) -/

/-- JOIN: the tandem takes the lowest free rank; a key without a group gets one (R253, R290–R292). -/
def joinBody (d a : BitVec 7) : Exec Unit := do
  tandemSide
  checkSrc a.toNat
  checkDst d.toNat
  let key ← readS a.toNat
  let s ← getState
  let u := s.tan.uid
  require (decide ((s.groups.filter (·.has u)).length < 4))
  match s.group? key with
  | some g => do
    require (!g.has u)
    modState releaseStrip
    modState (fun s => s.modGroup key (fun g => { g with members := g.members ++ [(u, g.freeRank)] }))
    writeS d.toNat (BitVec.ofNat 64 g.freeRank)
  | none => do
    require (decide ((s.groups.filter (fun g => g.ctx == s.tan.ctx)).length < 16384))
    modState releaseStrip
    modState (fun s => { s with groups := s.groups ++ [{ ctx := s.tan.ctx, key := key, members := [(u, 0)] }] })
    writeS d.toNat 0

/-- JOIN (R253). -/
def execJoin (d : BitVec 7) (a : BitVec 7) (s : State) : Host.Outcome State Fault Refusal := runScalar (joinBody d a) s

/-- LEAVE: counts as an arrival at a pending group barrier (R253, R292). -/
def leaveBody (a : BitVec 7) : Exec Unit := do
  tandemSide
  checkSrc a.toNat
  let key ← readS a.toNat
  let s ← getState
  let u := s.tan.uid
  match s.group? key with
  | some g => do
    require (g.has u)
    modState releaseStrip
    modState (fun s => s.modGroup key (fun g => g.leave u))
  | none => illegalOperand

/-- LEAVE (R253). -/
def execLeave (a : BitVec 7) (s : State) : Host.Outcome State Fault Refusal := runScalar (leaveBody a) s

/-- GSIZE, GRANK and TIDG: a value of the group, or of the kernel, reaches s[D] (R253). As members of GRP they leave the strip
non-rewindable (R183). -/
def groupValue (d : BitVec 7) (a : Option (BitVec 7)) (f : State → Word → Word) : Exec Unit := do
  coreOnly
  match a with
  | some a => checkSrc a.toNat
  | none => pure ()
  checkDst d.toNat
  let key ← match a with
    | some a => readS a.toNat
    | none => pure 0
  modState State.spoilStrip
  let s ← getState
  writeS d.toNat (f s key)

/-- The member count of a key (R253). -/
def groupSize (s : State) (key : Word) : Word :=
  match s.group? key with
  | some g => BitVec.ofNat 64 g.members.length
  | none => 0

/-- The tandem's rank in a key, all ones where it is no member (R253). -/
def groupRank (s : State) (key : Word) : Word :=
  match (s.group? key).bind (fun g => lookup g.members s.tan.uid) with
  | some r => BitVec.ofNat 64 r
  | none => BitVec.allOnes 64

/-- The tandem's index in its kernel, and the kernel's tandem count (R253). -/
def tandemIndex (s : State) (_ : Word) : Word :=
  let t := ((s.kernel? s.tan.ctx s.tan.csn).map (·.tcnt)).getD 0
  BitVec.ofNat 64 (s.tan.tix % 2 ^ 32 + t * 2 ^ 32)

/-- GSIZE (R253). -/
def execGsize (d : BitVec 7) (a : BitVec 7) (s : State) : Host.Outcome State Fault Refusal :=
  runScalar (groupValue d (some a) groupSize) s

/-- GRANK (R253). -/
def execGrank (d : BitVec 7) (a : BitVec 7) (s : State) : Host.Outcome State Fault Refusal :=
  runScalar (groupValue d (some a) groupRank) s

/-- TIDG (R253). -/
def execTidg (d : BitVec 7) (s : State) : Host.Outcome State Fault Refusal :=
  runScalar (groupValue d none tandemIndex) s

/-! ## GBAR (R254, R292, R293) -/

/-- A member arrives: the phase begins in a group without one, and an arrival outside the counted set is an early one (R292). -/
def Group.arrive (g : Group) (u : Nat) : Group :=
  if g.arrived.contains u || g.early.contains u then g
  else if g.pending = false then
    settlePhase { g with pending := true, counted := g.members.map (·.1), arrived := [u] }
  else if g.counted.contains u then settlePhase { g with arrived := g.arrived ++ [u] }
  else { g with early := g.early ++ [u] }

/-- GBAR: the first execution arrives; the barrier returns once its phase has completed. The result says whether it did (R254). -/
def gbarBody (a : BitVec 7) : Exec Bool := do
  tandemSide
  checkSrc a.toNat
  let key ← readS a.toNat
  let s ← getState
  let u := s.tan.uid
  match s.group? key with
  | none => illegalOperand
  | some g => do
    require (g.has u)
    modState releaseStrip
    modState (fun s => if g.returned.contains u then s else s.modGroup key (fun g => g.arrive u))
    let s ← getState
    if ((s.group? key).map (fun g => g.returned.contains u)).getD false then do
      modState (fun s => s.modGroup key (fun g => { g with returned := g.returned.filter (· ≠ u) }))
      pure true
    else pure false

/-- GBAR sA: an arrival stands while the hart waits; what names the key is popped when the barrier returns (R254). -/
def execGbar (a : BitVec 7) (s : State) : Host.Outcome State Fault Refusal :=
  match gbarBody a s with
  | .ok true s' => .next (retire s (s.me.pc + 4) s')
  | .ok false s' => .next (waitHere 13 0x44 0 { releaseStrip s with groups := s'.groups })
  | .error e _ => .next (applyStop e s)

end Sys2Proof.Machine
end

