-- ==== Sys2Proof/Machine/LinkEvent.lean ====
section
/-! DEFINITION. Ranlys ports (R366–R371), the accesses of peers and of the host (R367, R373), and the functions that become ready (R390). -/

namespace Sys2Proof.Machine

/-! ## Ports (R368, R371) -/

/-- The code of a port's state (R371). -/
def PortState.code : PortState → Nat
  | .down => 0 | .training => 1 | .up => 2 | .degraded => 3 | .quiesced => 4 | .faulted => 5

/-- LINKSTAT of a port (R371). -/
def linkstat (p : Port) : Nat := p.state.code + min p.fails 0xFFFF * 2 ^ 16 + min p.retry 0xFFFFFFFF * 2 ^ 32

/-- Bit `i` of a word set or cleared. -/
def putBit (w : Word) (i : Nat) (b : Bool) : Word := setField w i 1 (if b then 1 else 0)

/-- One of the twelve ports changed; its READY bit follows its state (R371, R390). [DEDUCED, log 84] -/
def changePort (s : State) (p : Nat) (f : Port → Port) : State :=
  if p < 12 then
    let q := f (s.links.port p)
    { s with links := { s.links with ports := insertKey s.links.ports p q }, ready1 := putBit s.ready1 (16 + p) q.carries }
  else s

/-- PARTNER_DETECTED: DOWN to TRAINING (R368). -/
def execPartnerDetected (p : Nat) (s : State) : Host.Outcome State Fault Refusal :=
  .next (changePort s p (fun q => match q.state with
    | .down => { q with state := .training, trainFails := 0 }
    | _ => q))

/-- What the end of a training makes of a port in TRAINING that does not become FAULTED (R368). -/
def Port.trained (q : Port) (r : TrainResult) : Port :=
  match q.state, r with
  | .training, .allLanes => { q with state := .up, trainFails := 0 }
  | .training, .halfLanes => { q with state := .degraded, trainFails := 0 }
  | .training, .failed => { q with trainFails := q.trainFails + 1 }
  | _, _ => q

/-- LANE_FAILURE: UP to DEGRADED (R368). -/
def execLaneFailure (p : Nat) (s : State) : Host.Outcome State Fault Refusal :=
  .next (changePort s p (fun q => match q.state with
    | .up => { q with state := .degraded }
    | _ => q))

/-- QUIESCE: UP or DEGRADED to QUIESCED (R368). -/
def execQuiesce (p : Nat) (s : State) : Host.Outcome State Fault Refusal :=
  .next (changePort s p (fun q => if q.carries then { q with state := .quiesced } else q))

/-- PORT_RESUME: QUIESCED to TRAINING (R368). -/
def execPortResume (p : Nat) (s : State) : Host.Outcome State Fault Refusal :=
  .next (changePort s p (fun q => match q.state with
    | .quiesced => { q with state := .training, trainFails := 0 }
    | _ => q))

/-- PORT_RESET: any state to DOWN (R368). -/
def execPortReset (p : Nat) (s : State) : Host.Outcome State Fault Refusal :=
  .next (changePort s p (fun q => { q with state := .down, trainFails := 0 }))

/-- PARTNER_LOST: any state to DOWN (R368). -/
def execPartnerLost (p : Nat) (s : State) : Host.Outcome State Fault Refusal :=
  .next (changePort s p (fun q => { q with state := .down, trainFails := 0 }))

/-- PEER_ROUTE_WRITE: an entry of the peer route table (R366). -/
def execPeerRouteWrite (n : Nat) (valid : Bool) (mask : BitVec 12) (s : State) : Host.Outcome State Fault Refusal :=
  .next (if n < 1024 then { s with links := { s.links with routes := insertKey s.links.routes n (valid, mask) } } else s)

/-- The requests of a port that has faulted and whose replies have not arrived go, with their tags, over another usable port of their route;
those for which there is none lose their port (R370). -/
def rerouteAll (s : State) (p : Nat) : State :=
  (s.links.requests.filter (fun r => r.port == some p && r.reply.isNone)).foldl (fun s r =>
    match regionOf r.pa with
    | .peer n =>
      (match routePort s.links n r.pa with
       | some q => { s with links := resendOver s.links r.tag q }
       | none => { s with links := { s.links with
           requests := s.links.requests.map (fun z => if z.tag = r.tag then { z with port := none, sent := false } else z) } })
    | _ => s) s

/-- Every store that was performed after retirement and has lost its port faults its kernel (R370). -/
def failAllPosted : Nat → State → State
  | 0, s => s
  | n + 1, s => failAllPosted n (failPosted s)

/-- A port's retry is exhausted or its training has failed three times: it is FAULTED, and what was under way on it is sent over another port or fails (R368, R370). -/
def faultPort (s : State) (p : Nat) : State :=
  let s := changePort s p (fun q => { q with state := .faulted, trainFails := 0, fails := min (q.fails + 1) 0xFFFF, buffer := [], rejects := 0 })
  let s := rerouteAll s p
  failAllPosted s.links.requests.length s

/-- TRAINING_DONE: UP, DEGRADED, or after three failures FAULTED (R368, R370). -/
def execTrainingDone (p : Nat) (r : TrainResult) (s : State) : Host.Outcome State Fault Refusal :=
  .next (if r = .failed ∧ (s.links.port p).state = .training ∧ 2 ≤ (s.links.port p).trainFails then faultPort s p
    else changePort s p (fun q => q.trained r))

/-- FLIT_ACK_TIMEOUT: the oldest unacknowledged flit is sent again, and counted in RETRY; one that fails 16 times in succession makes the port
FAULTED, which sends nothing. A QUIESCED port does not become FAULTED (R368, R369, R371). -/
def execFlitAckTimeout (p : Nat) (s : State) : Host.Outcome State Fault Refusal :=
  .next (let q := s.links.port p
    match q.buffer with
    | [] => s
    | f :: rest =>
      if q.completes = false then s
      else if q.carries = true ∧ 16 ≤ f.fails + 1 then faultPort s p
      else changePort s p (fun q => { q with retry := min (q.retry + 1) 0xFFFFFFFF, buffer := { f with fails := f.fails + 1 } :: rest }))

/-! ## Accesses of peers and of the host (R123, R131, R367, R373) -/

/-- What an atomic of another device writes over `m`: those of R173, a scatter-add's addition (R212), and the barrier operations. -/
def peerAtomic (op n x e m : Nat) : Option Nat × Nat :=
  if op < 12 then atomicNew op n m x e
  else if op = 12 then scatterNew e m x
  else if op < 21 then (barNew (op - 16) x m, 0)
  else (if barValid m then some (barCopyNew x m) else none, 0)

/-- An access from outside to device memory: the state after it and the data it answers with. One to the image of a tandem meets its registers: a
read gives them as they stand between two instructions, and a write replaces them there (R45). -/
def outsideAccess (op : PeerOp) (pa : Nat) (s : State) : State × List Byte :=
  match op with
  | .read n => (s, imageView s pa (homeBytes s.mem pa n))
  | .write bs => (writeImages ((range pa bs.length).zip bs) { s with mem := homeStore s.mem pa bs }, [])
  | .atomic o n x e =>
    let r := atomicImage (homeDie pa) pa n (peerAtomic o n x e) s
    (r.1, toBytes n r.2.1)

/-- What a host access through another key slot than that of the data meets: no byte of the data, so that a read answers with free bytes, and a write
leaves free bytes in every 16-byte unit of the cipher that it touches (R373, R385). [DESIGN CHOICE, log 85] -/
def otherKeyAccess (op : PeerOp) (pa : Nat) (s : State) : State × List Byte :=
  let free (n : Nat) : List Byte := (range s.free n).map (fun i => BitVec.ofNat 8 (Config.choice i))
  let lo := pa / 16 * 16
  let n := (pa + accessLength op + 15) / 16 * 16 - lo
  let spoilt : State := { (outsideAccess (.write ((free n).map (fun b => (b, 0xFF)))) lo s).1 with free := s.free + n }
  match op with
  | .read k => ({ s with free := s.free + k }, free k)
  | .write _ => (spoilt, [])
  | .atomic _ k _ _ => (spoilt, free k)

/-- Every station that homes a byte of an access is ready (R390). -/
def stationsReady (s : State) (pa n : Nat) : Bool := (range pa n).all (fun a => s.ready1.getLsbD (homeStation a))

/-- The dies at which an access writes. -/
def writtenDies (op : PeerOp) (pa : Nat) : List Nat :=
  match op with
  | .read _ => []
  | .write bs => (range pa bs.length).map homeDie
  | .atomic _ _ _ _ => [homeDie pa]

/-- How many writes of each die in a list have been applied at it. -/
def ownClocks (m : Mem) (ds : List Nat) : List Nat :=
  (range 0 4).map (fun d => if ds.contains d then (m.clocks.getD d [0, 0, 0, 0]).getD d 0 else 0)

/-- What a request wrote has been applied at every die, so that its reply may go (R124). -/
def Served.complete (r : Served) (m : Mem) : Bool :=
  (range 0 4).all (fun e => (range 0 4).all (fun d => decide (r.after.getD d 0 ≤ (m.clocks.getD e [0, 0, 0, 0]).getD d 0)))

/-- A request of a peer is answered once its writes have been applied at every die and its port has room for the flits of the reply, which the port
keeps until they are acknowledged (R124, R367, R369). -/
def answerOne (s : State) (r : Served) : State :=
  let n := flitCount r.data.length
  if !r.answered && r.complete s.mem && (s.links.port r.port).completes && (s.links.port r.port).room n then
    { s with
      links := { s.links with
        served := s.links.served.map (fun x => if x.tag = r.tag then { x with answered := true } else x)
        ports := adjustKey s.links.ports r.port (fun q => q.put (.reply r.tag) n) }
      reports := s.reports ++ [.reply r.port r.tag.2 r.data] }
  else s

/-- The requests of peers that can be answered are, in order. -/
def answerPeers (s : State) : State := s.links.served.foldl answerOne s

/-- FLIT_RECEIVE: an intact flit is acknowledged, one with the expected number advances it, and it brings acknowledgements of some of the flits that the
port has sent: of how many of the oldest is open. One whose CRC fails is not acknowledged, and 16 in succession make the port FAULTED (R368, R369,
R370). [DEDUCED, log 84] -/
def execFlitReceive (p sq : Nat) (intact : Bool) (s : State) : Host.Outcome State Fault Refusal :=
  .next (let q := s.links.port p
    if p < 12 ∧ q.completes = true then
      let told (s : State) : State := { s with reports := s.reports ++ [.flitAck p sq intact] }
      if intact then
        let n := Config.choice s.free % (q.buffer.length + 1)
        let s := changePort { s with free := s.free + 1 } p (fun q =>
          { q with expect := if sq = q.expect then q.expect + 1 else q.expect, rejects := 0, buffer := q.buffer.drop n })
        answerPeers (told { s with links := s.links.pump })
      else if q.carries = true ∧ 16 ≤ q.rejects + 1 then faultPort (told s) p
      else told (changePort s p (fun q => { q with rejects := q.rejects + 1 }))
    else s)


/-- PEER_REQUEST: a request of a peer is performed at most once, and answered once it is complete; one that the peer sends again with its tag gets the
original reply (R124, R367). An address outside device memory does not exist in a peer's window (R365). [DESIGN CHOICE, log 12] -/
def execPeerRequest (port : Nat) (tag : Nat × Nat) (op : PeerOp) (pa : Nat) (s : State) : Host.Outcome State Fault Refusal :=
  if deviceTop < pa + accessLength op ∨ deviceTop ≤ pa then .fault (.outsideDevice pa)
  else
    .next (if (s.links.port port).carries = false then s
      else
        let again (r : Served) : Bool := r.tag == tag
        if s.links.served.any again then
          answerPeers { s with links := { s.links with
            served := s.links.served.map (fun r => if again r then { r with port := port, answered := false } else r) } }
        else if stationsReady s pa (accessLength op) then
          let r := outsideAccess op pa s
          let s : State := r.1
          let done : Served := { tag := tag, port := port, data := r.2, after := ownClocks s.mem (writtenDies op pa) }
          answerPeers { s with links := { s.links with served := s.links.served ++ [done] } }
        else s)

/-- HOST_MEM_ACCESS: a CXL.mem access of the host takes effect in the home die's view, once the port and the stations are ready (R390); one to a
granule that the firmware's map closes reads poisoned data, writes nothing and is recorded (R373). [DESIGN CHOICE, log 85] -/
def execHostMemAccess (op : PeerOp) (pa : Nat) (s : State) : Host.Outcome State Fault Refusal :=
  if deviceTop < pa + accessLength op ∨ deviceTop ≤ pa then .fault (.outsideDevice pa)
  else
    .next (if s.hostReady = false then s
      else if (range pa (accessLength op)).any (fun a => s.dbg.closed.contains (a / 4096)) then
        { s with reports := s.reports ++ [.granuleRefused pa, .hostReply [] true] }
      else if stationsReady s pa (accessLength op) then
        let r := if (range pa (accessLength op)).any (fun a => s.dbg.otherKey.contains (a / 4096)) then otherKeyAccess op pa s
          else outsideAccess op pa s
        let s : State := r.1
        { s with reports := s.reports ++ [.hostReply r.2 ((range pa (accessLength op)).any (fun a => (lookup s.mem.bad a).isSome))] }
      else s)

/-! ## What the host reads over CXL.io (R277, R371, R372, R390) -/

/-- A read by the host of the mailbox and status page, BAR2: READY0, READY1 and LINKSTAT stand there, and a reserved offset reads 0 (R4, R371, R372,
R390). -/
def statusRead (s : State) (a : Nat) : Word :=
  if a = 0x80 then s.ready0
  else if a = 0x88 then s.ready1
  else if 0x100 ≤ a ∧ a < 0x160 ∧ a % 8 = 0 then BitVec.ofNat 64 (linkstat (s.links.port ((a - 0x100) / 8)))
  else 0

/-- A read by the host of the doorbell window, BAR0 (R277, R372). -/
def windowRead (s : State) (a : Nat) : Word := BitVec.ofNat 64 (doorbellRead s a)

/-- The vector of BAR4 for an event that interrupts the host: a kernel completed, a kernel faulted, a context faulted, a fault buffer full, a core
fenced, a checkpoint failed (R372). Which vector is which is the model's. [DESIGN CHOICE, log 11] -/
def Report.vector : Report → Option Nat
  | .kernelDone _ _ => some 0
  | .kernelFaulted _ _ => some 1
  | .contextFaulted _ => some 2
  | .bufferFull _ => some 3
  | .coreFenced _ _ _ _ => some 4
  | .checkpointFailed => some 5
  | _ => none

/-! ## Bring-up (R390) -/

/-- The hart of a firmware core as it starts (R6, R151). [DESIGN CHOICE, log 14] -/
def firmwareCore (uid i : Nat) : Away :=
  { t := { uid := uid, ctx := firmwareCtx, firmware := some i, place := .resident 0 0, started := true }, e := {}, a := {} }

/-- A firmware core that is ready runs its hart (R6, R390). [DESIGN CHOICE, log 14] -/
def startFirmware (s : State) (i : Nat) : State :=
  if s.allTandems.any (fun x => x.t.firmware == some i) then s
  else { s with away := s.away ++ [firmwareCore s.nextUid i], nextUid := s.nextUid + 1 }

/-- FUNCTION_READY: the READY bit of a function is set; not that of a cluster whose cores are all fenced, nor that of a port that is neither UP
nor DEGRADED. A firmware core begins to run (R6, R358, R371, R390). [DESIGN CHOICE, log 14] -/
def execFunctionReady (f : Function) (s : State) : Host.Outcome State Fault Refusal :=
  .next (match f with
    | .cluster i =>
      if i < 64 ∧ (range 0 4).all (fun k => s.rel.fenced.contains (4 * i + k)) = false then { s with ready0 := putBit s.ready0 i true } else s
    | .station i => if i < 12 then { s with ready1 := putBit s.ready1 i true } else s
    | .port i => if i < 12 ∧ (s.links.port i).carries = true then { s with ready1 := putBit s.ready1 (16 + i) true } else s
    | .cxl => { s with ready1 := putBit s.ready1 28 true }
    | .firmwareCore i => if i < 4 then startFirmware { s with ready1 := putBit s.ready1 (29 + i) true } i else s)

end Sys2Proof.Machine
end

