-- ==== Sys2Proof/Machine/LoadStore.lean ====
section
/-! DEFINITION. Scalar loads and stores, acquire loads and release stores (R169–R171). -/

namespace Sys2Proof.Machine

/-- addr ← s[A] + sext(I10) (R169). -/
def dispAddr (a : BitVec 7) (i : BitVec 10) : Exec Nat := do
  let x ← readS a.toNat
  pure (x + sext i).toNat

/-- LDG, LDGZ and LDS: the loaded value, sign- or zero-extended (R169, R170). -/
def scalarLoad (shared signed : Bool) (d a : BitVec 7) (z : BitVec 2) (i : BitVec 10) : Exec Unit := do
  checkSrc a.toNat
  checkDst d.toNat
  let n := 2 ^ z.toNat
  let addr ← dispAddr a i
  let x ← readMem shared addr n
  writeS d.toNat (if signed then sextN (8 * n) x else BitVec.ofNat 64 x)

/-- STG and STS: D names the data, and pops after A (R16, R169, R170). -/
def scalarStore (shared : Bool) (d a : BitVec 7) (z : BitVec 2) (i : BitVec 10) : Exec Unit := do
  checkSrc a.toNat
  checkSrc d.toNat
  let addr ← dispAddr a i
  let x ← readS d.toNat
  writeMem shared addr (2 ^ z.toNat) x.toNat

/-- LDA and LDAS: an acquire load at s[A], naturally aligned (R171). -/
def acquireLoad (shared : Bool) (n : Nat) (d a : BitVec 7) : Exec Unit := do
  checkSrc a.toNat
  checkDst d.toNat
  let addr ← readS a.toNat
  requireAligned addr.toNat n
  let x ← readMem shared addr.toNat n
  writeS d.toNat (sextN (8 * n) x)

/-- STL and STLS: a release store at s[A], naturally aligned (R171). -/
def releaseBody (shared : Bool) (n : Nat) (a b : BitVec 7) : Exec Unit := do
  checkSrc a.toNat
  checkSrc b.toNat
  let addr ← readS a.toNat
  let x ← readS b.toNat
  requireAligned addr.toNat n
  releaseStore shared addr.toNat n x.toNat

/-- LDG (R169, R170). -/
def execLdg (d : BitVec 7) (a : BitVec 7) (z : BitVec 2) (i : BitVec 10) (s : State) : Host.Outcome State Fault Refusal :=
  runScalar (scalarLoad false true d a z i) s

/-- LDGZ (R169, R170). -/
def execLdgz (d : BitVec 7) (a : BitVec 7) (z : BitVec 2) (i : BitVec 10) (s : State) : Host.Outcome State Fault Refusal :=
  runScalar (scalarLoad false false d a z i) s

/-- STG (R169, R170). -/
def execStg (d : BitVec 7) (a : BitVec 7) (z : BitVec 2) (i : BitVec 10) (s : State) : Host.Outcome State Fault Refusal :=
  runScalar (scalarStore false d a z i) s

/-- LDS (R169, R170). -/
def execLds (d : BitVec 7) (a : BitVec 7) (z : BitVec 2) (i : BitVec 10) (s : State) : Host.Outcome State Fault Refusal :=
  runScalar (scalarLoad true true d a z i) s

/-- STS (R169, R170). -/
def execSts (d : BitVec 7) (a : BitVec 7) (z : BitVec 2) (i : BitVec 10) (s : State) : Host.Outcome State Fault Refusal :=
  runScalar (scalarStore true d a z i) s

/-- LDA.W (R171). -/
def execLdaW (d : BitVec 7) (a : BitVec 7) (s : State) : Host.Outcome State Fault Refusal :=
  runScalar (acquireLoad false 4 d a) s

/-- STL.W (R171). -/
def execStlW (a : BitVec 7) (b : BitVec 7) (s : State) : Host.Outcome State Fault Refusal :=
  runScalar (releaseBody false 4 a b) s

/-- LDA.D (R171). -/
def execLdaD (d : BitVec 7) (a : BitVec 7) (s : State) : Host.Outcome State Fault Refusal :=
  runScalar (acquireLoad false 8 d a) s

/-- STL.D (R171). -/
def execStlD (a : BitVec 7) (b : BitVec 7) (s : State) : Host.Outcome State Fault Refusal :=
  runScalar (releaseBody false 8 a b) s

/-- LDAS.W (R171). -/
def execLdasW (d : BitVec 7) (a : BitVec 7) (s : State) : Host.Outcome State Fault Refusal :=
  runScalar (acquireLoad true 4 d a) s

/-- STLS.W (R171). -/
def execStlsW (a : BitVec 7) (b : BitVec 7) (s : State) : Host.Outcome State Fault Refusal :=
  runScalar (releaseBody true 4 a b) s

/-- LDAS.D (R171). -/
def execLdasD (d : BitVec 7) (a : BitVec 7) (s : State) : Host.Outcome State Fault Refusal :=
  runScalar (acquireLoad true 8 d a) s

/-- STLS.D (R171). -/
def execStlsD (a : BitVec 7) (b : BitVec 7) (s : State) : Host.Outcome State Fault Refusal :=
  runScalar (releaseBody true 8 a b) s

end Sys2Proof.Machine
end

