-- ==== Sys2Proof/Machine/RateSet.lean ====
section
/-! DEFINITION. The rate-classed set (R262, R329–R335): its header and records, the rate changes of a closing sweep, and RSNEW, RSQ and
RSPOL. -/

namespace Sys2Proof.Machine

/-- Bytes that the hart writes at once, each with the bits it changes: a plain store that is never held, or a device-scope write of a sweep's
close, and with `release` the one that makes all before it visible with it (R114, R262, R335). -/
def setWrite (release : Bool) (a : Nat) (bs : List (Byte × Byte)) : Exec Unit := do
  let n := bs.length
  let xs ← resolve false .store a n
  comparators .store a n
  scoreboard true false false a n
  let vs := (range a n).map (fun b => b % 2 ^ 64)
  enterRuns (runsOf (vs.zip xs))
  modState (fun s => landRuns true (storeRuns vs xs bs) (if release then publishFor ((xs.head?.map (·.pa)).getD 0) s else s))

/-- The bytes of an 8-byte value, all of them changed. -/
def wholeWord (x : Nat) : List (Byte × Byte) := (toBytes 8 x).map (fun b => (b, (0xFF : Byte)))

/-- Several 8-byte values written, each at its address. -/
def setWords : List (Nat × Nat) → Exec Unit
  | [] => pure ()
  | (a, x) :: r => do
    setWrite false a (wholeWord x)
    setWords r

/-- The address of a member's record (R329). -/
def recordAddr (header id : Nat) : Nat := (header + 0x40 + 16 * id) % 2 ^ 64

/-- A threshold is no number (R262, R331). -/
def badThreshold (x : Nat) : Bool := (fp32.decode x).isNaN

/-- θ_down > θ_up (R262, R331). -/
def thresholdsCross (up down : Nat) : Bool := ltVal (fp32.decode up) (fp32.decode down)

/-! ## The header and the due list (R329–R331) -/

/-- The eight words of a header. -/
def headerWords (bs : List Byte) : List Nat := (range 0 8).map (fun i => ofBytes ((bs.drop (8 * i)).take 8))

/-- A header with a reserved bit clear everywhere and every field in range; ACT is looked at apart (R331). -/
def headerOk (w : Nat → Nat) : Bool :=
  let cnt := bits (w 0) 16 0
  let blen := bits (w 5) 12 0
  let ek := bits (w 5) 17 16
  decide (w 0 / 2 ^ 17 = 0 ∧ bits (w 1) 62 32 = 0 ∧ bits (w 2) 31 4 = 0 ∧ w 3 / 2 ^ 32 = 0 ∧
    bits (w 5) 15 13 = 0 ∧ w 5 / 2 ^ 18 = 0 ∧ w 7 = 0 ∧ 1 ≤ cnt ∧ cnt ≤ 65536 ∧ 1 ≤ blen ∧ blen ≤ 4096 ∧ ek ≤ 2 ∧
    w 4 % ekSize ek = 0 ∧ w 6 % 64 = 0) &&
  !badThreshold (w 2 / 2 ^ 32) && !badThreshold (w 3 % 2 ^ 32) &&
  !thresholdsCross (w 2 / 2 ^ 32) (w 3 % 2 ^ 32)

/-- A member's NEXT, Q and LAST, with its number. -/
structure Member where
  id : Nat
  next : Nat
  q : Nat
  last : Nat

/-- The records of `n` members from `id` on, each read once (R331). -/
def readMembers (header : Nat) : Nat → Nat → Exec (List Member)
  | 0, _ => pure []
  | n + 1, id => do
    let b ← loadGlobal false false (recordAddr header id) 16
    let d0 := ofBytes (b.take 8)
    let d1 := ofBytes (b.drop 8)
    let r ← readMembers header n (id + 1)
    pure ({ id := id, next := bits d0 31 0, q := bits d0 34 32, last := bits d1 31 0 } :: r)

/-- The copy of header and records that a sweep works from (R331). -/
def sweepOf (header : Nat) (w : Nat → Nat) (ms : List Member) : Sweep :=
  let s := bits (w 1) 31 0
  { header := header
    cnt := bits (w 0) 16 0
    s := s
    pol := bits (w 2) 0 0
    qmax := bits (w 2) 3 1
    thup := w 2 / 2 ^ 32
    thdn := w 3 % 2 ^ 32
    dbase := w 4
    blen := bits (w 5) 12 0
    ek := bits (w 5) 17 16
    slopeb := w 6
    due := (ms.filter (fun m => m.next ≤ s)).map (fun m => (m.id, m.q, m.last))
    lasts := ms.map (fun m => (m.id, m.last)) }

/-- The sweep that a header and its records give, with its trap checks made (R331). -/
def readSweep (header : Nat) : Exec Sweep := do
  let b ← loadGlobal false false header 64
  let ws := headerWords b
  let w := fun i => ws.getD i 0
  require (headerOk w)
  require (bit (w 1) 63 == false)
  let ms ← readMembers header (bits (w 0) 16 0) 0
  pure (sweepOf header w ms)

/-- ACT ← 1 by an atomic OR at the header's home (R331). -/
def openSweep (header : Nat) : Exec Unit := do
  let _ ← atomicMem false false ((header + 8) % 2 ^ 64) 8 2 (2 ^ 63) 0 (fun m => atomicNew 2 8 m (2 ^ 63) 0)
  pure ()

/-! ## Change magnitude and rate changes (R333, R334) -/

/-- An element's value as FP32, exactly. -/
def elementFp32 (ek v : Nat) : Nat := (fp32.deliver 0 0 ((ekFmt ek).decode v)).1

/-- d of a measured element: RoundNE(new − old) (R333). -/
def measureDelta (ek : Nat) (m : Measure) : Nat := (fSub fp32 0 0 (elementFp32 ek m.new) (elementFp32 ek m.old)).1

/-- NaN or an infinity. -/
def notFinite (x : Nat) : Bool := (fp32.decode x).isNaN || (fp32.decode x).isInf

/-- rel of a visited member: max |d| over max(max |old|, 2^−20) (R333). Codes of one sign order as their values do. -/
def relChange (ek : Nat) (ms : List Measure) : Nat :=
  let olds := ms.map (fun m => elementFp32 ek m.old)
  let news := ms.map (fun m => elementFp32 ek m.new)
  let ds := ms.map (measureDelta ek)
  if (olds ++ news ++ ds).any notFinite then 0x7F800000
  else if ms.isEmpty then 0
  else
    let top (xs : List Nat) : Nat := (xs.map (fun x => x % 2 ^ 31)).foldl max 0
    (fDiv fp32 0 0 (top ds) (max (top olds) 0x35800000)).1

/-- The new rate class of a visited member (R334). -/
def Sweep.newRate (w : Sweep) (q rel : Nat) : Nat :=
  let q := min q w.qmax
  if ltVal (fp32.decode rel) (fp32.decode w.thdn) then min (q + 1) w.qmax
  else if ltVal (fp32.decode w.thup) (fp32.decode rel) then 0
  else q

/-- The slope of a measured element: +0 in the sweep of its last visit, otherwise RoundNE(d / RoundNE(S − LAST)) (R334). -/
def Sweep.slope (w : Sweep) (last d : Nat) : Nat :=
  if w.s = last then 0 else (fDiv fp32 0 0 d (fp32.deliver 0 0 (intVal ((w.s : Int) - last))).1).1

/-- The slopes of a member's elements from `k` on are written (R334). -/
def writeSlopes (w : Sweep) (id last : Nat) (ms : List Measure) : Nat → Nat → Exec Unit
  | 0, _ => pure ()
  | n + 1, k => do
    let v := match ms.find? (fun m => m.elem == k) with
      | some m => w.slope last (measureDelta w.ek m)
      | none => 0
    setWrite false ((w.slopeb + 4 * (id * w.blen + k)) % 2 ^ 64) ((toBytes 4 v).map (fun b => (b, (0xFF : Byte))))
    writeSlopes w id last ms n (k + 1)

/-- The new record of a visited member: NEXT, Q, LAST and CHG, every other bit as it stands (R330, R334). -/
def recordBytes (w : Sweep) (q rel : Nat) : List (Byte × Byte) :=
  let whole (n x : Nat) : List (Byte × Byte) := (toBytes n x).map (fun b => (b, (0xFF : Byte)))
  whole 4 (min (w.s + 2 ^ q) 0xFFFFFFFF) ++ [(BitVec.ofNat 8 q, 7), (0, 0), (0, 0), (0, 0)] ++ whole 4 w.s ++ whole 4 rel

/-- The records and slopes of visited members, in ascending order (R334). -/
def closeMembers (w : Sweep) : List (Nat × Nat × Nat) → Exec Unit
  | [] => pure ()
  | (id, q, last) :: r => do
    let ms := w.measures.filter (fun m => m.id == id)
    let rel := relChange w.ek ms
    if w.pol = 1 ∧ w.slopeb ≠ 0 then writeSlopes w id last ms w.blen 0 else pure ()
    setWrite false (recordAddr w.header id) (recordBytes w (w.newRate q rel) rel)
    closeMembers w r

/-- The close of a sweep whose first `n` due members have been visited: records and slopes, then S and ACT as one release (R334, R335). The
held stores have been performed and every store of the sweep is complete. [DEDUCED, log 63] -/
def closeSweep (w : Sweep) (n : Nat) : Exec Unit := do
  closeMembers w (w.due.take n)
  setWrite true ((w.header + 8) % 2 ^ 64) (wholeWord (min (w.s + 1) 0xFFFFFFFF))

/-! ## RSNEW, RSQ and RSPOL (R262) -/

/-- The words that RSNEW initialises in a set of `n` members (R262, R329). -/
def initialWords (header n : Nat) : List (Nat × Nat) :=
  let at_ (o : Nat) : Nat := (header + o) % 2 ^ 64
  [(at_ 0, n), (at_ 8, 0), (at_ 0x10, 7 * 2 + 0x7F800000 * 2 ^ 32), (at_ 0x18, 0)] ++
  (range 0 (2 * n)).map (fun i => (at_ (0x40 + 8 * i), 0))

/-- RSNEW: the current set becomes the one at s[A]; with B ≠ 0 it is initialised first. A header in DEV memory is an illegal operand (R262). [DEDUCED, log 94] -/
def rsnewBody (a b : BitVec 7) : Exec Unit := do
  coreOnly
  checkSrc a.toNat
  checkSrc b.toNat
  let h ← readS a.toNat
  let n ← if b = 0 then pure 1 else readS b.toNat
  require (decide (h.toNat % 64 = 0 ∧ 1 ≤ n.toNat ∧ n.toNat ≤ 65536))
  let xs ← resolve false .load h.toNat 64
  require (!xs.any (·.dev))
  if b = 0 then pure () else do
    modState (fun s => s.endStrip.spoilStrip)
    setWords (initialWords h.toNat n.toNat)
  modMe (fun m => { m with rateSet := some h.toNat })

/-- The header of the current set; without one an illegal-operand trap (R262). -/
def currentSet : Exec Nat := do
  let s ← getState
  match s.me.rateSet with
  | some h => pure h
  | none => illegalOperand

/-- RSQ: s[D] ← the rate class of member s[A] (R262, R330). -/
def rsqBody (d a : BitVec 7) : Exec Unit := do
  coreOnly
  checkSrc a.toNat
  checkDst d.toNat
  let h ← currentSet
  let id ← readS a.toNat
  let w0 ← readMem false h 8
  require (decide (id.toNat < bits w0 16 0))
  let r ← readMem false (recordAddr h id.toNat) 8
  writeS d.toNat (BitVec.ofNat 64 (bits r 34 32))

/-- RSPOL: the policy of the current set (R262). -/
def rspolBody (a b : BitVec 7) : Exec Unit := do
  coreOnly
  checkSrc a.toNat
  checkSrc b.toNat
  let h ← currentSet
  let x ← readS a.toNat
  let y ← readS b.toNat
  require (decide (bits x.toNat 31 4 = 0 ∧ y.toNat / 2 ^ 32 = 0))
  require (!badThreshold (x.toNat / 2 ^ 32) && !badThreshold y.toNat && !thresholdsCross (x.toNat / 2 ^ 32) y.toNat)
  let w1 ← readMem false ((h + 8) % 2 ^ 64) 8
  require (bit w1 63 == false)
  modState (fun s => s.endStrip.spoilStrip)
  setWords [((h + 0x10) % 2 ^ 64, x.toNat), ((h + 0x18) % 2 ^ 64, y.toNat)]

/-- RSNEW (R262). -/
def execRsnew (a b : BitVec 7) (s : State) : Host.Outcome State Fault Refusal := runScalar (rsnewBody a b) s

/-- RSQ (R262). -/
def execRsq (d a : BitVec 7) (s : State) : Host.Outcome State Fault Refusal := runScalar (rsqBody d a) s

/-- RSPOL (R262). -/
def execRspol (a b : BitVec 7) (s : State) : Host.Outcome State Fault Refusal := runScalar (rspolBody a b) s

end Sys2Proof.Machine
end

