-- ==== Sys2Proof/Machine/Loop.lean ====
section
/-! DEFINITION. Marked loops: LMARK, LMARK.SWEEP, LEND and LOFF (R257–R261, R316–R326, R331–R335). -/

namespace Sys2Proof.Machine

/-! ## LMARK and LMARK.SWEEP -/

/-- The word of LEND (R258). -/
def lendWord : BitVec 32 := 0x00000038

/-- The checks of an LMARK in the order of R257: the fetch of the word at its target, the LEND check of R154, the operands. The result is
the address of its LEND. [DEDUCED, log 112] -/
def lmarkChecks (a b : BitVec 7) (o : BitVec 9) : Exec Word := do
  coreOnly
  let s ← getState
  let t := s.me.pc + 4 * sext o
  let w ← fetchAt t.toNat
  if w ≠ lendWord then illegalInstr
  else do
    require (decide (1 ≤ a.toNat ∧ a.toNat ≤ 111 ∧ 1 ≤ b.toNat ∧ b.toNat ≤ 111 ∧ a ≠ b) && s.me.loop.isNone)
    pure t

/-- A loop of no iteration: LSTAT ← COMPLETE, LIDX ← 0 (R257). [DEDUCED, log 94] -/
def emptyLoop (h : Hart) : Hart := { h with csr := { h.csr with lstat := 1, lidx := 0 } }

/-- The loop is activated: STATE ← ACTIVE, REASON ← 1 where LOFF is in force; it is RECORDING with L ← LRECN where the count passes that
(R257, R316). -/
def activateLoop (a b : BitVec 7) (lend : Word) (count : Nat) (start : Word) (w : Option Sweep) (h : Hart) : Hart :=
  let l := h.csr.lrecn.toNat
  let recd : Option Recording := if h.loff = false ∧ l < count then some { l := l, first := 0 } else none
  { h with
    loop := some { start := h.pc + 4, lend := lend, ra := a.toNat, rb := b.toNat, count := count, start0 := start,
                   frm := h.csr.frm, recd := recd, sweep := w }
    csr := { h.csr with lstat := if h.loff then 0x17 else 7 } }

/-- LMARK: the address that control passes to (R257). [DEDUCED, log 60] -/
def lmarkBody (a b : BitVec 7) (o : BitVec 9) : Exec Word := do
  let lend ← lmarkChecks a b o
  let s ← getState
  let n := s.me.readS a.toNat
  if n = 0 then do
    modMe emptyLoop
    pure (lend + 4)
  else do
    modMe (activateLoop a b lend n.toNat (s.me.readS b.toNat) none)
    pure (s.me.pc + 4)

/-- LMARK (R257). -/
def execLmark (a b : BitVec 7) (o : BitVec 9) (s : State) : Host.Outcome State Fault Refusal :=
  match lmarkBody a b o s with
  | .ok npc s' => .next (retireWith true s npc none s')
  | .error e _ => .next (applyStop e s)

/-- The checks of an LMARK.SWEEP and the sweep that its set gives (R260, R331). -/
def sweepChecks (a b : BitVec 7) (o : BitVec 9) : Exec (Word × Sweep) := do
  let lend ← lmarkChecks a b o
  let h ← currentSet
  let w ← readSweep h
  pure (lend, w)

/-- The sweep begins: ACT ← 1, s[A] ← the number of due members, s[B] ← the lowest due id, and its loop is active (R260, R331, R332). -/
def sweepStart (a b : BitVec 7) (lend : Word) (w : Sweep) : Exec Word := do
  openSweep w.header
  let s ← getState
  let first := (w.due.head?.map (fun d => d.1)).getD w.cnt
  modMe (fun h => (h.writeS a.toNat (BitVec.ofNat 64 w.due.length)).writeS b.toNat (BitVec.ofNat 64 first))
  modMe (activateLoop a b lend w.due.length (BitVec.ofNat 64 first) (some w))
  modState (fun s => { s with notes := [] })
  pure (s.me.pc + 4)

/-- A sweep with no due member closes at once: S advances, ACT ends at 0, and control passes to after the LEND (R260, R331, R335). -/
def sweepEmpty (a b : BitVec 7) (lend : Word) (w : Sweep) : Exec Word := do
  openSweep w.header
  closeSweep w 0
  modMe (fun h => emptyLoop ((h.writeS a.toNat 0).writeS b.toNat (BitVec.ofNat 64 w.cnt)))
  modState (fun s => { s with notes := [] })
  pure (lend + 4)

/-- LMARK.SWEEP (R260, R331). The held stores of a closing sweep are performed before anything waits (R335). -/
def execLmarkSweep (a b : BitVec 7) (o : BitVec 9) (s : State) : Host.Outcome State Fault Refusal :=
  match sweepChecks a b o s with
  | .error e _ => .next (applyStop e s)
  | .ok (lend, w) s1 =>
    if w.due = [] then
      -- what stops here has still to read its header again only from the replies it has
      let s2 := s.endStrip.spoilStrip
      if s2.me.outstanding ≠ [] then .next (waitHere 14 0x40 0 s2)
      else
        match sweepEmpty a b lend w s1.endStrip.spoilStrip with
        | .ok npc s3 => .next (retireWith true s npc none s3)
        | .error e _ => .next (applyStop e s2)
    else
      match sweepStart a b lend w s1 with
      | .ok npc s2 => .next (retireWith true s npc none s2)
      | .error e _ => .next (applyStop e s)

/-! ## LEND -/

/-- The value that the index register takes at a LEND: one more, or in a sweep the next due id (R258, R260); after the last due id the
member count, as R260 gives it where none is due. -/
def nextIndex (l : Loop) (x : Word) : Word :=
  match l.sweep with
  | none => x + 1
  | some w => BitVec.ofNat 64 ((w.due[w.pos + 1]?.map (fun d => d.1)).getD w.cnt)

/-- The count and index registers as a LEND leaves them (R258). -/
def stepCounters (l : Loop) (h : Hart) : Hart :=
  (h.writeS l.rb (nextIndex l (h.readS l.rb))).writeS l.ra (h.readS l.ra - 1)

/-- The index value of the iteration under way: its number, or in a sweep the member's id (R319). -/
def Loop.indexValue (l : Loop) : Nat :=
  match l.sweep with
  | none => l.iter
  | some w => (w.due[w.pos]?.map (fun d => d.1)).getD 0

/-- REASON of LSTAT (R326). -/
def loopReason (x : Word) : Nat := field x 4 4

/-- The loop ends by its LEND: STATE ← NOREPLAY where REASON ≠ 0, else COMPLETE; LIDX ← count (R316, R326). -/
def finishLoop (l : Loop) (s : State) : State :=
  let h := stepCounters l s.me
  let st := if loopReason h.csr.lstat = 0 then 1 else 5
  { s with me := { h with
      loop := none
      csr := { h.csr with lstat := setLoopState h.csr.lstat st, lidx := BitVec.ofNat 64 l.count } } }

/-- The loop with the next iteration under way. -/
def Loop.advance (l : Loop) : Loop :=
  { l with iter := l.iter + 1, sweep := l.sweep.map (fun w => { w with pos := w.pos + 1, storePc := none }) }

/-- A recording with the iteration just closed. -/
def Recording.close (r : Recording) (index : Nat) : Recording :=
  { r with iters := r.iters ++ [r.cur], cur := [], past := r.past ++ [r.use], use := {}, index := r.index ++ [index] }

/-- What a LEND makes of the recording: a decline code, the recording as it goes on, or the path and the affine inductions of a confirmed
one. The first has its slot by then, one that only loads from here on (R316, R317, R319, R320, R325). [DEDUCED, log 58] -/
def closeRecording (s : State) (l : Loop) (r : Recording) : Except Nat (Recording × Option (List RecInstr × List RegRef)) :=
  match claimSlot s r with
  | .error c => .error c
  | .ok r =>
    let r' := r.close l.indexValue
    let index := sRef s.me l.ra ++ sRef s.me l.rb
    if streamsAffine r' = false then .error 4
    else if r'.iters.length < r.l then
      (if carriesAffinely index r'.past {} = false ∧ anyDiffer r'.iters = false then .error 6 else .ok (r', none))
    else
      match confirmRecording index r' with
      | .error c => .error c
      | .ok xs => .ok (r', some (r'.iters.headD [], xs))

/-- NRP of LSTAT, one more, saturating at 15 (R321). -/
def countReplay (x : Word) : Word := setField x 12 4 (min (field x 12 4 + 1) 15)

/-- The tandem parks for replay: the loop is in REPLAY from the next iteration on (R321). `l` has been advanced. -/
def startReplay (l : Loop) (rc : Recording) (path : List RecInstr) (regs : List RegRef) (s : State) : State :=
  let h := s.me
  let r : Replay :=
    { j := l.iter, path := path, inductions := regs.map (fun x => (x.num, sparseGet 0 h.s x.num)),
      lead := rc.lead.getD 0, streams := streamsOf h.csr rc }
  let s := s.spoilStrip
  { s with me := { s.me with
      loop := some { l with recd := none, replay := some r }
      csr := { s.me.csr with lstat := countReplay s.me.csr.lstat } } }

/-- The recording of the loop at a LEND after a hand-back: renewed where enough iterations are left (R325). -/
def renewRecording (l : Loop) (h : Hart) : Loop :=
  let n := h.csr.lrecn.toNat
  if l.handed then
    { l with
      handed := false
      recd := if 2 * n ≤ l.count - l.iter - 1 then some { l := n, first := l.iter + 1 } else none }
  else l

/-- A LEND that does not close the loop: the counters step, the recording takes the iteration, and control goes to the loop's start or the
tandem parks for replay (R258, R316, R321, R325). -/
def loopAgain (s : State) (l : Loop) : State :=
  let h := stepCounters l s.me
  let go (l' : Loop) (code : Option Nat) (s : State) : State :=
    let h := { h with loop := some l'.advance }
    { s with me := match code with
        | some c => { h with csr := { h.csr with lstat := setLoopReason h.csr.lstat c } }
        | none => h }
  let back (s' : State) : State := retireWith false s l.start none s'
  match l.recd with
  | none => back (go (renewRecording l s.me) none s)
  | some r =>
    match closeRecording s l r with
    | .error c => back (go { l with recd := none } (some c) s)
    | .ok (r', none) => back (go { l with recd := some r' } none s)
    | .ok (r', some (path, regs)) =>
      parkFocus 18 (back (startReplay l.advance r' path regs { s with me := h }))

/-- The LEND that ends the active loop (R258, R335). -/
def loopEnd (s : State) (l : Loop) : State :=
  match l.sweep with
  | none => retireWith false s (s.me.pc + 4) none (finishLoop l s)
  | some w =>
    let s1 := s.endStrip.spoilStrip
    if s1.me.outstanding ≠ [] then waitHere 14 0x40 0 s1
    else
      match closeSweep w (w.pos + 1) s1 with
      | .ok _ s2 => retireWith false s (s.me.pc + 4) none (finishLoop l s2)
      | .error e _ => applyStop e s1

/-- LEND (R258). -/
def execLend (s : State) : Host.Outcome State Fault Refusal :=
  match s.me.loop with
  | none => .next (takeTrap 1 0 s.me.pc 0 s.irWord s)
  | some l =>
    if s.me.pc ≠ l.lend ∨ l.replay.isSome = true then .next (takeTrap 1 0 s.me.pc 0 s.irWord s)
    else if s.me.readS l.ra = 1 then .next (loopEnd s l)
    else .next (loopAgain s l)

/-! ## LOFF -/

/-- LOFF: the replay-off state from s[A][0] (R261). -/
def loffBody (a : BitVec 7) : Exec Unit := do
  coreOnly
  checkSrc a.toNat
  let x ← readS a.toNat
  require (decide (x.toNat ≤ 1))
  modMe (fun h => { h with loff := x == 1 })

/-- LOFF (R261). -/
def execLoff (a : BitVec 7) (s : State) : Host.Outcome State Fault Refusal := runScalar (loffBody a) s

end Sys2Proof.Machine
end

