-- ==== Sys2Proof/Machine/MatrixMove.lean ====
section
/-! DEFINITION. Tiles: MZ (R72, R73, R79–R83, R220–R224, R232–R237). -/

namespace Sys2Proof.Machine

/-! ## Running an MZ member (R221, R72) -/

/-- The word XINFO holds for an exact overflow (R72). -/
def overflowInfo (tile elem : Nat) : Word := BitVec.ofNat 64 (tile % 16 + elem * 2 ^ 16)

/-- The overflows with those of a batch dealt with: nothing more of it is reported (R72). -/
def settleOverflow (os : List Overflow) (o : Overflow) : List Overflow :=
  { o with done := true } :: os.filter (fun q => q.batch ≠ o.batch)

/-- An overflow is the first of its batch (R72). -/
def Overflow.first (o : Overflow) (os : List Overflow) : Bool := os.all (fun q => q.batch != o.batch || decide (o.seq ≤ q.seq))

/-- The first overflow of a batch, not yet reported, is reported where a test selects it, once for its batch: as a trap where HCTL.XOVT is set, and not
at all where it is clear (R72). [DEDUCED, log 45] -/
def reportOverflow (p : Overflow → Bool) : Exec Unit := fun s =>
  let due := s.tan.overflows.filter (fun o => !o.done && p o && o.first s.tan.overflows)
  match due with
  | [] => .ok () s
  | o :: _ =>
    if s.me.csr.hctl.getLsbD 4 then
      .error (.trap 5 1 s.me.pc 0 (overflowInfo o.tile o.elem))
        { s with tan := { s.tan with overflows := settleOverflow s.tan.overflows o } }
    else .ok () { s with tan := { s.tan with overflows := due.foldl settleOverflow s.tan.overflows } }

/-- A member waits until every posted instruction that targets its tile has completed (R221), and reports an overflow of it (R72), which comes before an
illegal operand that the member finds after its wait. [DESIGN CHOICE, log 119] -/
def awaitTile (j : Nat) : Exec Unit := do
  let s ← getState
  if s.tan.matrix.any (fun p => p.tile == j) then stopWith (.wait 7 0x42)
  else reportOverflow (fun o => o.tile == j)

/-- The checks that every MZ member begins with: the side, VSTART, and the tile it names (R13, R40, R221). -/
def mzBegin (resumes : Bool) (tile : Option Nat) : Exec Unit := do
  engineSide
  if resumes then pure () else checkStart0
  match tile with
  | some j => checkTile j
  | none => pure ()

/-- The tile of the tandem in focus changed. -/
def modTile (f : Tandem → Tandem) : Exec Unit := modTan f

/-- A member that makes its strip non-rewindable (R221). -/
def spoils : Exec Unit := modState State.spoilStrip

/-- A member that needs a mode (R223, R236). -/
def requireMode (j mode : Nat) : Exec Unit := do
  let s ← getState
  require (cfgMode (s.tan.cfg j) == mode)

/-! ## Configuration (R222–R224) -/

/-- The words of a tile filled as MZERO leaves them in a mode (R222). -/
def zeroTile (j mode : Nat) (t : Tandem) : Tandem :=
  let below := t.zt.filter (fun e => decide (e.1 < 16384 * j))
  let above := t.zt.filter (fun e => decide (16384 * (j + 1) ≤ e.1))
  let own : List (Nat × BitVec 32) := if mode = 2 then (range (16384 * j) 8192).map (fun k => (k, 0x3F800000)) else []
  { t with zt := below ++ own ++ above }

/-- The default anchor of R69 for a configuration, with the descriptors as the E-side reads them (R219, R222). -/
def defaultAnchor (t : Tandem) (c : BitVec 64) : Int :=
  let a := t.readTd false (cfgTda c)
  let b := t.readTd false (cfgTdb c)
  if tdLegal a = false ∨ tdLegal b = false ∨ tdKind a = 0 ∨ tdKind b = 0 then 0 else tdUnitExp a + tdUnitExp b

/-- What MZCFG makes of a tile (R222). -/
def configureTile (j : Nat) (c : BitVec 64) (t : Tandem) : Tandem :=
  let old := t.cfg j
  let t' := { t with zcfg := sparseSet 0 t.zcfg j c }
  if cfgMode old = cfgMode c ∧ cfgM old = cfgM c ∧ cfgN old = cfgN c then t'
  else
    let t' := zeroTile j (cfgMode c) t'
    if cfgMode c = 1 then { t' with zanchor := sparseSet 0 t'.zanchor j (defaultAnchor t c) } else t'

/-- MZCFG (R222). -/
def mzcfgBody (z : BitVec 4) (a : BitVec 7) : Exec Unit := do
  mzBegin false (some z.toNat)
  checkSrc a.toNat
  awaitTile z.toNat
  let x ← vecScalar a.toNat
  require (cfgLegal x)
  spoils
  modState State.seeTds
  modTile (configureTile z.toNat x)

/-- MZERO (R222). -/
def mzeroBody (z : BitVec 4) : Exec Unit := do
  mzBegin false (some z.toNat)
  awaitTile z.toNat
  spoils
  let s ← getState
  modTile (zeroTile z.toNat (cfgMode (s.tan.cfg z.toNat)))

/-- The configured elements of a tile by row and column, with their element indices 64i + j (R66). -/
def configured (c : BitVec 64) : List Nat :=
  (range 0 (cfgM c)).flatMap (fun i => (range 0 (cfgN c)).map (fun j => 64 * i + j))

/-- An exact element rescaled from anchor `a` to anchor `b` (R69, R223). -/
def rescale (a b : Int) (i : Int) : Int × Nat :=
  if exactSpecial i then (i, 0)
  else if b ≤ a then
    let x := i * (2 : Int) ^ (a - b).toNat
    if exactBound < x then (exactBound, flagXOF) else if x < -exactBound then (-exactBound, flagXOF) else (x, 0)
  else
    let r := roundShift i.natAbs (b - a).toNat
    (if i < 0 then -(r.1 : Int) else r.1, if r.2 then flagNX else 0)

/-- MANCH (R223). -/
def manchBody (z : BitVec 4) (a : BitVec 7) : Exec Unit := do
  let j := z.toNat
  mzBegin false (some j)
  checkSrc a.toNat
  requireMode j 1
  awaitTile j
  let x ← vecScalar a.toNat
  require (decide (-512 ≤ x.toInt ∧ x.toInt ≤ 511))
  spoils
  let s ← getState
  let old := s.tan.anchor j
  let es := configured (s.tan.cfg j)
  modTile (fun t =>
    let t' := es.foldl (fun t k => t.setExact j k (rescale old x.toInt (t.exact j k)).1) t
    { t' with zanchor := sparseSet 0 t'.zanchor j x.toInt })
  raiseSaved (es.foldl (fun f k => f ||| (rescale old x.toInt (s.tan.exact j k)).2) 0)

/-- MSTAT's word (R224). -/
def mstatWord (t : Tandem) (j : Nat) : Nat :=
  let c := t.cfg j
  let es := configured c
  let exact := cfgMode c == 1
  field c 0 28 +
  (if cfgMode c == 2 && es.any (fun k => t.word j k == 1) then 2 ^ 28 else 0) +
  (if exact && es.any (fun k => t.exact j k == exactBound || t.exact j k == -exactBound) then 2 ^ 29 else 0) +
  (if exact && es.any (fun k => t.exact j k == exactNaN) then 2 ^ 30 else 0) +
  (if exact then ofSigned 10 (t.anchor j) * 2 ^ 32 else 0)

/-- MSTAT (R224). -/
def mstatBody (d : BitVec 7) (z : BitVec 4) : Exec Unit := do
  mzBegin false (some z.toNat)
  checkDst d.toNat
  awaitTile z.toNat
  let s ← getState
  writeS d.toNat (BitVec.ofNat 64 (mstatWord s.tan z.toNat))

/-! ## Elements of a tile (R80, R234) -/

/-- The horizon mark (R80). -/
def horizonMark : Nat := 1

/-- A magnitude below 2^−126 when rounded to FP32 with an unbounded exponent; zero included (R80). -/
def belowHorizon (m : Nat) (e : Int) : Bool := ltVal (.num false m e false) (.num false (2 ^ 25 - 1) (-151) false)

/-- A gain written into a tile or a carry register: below the horizon it is the mark, and a NaN is canonical (R80). -/
def gainIn (x : Nat) : Nat × Nat :=
  match fp32.decode x with
  | .nan s => (0x7FC00000, nvIf s)
  | .num _ m e _ => if belowHorizon m e then (horizonMark, flagHZ) else (x % 2 ^ 32, 0)
  | .inf _ => (x % 2 ^ 32, 0)

/-- A gain delivered: a mark as +0 (R80). -/
def gainOut (x : Nat) : Nat := if x = horizonMark then 0 else x

/-- ToExact (R234). -/
def toExact (a : Int) (v : Val) : Int × Nat :=
  match v with
  | .nan s => (exactNaN, nvIf s)
  | .inf n => (if n then -exactBound else exactBound, flagXOF)
  | .num n m e _ =>
    let r := roundAt m e a
    let nx := if r.2 then flagNX else 0
    if exactBound < r.1 then (if n then -exactBound else exactBound, nx ||| flagXOF)
    else (if n then -(r.1 : Int) else r.1, nx)

/-- The value of an exact element: a saturated one lies beyond every format (R73). -/
def exactVal (a : Int) (i : Int) : Val :=
  if i = exactNaN then .nan false
  else if exactSpecial i then .num (decide (i < 0)) 1 4096 false
  else .num (decide (i < 0)) i.natAbs a false

/-- The word of a tile element that is not exact: an FP32 element, an offset (plane 0) or a gain (plane 1) (R66). -/
def elemWord (mode plane i j : Nat) : Nat :=
  if mode = 0 then 128 * i + j else if plane = 1 then 64 * i + j else 8192 + 64 * i + j

/-- The draw index of a tile element (R234). -/
def drawIndex (mode i j : Nat) : Nat := if mode = 0 then 128 * i + j else 64 * i + j

/-- A tile element as MZST and MZRV deliver it to a format; `none` is the raw 128-bit form (R73, R234). [DEDUCED, log 110] -/
def tileOut (s : State) (z : Nat) (f : Option Fmt) (plane i j : Nat) : Nat × Nat :=
  let t := s.tan
  let mode := cfgMode (t.cfg z)
  let r := s.rounding (drawIndex mode i j)
  if mode = 1 then
    let x := t.exact z (64 * i + j)
    match f with
    | none => (ofSigned 128 x, 0)
    | some f => if x = 0 then (0, 0) else f.deliver r.1 r.2 (exactVal (t.anchor z) x)
  else
    let x := (t.word z (elemWord mode plane i j)).toNat
    if mode = 2 then (if plane = 1 then gainOut x else x, 0)
    else
      match f with
      | some f => convert fp32 f r.1 r.2 x
      | none => (x, 0)

/-- A tile element as MZLD and MZWV set it from a code of a format; the flags (R234). MZWV `copies` FP32 (R235). -/
def tileIn (copies : Bool) (s : State) (z : Nat) (f : Option Fmt) (plane i j x : Nat) (t : Tandem) : Tandem × Nat :=
  let mode := cfgMode (t.cfg z)
  if mode = 1 then
    match f with
    | none => (t.setExact z (64 * i + j) (toSigned 128 x), 0)
    | some f => let r := toExact (t.anchor z) (f.decode x); (t.setExact z (64 * i + j) r.1, r.2)
  else
    let w := elemWord mode plane i j
    if mode = 2 then
      if plane = 1 then (let r := gainIn x; (t.setWord z w r.1, r.2)) else (t.setWord z w x, 0)
    else
      match f with
      | some f =>
        if copies then (t.setWord z w x, 0)
        else
          let q := s.rounding (drawIndex mode i j)
          let r := convert f fp32 q.1 q.2 x
          (t.setWord z w r.1, r.2)
      | none => (t.setWord z w x, 0)

/-! ## MZLD and MZST (R233, R234) -/

/-- The format that OF selects; `none` is the raw 128-bit form (R220). -/
def ofFmt (c : Csr) (code : Nat) : Option Fmt :=
  match code with
  | 0 => some fp16
  | 1 => some bf16
  | 2 => some fp32
  | 3 => some fp64
  | 4 => some e4m3
  | 5 => some e5m2
  | 6 => some (narrowFmt c.nfmt.toNat)
  | _ => none

/-- The nibbles of an element in memory (R58, R233). -/
def ofNibbles (c : Csr) (code : Nat) : Nat :=
  match ofFmt c code with
  | none => 32
  | some f => if f.width ≤ 4 then 1 else 2 * ((f.width + 7) / 8)

/-- Index e of a tile transfer: its plane, row, column and place in memory (R233). -/
def tilePlace (cfg : BitVec 64) (nib base : Nat) (pitch : Int) (e : Nat) : Nat × Nat × Nat × Place1 :=
  let n := cfgN cfg
  if cfgMode cfg = 2 then
    let i := e / (2 * n)
    let r := e % (2 * n)
    (if r < n then 1 else 0, i, r % n, { addr := wrap64 (base + (i : Int) * pitch + ((4 * r : Nat) : Int)), len := 4 })
  else
    let i := e / n
    (0, i, e % n, fieldAt (wrap64 (base + (i : Int) * pitch)) nib (e % n))

/-- The elements of a tile transfer (R233). -/
def tileCount (cfg : BitVec 64) : Nat := cfgM cfg * cfgN cfg * (if cfgMode cfg = 2 then 2 else 1)

/-- The checks of MZLD and MZST: an OF of 6 needs a legal NFMT (R56, R233). -/
def checkTransfer (z : BitVec 4) (a b : BitVec 7) : Exec Unit := do
  mzBegin true (some z.toNat)
  checkSrc a.toNat
  checkSrc b.toNat
  let s ← getState
  require (decide (cfgOf (s.tan.cfg z.toNat) ≠ 6) || narrowLegal s.me.csr.nfmt.toNat)
  awaitTile z.toNat

/-- The raw code of a memory field. -/
def readPlace (p : Place1) : Exec Nat := do
  let bs ← loadBytes false true false p.addr p.len
  pure (match p.nib with
    | some h => ofBytes bs / 16 ^ h % 16
    | none => ofBytes bs)

/-- The first element that raised XOF is kept for the trap behind the instruction (R234). -/
def noteSpill (fl elem : Nat) : Exec Unit :=
  if fl &&& flagXOF = 0 then pure ()
  else modSaved (fun x => { x with spill := some (x.spill.getD elem) })

/-- MZLD (R233, R234). -/
def mzldBody (z : BitVec 4) (a b : BitVec 7) : Exec Unit := do
  checkTransfer z a b
  let base ← vecScalar a.toNat
  let pitch ← vecScalar b.toNat
  spoils
  let s ← getState
  let c := s.me.csr
  let cfg := s.tan.cfg z.toNat
  let nib := ofNibbles c (cfgOf cfg)
  elementsFrom (fun e => do
    let (plane, i, j, p) := tilePlace cfg nib base.toNat pitch.toInt e
    let x ← atomically (readPlace p)
    let s ← getState
    let r := tileIn false s z.toNat (ofFmt c (cfgOf cfg)) plane i j x s.tan
    modTan (fun _ => r.1)
    raiseSaved r.2
    noteSpill r.2 (64 * i + j)) (tileCount cfg - c.start) c.start
  setVstart 0

/-- MZST (R233, R234). -/
def mzstBody (z : BitVec 4) (a b : BitVec 7) : Exec Unit := do
  checkTransfer z a b
  let base ← vecScalar a.toNat
  let pitch ← vecScalar b.toNat
  let s ← getState
  let c := s.me.csr
  let cfg := s.tan.cfg z.toNat
  let nib := ofNibbles c (cfgOf cfg)
  elementsFrom (fun e => do
    let (plane, i, j, p) := tilePlace cfg nib base.toNat pitch.toInt e
    let s ← getState
    let r := tileOut s z.toNat (ofFmt c (cfgOf cfg)) plane i j
    let bs : List (Byte × Byte) := match p.nib with
      | some h => [(BitVec.ofNat 8 (r.1 % 16 * 16 ^ h), BitVec.ofNat 8 (15 * 16 ^ h))]
      | none => (toBytes p.len r.1).map (fun b => (b, 0xFF))
    atomically (storeMasked false true p.addr bs)
    raiseSaved r.2) (tileCount cfg - c.start) c.start
  setVstart 0

/-! ## MZRV and MZWV (R235) -/

/-- row0 and the plane that s[B] selects; none where the word is not legal for the tile and the rows in force (R235). -/
def blockSelect (cfg : BitVec 64) (rows : Nat) (x : Word) : Option (Nat × Nat) :=
  let row0 := field x 0 7
  let plane := field x 7 1
  if field x 8 56 = 0 ∧ (plane = 0 ∨ cfgMode cfg = 2) ∧ row0 + rows ≤ cfgM cfg then some (row0, plane) else none

/-- The widths and columns that MZRV and MZWV accept (R235). -/
def checkBlock (z : Nat) : Exec Unit := do
  let s ← getState
  let c := s.me.csr
  let cfg := s.tan.cfg z
  require (decide ((c.sew = 32 ∨ (c.sew = 64 ∧ cfgMode cfg = 1)) ∧ c.len ≤ cfgN cfg))

/-- The format of elements between a tile and a vector tile (R235). -/
def blockFmt (c : Csr) : Fmt := if c.sew = 64 then fp64 else fp32

/-- MZRV (R235). -/
def mzrvBody (d : BitVec 7) (z : BitVec 4) (b : BitVec 7) : Exec Unit := do
  mzBegin false (some z.toNat)
  let s ← getState
  let c := s.me.csr
  let cfg := s.tan.cfg z.toNat
  checkSrc b.toNat
  checkTileDst d.toNat c.grp
  checkBlock z.toNat
  awaitTile z.toNat
  let x ← vecValue b.toNat
  match blockSelect cfg c.rows x with
  | none => illegalOperand
  | some (row0, plane) => do
    let s ← getState
    putRows d.toNat c.grp c.sew (fun j i =>
      if i < c.len then (let r := tileOut s z.toNat (some (blockFmt c)) plane (row0 + j) i; .value r.1 r.2) else .inactive)

/-- MZWV (R235). -/
def mzwvBody (z : BitVec 4) (a b : BitVec 7) : Exec Unit := do
  mzBegin false (some z.toNat)
  let s ← getState
  let c := s.me.csr
  let cfg := s.tan.cfg z.toNat
  checkTileSrc a.toNat c.grp
  checkSrc b.toNat
  checkBlock z.toNat
  awaitTile z.toNat
  let v ← readTile a.toNat c.grp
  let x ← vecValue b.toNat
  match blockSelect cfg c.rows x with
  | none => illegalOperand
  | some (row0, plane) => do
    spoils
    let s ← getState
    let r := (range 0 (c.rows * c.len)).foldl (fun (r : Tandem × Nat × Option Nat) e =>
      let i := row0 + e / c.len
      let j := e % c.len
      let q := tileIn true s z.toNat (some (blockFmt c)) plane i j (elemLin v c.grp c.sew c.len e) r.1
      (q.1, r.2.1 ||| q.2, if r.2.2.isNone && decide (q.2 &&& flagXOF ≠ 0) then some (64 * i + j) else r.2.2)) (s.tan, 0, none)
    modTan (fun _ => r.1)
    raiseSaved r.2.1
    match r.2.2 with
    | some e => noteSpill flagXOF e
    | none => pure ()

/-! ## Affine work (R79–R83, R236, R237) -/

/-- The value of a gain in a composition: a mark acts as +0 (R80). -/
def gainVal (x : Nat) : Val := fp32.decode (gainOut x)

/-- The composition of (a1, b1) first and (a2, b2) second (R79, R80). -/
def compose (p q : Nat × Nat) : (Nat × Nat) × Nat :=
  let m := mulVal (gainVal q.1) (gainVal p.1)
  let g : Nat × Nat := match m.1 with
    | .num _ k e _ => if belowHorizon k e then (horizonMark, flagHZ) else finish fp32 0 0 m
    | _ => finish fp32 0 0 m
  let o := finish fp32 0 0 (fmaVal 0 (gainVal q.1) (fp32.decode p.2) (fp32.decode q.2))
  ((g.1, o.1), g.2 ||| o.2)

/-- One step of R81 at distance `d` on the rows of a column. -/
def scanStep (d : Nat) (rows : List (Nat × Nat)) : List (Nat × Nat) × Nat :=
  let r := ((range 0 rows.length).zip rows).map (fun e =>
    if e.1 < d then (e.2, 0) else compose (rows.getD (e.1 - d) (0, 0)) e.2)
  (r.map (·.1), r.foldl (fun f e => f ||| e.2) 0)

/-- Step `n + 1` of R81 on a column: its rows, its carry and the flags. Step 7 also applies the carry. -/
def scanColumn (n : Nat) (rows : List (Nat × Nat)) (c : Nat × Nat) : List (Nat × Nat) × (Nat × Nat) × Nat :=
  let a := scanStep (2 ^ n) rows
  if n = 6 then
    let r := a.1.map (compose c)
    let rows' := r.map (·.1)
    (rows', rows'.getLast?.getD c, r.foldl (fun f e => f ||| e.2) a.2)
  else (a.1, c, a.2)

/-- Pair m of a carry register (R35). -/
def carryPair (h : HReg) (m : Nat) : Nat × Nat := (field h (64 * m) 32, field h (64 * m + 32) 32)

/-- Pair m of a carry register written. -/
def setCarryPair (h : HReg) (m : Nat) (p : Nat × Nat) : HReg := setField h (64 * m) 64 (p.1 + p.2 * 2 ^ 32)

/-- The next step of MSCAN, and VSTART with the number of steps that are then complete, or 0 after the last (R81, R82, R236). -/
def mscanBody (z : BitVec 4) (k : BitVec 3) : Exec Unit := do
  let j := z.toNat
  mzBegin true (some j)
  let s ← getState
  requireMode j 2
  require (decide (s.me.csr.start ≤ 7))
  awaitTile j
  spoils
  let s ← getState
  let cfg := s.tan.cfg j
  let n := s.me.csr.start
  if n = 7 then pure ()
  else
    (range 0 (cfgN cfg)).foldl (fun (m : Exec Unit) col => do
      m
      let s ← getState
      let rows := (range 0 (cfgM cfg)).map (fun i =>
        ((s.tan.word j (64 * i + col)).toNat, (s.tan.word j (8192 + 64 * i + col)).toNat))
      let r := scanColumn n rows (carryPair (s.me.readH k.toNat) col)
      modTile (fun t => ((range 0 (cfgM cfg)).zip r.1).foldl (fun t e =>
        (t.setWord j (64 * e.1 + col) e.2.1).setWord j (8192 + 64 * e.1 + col) e.2.2) t)
      modMe (fun h => h.writeH k.toNat (setCarryPair (h.readH k.toNat) col r.2.1))
      raiseSaved r.2.2) (pure ())
  setVstart (if n < 6 then n + 1 else 0)

/-- MGAIN (R236). -/
def mgainBody (z : BitVec 4) (a : BitVec 7) : Exec Unit := do
  let j := z.toNat
  mzBegin false (some j)
  checkSrc a.toNat
  requireMode j 2
  awaitTile j
  let x ← vecScalar a.toNat
  spoils
  let s ← getState
  let g := gainIn (x.toNat % 2 ^ 32)
  modTile (fun t => (configured (s.tan.cfg j)).foldl (fun t k => t.setWord j k g.1) t)
  raiseSaved g.2

/-- MCARRY (R237). -/
def mcarryBody (k : BitVec 3) (a : BitVec 7) : Exec Unit := do
  mzBegin false none
  checkSrc a.toNat
  if a = 0 then modMe (fun h => h.writeH k.toNat ((range 0 128).foldl (fun r m => setCarryPair r m (0x3F800000, 0)) 0))
  else do
    let x ← vecScalar a.toNat
    let bs ← loadBytes false false false x.toNat 1024
    let v := ofBytes bs
    let g (m : Nat) : Nat × Nat := gainIn (v / 2 ^ (64 * m) % 2 ^ 32)
    modMe (fun h => h.writeH k.toNat ((range 0 128).foldl (fun r m =>
      setCarryPair r m ((g m).1, v / 2 ^ (64 * m + 32) % 2 ^ 32)) 0))
    raiseSaved ((range 0 128).foldl (fun f m => f ||| (g m).2) 0)

/-- The bytes that MCARRYST stores (R237). -/
def carryBytes (h : HReg) : List Byte :=
  (range 0 128).flatMap (fun m => toBytes 4 (gainOut (carryPair h m).1) ++ toBytes 4 (carryPair h m).2)

/-- Bytes stored one after the other from VSTART, which names the byte that faults (R218, R237). -/
def storeFromVstart (base : Nat) (bs : List Byte) : Exec Unit := do
  let s ← getState
  elementsFrom (fun e => atomically (storeBytes false false ((base + e) % 2 ^ 64) ((bs.drop e).take 1)))
    (bs.length - s.me.csr.start) s.me.csr.start
  setVstart 0

/-- MCARRYST (R237). -/
def mcarrystBody (k : BitVec 3) (a : BitVec 7) : Exec Unit := do
  mzBegin true none
  checkSrc a.toNat
  let x ← vecScalar a.toNat
  let s ← getState
  storeFromVstart x.toNat (carryBytes (s.me.issued.readH k.toNat))

/-! ## Batches (R129, R232) -/

/-- MCOMMIT (R232). -/
def mcommitBody : Exec Unit := do
  mzBegin false none
  modTan (fun t => { t with openBatch := t.openBatch + 1 })

/-- The closed batches that have not completed (R232). -/
def Tandem.outstandingBatches (t : Tandem) : Nat :=
  (((t.matrix.map (·.batch)).filter (fun b => decide (b < t.openBatch))).dedup).length

/-- MWAIT (R232). The overflow of a closed batch that has completed is reported (R72). -/
def mwaitBody (n : BitVec 7) : Exec Unit := do
  mzBegin false none
  let s ← getState
  if n.toNat < s.tan.outstandingBatches then stopWith (.wait 6 0x42)
  else reportOverflow (fun o => decide (o.batch < s.tan.openBatch) && s.tan.matrix.all (fun p => p.batch ≠ o.batch))

/-- MZLD and MZWV take EXACT-OVERFLOW behind themselves where they raised XOF and HCTL.XOVT is set (R234). -/
def runTileWrite (z : BitVec 4) (b : Exec Unit) (s : State) : Host.Outcome State Fault Refusal :=
  match b (beginVector s) with
  | .ok _ s' =>
    let t := retire s (s.me.pc + 4) s'
    match (s'.me.savedNow.bind (·.spill)), s.me.csr.hctl.getLsbD 4 with
    | some e, true => .next (takeTrap 5 1 (s.me.pc + 4) 0 (overflowInfo z.toNat e) t)
    | _, _ => .next t
  | .error e s' => .next (stopped e s s')

/-- MZCFG (R222). -/
def execMzcfg (z : BitVec 4) (a : BitVec 7) (s : State) : Host.Outcome State Fault Refusal :=
  runKeep (mzcfgBody z a) s

/-- MZERO (R222). -/
def execMzero (z : BitVec 4) (s : State) : Host.Outcome State Fault Refusal :=
  runKeep (mzeroBody z) s

/-- MZLD (R233, R234). -/
def execMzld (z : BitVec 4) (a : BitVec 7) (b : BitVec 7) (s : State) : Host.Outcome State Fault Refusal :=
  runTileWrite z (mzldBody z a b) s

/-- MZST (R233, R234). -/
def execMzst (z : BitVec 4) (a : BitVec 7) (b : BitVec 7) (s : State) : Host.Outcome State Fault Refusal :=
  runKeep (mzstBody z a b) s

/-- MZRV (R235). -/
def execMzrv (d : BitVec 7) (z : BitVec 4) (b : BitVec 7) (s : State) : Host.Outcome State Fault Refusal :=
  runKeep (mzrvBody d z b) s

/-- MZWV (R235). -/
def execMzwv (z : BitVec 4) (a : BitVec 7) (b : BitVec 7) (s : State) : Host.Outcome State Fault Refusal :=
  runTileWrite z (mzwvBody z a b) s

/-- MANCH (R223). -/
def execManch (z : BitVec 4) (a : BitVec 7) (s : State) : Host.Outcome State Fault Refusal :=
  runKeep (manchBody z a) s

/-- An instruction of several indivisible steps performs the next of them, and retires after the one that leaves VSTART 0. Between two of them the
tandem can be pre-empted, or the hart take a fault (R82). -/
def runStep (b : Exec Unit) (s : State) : Host.Outcome State Fault Refusal :=
  match b (beginVector s) with
  | .ok _ s' =>
    if s'.me.csr.start = 0 then .next (retire s (s.me.pc + 4) s') else .next { s' with me := { s'.me with stalled := none } }
  | .error e s' => .next (stopped e s s')

/-- MSCAN, one step at a time (R82, R236). -/
def execMscan (z : BitVec 4) (h : BitVec 3) (s : State) : Host.Outcome State Fault Refusal :=
  runStep (mscanBody z h) s

/-- MCARRY (R237). -/
def execMcarry (h : BitVec 3) (a : BitVec 7) (s : State) : Host.Outcome State Fault Refusal :=
  runKeep (mcarryBody h a) s

/-- MCARRYST (R237). -/
def execMcarryst (h : BitVec 3) (a : BitVec 7) (s : State) : Host.Outcome State Fault Refusal :=
  runKeep (mcarrystBody h a) s

/-- MCOMMIT (R232). -/
def execMcommit (s : State) : Host.Outcome State Fault Refusal :=
  runKeep mcommitBody s

/-- MWAIT (R232). -/
def execMwait (n : BitVec 7) (s : State) : Host.Outcome State Fault Refusal :=
  runKeep (mwaitBody n) s

/-- MGAIN (R236). -/
def execMgain (z : BitVec 4) (a : BitVec 7) (s : State) : Host.Outcome State Fault Refusal :=
  runKeep (mgainBody z a) s

/-- MSTAT (R224). -/
def execMstat (d : BitVec 7) (z : BitVec 4) (s : State) : Host.Outcome State Fault Refusal :=
  runKeep (mstatBody d z) s

end Sys2Proof.Machine
end

