-- ==== Sys2Proof/Machine/PagerEvent.lean ====
section
/-! DEFINITION. The pager's answers (R313), held fault records (R347), shootdowns (R314) and the vector-entry commands (R310). -/

namespace Sys2Proof.Machine

/-! ## Pages -/

/-- The records of a page leave the fault buffers: the pager has answered them. -/
def dropRecords (s : State) (p : FaultRecord → Bool) : State :=
  { s with faults := s.faults.map (fun e => (e.1, { e.2 with records := e.2.records.filter (fun r => !p r) })) }

/-- The copies of a hart with those that a test selects changed. -/
def Hart.mapCopies (h : Hart) (f : Copy → Copy) : Hart := { h with copies := h.copies.map f }

/-- PAGER_RESUME: the pager has served a page of a context: its translations go, and every tandem, copy and queue that waits on it may go on
(R245, R279, R313). [DEDUCED, log 76] -/
def execPagerResume (x : Nat) (va : Word) (s : State) : Host.Outcome State Fault Refusal :=
  .next (match s.ctx? x with
    | none => s
    | some c =>
      let a := va.toNat
      let k := pageShift s c a
      let here (b : Word) : Bool := samePage s c a b.toNat
      let wake (p : Copy) : Copy := match p.waiting with
        | some (b, _) => if samePage s c a b then { p with waiting := none, heldRecord := none } else p
        | none => p
      let s := dropTranslations s c.asid (a / 2 ^ k * 2 ^ k) (2 ^ k)
      let s := dropRecords s (fun r => c.asid == some r.asid && here r.addr)
      let s := mapTandems (fun t => t.ctx == x) (fun s y =>
        let t := match y.t.page with
          | some b => if here b then { y.t with page := none, heldRecord := none } else y.t
          | none => y.t
        (s, { t := t, e := y.e.mapCopies wake, a := y.a.mapCopies wake })) s
      { s with queues := s.queues.map (fun q =>
          match q.page with
          | some b => if q.ctx = x ∧ here b = true then { q with page := none, heldRecord := none } else q
          | none => q) })

/-- The address that a tandem, or else a copy of it, waits for the pager to serve. -/
def awaited (y : Away) : Option Word :=
  y.t.page.orElse (fun _ => (y.e.copies ++ y.a.copies).findSome? (fun p => p.waiting.map (fun w => addrWord w.1)))

/-- A copy that waits for a page that a test selects is told that the page cannot be served: its chunks there fail and arrive (R245, R288, R313). -/
def giveUpCopy (here : Nat → Bool) (p : Copy) : Copy :=
  match p.waiting with
  | some (a, _) => if here a then { p with waiting := none, heldRecord := none, lost := a :: p.lost } else p
  | none => p

/-- PAGER_UNSERVABLE: the pager cannot serve what tandem `t` waits for, and its kernel faults with FCODE 2; or what queue `t` waits for, and
the queue faults with FCODE 3 (R279, R288, R313). -/
def execPagerUnservable (t : Nat) (queue : Bool) (s : State) : Host.Outcome State Fault Refusal :=
  .next (if queue then
      match s.queue? t with
      | some q =>
        if q.page.isSome then changeQueue s t (fun q => { q.fault 3 with page := none, heldRecord := none }) else s
      | none => s
    else
      match s.tandem? t with
      | none => s
      | some y =>
        match awaited y, s.ctx? y.t.ctx with
        | some a, some c =>
          let here (b : Nat) : Bool := samePage s c a.toNat b
          let s := dropRecords s (fun r => r.asid == s.asidOf y.t && r.tid == y.t.tid && r.addr == a)
          let s := mapTandems (fun u => u.uid == t) (fun s y =>
            (s, { t := { y.t with page := none, heldRecord := none }, e := y.e.mapCopies (giveUpCopy here), a := y.a.mapCopies (giveUpCopy here) })) s
          stopKernelOpen s y.t.ctx y.t.csn y.t.tid a (fun _ => false)
        | _, _ => s)

/-- The replay of a tandem, where it is in one. -/
def Away.replay? (x : Away) : Option Replay := (x.e.loop.bind (·.replay)).orElse (fun _ => x.a.loop.bind (·.replay))

/-- The die whose fault buffer a record that a tandem holds goes to: that of the lead station, for a replay's (R346). -/
def Away.recordDie (x : Away) : Nat := (x.replay?.map (fun r => r.lead / 3)).getD x.t.die

/-- The records that a die's tandems and copies, and on die 0 the queues, hold because its buffer was full (R347). -/
def heldRecords (s : State) (die : Nat) : List FaultRecord :=
  s.allTandems.flatMap (fun x =>
    (if x.recordDie = die then x.t.heldRecord.toList else []) ++
    (x.e.copies ++ x.a.copies).flatMap (fun c => if coreDie c.core = die then c.heldRecord.toList else [])) ++
  (if die = 0 then s.queues.flatMap (fun q => q.heldRecord.toList) else [])

/-- FAULT_RECORD_POST: with room in a die's buffer, the held record of lowest AGE is posted; its tandem goes on waiting for the pager (R347). [DEDUCED, log 96] -/
def execFaultRecordPost (die : Nat) (s : State) : Host.Outcome State Fault Refusal :=
  .next (let b := s.faultBuffer die
    if 1024 ≤ b.records.length then s
    else
      match leastBy (fun (p q : FaultRecord) => decide (p.age < q.age)) (heldRecords s die) with
      | none => s
      | some r =>
        let s := enterBuffer s die r
        let why (y : Away) : Nat := if y.replay?.isSome then 18 else if r.reason = 10 then 19 else 15
        let drop (p : Copy) : Copy := if p.heldRecord = some r then { p with heldRecord := none } else p
        let s := { s with queues := s.queues.map (fun q => if q.heldRecord = some r then { q with heldRecord := none } else q) }
        mapTandems (fun _ => true) (fun s y =>
          let y := { y with e := y.e.mapCopies drop, a := y.a.mapCopies drop }
          if y.t.heldRecord = some r then (s, { y with t := { y.t with heldRecord := none } }.waitFor (why y)) else (s, y)) s)

/-! ## Shootdown (R314) -/

/-- SHOOTDOWN (R314). -/
def execShootdown (x va len : Nat) (s : State) : Host.Outcome State Fault Refusal :=
  .next (match s.ctx? x with
    | some c => startShootdown c va len s
    | none => s)

/-- A hart holds a store to a byte of a global range. -/
def holdsIn (a n : Nat) (h : Hart) : Bool :=
  h.held.any (fun x => !x.shared && x.bytes.any (fun b => decide (a ≤ b.va ∧ b.va < a + n)))

/-- The held stores of a hart with one in the range are performed, and its strip can no longer be run again (R314). -/
def performIn (a n : Nat) (onA : Bool) (s : State) (t : Tandem) (h : Hart) : State × Tandem × Hart :=
  if holdsIn a n h then
    let r := performHeldOf s t onA h
    (r.1, freeSpent t onA, r.2)
  else (s, t, h)

/-- A request is one of a context: of a hart of it or of a copy, of the addition to a completion counter of its kernels, or of a read of the scheduler
for some queue. -/
def requestOf (s : State) (ctx : Nat) (r : Request) : Bool :=
  match s.tandem? (r.hart % 2 ^ 40 / 2) with
  | some x => x.t.ctx == ctx
  | none => r.hart == 0 && s.kernels.all (fun k => k.adding != some r.tag || k.ctx == ctx)

/-- Requests of a context for a range are still under way. -/
def requestsIn (s : State) (ctx a n : Nat) : Bool :=
  s.links.requests.any (fun r => rangesMeet a n r.va (accessLength r.op) && r.reply.isNone && requestOf s ctx r)

/-- What a shootdown waits for has not all been performed: requests of its context for its range, or a replay with a stream there (R314). -/
def Shootdown.waits (x : Shootdown) (s : State) : Bool :=
  requestsIn s x.ctx x.va x.len ||
    s.allTandems.any (fun y => y.t.ctx == x.ctx && (replayIn x.va x.len y.e || replayIn x.va x.len y.a))

/-- SHOOTDOWN_COMPLETE: the held stores of shootdown `k`'s range are performed, and it completes once everything translated before it has been
performed, at every die and at its peer, and no replay stands in its range (R314). Writes of kernel areas that wait for a migration walk again (R315). -/
def execShootdownComplete (k : Nat) (s : State) : Host.Outcome State Fault Refusal :=
  .next (match s.paging.shoots[k]? with
    | none => s
    | some x =>
      let s := failPosted (mapTandems (fun t => t.ctx == x.ctx) (fun s y =>
        let (s, t, e) := performIn x.va x.len false s y.t y.e
        let (s, t, a) := performIn x.va x.len true s t y.a
        (s, { t := t, e := e, a := a })) s)
      if x.waits s = true then s
      else
        let s := dropTranslations s (some x.asid) x.va x.len
        flushArea { s with mem := publishAll s.mem, paging := { s.paging with shoots := dropNth s.paging.shoots k } })

/-! ## The vector table (R310) -/

/-- The fields of a vector-table entry that are not reserved (R4, R310). -/
def vectorFields : Word := 0x000FFFFFFE00FFFF

/-- VECTOR_ENTRY_WRITE: the same value on all four dies, with the tag of the context that holds the entry and the shootdown of the page it maps (R269,
R310). [DEDUCED, log 89] -/
def execVectorEntryWrite (idx : Nat) (v : Word) (s : State) : Host.Outcome State Fault Refusal :=
  .next (if 131072 ≤ idx then s
    else
      let owner := s.ctxs.find? (fun c => c.bound && decide (c.vbase ≤ idx ∧ idx < c.vbase + c.vcount))
      let vtab := (range 0 4).foldl (fun t d => sparseSet 0 t (131072 * d + idx) (v &&& vectorFields)) s.paging.vtab
      let vtag := sparseSet 0 s.paging.vtag idx ((owner.map (·.serial)).getD 0)
      let s := { s with paging := { s.paging with vtab := vtab, vtag := vtag } }
      match owner with
      | some c => startShootdown c ((idx - c.vbase) * 2 ^ 25) (2 ^ 25) s
      | none => s)

/-- VECTOR_ENTRY_READ: the entry, with A and D ORed over the four dies (R310). -/
def execVectorEntryRead (idx : Nat) (s : State) : Host.Outcome State Fault Refusal :=
  .next (if 131072 ≤ idx then s
    else
      let e (d : Nat) : Word := sparseGet 0 s.paging.vtab (131072 * d + idx)
      let marks : Word := (e 0 ||| e 1 ||| e 2 ||| e 3) &&& 0x600
      { s with reports := s.reports ++ [.vectorEntry idx (e 0 ||| marks)] })

end Sys2Proof.Machine
end

