-- ==== Sys2Proof/Machine/Pred.lean ====
section
/-! DEFINITION. Predicates: PMASK (R195). -/

namespace Sys2Proof.Machine

/-- Lane i of row j of a predicate. -/
def predLane (p : PReg) (j i : Nat) : Bool := p.getLsbD (1024 * j + i)

/-- What the logical members make of two bits (R195). -/
def pmaskFn (fn : Nat) (a b : Bool) : Bool :=
  match fn with
  | 0 => a && b
  | 1 => a || b
  | 2 => a != b
  | 3 => a && !b
  | _ => !a

/-- The lanes at or above VSTART of a row take their bits (R195). -/
def fromVstart (h : Hart) (f : Nat → Nat → Bool) (j i : Nat) : Option Bool :=
  if j * h.csr.len + i < h.csr.start then none else some (f j i)

/-- PAND, POR, PXOR, PANDN and PNOT (R195). -/
def pmaskLogic (fn : Nat) (d a b : BitVec 4) : Exec Unit := do
  coreOnly
  checkUnscaled
  let s ← getState
  let x := s.me.readP a.toNat
  let y := s.me.readP b.toNat
  putPred d.toNat (fromVstart s.me (fun j i => pmaskFn fn (predLane x j i) (predLane y j i)))
  setVstart 0

/-- PSET and PCLR: every bit (R195). -/
def pmaskAll (v : Bool) (d : BitVec 4) : Exec Unit := do
  coreOnly
  checkUnscaled
  modMe (fun h => h.writeP d.toNat (if v then BitVec.allOnes 16384 else 0))
  setVstart 0

/-- The first lane below `n` of a row whose bit is 1; `n` if there is none. -/
def firstLane (p : PReg) (j n : Nat) : Nat := ((range 0 n).find? (predLane p j)).getD n

/-- PCUT and PCUTI: lanes up to, or before, the first that is 1 in pB take pA (R195). -/
def pcutBody (inclusive : Bool) (d a b : BitVec 4) : Exec Unit := do
  coreOnly
  checkUnscaled
  checkStart0
  let s ← getState
  let x := s.me.readP a.toNat
  let y := s.me.readP b.toNat
  let vl := s.me.csr.len
  putPred d.toNat (fun j i =>
    let f := firstLane y j vl
    some (predLane x j i && decide (if inclusive then i ≤ f else i < f)))

/-- The linear indices of the tile whose bit is 1, ascending. -/
def predOnes (h : Hart) (p : PReg) : List Nat := (range 0 (h.csr.rows * h.csr.len)).filter (predBit p h.csr.len)

/-- PPOP and PFIRST (R195). -/
def pcountBody (f : List Nat → Word) (d : BitVec 7) (a : BitVec 4) : Exec Unit := do
  coreOnly
  checkDst d.toNat
  checkUnscaled
  checkStart0
  let s ← getState
  writeS d.toNat (f (predOnes s.me (s.me.issued.readP a.toNat)))

/-- PFROMV (R195). -/
def pfromvBody (d : BitVec 4) (a : BitVec 7) : Exec Unit := do
  let s ← getState
  let c := s.me.csr
  coreOnly
  checkTileSrc a.toNat c.grp
  checkUnscaled
  let x ← readTile a.toNat c.grp
  let s ← getState
  putPred d.toNat (fromVstart s.me (fun j i => decide (elemAt x c.grp c.sew j i ≠ 0)))
  setVstart 0

/-- PTOV (R186, R195). -/
def ptovBody (d : BitVec 7) (a : BitVec 4) : Exec Unit := do
  let s ← getState
  let c := s.me.csr
  coreOnly
  checkTileDst d.toNat c.grp
  checkUnscaled
  let x := s.me.issued.readP a.toNat
  elementwise d.toNat c.grp c.sew false (fun e => (if predBit x c.len e then 1 else 0, 0))

/-- PAND (R195). -/
def execPand (d : BitVec 4) (a : BitVec 4) (b : BitVec 4) (s : State) : Host.Outcome State Fault Refusal :=
  runVector (pmaskLogic 0 d a b) s

/-- POR (R195). -/
def execPor (d : BitVec 4) (a : BitVec 4) (b : BitVec 4) (s : State) : Host.Outcome State Fault Refusal :=
  runVector (pmaskLogic 1 d a b) s

/-- PXOR (R195). -/
def execPxor (d : BitVec 4) (a : BitVec 4) (b : BitVec 4) (s : State) : Host.Outcome State Fault Refusal :=
  runVector (pmaskLogic 2 d a b) s

/-- PANDN (R195). -/
def execPandn (d : BitVec 4) (a : BitVec 4) (b : BitVec 4) (s : State) : Host.Outcome State Fault Refusal :=
  runVector (pmaskLogic 3 d a b) s

/-- PNOT (R195). -/
def execPnot (d : BitVec 4) (a : BitVec 4) (s : State) : Host.Outcome State Fault Refusal :=
  runVector (pmaskLogic 4 d a a) s

/-- PSET (R195). -/
def execPset (d : BitVec 4) (s : State) : Host.Outcome State Fault Refusal :=
  runVector (pmaskAll true d) s

/-- PCLR (R195). -/
def execPclr (d : BitVec 4) (s : State) : Host.Outcome State Fault Refusal :=
  runVector (pmaskAll false d) s

/-- PCUT (R195). -/
def execPcut (d : BitVec 4) (a : BitVec 4) (b : BitVec 4) (s : State) : Host.Outcome State Fault Refusal :=
  runVector (pcutBody true d a b) s

/-- PCUTI (R195). -/
def execPcuti (d : BitVec 4) (a : BitVec 4) (b : BitVec 4) (s : State) : Host.Outcome State Fault Refusal :=
  runVector (pcutBody false d a b) s

/-- PPOP (R195). -/
def execPpop (d : BitVec 7) (a : BitVec 4) (s : State) : Host.Outcome State Fault Refusal :=
  runVector (pcountBody (fun l => BitVec.ofNat 64 l.length) d a) s

/-- PFIRST: the least index, or all ones (R195). -/
def execPfirst (d : BitVec 7) (a : BitVec 4) (s : State) : Host.Outcome State Fault Refusal :=
  runVector (pcountBody (fun l => (l.head?.map (BitVec.ofNat 64)).getD (BitVec.allOnes 64)) d a) s

/-- PFROMV (R195). -/
def execPfromv (d : BitVec 4) (a : BitVec 7) (s : State) : Host.Outcome State Fault Refusal :=
  runVector (pfromvBody d a) s

/-- PTOV (R195). -/
def execPtov (d : BitVec 7) (a : BitVec 4) (s : State) : Host.Outcome State Fault Refusal :=
  runVector (ptovBody d a) s

end Sys2Proof.Machine
end

