-- ==== Sys2Proof/Machine/QueueInstr.lean ====
section
/-! DEFINITION. The branch queue and queue status: QIO and BQ (R14, R19, R20, R255, R256). -/

namespace Sys2Proof.Machine

/-- Queue instructions run in a paired tandem only (R14, R151). -/
def pairedOnly : Exec Unit := do
  coreOnly
  let s ← getState
  require (!s.tan.single)

/-- BQPUSH: the bit (s[A] ≠ 0) goes to bq; a full bq stalls, unless only slots kept for a re-run fill it, and the strip becomes
non-rewindable (R17, R183, R255). -/
def bqpushBody (a : BitVec 7) : Exec Unit := do
  pairedOnly
  let s ← getState
  require s.onA
  checkSrc a.toNat
  let x ← readS a.toNat
  let s ← getState
  if 64 ≤ s.tan.bq.items.length then stopWith (.wait 1 33)
  else modState (fun s =>
    let s := if 64 ≤ s.tan.bq.items.length + s.tan.bq.spent.length then s.spoilPeer else s
    let s := s.spoilStrip
    { s with tan := { s.tan with bq := s.tan.bq.push s.me.pc s.me.tis [x != 0] } })

/-- BQPUSH (R255). -/
def execBqpush (a : BitVec 7) (s : State) : Host.Outcome State Fault Refusal := runScalar (bqpushBody a) s

/-- BQT and BQF: one bit is popped, and the branch is taken where it is `want` (R255). -/
def bqBranch (want : Bool) (o : BitVec 16) : Exec (Option Word) := do
  pairedOnly
  let s ← getState
  require (!s.onA)
  popReady s.tan.bq 1 33 128 .branchQueue
  let x := s.tan.bq.items.headD false
  modTan (fun t => { t with bq := t.bq.pop 1 64 s.me.keepsPops })
  pure (if x == want then some (offsetFrom s.me.pc o) else none)

/-- BQT label (R255). -/
def execBqt (o : BitVec 16) (s : State) : Host.Outcome State Fault Refusal := runBranch (bqBranch true o) s

/-- BQF label (R255). -/
def execBqf (o : BitVec 16) (s : State) : Host.Outcome State Fault Refusal := runBranch (bqBranch false o) s

/-- A queue's word for QSTAT (R256): entries, depth, marker, and whether the pushing side has exited. -/
def qstatWord {α : Type} (f : Fifo α) (depth : Nat) (exited : Bool) : Word :=
  BitVec.ofNat 64 (f.items.length + depth * 2 ^ 8 +
    (match f.marker with
     | some m => 2 ^ 15 + m * 2 ^ 16
     | none => 0) + (if exited then 2 ^ 23 else 0))

/-- The A-side pushes queue q in the numbering of R256. -/
def pushedByA (q : Nat) : Bool := decide (q < 8 ∨ (16 ≤ q ∧ q < 24) ∨ q = 32)

/-- The pushing side of a queue has exited. -/
def State.pusherGone (s : State) (q : Nat) : Bool := if pushedByA q = s.onA then s.me.exited else s.peer.exited

/-- QSTAT sD, #q (R256). -/
def qstatBody (d q : BitVec 7) : Exec Unit := do
  pairedOnly
  let n := q.toNat
  require (decide (n ≤ 32))
  checkDst d.toNat
  let s ← getState
  let gone := s.pusherGone n
  writeS d.toNat (if n < 16 then qstatWord (s.tan.vfifo n) 16 gone
    else if n < 32 then qstatWord (s.tan.sfifo (n - 16)) 32 gone
    else qstatWord s.tan.bq 64 gone)

/-- QSTAT (R256). -/
def execQstat (d : BitVec 7) (q : BitVec 7) (s : State) : Host.Outcome State Fault Refusal := runScalar (qstatBody d q) s

/-- The entries a drain discards: those ahead of the marker (R256). -/
def Fifo.drain {α : Type} (f : Fifo α) (depth : Nat) (keep : Bool) : Fifo α :=
  f.pop (match f.marker with
    | some m => min m f.items.length
    | none => f.items.length) depth keep

/-- The pushing side waits until its queue is empty; where the popping side has exited while entries remain it traps (R256). -/
def drainWait (left port : Nat) : Exec Unit := fun s =>
  if left = 0 then .ok () s
  else if s.peer.exited then illegalOperand s
  else .error (.wait 4 port) s

/-- QDRAIN #q (R256). -/
def qdrainBody (q : BitVec 7) : Exec Unit := do
  pairedOnly
  let n := q.toNat
  require (decide (n ≤ 32))
  let s ← getState
  let keep := s.me.keepsPops
  if pushedByA n = s.onA then
    drainWait (if n < 16 then (s.tan.vfifo n).items.length else if n < 32 then (s.tan.sfifo (n - 16)).items.length
      else s.tan.bq.items.length) (n + 1)
  else
    modTan (fun t =>
      if n < 16 then { t with vq := sparseSet {} t.vq n ((t.vfifo n).drain 16 keep) }
      else if n < 32 then { t with sq := sparseSet {} t.sq (n - 16) ((t.sfifo (n - 16)).drain 32 keep) }
      else { t with bq := t.bq.drain 64 keep })

/-- QDRAIN (R256). -/
def execQdrain (q : BitVec 7) (s : State) : Host.Outcome State Fault Refusal := runScalar (qdrainBody q) s

end Sys2Proof.Machine
end

