-- ==== Sys2Proof/Machine/RecheckEvent.lean ====
section
/-! DEFINITION. Recheck's second run (R355, R356), known-answer operations and the fencing of a core (R357, R358). -/

namespace Sys2Proof.Machine

/-! ## Fencing a core (R358) -/

/-- A tandem sits in a slot of a core. -/
def residentOn (core : Nat) (t : Tandem) : Bool :=
  match t.place with
  | .resident c _ => c == core
  | _ => false

/-- The strip of the hart in focus is taken back to its checkpoint where it can be, otherwise its held stores are performed (R358). -/
def backToCheckpoint (s : State) : State :=
  match s.me.strip.ckpt with
  | some k => if s.me.strip.rewindable then rewindTo k s else s.endStrip
  | none => s.endStrip

/-- A resident tandem of a fenced core leaves it: both harts at their checkpoints, its matrix work saved (R358). -/
def vacate (u : Nat) (s : State) : State :=
  let s := atHart (2 * u + 1) backToCheckpoint (atHart (2 * u) backToCheckpoint s)
  (saveTandem u (mapTandems (fun t => t.uid == u) (leaveSlot 19) s)).1

/-- The kernels with a tandem in a cluster whose cores are all fenced fault with FCODE 2 (R358). What FADDR then holds is not
said. [DESIGN CHOICE, log 67] -/
def faultCluster (cl : Nat) (s : State) : State :=
  if (range 0 4).all (fun i => s.rel.fenced.contains (4 * cl + i)) then
    let hit := s.allTandems.filter (fun x => coreCluster x.t.core == cl && x.t.started && x.t.place != .ended && x.t.firmware.isNone)
    let s := { s with ready0 := s.ready0 &&& ~~~(BitVec.ofNat 64 (2 ^ cl)) }
    hit.foldl (fun s x =>
      let a : Word := BitVec.ofNat 64 (Config.choice s.free)
      stopKernelOpen { s with free := s.free + 1 } x.t.ctx x.t.csn x.t.tid a (fun _ => false)) s
  else s

/-- When a lane of a core last passed, in an operation of its own or in a sweep; 0 if never (R357, R358). -/
def lastPass (s : State) (core lane : Nat) : Nat :=
  max ((lookup s.rel.passed (core + 256 * lane)).getD 0) ((lookup s.rel.swept core).getD 0)

/-- CTXID and TID of every tandem that sits on a core now or has left it since a time (R358). [DESIGN CHOICE, log 74] -/
def tasksOf (s : State) (core since : Nat) : List (Nat × Nat) :=
  ((s.allTandems.filter (fun x => residentOn core x.t && x.t.firmware.isNone)).map (fun x =>
      (((s.ctx? x.t.ctx).map (·.id)).getD 0, x.t.tid)) ++
    (s.rel.stays.filter (fun y => y.1 == core && decide (since ≤ y.2.2.2))).map (fun y => (y.2.1, y.2.2.1))).dedup

/-- A tandem that is in no slot of a core any more has matrix work there. -/
def workOn (core : Nat) (t : Tandem) : Bool := t.core == core && t.firmware.isNone && !t.matrix.isEmpty && !t.zsaved && !residentOn core t

/-- A core is fenced: its tandems leave with their matrix work saved, and the work of those that had left stops too; nothing is dispatched to it again
before a reset, and the host is told (R231, R358). -/
def fenceCore (core lane : Nat) (s : State) : State :=
  if s.rel.fenced.contains core then s
  else
    let since := lastPass s core lane
    let s : State := { s with
      rel := { s.rel with fenced := core :: s.rel.fenced, sweeps := s.rel.sweeps.filter (fun w => w.1 ≠ core) }
      reports := s.reports ++ [.coreFenced core lane since (tasksOf s core since)] }
    let us := (s.allTandems.filter (fun x => residentOn core x.t && x.t.firmware.isNone)).map (·.t.uid)
    faultCluster (coreCluster core) (saveAll (workOn core) (us.foldl (fun s u => vacate u s) s))

/-- KNOWN_ANSWER_OP: a lane's result agrees with its signature, or its core is fenced (R357, R358). -/
def execKnownAnswerOp (core lane : Nat) (pass : Bool) (s : State) : Host.Outcome State Fault Refusal :=
  .next (if 256 ≤ core then s
    else if pass then { s with rel := { s.rel with passed := insertKey s.rel.passed (core + 256 * lane) s.now } }
    else fenceCore core lane s)

/-- KNOWN_ANSWER_SWEEP: every lane of a core is tested; a failure fences it, and so does a pass after two disagreements in a row on one instruction (R356,
R357, R358). Which lane fails is not said. [DESIGN CHOICE, log 74] -/
def execKnownAnswerSweep (core : Nat) (pass : Bool) (s : State) : Host.Outcome State Fault Refusal :=
  .next (if 256 ≤ core then s
    else
      let twice := s.rel.sweeps.any (fun w => w.1 == core && w.2)
      let t : State := if pass then
          { s with rel := { s.rel with sweeps := s.rel.sweeps.filter (fun w => w.1 ≠ core), swept := insertKey s.rel.swept core s.now } }
        else s
      if pass && !twice then t else fenceCore core (Config.choice s.free) { t with free := s.free + 1 })

/-! ## The second run (R355, R356) -/

/-- An access kind by number, for what R356 leaves open. -/
def someKind (n : Nat) : AccessKind :=
  match n % 7 with
  | 0 => .load | 1 => .store | 2 => .atomic | 3 => .fetch | 4 => .copyRead | 5 => .copyWrite | _ => .replay

/-- The two runs disagree: a record with REASON 10 is written, the tandem parks, and a sweep of the core is due, after which a second disagreement of the
core on the instruction fences it whatever the sweep finds (R356). What the record's ADDR and KIND hold is not said. [DESIGN CHOICE, log 65] -/
def disagree (s : State) : State :=
  let core := s.tan.core
  let again := s.me.disagreed == some (s.me.pc, core) || s.rel.sweeps.any (fun w => w.1 == core && w.2)
  let s : State := { s with
    free := s.free + 2
    me := { s.me with recheck := .idle, disagreed := some (s.me.pc, core) }
    rel := { s.rel with sweeps := (core, again) :: s.rel.sweeps.filter (fun w => w.1 ≠ core) } }
  let a : Word := BitVec.ofNat 64 (Config.choice (s.free + 1))
  let s := postMine s s.tan.die (faultRecordOf s s.tan s.tan.die s.sideCode (someKind (Config.choice s.free)) 10 a)
  parkFocus (if s.tan.heldRecord.isSome then 17 else 19) s

/-- The instruction of the hart in focus whose recheck is under way. -/
def recheckUnderWay (s : State) : Bool :=
  s.active && (match s.me.recheck with
    | .pending p | .forced p => p == s.me.pc
    | _ => false)

/-- The two runs of an iteration that the stations replay disagree: a record of the replay with REASON 10 is written, and the loop goes back to the core at
that iteration (R321, R323, R346, R356). What the record's ADDR holds is not said. [DEDUCED, log 61] -/
def replayDisagrees (l : Loop) (r : Replay) (s : State) : State :=
  let a : Word := BitVec.ofNat 64 (Config.choice s.free)
  let s : State := { s with
    free := s.free + 1
    me := { s.me with loop := some { l with replay := some { r with ended := some .returned } } } }
  let s := postMine s (r.lead / 3) (faultRecordOf s s.tan (r.lead / 3) s.sideCode .replay 10 a)
  if s.tan.heldRecord.isSome then syncImage (s.withFocus (s.focusAway.waitFor 17)) else s

/-- The replay of the hart in focus whose next iteration is run twice (R321). -/
def recheckedReplay (s : State) : Option (Loop × Replay) :=
  match s.me.loop with
  | none => none
  | some l =>
    match l.replay with
    | none => none
    | some r => if r.ended.isNone && !r.checked && decide (s.me.csr.rck ≠ 0) then some (l, r) else none

/-- RECHECK_SECOND_RUN: the second run of hart `h`'s instruction, or of its replay's next iteration, is over; it retires at its next turn, or may be
performed, where both agree (R321, R355). -/
def execRecheckSecondRun (h : Nat) (agree : Bool) (s : State) : Host.Outcome State Fault Refusal :=
  .next (atHart h (fun s =>
    match recheckedReplay s with
    | some (l, r) =>
      if agree then { s with me := { s.me with loop := some { l with replay := some { r with checked := true } } } } else replayDisagrees l r s
    | none =>
    if recheckUnderWay s = false then s
    else if agree then { s with me := { s.me with recheck := .agreed s.me.pc, stalled := none } }
    else disagree s) s)

/-- RECHECK_FORCE: a second run not begun within 256 clocks is forced (R355). -/
def execRecheckForce (h : Nat) (s : State) : Host.Outcome State Fault Refusal :=
  .next (atHart h (fun s =>
    match s.me.recheck with
    | .pending p => if s.active then { s with me := { s.me with recheck := .forced p } } else s
    | _ => s) s)

end Sys2Proof.Machine
end

