-- ==== Sys2Proof/Machine/RecoveryEvent.lean ====
section
/-! DEFINITION. Device checkpoints and the return to a recovery point (R272–R274, R363, R364). -/

namespace Sys2Proof.Machine

/-- A replay under way is to stop at its iteration boundary and be handed back (R323, R363). -/
def haltReplay (h : Hart) : Hart :=
  match h.loop with
  | some l =>
    match l.replay with
    | some r => if r.ended.isNone then { h with loop := some { l with replay := some { r with ended := some .returned } } } else h
    | none => h
  | none => h

/-- CHECKPOINT: the device takes no more packets, every resident tandem leaves its slot with its matrix work and tiles saved, and replays stop
(R363). Copies and matrix work of ended tandems run to their end. -/
def execCheckpoint (s : State) : Host.Outcome State Fault Refusal :=
  .next (if s.rel.quiesced then s
    else
      let s : State := { s with rel := { s.rel with quiesced := true } }
      let s := mapTandems (fun t => t.firmware.isNone && !s.frozen t) (leaveSlot 19) s
      let s := saveAll (fun t => leftBehind t.core t) s
      mapTandems (fun t => t.firmware.isNone) (fun s x => (s, { x with e := haltReplay x.e, a := haltReplay x.a })) s)

/-- The device is quiesced and every bound context idle (R363). -/
def deviceIdle (s : State) : Bool :=
  s.rel.quiesced && s.ctxs.all (fun c => !c.bound || ((s.contextTandems c.num).all (fun x => !x.busy)))

/-- What the safe tier holds of the device: its memory with every write applied, the vector tables, and how contexts, queues, kernels, groups
and tandems stand (R363). -/
def safeCopy (s : State) : Safe :=
  { cells := (publishAll s.mem).cells.filter (fun e => e.1 < deviceTop), vtab := s.paging.vtab, vtag := s.paging.vtag, ctxs := s.ctxs, queues := s.queues,
    kernels := s.kernels, tandems := s.allTandems.filter (fun x => x.t.firmware.isNone), groups := s.groups }

/-- A recovery point is taken for a context: RPSEQ rises, COUNT and OVF become 0 (R274). A fault on the record makes the context FAULTED
(R270). -/
def takePoint (s : State) (c : Context) : State :=
  match sysRead s c 0 c.recBase 8 with
  | .error _ => faultContextAll s c.num
  | .ok n => areaWrite (sysSeen s c 0 c.recBase 8) c 0 c.recBase (toBytes 8 (n + 1) ++ toBytes 8 0)

/-- A point may be taken for a context (R274). -/
def Context.pointable (c : Context) : Bool :=
  match c.state with
  | .boundIdle | .reclaimed => true
  | _ => false

/-- CHECKPOINT_DONE: with every write to the safe tier made, a recovery point is taken for every context that is idle, and its record stands in the
view of every die; if a write failed, the host is interrupted and the previous point stands. Taking resumes (R274, R363). [DEDUCED, log 88] -/
def execCheckpointDone (ok : Bool) (s : State) : Host.Outcome State Fault Refusal :=
  .next (if deviceIdle s = false then s
    else
      let go (s : State) : State := { s with rel := { s.rel with quiesced := false } }
      if ok then
        let s : State := { s with mem := publishAll s.mem }
        let s : State := { s with rel := { s.rel with safe := some (safeCopy s) } }
        let s := (s.ctxs.filter (·.pointable)).foldl takePoint s
        go { s with mem := publishAll s.mem }
      else go { s with reports := s.reports ++ [.checkpointFailed] })

/-- The physical bytes behind a range of a context's system view, as runs within pages; what is not mapped is left out. -/
def physicalRuns (s : State) (c : Context) (a n : Nat) : List (Nat × Nat) :=
  (range 0 ((a % 4096 + n + 4095) / 4096)).filterMap (fun i =>
    let lo := max a ((a / 4096 + i) * 4096)
    let hi := min (a + n) ((a / 4096 + i + 1) * 4096)
    match translate s c 0 false true .load lo with
    | .ok x => some (x.pa, hi - lo)
    | .error _ => none)

/-- The bytes of device memory that a return leaves alone: the recovery records and the kernel areas of the contexts that have been bound (R272,
R284, R364). -/
def keptRuns (s : State) : List (Nat × Nat) :=
  (s.ctxs.filter (fun c => c.state != .destroyed && c.state != .defined)).flatMap (fun c =>
    physicalRuns s c c.recBase 65600 ++ physicalRuns s c (kernelArea c) 0x140000)

/-- A physical byte lies in one of the runs. -/
def inRuns (rs : List (Nat × Nat)) (pa : Nat) : Bool := rs.any (fun r => decide (r.1 ≤ pa ∧ pa < r.1 + r.2))

/-- The memory after a return: the point's device memory but for what is left alone, and all other memory as it is (R364). -/
def returnedMem (m : Mem) (p : Safe) (kept : List (Nat × Nat)) : Mem :=
  let now := publishAll m
  let stays (pa : Nat) : Bool := inRuns kept pa || decide (deviceTop ≤ pa)
  let old := p.cells.filter (fun e => !stays e.1)
  { now with
    cells := old.foldl (fun l e => sparseSet memDefault l e.1 e.2) (now.cells.filter (fun e => stays e.1))
    bad := now.bad.filter (fun e => stays e.1) }

/-- A context as it stood at the point, with its debug domain and its recovery record's state as they now are. -/
def returnedCtx (s : State) (c : Context) : Context :=
  match s.ctx? c.num with
  | some d => { c with debugOpen := d.debugOpen, histBase := d.histBase, traced := d.traced, sampled := d.sampled, period := d.period }
  | none => c

/-- A context of the point is still the one that has its number. -/
def State.stillThere (s : State) (c : Context) : Bool :=
  match s.ctx? c.num with
  | some d => d.serial == c.serial && d.state != .destroyed
  | none => false

/-- RECOVERY_RETURN: on a quiesced device the point's memory, contexts, queues, kernels and tandems stand again, and taking resumes. Refused where
a context that had its key slot at the point has been destroyed since (R271, R364). [DEDUCED, log 88] -/
def execRecoveryReturn (s : State) : Host.Outcome State Fault Refusal :=
  .next (match s.rel.safe with
    | none => s
    | some p =>
      if deviceIdle s = false ∨ p.ctxs.any (fun c => c.keyed && c.state != .destroyed && !s.stillThere c) = true then s
      else
        let back := p.ctxs.filter s.stillThere
        let nums := back.map (·.num)
        let other (x : Away) : Bool := !nums.contains x.t.ctx || x.t.firmware.isSome
        let us := (s.allTandems.filter (fun x => !other x)).map (·.t.uid)
        let queues := p.queues.filter (fun q => nums.contains q.ctx)
        { s with
          mem := returnedMem s.mem p (keptRuns s)
          paging := { s.paging with vtab := p.vtab, vtag := p.vtag, tlb := [] }
          ctxs := back.map (returnedCtx s) ++ s.ctxs.filter (fun c => !nums.contains c.num)
          queues := queues ++ s.queues.filter (fun q => !nums.contains q.ctx && !queues.any (fun z => z.num == q.num))
          kernels := p.kernels.filter (fun k => nums.contains k.ctx) ++ s.kernels.filter (fun k => !nums.contains k.ctx)
          groups := p.groups.filter (fun g => nums.contains g.ctx) ++ s.groups.filter (fun g => !nums.contains g.ctx)
          away := p.tandems.filter (fun x => nums.contains x.t.ctx) ++ s.allTandems.filter other
          live := false
          onA := false
          me := {}
          peer := {}
          tan := {}
          links := { s.links with requests := s.links.requests.filter (fun r => !us.contains (r.hart % 2 ^ 40 / 2)) }
          rel := { s.rel with quiesced := false } })

end Sys2Proof.Machine
end

