-- ==== Sys2Proof/Machine/VCompare.lean ====
section
/-! DEFINITION. Vector compares: VCMP (R194). -/

namespace Sys2Proof.Machine

/-- The relations of VCMP on elements of `w` bits (R194): the truth and the flags. -/
def vcmpFn (fn : Nat) (f : Fmt) (w a b : Nat) : Bool × Nat :=
  let x := f.decode a
  let y := f.decode b
  let quiet := nvIf (x.signals || y.signals)
  let loud := nvIf (x.isNaN || y.isNaN)
  match fn with
  | 0 | 15 => (decide (a % 2 ^ w = b % 2 ^ w), 0)
  | 1 => (decide (a % 2 ^ w ≠ b % 2 ^ w), 0)
  | 2 | 11 => (decide (toSigned w a < toSigned w b), 0)
  | 3 => (decide (toSigned w a ≤ toSigned w b), 0)
  | 4 => (decide (a % 2 ^ w < b % 2 ^ w), 0)
  | 5 => (decide (a % 2 ^ w ≤ b % 2 ^ w), 0)
  | 6 => (eqVal x y, quiet)
  | 7 => (!eqVal x y, quiet)
  | 8 | 13 => (ltVal x y, loud)
  | 9 => (ltVal x y || eqVal x y, loud)
  | 10 => (x.isNaN || y.isNaN, quiet)
  | 12 => (decide (toSigned w b < toSigned w a), 0)
  | _ => (ltVal y x, loud)

/-- The members of VCMP that read elements as floating values (R194). -/
def vcmpFloats (fn : Nat) : Bool := decide (fn ∈ [6, 7, 8, 9, 10, 13, 14])

/-- The lanes that a compare writes in a row below RC: active ones take the truth, inactive and tail ones are kept or zeroed by IP, and
those below VSTART stay (R186, R194). -/
def compareLane (h : Hart) (m : Bool) (truth : Nat → Bool) (j i : Nat) : Option Bool :=
  let e := j * h.csr.len + i
  let off : Option Bool := if h.csr.ip then some false else none
  if h.csr.len ≤ i then off
  else if e < h.csr.start then none
  else if h.active m e then some (truth e)
  else off

/-- A compare's predicate and flags: p0 is read before D is written (R194). -/
def putCompare (p : Nat) (m : Bool) (rel : Nat → Bool × Nat) : Exec Unit := do
  let s ← getState
  let h := s.me
  let es := (range 0 (h.csr.rows * h.csr.len)).filter (fun e => decide (h.csr.start ≤ e) && h.active m e)
  if h.csr.len = 0 then pure ()
  else modMe (fun g => g.writeP p (writePredRows h 1024 (compareLane h m (fun e => (rel e).1)) (g.readP p)))
  raiseSaved (es.foldl (fun a e => a ||| (rel e).2) 0)
  setVstart 0

/-- The operand checks of a compare (R185, R194). -/
def checkCompare (fn : Nat) (a b : BitVec 7) : Exec Unit := do
  let s ← getState
  let g := s.me.csr.grp
  coreOnly
  checkTileSrc a.toNat g
  if 11 ≤ fn then checkSrc b.toNat else checkTileSrc b.toNat g
  checkUnscaled
  if vcmpFloats fn then checkFmt else pure ()

/-- A compare of two tiles (R194). -/
def vcmpVV (fn : Nat) (p : BitVec 4) (a b : BitVec 7) (m : BitVec 1) : Exec Unit := do
  checkCompare fn a b
  let s ← getState
  let c := s.me.csr
  let x ← readTile a.toNat c.grp
  let y ← readTile b.toNat c.grp
  putCompare p.toNat (m == 1)
    (fun e => vcmpFn fn c.fmt c.sew (elemLin x c.grp c.sew c.len e) (elemLin y c.grp c.sew c.len e))

/-- A compare of a tile with s[B] (R194). -/
def vcmpVS (fn : Nat) (p : BitVec 4) (a b : BitVec 7) (m : BitVec 1) : Exec Unit := do
  checkCompare fn a b
  let s ← getState
  let c := s.me.csr
  let x ← readTile a.toNat c.grp
  let y ← vecValue b.toNat
  putCompare p.toNat (m == 1)
    (fun e => vcmpFn fn c.fmt c.sew (elemLin x c.grp c.sew c.len e) (y.toNat % 2 ^ c.sew))

/-- VSEQ (R194). -/
def execVseq (p : BitVec 4) (a : BitVec 7) (b : BitVec 7) (m : BitVec 1) (s : State) : Host.Outcome State Fault Refusal :=
  runVector (vcmpVV 0 p a b m) s

/-- VSNE (R194). -/
def execVsne (p : BitVec 4) (a : BitVec 7) (b : BitVec 7) (m : BitVec 1) (s : State) : Host.Outcome State Fault Refusal :=
  runVector (vcmpVV 1 p a b m) s

/-- VSLT (R194). -/
def execVslt (p : BitVec 4) (a : BitVec 7) (b : BitVec 7) (m : BitVec 1) (s : State) : Host.Outcome State Fault Refusal :=
  runVector (vcmpVV 2 p a b m) s

/-- VSLE (R194). -/
def execVsle (p : BitVec 4) (a : BitVec 7) (b : BitVec 7) (m : BitVec 1) (s : State) : Host.Outcome State Fault Refusal :=
  runVector (vcmpVV 3 p a b m) s

/-- VSLTN (R194). -/
def execVsltn (p : BitVec 4) (a : BitVec 7) (b : BitVec 7) (m : BitVec 1) (s : State) : Host.Outcome State Fault Refusal :=
  runVector (vcmpVV 4 p a b m) s

/-- VSLEN (R194). -/
def execVslen (p : BitVec 4) (a : BitVec 7) (b : BitVec 7) (m : BitVec 1) (s : State) : Host.Outcome State Fault Refusal :=
  runVector (vcmpVV 5 p a b m) s

/-- VFEQ (R194). -/
def execVfeq (p : BitVec 4) (a : BitVec 7) (b : BitVec 7) (m : BitVec 1) (s : State) : Host.Outcome State Fault Refusal :=
  runVector (vcmpVV 6 p a b m) s

/-- VFNE (R194). -/
def execVfne (p : BitVec 4) (a : BitVec 7) (b : BitVec 7) (m : BitVec 1) (s : State) : Host.Outcome State Fault Refusal :=
  runVector (vcmpVV 7 p a b m) s

/-- VFLT (R194). -/
def execVflt (p : BitVec 4) (a : BitVec 7) (b : BitVec 7) (m : BitVec 1) (s : State) : Host.Outcome State Fault Refusal :=
  runVector (vcmpVV 8 p a b m) s

/-- VFLE (R194). -/
def execVfle (p : BitVec 4) (a : BitVec 7) (b : BitVec 7) (m : BitVec 1) (s : State) : Host.Outcome State Fault Refusal :=
  runVector (vcmpVV 9 p a b m) s

/-- VFUNORD (R194). -/
def execVfunord (p : BitVec 4) (a : BitVec 7) (b : BitVec 7) (m : BitVec 1) (s : State) : Host.Outcome State Fault Refusal :=
  runVector (vcmpVV 10 p a b m) s

/-- VSLT.X (R194). -/
def execVsltX (p : BitVec 4) (a : BitVec 7) (b : BitVec 7) (m : BitVec 1) (s : State) : Host.Outcome State Fault Refusal :=
  runVector (vcmpVS 11 p a b m) s

/-- VSGT.X (R194). -/
def execVsgtX (p : BitVec 4) (a : BitVec 7) (b : BitVec 7) (m : BitVec 1) (s : State) : Host.Outcome State Fault Refusal :=
  runVector (vcmpVS 12 p a b m) s

/-- VFLT.X (R194). -/
def execVfltX (p : BitVec 4) (a : BitVec 7) (b : BitVec 7) (m : BitVec 1) (s : State) : Host.Outcome State Fault Refusal :=
  runVector (vcmpVS 13 p a b m) s

/-- VFGT.X (R194). -/
def execVfgtX (p : BitVec 4) (a : BitVec 7) (b : BitVec 7) (m : BitVec 1) (s : State) : Host.Outcome State Fault Refusal :=
  runVector (vcmpVS 14 p a b m) s

/-- VSEQ.X (R194). -/
def execVseqX (p : BitVec 4) (a : BitVec 7) (b : BitVec 7) (m : BitVec 1) (s : State) : Host.Outcome State Fault Refusal :=
  runVector (vcmpVS 15 p a b m) s

end Sys2Proof.Machine
end

