-- ==== Sys2Proof/Machine/VInt.lean ====
section
/-! DEFINITION. Vector integer arithmetic: VINT and VINTX (R185, R186, R188). -/

namespace Sys2Proof.Machine

/-- The function of each member of majors 0x24 and 0x25 on elements of `w` bits (R188). -/
def vintFn (fn w a b : Nat) : Nat :=
  let sh := b % w
  match fn with
  | 0 => (a + b) % 2 ^ w
  | 1 => (a + 2 ^ w - b % 2 ^ w) % 2 ^ w
  | 2 => a * b % 2 ^ w
  | 3 => ofSigned w (toSigned w a * toSigned w b / (2 : Int) ^ w)
  | 4 => a * b / 2 ^ w
  | 5 => a &&& b
  | 6 => a ||| b
  | 7 => a ^^^ b
  | 8 => a * 2 ^ sh % 2 ^ w
  | 9 => a / 2 ^ sh
  | 10 => ofSigned w (toSigned w a / (2 : Int) ^ sh)
  | 11 => if toSigned w b < toSigned w a then b else a
  | 12 => if toSigned w a < toSigned w b then b else a
  | 13 => min a b
  | 14 => max a b
  | _ => ofSigned w (max (-((2 : Int) ^ (w - 1))) (min ((2 : Int) ^ (w - 1) - 1) (toSigned w a + toSigned w b)))

/-- The checks of an elementwise member with two source tiles of the width in force (R38, R39, R185). -/
def checkTwo (d a b : BitVec 7) : Exec Unit := do
  let s ← getState
  let g := s.me.csr.grp
  coreOnly
  checkTileSrc a.toNat g
  checkTileSrc b.toNat g
  checkTileDst d.toNat g
  checkUnscaled
  checkOverlap d.toNat g a.toNat g
  checkOverlap d.toNat g b.toNat g

/-- The checks of an elementwise member with one source tile. -/
def checkOne (d a : BitVec 7) : Exec Unit := do
  let s ← getState
  let g := s.me.csr.grp
  coreOnly
  checkTileSrc a.toNat g
  checkTileDst d.toNat g
  checkUnscaled
  checkOverlap d.toNat g a.toNat g

/-- d[e] ← f(a[e], b[e]) (R186, R188). -/
def vecVV (f : State → Nat → Nat → Nat → Nat × Nat) (d a b : BitVec 7) (m : BitVec 1) : Exec Unit := do
  let x ← (do
    let s ← getState
    readTile a.toNat s.me.csr.grp)
  let y ← (do
    let s ← getState
    readTile b.toNat s.me.csr.grp)
  let s ← getState
  let c := s.me.csr
  elementwise d.toNat c.grp c.sew (m == 1)
    (fun e => f s e (elemLin x c.grp c.sew c.len e) (elemLin y c.grp c.sew c.len e))

/-- d[e] ← f(a[e], s[B][SEW − 1 : 0]) (R185, R186). -/
def vecVS (f : State → Nat → Nat → Nat → Nat × Nat) (d a b : BitVec 7) (m : BitVec 1) : Exec Unit := do
  let x ← (do
    let s ← getState
    readTile a.toNat s.me.csr.grp)
  let y ← vecValue b.toNat
  let s ← getState
  let c := s.me.csr
  elementwise d.toNat c.grp c.sew (m == 1)
    (fun e => f s e (elemLin x c.grp c.sew c.len e) (y.toNat % 2 ^ c.sew))

/-- A member of VINT (R188). -/
def vintVV (fn : Nat) (d a b : BitVec 7) (m : BitVec 1) : Exec Unit := do
  checkTwo d a b
  vecVV (fun s _ x y => (vintFn fn s.me.csr.sew x y, 0)) d a b m

/-- A member of VINTX (R188). -/
def vintVS (fn : Nat) (d a b : BitVec 7) (m : BitVec 1) : Exec Unit := do
  checkOne d a
  checkSrc b.toNat
  vecVS (fun s _ x y => (vintFn fn s.me.csr.sew x y, 0)) d a b m

/-- VADD (R188). -/
def execVadd (d : BitVec 7) (a : BitVec 7) (b : BitVec 7) (m : BitVec 1) (s : State) : Host.Outcome State Fault Refusal :=
  runVector (vintVV 0 d a b m) s

/-- VSUB (R188). -/
def execVsub (d : BitVec 7) (a : BitVec 7) (b : BitVec 7) (m : BitVec 1) (s : State) : Host.Outcome State Fault Refusal :=
  runVector (vintVV 1 d a b m) s

/-- VMUL (R188). -/
def execVmul (d : BitVec 7) (a : BitVec 7) (b : BitVec 7) (m : BitVec 1) (s : State) : Host.Outcome State Fault Refusal :=
  runVector (vintVV 2 d a b m) s

/-- VMULH (R188). -/
def execVmulh (d : BitVec 7) (a : BitVec 7) (b : BitVec 7) (m : BitVec 1) (s : State) : Host.Outcome State Fault Refusal :=
  runVector (vintVV 3 d a b m) s

/-- VMULHN (R188). -/
def execVmulhn (d : BitVec 7) (a : BitVec 7) (b : BitVec 7) (m : BitVec 1) (s : State) : Host.Outcome State Fault Refusal :=
  runVector (vintVV 4 d a b m) s

/-- VAND (R188). -/
def execVand (d : BitVec 7) (a : BitVec 7) (b : BitVec 7) (m : BitVec 1) (s : State) : Host.Outcome State Fault Refusal :=
  runVector (vintVV 5 d a b m) s

/-- VOR (R188). -/
def execVor (d : BitVec 7) (a : BitVec 7) (b : BitVec 7) (m : BitVec 1) (s : State) : Host.Outcome State Fault Refusal :=
  runVector (vintVV 6 d a b m) s

/-- VXOR (R188). -/
def execVxor (d : BitVec 7) (a : BitVec 7) (b : BitVec 7) (m : BitVec 1) (s : State) : Host.Outcome State Fault Refusal :=
  runVector (vintVV 7 d a b m) s

/-- VSLL (R188). -/
def execVsll (d : BitVec 7) (a : BitVec 7) (b : BitVec 7) (m : BitVec 1) (s : State) : Host.Outcome State Fault Refusal :=
  runVector (vintVV 8 d a b m) s

/-- VSRL (R188). -/
def execVsrl (d : BitVec 7) (a : BitVec 7) (b : BitVec 7) (m : BitVec 1) (s : State) : Host.Outcome State Fault Refusal :=
  runVector (vintVV 9 d a b m) s

/-- VSRA (R188). -/
def execVsra (d : BitVec 7) (a : BitVec 7) (b : BitVec 7) (m : BitVec 1) (s : State) : Host.Outcome State Fault Refusal :=
  runVector (vintVV 10 d a b m) s

/-- VMIN (R188). -/
def execVmin (d : BitVec 7) (a : BitVec 7) (b : BitVec 7) (m : BitVec 1) (s : State) : Host.Outcome State Fault Refusal :=
  runVector (vintVV 11 d a b m) s

/-- VMAX (R188). -/
def execVmax (d : BitVec 7) (a : BitVec 7) (b : BitVec 7) (m : BitVec 1) (s : State) : Host.Outcome State Fault Refusal :=
  runVector (vintVV 12 d a b m) s

/-- VMINN (R188). -/
def execVminn (d : BitVec 7) (a : BitVec 7) (b : BitVec 7) (m : BitVec 1) (s : State) : Host.Outcome State Fault Refusal :=
  runVector (vintVV 13 d a b m) s

/-- VMAXN (R188). -/
def execVmaxn (d : BitVec 7) (a : BitVec 7) (b : BitVec 7) (m : BitVec 1) (s : State) : Host.Outcome State Fault Refusal :=
  runVector (vintVV 14 d a b m) s

/-- VSADD (R188). -/
def execVsadd (d : BitVec 7) (a : BitVec 7) (b : BitVec 7) (m : BitVec 1) (s : State) : Host.Outcome State Fault Refusal :=
  runVector (vintVV 15 d a b m) s

/-- VADD with a scalar operand (R188). -/
def execVaddVs (d : BitVec 7) (a : BitVec 7) (b : BitVec 7) (m : BitVec 1) (s : State) : Host.Outcome State Fault Refusal :=
  runVector (vintVS 0 d a b m) s

/-- VSUB with a scalar operand (R188). -/
def execVsubVs (d : BitVec 7) (a : BitVec 7) (b : BitVec 7) (m : BitVec 1) (s : State) : Host.Outcome State Fault Refusal :=
  runVector (vintVS 1 d a b m) s

/-- VMUL with a scalar operand (R188). -/
def execVmulVs (d : BitVec 7) (a : BitVec 7) (b : BitVec 7) (m : BitVec 1) (s : State) : Host.Outcome State Fault Refusal :=
  runVector (vintVS 2 d a b m) s

/-- VMULH with a scalar operand (R188). -/
def execVmulhVs (d : BitVec 7) (a : BitVec 7) (b : BitVec 7) (m : BitVec 1) (s : State) : Host.Outcome State Fault Refusal :=
  runVector (vintVS 3 d a b m) s

/-- VMULHN with a scalar operand (R188). -/
def execVmulhnVs (d : BitVec 7) (a : BitVec 7) (b : BitVec 7) (m : BitVec 1) (s : State) : Host.Outcome State Fault Refusal :=
  runVector (vintVS 4 d a b m) s

/-- VAND with a scalar operand (R188). -/
def execVandVs (d : BitVec 7) (a : BitVec 7) (b : BitVec 7) (m : BitVec 1) (s : State) : Host.Outcome State Fault Refusal :=
  runVector (vintVS 5 d a b m) s

/-- VOR with a scalar operand (R188). -/
def execVorVs (d : BitVec 7) (a : BitVec 7) (b : BitVec 7) (m : BitVec 1) (s : State) : Host.Outcome State Fault Refusal :=
  runVector (vintVS 6 d a b m) s

/-- VXOR with a scalar operand (R188). -/
def execVxorVs (d : BitVec 7) (a : BitVec 7) (b : BitVec 7) (m : BitVec 1) (s : State) : Host.Outcome State Fault Refusal :=
  runVector (vintVS 7 d a b m) s

/-- VSLL with a scalar operand (R188). -/
def execVsllVs (d : BitVec 7) (a : BitVec 7) (b : BitVec 7) (m : BitVec 1) (s : State) : Host.Outcome State Fault Refusal :=
  runVector (vintVS 8 d a b m) s

/-- VSRL with a scalar operand (R188). -/
def execVsrlVs (d : BitVec 7) (a : BitVec 7) (b : BitVec 7) (m : BitVec 1) (s : State) : Host.Outcome State Fault Refusal :=
  runVector (vintVS 9 d a b m) s

/-- VSRA with a scalar operand (R188). -/
def execVsraVs (d : BitVec 7) (a : BitVec 7) (b : BitVec 7) (m : BitVec 1) (s : State) : Host.Outcome State Fault Refusal :=
  runVector (vintVS 10 d a b m) s

/-- VMIN with a scalar operand (R188). -/
def execVminVs (d : BitVec 7) (a : BitVec 7) (b : BitVec 7) (m : BitVec 1) (s : State) : Host.Outcome State Fault Refusal :=
  runVector (vintVS 11 d a b m) s

/-- VMAX with a scalar operand (R188). -/
def execVmaxVs (d : BitVec 7) (a : BitVec 7) (b : BitVec 7) (m : BitVec 1) (s : State) : Host.Outcome State Fault Refusal :=
  runVector (vintVS 12 d a b m) s

/-- VMINN with a scalar operand (R188). -/
def execVminnVs (d : BitVec 7) (a : BitVec 7) (b : BitVec 7) (m : BitVec 1) (s : State) : Host.Outcome State Fault Refusal :=
  runVector (vintVS 13 d a b m) s

/-- VMAXN with a scalar operand (R188). -/
def execVmaxnVs (d : BitVec 7) (a : BitVec 7) (b : BitVec 7) (m : BitVec 1) (s : State) : Host.Outcome State Fault Refusal :=
  runVector (vintVS 14 d a b m) s

/-- VSADD with a scalar operand (R188). -/
def execVsaddVs (d : BitVec 7) (a : BitVec 7) (b : BitVec 7) (m : BitVec 1) (s : State) : Host.Outcome State Fault Refusal :=
  runVector (vintVS 15 d a b m) s

end Sys2Proof.Machine
end

