-- ==== Sys2Proof/Machine/VFloat.lean ====
section
/-! DEFINITION. Vector floating arithmetic: VFP, VFPX and VFMA (R189–R193). -/

namespace Sys2Proof.Machine

/-- The binary members of VFP and VFPX (R189). -/
def vfpFn2 (fn : Nat) (f : Fmt) (m r a b : Nat) : Nat × Nat :=
  match fn with
  | 0 => fAdd f m r a b
  | 1 => fSub f m r a b
  | 2 => fMul f m r a b
  | 3 => fDiv f m r a b
  | 4 => minMax f false a b
  | 5 => minMax f true a b
  | _ => (f.code (f.neg b) (f.mag a), 0)

/-- The unary members of VFP and VFPX (R189, R192). -/
def vfpFn1 (fn : Nat) (f : Fmt) (m r a : Nat) : Nat × Nat :=
  match fn with
  | 6 => fSqrt f m r a
  | 7 => (f.mag a, 0)
  | 8 => (f.code (!f.neg a) (f.mag a), 0)
  | 10 => fRece f a
  | 11 => fRsqe f a
  | 12 => fExp2e f a
  | _ => (classCode f a, 0)

/-- The checks that floating members add: a legal NFMT, and no estimate or class at SEW 8 (R56, R185). -/
def checkFloat (fn : Nat) : Exec Unit := do
  let s ← getState
  checkFmt
  require (!(s.me.csr.sew == 8 && decide (fn ∈ [10, 11, 12, 13])))

/-- A binary member of VFP (R189). -/
def vfpVV (fn : Nat) (d a b : BitVec 7) (m : BitVec 1) : Exec Unit := do
  checkTwo d a b
  checkFloat fn
  vecVV (fun s e x y => vfpFn2 fn s.me.csr.fmt (s.rounding e).1 (s.rounding e).2 x y) d a b m

/-- A binary member of VFPX (R189). -/
def vfpVS (fn : Nat) (d a b : BitVec 7) (m : BitVec 1) : Exec Unit := do
  checkOne d a
  checkSrc b.toNat
  checkFloat fn
  vecVS (fun s e x y => vfpFn2 fn s.me.csr.fmt (s.rounding e).1 (s.rounding e).2 x y) d a b m

/-- A unary member of VFP (R189). -/
def vfpV (fn : Nat) (d a : BitVec 7) (m : BitVec 1) : Exec Unit := do
  checkOne d a
  checkFloat fn
  let x ← (do
    let s ← getState
    readTile a.toNat s.me.csr.grp)
  let s ← getState
  let c := s.me.csr
  elementwise d.toNat c.grp c.sew (m == 1)
    (fun e => vfpFn1 fn c.fmt (s.rounding e).1 (s.rounding e).2 (elemLin x c.grp c.sew c.len e))

/-- A unary member of VFPX: its operand is s[B], broadcast (R147, R189). -/
def vfpS (fn : Nat) (d b : BitVec 7) (m : BitVec 1) : Exec Unit := do
  let s ← getState
  coreOnly
  checkSrc b.toNat
  checkTileDst d.toNat s.me.csr.grp
  checkUnscaled
  checkFloat fn
  let y ← vecValue b.toNat
  let s ← getState
  let c := s.me.csr
  elementwise d.toNat c.grp c.sew (m == 1)
    (fun e => vfpFn1 fn c.fmt (s.rounding e).1 (s.rounding e).2 (y.toNat % 2 ^ c.sew))

/-- A widening destination: group factor 2g, not at SEW 64 or with g = 8, sharing no register with a source (R190). -/
def checkWide (d : BitVec 7) : Exec Unit := do
  let s ← getState
  require (decide (s.me.csr.sew ≠ 64 ∧ s.me.csr.grp ≠ 8))
  checkTileDst d.toNat (2 * s.me.csr.grp)

/-- VFADDW and VFMULW (R190). -/
def vfpWide (f : Nat → Val → Val → Val × Nat) (d a b : BitVec 7) (m : BitVec 1) : Exec Unit := do
  let s ← getState
  let g := s.me.csr.grp
  coreOnly
  checkTileSrc a.toNat g
  checkTileSrc b.toNat g
  checkUnscaled
  checkWide d
  checkDisjoint d.toNat (2 * g) a.toNat g
  checkDisjoint d.toNat (2 * g) b.toNat g
  checkFmt
  let x ← readTile a.toNat g
  let y ← readTile b.toNat g
  let s ← getState
  let c := s.me.csr
  elementwise d.toNat (2 * g) (2 * c.sew) (m == 1) (fun e =>
    finish c.wideFmt (s.rounding e).1 (s.rounding e).2
      (f (s.rounding e).1 (c.fmt.decode (elemLin x g c.sew c.len e)) (c.fmt.decode (elemLin y g c.sew c.len e))))

/-- VFCLAMP: FMIN(FMAX(a, s[B]), s[B + 1]) (R191). -/
def vfclampBody (d a b : BitVec 7) (m : BitVec 1) : Exec Unit := do
  checkOne d a
  require (decide (1 ≤ b.toNat ∧ b.toNat ≤ 110))
  checkFmt
  let x ← (do
    let s ← getState
    readTile a.toNat s.me.csr.grp)
  let s ← getState
  let c := s.me.csr
  let lo := (s.me.issued.readS b.toNat).toNat % 2 ^ c.sew
  let hi := (s.me.issued.readS (b.toNat + 1)).toNat % 2 ^ c.sew
  elementwise d.toNat c.grp c.sew (m == 1) (fun e =>
    let p := minMax c.fmt true (elemLin x c.grp c.sew c.len e) lo
    let q := minMax c.fmt false p.1 hi
    (q.1, p.2 ||| q.2))

/-- The multiply-adds of major 0x28 in the format in force: D is addend and destination (R193). -/
def vfmaBody (scalar negP negD : Bool) (d a b : BitVec 7) (m : BitVec 1) : Exec Unit := do
  coreOnly
  checkRmw d.toNat
  if scalar then do
    checkOne d a
    checkSrc b.toNat
  else checkTwo d a b
  checkFmt
  let s ← getState
  let z ← readTile d.toNat s.me.csr.grp
  let f := fun (s : State) (e x y : Nat) =>
    let c := s.me.csr
    fFma c.fmt c.fmt (s.rounding e).1 (s.rounding e).2 negP negD x y (elemLin z c.grp c.sew c.len e)
  if scalar then vecVS f d a b m else vecVV f d a b m

/-- VFMAW and VFMAW.X: the addend and result in the widened format (R190, R193). -/
def vfmawBody (scalar : Bool) (d a b : BitVec 7) (m : BitVec 1) : Exec Unit := do
  let s ← getState
  let g := s.me.csr.grp
  coreOnly
  checkRmw d.toNat
  checkTileSrc a.toNat g
  if scalar then checkSrc b.toNat else checkTileSrc b.toNat g
  checkUnscaled
  checkWide d
  checkDisjoint d.toNat (2 * g) a.toNat g
  if scalar then pure () else checkDisjoint d.toNat (2 * g) b.toNat g
  checkFmt
  let z ← readTile d.toNat (2 * g)
  let x ← readTile a.toNat g
  let y ← if scalar then pure [] else readTile b.toNat g
  let k ← if scalar then vecValue b.toNat else pure 0
  let s ← getState
  let c := s.me.csr
  elementwise d.toNat (2 * g) (2 * c.sew) (m == 1) (fun e =>
    fFma c.fmt c.wideFmt (s.rounding e).1 (s.rounding e).2 false false (elemLin x g c.sew c.len e)
      (if scalar then k.toNat % 2 ^ c.sew else elemLin y g c.sew c.len e) (elemLin z (2 * g) (2 * c.sew) c.len e))

/-- VMACC and VMACC.X: integer d + a × b (R193). -/
def vmaccBody (scalar : Bool) (d a b : BitVec 7) (m : BitVec 1) : Exec Unit := do
  coreOnly
  checkRmw d.toNat
  if scalar then do
    checkOne d a
    checkSrc b.toNat
  else checkTwo d a b
  let s ← getState
  let z ← readTile d.toNat s.me.csr.grp
  let f := fun (s : State) (e x y : Nat) =>
    let c := s.me.csr
    ((elemLin z c.grp c.sew c.len e + x * y) % 2 ^ c.sew, 0)
  if scalar then vecVS f d a b m else vecVV f d a b m

/-- VFADD (R189). -/
def execVfadd (d : BitVec 7) (a : BitVec 7) (b : BitVec 7) (m : BitVec 1) (s : State) : Host.Outcome State Fault Refusal :=
  runVector (vfpVV 0 d a b m) s

/-- VFADD with a scalar operand (R189). -/
def execVfaddVs (d : BitVec 7) (a : BitVec 7) (b : BitVec 7) (m : BitVec 1) (s : State) : Host.Outcome State Fault Refusal :=
  runVector (vfpVS 0 d a b m) s

/-- VFSUB (R189). -/
def execVfsub (d : BitVec 7) (a : BitVec 7) (b : BitVec 7) (m : BitVec 1) (s : State) : Host.Outcome State Fault Refusal :=
  runVector (vfpVV 1 d a b m) s

/-- VFSUB with a scalar operand (R189). -/
def execVfsubVs (d : BitVec 7) (a : BitVec 7) (b : BitVec 7) (m : BitVec 1) (s : State) : Host.Outcome State Fault Refusal :=
  runVector (vfpVS 1 d a b m) s

/-- VFMUL (R189). -/
def execVfmul (d : BitVec 7) (a : BitVec 7) (b : BitVec 7) (m : BitVec 1) (s : State) : Host.Outcome State Fault Refusal :=
  runVector (vfpVV 2 d a b m) s

/-- VFMUL with a scalar operand (R189). -/
def execVfmulVs (d : BitVec 7) (a : BitVec 7) (b : BitVec 7) (m : BitVec 1) (s : State) : Host.Outcome State Fault Refusal :=
  runVector (vfpVS 2 d a b m) s

/-- VFDIV (R189). -/
def execVfdiv (d : BitVec 7) (a : BitVec 7) (b : BitVec 7) (m : BitVec 1) (s : State) : Host.Outcome State Fault Refusal :=
  runVector (vfpVV 3 d a b m) s

/-- VFDIV with a scalar operand (R189). -/
def execVfdivVs (d : BitVec 7) (a : BitVec 7) (b : BitVec 7) (m : BitVec 1) (s : State) : Host.Outcome State Fault Refusal :=
  runVector (vfpVS 3 d a b m) s

/-- VFMIN (R189). -/
def execVfmin (d : BitVec 7) (a : BitVec 7) (b : BitVec 7) (m : BitVec 1) (s : State) : Host.Outcome State Fault Refusal :=
  runVector (vfpVV 4 d a b m) s

/-- VFMIN with a scalar operand (R189). -/
def execVfminVs (d : BitVec 7) (a : BitVec 7) (b : BitVec 7) (m : BitVec 1) (s : State) : Host.Outcome State Fault Refusal :=
  runVector (vfpVS 4 d a b m) s

/-- VFMAX (R189). -/
def execVfmax (d : BitVec 7) (a : BitVec 7) (b : BitVec 7) (m : BitVec 1) (s : State) : Host.Outcome State Fault Refusal :=
  runVector (vfpVV 5 d a b m) s

/-- VFMAX with a scalar operand (R189). -/
def execVfmaxVs (d : BitVec 7) (a : BitVec 7) (b : BitVec 7) (m : BitVec 1) (s : State) : Host.Outcome State Fault Refusal :=
  runVector (vfpVS 5 d a b m) s

/-- VFSQRT (R189). -/
def execVfsqrt (d : BitVec 7) (a : BitVec 7) (m : BitVec 1) (s : State) : Host.Outcome State Fault Refusal :=
  runVector (vfpV 6 d a m) s

/-- VFSQRT of a scalar, broadcast (R189). -/
def execVfsqrtVs (d : BitVec 7) (b : BitVec 7) (m : BitVec 1) (s : State) : Host.Outcome State Fault Refusal :=
  runVector (vfpS 6 d b m) s

/-- VFABS (R189). -/
def execVfabs (d : BitVec 7) (a : BitVec 7) (m : BitVec 1) (s : State) : Host.Outcome State Fault Refusal :=
  runVector (vfpV 7 d a m) s

/-- VFABS of a scalar, broadcast (R189). -/
def execVfabsVs (d : BitVec 7) (b : BitVec 7) (m : BitVec 1) (s : State) : Host.Outcome State Fault Refusal :=
  runVector (vfpS 7 d b m) s

/-- VFNEG (R189). -/
def execVfneg (d : BitVec 7) (a : BitVec 7) (m : BitVec 1) (s : State) : Host.Outcome State Fault Refusal :=
  runVector (vfpV 8 d a m) s

/-- VFNEG of a scalar, broadcast (R189). -/
def execVfnegVs (d : BitVec 7) (b : BitVec 7) (m : BitVec 1) (s : State) : Host.Outcome State Fault Refusal :=
  runVector (vfpS 8 d b m) s

/-- VFSGC (R189). -/
def execVfsgc (d : BitVec 7) (a : BitVec 7) (b : BitVec 7) (m : BitVec 1) (s : State) : Host.Outcome State Fault Refusal :=
  runVector (vfpVV 9 d a b m) s

/-- VFSGC with a scalar operand (R189). -/
def execVfsgcVs (d : BitVec 7) (a : BitVec 7) (b : BitVec 7) (m : BitVec 1) (s : State) : Host.Outcome State Fault Refusal :=
  runVector (vfpVS 9 d a b m) s

/-- VFRECE (R189, R192). -/
def execVfrece (d : BitVec 7) (a : BitVec 7) (m : BitVec 1) (s : State) : Host.Outcome State Fault Refusal :=
  runVector (vfpV 10 d a m) s

/-- VFRECE of a scalar, broadcast (R189). -/
def execVfreceVs (d : BitVec 7) (b : BitVec 7) (m : BitVec 1) (s : State) : Host.Outcome State Fault Refusal :=
  runVector (vfpS 10 d b m) s

/-- VFRSQE (R189, R192). -/
def execVfrsqe (d : BitVec 7) (a : BitVec 7) (m : BitVec 1) (s : State) : Host.Outcome State Fault Refusal :=
  runVector (vfpV 11 d a m) s

/-- VFRSQE of a scalar, broadcast (R189). -/
def execVfrsqeVs (d : BitVec 7) (b : BitVec 7) (m : BitVec 1) (s : State) : Host.Outcome State Fault Refusal :=
  runVector (vfpS 11 d b m) s

/-- VFEXP2E (R189, R192). -/
def execVfexp2e (d : BitVec 7) (a : BitVec 7) (m : BitVec 1) (s : State) : Host.Outcome State Fault Refusal :=
  runVector (vfpV 12 d a m) s

/-- VFEXP2E of a scalar, broadcast (R189). -/
def execVfexp2eVs (d : BitVec 7) (b : BitVec 7) (m : BitVec 1) (s : State) : Host.Outcome State Fault Refusal :=
  runVector (vfpS 12 d b m) s

/-- VFCLASS (R189). -/
def execVfclass (d : BitVec 7) (a : BitVec 7) (m : BitVec 1) (s : State) : Host.Outcome State Fault Refusal :=
  runVector (vfpV 13 d a m) s

/-- VFCLASS of a scalar, broadcast (R189). -/
def execVfclassVs (d : BitVec 7) (b : BitVec 7) (m : BitVec 1) (s : State) : Host.Outcome State Fault Refusal :=
  runVector (vfpS 13 d b m) s

/-- VFADDW (R190). -/
def execVfaddw (d : BitVec 7) (a : BitVec 7) (b : BitVec 7) (m : BitVec 1) (s : State) : Host.Outcome State Fault Refusal :=
  runVector (vfpWide addVal d a b m) s

/-- VFMULW (R190). -/
def execVfmulw (d : BitVec 7) (a : BitVec 7) (b : BitVec 7) (m : BitVec 1) (s : State) : Host.Outcome State Fault Refusal :=
  runVector (vfpWide (fun _ => mulVal) d a b m) s

/-- VFCLAMP (R191). -/
def execVfclamp (d : BitVec 7) (a : BitVec 7) (b : BitVec 7) (m : BitVec 1) (s : State) : Host.Outcome State Fault Refusal :=
  runVector (vfclampBody d a b m) s

/-- VFMA (R193). -/
def execVfma (d : BitVec 7) (a : BitVec 7) (b : BitVec 7) (m : BitVec 1) (s : State) : Host.Outcome State Fault Refusal :=
  runVector (vfmaBody false false false d a b m) s

/-- VFMA.X (R193). -/
def execVfmaX (d : BitVec 7) (a : BitVec 7) (b : BitVec 7) (m : BitVec 1) (s : State) : Host.Outcome State Fault Refusal :=
  runVector (vfmaBody true false false d a b m) s

/-- VFMS (R193). -/
def execVfms (d : BitVec 7) (a : BitVec 7) (b : BitVec 7) (m : BitVec 1) (s : State) : Host.Outcome State Fault Refusal :=
  runVector (vfmaBody false false true d a b m) s

/-- VFMS.X (R193). -/
def execVfmsX (d : BitVec 7) (a : BitVec 7) (b : BitVec 7) (m : BitVec 1) (s : State) : Host.Outcome State Fault Refusal :=
  runVector (vfmaBody true false true d a b m) s

/-- VFNMA (R193). -/
def execVfnma (d : BitVec 7) (a : BitVec 7) (b : BitVec 7) (m : BitVec 1) (s : State) : Host.Outcome State Fault Refusal :=
  runVector (vfmaBody false true false d a b m) s

/-- VFNMA.X (R193). -/
def execVfnmaX (d : BitVec 7) (a : BitVec 7) (b : BitVec 7) (m : BitVec 1) (s : State) : Host.Outcome State Fault Refusal :=
  runVector (vfmaBody true true false d a b m) s

/-- VFNMS (R193). -/
def execVfnms (d : BitVec 7) (a : BitVec 7) (b : BitVec 7) (m : BitVec 1) (s : State) : Host.Outcome State Fault Refusal :=
  runVector (vfmaBody false true true d a b m) s

/-- VFNMS.X (R193). -/
def execVfnmsX (d : BitVec 7) (a : BitVec 7) (b : BitVec 7) (m : BitVec 1) (s : State) : Host.Outcome State Fault Refusal :=
  runVector (vfmaBody true true true d a b m) s

/-- VFMAW (R193). -/
def execVfmaw (d : BitVec 7) (a : BitVec 7) (b : BitVec 7) (m : BitVec 1) (s : State) : Host.Outcome State Fault Refusal :=
  runVector (vfmawBody false d a b m) s

/-- VFMAW.X (R193). -/
def execVfmawX (d : BitVec 7) (a : BitVec 7) (b : BitVec 7) (m : BitVec 1) (s : State) : Host.Outcome State Fault Refusal :=
  runVector (vfmawBody true d a b m) s

/-- VMACC (R193). -/
def execVmacc (d : BitVec 7) (a : BitVec 7) (b : BitVec 7) (m : BitVec 1) (s : State) : Host.Outcome State Fault Refusal :=
  runVector (vmaccBody false d a b m) s

/-- VMACC.X (R193). -/
def execVmaccX (d : BitVec 7) (a : BitVec 7) (b : BitVec 7) (m : BitVec 1) (s : State) : Host.Outcome State Fault Refusal :=
  runVector (vmaccBody true d a b m) s

end Sys2Proof.Machine
end

