-- ==== Sys2Proof/Machine/VPerm.lean ====
section
/-! DEFINITION. Permutes: VPERM (R196, R197). -/

namespace Sys2Proof.Machine

/-- A masked member that acts within rows: active elements take `f`, the others follow IP (R196). -/
def maskedRow (h : Hart) (m : Bool) (f : Nat → Nat → Nat) (j i : Nat) : Elem :=
  if h.csr.len ≤ i then .inactive
  else if h.active m (j * h.csr.len + i) then .value (f j i) 0
  else .inactive

/-- The checks of a slide: VSTART is 0, and the source shares no register with the destination (R187, R196). [DEDUCED, log 98] -/
def checkPermute (d a : BitVec 7) : Exec Unit := do
  let s ← getState
  let g := s.me.csr.grp
  coreOnly
  checkTileSrc a.toNat g
  checkTileDst d.toNat g
  checkUnscaled
  checkStart0
  checkDisjoint d.toNat g a.toNat g

/-- The slides: `f` gives element i of row j from the source element it may read, VL and the scalar operand (R196). -/
def slideFn (fn : Nat) (sew vl : Nat) (s : Word) (a : Nat → Nat) (i : Nat) : Nat :=
  match fn with
  | 0 => a (i - s.toNat)
  | 1 => if i + s.toNat < vl then a (i + s.toNat) else 0
  | 2 => if i = 0 then s.toNat % 2 ^ sew else a (i - 1)
  | _ => if i + 1 < vl then a (i + 1) else s.toNat % 2 ^ sew

/-- VSLIDEUP, VSLIDEDN, VSLIDE1UP and VSLIDE1DN (R196). Elements of VSLIDEUP below s stay whatever IP says. -/
def slideBody (fn : Nat) (d a b : BitVec 7) (m : BitVec 1) : Exec Unit := do
  checkPermute d a
  checkSrc b.toNat
  let s ← getState
  let c := s.me.csr
  let x ← readTile a.toNat c.grp
  let k ← vecValue b.toNat
  let s ← getState
  putRows d.toNat c.grp c.sew (fun j i =>
    if fn = 0 ∧ i < c.len ∧ i < k.toNat then .kept
    else maskedRow s.me (m == 1) (fun j i => slideFn fn c.sew c.len k (elemAt x c.grp c.sew j) i) j i)

/-- VPERMI (R196). -/
def vpermiBody (d a b : BitVec 7) (m : BitVec 1) : Exec Unit := do
  checkPermute d a
  let s ← getState
  let c := s.me.csr
  checkTileSrc b.toNat c.grp
  checkDisjoint d.toNat c.grp b.toNat c.grp
  let x ← readTile a.toNat c.grp
  let y ← readTile b.toNat c.grp
  let s ← getState
  putRows d.toNat c.grp c.sew (maskedRow s.me (m == 1) (fun j i =>
    let k := elemAt y c.grp c.sew j i
    if k < c.len then elemAt x c.grp c.sew j k else 0))

/-- The lanes below `n` of a row whose bit is 1, ascending. -/
def chosenLanes (p : PReg) (j n : Nat) : List Nat := (range 0 n).filter (predLane p j)

/-- VCOMPRESS (R197). -/
def vcompressBody (d a : BitVec 7) (b : BitVec 4) : Exec Unit := do
  checkPermute d a
  let s ← getState
  let c := s.me.csr
  let x ← readTile a.toNat c.grp
  let p := s.me.issued.readP b.toNat
  putRows d.toNat c.grp c.sew (fun j i =>
    match (chosenLanes p j c.len)[i]? with
    | some k => .value (elemAt x c.grp c.sew j k) 0
    | none => .inactive)

/-- VEXPAND (R197). -/
def vexpandBody (d a : BitVec 7) (b : BitVec 4) : Exec Unit := do
  checkPermute d a
  let s ← getState
  let c := s.me.csr
  let x ← readTile a.toNat c.grp
  let p := s.me.issued.readP b.toNat
  putRows d.toNat c.grp c.sew (fun j i =>
    if i < c.len ∧ predLane p j i = true then .value (elemAt x c.grp c.sew j (chosenLanes p j i).length) 0
    else .inactive)

/-- VMERGE: elementwise, with p0 as its selector (R197). -/
def vmergeBody (d a b : BitVec 7) : Exec Unit := do
  checkTwo d a b
  let s ← getState
  let c := s.me.csr
  let x ← readTile a.toNat c.grp
  let y ← readTile b.toNat c.grp
  let p := s.me.issued.readP 0
  elementwise d.toNat c.grp c.sew false (fun e =>
    (elemLin (if predBit p c.len e then x else y) c.grp c.sew c.len e, 0))

/-- VSPLAT: elementwise (R196). -/
def vsplatBody (d a : BitVec 7) (m : BitVec 1) : Exec Unit := do
  let s ← getState
  let c := s.me.csr
  coreOnly
  checkSrc a.toNat
  checkTileDst d.toNat c.grp
  checkUnscaled
  let x ← vecValue a.toNat
  elementwise d.toNat c.grp c.sew (m == 1) (fun _ => (x.toNat % 2 ^ c.sew, 0))

/-- VMVXS (R197). -/
def vmvxsBody (d a b : BitVec 7) : Exec Unit := do
  let s ← getState
  let c := s.me.csr
  coreOnly
  checkTileSrc a.toNat c.grp
  checkSrc b.toNat
  checkDst d.toNat
  checkUnscaled
  checkStart0
  let x ← readTile a.toNat c.grp
  let e ← vecValue b.toNat
  writeS d.toNat (if e.toNat < c.rows * c.len then sextN c.sew (elemLin x c.grp c.sew c.len e.toNat) else 0)

/-- VROWBC (R197). -/
def vrowbcBody (d a b : BitVec 7) : Exec Unit := do
  checkPermute d a
  checkSrc b.toNat
  let s ← getState
  let c := s.me.csr
  let x ← readTile a.toNat c.grp
  let r ← vecValue b.toNat
  require (decide (r.toNat < c.rows))
  putRows d.toNat c.grp c.sew (fun _ i => if i < c.len then .value (elemAt x c.grp c.sew r.toNat i) 0 else .inactive)

/-- VTRANS (R197). -/
def vtransBody (d a : BitVec 7) : Exec Unit := do
  checkPermute d a
  let s ← getState
  let c := s.me.csr
  require (c.len == c.rows)
  let x ← readTile a.toNat c.grp
  putRows d.toNat c.grp c.sew (fun j i => if i < c.len then .value (elemAt x c.grp c.sew i j) 0 else .inactive)

/-- VSLIDEUP (R196). -/
def execVslideup (d : BitVec 7) (a : BitVec 7) (b : BitVec 7) (m : BitVec 1) (s : State) : Host.Outcome State Fault Refusal :=
  runVector (slideBody 0 d a b m) s

/-- VSLIDEDN (R196). -/
def execVslidedn (d : BitVec 7) (a : BitVec 7) (b : BitVec 7) (m : BitVec 1) (s : State) : Host.Outcome State Fault Refusal :=
  runVector (slideBody 1 d a b m) s

/-- VSLIDE1UP (R196). -/
def execVslide1up (d : BitVec 7) (a : BitVec 7) (b : BitVec 7) (m : BitVec 1) (s : State) : Host.Outcome State Fault Refusal :=
  runVector (slideBody 2 d a b m) s

/-- VSLIDE1DN (R196). -/
def execVslide1dn (d : BitVec 7) (a : BitVec 7) (b : BitVec 7) (m : BitVec 1) (s : State) : Host.Outcome State Fault Refusal :=
  runVector (slideBody 3 d a b m) s

/-- VPERMI (R196). -/
def execVpermi (d : BitVec 7) (a : BitVec 7) (b : BitVec 7) (m : BitVec 1) (s : State) : Host.Outcome State Fault Refusal :=
  runVector (vpermiBody d a b m) s

/-- VCOMPRESS (R197). -/
def execVcompress (d : BitVec 7) (a : BitVec 7) (b : BitVec 4) (s : State) : Host.Outcome State Fault Refusal :=
  runVector (vcompressBody d a b) s

/-- VEXPAND (R197). -/
def execVexpand (d : BitVec 7) (a : BitVec 7) (b : BitVec 4) (s : State) : Host.Outcome State Fault Refusal :=
  runVector (vexpandBody d a b) s

/-- VMERGE (R197). -/
def execVmerge (d : BitVec 7) (a : BitVec 7) (b : BitVec 7) (s : State) : Host.Outcome State Fault Refusal :=
  runVector (vmergeBody d a b) s

/-- VSPLAT (R196). -/
def execVsplat (d : BitVec 7) (a : BitVec 7) (m : BitVec 1) (s : State) : Host.Outcome State Fault Refusal :=
  runVector (vsplatBody d a m) s

/-- VMVXS (R197). -/
def execVmvxs (d : BitVec 7) (a : BitVec 7) (b : BitVec 7) (s : State) : Host.Outcome State Fault Refusal :=
  runVector (vmvxsBody d a b) s

/-- VROWBC (R197). -/
def execVrowbc (d : BitVec 7) (a : BitVec 7) (b : BitVec 7) (s : State) : Host.Outcome State Fault Refusal :=
  runVector (vrowbcBody d a b) s

/-- VTRANS (R197). -/
def execVtrans (d : BitVec 7) (a : BitVec 7) (s : State) : Host.Outcome State Fault Refusal :=
  runVector (vtransBody d a) s

end Sys2Proof.Machine
end

