-- ==== Sys2Proof/Machine/Replay.lean ====
section
/-! DEFINITION. Replay: the stations perform a recorded loop's remaining iterations and hand the loop back (R130, R318, R321–R325). -/

namespace Sys2Proof.Machine

/-- A 7-bit register field of a word. -/
def reg7 (w : BitVec 32) (lo : Nat) : BitVec 7 := w.extractLsb' lo 7

/-- The scalar FP32 members of the replayable set (R318). -/
def replayFloat (fn : Nat) (d a b : BitVec 7) : Exec Unit :=
  match fn with
  | 0 => falu2 (fAdd fp32) fp32 d a b
  | 1 => falu2 (fSub fp32) fp32 d a b
  | 2 => falu2 (fMul fp32) fp32 d a b
  | 5 => falu2 (fun _ _ x y => minMax fp32 false x y) fp32 d a b
  | 6 => falu2 (fun _ _ x y => minMax fp32 true x y) fp32 d a b
  | 7 => falu2 (fCompareReg fp32 0) fp32 d a b
  | 8 => falu2 (fCompareReg fp32 1) fp32 d a b
  | 9 => falu2 (fCompareReg fp32 2) fp32 d a b
  | 30 => falu1 (convert fp32 fp16) 32 d a
  | 31 => falu1 (convert fp16 fp32) 16 d a
  | n => falu2 (fSign (n - 27)) fp32 d a b

/-- What a word of the replayable set does, conditional branches apart (R318). -/
def replayBody (w : BitVec 32) : Exec Unit :=
  let d := reg7 w 6
  let a := reg7 w 13
  let b := reg7 w 20
  let m : BitVec 1 := w.extractLsb' 27 1
  let fn4 := wFn4 w
  let imm : Word := sext (w.extractLsb' 22 10)
  let sh := field w 22 6
  let z : BitVec 2 := w.extractLsb' 20 2
  let i : BitVec 10 := w.extractLsb' 22 10
  let pd : BitVec 4 := w.extractLsb' 6 4
  let pa : BitVec 4 := w.extractLsb' 13 4
  let pb : BitVec 4 := w.extractLsb' 20 4
  match wMaj w with
  | 0x01 => alu2 (aluFn (wFn5 w)) d a b
  | 0x02 =>
    alu1 (match wFn2 w with
      | 0 => fun x => x + imm
      | 1 => fun x => x &&& imm
      | 2 => fun x => x ||| imm
      | _ => fun x => x ^^^ imm) d a
  | 0x03 =>
    alu1 (match wFn2 w with
      | 0 => fun x => x <<< sh
      | 1 => fun x => x >>> sh
      | 2 => fun x => x.sshiftRight sh
      | _ => fun x => aluFn 9 x imm) d a
  | 0x06 => replayFloat (wFn5 w) d a b
  | 0x07 => fmaScalar fp32 (decide (wFn5 w = 2)) (decide (wFn5 w = 1)) d a b
  | 0x0D => scalarLoad false true d a z i
  | 0x0E => scalarLoad false false d a z i
  | 0x0F => scalarStore false d a z i
  | 0x24 => vintVV fn4 d a b m
  | 0x25 => vintVS fn4 d a b m
  | 0x26 => if fn4 = 7 ∨ fn4 = 8 then vfpV fn4 d a m else vfpVV fn4 d a b m
  | 0x27 => if fn4 = 14 then vfclampBody d a b m else if fn4 = 7 ∨ fn4 = 8 then vfpS fn4 d b m else vfpVS fn4 d a b m
  | 0x28 =>
    if 10 ≤ fn4 then vmaccBody (decide (fn4 = 11)) d a b m
    else vfmaBody (decide (4 ≤ fn4)) (decide (2 ≤ fn4 % 4)) (decide (fn4 % 2 = 1)) d a b m
  | 0x29 => if 11 ≤ fn4 then vcmpVS fn4 pd a b m else vcmpVV fn4 pd a b m
  | 0x2A =>
    if fn4 = 9 then pcountBody (fun l => BitVec.ofNat 64 l.length) d pa
    else if fn4 = 10 then pcountBody (fun l => (l.head?.map (BitVec.ofNat 64)).getD (BitVec.allOnes 64)) d pa
    else if fn4 = 4 then pmaskLogic 4 pd pa pa
    else pmaskLogic fn4 pd pa pb
  | 0x2B => vmergeBody d a b
  | 0x2D => convertBody fn4 d a b m
  | 0x2F => loadBody false .unit (wB w / 8) d a 0 m
  | 0x30 => storeBody false .unit (wB w / 8) d a 0 m
  | _ => illegalInstr

/-- Whether a conditional branch is taken (R167). -/
def branchTaken (w : BitVec 32) (h : Hart) : Bool :=
  if wMaj w = 0x08 then bzTest (field w 13 3) (h.readS (wD w))
  else b2Test (field w 20 3) (h.readS (wD w)) (h.readS (wA w))

/-- An access of a replayed instruction that the stations leave to the core: a byte outside the vector region, where a stream faults, a page not PRESENT
or DEV, or a byte homed on another die (R304, R323). -/
def strayNote (lead : Nat) (n : Note) : Bool :=
  (range n.va n.len).any (fun a => !vectorRegion (a % 2 ^ 64)) || n.shared || n.dev || !n.present || n.pas.any (fun p => regionOf p != .device || homeDie p != lead / 3)

/-- One replayed instruction: the state after it, or how the iteration stops; `none` where it has to wait for a copy of the hart or for
a station (R93, R321, R323, R390). -/
def replayInstr (lead : Nat) (x : RecInstr) (s : State) : Except (Option ReplayEnd) State :=
  let s := { s with ir := x.word, notes := [], me := { s.me with pc := x.pc } }
  if isBranch x.word then
    if some (branchTaken x.word s.me) = x.taken then .ok s else .error (some .departed)
  else
    match replayBody x.word (if isVector x.word then beginVector s else s) with
    | .error (.wait 9 _ _ _) _ => .error none
    | .error (.wait 14 _ _ _) _ => .error none
    | .error _ _ => .error (some .returned)
    | .ok _ s' =>
      if s'.notes.any (strayNote lead) then .error (some .returned)
      else
        let flags := (s'.me.savedNow.map (·.flags)).getD 0
        let s' := measureHook true s'
        .ok { s' with me := (s'.me.withSaved none).raise flags }

/-- The instructions of an iteration, in order. -/
def replayPath (lead : Nat) : List RecInstr → State → Except (Option ReplayEnd) State
  | [], s => .ok s
  | x :: r, s =>
    match replayInstr lead x s with
    | .ok s' => replayPath lead r s'
    | .error e => .error e

/-- s[A] and s[B] at the start of iteration `j`: count − j and start + j, or in a sweep the id of the due member (R258, R260, R324). -/
def setCounters (l : Loop) (j : Nat) (h : Hart) : Hart :=
  let index : Word := match l.sweep with
    | none => l.start0 + BitVec.ofNat 64 j
    | some w => BitVec.ofNat 64 ((w.due[j]?.map (fun d => d.1)).getD w.cnt)
  (h.writeS l.rb index).writeS l.ra (BitVec.ofNat 64 (l.count - j))

/-- The affine inductions put into the scalar registers, by architectural number. -/
def putInductions (xs : List (Nat × Word)) (h : Hart) : Hart :=
  { h with s := xs.foldl (fun t e => sparseSet 0 t e.1 e.2) h.s }

/-- The registers that the stations begin an iteration with: the captured ones, the inductions, and the FRM of the LMARK (R321). -/
def replayHart (l : Loop) (r : Replay) (h : Hart) : Hart :=
  let h := putInductions r.inductions (setCounters l r.j h)
  { h with
    held := []
    strip := {}
    saved := none
    savedInTrap := none
    csr := { h.csr with frm := l.frm, fflags := 0, vstart := 0 } }

/-- One iteration on the hart in focus, whose loop is in REPLAY: performed whole, with its stores behind the frontier, or not at all (R321–
R323). [DEDUCED, log 61] -/
def replayOne (l : Loop) (r : Replay) (s : State) : State :=
  let put (l : Loop) (s : State) : State := { s with me := { s.me with loop := some l } }
  let at_ : State := { s with
    me := replayHart l r s.me
    tan := { s.tan with core := r.lead / 3 * 64 }
    dbg := { s.dbg with passed := s.hart :: s.dbg.passed } }
  match replayPath r.lead r.path at_ with
  | .error none => s
  | .error (some e) => put { l with replay := some { r with ended := some e } } s
  | .ok s' =>
    let (s2, h) := performHeldOf s' s'.tan s'.onA s'.me
    let j := r.j + 1
    let r' : Replay := { r with
      j := j
      checked := false
      flags := r.flags ||| h.csr.fflags
      inductions := r.inductions.map (fun e => (e.1, sparseGet 0 h.s e.1))
      ended := if j < l.count then none else some .replayed }
    put { (h.loop.getD l).advance with replay := some r' } { s with mem := s2.mem, paging := s2.paging, free := s2.free }

/-- The hart of a tandem whose loop is in REPLAY. -/
def replayingHart (s : State) (t : Nat) : Option Nat :=
  match s.tandem? t with
  | none => none
  | some x =>
    let on (h : Hart) : Bool := (h.loop.bind (·.replay)).isSome
    if on x.e then some (2 * t) else if on x.a then some (2 * t + 1) else none

/-- The stations may perform a replay's next iteration: it has not ended, and where HCTL.RCK is not 0 the two runs agree (R321). -/
def Replay.mayRun (r : Replay) (c : Csr) : Bool := r.ended.isNone && (decide (c.rck = 0) || r.checked)

/-- REPLAY_ITERATION: the stations perform the next iteration of tandem `t`'s replay (R321–R323). -/
def execReplayIteration (t : Nat) (s : State) : Host.Outcome State Fault Refusal :=
  .next (match replayingHart s t with
    | none => s
    | some h => atHart h (fun s =>
        match s.me.loop with
        | some l =>
          (match l.replay with
           | some r => if r.mayRun s.me.csr then replayOne l r s else s
           | none => s)
        | none => s) s)

/-- LSTAT and LIDX at a hand-back (R323, R324, R326). -/
def handBackStatus (e : ReplayEnd) (j : Nat) (c : Csr) : Csr :=
  let st := match e with
    | .replayed => 2
    | .departed => 3
    | .returned => 4
  let l := setLoopState c.lstat st
  { c with lstat := if e = .departed then setField l 8 1 1 else l, lidx := BitVec.ofNat 64 j }

/-- The close of a replayed sweep meets a page fault: a record of the replay names it, and the hand-back waits for the pager (R313, R346, R347). -/
def closeFaults (die reason : Nat) (addr : Word) (s : State) : State :=
  let s := postMine { s with tan := { s.tan with page := some addr } } die (faultRecordOf s s.tan die s.sideCode .replay reason addr)
  if s.tan.heldRecord.isSome then syncImage (s.withFocus (s.focusAway.waitFor 17)) else s

/-- The hand-back on the hart in focus (R324): an acquire, the registers of iteration j, the flags of the replayed iterations. After the
last iteration the loop is over; a sweep is closed first, by the stations, whose accesses meet no comparator (R335, R377), and the hand-back waits for
what its close waits for. [DEDUCED, log 62] -/
def handBackAt (l : Loop) (r : Replay) (e : ReplayEnd) (s : State) : State :=
  let h := putInductions r.inductions (setCounters l r.j s.me)
  let h := { h with csr := handBackStatus e r.j { h.csr with fflags := h.csr.fflags ||| r.flags } }
  let die := r.lead / 3
  let t : State := { s with mem := s.mem.publish die }
  let loopTo (l : Option Loop) (pc : Word) (s : State) : State := syncImage { s with me := { h with loop := l, pc := pc } }
  if e ≠ .replayed then loopTo (some { l with replay := none, recd := none, handed := true }) l.start t
  else
    match l.sweep with
    | none => loopTo none (l.lend + 4) t
    | some w =>
      if s.me.outstanding ≠ [] then s
      else
        match closeSweep w w.due.length { t with dbg := { t.dbg with passed := s.hart :: t.dbg.passed } } with
        | .ok _ t' => loopTo none (l.lend + 4) { t' with dbg := s.dbg }
        | .error (.wait _ _ _ _) _ => s
        | .error (.page reason _ a) _ => closeFaults die reason a s
        | .error .rootFault _ => faultContextAll s s.tan.ctx
        | .error (.trap _ _ _ a _) _ => faultMyKernel s a 0
        | .error _ _ => s

/-- HAND_BACK: the stations release tandem `t` once its replay has ended and no fault record of it waits (R324, R347). -/
def execHandBack (t : Nat) (s : State) : Host.Outcome State Fault Refusal :=
  .next (match replayingHart s t with
    | none => s
    | some h => atHart h (fun s =>
        if s.tan.page.isSome || s.tan.heldRecord.isSome then s else
        match s.me.loop with
        | some l =>
          (match l.replay with
           | some r =>
             (match r.ended with
              | some e => handBackAt l r e s
              | none => s)
           | none => s)
        | none => s) s)

end Sys2Proof.Machine
end

