-- ==== Sys2Proof/Machine/TensorDesc.lean ====
section
/-! DEFINITION. Tensor descriptors and scale registers in memory: MTD (R217–R219). -/

namespace Sys2Proof.Machine

/-- The instruction does not exist on a firmware core; both sides of a tandem may run it (R151, R218). -/
def descAddress (a : BitVec 7) : Exec Nat := do
  coreOnly
  checkSrc a.toNat
  let x ← readS a.toNat
  requireAligned x.toNat 32
  pure x.toNat

/-- TDSET: a store of its side for the other (R218, R219). -/
def tdsetBody (t : BitVec 4) (a : BitVec 7) : Exec Unit := do
  let x ← descAddress a
  let n ← readMem false x 32
  let v : Desc := BitVec.ofNat 256 n
  require (!tdValid v || tdLegal v)
  modState (fun s => { s with tan := s.tan.writeTd s.onA t.toNat v })

/-- TDGET (R218). -/
def tdgetBody (t : BitVec 4) (a : BitVec 7) : Exec Unit := do
  let x ← descAddress a
  modState State.seeTds
  let s ← getState
  writeMem false x 32 (s.tan.readTd s.onA t.toNat).toNat

/-- A valid descriptor (R218). -/
def validDesc (t : BitVec 4) : Exec Desc := do
  coreOnly
  modState State.seeTds
  let s ← getState
  require (tdLegal (s.tan.readTd s.onA t.toNat))
  pure (s.tan.readTd s.onA t.toNat)

/-- Bytes read one after the other (R218). -/
def readEach (base : Nat) : Nat → Nat → Exec (List Byte)
  | 0, _ => pure []
  | n + 1, i => do
    let b ← loadBytes false false false ((base + i) % 2 ^ 64) 1
    let r ← readEach base n (i + 1)
    pure (b ++ r)

/-- SCLD (R218). [DEDUCED, log 46] -/
def scldBody (k : BitVec 3) (t : BitVec 4) : Exec Unit := do
  let d ← validDesc t
  let bs ← readEach (tdSbase d) 256 0
  modMe (fun h => h.writeK k.toNat (BitVec.ofNat 2048 (ofBytes bs)))

/-- SCST (R218). -/
def scstBody (k : BitVec 3) (t : BitVec 4) : Exec Unit := do
  coreOnly
  modState State.seeTds
  let s ← getState
  storeFromVstart (tdSbase (s.tan.readTd s.onA t.toNat)) (toBytes 256 (s.me.issued.readK k.toNat).toNat)

/-- TDINV (R218, R219). -/
def tdinvBody (t : BitVec 4) : Exec Unit := do
  coreOnly
  modState (fun s => { s with tan := s.tan.writeTd s.onA t.toNat 0 })

/-- TDSET (R218). -/
def execTdset (t : BitVec 4) (a : BitVec 7) (s : State) : Host.Outcome State Fault Refusal :=
  runScalar (tdsetBody t a) s

/-- TDGET (R218). -/
def execTdget (t : BitVec 4) (a : BitVec 7) (s : State) : Host.Outcome State Fault Refusal :=
  runScalar (tdgetBody t a) s

/-- SCLD (R218). -/
def execScld (k : BitVec 3) (t : BitVec 4) (s : State) : Host.Outcome State Fault Refusal :=
  runScalar (scldBody k t) s

/-- SCST (R218). -/
def execScst (k : BitVec 3) (t : BitVec 4) (s : State) : Host.Outcome State Fault Refusal :=
  runKeep (scstBody k t) s

/-- TDINV (R218). -/
def execTdinv (t : BitVec 4) (s : State) : Host.Outcome State Fault Refusal :=
  runScalar (tdinvBody t) s

end Sys2Proof.Machine
end

