-- ==== Sys2Proof/WellFormed.lean ====
section
/-! DEFINITION. Well-formedness of an instruction: the values its fields may not hold although their bits could (R46, R103,
R145, R148, R152, R153, R178). -/

namespace Sys2Proof

/-- A VTYPE value that R46 does not reserve. -/
def vtLegal (v : Nat) : Bool :=
  let sew := v % 4
  let fk := v / 4 % 4
  let blk := v / 128 % 16
  decide (v < 2048 ∧ (blk = 0 ∨ (3 ≤ blk ∧ blk ≤ 8 ∧ sew = 0)) ∧
    (fk = 0 ∨ (sew = 0 ∧ fk ≤ 2) ∨ (sew = 1 ∧ fk = 1)))

/-- An instruction that has an encoding: every row of the opcode table but the engines', the scheduler's, the firmware's
and the outside world's steps. -/
def Instr.hasWord : Instr → Bool
  | .fenceRetire _ => false
  | .queueStallEnd _ => false
  | .matrixComplete _ _ => false
  | .copyChunkWritten _ _ _ => false
  | .copyRetire _ _ => false
  | .copyErrorTrap _ => false
  | .replayIteration _ => false
  | .handBack _ => false
  | .pagerResume _ _ => false
  | .pagerUnservable _ _ => false
  | .faultRecordPost _ => false
  | .progressExpiry _ => false
  | .preempt _ => false
  | .stripBufferDrain _ _ => false
  | .stripTimeout _ => false
  | .writeApply _ _ => false
  | .recheckSecondRun _ _ => false
  | .recheckForce _ => false
  | .knownAnswerOp _ _ _ => false
  | .knownAnswerSweep _ _ => false
  | .qtailWrite _ _ => false
  | .enable _ => false
  | .disable _ => false
  | .clrfault _ => false
  | .missClear _ => false
  | .registerWrite _ _ => false
  | .schedulerScan => false
  | .queueSwitchIn => false
  | .queueAging _ => false
  | .packetTake => false
  | .tandemDispatch _ _ _ => false
  | .kernelComplete _ _ => false
  | .kernelFaultRecord _ _ => false
  | .cancel _ _ => false
  | .release _ _ => false
  | .queueCreate _ _ _ => false
  | .bind _ => false
  | .destroy _ => false
  | .contextReclaim => false
  | .shootdown _ _ _ => false
  | .shootdownComplete _ => false
  | .vectorEntryWrite _ _ => false
  | .vectorEntryRead _ => false
  | .ttModeEnable _ _ _ => false
  | .ttSlotStart _ => false
  | .ttSlotEnd _ => false
  | .ppsInput => false
  | .timeOfDay _ => false
  | .energyWindow _ _ => false
  | .budgetTableWrite _ _ => false
  | .classTableWrite _ _ => false
  | .peerRouteWrite _ _ _ => false
  | .peerRequest _ _ _ _ => false
  | .quiesce _ => false
  | .portResume _ => false
  | .portReset _ => false
  | .partnerDetected _ => false
  | .partnerLost _ => false
  | .trainingDone _ _ => false
  | .laneFailure _ => false
  | .flitReceive _ _ _ => false
  | .flitAckTimeout _ => false
  | .hostMemAccess _ _ => false
  | .resume _ => false
  | .hold _ => false
  | .debugRelease _ => false
  | .historyEnable _ _ => false
  | .pcSample => false
  | .dropRecord _ => false
  | .trialEnd _ => false
  | .deviceReset _ => false
  | .challenge => false
  | .firmwareDebugUnlock _ => false
  | .kernelDebugUnlock _ _ => false
  | .attestationReport _ => false
  | .keyLoad _ _ => false
  | .checkpoint => false
  | .checkpointDone _ => false
  | .recoveryReturn => false
  | .functionReady _ => false
  | .illegalInstruction _ => false
  | .memoryReply _ _ => false
  | .debugRelock _ _ => false
  | .traceEnable _ _ _ _ _ _ => false
  | .contextCreate _ _ => false
  | .add _ _ _ => true
  | .sub _ _ _ => true
  | .and _ _ _ => true
  | .or _ _ _ => true
  | .xor _ _ _ => true
  | .andn _ _ _ => true
  | .sll _ _ _ => true
  | .srl _ _ _ => true
  | .sra _ _ _ => true
  | .slt _ _ _ => true
  | .sltn _ _ _ => true
  | .min _ _ _ => true
  | .max _ _ _ => true
  | .minn _ _ _ => true
  | .maxn _ _ _ => true
  | .mul _ _ _ => true
  | .mulh _ _ _ => true
  | .mulhn _ _ _ => true
  | .div _ _ _ => true
  | .divn _ _ _ => true
  | .rem _ _ _ => true
  | .remn _ _ _ => true
  | .clz _ _ => true
  | .ctz _ _ => true
  | .popc _ _ => true
  | .addw _ _ _ => true
  | .subw _ _ _ => true
  | .sllw _ _ _ => true
  | .srlw _ _ _ => true
  | .sraw _ _ _ => true
  | .addi _ _ _ => true
  | .andi _ _ _ => true
  | .ori _ _ _ => true
  | .xori _ _ _ => true
  | .slli _ _ _ => true
  | .srli _ _ _ => true
  | .srai _ _ _ => true
  | .slti _ _ _ => true
  | .lui _ _ => true
  | .addpc _ _ => true
  | .faddS _ _ _ => true
  | .fsubS _ _ _ => true
  | .fmulS _ _ _ => true
  | .fdivS _ _ _ => true
  | .fsqrtS _ _ => true
  | .fminS _ _ _ => true
  | .fmaxS _ _ _ => true
  | .feqS _ _ _ => true
  | .fltS _ _ _ => true
  | .fleS _ _ _ => true
  | .fclassS _ _ => true
  | .fcvtSI _ _ => true
  | .fcvtIS _ _ => true
  | .faddD _ _ _ => true
  | .fsubD _ _ _ => true
  | .fmulD _ _ _ => true
  | .fdivD _ _ _ => true
  | .fsqrtD _ _ => true
  | .fminD _ _ _ => true
  | .fmaxD _ _ _ => true
  | .feqD _ _ _ => true
  | .fltD _ _ _ => true
  | .fleD _ _ _ => true
  | .fcvtDS _ _ => true
  | .fcvtSD _ _ => true
  | .fcvtDI _ _ => true
  | .fcvtID _ _ => true
  | .fsgcS _ _ _ => true
  | .fsgiS _ _ _ => true
  | .fsgxS _ _ _ => true
  | .fcvtHS _ _ => true
  | .fcvtSH _ _ => true
  | .fmaS _ _ _ => true
  | .fmsS _ _ _ => true
  | .fnmaS _ _ _ => true
  | .fmaD _ _ _ => true
  | .fmsD _ _ _ => true
  | .fnmaD _ _ _ => true
  | .beqz _ _ => true
  | .bnez _ _ => true
  | .bltz _ _ => true
  | .bgez _ _ => true
  | .bgtz _ _ => true
  | .blez _ _ => true
  | .beq _ _ _ => true
  | .bne _ _ _ => true
  | .blt _ _ _ => true
  | .bge _ _ _ => true
  | .bltn _ _ _ => true
  | .bgen _ _ _ => true
  | .j _ => true
  | .jl _ => true
  | .jlr _ _ _ => true
  | .ldg _ _ _ _ => true
  | .ldgz _ _ _ _ => true
  | .stg _ _ _ _ => true
  | .lds _ _ _ _ => true
  | .sts _ _ _ _ => true
  | .ldaW _ _ => true
  | .ldaD _ _ => true
  | .stlW _ _ => true
  | .stlD _ _ => true
  | .ldasW _ _ => true
  | .ldasD _ _ => true
  | .stlsW _ _ => true
  | .stlsD _ _ => true
  | .fenceAcq _ => true
  | .fenceRel _ => true
  | .fenceAr _ => true
  | .fenceSc _ => true
  | .fenceIo _ => true
  | .fenceEng _ => true
  | .amgAdd _ _ _ _ _ => true
  | .amgAnd _ _ _ _ _ => true
  | .amgOr _ _ _ _ _ => true
  | .amgXor _ _ _ _ _ => true
  | .amgMin _ _ _ _ _ => true
  | .amgMax _ _ _ _ _ => true
  | .amgMinn _ _ _ _ _ => true
  | .amgMaxn _ _ _ _ _ => true
  | .amgSwp _ _ _ _ _ => true
  | .amgCas _ _ _ _ _ => true
  | .amgFadd _ _ _ _ _ => true
  | .amgInc _ _ _ _ _ => true
  | .amsAdd _ _ _ _ _ => true
  | .amsAnd _ _ _ _ _ => true
  | .amsOr _ _ _ _ _ => true
  | .amsXor _ _ _ _ _ => true
  | .amsMin _ _ _ _ _ => true
  | .amsMax _ _ _ _ _ => true
  | .amsMinn _ _ _ _ _ => true
  | .amsMaxn _ _ _ _ _ => true
  | .amsSwp _ _ _ _ _ => true
  | .amsCas _ _ _ _ _ => true
  | .amsFadd _ _ _ _ _ => true
  | .amsInc _ _ _ _ _ => true
  | .sysc _ => true
  | .tret => true
  | .brk _ => true
  | .wbase _ _ => true
  | .pause => true
  | .csrrd _ _ => true
  | .csrwr _ _ _ => true
  | .csrset _ _ _ => true
  | .csrclr _ _ _ => true
  | .spawn _ _ _ => true
  | .exit => true
  | .join _ _ => true
  | .leave _ => true
  | .gsize _ _ => true
  | .grank _ _ => true
  | .gbar _ => true
  | .tidg _ => true
  | .binit _ _ => true
  | .bexp _ _ => true
  | .barv _ _ _ => true
  | .bwait _ _ => true
  | .btest _ _ _ => true
  | .binitG _ _ => true
  | .bexpG _ _ => true
  | .barvG _ _ _ => true
  | .bwaitG _ _ => true
  | .btestG _ _ _ => true
  | .bqpush _ => true
  | .qstat _ _ => true
  | .qdrain _ => true
  | .bqt _ => true
  | .bqf _ => true
  | .vsetl _ _ _ => true
  | .vsetr _ => true
  | .vsetlx _ _ _ => true
  | .vstrip => true
  | .vadd _ _ _ _ => true
  | .vsub _ _ _ _ => true
  | .vmul _ _ _ _ => true
  | .vmulh _ _ _ _ => true
  | .vmulhn _ _ _ _ => true
  | .vand _ _ _ _ => true
  | .vor _ _ _ _ => true
  | .vxor _ _ _ _ => true
  | .vsll _ _ _ _ => true
  | .vsrl _ _ _ _ => true
  | .vsra _ _ _ _ => true
  | .vmin _ _ _ _ => true
  | .vmax _ _ _ _ => true
  | .vminn _ _ _ _ => true
  | .vmaxn _ _ _ _ => true
  | .vsadd _ _ _ _ => true
  | .vaddVs _ _ _ _ => true
  | .vsubVs _ _ _ _ => true
  | .vmulVs _ _ _ _ => true
  | .vmulhVs _ _ _ _ => true
  | .vmulhnVs _ _ _ _ => true
  | .vandVs _ _ _ _ => true
  | .vorVs _ _ _ _ => true
  | .vxorVs _ _ _ _ => true
  | .vsllVs _ _ _ _ => true
  | .vsrlVs _ _ _ _ => true
  | .vsraVs _ _ _ _ => true
  | .vminVs _ _ _ _ => true
  | .vmaxVs _ _ _ _ => true
  | .vminnVs _ _ _ _ => true
  | .vmaxnVs _ _ _ _ => true
  | .vsaddVs _ _ _ _ => true
  | .vfadd _ _ _ _ => true
  | .vfsub _ _ _ _ => true
  | .vfmul _ _ _ _ => true
  | .vfdiv _ _ _ _ => true
  | .vfmin _ _ _ _ => true
  | .vfmax _ _ _ _ => true
  | .vfsqrt _ _ _ => true
  | .vfabs _ _ _ => true
  | .vfneg _ _ _ => true
  | .vfsgc _ _ _ _ => true
  | .vfrece _ _ _ => true
  | .vfrsqe _ _ _ => true
  | .vfexp2e _ _ _ => true
  | .vfclass _ _ _ => true
  | .vfaddw _ _ _ _ => true
  | .vfmulw _ _ _ _ => true
  | .vfaddVs _ _ _ _ => true
  | .vfsubVs _ _ _ _ => true
  | .vfmulVs _ _ _ _ => true
  | .vfdivVs _ _ _ _ => true
  | .vfminVs _ _ _ _ => true
  | .vfmaxVs _ _ _ _ => true
  | .vfsqrtVs _ _ _ => true
  | .vfabsVs _ _ _ => true
  | .vfnegVs _ _ _ => true
  | .vfsgcVs _ _ _ _ => true
  | .vfreceVs _ _ _ => true
  | .vfrsqeVs _ _ _ => true
  | .vfexp2eVs _ _ _ => true
  | .vfclassVs _ _ _ => true
  | .vfclamp _ _ _ _ => true
  | .vfma _ _ _ _ => true
  | .vfms _ _ _ _ => true
  | .vfnma _ _ _ _ => true
  | .vfnms _ _ _ _ => true
  | .vfmaX _ _ _ _ => true
  | .vfmsX _ _ _ _ => true
  | .vfnmaX _ _ _ _ => true
  | .vfnmsX _ _ _ _ => true
  | .vfmaw _ _ _ _ => true
  | .vfmawX _ _ _ _ => true
  | .vmacc _ _ _ _ => true
  | .vmaccX _ _ _ _ => true
  | .vseq _ _ _ _ => true
  | .vsne _ _ _ _ => true
  | .vslt _ _ _ _ => true
  | .vsle _ _ _ _ => true
  | .vsltn _ _ _ _ => true
  | .vslen _ _ _ _ => true
  | .vfeq _ _ _ _ => true
  | .vfne _ _ _ _ => true
  | .vflt _ _ _ _ => true
  | .vfle _ _ _ _ => true
  | .vfunord _ _ _ _ => true
  | .vsltX _ _ _ _ => true
  | .vsgtX _ _ _ _ => true
  | .vfltX _ _ _ _ => true
  | .vfgtX _ _ _ _ => true
  | .vseqX _ _ _ _ => true
  | .pand _ _ _ => true
  | .por _ _ _ => true
  | .pxor _ _ _ => true
  | .pandn _ _ _ => true
  | .pnot _ _ => true
  | .pset _ => true
  | .pclr _ => true
  | .pcut _ _ _ => true
  | .pcuti _ _ _ => true
  | .ppop _ _ => true
  | .pfirst _ _ => true
  | .pfromv _ _ => true
  | .ptov _ _ => true
  | .vslideup _ _ _ _ => true
  | .vslidedn _ _ _ _ => true
  | .vslide1up _ _ _ _ => true
  | .vslide1dn _ _ _ _ => true
  | .vpermi _ _ _ _ => true
  | .vcompress _ _ _ => true
  | .vexpand _ _ _ => true
  | .vmerge _ _ _ => true
  | .vsplat _ _ _ => true
  | .vmvxs _ _ _ => true
  | .vrowbc _ _ _ => true
  | .vtrans _ _ => true
  | .vredo _ _ _ _ => true
  | .vredt _ _ _ _ => true
  | .vredu _ _ _ _ => true
  | .vfredmin _ _ _ _ => true
  | .vfredmax _ _ _ _ => true
  | .vredsum _ _ _ _ => true
  | .vredmin _ _ _ _ => true
  | .vredmax _ _ _ _ => true
  | .vscano _ _ _ _ => true
  | .vscant _ _ _ _ => true
  | .vscanu _ _ _ _ => true
  | .viscan _ _ _ _ => true
  | .vredand _ _ _ _ => true
  | .vredor _ _ _ _ => true
  | .vredrow _ _ _ _ => true
  | .vcvtf _ _ _ _ => true
  | .vcvtfi _ _ _ _ => true
  | .vcvtif _ _ _ _ => true
  | .vqnt _ _ _ _ => true
  | .vdqnt _ _ _ _ => true
  | .vbscale _ _ _ _ => true
  | .vcvti _ _ _ _ => true
  | .vindex _ _ _ _ => true
  | .vld _ _ _ _ => true
  | .vlds _ _ _ _ => true
  | .vldff _ _ _ _ => true
  | .vldseg _ _ _ _ _ => true
  | .vldx _ _ _ _ => true
  | .vldrow _ _ _ _ => true
  | .vldbc _ _ _ _ => true
  | .vst _ _ _ _ => true
  | .vsts _ _ _ _ => true
  | .vstseg _ _ _ _ _ => true
  | .vstx _ _ _ _ => true
  | .vstrow _ _ _ _ => true
  | .vstxaddo _ _ _ _ => true
  | .vstxadd _ _ _ _ => true
  | .vldsh _ _ _ _ => true
  | .vldshs _ _ _ _ => true
  | .vldshrow _ _ _ _ => true
  | .vstsh _ _ _ _ => true
  | .vstshs _ _ _ _ => true
  | .vstshrow _ _ _ _ => true
  | .vldshx _ _ _ _ => true
  | .vstshx _ _ _ _ => true
  | .vstshxaddo _ _ _ _ => true
  | .vstshxadd _ _ _ _ => true
  | .vgwin _ _ _ => true
  | .vgwset _ _ _ => true
  | .vconf _ _ _ => true
  | .vcomb _ _ _ _ => true
  | .vconfm _ _ _ => true
  | .vpacknz _ _ _ _ => true
  | .mmac _ _ _ _ => true
  | .mmacn _ _ _ _ => true
  | .mmaco _ _ _ _ => true
  | .mmacs _ _ _ _ => true
  | .mzcfg _ _ => true
  | .mzero _ => true
  | .mzld _ _ _ => true
  | .mzst _ _ _ => true
  | .mzrv _ _ _ => true
  | .mzwv _ _ _ => true
  | .manch _ _ => true
  | .mscan _ _ => true
  | .mcarry _ _ => true
  | .mcarryst _ _ => true
  | .mcommit => true
  | .mwait _ => true
  | .mgain _ _ => true
  | .mstat _ _ => true
  | .tdset _ _ => true
  | .tdget _ _ => true
  | .scld _ _ => true
  | .scst _ _ => true
  | .tdinv _ => true
  | .cpy _ => true
  | .cpyb _ _ => true
  | .cpyseg _ => true
  | .cpyw _ => true
  | .cpyq _ => true
  | .lmark _ _ _ => true
  | .lmarkSweep _ _ _ => true
  | .lend => true
  | .loff _ => true
  | .rsnew _ _ => true
  | .rsq _ _ => true
  | .rspol _ _ => true
  | .tmark _ => true
  | .progpt _ => true

/-- A word instruction is well-formed when none of its fields holds a reserved value. A step without an encoding has no
field that could be reserved. -/
def Instr.wellFormed : Instr → Bool
  | .add _ _ _ => true
  | .sub _ _ _ => true
  | .and _ _ _ => true
  | .or _ _ _ => true
  | .xor _ _ _ => true
  | .andn _ _ _ => true
  | .sll _ _ _ => true
  | .srl _ _ _ => true
  | .sra _ _ _ => true
  | .slt _ _ _ => true
  | .sltn _ _ _ => true
  | .min _ _ _ => true
  | .max _ _ _ => true
  | .minn _ _ _ => true
  | .maxn _ _ _ => true
  | .mul _ _ _ => true
  | .mulh _ _ _ => true
  | .mulhn _ _ _ => true
  | .div _ _ _ => true
  | .divn _ _ _ => true
  | .rem _ _ _ => true
  | .remn _ _ _ => true
  | .clz _ _ => true
  | .ctz _ _ => true
  | .popc _ _ => true
  | .addw _ _ _ => true
  | .subw _ _ _ => true
  | .sllw _ _ _ => true
  | .srlw _ _ _ => true
  | .sraw _ _ _ => true
  | .addi _ _ _ => true
  | .andi _ _ _ => true
  | .ori _ _ _ => true
  | .xori _ _ _ => true
  | .slli _ _ _ => true
  | .srli _ _ _ => true
  | .srai _ _ _ => true
  | .slti _ _ _ => true
  | .lui _ _ => true
  | .addpc _ _ => true
  | .faddS _ _ _ => true
  | .fsubS _ _ _ => true
  | .fmulS _ _ _ => true
  | .fdivS _ _ _ => true
  | .fsqrtS _ _ => true
  | .fminS _ _ _ => true
  | .fmaxS _ _ _ => true
  | .feqS _ _ _ => true
  | .fltS _ _ _ => true
  | .fleS _ _ _ => true
  | .fclassS _ _ => true
  | .fcvtSI _ _ => true
  | .fcvtIS _ _ => true
  | .faddD _ _ _ => true
  | .fsubD _ _ _ => true
  | .fmulD _ _ _ => true
  | .fdivD _ _ _ => true
  | .fsqrtD _ _ => true
  | .fminD _ _ _ => true
  | .fmaxD _ _ _ => true
  | .feqD _ _ _ => true
  | .fltD _ _ _ => true
  | .fleD _ _ _ => true
  | .fcvtDS _ _ => true
  | .fcvtSD _ _ => true
  | .fcvtDI _ _ => true
  | .fcvtID _ _ => true
  | .fsgcS _ _ _ => true
  | .fsgiS _ _ _ => true
  | .fsgxS _ _ _ => true
  | .fcvtHS _ _ => true
  | .fcvtSH _ _ => true
  | .fmaS _ _ _ => true
  | .fmsS _ _ _ => true
  | .fnmaS _ _ _ => true
  | .fmaD _ _ _ => true
  | .fmsD _ _ _ => true
  | .fnmaD _ _ _ => true
  | .beqz _ _ => true
  | .bnez _ _ => true
  | .bltz _ _ => true
  | .bgez _ _ => true
  | .bgtz _ _ => true
  | .blez _ _ => true
  | .beq _ _ _ => true
  | .bne _ _ _ => true
  | .blt _ _ _ => true
  | .bge _ _ _ => true
  | .bltn _ _ _ => true
  | .bgen _ _ _ => true
  | .j _ => true
  | .jl _ => true
  | .jlr _ _ _ => true
  | .ldg _ _ _ _ => true
  | .ldgz _ _ z _ => decide (z.toNat ≠ 3)
  | .stg _ _ _ _ => true
  | .lds _ _ _ _ => true
  | .sts _ _ _ _ => true
  | .ldaW _ _ => true
  | .ldaD _ _ => true
  | .stlW _ _ => true
  | .stlD _ _ => true
  | .ldasW _ _ => true
  | .ldasD _ _ => true
  | .stlsW _ _ => true
  | .stlsD _ _ => true
  | .fenceAcq s => decide (s.toNat ≤ 5)
  | .fenceRel s => decide (s.toNat ≤ 5)
  | .fenceAr s => decide (s.toNat ≤ 5)
  | .fenceSc s => decide (s.toNat ≤ 5)
  | .fenceIo s => decide (s.toNat ≤ 5)
  | .fenceEng s => decide (s.toNat ≤ 5)
  | .fenceRetire _ => true
  | .amgAdd _ _ _ _ _ => true
  | .amgAnd _ _ _ _ _ => true
  | .amgOr _ _ _ _ _ => true
  | .amgXor _ _ _ _ _ => true
  | .amgMin _ _ _ _ _ => true
  | .amgMax _ _ _ _ _ => true
  | .amgMinn _ _ _ _ _ => true
  | .amgMaxn _ _ _ _ _ => true
  | .amgSwp _ _ _ _ _ => true
  | .amgCas _ _ _ _ _ => true
  | .amgFadd _ _ _ _ _ => true
  | .amgInc _ _ _ _ _ => true
  | .amsAdd _ _ _ _ _ => true
  | .amsAnd _ _ _ _ _ => true
  | .amsOr _ _ _ _ _ => true
  | .amsXor _ _ _ _ _ => true
  | .amsMin _ _ _ _ _ => true
  | .amsMax _ _ _ _ _ => true
  | .amsMinn _ _ _ _ _ => true
  | .amsMaxn _ _ _ _ _ => true
  | .amsSwp _ _ _ _ _ => true
  | .amsCas _ _ _ _ _ => true
  | .amsFadd _ _ _ _ _ => true
  | .amsInc _ _ _ _ _ => true
  | .sysc _ => true
  | .tret => true
  | .brk _ => true
  | .wbase c k => decide (c.toNat ≤ 1 ∧ k.toNat ≤ 25)
  | .pause => true
  | .csrrd _ _ => true
  | .csrwr _ _ _ => true
  | .csrset _ _ _ => true
  | .csrclr _ _ _ => true
  | .spawn _ _ _ => true
  | .exit => true
  | .join _ _ => true
  | .leave _ => true
  | .gsize _ _ => true
  | .grank _ _ => true
  | .gbar _ => true
  | .tidg _ => true
  | .binit _ _ => true
  | .bexp _ _ => true
  | .barv _ _ _ => true
  | .bwait _ _ => true
  | .btest _ _ _ => true
  | .binitG _ _ => true
  | .bexpG _ _ => true
  | .barvG _ _ _ => true
  | .bwaitG _ _ => true
  | .btestG _ _ _ => true
  | .bqpush _ => true
  | .qstat _ _ => true
  | .qdrain _ => true
  | .bqt _ => true
  | .bqf _ => true
  | .queueStallEnd _ => true
  | .vsetl _ _ v => vtLegal v.toNat
  | .vsetr _ => true
  | .vsetlx _ _ _ => true
  | .vstrip => true
  | .vadd _ _ _ _ => true
  | .vsub _ _ _ _ => true
  | .vmul _ _ _ _ => true
  | .vmulh _ _ _ _ => true
  | .vmulhn _ _ _ _ => true
  | .vand _ _ _ _ => true
  | .vor _ _ _ _ => true
  | .vxor _ _ _ _ => true
  | .vsll _ _ _ _ => true
  | .vsrl _ _ _ _ => true
  | .vsra _ _ _ _ => true
  | .vmin _ _ _ _ => true
  | .vmax _ _ _ _ => true
  | .vminn _ _ _ _ => true
  | .vmaxn _ _ _ _ => true
  | .vsadd _ _ _ _ => true
  | .vaddVs _ _ _ _ => true
  | .vsubVs _ _ _ _ => true
  | .vmulVs _ _ _ _ => true
  | .vmulhVs _ _ _ _ => true
  | .vmulhnVs _ _ _ _ => true
  | .vandVs _ _ _ _ => true
  | .vorVs _ _ _ _ => true
  | .vxorVs _ _ _ _ => true
  | .vsllVs _ _ _ _ => true
  | .vsrlVs _ _ _ _ => true
  | .vsraVs _ _ _ _ => true
  | .vminVs _ _ _ _ => true
  | .vmaxVs _ _ _ _ => true
  | .vminnVs _ _ _ _ => true
  | .vmaxnVs _ _ _ _ => true
  | .vsaddVs _ _ _ _ => true
  | .vfadd _ _ _ _ => true
  | .vfsub _ _ _ _ => true
  | .vfmul _ _ _ _ => true
  | .vfdiv _ _ _ _ => true
  | .vfmin _ _ _ _ => true
  | .vfmax _ _ _ _ => true
  | .vfsqrt _ _ _ => true
  | .vfabs _ _ _ => true
  | .vfneg _ _ _ => true
  | .vfsgc _ _ _ _ => true
  | .vfrece _ _ _ => true
  | .vfrsqe _ _ _ => true
  | .vfexp2e _ _ _ => true
  | .vfclass _ _ _ => true
  | .vfaddw _ _ _ _ => true
  | .vfmulw _ _ _ _ => true
  | .vfaddVs _ _ _ _ => true
  | .vfsubVs _ _ _ _ => true
  | .vfmulVs _ _ _ _ => true
  | .vfdivVs _ _ _ _ => true
  | .vfminVs _ _ _ _ => true
  | .vfmaxVs _ _ _ _ => true
  | .vfsqrtVs _ _ _ => true
  | .vfabsVs _ _ _ => true
  | .vfnegVs _ _ _ => true
  | .vfsgcVs _ _ _ _ => true
  | .vfreceVs _ _ _ => true
  | .vfrsqeVs _ _ _ => true
  | .vfexp2eVs _ _ _ => true
  | .vfclassVs _ _ _ => true
  | .vfclamp _ _ _ _ => true
  | .vfma _ _ _ _ => true
  | .vfms _ _ _ _ => true
  | .vfnma _ _ _ _ => true
  | .vfnms _ _ _ _ => true
  | .vfmaX _ _ _ _ => true
  | .vfmsX _ _ _ _ => true
  | .vfnmaX _ _ _ _ => true
  | .vfnmsX _ _ _ _ => true
  | .vfmaw _ _ _ _ => true
  | .vfmawX _ _ _ _ => true
  | .vmacc _ _ _ _ => true
  | .vmaccX _ _ _ _ => true
  | .vseq _ _ _ _ => true
  | .vsne _ _ _ _ => true
  | .vslt _ _ _ _ => true
  | .vsle _ _ _ _ => true
  | .vsltn _ _ _ _ => true
  | .vslen _ _ _ _ => true
  | .vfeq _ _ _ _ => true
  | .vfne _ _ _ _ => true
  | .vflt _ _ _ _ => true
  | .vfle _ _ _ _ => true
  | .vfunord _ _ _ _ => true
  | .vsltX _ _ _ _ => true
  | .vsgtX _ _ _ _ => true
  | .vfltX _ _ _ _ => true
  | .vfgtX _ _ _ _ => true
  | .vseqX _ _ _ _ => true
  | .pand _ _ _ => true
  | .por _ _ _ => true
  | .pxor _ _ _ => true
  | .pandn _ _ _ => true
  | .pnot _ _ => true
  | .pset _ => true
  | .pclr _ => true
  | .pcut _ _ _ => true
  | .pcuti _ _ _ => true
  | .ppop _ _ => true
  | .pfirst _ _ => true
  | .pfromv _ _ => true
  | .ptov _ _ => true
  | .vslideup _ _ _ _ => true
  | .vslidedn _ _ _ _ => true
  | .vslide1up _ _ _ _ => true
  | .vslide1dn _ _ _ _ => true
  | .vpermi _ _ _ _ => true
  | .vcompress _ _ _ => true
  | .vexpand _ _ _ => true
  | .vmerge _ _ _ => true
  | .vsplat _ _ _ => true
  | .vmvxs _ _ _ => true
  | .vrowbc _ _ _ => true
  | .vtrans _ _ => true
  | .vredo _ _ _ _ => true
  | .vredt _ _ _ _ => true
  | .vredu _ _ _ _ => true
  | .vfredmin _ _ _ _ => true
  | .vfredmax _ _ _ _ => true
  | .vredsum _ _ _ _ => true
  | .vredmin _ _ _ _ => true
  | .vredmax _ _ _ _ => true
  | .vscano _ _ _ _ => true
  | .vscant _ _ _ _ => true
  | .vscanu _ _ _ _ => true
  | .viscan _ _ _ _ => true
  | .vredand _ _ _ _ => true
  | .vredor _ _ _ _ => true
  | .vredrow _ _ _ _ => true
  | .vcvtf _ _ c _ => decide (8 ≤ c.toNat ∧ c.toNat ≤ 14)
  | .vcvtfi _ _ c _ => decide (c.toNat ≤ 7)
  | .vcvtif _ _ c _ => decide (8 ≤ c.toNat ∧ c.toNat ≤ 14)
  | .vqnt _ _ c _ => decide (12 ≤ c.toNat ∧ c.toNat ≤ 14)
  | .vdqnt _ _ c _ => decide (8 ≤ c.toNat ∧ c.toNat ≤ 10)
  | .vbscale _ _ c _ => decide (12 ≤ c.toNat ∧ c.toNat ≤ 14)
  | .vcvti _ _ c _ => decide (c.toNat ≤ 7)
  | .vindex _ _ _ _ => true
  | .vld _ _ _ _ => true
  | .vlds _ _ _ _ => true
  | .vldff _ _ _ _ => true
  | .vldseg _ _ f _ _ => decide (f.toNat ≠ 0)
  | .vldx _ _ _ _ => true
  | .vldrow _ _ _ _ => true
  | .vldbc _ _ _ _ => true
  | .vst _ _ _ _ => true
  | .vsts _ _ _ _ => true
  | .vstseg _ _ f _ _ => decide (f.toNat ≠ 0)
  | .vstx _ _ _ _ => true
  | .vstrow _ _ _ _ => true
  | .vstxaddo _ _ _ _ => true
  | .vstxadd _ _ _ _ => true
  | .vldsh _ _ _ _ => true
  | .vldshs _ _ _ _ => true
  | .vldshrow _ _ _ _ => true
  | .vstsh _ _ _ _ => true
  | .vstshs _ _ _ _ => true
  | .vstshrow _ _ _ _ => true
  | .vldshx _ _ _ _ => true
  | .vstshx _ _ _ _ => true
  | .vstshxaddo _ _ _ _ => true
  | .vstshxadd _ _ _ _ => true
  | .vgwin _ _ _ => true
  | .vgwset _ _ _ => true
  | .vconf _ _ _ => true
  | .vcomb _ _ _ _ => true
  | .vconfm _ _ _ => true
  | .vpacknz _ _ _ _ => true
  | .mmac _ _ _ _ => true
  | .mmacn _ _ _ _ => true
  | .mmaco _ _ _ _ => true
  | .mmacs _ _ _ _ => true
  | .mzcfg _ _ => true
  | .mzero _ => true
  | .mzld _ _ _ => true
  | .mzst _ _ _ => true
  | .mzrv _ _ _ => true
  | .mzwv _ _ _ => true
  | .manch _ _ => true
  | .mscan _ _ => true
  | .mcarry _ _ => true
  | .mcarryst _ _ => true
  | .mcommit => true
  | .mwait _ => true
  | .mgain _ _ => true
  | .mstat _ _ => true
  | .matrixComplete _ _ => true
  | .tdset _ _ => true
  | .tdget _ _ => true
  | .scld _ _ => true
  | .scst _ _ => true
  | .tdinv _ => true
  | .cpy _ => true
  | .cpyb _ _ => true
  | .cpyseg _ => true
  | .cpyw _ => true
  | .cpyq _ => true
  | .copyChunkWritten _ _ _ => true
  | .copyRetire _ _ => true
  | .copyErrorTrap _ => true
  | .lmark _ _ o => decide (1 ≤ o.toNat ∧ o.toNat ≤ 255)
  | .lmarkSweep _ _ o => decide (1 ≤ o.toNat ∧ o.toNat ≤ 255)
  | .lend => true
  | .loff _ => true
  | .rsnew _ _ => true
  | .rsq _ _ => true
  | .rspol _ _ => true
  | .tmark _ => true
  | .progpt _ => true
  | .replayIteration _ => true
  | .handBack _ => true
  | .pagerResume _ _ => true
  | .pagerUnservable _ _ => true
  | .faultRecordPost _ => true
  | .progressExpiry _ => true
  | .preempt _ => true
  | .stripBufferDrain _ _ => true
  | .stripTimeout _ => true
  | .writeApply _ _ => true
  | .recheckSecondRun _ _ => true
  | .recheckForce _ => true
  | .knownAnswerOp _ _ _ => true
  | .knownAnswerSweep _ _ => true
  | .qtailWrite _ _ => true
  | .enable _ => true
  | .disable _ => true
  | .clrfault _ => true
  | .missClear _ => true
  | .registerWrite _ _ => true
  | .schedulerScan => true
  | .queueSwitchIn => true
  | .queueAging _ => true
  | .packetTake => true
  | .tandemDispatch _ _ _ => true
  | .kernelComplete _ _ => true
  | .kernelFaultRecord _ _ => true
  | .cancel _ _ => true
  | .release _ _ => true
  | .queueCreate _ _ _ => true
  | .bind _ => true
  | .destroy _ => true
  | .contextReclaim => true
  | .shootdown _ _ _ => true
  | .shootdownComplete _ => true
  | .vectorEntryWrite _ _ => true
  | .vectorEntryRead _ => true
  | .ttModeEnable _ _ _ => true
  | .ttSlotStart _ => true
  | .ttSlotEnd _ => true
  | .ppsInput => true
  | .timeOfDay _ => true
  | .energyWindow _ _ => true
  | .budgetTableWrite _ _ => true
  | .classTableWrite _ _ => true
  | .peerRouteWrite _ _ _ => true
  | .peerRequest _ _ _ _ => true
  | .quiesce _ => true
  | .portResume _ => true
  | .portReset _ => true
  | .partnerDetected _ => true
  | .partnerLost _ => true
  | .trainingDone _ _ => true
  | .laneFailure _ => true
  | .flitReceive _ _ _ => true
  | .flitAckTimeout _ => true
  | .hostMemAccess _ _ => true
  | .resume _ => true
  | .hold _ => true
  | .debugRelease _ => true
  | .historyEnable _ _ => true
  | .pcSample => true
  | .dropRecord _ => true
  | .trialEnd _ => true
  | .deviceReset _ => true
  | .challenge => true
  | .firmwareDebugUnlock _ => true
  | .kernelDebugUnlock _ _ => true
  | .attestationReport _ => true
  | .keyLoad _ _ => true
  | .checkpoint => true
  | .checkpointDone _ => true
  | .recoveryReturn => true
  | .functionReady _ => true
  | .illegalInstruction _ => true
  | .memoryReply _ _ => true
  | .debugRelock _ _ => true
  | .traceEnable _ _ _ _ _ _ => true
  | .contextCreate _ _ => true

end Sys2Proof
end

