-- ==== Sys2Proof/Machine/VConfig.lean ====
section
/-! DEFINITION. The shape of a strip: VSETL, VSETR, VSETLX and VSTRIP (R181–R184). -/

namespace Sys2Proof.Machine

/-- VSETL and VSETLX, with the type already known to be legal: the strip closes, VTYPE and VL are set, s[D] takes the grant, and the next strip
opens under its checkpoint (R181–R183). -/
def setLength (d : BitVec 7) (vt req : Nat) : Exec Unit := do
  let cap := 1024 * 2 ^ bits vt 5 4 / (8 * 2 ^ bits vt 1 0)
  modState closeStrip
  let grant := if req < cap then req else cap
  modMe (fun h => { h with csr := { h.csr with vtype := BitVec.ofNat 64 vt, vl := BitVec.ofNat 64 grant } })
  writeS d.toNat (BitVec.ofNat 64 grant)
  modState takeCheckpoint

/-- The requested length: VL where A is 0, else s[A] (R181). -/
def requestedLength (a : BitVec 7) : Exec Nat := do
  if a = 0 then do
    let s ← getState
    pure s.me.csr.vl.toNat
  else do
    let x ← readS a.toNat
    pure x.toNat

/-- VSETL (R181). -/
def vsetlBody (d a : BitVec 7) (v : BitVec 12) : Exec Unit := do
  coreOnly
  checkSrc a.toNat
  checkDst d.toNat
  let req ← requestedLength a
  setLength d v.toNat req

/-- VSETR: RC ← s[A], 1 to 16 (R182). -/
def vsetrBody (a : BitVec 7) : Exec Unit := do
  coreOnly
  checkSrc a.toNat
  let x ← readS a.toNat
  require (decide (1 ≤ x.toNat ∧ x.toNat ≤ 16))
  modMe (fun h => { h with csr := { h.csr with rc := x } })

/-- A reserved type that s[B] holds is met before an operand that the instruction must not name (R150): in a register, or at the place in its
queue where B pops, which is behind A's entry where both name one queue. -/
def checkType (a b : BitVec 7) : Exec Unit := fun s =>
  let n := b.toNat
  let bad (y : Word) : Bool := !(decide (y.toNat < 4096) && vtLegal y.toNat)
  if n < 112 then (if bad (s.me.readS n) then illegalInstr s else .ok () s)
  else if s.tan.single = false ∧ popEnd s.onA n = true then
    match (s.tan.sfifo (n - 112)).items[if a = b then 1 else 0]? with
    | some y => if bad y then illegalInstr s else .ok () s
    | none => .ok () s
  else .ok () s

/-- VSETLX: as VSETL with the type from s[B]; a reserved type is an illegal instruction (R46, R182). -/
def vsetlxBody (d a b : BitVec 7) : Exec Unit := do
  coreOnly
  checkType a b
  checkSrc a.toNat
  checkSrc b.toNat
  checkDst d.toNat
  let req ← requestedLength a
  let y ← readS b.toNat
  if y.toNat < 4096 ∧ vtLegal y.toNat = true then setLength d y.toNat req else illegalInstr

/-- VSTRIP: the strip closes and the next opens (R182). -/
def vstripBody : Exec Unit := do
  coreOnly
  modState closeStrip
  modState takeCheckpoint

/-- VSETL (R181). -/
def execVsetl (d : BitVec 7) (a : BitVec 7) (v : BitVec 12) (s : State) : Host.Outcome State Fault Refusal :=
  runScalar (vsetlBody d a v) s

/-- VSETR (R182). -/
def execVsetr (a : BitVec 7) (s : State) : Host.Outcome State Fault Refusal :=
  runScalar (vsetrBody a) s

/-- VSETLX (R182). -/
def execVsetlx (d : BitVec 7) (a : BitVec 7) (b : BitVec 7) (s : State) : Host.Outcome State Fault Refusal :=
  runScalar (vsetlxBody d a b) s

/-- VSTRIP (R182). -/
def execVstrip (s : State) : Host.Outcome State Fault Refusal :=
  runScalar vstripBody s

end Sys2Proof.Machine
end

