-- ==== Sys2Proof/Machine/VGather.lean ====
section
/-! DEFINITION. Windowed gathers, conflicts and compaction: VGATH (R214–R216). -/

namespace Sys2Proof.Machine

/-- The elements of a tile by linear index (R12). -/
def tileElems (c : Csr) (x : List VReg) : List Nat := (range 0 (c.rows * c.len)).map (elemLin x c.grp c.sew c.len)

/-- The active linear indices of the tile, ascending. -/
def activeElems (h : Hart) (m : Bool) : List Nat := (range 0 (h.csr.rows * h.csr.len)).filter (h.active m)

/-- The checks of a member that reads one index tile (R185, R187). -/
def checkGather (a : BitVec 7) : Exec Unit := do
  let s ← getState
  coreOnly
  checkTileSrc a.toNat s.me.csr.grp
  checkUnscaled

/-- VGWIN (R214). -/
def vgwinBody (p : BitVec 4) (a : BitVec 7) (m : BitVec 1) : Exec Unit := do
  checkGather a
  let s ← getState
  let c := s.me.csr
  let x ← readTile a.toNat c.grp
  let s ← getState
  let h := s.me
  let lo := c.gwbase.toNat
  let span := 2 ^ 25 / (c.sew / 8)
  putPred p.toNat (fun j i =>
    let e := j * c.len + i
    if e < c.start then none
    else
      let v := elemAt x c.grp c.sew j i
      some (h.active (m == 1) e && decide (lo ≤ v ∧ v < lo + span)))
  setVstart 0

/-- VGWSET (R214). -/
def vgwsetBody (d a : BitVec 7) (m : BitVec 1) : Exec Unit := do
  checkGather a
  checkDst d.toNat
  checkStart0
  let s ← getState
  let c := s.me.csr
  let x ← readTile a.toNat c.grp
  let s ← getState
  let vs := (activeElems s.me (m == 1)).map (elemLin x c.grp c.sew c.len)
  match vs with
  | [] => pure ()
  | v :: r => modMe (fun h => { h with csr := { h.csr with gwbase := BitVec.ofNat 64 (r.foldl min v) } })
  writeS d.toNat (BitVec.ofNat 64 vs.length)

/-- Element e is the active member with the lowest linear index among those of its index (R215). -/
def leads (ks : List Nat) (act : Nat → Bool) (e : Nat) : Bool :=
  act e && (range 0 e).all (fun i => !(act i && ks.getD i 0 == ks.getD e 0))

/-- VCONF (R215). -/
def vconfBody (p : BitVec 4) (a : BitVec 7) (m : BitVec 1) : Exec Unit := do
  checkGather a
  checkStart0
  let s ← getState
  let c := s.me.csr
  let x ← readTile a.toNat c.grp
  let s ← getState
  let ks := tileElems c x
  putPred p.toNat (fun j i => some (leads ks (s.me.active (m == 1)) (j * c.len + i)))

/-- What a leader of VCOMB collects: its element and its active duplicates' in ascending order, rounded after each addition
with the draw of the element written (R186, R215). -/
def combineDuplicates (s : State) (xs ks : List Nat) (act : Nat → Bool) (e : Nat) : Nat × Nat :=
  let more := (range (e + 1) (ks.length - (e + 1))).filter (fun i => act i && ks.getD i 0 == ks.getD e 0)
  more.foldl (fun t i =>
    let r := s.rounding e
    let q := fAdd s.me.csr.fmt r.1 r.2 t.1 (xs.getD i 0)
    (q.1, t.2 ||| q.2)) (xs.getD e 0, 0)

/-- VCOMB (R215). -/
def vcombBody (d a b : BitVec 7) (m : BitVec 1) : Exec Unit := do
  let s ← getState
  let c := s.me.csr
  checkGather a
  checkTileSrc b.toNat c.grp
  checkTileDst d.toNat c.grp
  checkStart0
  checkFmt
  let x ← readTile a.toNat c.grp
  let y ← readTile b.toNat c.grp
  let s ← getState
  let xs := (tileElems c x).map (readWidth c true)
  let ks := tileElems c y
  let act := s.me.active (m == 1)
  elementwise d.toNat c.grp c.sew (m == 1) (fun e =>
    if leads ks act e then combineDuplicates s xs ks act e else (xs.getD e 0, 0))

/-- VCONFM (R215). -/
def vconfmBody (d a : BitVec 7) (m : BitVec 1) : Exec Unit := do
  let s ← getState
  let c := s.me.csr
  checkGather a
  checkTileDst d.toNat c.grp
  checkStart0
  let x ← readTile a.toNat c.grp
  let s ← getState
  let ks := tileElems c x
  let act := s.me.active (m == 1)
  elementwise d.toNat c.grp c.sew (m == 1) (fun e =>
    (min ((range 0 e).filter (fun i => act i && ks.getD i 0 == ks.getD e 0)).length (2 ^ c.sew - 1), 0))

/-- VPACKNZ's packed pairs in order, and the element it stopped at (R216). -/
def packNonZero (w : Nat) (x : List VReg) (c : Csr) : List Nat → List (Nat × Nat) × Option Nat
  | [] => ([], none)
  | e :: r =>
    let v := elemLin x c.grp c.sew c.len e
    if v = 0 then packNonZero w x c r
    else if 2 ^ w - 1 < e then ([(v, 2 ^ w - 1)], some e)
    else let q := packNonZero w x c r; ((v, e) :: q.1, q.2)

/-- The element that VPACKNZ stopped at where it must trap after it retires: HCTL.XOVT is set (R216, R343). -/
def packTrap (s0 s : State) : Option Nat :=
  if s0.me.csr.hctl.getLsbD 4 = true ∧ s.me.csr.vstart ≠ 0 then some s.me.csr.start else none

/-- VPACKNZ (R216). -/
def vpacknzBody (d a b : BitVec 7) (m : BitVec 1) : Exec Unit := do
  let s ← getState
  let c := s.me.csr
  checkGather a
  checkTileDst d.toNat c.grp
  require (decide (b.toNat < 112))
  checkTileDst b.toNat c.grp
  checkStart0
  checkDisjoint d.toNat c.grp a.toNat c.grp
  checkDisjoint b.toNat c.grp a.toNat c.grp
  checkDisjoint d.toNat c.grp b.toNat c.grp
  let x ← readTile a.toNat c.grp
  let s ← getState
  let r := packNonZero c.sew x c (activeElems s.me (m == 1))
  let pos (f : Nat × Nat → Nat) (e : Nat) : Elem :=
    match r.1[e]? with
    | some v => .value (f v) 0
    | none => .inactive
  putRows b.toNat c.grp c.sew (withTail c.len (pos (·.2)))
  putRows d.toNat c.grp c.sew (withTail c.len (pos (·.1)))
  match r.2 with
  | none => pure ()
  | some e => do
    setVstart e
    raiseSaved flagOF

/-- VGWIN (R214). -/
def execVgwin (p : BitVec 4) (a : BitVec 7) (m : BitVec 1) (s : State) : Host.Outcome State Fault Refusal :=
  runVector (vgwinBody p a m) s

/-- VGWSET (R214). -/
def execVgwset (d : BitVec 7) (a : BitVec 7) (m : BitVec 1) (s : State) : Host.Outcome State Fault Refusal :=
  runVector (vgwsetBody d a m) s

/-- VCONF (R215). -/
def execVconf (p : BitVec 4) (a : BitVec 7) (m : BitVec 1) (s : State) : Host.Outcome State Fault Refusal :=
  runVector (vconfBody p a m) s

/-- VCOMB (R215). -/
def execVcomb (d : BitVec 7) (a : BitVec 7) (b : BitVec 7) (m : BitVec 1) (s : State) : Host.Outcome State Fault Refusal :=
  runVector (vcombBody d a b m) s

/-- VCONFM (R215). -/
def execVconfm (d : BitVec 7) (a : BitVec 7) (m : BitVec 1) (s : State) : Host.Outcome State Fault Refusal :=
  runVector (vconfmBody d a m) s

/-- VPACKNZ (R216). Where it stopped and HCTL.XOVT is set it takes PACK-OVERFLOW behind itself (R340, R343). -/
def execVpacknz (d a b : BitVec 7) (m : BitVec 1) (s : State) : Host.Outcome State Fault Refusal :=
  let s := countCovered s
  match recheckWait s with
  | some s' => .next s'
  | none =>
    match vpacknzBody d a b m (beginVector s) with
    | .ok _ s' =>
      let t := retire s (s.me.pc + 4) s'
      match packTrap s s' with
      | some e => .next (takeTrap 5 2 (s.me.pc + 4) 0 (BitVec.ofNat 64 e) t)
      | none => .next t
    | .error e s' => .next (stopped e s s')

end Sys2Proof.Machine
end

