-- ==== Sys2Proof/Machine/VReduce.lean ====
section
/-! DEFINITION. Reductions and scans: VRED (R74–R78, R198). -/

namespace Sys2Proof.Machine

/-- A present node of a reduction: its code and the draw index it carries; the starting value carries none (R74). -/
structure Node where
  val : Nat
  idx : Option Nat
deriving DecidableEq, Repr

/-- The two draw indices that meet in a sum: the highest (R74). -/
def joinIdx (a b : Option Nat) : Option Nat :=
  match a, b with
  | none, y => y
  | x, none => x
  | some x, some y => some (max x y)

/-- One rounded addition of two nodes, with its flags (R74). -/
def addNodes (s : State) (a b : Node) : Node × Nat :=
  let e := joinIdx a.idx b.idx
  let r := s.rounding (e.getD 0)
  let x := fAdd s.me.csr.fmt r.1 r.2 a.val b.val
  ({ val := x.1, idx := e }, x.2)

/-- The combination of R75: two present nodes add, one passes unchanged. -/
def combine (s : State) (a b : Option Node) : Option Node × Nat :=
  match a, b with
  | none, y => (y, 0)
  | x, none => (x, 0)
  | some x, some y => let r := addNodes s x y; (some r.1, r.2)

/-- Strict ascending: every partial sum, the first being the start (R74). -/
def ascending (s : State) (t : Node) : List Node → List (Node × Nat)
  | [] => []
  | x :: r => let a := addNodes s t x; a :: ascending s a.1 r

/-- One level of R75's tree. -/
def treeLevel (s : State) : List (Option Node) → List (Option Node) × Nat
  | [] => ([], 0)
  | [x] => ([x], 0)
  | x :: y :: r =>
    let c := combine s x y
    let q := treeLevel s r
    (c.1 :: q.1, c.2 ||| q.2)

/-- The root of R75's tree over leaves padded to a power of two by absent ones, which pass unchanged. -/
def treeRoot (s : State) : Nat → List (Option Node) → Option Node × Nat
  | 0, l => (l.headD none, 0)
  | n + 1, l =>
    let q := treeLevel s l
    let r := treeRoot s n q.1
    (r.1, q.2 ||| r.2)

/-- One doubling step of R76: every i ≥ d takes y(i − d) ⊕ y(i), from the values before the step. -/
def doublingStep (s : State) (d : Nat) (y : List (Option Node)) : List (Option Node) × Nat :=
  let r := ((range 0 y.length).zip y).map (fun e =>
    if e.1 < d then (e.2, 0) else combine s (y.getD (e.1 - d) none) e.2)
  (r.map (·.1), r.foldl (fun a e => a ||| e.2) 0)

/-- The doubling of R76: steps for d = 2^k, 2^(k+1), … while d is below the number of leaves. -/
def doubling (s : State) : Nat → Nat → List (Option Node) → List (Option Node) × Nat
  | 0, _, y => (y, 0)
  | n + 1, d, y =>
    if y.length ≤ d then (y, 0)
    else
      let q := doublingStep s d y
      let r := doubling s n (2 * d) q.1
      (r.1, q.2 ||| r.2)

/-- A sum in an association that the hardware chooses: two nodes, taken anywhere, meet until one is left (R77). -/
def chosenSum (s : State) : Nat → Nat → List Node → Node × Nat
  | 0, _, l => (l.headD ⟨0, none⟩, 0)
  | n + 1, k, l =>
    match l with
    | [] => (⟨0, none⟩, 0)
    | [x] => (x, 0)
    | x0 :: _ :: _ =>
      let i := Config.choice k % l.length
      let a := l.getD i x0
      let rest := dropNth l i
      let j := Config.choice (k + 1) % rest.length
      let b := rest.getD j x0
      -- the addend with the later index is the later operand
      let c := addNodes s a b
      let r := chosenSum s n (k + 2) (c.1 :: dropNth rest j)
      (r.1, c.2 ||| r.2)

/-- A row of a reduction as its member reads it: the start, and for each lane below VL the active element. -/
structure RedRow where
  start : Nat
  leaves : List (Option Node)

/-- The active elements of a row, ascending. -/
def RedRow.items (r : RedRow) : List Node := r.leaves.filterMap id

/-- A reduction's result for one row with its flags; `k` names the free choices it may take (R74–R77, R198). Without an active element it is the start
as it stands, a NaN too. [DEDUCED, log 41] -/
def reduceRow (fn : Nat) (s : State) (k : Nat) (r : RedRow) : Nat × Nat :=
  let c := s.me.csr
  let w := c.sew
  let st : Node := ⟨r.start, none⟩
  let fold (f : Nat → Nat → Nat) : Nat × Nat := (r.items.foldl (fun t x => f t x.val) r.start, 0)
  -- the start is read also where no element is active (R52)
  let nv := nvIf (c.fmt.decode r.start).signals
  match fn with
  | 0 =>
    let l := ascending s st r.items
    (((l.getLast?).map (·.1.val)).getD r.start, l.foldl (fun a e => a ||| e.2) nv)
  | 1 =>
    let t := treeRoot s 11 r.leaves
    match t.1 with
    | none => (r.start, t.2 ||| nv)
    | some x => let q := addNodes s st x; (q.1.val, t.2 ||| q.2 ||| nv)
  | 2 => let q := chosenSum s (r.items.length + 1) k (st :: r.items); (q.1.val, q.2 ||| nv)
  | 3 | 4 =>
    r.items.foldl (fun t x => let q := minMax c.fmt (fn == 4) t.1 x.val; (q.1, t.2 ||| q.2)) (r.start, nv)
  | 5 => fold (fun t x => (t + x) % 2 ^ w)
  | 6 => fold (fun t x => if toSigned w x < toSigned w t then x else t)
  | 7 => fold (fun t x => if toSigned w t < toSigned w x then x else t)
  | 12 => fold (fun t x => t &&& x)
  | _ => fold (fun t x => t ||| x)

/-- A scan's elements for one row: for each lane the value and flags of an active element (R74, R76, R77, R198). -/
def scanRow (fn : Nat) (s : State) (k : Nat) (r : RedRow) : List (Option (Nat × Nat)) :=
  let w := s.me.csr.sew
  let st : Node := ⟨r.start, none⟩
  let lanes := range 0 r.leaves.length
  let upTo (i : Nat) : List Node := (r.leaves.take (i + 1)).filterMap id
  match fn with
  | 8 =>
    let sums := ascending s st r.items
    (lanes.zip r.leaves).map (fun e => e.2.map (fun _ =>
      let n := (upTo e.1).length - 1
      (((sums[n]?).map (·.1.val)).getD 0, ((sums[n]?).map (·.2)).getD 0)))
  | 9 =>
    let y := doubling s 11 1 r.leaves
    (r.leaves.zip y.1).map (fun e => match e.1, e.2 with
      | some _, some x => let q := addNodes s st x; some (q.1.val, q.2 ||| y.2)
      | _, _ => none)
  | 10 =>
    (lanes.zip r.leaves).map (fun e => e.2.map (fun _ =>
      let l := st :: upTo e.1
      let q := chosenSum s l.length (k + 2048 * e.1) l
      (q.1.val, q.2)))
  | _ =>
    (lanes.zip r.leaves).map (fun e => e.2.map (fun _ =>
      ((upTo e.1).foldl (fun t x => (t + x.val) % 2 ^ w) r.start, 0)))

/-- The members of VRED that read elements as floating values (R198). -/
def vredFloats (fn : Nat) : Bool := decide (fn ≤ 4 ∨ (8 ≤ fn ∧ fn ≤ 10) ∨ fn = 14)

/-- The checks of VRED: VSTART is 0; sources are read before the destination is written, so they may share registers (R187). -/
def checkReduce (fn : Nat) (d a b : BitVec 7) : Exec Unit := do
  let s ← getState
  let g := s.me.csr.grp
  coreOnly
  checkTileSrc a.toNat g
  checkTileSrc b.toNat g
  checkTileDst d.toNat g
  checkUnscaled
  checkStart0
  if vredFloats fn then checkFmt else pure ()
  if (fn = 2 ∨ fn = 10) ∧ s.me.csr.hctl.getLsbD 0 = true then do
    drainedFirst (do
      let _ ← readTile a.toNat g
      readTile b.toNat g)
    detViolation
  else pure ()

/-- Row j of a reduction's operands (R198). -/
def redRowOf (s : State) (float m : Bool) (x y : List VReg) (j : Nat) : RedRow :=
  let c := s.me.csr
  { start := readWidth c float (elemAt y c.grp c.sew j 0)
    leaves := (range 0 c.len).map (fun i =>
      let e := j * c.len + i
      if s.me.active m e then some ⟨readWidth c float (elemAt x c.grp c.sew j i), some e⟩ else none) }

/-- A reduction: element 0 of each row takes the result (R198). -/
def reduceBody (fn : Nat) (d a b : BitVec 7) (m : BitVec 1) : Exec Unit := do
  checkReduce fn d a b
  let s ← getState
  let c := s.me.csr
  let x ← readTile a.toNat c.grp
  let y ← readTile b.toNat c.grp
  let s ← getState
  let res := (range 0 c.rows).map (fun j => reduceRow fn s (s.free + 4096 * j) (redRowOf s (vredFloats fn) (m == 1) x y j))
  if fn = 2 then modState (fun s => { s with free := s.free + 4096 * c.rows }) else pure ()
  putRows d.toNat c.grp c.sew (fun j i =>
    if i = 0 ∧ 0 < c.len then (let r := res.getD j (0, 0); .value r.1 r.2) else .inactive)

/-- A scan: every active element takes its value (R198). -/
def scanBody (fn : Nat) (d a b : BitVec 7) (m : BitVec 1) : Exec Unit := do
  checkReduce fn d a b
  let s ← getState
  let c := s.me.csr
  let x ← readTile a.toNat c.grp
  let y ← readTile b.toNat c.grp
  let s ← getState
  let res := (range 0 c.rows).map (fun j =>
    scanRow fn s (s.free + 2 ^ 22 * j) (redRowOf s (vredFloats fn) (m == 1) x y j))
  if fn = 10 then modState (fun s => { s with free := s.free + 2 ^ 22 * c.rows }) else pure ()
  putRows d.toNat c.grp c.sew (fun j i =>
    match (res.getD j []).getD i none with
    | some r => .value r.1 r.2
    | none => .inactive)

/-- VREDROW: row 0 takes the sums down the rows; the other rows stay (R198). A column without an active element gives the start as it stands. [DEDUCED, log 41] -/
def vredrowBody (d a b : BitVec 7) (m : BitVec 1) : Exec Unit := do
  checkReduce 14 d a b
  let s ← getState
  let c := s.me.csr
  let x ← readTile a.toNat c.grp
  let y ← readTile b.toNat c.grp
  let s ← getState
  let start (i : Nat) : Nat := readWidth c true (elemAt y c.grp c.sew 0 i)
  let column (i : Nat) : Nat × Nat :=
    ((range 0 c.rows).filter (fun j => s.me.active (m == 1) (j * c.len + i))).foldl (fun t j =>
      let q := addNodes s ⟨t.1, none⟩ ⟨readWidth c true (elemAt x c.grp c.sew j i), some (j * c.len + i)⟩
      (q.1.val, t.2 ||| q.2)) (start i, nvIf (c.fmt.decode (start i)).signals)
  putRows d.toNat c.grp c.sew (fun j i =>
    if j ≠ 0 then .kept
    else if i < c.len then (let r := column i; .value r.1 r.2)
    else .inactive)

/-- VREDO (R198). -/
def execVredo (d : BitVec 7) (a : BitVec 7) (b : BitVec 7) (m : BitVec 1) (s : State) : Host.Outcome State Fault Refusal :=
  runVector (reduceBody 0 d a b m) s

/-- VREDT (R198). -/
def execVredt (d : BitVec 7) (a : BitVec 7) (b : BitVec 7) (m : BitVec 1) (s : State) : Host.Outcome State Fault Refusal :=
  runVector (reduceBody 1 d a b m) s

/-- VREDU (R198). -/
def execVredu (d : BitVec 7) (a : BitVec 7) (b : BitVec 7) (m : BitVec 1) (s : State) : Host.Outcome State Fault Refusal :=
  runVector (reduceBody 2 d a b m) s

/-- VFREDMIN (R198). -/
def execVfredmin (d : BitVec 7) (a : BitVec 7) (b : BitVec 7) (m : BitVec 1) (s : State) : Host.Outcome State Fault Refusal :=
  runVector (reduceBody 3 d a b m) s

/-- VFREDMAX (R198). -/
def execVfredmax (d : BitVec 7) (a : BitVec 7) (b : BitVec 7) (m : BitVec 1) (s : State) : Host.Outcome State Fault Refusal :=
  runVector (reduceBody 4 d a b m) s

/-- VREDSUM (R198). -/
def execVredsum (d : BitVec 7) (a : BitVec 7) (b : BitVec 7) (m : BitVec 1) (s : State) : Host.Outcome State Fault Refusal :=
  runVector (reduceBody 5 d a b m) s

/-- VREDMIN (R198). -/
def execVredmin (d : BitVec 7) (a : BitVec 7) (b : BitVec 7) (m : BitVec 1) (s : State) : Host.Outcome State Fault Refusal :=
  runVector (reduceBody 6 d a b m) s

/-- VREDMAX (R198). -/
def execVredmax (d : BitVec 7) (a : BitVec 7) (b : BitVec 7) (m : BitVec 1) (s : State) : Host.Outcome State Fault Refusal :=
  runVector (reduceBody 7 d a b m) s

/-- VSCANO (R198). -/
def execVscano (d : BitVec 7) (a : BitVec 7) (b : BitVec 7) (m : BitVec 1) (s : State) : Host.Outcome State Fault Refusal :=
  runVector (scanBody 8 d a b m) s

/-- VSCANT (R198). -/
def execVscant (d : BitVec 7) (a : BitVec 7) (b : BitVec 7) (m : BitVec 1) (s : State) : Host.Outcome State Fault Refusal :=
  runVector (scanBody 9 d a b m) s

/-- VSCANU (R198). -/
def execVscanu (d : BitVec 7) (a : BitVec 7) (b : BitVec 7) (m : BitVec 1) (s : State) : Host.Outcome State Fault Refusal :=
  runVector (scanBody 10 d a b m) s

/-- VISCAN (R198). -/
def execViscan (d : BitVec 7) (a : BitVec 7) (b : BitVec 7) (m : BitVec 1) (s : State) : Host.Outcome State Fault Refusal :=
  runVector (scanBody 11 d a b m) s

/-- VREDAND (R198). -/
def execVredand (d : BitVec 7) (a : BitVec 7) (b : BitVec 7) (m : BitVec 1) (s : State) : Host.Outcome State Fault Refusal :=
  runVector (reduceBody 12 d a b m) s

/-- VREDOR (R198). -/
def execVredor (d : BitVec 7) (a : BitVec 7) (b : BitVec 7) (m : BitVec 1) (s : State) : Host.Outcome State Fault Refusal :=
  runVector (reduceBody 13 d a b m) s

/-- VREDROW (R198). -/
def execVredrow (d : BitVec 7) (a : BitVec 7) (b : BitVec 7) (m : BitVec 1) (s : State) : Host.Outcome State Fault Refusal :=
  runVector (vredrowBody d a b m) s

end Sys2Proof.Machine
end

