-- ==== Sys2Proof/Machine/Dispatch.lean ====
section
/-! DEFINITION. The dispatch: one arm for each constructor of Instr, each a call of its meaning. -/

namespace Sys2Proof.Machine

/-- The meaning of an instruction or event. -/
def exec (i : Instr) (s : State) : Host.Outcome State Fault Refusal :=
  match i with
  | .fenceRetire h => Sys2Proof.Machine.execFenceRetire h s
  | .queueStallEnd h => Sys2Proof.Machine.execQueueStallEnd h s
  | .matrixComplete t x_i => Sys2Proof.Machine.execMatrixComplete t x_i s
  | .copyChunkWritten h c k => Sys2Proof.Machine.execCopyChunkWritten h c k s
  | .copyRetire h c => Sys2Proof.Machine.execCopyRetire h c s
  | .copyErrorTrap h => Sys2Proof.Machine.execCopyErrorTrap h s
  | .replayIteration t => Sys2Proof.Machine.execReplayIteration t s
  | .handBack t => Sys2Proof.Machine.execHandBack t s
  | .pagerResume x va => Sys2Proof.Machine.execPagerResume x va s
  | .pagerUnservable t queue => Sys2Proof.Machine.execPagerUnservable t queue s
  | .faultRecordPost die => Sys2Proof.Machine.execFaultRecordPost die s
  | .progressExpiry h => Sys2Proof.Machine.execProgressExpiry h s
  | .preempt t => Sys2Proof.Machine.execPreempt t s
  | .stripBufferDrain h k => Sys2Proof.Machine.execStripBufferDrain h k s
  | .stripTimeout h => Sys2Proof.Machine.execStripTimeout h s
  | .writeApply die k => Sys2Proof.Machine.execWriteApply die k s
  | .recheckSecondRun h agree => Sys2Proof.Machine.execRecheckSecondRun h agree s
  | .recheckForce h => Sys2Proof.Machine.execRecheckForce h s
  | .knownAnswerOp core lane pass => Sys2Proof.Machine.execKnownAnswerOp core lane pass s
  | .knownAnswerSweep core pass => Sys2Proof.Machine.execKnownAnswerSweep core pass s
  | .qtailWrite q v => Sys2Proof.Machine.execQtailWrite q v s
  | .enable q => Sys2Proof.Machine.execEnable q s
  | .disable q => Sys2Proof.Machine.execDisable q s
  | .clrfault q => Sys2Proof.Machine.execClrfault q s
  | .missClear row => Sys2Proof.Machine.execMissClear row s
  | .registerWrite a v => Sys2Proof.Machine.execRegisterWrite a v s
  | .schedulerScan => Sys2Proof.Machine.execSchedulerScan s
  | .queueSwitchIn => Sys2Proof.Machine.execQueueSwitchIn s
  | .queueAging q => Sys2Proof.Machine.execQueueAging q s
  | .packetTake => Sys2Proof.Machine.execPacketTake s
  | .tandemDispatch t core slot => Sys2Proof.Machine.execTandemDispatch t core slot s
  | .kernelComplete x csn => Sys2Proof.Machine.execKernelComplete x csn s
  | .kernelFaultRecord x csn => Sys2Proof.Machine.execKernelFaultRecord x csn s
  | .cancel x csn => Sys2Proof.Machine.execCancel x csn s
  | .release x csn => Sys2Proof.Machine.execRelease x csn s
  | .queueCreate q block x => Sys2Proof.Machine.execQueueCreate q block x s
  | .bind x => Sys2Proof.Machine.execBind x s
  | .destroy x => Sys2Proof.Machine.execDestroy x s
  | .contextReclaim => Sys2Proof.Machine.execContextReclaim s
  | .shootdown x va len => Sys2Proof.Machine.execShootdown x va len s
  | .shootdownComplete k => Sys2Proof.Machine.execShootdownComplete k s
  | .vectorEntryWrite idx v => Sys2Proof.Machine.execVectorEntryWrite idx v s
  | .vectorEntryRead idx => Sys2Proof.Machine.execVectorEntryRead idx s
  | .ttModeEnable period epoch rows => Sys2Proof.Machine.execTtModeEnable period epoch rows s
  | .ttSlotStart row => Sys2Proof.Machine.execTtSlotStart row s
  | .ttSlotEnd row => Sys2Proof.Machine.execTtSlotEnd row s
  | .ppsInput => Sys2Proof.Machine.execPpsInput s
  | .timeOfDay ns => Sys2Proof.Machine.execTimeOfDay ns s
  | .energyWindow part used => Sys2Proof.Machine.execEnergyWindow part used s
  | .budgetTableWrite x_i v => Sys2Proof.Machine.execBudgetTableWrite x_i v s
  | .classTableWrite x_i v => Sys2Proof.Machine.execClassTableWrite x_i v s
  | .peerRouteWrite n valid mask => Sys2Proof.Machine.execPeerRouteWrite n valid mask s
  | .peerRequest port tag op pa => Sys2Proof.Machine.execPeerRequest port tag op pa s
  | .quiesce p => Sys2Proof.Machine.execQuiesce p s
  | .portResume p => Sys2Proof.Machine.execPortResume p s
  | .portReset p => Sys2Proof.Machine.execPortReset p s
  | .partnerDetected p => Sys2Proof.Machine.execPartnerDetected p s
  | .partnerLost p => Sys2Proof.Machine.execPartnerLost p s
  | .trainingDone p r => Sys2Proof.Machine.execTrainingDone p r s
  | .laneFailure p => Sys2Proof.Machine.execLaneFailure p s
  | .flitReceive p sq intact => Sys2Proof.Machine.execFlitReceive p sq intact s
  | .flitAckTimeout p => Sys2Proof.Machine.execFlitAckTimeout p s
  | .hostMemAccess op pa => Sys2Proof.Machine.execHostMemAccess op pa s
  | .resume cluster => Sys2Proof.Machine.execResume cluster s
  | .hold q => Sys2Proof.Machine.execHold q s
  | .debugRelease q => Sys2Proof.Machine.execDebugRelease q s
  | .historyEnable x base => Sys2Proof.Machine.execHistoryEnable x base s
  | .pcSample => Sys2Proof.Machine.execPcSample s
  | .dropRecord x => Sys2Proof.Machine.execDropRecord x s
  | .trialEnd h => Sys2Proof.Machine.execTrialEnd h s
  | .deviceReset images => Sys2Proof.Machine.execDeviceReset images s
  | .challenge => Sys2Proof.Machine.execChallenge s
  | .firmwareDebugUnlock token => Sys2Proof.Machine.execFirmwareDebugUnlock token s
  | .kernelDebugUnlock x slot => Sys2Proof.Machine.execKernelDebugUnlock x slot s
  | .attestationReport nonce => Sys2Proof.Machine.execAttestationReport nonce s
  | .keyLoad slot wrapped => Sys2Proof.Machine.execKeyLoad slot wrapped s
  | .checkpoint => Sys2Proof.Machine.execCheckpoint s
  | .checkpointDone ok => Sys2Proof.Machine.execCheckpointDone ok s
  | .recoveryReturn => Sys2Proof.Machine.execRecoveryReturn s
  | .functionReady f => Sys2Proof.Machine.execFunctionReady f s
  | .illegalInstruction w => Sys2Proof.Machine.execIllegalInstruction w s
  | .memoryReply tag data => Sys2Proof.Machine.execMemoryReply tag data s
  | .debugRelock firmware x => Sys2Proof.Machine.execDebugRelock firmware x s
  | .traceEnable x base len trace sample period => Sys2Proof.Machine.execTraceEnable x base len trace sample period s
  | .contextCreate x block => Sys2Proof.Machine.execContextCreate x block s
  | .add d a b => Sys2Proof.Machine.execAdd d a b s
  | .sub d a b => Sys2Proof.Machine.execSub d a b s
  | .and d a b => Sys2Proof.Machine.execAnd d a b s
  | .or d a b => Sys2Proof.Machine.execOr d a b s
  | .xor d a b => Sys2Proof.Machine.execXor d a b s
  | .andn d a b => Sys2Proof.Machine.execAndn d a b s
  | .sll d a b => Sys2Proof.Machine.execSll d a b s
  | .srl d a b => Sys2Proof.Machine.execSrl d a b s
  | .sra d a b => Sys2Proof.Machine.execSra d a b s
  | .slt d a b => Sys2Proof.Machine.execSlt d a b s
  | .sltn d a b => Sys2Proof.Machine.execSltn d a b s
  | .min d a b => Sys2Proof.Machine.execMin d a b s
  | .max d a b => Sys2Proof.Machine.execMax d a b s
  | .minn d a b => Sys2Proof.Machine.execMinn d a b s
  | .maxn d a b => Sys2Proof.Machine.execMaxn d a b s
  | .mul d a b => Sys2Proof.Machine.execMul d a b s
  | .mulh d a b => Sys2Proof.Machine.execMulh d a b s
  | .mulhn d a b => Sys2Proof.Machine.execMulhn d a b s
  | .div d a b => Sys2Proof.Machine.execDiv d a b s
  | .divn d a b => Sys2Proof.Machine.execDivn d a b s
  | .rem d a b => Sys2Proof.Machine.execRem d a b s
  | .remn d a b => Sys2Proof.Machine.execRemn d a b s
  | .clz d a => Sys2Proof.Machine.execClz d a s
  | .ctz d a => Sys2Proof.Machine.execCtz d a s
  | .popc d a => Sys2Proof.Machine.execPopc d a s
  | .addw d a b => Sys2Proof.Machine.execAddw d a b s
  | .subw d a b => Sys2Proof.Machine.execSubw d a b s
  | .sllw d a b => Sys2Proof.Machine.execSllw d a b s
  | .srlw d a b => Sys2Proof.Machine.execSrlw d a b s
  | .sraw d a b => Sys2Proof.Machine.execSraw d a b s
  | .addi d a x_i => Sys2Proof.Machine.execAddi d a x_i s
  | .andi d a x_i => Sys2Proof.Machine.execAndi d a x_i s
  | .ori d a x_i => Sys2Proof.Machine.execOri d a x_i s
  | .xori d a x_i => Sys2Proof.Machine.execXori d a x_i s
  | .slli d a x_i => Sys2Proof.Machine.execSlli d a x_i s
  | .srli d a x_i => Sys2Proof.Machine.execSrli d a x_i s
  | .srai d a x_i => Sys2Proof.Machine.execSrai d a x_i s
  | .slti d a x_i => Sys2Proof.Machine.execSlti d a x_i s
  | .lui d x_i => Sys2Proof.Machine.execLui d x_i s
  | .addpc d x_i => Sys2Proof.Machine.execAddpc d x_i s
  | .faddS d a b => Sys2Proof.Machine.execFaddS d a b s
  | .fsubS d a b => Sys2Proof.Machine.execFsubS d a b s
  | .fmulS d a b => Sys2Proof.Machine.execFmulS d a b s
  | .fdivS d a b => Sys2Proof.Machine.execFdivS d a b s
  | .fsqrtS d a => Sys2Proof.Machine.execFsqrtS d a s
  | .fminS d a b => Sys2Proof.Machine.execFminS d a b s
  | .fmaxS d a b => Sys2Proof.Machine.execFmaxS d a b s
  | .feqS d a b => Sys2Proof.Machine.execFeqS d a b s
  | .fltS d a b => Sys2Proof.Machine.execFltS d a b s
  | .fleS d a b => Sys2Proof.Machine.execFleS d a b s
  | .fclassS d a => Sys2Proof.Machine.execFclassS d a s
  | .fcvtSI d a => Sys2Proof.Machine.execFcvtSI d a s
  | .fcvtIS d a => Sys2Proof.Machine.execFcvtIS d a s
  | .faddD d a b => Sys2Proof.Machine.execFaddD d a b s
  | .fsubD d a b => Sys2Proof.Machine.execFsubD d a b s
  | .fmulD d a b => Sys2Proof.Machine.execFmulD d a b s
  | .fdivD d a b => Sys2Proof.Machine.execFdivD d a b s
  | .fsqrtD d a => Sys2Proof.Machine.execFsqrtD d a s
  | .fminD d a b => Sys2Proof.Machine.execFminD d a b s
  | .fmaxD d a b => Sys2Proof.Machine.execFmaxD d a b s
  | .feqD d a b => Sys2Proof.Machine.execFeqD d a b s
  | .fltD d a b => Sys2Proof.Machine.execFltD d a b s
  | .fleD d a b => Sys2Proof.Machine.execFleD d a b s
  | .fcvtDS d a => Sys2Proof.Machine.execFcvtDS d a s
  | .fcvtSD d a => Sys2Proof.Machine.execFcvtSD d a s
  | .fcvtDI d a => Sys2Proof.Machine.execFcvtDI d a s
  | .fcvtID d a => Sys2Proof.Machine.execFcvtID d a s
  | .fsgcS d a b => Sys2Proof.Machine.execFsgcS d a b s
  | .fsgiS d a b => Sys2Proof.Machine.execFsgiS d a b s
  | .fsgxS d a b => Sys2Proof.Machine.execFsgxS d a b s
  | .fcvtHS d a => Sys2Proof.Machine.execFcvtHS d a s
  | .fcvtSH d a => Sys2Proof.Machine.execFcvtSH d a s
  | .fmaS d a b => Sys2Proof.Machine.execFmaS d a b s
  | .fmsS d a b => Sys2Proof.Machine.execFmsS d a b s
  | .fnmaS d a b => Sys2Proof.Machine.execFnmaS d a b s
  | .fmaD d a b => Sys2Proof.Machine.execFmaD d a b s
  | .fmsD d a b => Sys2Proof.Machine.execFmsD d a b s
  | .fnmaD d a b => Sys2Proof.Machine.execFnmaD d a b s
  | .beqz a o => Sys2Proof.Machine.execBeqz a o s
  | .bnez a o => Sys2Proof.Machine.execBnez a o s
  | .bltz a o => Sys2Proof.Machine.execBltz a o s
  | .bgez a o => Sys2Proof.Machine.execBgez a o s
  | .bgtz a o => Sys2Proof.Machine.execBgtz a o s
  | .blez a o => Sys2Proof.Machine.execBlez a o s
  | .beq a b o => Sys2Proof.Machine.execBeq a b o s
  | .bne a b o => Sys2Proof.Machine.execBne a b o s
  | .blt a b o => Sys2Proof.Machine.execBlt a b o s
  | .bge a b o => Sys2Proof.Machine.execBge a b o s
  | .bltn a b o => Sys2Proof.Machine.execBltn a b o s
  | .bgen a b o => Sys2Proof.Machine.execBgen a b o s
  | .j o => Sys2Proof.Machine.execJ o s
  | .jl o => Sys2Proof.Machine.execJl o s
  | .jlr d a x_i => Sys2Proof.Machine.execJlr d a x_i s
  | .ldg d a z x_i => Sys2Proof.Machine.execLdg d a z x_i s
  | .ldgz d a z x_i => Sys2Proof.Machine.execLdgz d a z x_i s
  | .stg d a z x_i => Sys2Proof.Machine.execStg d a z x_i s
  | .lds d a z x_i => Sys2Proof.Machine.execLds d a z x_i s
  | .sts d a z x_i => Sys2Proof.Machine.execSts d a z x_i s
  | .ldaW d a => Sys2Proof.Machine.execLdaW d a s
  | .ldaD d a => Sys2Proof.Machine.execLdaD d a s
  | .stlW a b => Sys2Proof.Machine.execStlW a b s
  | .stlD a b => Sys2Proof.Machine.execStlD a b s
  | .ldasW d a => Sys2Proof.Machine.execLdasW d a s
  | .ldasD d a => Sys2Proof.Machine.execLdasD d a s
  | .stlsW a b => Sys2Proof.Machine.execStlsW a b s
  | .stlsD a b => Sys2Proof.Machine.execStlsD a b s
  | .fenceAcq x_s => Sys2Proof.Machine.execFenceAcq x_s s
  | .fenceRel x_s => Sys2Proof.Machine.execFenceRel x_s s
  | .fenceAr x_s => Sys2Proof.Machine.execFenceAr x_s s
  | .fenceSc x_s => Sys2Proof.Machine.execFenceSc x_s s
  | .fenceIo x_s => Sys2Proof.Machine.execFenceIo x_s s
  | .fenceEng x_s => Sys2Proof.Machine.execFenceEng x_s s
  | .amgAdd r d a b z => Sys2Proof.Machine.execAmgAdd r d a b z s
  | .amgAnd r d a b z => Sys2Proof.Machine.execAmgAnd r d a b z s
  | .amgOr r d a b z => Sys2Proof.Machine.execAmgOr r d a b z s
  | .amgXor r d a b z => Sys2Proof.Machine.execAmgXor r d a b z s
  | .amgMin r d a b z => Sys2Proof.Machine.execAmgMin r d a b z s
  | .amgMax r d a b z => Sys2Proof.Machine.execAmgMax r d a b z s
  | .amgMinn r d a b z => Sys2Proof.Machine.execAmgMinn r d a b z s
  | .amgMaxn r d a b z => Sys2Proof.Machine.execAmgMaxn r d a b z s
  | .amgSwp r d a b z => Sys2Proof.Machine.execAmgSwp r d a b z s
  | .amgCas r d a b z => Sys2Proof.Machine.execAmgCas r d a b z s
  | .amgFadd r d a b z => Sys2Proof.Machine.execAmgFadd r d a b z s
  | .amgInc r d a b z => Sys2Proof.Machine.execAmgInc r d a b z s
  | .amsAdd r d a b z => Sys2Proof.Machine.execAmsAdd r d a b z s
  | .amsAnd r d a b z => Sys2Proof.Machine.execAmsAnd r d a b z s
  | .amsOr r d a b z => Sys2Proof.Machine.execAmsOr r d a b z s
  | .amsXor r d a b z => Sys2Proof.Machine.execAmsXor r d a b z s
  | .amsMin r d a b z => Sys2Proof.Machine.execAmsMin r d a b z s
  | .amsMax r d a b z => Sys2Proof.Machine.execAmsMax r d a b z s
  | .amsMinn r d a b z => Sys2Proof.Machine.execAmsMinn r d a b z s
  | .amsMaxn r d a b z => Sys2Proof.Machine.execAmsMaxn r d a b z s
  | .amsSwp r d a b z => Sys2Proof.Machine.execAmsSwp r d a b z s
  | .amsCas r d a b z => Sys2Proof.Machine.execAmsCas r d a b z s
  | .amsFadd r d a b z => Sys2Proof.Machine.execAmsFadd r d a b z s
  | .amsInc r d a b z => Sys2Proof.Machine.execAmsInc r d a b z s
  | .sysc c => Sys2Proof.Machine.execSysc c s
  | .tret => Sys2Proof.Machine.execTret s
  | .brk c => Sys2Proof.Machine.execBrk c s
  | .wbase c k => Sys2Proof.Machine.execWbase c k s
  | .pause => Sys2Proof.Machine.execPause s
  | .csrrd d c => Sys2Proof.Machine.execCsrrd d c s
  | .csrwr d a c => Sys2Proof.Machine.execCsrwr d a c s
  | .csrset d a c => Sys2Proof.Machine.execCsrset d a c s
  | .csrclr d a c => Sys2Proof.Machine.execCsrclr d a c s
  | .spawn d a b => Sys2Proof.Machine.execSpawn d a b s
  | .exit => Sys2Proof.Machine.execExit s
  | .join d a => Sys2Proof.Machine.execJoin d a s
  | .leave a => Sys2Proof.Machine.execLeave a s
  | .gsize d a => Sys2Proof.Machine.execGsize d a s
  | .grank d a => Sys2Proof.Machine.execGrank d a s
  | .gbar a => Sys2Proof.Machine.execGbar a s
  | .tidg d => Sys2Proof.Machine.execTidg d s
  | .binit a b => Sys2Proof.Machine.execBinit a b s
  | .bexp a b => Sys2Proof.Machine.execBexp a b s
  | .barv d a b => Sys2Proof.Machine.execBarv d a b s
  | .bwait a b => Sys2Proof.Machine.execBwait a b s
  | .btest d a b => Sys2Proof.Machine.execBtest d a b s
  | .binitG a b => Sys2Proof.Machine.execBinitG a b s
  | .bexpG a b => Sys2Proof.Machine.execBexpG a b s
  | .barvG d a b => Sys2Proof.Machine.execBarvG d a b s
  | .bwaitG a b => Sys2Proof.Machine.execBwaitG a b s
  | .btestG d a b => Sys2Proof.Machine.execBtestG d a b s
  | .bqpush a => Sys2Proof.Machine.execBqpush a s
  | .qstat d q => Sys2Proof.Machine.execQstat d q s
  | .qdrain q => Sys2Proof.Machine.execQdrain q s
  | .bqt o => Sys2Proof.Machine.execBqt o s
  | .bqf o => Sys2Proof.Machine.execBqf o s
  | .vsetl d a v => Sys2Proof.Machine.execVsetl d a v s
  | .vsetr a => Sys2Proof.Machine.execVsetr a s
  | .vsetlx d a b => Sys2Proof.Machine.execVsetlx d a b s
  | .vstrip => Sys2Proof.Machine.execVstrip s
  | .vadd d a b m => Sys2Proof.Machine.execVadd d a b m s
  | .vsub d a b m => Sys2Proof.Machine.execVsub d a b m s
  | .vmul d a b m => Sys2Proof.Machine.execVmul d a b m s
  | .vmulh d a b m => Sys2Proof.Machine.execVmulh d a b m s
  | .vmulhn d a b m => Sys2Proof.Machine.execVmulhn d a b m s
  | .vand d a b m => Sys2Proof.Machine.execVand d a b m s
  | .vor d a b m => Sys2Proof.Machine.execVor d a b m s
  | .vxor d a b m => Sys2Proof.Machine.execVxor d a b m s
  | .vsll d a b m => Sys2Proof.Machine.execVsll d a b m s
  | .vsrl d a b m => Sys2Proof.Machine.execVsrl d a b m s
  | .vsra d a b m => Sys2Proof.Machine.execVsra d a b m s
  | .vmin d a b m => Sys2Proof.Machine.execVmin d a b m s
  | .vmax d a b m => Sys2Proof.Machine.execVmax d a b m s
  | .vminn d a b m => Sys2Proof.Machine.execVminn d a b m s
  | .vmaxn d a b m => Sys2Proof.Machine.execVmaxn d a b m s
  | .vsadd d a b m => Sys2Proof.Machine.execVsadd d a b m s
  | .vaddVs d a b m => Sys2Proof.Machine.execVaddVs d a b m s
  | .vsubVs d a b m => Sys2Proof.Machine.execVsubVs d a b m s
  | .vmulVs d a b m => Sys2Proof.Machine.execVmulVs d a b m s
  | .vmulhVs d a b m => Sys2Proof.Machine.execVmulhVs d a b m s
  | .vmulhnVs d a b m => Sys2Proof.Machine.execVmulhnVs d a b m s
  | .vandVs d a b m => Sys2Proof.Machine.execVandVs d a b m s
  | .vorVs d a b m => Sys2Proof.Machine.execVorVs d a b m s
  | .vxorVs d a b m => Sys2Proof.Machine.execVxorVs d a b m s
  | .vsllVs d a b m => Sys2Proof.Machine.execVsllVs d a b m s
  | .vsrlVs d a b m => Sys2Proof.Machine.execVsrlVs d a b m s
  | .vsraVs d a b m => Sys2Proof.Machine.execVsraVs d a b m s
  | .vminVs d a b m => Sys2Proof.Machine.execVminVs d a b m s
  | .vmaxVs d a b m => Sys2Proof.Machine.execVmaxVs d a b m s
  | .vminnVs d a b m => Sys2Proof.Machine.execVminnVs d a b m s
  | .vmaxnVs d a b m => Sys2Proof.Machine.execVmaxnVs d a b m s
  | .vsaddVs d a b m => Sys2Proof.Machine.execVsaddVs d a b m s
  | .vfadd d a b m => Sys2Proof.Machine.execVfadd d a b m s
  | .vfsub d a b m => Sys2Proof.Machine.execVfsub d a b m s
  | .vfmul d a b m => Sys2Proof.Machine.execVfmul d a b m s
  | .vfdiv d a b m => Sys2Proof.Machine.execVfdiv d a b m s
  | .vfmin d a b m => Sys2Proof.Machine.execVfmin d a b m s
  | .vfmax d a b m => Sys2Proof.Machine.execVfmax d a b m s
  | .vfsqrt d a m => Sys2Proof.Machine.execVfsqrt d a m s
  | .vfabs d a m => Sys2Proof.Machine.execVfabs d a m s
  | .vfneg d a m => Sys2Proof.Machine.execVfneg d a m s
  | .vfsgc d a b m => Sys2Proof.Machine.execVfsgc d a b m s
  | .vfrece d a m => Sys2Proof.Machine.execVfrece d a m s
  | .vfrsqe d a m => Sys2Proof.Machine.execVfrsqe d a m s
  | .vfexp2e d a m => Sys2Proof.Machine.execVfexp2e d a m s
  | .vfclass d a m => Sys2Proof.Machine.execVfclass d a m s
  | .vfaddw d a b m => Sys2Proof.Machine.execVfaddw d a b m s
  | .vfmulw d a b m => Sys2Proof.Machine.execVfmulw d a b m s
  | .vfaddVs d a b m => Sys2Proof.Machine.execVfaddVs d a b m s
  | .vfsubVs d a b m => Sys2Proof.Machine.execVfsubVs d a b m s
  | .vfmulVs d a b m => Sys2Proof.Machine.execVfmulVs d a b m s
  | .vfdivVs d a b m => Sys2Proof.Machine.execVfdivVs d a b m s
  | .vfminVs d a b m => Sys2Proof.Machine.execVfminVs d a b m s
  | .vfmaxVs d a b m => Sys2Proof.Machine.execVfmaxVs d a b m s
  | .vfsqrtVs d b m => Sys2Proof.Machine.execVfsqrtVs d b m s
  | .vfabsVs d b m => Sys2Proof.Machine.execVfabsVs d b m s
  | .vfnegVs d b m => Sys2Proof.Machine.execVfnegVs d b m s
  | .vfsgcVs d a b m => Sys2Proof.Machine.execVfsgcVs d a b m s
  | .vfreceVs d b m => Sys2Proof.Machine.execVfreceVs d b m s
  | .vfrsqeVs d b m => Sys2Proof.Machine.execVfrsqeVs d b m s
  | .vfexp2eVs d b m => Sys2Proof.Machine.execVfexp2eVs d b m s
  | .vfclassVs d b m => Sys2Proof.Machine.execVfclassVs d b m s
  | .vfclamp d a b m => Sys2Proof.Machine.execVfclamp d a b m s
  | .vfma d a b m => Sys2Proof.Machine.execVfma d a b m s
  | .vfms d a b m => Sys2Proof.Machine.execVfms d a b m s
  | .vfnma d a b m => Sys2Proof.Machine.execVfnma d a b m s
  | .vfnms d a b m => Sys2Proof.Machine.execVfnms d a b m s
  | .vfmaX d a b m => Sys2Proof.Machine.execVfmaX d a b m s
  | .vfmsX d a b m => Sys2Proof.Machine.execVfmsX d a b m s
  | .vfnmaX d a b m => Sys2Proof.Machine.execVfnmaX d a b m s
  | .vfnmsX d a b m => Sys2Proof.Machine.execVfnmsX d a b m s
  | .vfmaw d a b m => Sys2Proof.Machine.execVfmaw d a b m s
  | .vfmawX d a b m => Sys2Proof.Machine.execVfmawX d a b m s
  | .vmacc d a b m => Sys2Proof.Machine.execVmacc d a b m s
  | .vmaccX d a b m => Sys2Proof.Machine.execVmaccX d a b m s
  | .vseq p a b m => Sys2Proof.Machine.execVseq p a b m s
  | .vsne p a b m => Sys2Proof.Machine.execVsne p a b m s
  | .vslt p a b m => Sys2Proof.Machine.execVslt p a b m s
  | .vsle p a b m => Sys2Proof.Machine.execVsle p a b m s
  | .vsltn p a b m => Sys2Proof.Machine.execVsltn p a b m s
  | .vslen p a b m => Sys2Proof.Machine.execVslen p a b m s
  | .vfeq p a b m => Sys2Proof.Machine.execVfeq p a b m s
  | .vfne p a b m => Sys2Proof.Machine.execVfne p a b m s
  | .vflt p a b m => Sys2Proof.Machine.execVflt p a b m s
  | .vfle p a b m => Sys2Proof.Machine.execVfle p a b m s
  | .vfunord p a b m => Sys2Proof.Machine.execVfunord p a b m s
  | .vsltX p a b m => Sys2Proof.Machine.execVsltX p a b m s
  | .vsgtX p a b m => Sys2Proof.Machine.execVsgtX p a b m s
  | .vfltX p a b m => Sys2Proof.Machine.execVfltX p a b m s
  | .vfgtX p a b m => Sys2Proof.Machine.execVfgtX p a b m s
  | .vseqX p a b m => Sys2Proof.Machine.execVseqX p a b m s
  | .pand d a b => Sys2Proof.Machine.execPand d a b s
  | .por d a b => Sys2Proof.Machine.execPor d a b s
  | .pxor d a b => Sys2Proof.Machine.execPxor d a b s
  | .pandn d a b => Sys2Proof.Machine.execPandn d a b s
  | .pnot d a => Sys2Proof.Machine.execPnot d a s
  | .pset d => Sys2Proof.Machine.execPset d s
  | .pclr d => Sys2Proof.Machine.execPclr d s
  | .pcut d a b => Sys2Proof.Machine.execPcut d a b s
  | .pcuti d a b => Sys2Proof.Machine.execPcuti d a b s
  | .ppop d a => Sys2Proof.Machine.execPpop d a s
  | .pfirst d a => Sys2Proof.Machine.execPfirst d a s
  | .pfromv d a => Sys2Proof.Machine.execPfromv d a s
  | .ptov d a => Sys2Proof.Machine.execPtov d a s
  | .vslideup d a b m => Sys2Proof.Machine.execVslideup d a b m s
  | .vslidedn d a b m => Sys2Proof.Machine.execVslidedn d a b m s
  | .vslide1up d a b m => Sys2Proof.Machine.execVslide1up d a b m s
  | .vslide1dn d a b m => Sys2Proof.Machine.execVslide1dn d a b m s
  | .vpermi d a b m => Sys2Proof.Machine.execVpermi d a b m s
  | .vcompress d a b => Sys2Proof.Machine.execVcompress d a b s
  | .vexpand d a b => Sys2Proof.Machine.execVexpand d a b s
  | .vmerge d a b => Sys2Proof.Machine.execVmerge d a b s
  | .vsplat d a m => Sys2Proof.Machine.execVsplat d a m s
  | .vmvxs d a b => Sys2Proof.Machine.execVmvxs d a b s
  | .vrowbc d a b => Sys2Proof.Machine.execVrowbc d a b s
  | .vtrans d a => Sys2Proof.Machine.execVtrans d a s
  | .vredo d a b m => Sys2Proof.Machine.execVredo d a b m s
  | .vredt d a b m => Sys2Proof.Machine.execVredt d a b m s
  | .vredu d a b m => Sys2Proof.Machine.execVredu d a b m s
  | .vfredmin d a b m => Sys2Proof.Machine.execVfredmin d a b m s
  | .vfredmax d a b m => Sys2Proof.Machine.execVfredmax d a b m s
  | .vredsum d a b m => Sys2Proof.Machine.execVredsum d a b m s
  | .vredmin d a b m => Sys2Proof.Machine.execVredmin d a b m s
  | .vredmax d a b m => Sys2Proof.Machine.execVredmax d a b m s
  | .vscano d a b m => Sys2Proof.Machine.execVscano d a b m s
  | .vscant d a b m => Sys2Proof.Machine.execVscant d a b m s
  | .vscanu d a b m => Sys2Proof.Machine.execVscanu d a b m s
  | .viscan d a b m => Sys2Proof.Machine.execViscan d a b m s
  | .vredand d a b m => Sys2Proof.Machine.execVredand d a b m s
  | .vredor d a b m => Sys2Proof.Machine.execVredor d a b m s
  | .vredrow d a b m => Sys2Proof.Machine.execVredrow d a b m s
  | .vcvtf d a c m => Sys2Proof.Machine.execVcvtf d a c m s
  | .vcvtfi d a c m => Sys2Proof.Machine.execVcvtfi d a c m s
  | .vcvtif d a c m => Sys2Proof.Machine.execVcvtif d a c m s
  | .vqnt d a c m => Sys2Proof.Machine.execVqnt d a c m s
  | .vdqnt d a c m => Sys2Proof.Machine.execVdqnt d a c m s
  | .vbscale d a c m => Sys2Proof.Machine.execVbscale d a c m s
  | .vcvti d a c m => Sys2Proof.Machine.execVcvti d a c m s
  | .vindex d m x_s p => Sys2Proof.Machine.execVindex d m x_s p s
  | .vld d a k m => Sys2Proof.Machine.execVld d a k m s
  | .vlds d a b m => Sys2Proof.Machine.execVlds d a b m s
  | .vldff d a k m => Sys2Proof.Machine.execVldff d a k m s
  | .vldseg d a f k m => Sys2Proof.Machine.execVldseg d a f k m s
  | .vldx d a b m => Sys2Proof.Machine.execVldx d a b m s
  | .vldrow d a b m => Sys2Proof.Machine.execVldrow d a b m s
  | .vldbc d a k m => Sys2Proof.Machine.execVldbc d a k m s
  | .vst d a k m => Sys2Proof.Machine.execVst d a k m s
  | .vsts d a b m => Sys2Proof.Machine.execVsts d a b m s
  | .vstseg d a f k m => Sys2Proof.Machine.execVstseg d a f k m s
  | .vstx d a b m => Sys2Proof.Machine.execVstx d a b m s
  | .vstrow d a b m => Sys2Proof.Machine.execVstrow d a b m s
  | .vstxaddo d a b m => Sys2Proof.Machine.execVstxaddo d a b m s
  | .vstxadd d a b m => Sys2Proof.Machine.execVstxadd d a b m s
  | .vldsh d a k m => Sys2Proof.Machine.execVldsh d a k m s
  | .vldshs d a b m => Sys2Proof.Machine.execVldshs d a b m s
  | .vldshrow d a b m => Sys2Proof.Machine.execVldshrow d a b m s
  | .vstsh d a k m => Sys2Proof.Machine.execVstsh d a k m s
  | .vstshs d a b m => Sys2Proof.Machine.execVstshs d a b m s
  | .vstshrow d a b m => Sys2Proof.Machine.execVstshrow d a b m s
  | .vldshx d a b m => Sys2Proof.Machine.execVldshx d a b m s
  | .vstshx d a b m => Sys2Proof.Machine.execVstshx d a b m s
  | .vstshxaddo d a b m => Sys2Proof.Machine.execVstshxaddo d a b m s
  | .vstshxadd d a b m => Sys2Proof.Machine.execVstshxadd d a b m s
  | .vgwin p a m => Sys2Proof.Machine.execVgwin p a m s
  | .vgwset d a m => Sys2Proof.Machine.execVgwset d a m s
  | .vconf p a m => Sys2Proof.Machine.execVconf p a m s
  | .vcomb d a b m => Sys2Proof.Machine.execVcomb d a b m s
  | .vconfm d a m => Sys2Proof.Machine.execVconfm d a m s
  | .vpacknz d a b m => Sys2Proof.Machine.execVpacknz d a b m s
  | .mmac z a b x_s => Sys2Proof.Machine.execMmac z a b x_s s
  | .mmacn z a b x_s => Sys2Proof.Machine.execMmacn z a b x_s s
  | .mmaco z a b x_s => Sys2Proof.Machine.execMmaco z a b x_s s
  | .mmacs z a b x_s => Sys2Proof.Machine.execMmacs z a b x_s s
  | .mzcfg z a => Sys2Proof.Machine.execMzcfg z a s
  | .mzero z => Sys2Proof.Machine.execMzero z s
  | .mzld z a b => Sys2Proof.Machine.execMzld z a b s
  | .mzst z a b => Sys2Proof.Machine.execMzst z a b s
  | .mzrv d z b => Sys2Proof.Machine.execMzrv d z b s
  | .mzwv z a b => Sys2Proof.Machine.execMzwv z a b s
  | .manch z a => Sys2Proof.Machine.execManch z a s
  | .mscan z h => Sys2Proof.Machine.execMscan z h s
  | .mcarry h a => Sys2Proof.Machine.execMcarry h a s
  | .mcarryst h a => Sys2Proof.Machine.execMcarryst h a s
  | .mcommit => Sys2Proof.Machine.execMcommit s
  | .mwait n => Sys2Proof.Machine.execMwait n s
  | .mgain z a => Sys2Proof.Machine.execMgain z a s
  | .mstat d z => Sys2Proof.Machine.execMstat d z s
  | .tdset t a => Sys2Proof.Machine.execTdset t a s
  | .tdget t a => Sys2Proof.Machine.execTdget t a s
  | .scld k t => Sys2Proof.Machine.execScld k t s
  | .scst k t => Sys2Proof.Machine.execScst k t s
  | .tdinv t => Sys2Proof.Machine.execTdinv t s
  | .cpy a => Sys2Proof.Machine.execCpy a s
  | .cpyb p a => Sys2Proof.Machine.execCpyb p a s
  | .cpyseg a => Sys2Proof.Machine.execCpyseg a s
  | .cpyw n => Sys2Proof.Machine.execCpyw n s
  | .cpyq d => Sys2Proof.Machine.execCpyq d s
  | .lmark a b o => Sys2Proof.Machine.execLmark a b o s
  | .lmarkSweep a b o => Sys2Proof.Machine.execLmarkSweep a b o s
  | .lend => Sys2Proof.Machine.execLend s
  | .loff a => Sys2Proof.Machine.execLoff a s
  | .rsnew a b => Sys2Proof.Machine.execRsnew a b s
  | .rsq d a => Sys2Proof.Machine.execRsq d a s
  | .rspol a b => Sys2Proof.Machine.execRspol a b s
  | .tmark a => Sys2Proof.Machine.execTmark a s
  | .progpt c => Sys2Proof.Machine.execProgpt c s

end Sys2Proof.Machine
end

