-- ==== Sys2Proof/Decode.lean ====
section
/-! DEFINITION. Decoding and encoding (R141–R154). decodeNat reads the 32 bits of a word and refuses, by name, every word
that R148 or R149 makes illegal; encodeNat writes the word of a well-formed instruction from the same formats (R142). -/

namespace Sys2Proof

/-- Why a word is not an instruction (R148, R149). -/
inductive DecodeError where
  /-- Fewer than four bytes were given. -/
  | truncated
  /-- The major opcode has no member (R147). -/
  | unassignedMajor
  /-- The function, COND or OP value has no member (R147). -/
  | unassignedFunction
  /-- A field that must be zero is not (R144, R149). -/
  | mustBeZero
  /-- A field holds a value its rule reserves (R46, R148, R153). -/
  | reservedValue
deriving DecidableEq, Repr

/-- Bits `lo + len − 1` down to `lo` of a word. -/
def fld (n lo len : Nat) : Nat := n / 2 ^ lo % 2 ^ len

/-- An instruction whose must-be-zero bits are `zero` and which must be well-formed to be legal. -/
def legalIf (zero : Bool) (i : Instr) : Except DecodeError Instr :=
  if zero then (if i.wellFormed then .ok i else .error .reservedValue) else .error .mustBeZero

/-- Major 0x01 (R147). -/
noncomputable def decodeMajor01 (n : Nat) : Except DecodeError Instr :=
  match fld n 27 5 with
  | 0 => legalIf (true) (.add (BitVec.ofNat 7 (fld n 6 7)) (BitVec.ofNat 7 (fld n 13 7)) (BitVec.ofNat 7 (fld n 20 7)))
  | 1 => legalIf (true) (.sub (BitVec.ofNat 7 (fld n 6 7)) (BitVec.ofNat 7 (fld n 13 7)) (BitVec.ofNat 7 (fld n 20 7)))
  | 2 => legalIf (true) (.and (BitVec.ofNat 7 (fld n 6 7)) (BitVec.ofNat 7 (fld n 13 7)) (BitVec.ofNat 7 (fld n 20 7)))
  | 3 => legalIf (true) (.or (BitVec.ofNat 7 (fld n 6 7)) (BitVec.ofNat 7 (fld n 13 7)) (BitVec.ofNat 7 (fld n 20 7)))
  | 4 => legalIf (true) (.xor (BitVec.ofNat 7 (fld n 6 7)) (BitVec.ofNat 7 (fld n 13 7)) (BitVec.ofNat 7 (fld n 20 7)))
  | 5 => legalIf (true) (.andn (BitVec.ofNat 7 (fld n 6 7)) (BitVec.ofNat 7 (fld n 13 7)) (BitVec.ofNat 7 (fld n 20 7)))
  | 6 => legalIf (true) (.sll (BitVec.ofNat 7 (fld n 6 7)) (BitVec.ofNat 7 (fld n 13 7)) (BitVec.ofNat 7 (fld n 20 7)))
  | 7 => legalIf (true) (.srl (BitVec.ofNat 7 (fld n 6 7)) (BitVec.ofNat 7 (fld n 13 7)) (BitVec.ofNat 7 (fld n 20 7)))
  | 8 => legalIf (true) (.sra (BitVec.ofNat 7 (fld n 6 7)) (BitVec.ofNat 7 (fld n 13 7)) (BitVec.ofNat 7 (fld n 20 7)))
  | 9 => legalIf (true) (.slt (BitVec.ofNat 7 (fld n 6 7)) (BitVec.ofNat 7 (fld n 13 7)) (BitVec.ofNat 7 (fld n 20 7)))
  | 10 => legalIf (true) (.sltn (BitVec.ofNat 7 (fld n 6 7)) (BitVec.ofNat 7 (fld n 13 7)) (BitVec.ofNat 7 (fld n 20 7)))
  | 11 => legalIf (true) (.min (BitVec.ofNat 7 (fld n 6 7)) (BitVec.ofNat 7 (fld n 13 7)) (BitVec.ofNat 7 (fld n 20 7)))
  | 12 => legalIf (true) (.max (BitVec.ofNat 7 (fld n 6 7)) (BitVec.ofNat 7 (fld n 13 7)) (BitVec.ofNat 7 (fld n 20 7)))
  | 13 => legalIf (true) (.minn (BitVec.ofNat 7 (fld n 6 7)) (BitVec.ofNat 7 (fld n 13 7)) (BitVec.ofNat 7 (fld n 20 7)))
  | 14 => legalIf (true) (.maxn (BitVec.ofNat 7 (fld n 6 7)) (BitVec.ofNat 7 (fld n 13 7)) (BitVec.ofNat 7 (fld n 20 7)))
  | 15 => legalIf (true) (.mul (BitVec.ofNat 7 (fld n 6 7)) (BitVec.ofNat 7 (fld n 13 7)) (BitVec.ofNat 7 (fld n 20 7)))
  | 16 => legalIf (true) (.mulh (BitVec.ofNat 7 (fld n 6 7)) (BitVec.ofNat 7 (fld n 13 7)) (BitVec.ofNat 7 (fld n 20 7)))
  | 17 => legalIf (true) (.mulhn (BitVec.ofNat 7 (fld n 6 7)) (BitVec.ofNat 7 (fld n 13 7)) (BitVec.ofNat 7 (fld n 20 7)))
  | 18 => legalIf (true) (.div (BitVec.ofNat 7 (fld n 6 7)) (BitVec.ofNat 7 (fld n 13 7)) (BitVec.ofNat 7 (fld n 20 7)))
  | 19 => legalIf (true) (.divn (BitVec.ofNat 7 (fld n 6 7)) (BitVec.ofNat 7 (fld n 13 7)) (BitVec.ofNat 7 (fld n 20 7)))
  | 20 => legalIf (true) (.rem (BitVec.ofNat 7 (fld n 6 7)) (BitVec.ofNat 7 (fld n 13 7)) (BitVec.ofNat 7 (fld n 20 7)))
  | 21 => legalIf (true) (.remn (BitVec.ofNat 7 (fld n 6 7)) (BitVec.ofNat 7 (fld n 13 7)) (BitVec.ofNat 7 (fld n 20 7)))
  | 22 => legalIf (decide (fld n 20 7 = 0)) (.clz (BitVec.ofNat 7 (fld n 6 7)) (BitVec.ofNat 7 (fld n 13 7)))
  | 23 => legalIf (decide (fld n 20 7 = 0)) (.ctz (BitVec.ofNat 7 (fld n 6 7)) (BitVec.ofNat 7 (fld n 13 7)))
  | 24 => legalIf (decide (fld n 20 7 = 0)) (.popc (BitVec.ofNat 7 (fld n 6 7)) (BitVec.ofNat 7 (fld n 13 7)))
  | 25 => legalIf (true) (.addw (BitVec.ofNat 7 (fld n 6 7)) (BitVec.ofNat 7 (fld n 13 7)) (BitVec.ofNat 7 (fld n 20 7)))
  | 26 => legalIf (true) (.subw (BitVec.ofNat 7 (fld n 6 7)) (BitVec.ofNat 7 (fld n 13 7)) (BitVec.ofNat 7 (fld n 20 7)))
  | 27 => legalIf (true) (.sllw (BitVec.ofNat 7 (fld n 6 7)) (BitVec.ofNat 7 (fld n 13 7)) (BitVec.ofNat 7 (fld n 20 7)))
  | 28 => legalIf (true) (.srlw (BitVec.ofNat 7 (fld n 6 7)) (BitVec.ofNat 7 (fld n 13 7)) (BitVec.ofNat 7 (fld n 20 7)))
  | 29 => legalIf (true) (.sraw (BitVec.ofNat 7 (fld n 6 7)) (BitVec.ofNat 7 (fld n 13 7)) (BitVec.ofNat 7 (fld n 20 7)))
  | _ => .error .unassignedFunction

/-- Major 0x02 (R147). -/
noncomputable def decodeMajor02 (n : Nat) : Except DecodeError Instr :=
  match fld n 20 2 with
  | 0 => legalIf (true) (.addi (BitVec.ofNat 7 (fld n 6 7)) (BitVec.ofNat 7 (fld n 13 7)) (BitVec.ofNat 10 (fld n 22 10)))
  | 1 => legalIf (true) (.andi (BitVec.ofNat 7 (fld n 6 7)) (BitVec.ofNat 7 (fld n 13 7)) (BitVec.ofNat 10 (fld n 22 10)))
  | 2 => legalIf (true) (.ori (BitVec.ofNat 7 (fld n 6 7)) (BitVec.ofNat 7 (fld n 13 7)) (BitVec.ofNat 10 (fld n 22 10)))
  | _ => legalIf (true) (.xori (BitVec.ofNat 7 (fld n 6 7)) (BitVec.ofNat 7 (fld n 13 7)) (BitVec.ofNat 10 (fld n 22 10)))

/-- Major 0x03 (R147). -/
noncomputable def decodeMajor03 (n : Nat) : Except DecodeError Instr :=
  match fld n 20 2 with
  | 0 => legalIf (decide (fld n 22 10 < 64)) (.slli (BitVec.ofNat 7 (fld n 6 7)) (BitVec.ofNat 7 (fld n 13 7)) (BitVec.ofNat 6 (fld n 22 10)))
  | 1 => legalIf (decide (fld n 22 10 < 64)) (.srli (BitVec.ofNat 7 (fld n 6 7)) (BitVec.ofNat 7 (fld n 13 7)) (BitVec.ofNat 6 (fld n 22 10)))
  | 2 => legalIf (decide (fld n 22 10 < 64)) (.srai (BitVec.ofNat 7 (fld n 6 7)) (BitVec.ofNat 7 (fld n 13 7)) (BitVec.ofNat 6 (fld n 22 10)))
  | _ => legalIf (true) (.slti (BitVec.ofNat 7 (fld n 6 7)) (BitVec.ofNat 7 (fld n 13 7)) (BitVec.ofNat 10 (fld n 22 10)))

/-- Major 0x04 (R147). -/
noncomputable def decodeMajor04 (n : Nat) : Except DecodeError Instr :=
  legalIf (true) (.lui (BitVec.ofNat 7 (fld n 6 7)) (BitVec.ofNat 19 (fld n 13 19)))

/-- Major 0x05 (R147). -/
noncomputable def decodeMajor05 (n : Nat) : Except DecodeError Instr :=
  legalIf (true) (.addpc (BitVec.ofNat 7 (fld n 6 7)) (BitVec.ofNat 19 (fld n 13 19)))

/-- Major 0x06 (R147). -/
noncomputable def decodeMajor06 (n : Nat) : Except DecodeError Instr :=
  match fld n 27 5 with
  | 0 => legalIf (true) (.faddS (BitVec.ofNat 7 (fld n 6 7)) (BitVec.ofNat 7 (fld n 13 7)) (BitVec.ofNat 7 (fld n 20 7)))
  | 1 => legalIf (true) (.fsubS (BitVec.ofNat 7 (fld n 6 7)) (BitVec.ofNat 7 (fld n 13 7)) (BitVec.ofNat 7 (fld n 20 7)))
  | 2 => legalIf (true) (.fmulS (BitVec.ofNat 7 (fld n 6 7)) (BitVec.ofNat 7 (fld n 13 7)) (BitVec.ofNat 7 (fld n 20 7)))
  | 3 => legalIf (true) (.fdivS (BitVec.ofNat 7 (fld n 6 7)) (BitVec.ofNat 7 (fld n 13 7)) (BitVec.ofNat 7 (fld n 20 7)))
  | 4 => legalIf (decide (fld n 20 7 = 0)) (.fsqrtS (BitVec.ofNat 7 (fld n 6 7)) (BitVec.ofNat 7 (fld n 13 7)))
  | 5 => legalIf (true) (.fminS (BitVec.ofNat 7 (fld n 6 7)) (BitVec.ofNat 7 (fld n 13 7)) (BitVec.ofNat 7 (fld n 20 7)))
  | 6 => legalIf (true) (.fmaxS (BitVec.ofNat 7 (fld n 6 7)) (BitVec.ofNat 7 (fld n 13 7)) (BitVec.ofNat 7 (fld n 20 7)))
  | 7 => legalIf (true) (.feqS (BitVec.ofNat 7 (fld n 6 7)) (BitVec.ofNat 7 (fld n 13 7)) (BitVec.ofNat 7 (fld n 20 7)))
  | 8 => legalIf (true) (.fltS (BitVec.ofNat 7 (fld n 6 7)) (BitVec.ofNat 7 (fld n 13 7)) (BitVec.ofNat 7 (fld n 20 7)))
  | 9 => legalIf (true) (.fleS (BitVec.ofNat 7 (fld n 6 7)) (BitVec.ofNat 7 (fld n 13 7)) (BitVec.ofNat 7 (fld n 20 7)))
  | 10 => legalIf (decide (fld n 20 7 = 0)) (.fclassS (BitVec.ofNat 7 (fld n 6 7)) (BitVec.ofNat 7 (fld n 13 7)))
  | 11 => legalIf (decide (fld n 20 7 = 0)) (.fcvtSI (BitVec.ofNat 7 (fld n 6 7)) (BitVec.ofNat 7 (fld n 13 7)))
  | 12 => legalIf (decide (fld n 20 7 = 0)) (.fcvtIS (BitVec.ofNat 7 (fld n 6 7)) (BitVec.ofNat 7 (fld n 13 7)))
  | 13 => legalIf (true) (.faddD (BitVec.ofNat 7 (fld n 6 7)) (BitVec.ofNat 7 (fld n 13 7)) (BitVec.ofNat 7 (fld n 20 7)))
  | 14 => legalIf (true) (.fsubD (BitVec.ofNat 7 (fld n 6 7)) (BitVec.ofNat 7 (fld n 13 7)) (BitVec.ofNat 7 (fld n 20 7)))
  | 15 => legalIf (true) (.fmulD (BitVec.ofNat 7 (fld n 6 7)) (BitVec.ofNat 7 (fld n 13 7)) (BitVec.ofNat 7 (fld n 20 7)))
  | 16 => legalIf (true) (.fdivD (BitVec.ofNat 7 (fld n 6 7)) (BitVec.ofNat 7 (fld n 13 7)) (BitVec.ofNat 7 (fld n 20 7)))
  | 17 => legalIf (decide (fld n 20 7 = 0)) (.fsqrtD (BitVec.ofNat 7 (fld n 6 7)) (BitVec.ofNat 7 (fld n 13 7)))
  | 18 => legalIf (true) (.fminD (BitVec.ofNat 7 (fld n 6 7)) (BitVec.ofNat 7 (fld n 13 7)) (BitVec.ofNat 7 (fld n 20 7)))
  | 19 => legalIf (true) (.fmaxD (BitVec.ofNat 7 (fld n 6 7)) (BitVec.ofNat 7 (fld n 13 7)) (BitVec.ofNat 7 (fld n 20 7)))
  | 20 => legalIf (true) (.feqD (BitVec.ofNat 7 (fld n 6 7)) (BitVec.ofNat 7 (fld n 13 7)) (BitVec.ofNat 7 (fld n 20 7)))
  | 21 => legalIf (true) (.fltD (BitVec.ofNat 7 (fld n 6 7)) (BitVec.ofNat 7 (fld n 13 7)) (BitVec.ofNat 7 (fld n 20 7)))
  | 22 => legalIf (true) (.fleD (BitVec.ofNat 7 (fld n 6 7)) (BitVec.ofNat 7 (fld n 13 7)) (BitVec.ofNat 7 (fld n 20 7)))
  | 23 => legalIf (decide (fld n 20 7 = 0)) (.fcvtDS (BitVec.ofNat 7 (fld n 6 7)) (BitVec.ofNat 7 (fld n 13 7)))
  | 24 => legalIf (decide (fld n 20 7 = 0)) (.fcvtSD (BitVec.ofNat 7 (fld n 6 7)) (BitVec.ofNat 7 (fld n 13 7)))
  | 25 => legalIf (decide (fld n 20 7 = 0)) (.fcvtDI (BitVec.ofNat 7 (fld n 6 7)) (BitVec.ofNat 7 (fld n 13 7)))
  | 26 => legalIf (decide (fld n 20 7 = 0)) (.fcvtID (BitVec.ofNat 7 (fld n 6 7)) (BitVec.ofNat 7 (fld n 13 7)))
  | 27 => legalIf (true) (.fsgcS (BitVec.ofNat 7 (fld n 6 7)) (BitVec.ofNat 7 (fld n 13 7)) (BitVec.ofNat 7 (fld n 20 7)))
  | 28 => legalIf (true) (.fsgiS (BitVec.ofNat 7 (fld n 6 7)) (BitVec.ofNat 7 (fld n 13 7)) (BitVec.ofNat 7 (fld n 20 7)))
  | 29 => legalIf (true) (.fsgxS (BitVec.ofNat 7 (fld n 6 7)) (BitVec.ofNat 7 (fld n 13 7)) (BitVec.ofNat 7 (fld n 20 7)))
  | 30 => legalIf (decide (fld n 20 7 = 0)) (.fcvtHS (BitVec.ofNat 7 (fld n 6 7)) (BitVec.ofNat 7 (fld n 13 7)))
  | _ => legalIf (decide (fld n 20 7 = 0)) (.fcvtSH (BitVec.ofNat 7 (fld n 6 7)) (BitVec.ofNat 7 (fld n 13 7)))

/-- Major 0x07 (R147). -/
noncomputable def decodeMajor07 (n : Nat) : Except DecodeError Instr :=
  match fld n 27 5 with
  | 0 => legalIf (true) (.fmaS (BitVec.ofNat 7 (fld n 6 7)) (BitVec.ofNat 7 (fld n 13 7)) (BitVec.ofNat 7 (fld n 20 7)))
  | 1 => legalIf (true) (.fmsS (BitVec.ofNat 7 (fld n 6 7)) (BitVec.ofNat 7 (fld n 13 7)) (BitVec.ofNat 7 (fld n 20 7)))
  | 2 => legalIf (true) (.fnmaS (BitVec.ofNat 7 (fld n 6 7)) (BitVec.ofNat 7 (fld n 13 7)) (BitVec.ofNat 7 (fld n 20 7)))
  | 3 => legalIf (true) (.fmaD (BitVec.ofNat 7 (fld n 6 7)) (BitVec.ofNat 7 (fld n 13 7)) (BitVec.ofNat 7 (fld n 20 7)))
  | 4 => legalIf (true) (.fmsD (BitVec.ofNat 7 (fld n 6 7)) (BitVec.ofNat 7 (fld n 13 7)) (BitVec.ofNat 7 (fld n 20 7)))
  | 5 => legalIf (true) (.fnmaD (BitVec.ofNat 7 (fld n 6 7)) (BitVec.ofNat 7 (fld n 13 7)) (BitVec.ofNat 7 (fld n 20 7)))
  | _ => .error .unassignedFunction

/-- Major 0x08 (R147). -/
noncomputable def decodeMajor08 (n : Nat) : Except DecodeError Instr :=
  match fld n 13 3 with
  | 0 => legalIf (true) (.beqz (BitVec.ofNat 7 (fld n 6 7)) (BitVec.ofNat 16 (fld n 16 16)))
  | 1 => legalIf (true) (.bnez (BitVec.ofNat 7 (fld n 6 7)) (BitVec.ofNat 16 (fld n 16 16)))
  | 2 => legalIf (true) (.bltz (BitVec.ofNat 7 (fld n 6 7)) (BitVec.ofNat 16 (fld n 16 16)))
  | 3 => legalIf (true) (.bgez (BitVec.ofNat 7 (fld n 6 7)) (BitVec.ofNat 16 (fld n 16 16)))
  | 4 => legalIf (true) (.bgtz (BitVec.ofNat 7 (fld n 6 7)) (BitVec.ofNat 16 (fld n 16 16)))
  | 5 => legalIf (true) (.blez (BitVec.ofNat 7 (fld n 6 7)) (BitVec.ofNat 16 (fld n 16 16)))
  | _ => .error .unassignedFunction

/-- Major 0x09 (R147). -/
noncomputable def decodeMajor09 (n : Nat) : Except DecodeError Instr :=
  match fld n 20 3 with
  | 0 => legalIf (true) (.beq (BitVec.ofNat 7 (fld n 6 7)) (BitVec.ofNat 7 (fld n 13 7)) (BitVec.ofNat 9 (fld n 23 9)))
  | 1 => legalIf (true) (.bne (BitVec.ofNat 7 (fld n 6 7)) (BitVec.ofNat 7 (fld n 13 7)) (BitVec.ofNat 9 (fld n 23 9)))
  | 2 => legalIf (true) (.blt (BitVec.ofNat 7 (fld n 6 7)) (BitVec.ofNat 7 (fld n 13 7)) (BitVec.ofNat 9 (fld n 23 9)))
  | 3 => legalIf (true) (.bge (BitVec.ofNat 7 (fld n 6 7)) (BitVec.ofNat 7 (fld n 13 7)) (BitVec.ofNat 9 (fld n 23 9)))
  | 4 => legalIf (true) (.bltn (BitVec.ofNat 7 (fld n 6 7)) (BitVec.ofNat 7 (fld n 13 7)) (BitVec.ofNat 9 (fld n 23 9)))
  | 5 => legalIf (true) (.bgen (BitVec.ofNat 7 (fld n 6 7)) (BitVec.ofNat 7 (fld n 13 7)) (BitVec.ofNat 9 (fld n 23 9)))
  | _ => .error .unassignedFunction

/-- Major 0x0A (R147). -/
noncomputable def decodeMajor0A (n : Nat) : Except DecodeError Instr :=
  legalIf (true) (.j (BitVec.ofNat 26 (fld n 6 26)))

/-- Major 0x0B (R147). -/
noncomputable def decodeMajor0B (n : Nat) : Except DecodeError Instr :=
  legalIf (true) (.jl (BitVec.ofNat 26 (fld n 6 26)))

/-- Major 0x0C (R147). -/
noncomputable def decodeMajor0C (n : Nat) : Except DecodeError Instr :=
  legalIf (true) (.jlr (BitVec.ofNat 7 (fld n 6 7)) (BitVec.ofNat 7 (fld n 13 7)) (BitVec.ofNat 12 (fld n 20 12)))

/-- Major 0x0D (R147). -/
noncomputable def decodeMajor0D (n : Nat) : Except DecodeError Instr :=
  legalIf (true) (.ldg (BitVec.ofNat 7 (fld n 6 7)) (BitVec.ofNat 7 (fld n 13 7)) (BitVec.ofNat 2 (fld n 20 2)) (BitVec.ofNat 10 (fld n 22 10)))

/-- Major 0x0E (R147). -/
noncomputable def decodeMajor0E (n : Nat) : Except DecodeError Instr :=
  legalIf (true) (.ldgz (BitVec.ofNat 7 (fld n 6 7)) (BitVec.ofNat 7 (fld n 13 7)) (BitVec.ofNat 2 (fld n 20 2)) (BitVec.ofNat 10 (fld n 22 10)))

/-- Major 0x0F (R147). -/
noncomputable def decodeMajor0F (n : Nat) : Except DecodeError Instr :=
  legalIf (true) (.stg (BitVec.ofNat 7 (fld n 6 7)) (BitVec.ofNat 7 (fld n 13 7)) (BitVec.ofNat 2 (fld n 20 2)) (BitVec.ofNat 10 (fld n 22 10)))

/-- Major 0x10 (R147). -/
noncomputable def decodeMajor10 (n : Nat) : Except DecodeError Instr :=
  legalIf (true) (.lds (BitVec.ofNat 7 (fld n 6 7)) (BitVec.ofNat 7 (fld n 13 7)) (BitVec.ofNat 2 (fld n 20 2)) (BitVec.ofNat 10 (fld n 22 10)))

/-- Major 0x11 (R147). -/
noncomputable def decodeMajor11 (n : Nat) : Except DecodeError Instr :=
  legalIf (true) (.sts (BitVec.ofNat 7 (fld n 6 7)) (BitVec.ofNat 7 (fld n 13 7)) (BitVec.ofNat 2 (fld n 20 2)) (BitVec.ofNat 10 (fld n 22 10)))

/-- Major 0x12 (R147). -/
noncomputable def decodeMajor12 (n : Nat) : Except DecodeError Instr :=
  match fld n 27 5 with
  | 0 => legalIf (decide (fld n 20 7 = 0)) (.ldaW (BitVec.ofNat 7 (fld n 6 7)) (BitVec.ofNat 7 (fld n 13 7)))
  | 1 => legalIf (decide (fld n 20 7 = 0)) (.ldaD (BitVec.ofNat 7 (fld n 6 7)) (BitVec.ofNat 7 (fld n 13 7)))
  | 2 => legalIf (decide (fld n 6 7 = 0)) (.stlW (BitVec.ofNat 7 (fld n 13 7)) (BitVec.ofNat 7 (fld n 20 7)))
  | 3 => legalIf (decide (fld n 6 7 = 0)) (.stlD (BitVec.ofNat 7 (fld n 13 7)) (BitVec.ofNat 7 (fld n 20 7)))
  | 4 => legalIf (decide (fld n 20 7 = 0)) (.ldasW (BitVec.ofNat 7 (fld n 6 7)) (BitVec.ofNat 7 (fld n 13 7)))
  | 5 => legalIf (decide (fld n 20 7 = 0)) (.ldasD (BitVec.ofNat 7 (fld n 6 7)) (BitVec.ofNat 7 (fld n 13 7)))
  | 6 => legalIf (decide (fld n 6 7 = 0)) (.stlsW (BitVec.ofNat 7 (fld n 13 7)) (BitVec.ofNat 7 (fld n 20 7)))
  | 7 => legalIf (decide (fld n 6 7 = 0)) (.stlsD (BitVec.ofNat 7 (fld n 13 7)) (BitVec.ofNat 7 (fld n 20 7)))
  | _ => .error .unassignedFunction

/-- Major 0x13 (R147). -/
noncomputable def decodeMajor13 (n : Nat) : Except DecodeError Instr :=
  match fld n 27 5 with
  | 0 => legalIf (decide (fld n 13 7 = 0 ∧ fld n 20 7 = 0)) (.fenceAcq (BitVec.ofNat 7 (fld n 6 7)))
  | 1 => legalIf (decide (fld n 13 7 = 0 ∧ fld n 20 7 = 0)) (.fenceRel (BitVec.ofNat 7 (fld n 6 7)))
  | 2 => legalIf (decide (fld n 13 7 = 0 ∧ fld n 20 7 = 0)) (.fenceAr (BitVec.ofNat 7 (fld n 6 7)))
  | 3 => legalIf (decide (fld n 13 7 = 0 ∧ fld n 20 7 = 0)) (.fenceSc (BitVec.ofNat 7 (fld n 6 7)))
  | 4 => legalIf (decide (fld n 13 7 = 0 ∧ fld n 20 7 = 0)) (.fenceIo (BitVec.ofNat 7 (fld n 6 7)))
  | 5 => legalIf (decide (fld n 13 7 = 0 ∧ fld n 20 7 = 0)) (.fenceEng (BitVec.ofNat 7 (fld n 6 7)))
  | _ => .error .unassignedFunction

/-- Major 0x14–0x17 (R147). -/
noncomputable def decodeMajor14 (n : Nat) : Except DecodeError Instr :=
  match fld n 28 4 with
  | 0 => legalIf (true) (.amgAdd (BitVec.ofNat 2 (fld n 0 6)) (BitVec.ofNat 7 (fld n 6 7)) (BitVec.ofNat 7 (fld n 13 7)) (BitVec.ofNat 7 (fld n 20 7)) (BitVec.ofNat 1 (fld n 27 1)))
  | 1 => legalIf (true) (.amgAnd (BitVec.ofNat 2 (fld n 0 6)) (BitVec.ofNat 7 (fld n 6 7)) (BitVec.ofNat 7 (fld n 13 7)) (BitVec.ofNat 7 (fld n 20 7)) (BitVec.ofNat 1 (fld n 27 1)))
  | 2 => legalIf (true) (.amgOr (BitVec.ofNat 2 (fld n 0 6)) (BitVec.ofNat 7 (fld n 6 7)) (BitVec.ofNat 7 (fld n 13 7)) (BitVec.ofNat 7 (fld n 20 7)) (BitVec.ofNat 1 (fld n 27 1)))
  | 3 => legalIf (true) (.amgXor (BitVec.ofNat 2 (fld n 0 6)) (BitVec.ofNat 7 (fld n 6 7)) (BitVec.ofNat 7 (fld n 13 7)) (BitVec.ofNat 7 (fld n 20 7)) (BitVec.ofNat 1 (fld n 27 1)))
  | 4 => legalIf (true) (.amgMin (BitVec.ofNat 2 (fld n 0 6)) (BitVec.ofNat 7 (fld n 6 7)) (BitVec.ofNat 7 (fld n 13 7)) (BitVec.ofNat 7 (fld n 20 7)) (BitVec.ofNat 1 (fld n 27 1)))
  | 5 => legalIf (true) (.amgMax (BitVec.ofNat 2 (fld n 0 6)) (BitVec.ofNat 7 (fld n 6 7)) (BitVec.ofNat 7 (fld n 13 7)) (BitVec.ofNat 7 (fld n 20 7)) (BitVec.ofNat 1 (fld n 27 1)))
  | 6 => legalIf (true) (.amgMinn (BitVec.ofNat 2 (fld n 0 6)) (BitVec.ofNat 7 (fld n 6 7)) (BitVec.ofNat 7 (fld n 13 7)) (BitVec.ofNat 7 (fld n 20 7)) (BitVec.ofNat 1 (fld n 27 1)))
  | 7 => legalIf (true) (.amgMaxn (BitVec.ofNat 2 (fld n 0 6)) (BitVec.ofNat 7 (fld n 6 7)) (BitVec.ofNat 7 (fld n 13 7)) (BitVec.ofNat 7 (fld n 20 7)) (BitVec.ofNat 1 (fld n 27 1)))
  | 8 => legalIf (true) (.amgSwp (BitVec.ofNat 2 (fld n 0 6)) (BitVec.ofNat 7 (fld n 6 7)) (BitVec.ofNat 7 (fld n 13 7)) (BitVec.ofNat 7 (fld n 20 7)) (BitVec.ofNat 1 (fld n 27 1)))
  | 9 => legalIf (true) (.amgCas (BitVec.ofNat 2 (fld n 0 6)) (BitVec.ofNat 7 (fld n 6 7)) (BitVec.ofNat 7 (fld n 13 7)) (BitVec.ofNat 7 (fld n 20 7)) (BitVec.ofNat 1 (fld n 27 1)))
  | 10 => legalIf (true) (.amgFadd (BitVec.ofNat 2 (fld n 0 6)) (BitVec.ofNat 7 (fld n 6 7)) (BitVec.ofNat 7 (fld n 13 7)) (BitVec.ofNat 7 (fld n 20 7)) (BitVec.ofNat 1 (fld n 27 1)))
  | 11 => legalIf (true) (.amgInc (BitVec.ofNat 2 (fld n 0 6)) (BitVec.ofNat 7 (fld n 6 7)) (BitVec.ofNat 7 (fld n 13 7)) (BitVec.ofNat 7 (fld n 20 7)) (BitVec.ofNat 1 (fld n 27 1)))
  | _ => .error .unassignedFunction

/-- Major 0x18–0x1B (R147). -/
noncomputable def decodeMajor18 (n : Nat) : Except DecodeError Instr :=
  match fld n 28 4 with
  | 0 => legalIf (true) (.amsAdd (BitVec.ofNat 2 (fld n 0 6)) (BitVec.ofNat 7 (fld n 6 7)) (BitVec.ofNat 7 (fld n 13 7)) (BitVec.ofNat 7 (fld n 20 7)) (BitVec.ofNat 1 (fld n 27 1)))
  | 1 => legalIf (true) (.amsAnd (BitVec.ofNat 2 (fld n 0 6)) (BitVec.ofNat 7 (fld n 6 7)) (BitVec.ofNat 7 (fld n 13 7)) (BitVec.ofNat 7 (fld n 20 7)) (BitVec.ofNat 1 (fld n 27 1)))
  | 2 => legalIf (true) (.amsOr (BitVec.ofNat 2 (fld n 0 6)) (BitVec.ofNat 7 (fld n 6 7)) (BitVec.ofNat 7 (fld n 13 7)) (BitVec.ofNat 7 (fld n 20 7)) (BitVec.ofNat 1 (fld n 27 1)))
  | 3 => legalIf (true) (.amsXor (BitVec.ofNat 2 (fld n 0 6)) (BitVec.ofNat 7 (fld n 6 7)) (BitVec.ofNat 7 (fld n 13 7)) (BitVec.ofNat 7 (fld n 20 7)) (BitVec.ofNat 1 (fld n 27 1)))
  | 4 => legalIf (true) (.amsMin (BitVec.ofNat 2 (fld n 0 6)) (BitVec.ofNat 7 (fld n 6 7)) (BitVec.ofNat 7 (fld n 13 7)) (BitVec.ofNat 7 (fld n 20 7)) (BitVec.ofNat 1 (fld n 27 1)))
  | 5 => legalIf (true) (.amsMax (BitVec.ofNat 2 (fld n 0 6)) (BitVec.ofNat 7 (fld n 6 7)) (BitVec.ofNat 7 (fld n 13 7)) (BitVec.ofNat 7 (fld n 20 7)) (BitVec.ofNat 1 (fld n 27 1)))
  | 6 => legalIf (true) (.amsMinn (BitVec.ofNat 2 (fld n 0 6)) (BitVec.ofNat 7 (fld n 6 7)) (BitVec.ofNat 7 (fld n 13 7)) (BitVec.ofNat 7 (fld n 20 7)) (BitVec.ofNat 1 (fld n 27 1)))
  | 7 => legalIf (true) (.amsMaxn (BitVec.ofNat 2 (fld n 0 6)) (BitVec.ofNat 7 (fld n 6 7)) (BitVec.ofNat 7 (fld n 13 7)) (BitVec.ofNat 7 (fld n 20 7)) (BitVec.ofNat 1 (fld n 27 1)))
  | 8 => legalIf (true) (.amsSwp (BitVec.ofNat 2 (fld n 0 6)) (BitVec.ofNat 7 (fld n 6 7)) (BitVec.ofNat 7 (fld n 13 7)) (BitVec.ofNat 7 (fld n 20 7)) (BitVec.ofNat 1 (fld n 27 1)))
  | 9 => legalIf (true) (.amsCas (BitVec.ofNat 2 (fld n 0 6)) (BitVec.ofNat 7 (fld n 6 7)) (BitVec.ofNat 7 (fld n 13 7)) (BitVec.ofNat 7 (fld n 20 7)) (BitVec.ofNat 1 (fld n 27 1)))
  | 10 => legalIf (true) (.amsFadd (BitVec.ofNat 2 (fld n 0 6)) (BitVec.ofNat 7 (fld n 6 7)) (BitVec.ofNat 7 (fld n 13 7)) (BitVec.ofNat 7 (fld n 20 7)) (BitVec.ofNat 1 (fld n 27 1)))
  | 11 => legalIf (true) (.amsInc (BitVec.ofNat 2 (fld n 0 6)) (BitVec.ofNat 7 (fld n 6 7)) (BitVec.ofNat 7 (fld n 13 7)) (BitVec.ofNat 7 (fld n 20 7)) (BitVec.ofNat 1 (fld n 27 1)))
  | _ => .error .unassignedFunction

/-- Major 0x1C (R147). -/
noncomputable def decodeMajor1C (n : Nat) : Except DecodeError Instr :=
  match fld n 27 5 with
  | 0 => legalIf (decide (fld n 6 7 = 0 ∧ fld n 13 7 = 0)) (.sysc (BitVec.ofNat 7 (fld n 20 7)))
  | 1 => legalIf (decide (fld n 6 7 = 0 ∧ fld n 13 7 = 0 ∧ fld n 20 7 = 0)) (.tret)
  | 2 => legalIf (decide (fld n 6 7 = 0 ∧ fld n 13 7 = 0)) (.brk (BitVec.ofNat 7 (fld n 20 7)))
  | 3 => legalIf (decide (fld n 20 7 = 0)) (.wbase (BitVec.ofNat 7 (fld n 6 7)) (BitVec.ofNat 7 (fld n 13 7)))
  | 4 => legalIf (decide (fld n 6 7 = 0 ∧ fld n 13 7 = 0 ∧ fld n 20 7 = 0)) (.pause)
  | _ => .error .unassignedFunction

/-- Major 0x1D (R147). -/
noncomputable def decodeMajor1D (n : Nat) : Except DecodeError Instr :=
  match fld n 11 2 with
  | 0 => legalIf (decide (fld n 13 7 = 0)) (.csrrd (BitVec.ofNat 5 (fld n 6 5)) (BitVec.ofNat 12 (fld n 20 12)))
  | 1 => legalIf (true) (.csrwr (BitVec.ofNat 5 (fld n 6 5)) (BitVec.ofNat 7 (fld n 13 7)) (BitVec.ofNat 12 (fld n 20 12)))
  | 2 => legalIf (true) (.csrset (BitVec.ofNat 5 (fld n 6 5)) (BitVec.ofNat 7 (fld n 13 7)) (BitVec.ofNat 12 (fld n 20 12)))
  | _ => legalIf (true) (.csrclr (BitVec.ofNat 5 (fld n 6 5)) (BitVec.ofNat 7 (fld n 13 7)) (BitVec.ofNat 12 (fld n 20 12)))

/-- Major 0x1E (R147). -/
noncomputable def decodeMajor1E (n : Nat) : Except DecodeError Instr :=
  match fld n 27 5 with
  | 0 => legalIf (true) (.spawn (BitVec.ofNat 7 (fld n 6 7)) (BitVec.ofNat 7 (fld n 13 7)) (BitVec.ofNat 7 (fld n 20 7)))
  | 1 => legalIf (decide (fld n 6 7 = 0 ∧ fld n 13 7 = 0 ∧ fld n 20 7 = 0)) (.exit)
  | 2 => legalIf (decide (fld n 20 7 = 0)) (.join (BitVec.ofNat 7 (fld n 6 7)) (BitVec.ofNat 7 (fld n 13 7)))
  | 3 => legalIf (decide (fld n 6 7 = 0 ∧ fld n 20 7 = 0)) (.leave (BitVec.ofNat 7 (fld n 13 7)))
  | 4 => legalIf (decide (fld n 20 7 = 0)) (.gsize (BitVec.ofNat 7 (fld n 6 7)) (BitVec.ofNat 7 (fld n 13 7)))
  | 5 => legalIf (decide (fld n 20 7 = 0)) (.grank (BitVec.ofNat 7 (fld n 6 7)) (BitVec.ofNat 7 (fld n 13 7)))
  | 6 => legalIf (decide (fld n 6 7 = 0 ∧ fld n 20 7 = 0)) (.gbar (BitVec.ofNat 7 (fld n 13 7)))
  | 7 => legalIf (decide (fld n 13 7 = 0 ∧ fld n 20 7 = 0)) (.tidg (BitVec.ofNat 7 (fld n 6 7)))
  | _ => .error .unassignedFunction

/-- Major 0x1F (R147). -/
noncomputable def decodeMajor1F (n : Nat) : Except DecodeError Instr :=
  match fld n 27 5 with
  | 0 => legalIf (decide (fld n 6 7 = 0)) (.binit (BitVec.ofNat 7 (fld n 13 7)) (BitVec.ofNat 7 (fld n 20 7)))
  | 1 => legalIf (decide (fld n 6 7 = 0)) (.bexp (BitVec.ofNat 7 (fld n 13 7)) (BitVec.ofNat 7 (fld n 20 7)))
  | 2 => legalIf (true) (.barv (BitVec.ofNat 7 (fld n 6 7)) (BitVec.ofNat 7 (fld n 13 7)) (BitVec.ofNat 7 (fld n 20 7)))
  | 3 => legalIf (decide (fld n 6 7 = 0)) (.bwait (BitVec.ofNat 7 (fld n 13 7)) (BitVec.ofNat 7 (fld n 20 7)))
  | 4 => legalIf (true) (.btest (BitVec.ofNat 7 (fld n 6 7)) (BitVec.ofNat 7 (fld n 13 7)) (BitVec.ofNat 7 (fld n 20 7)))
  | 5 => legalIf (decide (fld n 6 7 = 0)) (.binitG (BitVec.ofNat 7 (fld n 13 7)) (BitVec.ofNat 7 (fld n 20 7)))
  | 6 => legalIf (decide (fld n 6 7 = 0)) (.bexpG (BitVec.ofNat 7 (fld n 13 7)) (BitVec.ofNat 7 (fld n 20 7)))
  | 7 => legalIf (true) (.barvG (BitVec.ofNat 7 (fld n 6 7)) (BitVec.ofNat 7 (fld n 13 7)) (BitVec.ofNat 7 (fld n 20 7)))
  | 8 => legalIf (decide (fld n 6 7 = 0)) (.bwaitG (BitVec.ofNat 7 (fld n 13 7)) (BitVec.ofNat 7 (fld n 20 7)))
  | 9 => legalIf (true) (.btestG (BitVec.ofNat 7 (fld n 6 7)) (BitVec.ofNat 7 (fld n 13 7)) (BitVec.ofNat 7 (fld n 20 7)))
  | _ => .error .unassignedFunction

/-- Major 0x20 (R147). -/
noncomputable def decodeMajor20 (n : Nat) : Except DecodeError Instr :=
  match fld n 27 5 with
  | 0 => legalIf (decide (fld n 6 7 = 0 ∧ fld n 20 7 = 0)) (.bqpush (BitVec.ofNat 7 (fld n 13 7)))
  | 1 => legalIf (decide (fld n 20 7 = 0)) (.qstat (BitVec.ofNat 7 (fld n 6 7)) (BitVec.ofNat 7 (fld n 13 7)))
  | 2 => legalIf (decide (fld n 6 7 = 0 ∧ fld n 20 7 = 0)) (.qdrain (BitVec.ofNat 7 (fld n 13 7)))
  | _ => .error .unassignedFunction

/-- Major 0x21 (R147). -/
noncomputable def decodeMajor21 (n : Nat) : Except DecodeError Instr :=
  match fld n 13 3 with
  | 0 => legalIf (decide (fld n 6 7 = 0)) (.bqt (BitVec.ofNat 16 (fld n 16 16)))
  | 1 => legalIf (decide (fld n 6 7 = 0)) (.bqf (BitVec.ofNat 16 (fld n 16 16)))
  | _ => .error .unassignedFunction

/-- Major 0x22 (R147). -/
noncomputable def decodeMajor22 (n : Nat) : Except DecodeError Instr :=
  legalIf (true) (.vsetl (BitVec.ofNat 7 (fld n 6 7)) (BitVec.ofNat 7 (fld n 13 7)) (BitVec.ofNat 12 (fld n 20 12)))

/-- Major 0x23 (R147). -/
noncomputable def decodeMajor23 (n : Nat) : Except DecodeError Instr :=
  match fld n 27 5 with
  | 0 => legalIf (decide (fld n 6 7 = 0 ∧ fld n 20 7 = 0)) (.vsetr (BitVec.ofNat 7 (fld n 13 7)))
  | 1 => legalIf (true) (.vsetlx (BitVec.ofNat 7 (fld n 6 7)) (BitVec.ofNat 7 (fld n 13 7)) (BitVec.ofNat 7 (fld n 20 7)))
  | 2 => legalIf (decide (fld n 6 7 = 0 ∧ fld n 13 7 = 0 ∧ fld n 20 7 = 0)) (.vstrip)
  | _ => .error .unassignedFunction

/-- Major 0x24 (R147). -/
noncomputable def decodeMajor24 (n : Nat) : Except DecodeError Instr :=
  match fld n 28 4 with
  | 0 => legalIf (true) (.vadd (BitVec.ofNat 7 (fld n 6 7)) (BitVec.ofNat 7 (fld n 13 7)) (BitVec.ofNat 7 (fld n 20 7)) (BitVec.ofNat 1 (fld n 27 1)))
  | 1 => legalIf (true) (.vsub (BitVec.ofNat 7 (fld n 6 7)) (BitVec.ofNat 7 (fld n 13 7)) (BitVec.ofNat 7 (fld n 20 7)) (BitVec.ofNat 1 (fld n 27 1)))
  | 2 => legalIf (true) (.vmul (BitVec.ofNat 7 (fld n 6 7)) (BitVec.ofNat 7 (fld n 13 7)) (BitVec.ofNat 7 (fld n 20 7)) (BitVec.ofNat 1 (fld n 27 1)))
  | 3 => legalIf (true) (.vmulh (BitVec.ofNat 7 (fld n 6 7)) (BitVec.ofNat 7 (fld n 13 7)) (BitVec.ofNat 7 (fld n 20 7)) (BitVec.ofNat 1 (fld n 27 1)))
  | 4 => legalIf (true) (.vmulhn (BitVec.ofNat 7 (fld n 6 7)) (BitVec.ofNat 7 (fld n 13 7)) (BitVec.ofNat 7 (fld n 20 7)) (BitVec.ofNat 1 (fld n 27 1)))
  | 5 => legalIf (true) (.vand (BitVec.ofNat 7 (fld n 6 7)) (BitVec.ofNat 7 (fld n 13 7)) (BitVec.ofNat 7 (fld n 20 7)) (BitVec.ofNat 1 (fld n 27 1)))
  | 6 => legalIf (true) (.vor (BitVec.ofNat 7 (fld n 6 7)) (BitVec.ofNat 7 (fld n 13 7)) (BitVec.ofNat 7 (fld n 20 7)) (BitVec.ofNat 1 (fld n 27 1)))
  | 7 => legalIf (true) (.vxor (BitVec.ofNat 7 (fld n 6 7)) (BitVec.ofNat 7 (fld n 13 7)) (BitVec.ofNat 7 (fld n 20 7)) (BitVec.ofNat 1 (fld n 27 1)))
  | 8 => legalIf (true) (.vsll (BitVec.ofNat 7 (fld n 6 7)) (BitVec.ofNat 7 (fld n 13 7)) (BitVec.ofNat 7 (fld n 20 7)) (BitVec.ofNat 1 (fld n 27 1)))
  | 9 => legalIf (true) (.vsrl (BitVec.ofNat 7 (fld n 6 7)) (BitVec.ofNat 7 (fld n 13 7)) (BitVec.ofNat 7 (fld n 20 7)) (BitVec.ofNat 1 (fld n 27 1)))
  | 10 => legalIf (true) (.vsra (BitVec.ofNat 7 (fld n 6 7)) (BitVec.ofNat 7 (fld n 13 7)) (BitVec.ofNat 7 (fld n 20 7)) (BitVec.ofNat 1 (fld n 27 1)))
  | 11 => legalIf (true) (.vmin (BitVec.ofNat 7 (fld n 6 7)) (BitVec.ofNat 7 (fld n 13 7)) (BitVec.ofNat 7 (fld n 20 7)) (BitVec.ofNat 1 (fld n 27 1)))
  | 12 => legalIf (true) (.vmax (BitVec.ofNat 7 (fld n 6 7)) (BitVec.ofNat 7 (fld n 13 7)) (BitVec.ofNat 7 (fld n 20 7)) (BitVec.ofNat 1 (fld n 27 1)))
  | 13 => legalIf (true) (.vminn (BitVec.ofNat 7 (fld n 6 7)) (BitVec.ofNat 7 (fld n 13 7)) (BitVec.ofNat 7 (fld n 20 7)) (BitVec.ofNat 1 (fld n 27 1)))
  | 14 => legalIf (true) (.vmaxn (BitVec.ofNat 7 (fld n 6 7)) (BitVec.ofNat 7 (fld n 13 7)) (BitVec.ofNat 7 (fld n 20 7)) (BitVec.ofNat 1 (fld n 27 1)))
  | _ => legalIf (true) (.vsadd (BitVec.ofNat 7 (fld n 6 7)) (BitVec.ofNat 7 (fld n 13 7)) (BitVec.ofNat 7 (fld n 20 7)) (BitVec.ofNat 1 (fld n 27 1)))

/-- Major 0x25 (R147). -/
noncomputable def decodeMajor25 (n : Nat) : Except DecodeError Instr :=
  match fld n 28 4 with
  | 0 => legalIf (true) (.vaddVs (BitVec.ofNat 7 (fld n 6 7)) (BitVec.ofNat 7 (fld n 13 7)) (BitVec.ofNat 7 (fld n 20 7)) (BitVec.ofNat 1 (fld n 27 1)))
  | 1 => legalIf (true) (.vsubVs (BitVec.ofNat 7 (fld n 6 7)) (BitVec.ofNat 7 (fld n 13 7)) (BitVec.ofNat 7 (fld n 20 7)) (BitVec.ofNat 1 (fld n 27 1)))
  | 2 => legalIf (true) (.vmulVs (BitVec.ofNat 7 (fld n 6 7)) (BitVec.ofNat 7 (fld n 13 7)) (BitVec.ofNat 7 (fld n 20 7)) (BitVec.ofNat 1 (fld n 27 1)))
  | 3 => legalIf (true) (.vmulhVs (BitVec.ofNat 7 (fld n 6 7)) (BitVec.ofNat 7 (fld n 13 7)) (BitVec.ofNat 7 (fld n 20 7)) (BitVec.ofNat 1 (fld n 27 1)))
  | 4 => legalIf (true) (.vmulhnVs (BitVec.ofNat 7 (fld n 6 7)) (BitVec.ofNat 7 (fld n 13 7)) (BitVec.ofNat 7 (fld n 20 7)) (BitVec.ofNat 1 (fld n 27 1)))
  | 5 => legalIf (true) (.vandVs (BitVec.ofNat 7 (fld n 6 7)) (BitVec.ofNat 7 (fld n 13 7)) (BitVec.ofNat 7 (fld n 20 7)) (BitVec.ofNat 1 (fld n 27 1)))
  | 6 => legalIf (true) (.vorVs (BitVec.ofNat 7 (fld n 6 7)) (BitVec.ofNat 7 (fld n 13 7)) (BitVec.ofNat 7 (fld n 20 7)) (BitVec.ofNat 1 (fld n 27 1)))
  | 7 => legalIf (true) (.vxorVs (BitVec.ofNat 7 (fld n 6 7)) (BitVec.ofNat 7 (fld n 13 7)) (BitVec.ofNat 7 (fld n 20 7)) (BitVec.ofNat 1 (fld n 27 1)))
  | 8 => legalIf (true) (.vsllVs (BitVec.ofNat 7 (fld n 6 7)) (BitVec.ofNat 7 (fld n 13 7)) (BitVec.ofNat 7 (fld n 20 7)) (BitVec.ofNat 1 (fld n 27 1)))
  | 9 => legalIf (true) (.vsrlVs (BitVec.ofNat 7 (fld n 6 7)) (BitVec.ofNat 7 (fld n 13 7)) (BitVec.ofNat 7 (fld n 20 7)) (BitVec.ofNat 1 (fld n 27 1)))
  | 10 => legalIf (true) (.vsraVs (BitVec.ofNat 7 (fld n 6 7)) (BitVec.ofNat 7 (fld n 13 7)) (BitVec.ofNat 7 (fld n 20 7)) (BitVec.ofNat 1 (fld n 27 1)))
  | 11 => legalIf (true) (.vminVs (BitVec.ofNat 7 (fld n 6 7)) (BitVec.ofNat 7 (fld n 13 7)) (BitVec.ofNat 7 (fld n 20 7)) (BitVec.ofNat 1 (fld n 27 1)))
  | 12 => legalIf (true) (.vmaxVs (BitVec.ofNat 7 (fld n 6 7)) (BitVec.ofNat 7 (fld n 13 7)) (BitVec.ofNat 7 (fld n 20 7)) (BitVec.ofNat 1 (fld n 27 1)))
  | 13 => legalIf (true) (.vminnVs (BitVec.ofNat 7 (fld n 6 7)) (BitVec.ofNat 7 (fld n 13 7)) (BitVec.ofNat 7 (fld n 20 7)) (BitVec.ofNat 1 (fld n 27 1)))
  | 14 => legalIf (true) (.vmaxnVs (BitVec.ofNat 7 (fld n 6 7)) (BitVec.ofNat 7 (fld n 13 7)) (BitVec.ofNat 7 (fld n 20 7)) (BitVec.ofNat 1 (fld n 27 1)))
  | _ => legalIf (true) (.vsaddVs (BitVec.ofNat 7 (fld n 6 7)) (BitVec.ofNat 7 (fld n 13 7)) (BitVec.ofNat 7 (fld n 20 7)) (BitVec.ofNat 1 (fld n 27 1)))

/-- Major 0x26 (R147). -/
noncomputable def decodeMajor26 (n : Nat) : Except DecodeError Instr :=
  match fld n 28 4 with
  | 0 => legalIf (true) (.vfadd (BitVec.ofNat 7 (fld n 6 7)) (BitVec.ofNat 7 (fld n 13 7)) (BitVec.ofNat 7 (fld n 20 7)) (BitVec.ofNat 1 (fld n 27 1)))
  | 1 => legalIf (true) (.vfsub (BitVec.ofNat 7 (fld n 6 7)) (BitVec.ofNat 7 (fld n 13 7)) (BitVec.ofNat 7 (fld n 20 7)) (BitVec.ofNat 1 (fld n 27 1)))
  | 2 => legalIf (true) (.vfmul (BitVec.ofNat 7 (fld n 6 7)) (BitVec.ofNat 7 (fld n 13 7)) (BitVec.ofNat 7 (fld n 20 7)) (BitVec.ofNat 1 (fld n 27 1)))
  | 3 => legalIf (true) (.vfdiv (BitVec.ofNat 7 (fld n 6 7)) (BitVec.ofNat 7 (fld n 13 7)) (BitVec.ofNat 7 (fld n 20 7)) (BitVec.ofNat 1 (fld n 27 1)))
  | 4 => legalIf (true) (.vfmin (BitVec.ofNat 7 (fld n 6 7)) (BitVec.ofNat 7 (fld n 13 7)) (BitVec.ofNat 7 (fld n 20 7)) (BitVec.ofNat 1 (fld n 27 1)))
  | 5 => legalIf (true) (.vfmax (BitVec.ofNat 7 (fld n 6 7)) (BitVec.ofNat 7 (fld n 13 7)) (BitVec.ofNat 7 (fld n 20 7)) (BitVec.ofNat 1 (fld n 27 1)))
  | 6 => legalIf (decide (fld n 20 7 = 0)) (.vfsqrt (BitVec.ofNat 7 (fld n 6 7)) (BitVec.ofNat 7 (fld n 13 7)) (BitVec.ofNat 1 (fld n 27 1)))
  | 7 => legalIf (decide (fld n 20 7 = 0)) (.vfabs (BitVec.ofNat 7 (fld n 6 7)) (BitVec.ofNat 7 (fld n 13 7)) (BitVec.ofNat 1 (fld n 27 1)))
  | 8 => legalIf (decide (fld n 20 7 = 0)) (.vfneg (BitVec.ofNat 7 (fld n 6 7)) (BitVec.ofNat 7 (fld n 13 7)) (BitVec.ofNat 1 (fld n 27 1)))
  | 9 => legalIf (true) (.vfsgc (BitVec.ofNat 7 (fld n 6 7)) (BitVec.ofNat 7 (fld n 13 7)) (BitVec.ofNat 7 (fld n 20 7)) (BitVec.ofNat 1 (fld n 27 1)))
  | 10 => legalIf (decide (fld n 20 7 = 0)) (.vfrece (BitVec.ofNat 7 (fld n 6 7)) (BitVec.ofNat 7 (fld n 13 7)) (BitVec.ofNat 1 (fld n 27 1)))
  | 11 => legalIf (decide (fld n 20 7 = 0)) (.vfrsqe (BitVec.ofNat 7 (fld n 6 7)) (BitVec.ofNat 7 (fld n 13 7)) (BitVec.ofNat 1 (fld n 27 1)))
  | 12 => legalIf (decide (fld n 20 7 = 0)) (.vfexp2e (BitVec.ofNat 7 (fld n 6 7)) (BitVec.ofNat 7 (fld n 13 7)) (BitVec.ofNat 1 (fld n 27 1)))
  | 13 => legalIf (decide (fld n 20 7 = 0)) (.vfclass (BitVec.ofNat 7 (fld n 6 7)) (BitVec.ofNat 7 (fld n 13 7)) (BitVec.ofNat 1 (fld n 27 1)))
  | 14 => legalIf (true) (.vfaddw (BitVec.ofNat 7 (fld n 6 7)) (BitVec.ofNat 7 (fld n 13 7)) (BitVec.ofNat 7 (fld n 20 7)) (BitVec.ofNat 1 (fld n 27 1)))
  | _ => legalIf (true) (.vfmulw (BitVec.ofNat 7 (fld n 6 7)) (BitVec.ofNat 7 (fld n 13 7)) (BitVec.ofNat 7 (fld n 20 7)) (BitVec.ofNat 1 (fld n 27 1)))

/-- Major 0x27 (R147). -/
noncomputable def decodeMajor27 (n : Nat) : Except DecodeError Instr :=
  match fld n 28 4 with
  | 0 => legalIf (true) (.vfaddVs (BitVec.ofNat 7 (fld n 6 7)) (BitVec.ofNat 7 (fld n 13 7)) (BitVec.ofNat 7 (fld n 20 7)) (BitVec.ofNat 1 (fld n 27 1)))
  | 1 => legalIf (true) (.vfsubVs (BitVec.ofNat 7 (fld n 6 7)) (BitVec.ofNat 7 (fld n 13 7)) (BitVec.ofNat 7 (fld n 20 7)) (BitVec.ofNat 1 (fld n 27 1)))
  | 2 => legalIf (true) (.vfmulVs (BitVec.ofNat 7 (fld n 6 7)) (BitVec.ofNat 7 (fld n 13 7)) (BitVec.ofNat 7 (fld n 20 7)) (BitVec.ofNat 1 (fld n 27 1)))
  | 3 => legalIf (true) (.vfdivVs (BitVec.ofNat 7 (fld n 6 7)) (BitVec.ofNat 7 (fld n 13 7)) (BitVec.ofNat 7 (fld n 20 7)) (BitVec.ofNat 1 (fld n 27 1)))
  | 4 => legalIf (true) (.vfminVs (BitVec.ofNat 7 (fld n 6 7)) (BitVec.ofNat 7 (fld n 13 7)) (BitVec.ofNat 7 (fld n 20 7)) (BitVec.ofNat 1 (fld n 27 1)))
  | 5 => legalIf (true) (.vfmaxVs (BitVec.ofNat 7 (fld n 6 7)) (BitVec.ofNat 7 (fld n 13 7)) (BitVec.ofNat 7 (fld n 20 7)) (BitVec.ofNat 1 (fld n 27 1)))
  | 6 => legalIf (decide (fld n 13 7 = 0)) (.vfsqrtVs (BitVec.ofNat 7 (fld n 6 7)) (BitVec.ofNat 7 (fld n 20 7)) (BitVec.ofNat 1 (fld n 27 1)))
  | 7 => legalIf (decide (fld n 13 7 = 0)) (.vfabsVs (BitVec.ofNat 7 (fld n 6 7)) (BitVec.ofNat 7 (fld n 20 7)) (BitVec.ofNat 1 (fld n 27 1)))
  | 8 => legalIf (decide (fld n 13 7 = 0)) (.vfnegVs (BitVec.ofNat 7 (fld n 6 7)) (BitVec.ofNat 7 (fld n 20 7)) (BitVec.ofNat 1 (fld n 27 1)))
  | 9 => legalIf (true) (.vfsgcVs (BitVec.ofNat 7 (fld n 6 7)) (BitVec.ofNat 7 (fld n 13 7)) (BitVec.ofNat 7 (fld n 20 7)) (BitVec.ofNat 1 (fld n 27 1)))
  | 10 => legalIf (decide (fld n 13 7 = 0)) (.vfreceVs (BitVec.ofNat 7 (fld n 6 7)) (BitVec.ofNat 7 (fld n 20 7)) (BitVec.ofNat 1 (fld n 27 1)))
  | 11 => legalIf (decide (fld n 13 7 = 0)) (.vfrsqeVs (BitVec.ofNat 7 (fld n 6 7)) (BitVec.ofNat 7 (fld n 20 7)) (BitVec.ofNat 1 (fld n 27 1)))
  | 12 => legalIf (decide (fld n 13 7 = 0)) (.vfexp2eVs (BitVec.ofNat 7 (fld n 6 7)) (BitVec.ofNat 7 (fld n 20 7)) (BitVec.ofNat 1 (fld n 27 1)))
  | 13 => legalIf (decide (fld n 13 7 = 0)) (.vfclassVs (BitVec.ofNat 7 (fld n 6 7)) (BitVec.ofNat 7 (fld n 20 7)) (BitVec.ofNat 1 (fld n 27 1)))
  | 14 => legalIf (true) (.vfclamp (BitVec.ofNat 7 (fld n 6 7)) (BitVec.ofNat 7 (fld n 13 7)) (BitVec.ofNat 7 (fld n 20 7)) (BitVec.ofNat 1 (fld n 27 1)))
  | _ => .error .unassignedFunction

/-- Major 0x28 (R147). -/
noncomputable def decodeMajor28 (n : Nat) : Except DecodeError Instr :=
  match fld n 28 4 with
  | 0 => legalIf (true) (.vfma (BitVec.ofNat 7 (fld n 6 7)) (BitVec.ofNat 7 (fld n 13 7)) (BitVec.ofNat 7 (fld n 20 7)) (BitVec.ofNat 1 (fld n 27 1)))
  | 1 => legalIf (true) (.vfms (BitVec.ofNat 7 (fld n 6 7)) (BitVec.ofNat 7 (fld n 13 7)) (BitVec.ofNat 7 (fld n 20 7)) (BitVec.ofNat 1 (fld n 27 1)))
  | 2 => legalIf (true) (.vfnma (BitVec.ofNat 7 (fld n 6 7)) (BitVec.ofNat 7 (fld n 13 7)) (BitVec.ofNat 7 (fld n 20 7)) (BitVec.ofNat 1 (fld n 27 1)))
  | 3 => legalIf (true) (.vfnms (BitVec.ofNat 7 (fld n 6 7)) (BitVec.ofNat 7 (fld n 13 7)) (BitVec.ofNat 7 (fld n 20 7)) (BitVec.ofNat 1 (fld n 27 1)))
  | 4 => legalIf (true) (.vfmaX (BitVec.ofNat 7 (fld n 6 7)) (BitVec.ofNat 7 (fld n 13 7)) (BitVec.ofNat 7 (fld n 20 7)) (BitVec.ofNat 1 (fld n 27 1)))
  | 5 => legalIf (true) (.vfmsX (BitVec.ofNat 7 (fld n 6 7)) (BitVec.ofNat 7 (fld n 13 7)) (BitVec.ofNat 7 (fld n 20 7)) (BitVec.ofNat 1 (fld n 27 1)))
  | 6 => legalIf (true) (.vfnmaX (BitVec.ofNat 7 (fld n 6 7)) (BitVec.ofNat 7 (fld n 13 7)) (BitVec.ofNat 7 (fld n 20 7)) (BitVec.ofNat 1 (fld n 27 1)))
  | 7 => legalIf (true) (.vfnmsX (BitVec.ofNat 7 (fld n 6 7)) (BitVec.ofNat 7 (fld n 13 7)) (BitVec.ofNat 7 (fld n 20 7)) (BitVec.ofNat 1 (fld n 27 1)))
  | 8 => legalIf (true) (.vfmaw (BitVec.ofNat 7 (fld n 6 7)) (BitVec.ofNat 7 (fld n 13 7)) (BitVec.ofNat 7 (fld n 20 7)) (BitVec.ofNat 1 (fld n 27 1)))
  | 9 => legalIf (true) (.vfmawX (BitVec.ofNat 7 (fld n 6 7)) (BitVec.ofNat 7 (fld n 13 7)) (BitVec.ofNat 7 (fld n 20 7)) (BitVec.ofNat 1 (fld n 27 1)))
  | 10 => legalIf (true) (.vmacc (BitVec.ofNat 7 (fld n 6 7)) (BitVec.ofNat 7 (fld n 13 7)) (BitVec.ofNat 7 (fld n 20 7)) (BitVec.ofNat 1 (fld n 27 1)))
  | 11 => legalIf (true) (.vmaccX (BitVec.ofNat 7 (fld n 6 7)) (BitVec.ofNat 7 (fld n 13 7)) (BitVec.ofNat 7 (fld n 20 7)) (BitVec.ofNat 1 (fld n 27 1)))
  | _ => .error .unassignedFunction

/-- Major 0x29 (R147). -/
noncomputable def decodeMajor29 (n : Nat) : Except DecodeError Instr :=
  match fld n 28 4 with
  | 0 => legalIf (decide (fld n 6 7 < 16)) (.vseq (BitVec.ofNat 4 (fld n 6 7)) (BitVec.ofNat 7 (fld n 13 7)) (BitVec.ofNat 7 (fld n 20 7)) (BitVec.ofNat 1 (fld n 27 1)))
  | 1 => legalIf (decide (fld n 6 7 < 16)) (.vsne (BitVec.ofNat 4 (fld n 6 7)) (BitVec.ofNat 7 (fld n 13 7)) (BitVec.ofNat 7 (fld n 20 7)) (BitVec.ofNat 1 (fld n 27 1)))
  | 2 => legalIf (decide (fld n 6 7 < 16)) (.vslt (BitVec.ofNat 4 (fld n 6 7)) (BitVec.ofNat 7 (fld n 13 7)) (BitVec.ofNat 7 (fld n 20 7)) (BitVec.ofNat 1 (fld n 27 1)))
  | 3 => legalIf (decide (fld n 6 7 < 16)) (.vsle (BitVec.ofNat 4 (fld n 6 7)) (BitVec.ofNat 7 (fld n 13 7)) (BitVec.ofNat 7 (fld n 20 7)) (BitVec.ofNat 1 (fld n 27 1)))
  | 4 => legalIf (decide (fld n 6 7 < 16)) (.vsltn (BitVec.ofNat 4 (fld n 6 7)) (BitVec.ofNat 7 (fld n 13 7)) (BitVec.ofNat 7 (fld n 20 7)) (BitVec.ofNat 1 (fld n 27 1)))
  | 5 => legalIf (decide (fld n 6 7 < 16)) (.vslen (BitVec.ofNat 4 (fld n 6 7)) (BitVec.ofNat 7 (fld n 13 7)) (BitVec.ofNat 7 (fld n 20 7)) (BitVec.ofNat 1 (fld n 27 1)))
  | 6 => legalIf (decide (fld n 6 7 < 16)) (.vfeq (BitVec.ofNat 4 (fld n 6 7)) (BitVec.ofNat 7 (fld n 13 7)) (BitVec.ofNat 7 (fld n 20 7)) (BitVec.ofNat 1 (fld n 27 1)))
  | 7 => legalIf (decide (fld n 6 7 < 16)) (.vfne (BitVec.ofNat 4 (fld n 6 7)) (BitVec.ofNat 7 (fld n 13 7)) (BitVec.ofNat 7 (fld n 20 7)) (BitVec.ofNat 1 (fld n 27 1)))
  | 8 => legalIf (decide (fld n 6 7 < 16)) (.vflt (BitVec.ofNat 4 (fld n 6 7)) (BitVec.ofNat 7 (fld n 13 7)) (BitVec.ofNat 7 (fld n 20 7)) (BitVec.ofNat 1 (fld n 27 1)))
  | 9 => legalIf (decide (fld n 6 7 < 16)) (.vfle (BitVec.ofNat 4 (fld n 6 7)) (BitVec.ofNat 7 (fld n 13 7)) (BitVec.ofNat 7 (fld n 20 7)) (BitVec.ofNat 1 (fld n 27 1)))
  | 10 => legalIf (decide (fld n 6 7 < 16)) (.vfunord (BitVec.ofNat 4 (fld n 6 7)) (BitVec.ofNat 7 (fld n 13 7)) (BitVec.ofNat 7 (fld n 20 7)) (BitVec.ofNat 1 (fld n 27 1)))
  | 11 => legalIf (decide (fld n 6 7 < 16)) (.vsltX (BitVec.ofNat 4 (fld n 6 7)) (BitVec.ofNat 7 (fld n 13 7)) (BitVec.ofNat 7 (fld n 20 7)) (BitVec.ofNat 1 (fld n 27 1)))
  | 12 => legalIf (decide (fld n 6 7 < 16)) (.vsgtX (BitVec.ofNat 4 (fld n 6 7)) (BitVec.ofNat 7 (fld n 13 7)) (BitVec.ofNat 7 (fld n 20 7)) (BitVec.ofNat 1 (fld n 27 1)))
  | 13 => legalIf (decide (fld n 6 7 < 16)) (.vfltX (BitVec.ofNat 4 (fld n 6 7)) (BitVec.ofNat 7 (fld n 13 7)) (BitVec.ofNat 7 (fld n 20 7)) (BitVec.ofNat 1 (fld n 27 1)))
  | 14 => legalIf (decide (fld n 6 7 < 16)) (.vfgtX (BitVec.ofNat 4 (fld n 6 7)) (BitVec.ofNat 7 (fld n 13 7)) (BitVec.ofNat 7 (fld n 20 7)) (BitVec.ofNat 1 (fld n 27 1)))
  | _ => legalIf (decide (fld n 6 7 < 16)) (.vseqX (BitVec.ofNat 4 (fld n 6 7)) (BitVec.ofNat 7 (fld n 13 7)) (BitVec.ofNat 7 (fld n 20 7)) (BitVec.ofNat 1 (fld n 27 1)))

/-- Major 0x2A (R147). -/
noncomputable def decodeMajor2A (n : Nat) : Except DecodeError Instr :=
  match fld n 28 4 with
  | 0 => legalIf (decide (fld n 6 7 < 16 ∧ fld n 13 7 < 16 ∧ fld n 20 7 < 16 ∧ fld n 27 1 = 0)) (.pand (BitVec.ofNat 4 (fld n 6 7)) (BitVec.ofNat 4 (fld n 13 7)) (BitVec.ofNat 4 (fld n 20 7)))
  | 1 => legalIf (decide (fld n 6 7 < 16 ∧ fld n 13 7 < 16 ∧ fld n 20 7 < 16 ∧ fld n 27 1 = 0)) (.por (BitVec.ofNat 4 (fld n 6 7)) (BitVec.ofNat 4 (fld n 13 7)) (BitVec.ofNat 4 (fld n 20 7)))
  | 2 => legalIf (decide (fld n 6 7 < 16 ∧ fld n 13 7 < 16 ∧ fld n 20 7 < 16 ∧ fld n 27 1 = 0)) (.pxor (BitVec.ofNat 4 (fld n 6 7)) (BitVec.ofNat 4 (fld n 13 7)) (BitVec.ofNat 4 (fld n 20 7)))
  | 3 => legalIf (decide (fld n 6 7 < 16 ∧ fld n 13 7 < 16 ∧ fld n 20 7 < 16 ∧ fld n 27 1 = 0)) (.pandn (BitVec.ofNat 4 (fld n 6 7)) (BitVec.ofNat 4 (fld n 13 7)) (BitVec.ofNat 4 (fld n 20 7)))
  | 4 => legalIf (decide (fld n 6 7 < 16 ∧ fld n 13 7 < 16 ∧ fld n 20 7 = 0 ∧ fld n 27 1 = 0)) (.pnot (BitVec.ofNat 4 (fld n 6 7)) (BitVec.ofNat 4 (fld n 13 7)))
  | 5 => legalIf (decide (fld n 6 7 < 16 ∧ fld n 13 7 = 0 ∧ fld n 20 7 = 0 ∧ fld n 27 1 = 0)) (.pset (BitVec.ofNat 4 (fld n 6 7)))
  | 6 => legalIf (decide (fld n 6 7 < 16 ∧ fld n 13 7 = 0 ∧ fld n 20 7 = 0 ∧ fld n 27 1 = 0)) (.pclr (BitVec.ofNat 4 (fld n 6 7)))
  | 7 => legalIf (decide (fld n 6 7 < 16 ∧ fld n 13 7 < 16 ∧ fld n 20 7 < 16 ∧ fld n 27 1 = 0)) (.pcut (BitVec.ofNat 4 (fld n 6 7)) (BitVec.ofNat 4 (fld n 13 7)) (BitVec.ofNat 4 (fld n 20 7)))
  | 8 => legalIf (decide (fld n 6 7 < 16 ∧ fld n 13 7 < 16 ∧ fld n 20 7 < 16 ∧ fld n 27 1 = 0)) (.pcuti (BitVec.ofNat 4 (fld n 6 7)) (BitVec.ofNat 4 (fld n 13 7)) (BitVec.ofNat 4 (fld n 20 7)))
  | 9 => legalIf (decide (fld n 13 7 < 16 ∧ fld n 20 7 = 0 ∧ fld n 27 1 = 0)) (.ppop (BitVec.ofNat 7 (fld n 6 7)) (BitVec.ofNat 4 (fld n 13 7)))
  | 10 => legalIf (decide (fld n 13 7 < 16 ∧ fld n 20 7 = 0 ∧ fld n 27 1 = 0)) (.pfirst (BitVec.ofNat 7 (fld n 6 7)) (BitVec.ofNat 4 (fld n 13 7)))
  | 11 => legalIf (decide (fld n 6 7 < 16 ∧ fld n 20 7 = 0 ∧ fld n 27 1 = 0)) (.pfromv (BitVec.ofNat 4 (fld n 6 7)) (BitVec.ofNat 7 (fld n 13 7)))
  | 12 => legalIf (decide (fld n 13 7 < 16 ∧ fld n 20 7 = 0 ∧ fld n 27 1 = 0)) (.ptov (BitVec.ofNat 7 (fld n 6 7)) (BitVec.ofNat 4 (fld n 13 7)))
  | _ => .error .unassignedFunction

/-- Major 0x2B (R147). -/
noncomputable def decodeMajor2B (n : Nat) : Except DecodeError Instr :=
  match fld n 28 4 with
  | 0 => legalIf (true) (.vslideup (BitVec.ofNat 7 (fld n 6 7)) (BitVec.ofNat 7 (fld n 13 7)) (BitVec.ofNat 7 (fld n 20 7)) (BitVec.ofNat 1 (fld n 27 1)))
  | 1 => legalIf (true) (.vslidedn (BitVec.ofNat 7 (fld n 6 7)) (BitVec.ofNat 7 (fld n 13 7)) (BitVec.ofNat 7 (fld n 20 7)) (BitVec.ofNat 1 (fld n 27 1)))
  | 2 => legalIf (true) (.vslide1up (BitVec.ofNat 7 (fld n 6 7)) (BitVec.ofNat 7 (fld n 13 7)) (BitVec.ofNat 7 (fld n 20 7)) (BitVec.ofNat 1 (fld n 27 1)))
  | 3 => legalIf (true) (.vslide1dn (BitVec.ofNat 7 (fld n 6 7)) (BitVec.ofNat 7 (fld n 13 7)) (BitVec.ofNat 7 (fld n 20 7)) (BitVec.ofNat 1 (fld n 27 1)))
  | 4 => legalIf (true) (.vpermi (BitVec.ofNat 7 (fld n 6 7)) (BitVec.ofNat 7 (fld n 13 7)) (BitVec.ofNat 7 (fld n 20 7)) (BitVec.ofNat 1 (fld n 27 1)))
  | 5 => legalIf (decide (fld n 20 7 < 16 ∧ fld n 27 1 = 0)) (.vcompress (BitVec.ofNat 7 (fld n 6 7)) (BitVec.ofNat 7 (fld n 13 7)) (BitVec.ofNat 4 (fld n 20 7)))
  | 6 => legalIf (decide (fld n 20 7 < 16 ∧ fld n 27 1 = 0)) (.vexpand (BitVec.ofNat 7 (fld n 6 7)) (BitVec.ofNat 7 (fld n 13 7)) (BitVec.ofNat 4 (fld n 20 7)))
  | 7 => legalIf (decide (fld n 27 1 = 0)) (.vmerge (BitVec.ofNat 7 (fld n 6 7)) (BitVec.ofNat 7 (fld n 13 7)) (BitVec.ofNat 7 (fld n 20 7)))
  | 8 => legalIf (decide (fld n 20 7 = 0)) (.vsplat (BitVec.ofNat 7 (fld n 6 7)) (BitVec.ofNat 7 (fld n 13 7)) (BitVec.ofNat 1 (fld n 27 1)))
  | 9 => legalIf (decide (fld n 27 1 = 0)) (.vmvxs (BitVec.ofNat 7 (fld n 6 7)) (BitVec.ofNat 7 (fld n 13 7)) (BitVec.ofNat 7 (fld n 20 7)))
  | 10 => legalIf (decide (fld n 27 1 = 0)) (.vrowbc (BitVec.ofNat 7 (fld n 6 7)) (BitVec.ofNat 7 (fld n 13 7)) (BitVec.ofNat 7 (fld n 20 7)))
  | 11 => legalIf (decide (fld n 20 7 = 0 ∧ fld n 27 1 = 0)) (.vtrans (BitVec.ofNat 7 (fld n 6 7)) (BitVec.ofNat 7 (fld n 13 7)))
  | _ => .error .unassignedFunction

/-- Major 0x2C (R147). -/
noncomputable def decodeMajor2C (n : Nat) : Except DecodeError Instr :=
  match fld n 28 4 with
  | 0 => legalIf (true) (.vredo (BitVec.ofNat 7 (fld n 6 7)) (BitVec.ofNat 7 (fld n 13 7)) (BitVec.ofNat 7 (fld n 20 7)) (BitVec.ofNat 1 (fld n 27 1)))
  | 1 => legalIf (true) (.vredt (BitVec.ofNat 7 (fld n 6 7)) (BitVec.ofNat 7 (fld n 13 7)) (BitVec.ofNat 7 (fld n 20 7)) (BitVec.ofNat 1 (fld n 27 1)))
  | 2 => legalIf (true) (.vredu (BitVec.ofNat 7 (fld n 6 7)) (BitVec.ofNat 7 (fld n 13 7)) (BitVec.ofNat 7 (fld n 20 7)) (BitVec.ofNat 1 (fld n 27 1)))
  | 3 => legalIf (true) (.vfredmin (BitVec.ofNat 7 (fld n 6 7)) (BitVec.ofNat 7 (fld n 13 7)) (BitVec.ofNat 7 (fld n 20 7)) (BitVec.ofNat 1 (fld n 27 1)))
  | 4 => legalIf (true) (.vfredmax (BitVec.ofNat 7 (fld n 6 7)) (BitVec.ofNat 7 (fld n 13 7)) (BitVec.ofNat 7 (fld n 20 7)) (BitVec.ofNat 1 (fld n 27 1)))
  | 5 => legalIf (true) (.vredsum (BitVec.ofNat 7 (fld n 6 7)) (BitVec.ofNat 7 (fld n 13 7)) (BitVec.ofNat 7 (fld n 20 7)) (BitVec.ofNat 1 (fld n 27 1)))
  | 6 => legalIf (true) (.vredmin (BitVec.ofNat 7 (fld n 6 7)) (BitVec.ofNat 7 (fld n 13 7)) (BitVec.ofNat 7 (fld n 20 7)) (BitVec.ofNat 1 (fld n 27 1)))
  | 7 => legalIf (true) (.vredmax (BitVec.ofNat 7 (fld n 6 7)) (BitVec.ofNat 7 (fld n 13 7)) (BitVec.ofNat 7 (fld n 20 7)) (BitVec.ofNat 1 (fld n 27 1)))
  | 8 => legalIf (true) (.vscano (BitVec.ofNat 7 (fld n 6 7)) (BitVec.ofNat 7 (fld n 13 7)) (BitVec.ofNat 7 (fld n 20 7)) (BitVec.ofNat 1 (fld n 27 1)))
  | 9 => legalIf (true) (.vscant (BitVec.ofNat 7 (fld n 6 7)) (BitVec.ofNat 7 (fld n 13 7)) (BitVec.ofNat 7 (fld n 20 7)) (BitVec.ofNat 1 (fld n 27 1)))
  | 10 => legalIf (true) (.vscanu (BitVec.ofNat 7 (fld n 6 7)) (BitVec.ofNat 7 (fld n 13 7)) (BitVec.ofNat 7 (fld n 20 7)) (BitVec.ofNat 1 (fld n 27 1)))
  | 11 => legalIf (true) (.viscan (BitVec.ofNat 7 (fld n 6 7)) (BitVec.ofNat 7 (fld n 13 7)) (BitVec.ofNat 7 (fld n 20 7)) (BitVec.ofNat 1 (fld n 27 1)))
  | 12 => legalIf (true) (.vredand (BitVec.ofNat 7 (fld n 6 7)) (BitVec.ofNat 7 (fld n 13 7)) (BitVec.ofNat 7 (fld n 20 7)) (BitVec.ofNat 1 (fld n 27 1)))
  | 13 => legalIf (true) (.vredor (BitVec.ofNat 7 (fld n 6 7)) (BitVec.ofNat 7 (fld n 13 7)) (BitVec.ofNat 7 (fld n 20 7)) (BitVec.ofNat 1 (fld n 27 1)))
  | 14 => legalIf (true) (.vredrow (BitVec.ofNat 7 (fld n 6 7)) (BitVec.ofNat 7 (fld n 13 7)) (BitVec.ofNat 7 (fld n 20 7)) (BitVec.ofNat 1 (fld n 27 1)))
  | _ => .error .unassignedFunction

/-- Major 0x2D (R147). -/
noncomputable def decodeMajor2D (n : Nat) : Except DecodeError Instr :=
  match fld n 28 4 with
  | 0 => legalIf (true) (.vcvtf (BitVec.ofNat 7 (fld n 6 7)) (BitVec.ofNat 7 (fld n 13 7)) (BitVec.ofNat 7 (fld n 20 7)) (BitVec.ofNat 1 (fld n 27 1)))
  | 1 => legalIf (true) (.vcvtfi (BitVec.ofNat 7 (fld n 6 7)) (BitVec.ofNat 7 (fld n 13 7)) (BitVec.ofNat 7 (fld n 20 7)) (BitVec.ofNat 1 (fld n 27 1)))
  | 2 => legalIf (true) (.vcvtif (BitVec.ofNat 7 (fld n 6 7)) (BitVec.ofNat 7 (fld n 13 7)) (BitVec.ofNat 7 (fld n 20 7)) (BitVec.ofNat 1 (fld n 27 1)))
  | 3 => legalIf (true) (.vqnt (BitVec.ofNat 7 (fld n 6 7)) (BitVec.ofNat 7 (fld n 13 7)) (BitVec.ofNat 7 (fld n 20 7)) (BitVec.ofNat 1 (fld n 27 1)))
  | 4 => legalIf (true) (.vdqnt (BitVec.ofNat 7 (fld n 6 7)) (BitVec.ofNat 7 (fld n 13 7)) (BitVec.ofNat 7 (fld n 20 7)) (BitVec.ofNat 1 (fld n 27 1)))
  | 5 => legalIf (decide (fld n 6 7 < 8)) (.vbscale (BitVec.ofNat 3 (fld n 6 7)) (BitVec.ofNat 7 (fld n 13 7)) (BitVec.ofNat 7 (fld n 20 7)) (BitVec.ofNat 1 (fld n 27 1)))
  | 6 => legalIf (true) (.vcvti (BitVec.ofNat 7 (fld n 6 7)) (BitVec.ofNat 7 (fld n 13 7)) (BitVec.ofNat 7 (fld n 20 7)) (BitVec.ofNat 1 (fld n 27 1)))
  | _ => .error .unassignedFunction

/-- Major 0x2E (R147). -/
noncomputable def decodeMajor2E (n : Nat) : Except DecodeError Instr :=
  legalIf (true) (.vindex (BitVec.ofNat 7 (fld n 6 7)) (BitVec.ofNat 1 (fld n 13 1)) (BitVec.ofNat 9 (fld n 14 9)) (BitVec.ofNat 9 (fld n 23 9)))

/-- Major 0x2F (R147). -/
noncomputable def decodeMajor2F (n : Nat) : Except DecodeError Instr :=
  match fld n 28 4 with
  | 0 => legalIf (decide (fld n 20 7 < 64 ∧ fld n 20 7 % 8 = 0)) (.vld (BitVec.ofNat 7 (fld n 6 7)) (BitVec.ofNat 7 (fld n 13 7)) (BitVec.ofNat 3 (fld n 20 7 / 8)) (BitVec.ofNat 1 (fld n 27 1)))
  | 1 => legalIf (true) (.vlds (BitVec.ofNat 7 (fld n 6 7)) (BitVec.ofNat 7 (fld n 13 7)) (BitVec.ofNat 7 (fld n 20 7)) (BitVec.ofNat 1 (fld n 27 1)))
  | 2 => legalIf (decide (fld n 20 7 < 64 ∧ fld n 20 7 % 8 = 0)) (.vldff (BitVec.ofNat 7 (fld n 6 7)) (BitVec.ofNat 7 (fld n 13 7)) (BitVec.ofNat 3 (fld n 20 7 / 8)) (BitVec.ofNat 1 (fld n 27 1)))
  | 3 => legalIf (decide (fld n 20 7 < 64)) (.vldseg (BitVec.ofNat 7 (fld n 6 7)) (BitVec.ofNat 7 (fld n 13 7)) (BitVec.ofNat 3 (fld n 20 7)) (BitVec.ofNat 3 (fld n 20 7 / 8)) (BitVec.ofNat 1 (fld n 27 1)))
  | 4 => legalIf (true) (.vldx (BitVec.ofNat 7 (fld n 6 7)) (BitVec.ofNat 7 (fld n 13 7)) (BitVec.ofNat 7 (fld n 20 7)) (BitVec.ofNat 1 (fld n 27 1)))
  | 5 => legalIf (true) (.vldrow (BitVec.ofNat 7 (fld n 6 7)) (BitVec.ofNat 7 (fld n 13 7)) (BitVec.ofNat 7 (fld n 20 7)) (BitVec.ofNat 1 (fld n 27 1)))
  | 6 => legalIf (decide (fld n 20 7 < 64 ∧ fld n 20 7 % 8 = 0)) (.vldbc (BitVec.ofNat 7 (fld n 6 7)) (BitVec.ofNat 7 (fld n 13 7)) (BitVec.ofNat 3 (fld n 20 7 / 8)) (BitVec.ofNat 1 (fld n 27 1)))
  | _ => .error .unassignedFunction

/-- Major 0x30 (R147). -/
noncomputable def decodeMajor30 (n : Nat) : Except DecodeError Instr :=
  match fld n 28 4 with
  | 0 => legalIf (decide (fld n 20 7 < 64 ∧ fld n 20 7 % 8 = 0)) (.vst (BitVec.ofNat 7 (fld n 6 7)) (BitVec.ofNat 7 (fld n 13 7)) (BitVec.ofNat 3 (fld n 20 7 / 8)) (BitVec.ofNat 1 (fld n 27 1)))
  | 1 => legalIf (true) (.vsts (BitVec.ofNat 7 (fld n 6 7)) (BitVec.ofNat 7 (fld n 13 7)) (BitVec.ofNat 7 (fld n 20 7)) (BitVec.ofNat 1 (fld n 27 1)))
  | 2 => legalIf (decide (fld n 20 7 < 64)) (.vstseg (BitVec.ofNat 7 (fld n 6 7)) (BitVec.ofNat 7 (fld n 13 7)) (BitVec.ofNat 3 (fld n 20 7)) (BitVec.ofNat 3 (fld n 20 7 / 8)) (BitVec.ofNat 1 (fld n 27 1)))
  | 3 => legalIf (true) (.vstx (BitVec.ofNat 7 (fld n 6 7)) (BitVec.ofNat 7 (fld n 13 7)) (BitVec.ofNat 7 (fld n 20 7)) (BitVec.ofNat 1 (fld n 27 1)))
  | 4 => legalIf (true) (.vstrow (BitVec.ofNat 7 (fld n 6 7)) (BitVec.ofNat 7 (fld n 13 7)) (BitVec.ofNat 7 (fld n 20 7)) (BitVec.ofNat 1 (fld n 27 1)))
  | 5 => legalIf (true) (.vstxaddo (BitVec.ofNat 7 (fld n 6 7)) (BitVec.ofNat 7 (fld n 13 7)) (BitVec.ofNat 7 (fld n 20 7)) (BitVec.ofNat 1 (fld n 27 1)))
  | 6 => legalIf (true) (.vstxadd (BitVec.ofNat 7 (fld n 6 7)) (BitVec.ofNat 7 (fld n 13 7)) (BitVec.ofNat 7 (fld n 20 7)) (BitVec.ofNat 1 (fld n 27 1)))
  | _ => .error .unassignedFunction

/-- Major 0x31 (R147). -/
noncomputable def decodeMajor31 (n : Nat) : Except DecodeError Instr :=
  match fld n 28 4 with
  | 0 => legalIf (decide (fld n 20 7 < 64 ∧ fld n 20 7 % 8 = 0)) (.vldsh (BitVec.ofNat 7 (fld n 6 7)) (BitVec.ofNat 7 (fld n 13 7)) (BitVec.ofNat 3 (fld n 20 7 / 8)) (BitVec.ofNat 1 (fld n 27 1)))
  | 1 => legalIf (true) (.vldshs (BitVec.ofNat 7 (fld n 6 7)) (BitVec.ofNat 7 (fld n 13 7)) (BitVec.ofNat 7 (fld n 20 7)) (BitVec.ofNat 1 (fld n 27 1)))
  | 2 => legalIf (true) (.vldshrow (BitVec.ofNat 7 (fld n 6 7)) (BitVec.ofNat 7 (fld n 13 7)) (BitVec.ofNat 7 (fld n 20 7)) (BitVec.ofNat 1 (fld n 27 1)))
  | 3 => legalIf (decide (fld n 20 7 < 64 ∧ fld n 20 7 % 8 = 0)) (.vstsh (BitVec.ofNat 7 (fld n 6 7)) (BitVec.ofNat 7 (fld n 13 7)) (BitVec.ofNat 3 (fld n 20 7 / 8)) (BitVec.ofNat 1 (fld n 27 1)))
  | 4 => legalIf (true) (.vstshs (BitVec.ofNat 7 (fld n 6 7)) (BitVec.ofNat 7 (fld n 13 7)) (BitVec.ofNat 7 (fld n 20 7)) (BitVec.ofNat 1 (fld n 27 1)))
  | 5 => legalIf (true) (.vstshrow (BitVec.ofNat 7 (fld n 6 7)) (BitVec.ofNat 7 (fld n 13 7)) (BitVec.ofNat 7 (fld n 20 7)) (BitVec.ofNat 1 (fld n 27 1)))
  | 6 => legalIf (true) (.vldshx (BitVec.ofNat 7 (fld n 6 7)) (BitVec.ofNat 7 (fld n 13 7)) (BitVec.ofNat 7 (fld n 20 7)) (BitVec.ofNat 1 (fld n 27 1)))
  | 7 => legalIf (true) (.vstshx (BitVec.ofNat 7 (fld n 6 7)) (BitVec.ofNat 7 (fld n 13 7)) (BitVec.ofNat 7 (fld n 20 7)) (BitVec.ofNat 1 (fld n 27 1)))
  | 8 => legalIf (true) (.vstshxaddo (BitVec.ofNat 7 (fld n 6 7)) (BitVec.ofNat 7 (fld n 13 7)) (BitVec.ofNat 7 (fld n 20 7)) (BitVec.ofNat 1 (fld n 27 1)))
  | 9 => legalIf (true) (.vstshxadd (BitVec.ofNat 7 (fld n 6 7)) (BitVec.ofNat 7 (fld n 13 7)) (BitVec.ofNat 7 (fld n 20 7)) (BitVec.ofNat 1 (fld n 27 1)))
  | _ => .error .unassignedFunction

/-- Major 0x32 (R147). -/
noncomputable def decodeMajor32 (n : Nat) : Except DecodeError Instr :=
  match fld n 28 4 with
  | 0 => legalIf (decide (fld n 6 7 < 16 ∧ fld n 20 7 = 0)) (.vgwin (BitVec.ofNat 4 (fld n 6 7)) (BitVec.ofNat 7 (fld n 13 7)) (BitVec.ofNat 1 (fld n 27 1)))
  | 1 => legalIf (decide (fld n 20 7 = 0)) (.vgwset (BitVec.ofNat 7 (fld n 6 7)) (BitVec.ofNat 7 (fld n 13 7)) (BitVec.ofNat 1 (fld n 27 1)))
  | 2 => legalIf (decide (fld n 6 7 < 16 ∧ fld n 20 7 = 0)) (.vconf (BitVec.ofNat 4 (fld n 6 7)) (BitVec.ofNat 7 (fld n 13 7)) (BitVec.ofNat 1 (fld n 27 1)))
  | 3 => legalIf (true) (.vcomb (BitVec.ofNat 7 (fld n 6 7)) (BitVec.ofNat 7 (fld n 13 7)) (BitVec.ofNat 7 (fld n 20 7)) (BitVec.ofNat 1 (fld n 27 1)))
  | 4 => legalIf (decide (fld n 20 7 = 0)) (.vconfm (BitVec.ofNat 7 (fld n 6 7)) (BitVec.ofNat 7 (fld n 13 7)) (BitVec.ofNat 1 (fld n 27 1)))
  | 5 => legalIf (true) (.vpacknz (BitVec.ofNat 7 (fld n 6 7)) (BitVec.ofNat 7 (fld n 13 7)) (BitVec.ofNat 7 (fld n 20 7)) (BitVec.ofNat 1 (fld n 27 1)))
  | _ => .error .unassignedFunction

/-- Major 0x33 (R147). -/
noncomputable def decodeMajor33 (n : Nat) : Except DecodeError Instr :=
  match fld n 27 3 with
  | 0 => legalIf (decide (fld n 10 3 = 0)) (.mmac (BitVec.ofNat 4 (fld n 6 4)) (BitVec.ofNat 7 (fld n 13 7)) (BitVec.ofNat 7 (fld n 20 7)) (BitVec.ofNat 2 (fld n 30 2)))
  | 1 => legalIf (decide (fld n 10 3 = 0)) (.mmacn (BitVec.ofNat 4 (fld n 6 4)) (BitVec.ofNat 7 (fld n 13 7)) (BitVec.ofNat 7 (fld n 20 7)) (BitVec.ofNat 2 (fld n 30 2)))
  | 2 => legalIf (decide (fld n 10 3 = 0)) (.mmaco (BitVec.ofNat 4 (fld n 6 4)) (BitVec.ofNat 7 (fld n 13 7)) (BitVec.ofNat 7 (fld n 20 7)) (BitVec.ofNat 2 (fld n 30 2)))
  | 3 => legalIf (decide (fld n 10 3 = 0)) (.mmacs (BitVec.ofNat 4 (fld n 6 4)) (BitVec.ofNat 7 (fld n 13 7)) (BitVec.ofNat 7 (fld n 20 7)) (BitVec.ofNat 2 (fld n 30 2)))
  | _ => .error .unassignedFunction

/-- Major 0x34 (R147). -/
noncomputable def decodeMajor34 (n : Nat) : Except DecodeError Instr :=
  match fld n 27 5 with
  | 0 => legalIf (decide (fld n 6 7 < 16 ∧ fld n 20 7 = 0)) (.mzcfg (BitVec.ofNat 4 (fld n 6 7)) (BitVec.ofNat 7 (fld n 13 7)))
  | 1 => legalIf (decide (fld n 6 7 < 16 ∧ fld n 13 7 = 0 ∧ fld n 20 7 = 0)) (.mzero (BitVec.ofNat 4 (fld n 6 7)))
  | 2 => legalIf (decide (fld n 6 7 < 16)) (.mzld (BitVec.ofNat 4 (fld n 6 7)) (BitVec.ofNat 7 (fld n 13 7)) (BitVec.ofNat 7 (fld n 20 7)))
  | 3 => legalIf (decide (fld n 6 7 < 16)) (.mzst (BitVec.ofNat 4 (fld n 6 7)) (BitVec.ofNat 7 (fld n 13 7)) (BitVec.ofNat 7 (fld n 20 7)))
  | 4 => legalIf (decide (fld n 13 7 < 16)) (.mzrv (BitVec.ofNat 7 (fld n 6 7)) (BitVec.ofNat 4 (fld n 13 7)) (BitVec.ofNat 7 (fld n 20 7)))
  | 5 => legalIf (decide (fld n 6 7 < 16)) (.mzwv (BitVec.ofNat 4 (fld n 6 7)) (BitVec.ofNat 7 (fld n 13 7)) (BitVec.ofNat 7 (fld n 20 7)))
  | 6 => legalIf (decide (fld n 6 7 < 16 ∧ fld n 20 7 = 0)) (.manch (BitVec.ofNat 4 (fld n 6 7)) (BitVec.ofNat 7 (fld n 13 7)))
  | 7 => legalIf (decide (fld n 6 7 < 16 ∧ fld n 13 7 < 8 ∧ fld n 20 7 = 0)) (.mscan (BitVec.ofNat 4 (fld n 6 7)) (BitVec.ofNat 3 (fld n 13 7)))
  | 8 => legalIf (decide (fld n 6 7 < 8 ∧ fld n 20 7 = 0)) (.mcarry (BitVec.ofNat 3 (fld n 6 7)) (BitVec.ofNat 7 (fld n 13 7)))
  | 9 => legalIf (decide (fld n 6 7 < 8 ∧ fld n 20 7 = 0)) (.mcarryst (BitVec.ofNat 3 (fld n 6 7)) (BitVec.ofNat 7 (fld n 13 7)))
  | 10 => legalIf (decide (fld n 6 7 = 0 ∧ fld n 13 7 = 0 ∧ fld n 20 7 = 0)) (.mcommit)
  | 11 => legalIf (decide (fld n 6 7 = 0 ∧ fld n 20 7 = 0)) (.mwait (BitVec.ofNat 7 (fld n 13 7)))
  | 12 => legalIf (decide (fld n 6 7 < 16 ∧ fld n 20 7 = 0)) (.mgain (BitVec.ofNat 4 (fld n 6 7)) (BitVec.ofNat 7 (fld n 13 7)))
  | 13 => legalIf (decide (fld n 13 7 < 16 ∧ fld n 20 7 = 0)) (.mstat (BitVec.ofNat 7 (fld n 6 7)) (BitVec.ofNat 4 (fld n 13 7)))
  | _ => .error .unassignedFunction

/-- Major 0x35 (R147). -/
noncomputable def decodeMajor35 (n : Nat) : Except DecodeError Instr :=
  match fld n 27 5 with
  | 0 => legalIf (decide (fld n 6 7 < 16 ∧ fld n 20 7 = 0)) (.tdset (BitVec.ofNat 4 (fld n 6 7)) (BitVec.ofNat 7 (fld n 13 7)))
  | 1 => legalIf (decide (fld n 6 7 < 16 ∧ fld n 20 7 = 0)) (.tdget (BitVec.ofNat 4 (fld n 6 7)) (BitVec.ofNat 7 (fld n 13 7)))
  | 2 => legalIf (decide (fld n 6 7 < 8 ∧ fld n 13 7 < 16 ∧ fld n 20 7 = 0)) (.scld (BitVec.ofNat 3 (fld n 6 7)) (BitVec.ofNat 4 (fld n 13 7)))
  | 3 => legalIf (decide (fld n 6 7 < 8 ∧ fld n 13 7 < 16 ∧ fld n 20 7 = 0)) (.scst (BitVec.ofNat 3 (fld n 6 7)) (BitVec.ofNat 4 (fld n 13 7)))
  | 4 => legalIf (decide (fld n 6 7 < 16 ∧ fld n 13 7 = 0 ∧ fld n 20 7 = 0)) (.tdinv (BitVec.ofNat 4 (fld n 6 7)))
  | _ => .error .unassignedFunction

/-- Major 0x36 (R147). -/
noncomputable def decodeMajor36 (n : Nat) : Except DecodeError Instr :=
  match fld n 27 5 with
  | 0 => legalIf (decide (fld n 6 7 = 0 ∧ fld n 20 7 = 0)) (.cpy (BitVec.ofNat 7 (fld n 13 7)))
  | 1 => legalIf (decide (fld n 6 7 < 16 ∧ fld n 20 7 = 0)) (.cpyb (BitVec.ofNat 4 (fld n 6 7)) (BitVec.ofNat 7 (fld n 13 7)))
  | 2 => legalIf (decide (fld n 6 7 = 0 ∧ fld n 20 7 = 0)) (.cpyseg (BitVec.ofNat 7 (fld n 13 7)))
  | 3 => legalIf (decide (fld n 6 7 = 0 ∧ fld n 20 7 = 0)) (.cpyw (BitVec.ofNat 7 (fld n 13 7)))
  | 4 => legalIf (decide (fld n 13 7 = 0 ∧ fld n 20 7 = 0)) (.cpyq (BitVec.ofNat 7 (fld n 6 7)))
  | _ => .error .unassignedFunction

/-- Major 0x37 (R147). -/
noncomputable def decodeMajor37 (n : Nat) : Except DecodeError Instr :=
  match fld n 20 3 with
  | 0 => legalIf (true) (.lmark (BitVec.ofNat 7 (fld n 6 7)) (BitVec.ofNat 7 (fld n 13 7)) (BitVec.ofNat 9 (fld n 23 9)))
  | 1 => legalIf (true) (.lmarkSweep (BitVec.ofNat 7 (fld n 6 7)) (BitVec.ofNat 7 (fld n 13 7)) (BitVec.ofNat 9 (fld n 23 9)))
  | _ => .error .unassignedFunction

/-- Major 0x38 (R147). -/
noncomputable def decodeMajor38 (n : Nat) : Except DecodeError Instr :=
  match fld n 27 5 with
  | 0 => legalIf (decide (fld n 6 7 = 0 ∧ fld n 13 7 = 0 ∧ fld n 20 7 = 0)) (.lend)
  | 1 => legalIf (decide (fld n 6 7 = 0 ∧ fld n 20 7 = 0)) (.loff (BitVec.ofNat 7 (fld n 13 7)))
  | 2 => legalIf (decide (fld n 6 7 = 0)) (.rsnew (BitVec.ofNat 7 (fld n 13 7)) (BitVec.ofNat 7 (fld n 20 7)))
  | 3 => legalIf (decide (fld n 20 7 = 0)) (.rsq (BitVec.ofNat 7 (fld n 6 7)) (BitVec.ofNat 7 (fld n 13 7)))
  | 4 => legalIf (decide (fld n 6 7 = 0)) (.rspol (BitVec.ofNat 7 (fld n 13 7)) (BitVec.ofNat 7 (fld n 20 7)))
  | _ => .error .unassignedFunction

/-- Major 0x39 (R147). -/
noncomputable def decodeMajor39 (n : Nat) : Except DecodeError Instr :=
  match fld n 27 5 with
  | 0 => legalIf (decide (fld n 6 7 = 0 ∧ fld n 20 7 = 0)) (.tmark (BitVec.ofNat 7 (fld n 13 7)))
  | 1 => legalIf (decide (fld n 6 7 = 0 ∧ fld n 20 7 = 0)) (.progpt (BitVec.ofNat 7 (fld n 13 7)))
  | _ => .error .unassignedFunction

/-- The instruction a word holds, given as the number its 32 bits make (R147, R148). -/
noncomputable def decodeNat (n : Nat) : Except DecodeError Instr :=
  match fld n 0 6 with
  | 1 => decodeMajor01 n
  | 2 => decodeMajor02 n
  | 3 => decodeMajor03 n
  | 4 => decodeMajor04 n
  | 5 => decodeMajor05 n
  | 6 => decodeMajor06 n
  | 7 => decodeMajor07 n
  | 8 => decodeMajor08 n
  | 9 => decodeMajor09 n
  | 10 => decodeMajor0A n
  | 11 => decodeMajor0B n
  | 12 => decodeMajor0C n
  | 13 => decodeMajor0D n
  | 14 => decodeMajor0E n
  | 15 => decodeMajor0F n
  | 16 => decodeMajor10 n
  | 17 => decodeMajor11 n
  | 18 => decodeMajor12 n
  | 19 => decodeMajor13 n
  | 20 => decodeMajor14 n
  | 21 => decodeMajor14 n
  | 22 => decodeMajor14 n
  | 23 => decodeMajor14 n
  | 24 => decodeMajor18 n
  | 25 => decodeMajor18 n
  | 26 => decodeMajor18 n
  | 27 => decodeMajor18 n
  | 28 => decodeMajor1C n
  | 29 => decodeMajor1D n
  | 30 => decodeMajor1E n
  | 31 => decodeMajor1F n
  | 32 => decodeMajor20 n
  | 33 => decodeMajor21 n
  | 34 => decodeMajor22 n
  | 35 => decodeMajor23 n
  | 36 => decodeMajor24 n
  | 37 => decodeMajor25 n
  | 38 => decodeMajor26 n
  | 39 => decodeMajor27 n
  | 40 => decodeMajor28 n
  | 41 => decodeMajor29 n
  | 42 => decodeMajor2A n
  | 43 => decodeMajor2B n
  | 44 => decodeMajor2C n
  | 45 => decodeMajor2D n
  | 46 => decodeMajor2E n
  | 47 => decodeMajor2F n
  | 48 => decodeMajor30 n
  | 49 => decodeMajor31 n
  | 50 => decodeMajor32 n
  | 51 => decodeMajor33 n
  | 52 => decodeMajor34 n
  | 53 => decodeMajor35 n
  | 54 => decodeMajor36 n
  | 55 => decodeMajor37 n
  | 56 => decodeMajor38 n
  | 57 => decodeMajor39 n
  | _ => .error .unassignedMajor

/-- The instruction a word holds. [DESIGN CHOICE, log 16] -/
noncomputable def decodeWord (w : BitVec 32) : Except DecodeError Instr := decodeNat w.toNat

/-- The word that four bytes make, the byte at the lowest address holding bits 7..0 (R3). -/
def wordOfBytes (b0 b1 b2 b3 : Byte) : BitVec 32 := b3 ++ b2 ++ b1 ++ b0

/-- The bytes of a word, lowest address first (R3). -/
def bytesOfWord (w : BitVec 32) : List Byte :=
  [w.extractLsb' 0 8, w.extractLsb' 8 8, w.extractLsb' 16 8, w.extractLsb' 24 8]

/-- The decoder over bytes: total, one instruction and the bytes after it, or a named refusal. -/
noncomputable def decode : List Byte → Except DecodeError (Instr × List Byte)
  | b0 :: b1 :: b2 :: b3 :: rest =>
    match decodeWord (wordOfBytes b0 b1 b2 b3) with
    | .ok i => .ok (i, rest)
    | .error e => .error e
  | _ => .error .truncated

/-- What the decoder reads from the opcode table's numbering of an instruction's bits: every instruction is one 32-bit
word, so the bits above `nbits` are those of the word that are zero. A row without an encoding has no word. -/
noncomputable def decodeTableWord (nbits w : Nat) : Option Instr :=
  if nbits = 32 then
    match decode (bytesOfWord (BitVec.ofNat 32 w)) with
    | .ok (i, _) => some i
    | .error _ => none
  else none

/-- Format F3 (R142): the word with these slot values. -/
def packF3 (maj d a b fn : Nat) : Nat :=
  maj + d * 2 ^ 6 + a * 2 ^ 13 + b * 2 ^ 20 + fn * 2 ^ 27

/-- Format F3V (R142): the word with these slot values. -/
def packF3V (maj d a b m fn : Nat) : Nat :=
  maj + d * 2 ^ 6 + a * 2 ^ 13 + b * 2 ^ 20 + m * 2 ^ 27 + fn * 2 ^ 28

/-- Format FI2 (R142): the word with these slot values. -/
def packFI2 (maj d a fn i : Nat) : Nat :=
  maj + d * 2 ^ 6 + a * 2 ^ 13 + fn * 2 ^ 20 + i * 2 ^ 22

/-- Format FC (R142): the word with these slot values. -/
def packFC (maj d fn a c : Nat) : Nat :=
  maj + d * 2 ^ 6 + fn * 2 ^ 11 + a * 2 ^ 13 + c * 2 ^ 20

/-- Format FU (R142): the word with these slot values. -/
def packFU (maj d i : Nat) : Nat :=
  maj + d * 2 ^ 6 + i * 2 ^ 13

/-- Format FBZ (R142): the word with these slot values. -/
def packFBZ (maj a fn o : Nat) : Nat :=
  maj + a * 2 ^ 6 + fn * 2 ^ 13 + o * 2 ^ 16

/-- Format FB2 (R142): the word with these slot values. -/
def packFB2 (maj a b fn o : Nat) : Nat :=
  maj + a * 2 ^ 6 + b * 2 ^ 13 + fn * 2 ^ 20 + o * 2 ^ 23

/-- Format FJ (R142): the word with these slot values. -/
def packFJ (maj o : Nat) : Nat :=
  maj + o * 2 ^ 6

/-- Format FX (R142): the word with these slot values. -/
def packFX (maj d m s p : Nat) : Nat :=
  maj + d * 2 ^ 6 + m * 2 ^ 13 + s * 2 ^ 14 + p * 2 ^ 23

/-- Format FV (R142): the word with these slot values. -/
def packFV (maj d a i : Nat) : Nat :=
  maj + d * 2 ^ 6 + a * 2 ^ 13 + i * 2 ^ 20

/-- Format FM (R142): the word with these slot values. -/
def packFM (maj z y a b fn s : Nat) : Nat :=
  maj + z * 2 ^ 6 + y * 2 ^ 10 + a * 2 ^ 13 + b * 2 ^ 20 + fn * 2 ^ 27 + s * 2 ^ 30

/-- Format FA (R142): the word with these slot values. -/
def packFA (maj d a b z fn : Nat) : Nat :=
  maj + d * 2 ^ 6 + a * 2 ^ 13 + b * 2 ^ 20 + z * 2 ^ 27 + fn * 2 ^ 28

/-- The word of an instruction, as a number; 0 for a row that has no encoding. -/
def encodeNat : Instr → Nat
  | .add d a b => packF3 1 d.toNat a.toNat b.toNat 0
  | .sub d a b => packF3 1 d.toNat a.toNat b.toNat 1
  | .and d a b => packF3 1 d.toNat a.toNat b.toNat 2
  | .or d a b => packF3 1 d.toNat a.toNat b.toNat 3
  | .xor d a b => packF3 1 d.toNat a.toNat b.toNat 4
  | .andn d a b => packF3 1 d.toNat a.toNat b.toNat 5
  | .sll d a b => packF3 1 d.toNat a.toNat b.toNat 6
  | .srl d a b => packF3 1 d.toNat a.toNat b.toNat 7
  | .sra d a b => packF3 1 d.toNat a.toNat b.toNat 8
  | .slt d a b => packF3 1 d.toNat a.toNat b.toNat 9
  | .sltn d a b => packF3 1 d.toNat a.toNat b.toNat 10
  | .min d a b => packF3 1 d.toNat a.toNat b.toNat 11
  | .max d a b => packF3 1 d.toNat a.toNat b.toNat 12
  | .minn d a b => packF3 1 d.toNat a.toNat b.toNat 13
  | .maxn d a b => packF3 1 d.toNat a.toNat b.toNat 14
  | .mul d a b => packF3 1 d.toNat a.toNat b.toNat 15
  | .mulh d a b => packF3 1 d.toNat a.toNat b.toNat 16
  | .mulhn d a b => packF3 1 d.toNat a.toNat b.toNat 17
  | .div d a b => packF3 1 d.toNat a.toNat b.toNat 18
  | .divn d a b => packF3 1 d.toNat a.toNat b.toNat 19
  | .rem d a b => packF3 1 d.toNat a.toNat b.toNat 20
  | .remn d a b => packF3 1 d.toNat a.toNat b.toNat 21
  | .clz d a => packF3 1 d.toNat a.toNat 0 22
  | .ctz d a => packF3 1 d.toNat a.toNat 0 23
  | .popc d a => packF3 1 d.toNat a.toNat 0 24
  | .addw d a b => packF3 1 d.toNat a.toNat b.toNat 25
  | .subw d a b => packF3 1 d.toNat a.toNat b.toNat 26
  | .sllw d a b => packF3 1 d.toNat a.toNat b.toNat 27
  | .srlw d a b => packF3 1 d.toNat a.toNat b.toNat 28
  | .sraw d a b => packF3 1 d.toNat a.toNat b.toNat 29
  | .addi d a i => packFI2 2 d.toNat a.toNat 0 i.toNat
  | .andi d a i => packFI2 2 d.toNat a.toNat 1 i.toNat
  | .ori d a i => packFI2 2 d.toNat a.toNat 2 i.toNat
  | .xori d a i => packFI2 2 d.toNat a.toNat 3 i.toNat
  | .slli d a i => packFI2 3 d.toNat a.toNat 0 i.toNat
  | .srli d a i => packFI2 3 d.toNat a.toNat 1 i.toNat
  | .srai d a i => packFI2 3 d.toNat a.toNat 2 i.toNat
  | .slti d a i => packFI2 3 d.toNat a.toNat 3 i.toNat
  | .lui d i => packFU 4 d.toNat i.toNat
  | .addpc d i => packFU 5 d.toNat i.toNat
  | .faddS d a b => packF3 6 d.toNat a.toNat b.toNat 0
  | .fsubS d a b => packF3 6 d.toNat a.toNat b.toNat 1
  | .fmulS d a b => packF3 6 d.toNat a.toNat b.toNat 2
  | .fdivS d a b => packF3 6 d.toNat a.toNat b.toNat 3
  | .fsqrtS d a => packF3 6 d.toNat a.toNat 0 4
  | .fminS d a b => packF3 6 d.toNat a.toNat b.toNat 5
  | .fmaxS d a b => packF3 6 d.toNat a.toNat b.toNat 6
  | .feqS d a b => packF3 6 d.toNat a.toNat b.toNat 7
  | .fltS d a b => packF3 6 d.toNat a.toNat b.toNat 8
  | .fleS d a b => packF3 6 d.toNat a.toNat b.toNat 9
  | .fclassS d a => packF3 6 d.toNat a.toNat 0 10
  | .fcvtSI d a => packF3 6 d.toNat a.toNat 0 11
  | .fcvtIS d a => packF3 6 d.toNat a.toNat 0 12
  | .faddD d a b => packF3 6 d.toNat a.toNat b.toNat 13
  | .fsubD d a b => packF3 6 d.toNat a.toNat b.toNat 14
  | .fmulD d a b => packF3 6 d.toNat a.toNat b.toNat 15
  | .fdivD d a b => packF3 6 d.toNat a.toNat b.toNat 16
  | .fsqrtD d a => packF3 6 d.toNat a.toNat 0 17
  | .fminD d a b => packF3 6 d.toNat a.toNat b.toNat 18
  | .fmaxD d a b => packF3 6 d.toNat a.toNat b.toNat 19
  | .feqD d a b => packF3 6 d.toNat a.toNat b.toNat 20
  | .fltD d a b => packF3 6 d.toNat a.toNat b.toNat 21
  | .fleD d a b => packF3 6 d.toNat a.toNat b.toNat 22
  | .fcvtDS d a => packF3 6 d.toNat a.toNat 0 23
  | .fcvtSD d a => packF3 6 d.toNat a.toNat 0 24
  | .fcvtDI d a => packF3 6 d.toNat a.toNat 0 25
  | .fcvtID d a => packF3 6 d.toNat a.toNat 0 26
  | .fsgcS d a b => packF3 6 d.toNat a.toNat b.toNat 27
  | .fsgiS d a b => packF3 6 d.toNat a.toNat b.toNat 28
  | .fsgxS d a b => packF3 6 d.toNat a.toNat b.toNat 29
  | .fcvtHS d a => packF3 6 d.toNat a.toNat 0 30
  | .fcvtSH d a => packF3 6 d.toNat a.toNat 0 31
  | .fmaS d a b => packF3 7 d.toNat a.toNat b.toNat 0
  | .fmsS d a b => packF3 7 d.toNat a.toNat b.toNat 1
  | .fnmaS d a b => packF3 7 d.toNat a.toNat b.toNat 2
  | .fmaD d a b => packF3 7 d.toNat a.toNat b.toNat 3
  | .fmsD d a b => packF3 7 d.toNat a.toNat b.toNat 4
  | .fnmaD d a b => packF3 7 d.toNat a.toNat b.toNat 5
  | .beqz a o => packFBZ 8 a.toNat 0 o.toNat
  | .bnez a o => packFBZ 8 a.toNat 1 o.toNat
  | .bltz a o => packFBZ 8 a.toNat 2 o.toNat
  | .bgez a o => packFBZ 8 a.toNat 3 o.toNat
  | .bgtz a o => packFBZ 8 a.toNat 4 o.toNat
  | .blez a o => packFBZ 8 a.toNat 5 o.toNat
  | .beq a b o => packFB2 9 a.toNat b.toNat 0 o.toNat
  | .bne a b o => packFB2 9 a.toNat b.toNat 1 o.toNat
  | .blt a b o => packFB2 9 a.toNat b.toNat 2 o.toNat
  | .bge a b o => packFB2 9 a.toNat b.toNat 3 o.toNat
  | .bltn a b o => packFB2 9 a.toNat b.toNat 4 o.toNat
  | .bgen a b o => packFB2 9 a.toNat b.toNat 5 o.toNat
  | .j o => packFJ 10 o.toNat
  | .jl o => packFJ 11 o.toNat
  | .jlr d a i => packFV 12 d.toNat a.toNat i.toNat
  | .ldg d a z i => packFI2 13 d.toNat a.toNat z.toNat i.toNat
  | .ldgz d a z i => packFI2 14 d.toNat a.toNat z.toNat i.toNat
  | .stg d a z i => packFI2 15 d.toNat a.toNat z.toNat i.toNat
  | .lds d a z i => packFI2 16 d.toNat a.toNat z.toNat i.toNat
  | .sts d a z i => packFI2 17 d.toNat a.toNat z.toNat i.toNat
  | .ldaW d a => packF3 18 d.toNat a.toNat 0 0
  | .ldaD d a => packF3 18 d.toNat a.toNat 0 1
  | .stlW a b => packF3 18 0 a.toNat b.toNat 2
  | .stlD a b => packF3 18 0 a.toNat b.toNat 3
  | .ldasW d a => packF3 18 d.toNat a.toNat 0 4
  | .ldasD d a => packF3 18 d.toNat a.toNat 0 5
  | .stlsW a b => packF3 18 0 a.toNat b.toNat 6
  | .stlsD a b => packF3 18 0 a.toNat b.toNat 7
  | .fenceAcq s => packF3 19 s.toNat 0 0 0
  | .fenceRel s => packF3 19 s.toNat 0 0 1
  | .fenceAr s => packF3 19 s.toNat 0 0 2
  | .fenceSc s => packF3 19 s.toNat 0 0 3
  | .fenceIo s => packF3 19 s.toNat 0 0 4
  | .fenceEng s => packF3 19 s.toNat 0 0 5
  | .fenceRetire _ => 0
  | .amgAdd r d a b z => packFA (20 + r.toNat) d.toNat a.toNat b.toNat z.toNat 0
  | .amgAnd r d a b z => packFA (20 + r.toNat) d.toNat a.toNat b.toNat z.toNat 1
  | .amgOr r d a b z => packFA (20 + r.toNat) d.toNat a.toNat b.toNat z.toNat 2
  | .amgXor r d a b z => packFA (20 + r.toNat) d.toNat a.toNat b.toNat z.toNat 3
  | .amgMin r d a b z => packFA (20 + r.toNat) d.toNat a.toNat b.toNat z.toNat 4
  | .amgMax r d a b z => packFA (20 + r.toNat) d.toNat a.toNat b.toNat z.toNat 5
  | .amgMinn r d a b z => packFA (20 + r.toNat) d.toNat a.toNat b.toNat z.toNat 6
  | .amgMaxn r d a b z => packFA (20 + r.toNat) d.toNat a.toNat b.toNat z.toNat 7
  | .amgSwp r d a b z => packFA (20 + r.toNat) d.toNat a.toNat b.toNat z.toNat 8
  | .amgCas r d a b z => packFA (20 + r.toNat) d.toNat a.toNat b.toNat z.toNat 9
  | .amgFadd r d a b z => packFA (20 + r.toNat) d.toNat a.toNat b.toNat z.toNat 10
  | .amgInc r d a b z => packFA (20 + r.toNat) d.toNat a.toNat b.toNat z.toNat 11
  | .amsAdd r d a b z => packFA (24 + r.toNat) d.toNat a.toNat b.toNat z.toNat 0
  | .amsAnd r d a b z => packFA (24 + r.toNat) d.toNat a.toNat b.toNat z.toNat 1
  | .amsOr r d a b z => packFA (24 + r.toNat) d.toNat a.toNat b.toNat z.toNat 2
  | .amsXor r d a b z => packFA (24 + r.toNat) d.toNat a.toNat b.toNat z.toNat 3
  | .amsMin r d a b z => packFA (24 + r.toNat) d.toNat a.toNat b.toNat z.toNat 4
  | .amsMax r d a b z => packFA (24 + r.toNat) d.toNat a.toNat b.toNat z.toNat 5
  | .amsMinn r d a b z => packFA (24 + r.toNat) d.toNat a.toNat b.toNat z.toNat 6
  | .amsMaxn r d a b z => packFA (24 + r.toNat) d.toNat a.toNat b.toNat z.toNat 7
  | .amsSwp r d a b z => packFA (24 + r.toNat) d.toNat a.toNat b.toNat z.toNat 8
  | .amsCas r d a b z => packFA (24 + r.toNat) d.toNat a.toNat b.toNat z.toNat 9
  | .amsFadd r d a b z => packFA (24 + r.toNat) d.toNat a.toNat b.toNat z.toNat 10
  | .amsInc r d a b z => packFA (24 + r.toNat) d.toNat a.toNat b.toNat z.toNat 11
  | .sysc c => packF3 28 0 0 c.toNat 0
  | .tret => packF3 28 0 0 0 1
  | .brk c => packF3 28 0 0 c.toNat 2
  | .wbase c k => packF3 28 c.toNat k.toNat 0 3
  | .pause => packF3 28 0 0 0 4
  | .csrrd d c => packFC 29 d.toNat 0 0 c.toNat
  | .csrwr d a c => packFC 29 d.toNat 1 a.toNat c.toNat
  | .csrset d a c => packFC 29 d.toNat 2 a.toNat c.toNat
  | .csrclr d a c => packFC 29 d.toNat 3 a.toNat c.toNat
  | .spawn d a b => packF3 30 d.toNat a.toNat b.toNat 0
  | .exit => packF3 30 0 0 0 1
  | .join d a => packF3 30 d.toNat a.toNat 0 2
  | .leave a => packF3 30 0 a.toNat 0 3
  | .gsize d a => packF3 30 d.toNat a.toNat 0 4
  | .grank d a => packF3 30 d.toNat a.toNat 0 5
  | .gbar a => packF3 30 0 a.toNat 0 6
  | .tidg d => packF3 30 d.toNat 0 0 7
  | .binit a b => packF3 31 0 a.toNat b.toNat 0
  | .bexp a b => packF3 31 0 a.toNat b.toNat 1
  | .barv d a b => packF3 31 d.toNat a.toNat b.toNat 2
  | .bwait a b => packF3 31 0 a.toNat b.toNat 3
  | .btest d a b => packF3 31 d.toNat a.toNat b.toNat 4
  | .binitG a b => packF3 31 0 a.toNat b.toNat 5
  | .bexpG a b => packF3 31 0 a.toNat b.toNat 6
  | .barvG d a b => packF3 31 d.toNat a.toNat b.toNat 7
  | .bwaitG a b => packF3 31 0 a.toNat b.toNat 8
  | .btestG d a b => packF3 31 d.toNat a.toNat b.toNat 9
  | .bqpush a => packF3 32 0 a.toNat 0 0
  | .qstat d q => packF3 32 d.toNat q.toNat 0 1
  | .qdrain q => packF3 32 0 q.toNat 0 2
  | .bqt o => packFBZ 33 0 0 o.toNat
  | .bqf o => packFBZ 33 0 1 o.toNat
  | .queueStallEnd _ => 0
  | .vsetl d a v => packFV 34 d.toNat a.toNat v.toNat
  | .vsetr a => packF3 35 0 a.toNat 0 0
  | .vsetlx d a b => packF3 35 d.toNat a.toNat b.toNat 1
  | .vstrip => packF3 35 0 0 0 2
  | .vadd d a b m => packF3V 36 d.toNat a.toNat b.toNat m.toNat 0
  | .vsub d a b m => packF3V 36 d.toNat a.toNat b.toNat m.toNat 1
  | .vmul d a b m => packF3V 36 d.toNat a.toNat b.toNat m.toNat 2
  | .vmulh d a b m => packF3V 36 d.toNat a.toNat b.toNat m.toNat 3
  | .vmulhn d a b m => packF3V 36 d.toNat a.toNat b.toNat m.toNat 4
  | .vand d a b m => packF3V 36 d.toNat a.toNat b.toNat m.toNat 5
  | .vor d a b m => packF3V 36 d.toNat a.toNat b.toNat m.toNat 6
  | .vxor d a b m => packF3V 36 d.toNat a.toNat b.toNat m.toNat 7
  | .vsll d a b m => packF3V 36 d.toNat a.toNat b.toNat m.toNat 8
  | .vsrl d a b m => packF3V 36 d.toNat a.toNat b.toNat m.toNat 9
  | .vsra d a b m => packF3V 36 d.toNat a.toNat b.toNat m.toNat 10
  | .vmin d a b m => packF3V 36 d.toNat a.toNat b.toNat m.toNat 11
  | .vmax d a b m => packF3V 36 d.toNat a.toNat b.toNat m.toNat 12
  | .vminn d a b m => packF3V 36 d.toNat a.toNat b.toNat m.toNat 13
  | .vmaxn d a b m => packF3V 36 d.toNat a.toNat b.toNat m.toNat 14
  | .vsadd d a b m => packF3V 36 d.toNat a.toNat b.toNat m.toNat 15
  | .vaddVs d a b m => packF3V 37 d.toNat a.toNat b.toNat m.toNat 0
  | .vsubVs d a b m => packF3V 37 d.toNat a.toNat b.toNat m.toNat 1
  | .vmulVs d a b m => packF3V 37 d.toNat a.toNat b.toNat m.toNat 2
  | .vmulhVs d a b m => packF3V 37 d.toNat a.toNat b.toNat m.toNat 3
  | .vmulhnVs d a b m => packF3V 37 d.toNat a.toNat b.toNat m.toNat 4
  | .vandVs d a b m => packF3V 37 d.toNat a.toNat b.toNat m.toNat 5
  | .vorVs d a b m => packF3V 37 d.toNat a.toNat b.toNat m.toNat 6
  | .vxorVs d a b m => packF3V 37 d.toNat a.toNat b.toNat m.toNat 7
  | .vsllVs d a b m => packF3V 37 d.toNat a.toNat b.toNat m.toNat 8
  | .vsrlVs d a b m => packF3V 37 d.toNat a.toNat b.toNat m.toNat 9
  | .vsraVs d a b m => packF3V 37 d.toNat a.toNat b.toNat m.toNat 10
  | .vminVs d a b m => packF3V 37 d.toNat a.toNat b.toNat m.toNat 11
  | .vmaxVs d a b m => packF3V 37 d.toNat a.toNat b.toNat m.toNat 12
  | .vminnVs d a b m => packF3V 37 d.toNat a.toNat b.toNat m.toNat 13
  | .vmaxnVs d a b m => packF3V 37 d.toNat a.toNat b.toNat m.toNat 14
  | .vsaddVs d a b m => packF3V 37 d.toNat a.toNat b.toNat m.toNat 15
  | .vfadd d a b m => packF3V 38 d.toNat a.toNat b.toNat m.toNat 0
  | .vfsub d a b m => packF3V 38 d.toNat a.toNat b.toNat m.toNat 1
  | .vfmul d a b m => packF3V 38 d.toNat a.toNat b.toNat m.toNat 2
  | .vfdiv d a b m => packF3V 38 d.toNat a.toNat b.toNat m.toNat 3
  | .vfmin d a b m => packF3V 38 d.toNat a.toNat b.toNat m.toNat 4
  | .vfmax d a b m => packF3V 38 d.toNat a.toNat b.toNat m.toNat 5
  | .vfsqrt d a m => packF3V 38 d.toNat a.toNat 0 m.toNat 6
  | .vfabs d a m => packF3V 38 d.toNat a.toNat 0 m.toNat 7
  | .vfneg d a m => packF3V 38 d.toNat a.toNat 0 m.toNat 8
  | .vfsgc d a b m => packF3V 38 d.toNat a.toNat b.toNat m.toNat 9
  | .vfrece d a m => packF3V 38 d.toNat a.toNat 0 m.toNat 10
  | .vfrsqe d a m => packF3V 38 d.toNat a.toNat 0 m.toNat 11
  | .vfexp2e d a m => packF3V 38 d.toNat a.toNat 0 m.toNat 12
  | .vfclass d a m => packF3V 38 d.toNat a.toNat 0 m.toNat 13
  | .vfaddw d a b m => packF3V 38 d.toNat a.toNat b.toNat m.toNat 14
  | .vfmulw d a b m => packF3V 38 d.toNat a.toNat b.toNat m.toNat 15
  | .vfaddVs d a b m => packF3V 39 d.toNat a.toNat b.toNat m.toNat 0
  | .vfsubVs d a b m => packF3V 39 d.toNat a.toNat b.toNat m.toNat 1
  | .vfmulVs d a b m => packF3V 39 d.toNat a.toNat b.toNat m.toNat 2
  | .vfdivVs d a b m => packF3V 39 d.toNat a.toNat b.toNat m.toNat 3
  | .vfminVs d a b m => packF3V 39 d.toNat a.toNat b.toNat m.toNat 4
  | .vfmaxVs d a b m => packF3V 39 d.toNat a.toNat b.toNat m.toNat 5
  | .vfsqrtVs d b m => packF3V 39 d.toNat 0 b.toNat m.toNat 6
  | .vfabsVs d b m => packF3V 39 d.toNat 0 b.toNat m.toNat 7
  | .vfnegVs d b m => packF3V 39 d.toNat 0 b.toNat m.toNat 8
  | .vfsgcVs d a b m => packF3V 39 d.toNat a.toNat b.toNat m.toNat 9
  | .vfreceVs d b m => packF3V 39 d.toNat 0 b.toNat m.toNat 10
  | .vfrsqeVs d b m => packF3V 39 d.toNat 0 b.toNat m.toNat 11
  | .vfexp2eVs d b m => packF3V 39 d.toNat 0 b.toNat m.toNat 12
  | .vfclassVs d b m => packF3V 39 d.toNat 0 b.toNat m.toNat 13
  | .vfclamp d a b m => packF3V 39 d.toNat a.toNat b.toNat m.toNat 14
  | .vfma d a b m => packF3V 40 d.toNat a.toNat b.toNat m.toNat 0
  | .vfms d a b m => packF3V 40 d.toNat a.toNat b.toNat m.toNat 1
  | .vfnma d a b m => packF3V 40 d.toNat a.toNat b.toNat m.toNat 2
  | .vfnms d a b m => packF3V 40 d.toNat a.toNat b.toNat m.toNat 3
  | .vfmaX d a b m => packF3V 40 d.toNat a.toNat b.toNat m.toNat 4
  | .vfmsX d a b m => packF3V 40 d.toNat a.toNat b.toNat m.toNat 5
  | .vfnmaX d a b m => packF3V 40 d.toNat a.toNat b.toNat m.toNat 6
  | .vfnmsX d a b m => packF3V 40 d.toNat a.toNat b.toNat m.toNat 7
  | .vfmaw d a b m => packF3V 40 d.toNat a.toNat b.toNat m.toNat 8
  | .vfmawX d a b m => packF3V 40 d.toNat a.toNat b.toNat m.toNat 9
  | .vmacc d a b m => packF3V 40 d.toNat a.toNat b.toNat m.toNat 10
  | .vmaccX d a b m => packF3V 40 d.toNat a.toNat b.toNat m.toNat 11
  | .vseq p a b m => packF3V 41 p.toNat a.toNat b.toNat m.toNat 0
  | .vsne p a b m => packF3V 41 p.toNat a.toNat b.toNat m.toNat 1
  | .vslt p a b m => packF3V 41 p.toNat a.toNat b.toNat m.toNat 2
  | .vsle p a b m => packF3V 41 p.toNat a.toNat b.toNat m.toNat 3
  | .vsltn p a b m => packF3V 41 p.toNat a.toNat b.toNat m.toNat 4
  | .vslen p a b m => packF3V 41 p.toNat a.toNat b.toNat m.toNat 5
  | .vfeq p a b m => packF3V 41 p.toNat a.toNat b.toNat m.toNat 6
  | .vfne p a b m => packF3V 41 p.toNat a.toNat b.toNat m.toNat 7
  | .vflt p a b m => packF3V 41 p.toNat a.toNat b.toNat m.toNat 8
  | .vfle p a b m => packF3V 41 p.toNat a.toNat b.toNat m.toNat 9
  | .vfunord p a b m => packF3V 41 p.toNat a.toNat b.toNat m.toNat 10
  | .vsltX p a b m => packF3V 41 p.toNat a.toNat b.toNat m.toNat 11
  | .vsgtX p a b m => packF3V 41 p.toNat a.toNat b.toNat m.toNat 12
  | .vfltX p a b m => packF3V 41 p.toNat a.toNat b.toNat m.toNat 13
  | .vfgtX p a b m => packF3V 41 p.toNat a.toNat b.toNat m.toNat 14
  | .vseqX p a b m => packF3V 41 p.toNat a.toNat b.toNat m.toNat 15
  | .pand d a b => packF3V 42 d.toNat a.toNat b.toNat 0 0
  | .por d a b => packF3V 42 d.toNat a.toNat b.toNat 0 1
  | .pxor d a b => packF3V 42 d.toNat a.toNat b.toNat 0 2
  | .pandn d a b => packF3V 42 d.toNat a.toNat b.toNat 0 3
  | .pnot d a => packF3V 42 d.toNat a.toNat 0 0 4
  | .pset d => packF3V 42 d.toNat 0 0 0 5
  | .pclr d => packF3V 42 d.toNat 0 0 0 6
  | .pcut d a b => packF3V 42 d.toNat a.toNat b.toNat 0 7
  | .pcuti d a b => packF3V 42 d.toNat a.toNat b.toNat 0 8
  | .ppop d a => packF3V 42 d.toNat a.toNat 0 0 9
  | .pfirst d a => packF3V 42 d.toNat a.toNat 0 0 10
  | .pfromv d a => packF3V 42 d.toNat a.toNat 0 0 11
  | .ptov d a => packF3V 42 d.toNat a.toNat 0 0 12
  | .vslideup d a b m => packF3V 43 d.toNat a.toNat b.toNat m.toNat 0
  | .vslidedn d a b m => packF3V 43 d.toNat a.toNat b.toNat m.toNat 1
  | .vslide1up d a b m => packF3V 43 d.toNat a.toNat b.toNat m.toNat 2
  | .vslide1dn d a b m => packF3V 43 d.toNat a.toNat b.toNat m.toNat 3
  | .vpermi d a b m => packF3V 43 d.toNat a.toNat b.toNat m.toNat 4
  | .vcompress d a b => packF3V 43 d.toNat a.toNat b.toNat 0 5
  | .vexpand d a b => packF3V 43 d.toNat a.toNat b.toNat 0 6
  | .vmerge d a b => packF3V 43 d.toNat a.toNat b.toNat 0 7
  | .vsplat d a m => packF3V 43 d.toNat a.toNat 0 m.toNat 8
  | .vmvxs d a b => packF3V 43 d.toNat a.toNat b.toNat 0 9
  | .vrowbc d a b => packF3V 43 d.toNat a.toNat b.toNat 0 10
  | .vtrans d a => packF3V 43 d.toNat a.toNat 0 0 11
  | .vredo d a b m => packF3V 44 d.toNat a.toNat b.toNat m.toNat 0
  | .vredt d a b m => packF3V 44 d.toNat a.toNat b.toNat m.toNat 1
  | .vredu d a b m => packF3V 44 d.toNat a.toNat b.toNat m.toNat 2
  | .vfredmin d a b m => packF3V 44 d.toNat a.toNat b.toNat m.toNat 3
  | .vfredmax d a b m => packF3V 44 d.toNat a.toNat b.toNat m.toNat 4
  | .vredsum d a b m => packF3V 44 d.toNat a.toNat b.toNat m.toNat 5
  | .vredmin d a b m => packF3V 44 d.toNat a.toNat b.toNat m.toNat 6
  | .vredmax d a b m => packF3V 44 d.toNat a.toNat b.toNat m.toNat 7
  | .vscano d a b m => packF3V 44 d.toNat a.toNat b.toNat m.toNat 8
  | .vscant d a b m => packF3V 44 d.toNat a.toNat b.toNat m.toNat 9
  | .vscanu d a b m => packF3V 44 d.toNat a.toNat b.toNat m.toNat 10
  | .viscan d a b m => packF3V 44 d.toNat a.toNat b.toNat m.toNat 11
  | .vredand d a b m => packF3V 44 d.toNat a.toNat b.toNat m.toNat 12
  | .vredor d a b m => packF3V 44 d.toNat a.toNat b.toNat m.toNat 13
  | .vredrow d a b m => packF3V 44 d.toNat a.toNat b.toNat m.toNat 14
  | .vcvtf d a c m => packF3V 45 d.toNat a.toNat c.toNat m.toNat 0
  | .vcvtfi d a c m => packF3V 45 d.toNat a.toNat c.toNat m.toNat 1
  | .vcvtif d a c m => packF3V 45 d.toNat a.toNat c.toNat m.toNat 2
  | .vqnt d a c m => packF3V 45 d.toNat a.toNat c.toNat m.toNat 3
  | .vdqnt d a c m => packF3V 45 d.toNat a.toNat c.toNat m.toNat 4
  | .vbscale d a c m => packF3V 45 d.toNat a.toNat c.toNat m.toNat 5
  | .vcvti d a c m => packF3V 45 d.toNat a.toNat c.toNat m.toNat 6
  | .vindex d m s p => packFX 46 d.toNat m.toNat s.toNat p.toNat
  | .vld d a k m => packF3V 47 d.toNat a.toNat (k.toNat * 8) m.toNat 0
  | .vlds d a b m => packF3V 47 d.toNat a.toNat b.toNat m.toNat 1
  | .vldff d a k m => packF3V 47 d.toNat a.toNat (k.toNat * 8) m.toNat 2
  | .vldseg d a f k m => packF3V 47 d.toNat a.toNat (k.toNat * 8 + f.toNat) m.toNat 3
  | .vldx d a b m => packF3V 47 d.toNat a.toNat b.toNat m.toNat 4
  | .vldrow d a b m => packF3V 47 d.toNat a.toNat b.toNat m.toNat 5
  | .vldbc d a k m => packF3V 47 d.toNat a.toNat (k.toNat * 8) m.toNat 6
  | .vst d a k m => packF3V 48 d.toNat a.toNat (k.toNat * 8) m.toNat 0
  | .vsts d a b m => packF3V 48 d.toNat a.toNat b.toNat m.toNat 1
  | .vstseg d a f k m => packF3V 48 d.toNat a.toNat (k.toNat * 8 + f.toNat) m.toNat 2
  | .vstx d a b m => packF3V 48 d.toNat a.toNat b.toNat m.toNat 3
  | .vstrow d a b m => packF3V 48 d.toNat a.toNat b.toNat m.toNat 4
  | .vstxaddo d a b m => packF3V 48 d.toNat a.toNat b.toNat m.toNat 5
  | .vstxadd d a b m => packF3V 48 d.toNat a.toNat b.toNat m.toNat 6
  | .vldsh d a k m => packF3V 49 d.toNat a.toNat (k.toNat * 8) m.toNat 0
  | .vldshs d a b m => packF3V 49 d.toNat a.toNat b.toNat m.toNat 1
  | .vldshrow d a b m => packF3V 49 d.toNat a.toNat b.toNat m.toNat 2
  | .vstsh d a k m => packF3V 49 d.toNat a.toNat (k.toNat * 8) m.toNat 3
  | .vstshs d a b m => packF3V 49 d.toNat a.toNat b.toNat m.toNat 4
  | .vstshrow d a b m => packF3V 49 d.toNat a.toNat b.toNat m.toNat 5
  | .vldshx d a b m => packF3V 49 d.toNat a.toNat b.toNat m.toNat 6
  | .vstshx d a b m => packF3V 49 d.toNat a.toNat b.toNat m.toNat 7
  | .vstshxaddo d a b m => packF3V 49 d.toNat a.toNat b.toNat m.toNat 8
  | .vstshxadd d a b m => packF3V 49 d.toNat a.toNat b.toNat m.toNat 9
  | .vgwin p a m => packF3V 50 p.toNat a.toNat 0 m.toNat 0
  | .vgwset d a m => packF3V 50 d.toNat a.toNat 0 m.toNat 1
  | .vconf p a m => packF3V 50 p.toNat a.toNat 0 m.toNat 2
  | .vcomb d a b m => packF3V 50 d.toNat a.toNat b.toNat m.toNat 3
  | .vconfm d a m => packF3V 50 d.toNat a.toNat 0 m.toNat 4
  | .vpacknz d a b m => packF3V 50 d.toNat a.toNat b.toNat m.toNat 5
  | .mmac z a b s => packFM 51 z.toNat 0 a.toNat b.toNat 0 s.toNat
  | .mmacn z a b s => packFM 51 z.toNat 0 a.toNat b.toNat 1 s.toNat
  | .mmaco z a b s => packFM 51 z.toNat 0 a.toNat b.toNat 2 s.toNat
  | .mmacs z a b s => packFM 51 z.toNat 0 a.toNat b.toNat 3 s.toNat
  | .mzcfg z a => packF3 52 z.toNat a.toNat 0 0
  | .mzero z => packF3 52 z.toNat 0 0 1
  | .mzld z a b => packF3 52 z.toNat a.toNat b.toNat 2
  | .mzst z a b => packF3 52 z.toNat a.toNat b.toNat 3
  | .mzrv d z b => packF3 52 d.toNat z.toNat b.toNat 4
  | .mzwv z a b => packF3 52 z.toNat a.toNat b.toNat 5
  | .manch z a => packF3 52 z.toNat a.toNat 0 6
  | .mscan z h => packF3 52 z.toNat h.toNat 0 7
  | .mcarry h a => packF3 52 h.toNat a.toNat 0 8
  | .mcarryst h a => packF3 52 h.toNat a.toNat 0 9
  | .mcommit => packF3 52 0 0 0 10
  | .mwait n => packF3 52 0 n.toNat 0 11
  | .mgain z a => packF3 52 z.toNat a.toNat 0 12
  | .mstat d z => packF3 52 d.toNat z.toNat 0 13
  | .matrixComplete _ _ => 0
  | .tdset t a => packF3 53 t.toNat a.toNat 0 0
  | .tdget t a => packF3 53 t.toNat a.toNat 0 1
  | .scld k t => packF3 53 k.toNat t.toNat 0 2
  | .scst k t => packF3 53 k.toNat t.toNat 0 3
  | .tdinv t => packF3 53 t.toNat 0 0 4
  | .cpy a => packF3 54 0 a.toNat 0 0
  | .cpyb p a => packF3 54 p.toNat a.toNat 0 1
  | .cpyseg a => packF3 54 0 a.toNat 0 2
  | .cpyw n => packF3 54 0 n.toNat 0 3
  | .cpyq d => packF3 54 d.toNat 0 0 4
  | .copyChunkWritten _ _ _ => 0
  | .copyRetire _ _ => 0
  | .copyErrorTrap _ => 0
  | .lmark a b o => packFB2 55 a.toNat b.toNat 0 o.toNat
  | .lmarkSweep a b o => packFB2 55 a.toNat b.toNat 1 o.toNat
  | .lend => packF3 56 0 0 0 0
  | .loff a => packF3 56 0 a.toNat 0 1
  | .rsnew a b => packF3 56 0 a.toNat b.toNat 2
  | .rsq d a => packF3 56 d.toNat a.toNat 0 3
  | .rspol a b => packF3 56 0 a.toNat b.toNat 4
  | .tmark a => packF3 57 0 a.toNat 0 0
  | .progpt c => packF3 57 0 c.toNat 0 1
  | .replayIteration _ => 0
  | .handBack _ => 0
  | .pagerResume _ _ => 0
  | .pagerUnservable _ _ => 0
  | .faultRecordPost _ => 0
  | .progressExpiry _ => 0
  | .preempt _ => 0
  | .stripBufferDrain _ _ => 0
  | .stripTimeout _ => 0
  | .writeApply _ _ => 0
  | .recheckSecondRun _ _ => 0
  | .recheckForce _ => 0
  | .knownAnswerOp _ _ _ => 0
  | .knownAnswerSweep _ _ => 0
  | .qtailWrite _ _ => 0
  | .enable _ => 0
  | .disable _ => 0
  | .clrfault _ => 0
  | .missClear _ => 0
  | .registerWrite _ _ => 0
  | .schedulerScan => 0
  | .queueSwitchIn => 0
  | .queueAging _ => 0
  | .packetTake => 0
  | .tandemDispatch _ _ _ => 0
  | .kernelComplete _ _ => 0
  | .kernelFaultRecord _ _ => 0
  | .cancel _ _ => 0
  | .release _ _ => 0
  | .queueCreate _ _ _ => 0
  | .bind _ => 0
  | .destroy _ => 0
  | .contextReclaim => 0
  | .shootdown _ _ _ => 0
  | .shootdownComplete _ => 0
  | .vectorEntryWrite _ _ => 0
  | .vectorEntryRead _ => 0
  | .ttModeEnable _ _ _ => 0
  | .ttSlotStart _ => 0
  | .ttSlotEnd _ => 0
  | .ppsInput => 0
  | .timeOfDay _ => 0
  | .energyWindow _ _ => 0
  | .budgetTableWrite _ _ => 0
  | .classTableWrite _ _ => 0
  | .peerRouteWrite _ _ _ => 0
  | .peerRequest _ _ _ _ => 0
  | .quiesce _ => 0
  | .portResume _ => 0
  | .portReset _ => 0
  | .partnerDetected _ => 0
  | .partnerLost _ => 0
  | .trainingDone _ _ => 0
  | .laneFailure _ => 0
  | .flitReceive _ _ _ => 0
  | .flitAckTimeout _ => 0
  | .hostMemAccess _ _ => 0
  | .resume _ => 0
  | .hold _ => 0
  | .debugRelease _ => 0
  | .historyEnable _ _ => 0
  | .pcSample => 0
  | .dropRecord _ => 0
  | .trialEnd _ => 0
  | .deviceReset _ => 0
  | .challenge => 0
  | .firmwareDebugUnlock _ => 0
  | .kernelDebugUnlock _ _ => 0
  | .attestationReport _ => 0
  | .keyLoad _ _ => 0
  | .checkpoint => 0
  | .checkpointDone _ => 0
  | .recoveryReturn => 0
  | .functionReady _ => 0
  | .illegalInstruction _ => 0
  | .memoryReply _ _ => 0
  | .debugRelock _ _ => 0
  | .traceEnable _ _ _ _ _ _ => 0
  | .contextCreate _ _ => 0

/-- The word of a well-formed instruction (R142). -/
def encode (i : Instr) : BitVec 32 := BitVec.ofNat 32 (encodeNat i)

end Sys2Proof
end

