-- ==== Sys2Proof/Machine/Turn.lean ====
section
/-! DEFINITION. What surrounds an instruction or an event in a step: the clock, whose turn it is (R28–R30), what is due at an instruction boundary
(R245, R382), the instruction fetched and decoded, and what the states of contexts and held queues then follow from (R270, R379). -/

namespace Sys2Proof.Machine

/-- The device's clock moves on (R48); by how much is free (R10). [DESIGN CHOICE, log 7] -/
def tick (s : State) : State := { s with now := s.now + 1 + Config.clocks s.free, free := s.free + 1 }

/-- What the outcome of an instruction or event leaves to follow: scratch operands of posted matrix work have held what they hold now, waiting
BWAITs test their objects, CIDX and the history rings take what is due, writes of the Thoud that waited are tried again, waiting binds are made, queues of the time-triggered table get their slots, contexts without work are BOUND-IDLE, stops of held queues have
landed, and requests of peers that are complete are answered (R124, R128, R270, R282, R286, R298, R379). [DESIGN CHOICE, log 6] -/
def settleAfter (s : State) : State :=
  answerPeers (settleHolds (settleContexts (settleTt (settleBinds (flushArea (settleHistory (settleAllOwed (testBarriers (sampleSources s)))))))))

/-- A change of the next state of an outcome. -/
def thenSettle (f : State → State) : Host.Outcome State Fault Refusal → Host.Outcome State Fault Refusal
  | .next s => .next (f s)
  | .fault e => .fault e
  | .refused r => .refused r

/-! ## Turns (R28–R30, R33) -/

/-- A hart of a tandem away from the focus can execute. -/
def Away.ready (x : Away) (s : State) (onA : Bool) : Bool :=
  (match x.t.place with
   | .resident _ _ => true
   | _ => false) && !s.frozen x.t && !(if onA then x.a.exited else x.e.exited) && !(onA && x.t.single)

/-- The next hart in turn: the other side of the tandem in focus after its E-side, then the tandems away, the one longest away first. -/
def nextTurn (s : State) : Option Nat :=
  let mine := s.focusAway
  let peerFirst := s.live && !s.onA && mine.ready s true
  if peerFirst then some (2 * s.tan.uid + 1)
  else
    match s.away.findSome? (fun x =>
        if x.ready s false then some (2 * x.t.uid) else if x.ready s true then some (2 * x.t.uid + 1) else none) with
    | some h => some h
    | none => if s.live && s.onA && mine.ready s false then some (2 * s.tan.uid) else none

/-- How many steps a hart runs before another gets its turn (the model's own). -/
def turnLength : Nat := 64

/-- The turn passes to the next hart; it stays where there is no other. -/
def passTurn (s : State) : State :=
  match nextTurn s with
  | some h => { s.focus h with quantum := turnLength }
  | none => { s with quantum := turnLength }

/-- A step of the turn has been used; a hart that waits or cannot go on gives the rest up. -/
def spendTurn (s : State) : State :=
  { s with quantum := if s.me.stalled.isSome || !s.active then 0 else s.quantum - 1 }

/-! ## The instruction boundary -/

/-- The error that the hart in focus meets at its next instruction is consumed: a failed check takes its strip back, an error in what holds its
state does not (R360, R362). -/
def takeUpset (s : State) : Option State :=
  let calm : State := { s with me := { s.me with upset := none } }
  match s.me.upset with
  | none => none
  | some .check => some (consumeError .check calm)
  | some .heldState => some (noRewind 0 calm)

/-- What the hart in focus does first at an instruction boundary, if anything: a COPY-ERROR that is due, the end of its trial, or an error of
its own (R245, R360, R382). [DEDUCED, log 97] -/
def boundary (s : State) : Option State :=
  if copyErrorDue s then some (takeCopyError s)
  else if trialDue s then some (endTrial s)
  else takeUpset s

/-- The state in which the hart in focus fetches: no word and no access is noted yet, and where no instruction of its own is under way the bits
that its copies set stand in their predicates (R95). -/
def beforeFetch (s : State) : State :=
  let me := if s.me.dueBits.isEmpty || s.me.savedNow.isSome then s.me else { setMaskBits s.me.dueBits s.me with dueBits := [] }
  { s with ir := 0, notes := [], me := me }

/-- The comparator that matches the hart's fetch of the instruction under way, if one does (R377). -/
def fetchMatch (s : State) : Option Nat :=
  match comparators .fetch s.me.pc.toNat 4 s with
  | .error (.freeze i _) _ => some i
  | _ => none

/-- A comparator match on the fetch of an instruction is taken at its commit: what would retire it freezes the cluster in the state before it instead
(R377, R378). -/
def atCommit (s : State) (o : Host.Outcome State Fault Refusal) : Host.Outcome State Fault Refusal :=
  match fetchMatch s, o with
  | some i, .next t => if t.me.csr.instret = s.me.csr.instret then o else .next (freezeCluster i s.me.pc s)
  | _, _ => o

/-- The instruction that a word is, or the step by which a hart executes a word that is none (R148). -/
noncomputable def instrOfWord (w : BitVec 32) : Instr :=
  match decodeWord w with
  | .ok i => i
  | .error _ => .illegalInstruction w

/-! ## A program placed for a test -/

/-- The memory of a device with a word at a physical address, in every view. -/
def placeWord (m : Mem) (pa : Nat) (w : BitVec 32) : Mem :=
  { m with cells := ((range pa 4).zip (bytesOfWord w)).foldl (fun c e => sparseSet memDefault c e.1 e.2) m.cells, flight := [] }

/-- The context of a placed program: ASID 0 and one vector page, which maps device memory from address 0 (R267, R310). -/
def loadedContext : Context := { num := 0, block := 0, state := .running, asid := some 0, vcount := 1 }

/-- The kernel of a placed program: one single-mode tandem. -/
def loadedKernel : Kernel := { ctx := 0, csn := 0, state := .running, tcnt := 1, t0 := 1 }

/-- The tandem of a placed program, resident in slot 0 of core 0. -/
def loadedTandem : Tandem := { uid := 1, place := .resident 0 0, started := true }

/-- A device with one tandem in focus, at program counter 0 of a vector page that is readable, writable and executable, its core and station
ready. -/
def State.loaded (s : State) : State :=
  { s with
    onA := false
    me := {}
    peer := {}
    tan := loadedTandem
    away := []
    mem := {}
    paging := { vtab := (range 0 4).foldl (fun v d => sparseSet 0 v (131072 * d) 0x39) [] }
    ctxs := [loadedContext]
    kernels := [loadedKernel]
    ready0 := s.ready0 ||| 1
    ready1 := s.ready1 ||| 1
    inputs := []
    quantum := turnLength
    nextUid := 2
    live := true }

/-- The physical address at which the hart in focus would fetch its next instruction, where it is about to and the word lies in device
memory. -/
def fetchPlace (s : State) : Option Nat :=
  let pc := s.me.pc.toNat
  if s.inputs.isEmpty && s.active && decide (s.quantum ≠ 0) && (boundary s).isNone && s.me.held.isEmpty && s.mem.flight.isEmpty &&
      decide (pc % 4 = 0) then
    match fetchAt s.me.pc.toNat s with
    | .ok _ _ =>
      (match translate s s.myCtx s.tan.die false s.tan.firmware.isSome .fetch pc with
       | .ok x => if regionOf x.pa = .device then some x.pa else none
       | .error _ => none)
    | .error _ _ => none
  else none

end Sys2Proof.Machine
end

