-- ==== Sys2Proof/Machine/Step.lean ====
section
/-! DEFINITION. One step of the device: the next event or turn from outside, or else one instruction of the hart in focus. -/

namespace Sys2Proof.Machine

/-- The hart in focus fetches, decodes and executes one instruction; a comparator may match it at its commit (R377). -/
noncomputable def runInstr (s : State) : Host.Outcome State Fault Refusal :=
  match fetchAt s.me.pc.toNat (beforeFetch s) with
  | .error e s' => .next (applyStop e s')
  | .ok w s' => atCommit { s' with ir := w } (exec (instrOfWord w) { s' with ir := w })

/-- The turn of the hart in focus: what is due at the boundary, or an instruction; the turn passes where it cannot run or its turn is over. -/
noncomputable def runTurn (s : State) : Host.Outcome State Fault Refusal :=
  if s.active = false ∨ s.quantum = 0 then .next (passTurn s)
  else
    match boundary s with
    | some s' => .next (spendTurn s')
    | none => thenSettle spendTurn (runInstr s)

/-- What a step does: the next event from outside in the order of the outside world, or the next turn, or else the turn of the hart in
focus. An instruction word given as an event does nothing. -/
noncomputable def act (s : State) : Host.Outcome State Fault Refusal :=
  match s.inputs with
  | .event i :: r | .rung i :: r => if i.hasWord then .next (tick { s with inputs := r }) else exec i (tick { s with inputs := r })
  | .turn h :: r => .next { (tick { s with inputs := r }).focus h with quantum := turnLength }
  | [] => runTurn (tick s)

/-- One step, with what its outcome leaves to follow (R270, R379). [DESIGN CHOICE, log 5] -/
noncomputable def step (s : State) : Host.Outcome State Fault Refusal := thenSettle settleAfter (act s)

/-- The state with an instruction placed where the next step fetches: at the program counter of the hart in focus where it is about to fetch
from device memory, and otherwise at that of a tandem placed for it. [DESIGN CHOICE, log 4] -/
def State.withFetchWord (s : State) (_nbits w : Nat) : State :=
  match fetchPlace s with
  | some pa => { s with mem := placeWord s.mem pa (BitVec.ofNat 32 w) }
  | none => { s.loaded with mem := placeWord s.loaded.mem 0 (BitVec.ofNat 32 w) }

end Sys2Proof.Machine
end

