-- ==== Sys2Proof/Safety.lean ====
section
/-! DEFINITION. The terms in which claims about the machine are stated: when an operand can be used and what using it leaves (R14–R19,
R157), when retirement does nothing but retire, plain accesses to memory, tiles that fit, and what holds after every step. -/

namespace Sys2Proof.Machine

/-! ## Scalar operands (R14–R17, R19, R157) -/

/-- The source field `n` is a register, or the end of a queue that this side may pop (R14, R16). -/
def State.srcOk (s : State) (n : Nat) : Prop := n < 112 ∨ (s.tan.single = false ∧ popEnd s.onA n = true)

/-- The destination field `n` is a register, or the end of a queue that this side may push (R14, R16). -/
def State.dstOk (s : State) (n : Nat) : Prop := n < 112 ∨ (s.tan.single = false ∧ pushEnd s.onA n = true)

/-- The scalar source `n` can be read now: a register always, a queue while it holds an entry without error that no fault marker stands before
(R17, R345, R360). -/
def State.srcHere (s : State) (n : Nat) : Prop :=
  n < 112 ∨ ((s.tan.sfifo (n - 112)).items ≠ [] ∧ (s.tan.sfifo (n - 112)).bad = false ∧ ((s.tan.sfifo (n - 112)).marker ≠ some 0 ∨ s.peer.exited = true))

/-- The scalar destination `n` can take a value now: a register always, a queue while it holds fewer than 32 entries (R15, R17). -/
def State.dstRoom (s : State) (n : Nat) : Prop := n < 112 ∨ (s.tan.sfifo (n - 112)).items.length < 32

/-- The value of the scalar source `n`: the register, or the oldest entry of the queue. -/
def State.srcValue (s : State) (n : Nat) : Word :=
  if n < 112 then s.me.readS n else (s.tan.sfifo (n - 112)).items.headD 0

/-- The state once the scalar source `n` has been read: a queue has lost its oldest entry, which keeps its slot while the strip can be run
again (R183). -/
def State.srcTaken (s : State) (n : Nat) : State :=
  if n < 112 then s
  else { s with tan := { s.tan with
      sq := sparseSet {} s.tan.sq (n - 112) ((s.tan.sfifo (n - 112)).pop 1 32 s.me.keepsPops) } }

/-- The state with `x` written to the scalar destination `n`: a register, or a new last entry of the queue. A push ends the re-run of the
strip, and that of the peer where only slots kept for it are free (R183). -/
def State.dstPut (s : State) (n : Nat) (x : Word) : State :=
  if n < 112 then { s with me := s.me.writeS n x }
  else
    let f := s.tan.sfifo (n - 112)
    let s1 := (if 32 ≤ f.items.length + f.spent.length then s.spoilPeer else s).spoilStrip
    { s1 with tan := { s1.tan with sq := sparseSet {} s1.tan.sq (n - 112) ((s1.tan.sfifo (n - 112)).push s1.me.pc s1.me.tis [x]) } }

/-- An instruction with sources A and B can read them in that order and write D (R16, R17). -/
def State.can2 (s : State) (d a b : Nat) : Prop :=
  (s.srcOk a ∧ s.srcOk b ∧ s.dstOk d) ∧ s.srcHere a ∧ (s.srcTaken a).srcHere b ∧ ((s.srcTaken a).srcTaken b).dstRoom d

/-- An instruction with one source can read it and write D. -/
def State.can1 (s : State) (d a : Nat) : Prop := (s.srcOk a ∧ s.dstOk d) ∧ s.srcHere a ∧ (s.srcTaken a).dstRoom d

/-- Flags raised by the instruction under way (R50, R63). -/
def State.raised (s : State) (f : Nat) : State := { s with me := s.me.raise (BitVec.ofNat 64 f) }

/-! ## Accesses to memory (R85–R93, R105–R108, R303–R310) -/

/-- Nothing else takes part in the hart's accesses: no copy of it is in flight, no comparator is set, no sweep extrapolates, and a firmware core's meet
no registers in an image (R45, R93, R336, R377). -/
def State.unwatched (s : State) : Prop :=
  s.me.copies = [] ∧ s.dbg.comparators = [] ∧ s.extrapolating = none ∧
  (s.tan.firmware.isSome = true → ∀ x ∈ s.away, x.t.cached = false)

/-- The `n` bytes at global address `a` translate for an access of this kind, byte i as `xs` says, to cached device memory whose stations are
ready (R303–R310, R390). -/
def State.opens (s : State) (kind : AccessKind) (vport : Bool) (a n : Nat) (xs : List Xlat) : Prop :=
  translateBytes s s.myCtx s.tan.die vport s.tan.firmware.isSome kind a n = .ok xs ∧
  ∀ x ∈ xs, regionOf x.pa = .device ∧ x.discarded = false ∧ x.dev = false ∧ s.ready1.getLsbD (homeStation x.pa) = true

/-- None of the translated bytes has an uncorrectable error (R360). -/
def State.sound (s : State) (xs : List Xlat) : Prop := ∀ x ∈ xs, lookup s.mem.bad x.pa = none

/-- None of the `n` bytes at offset `a` of the hart's shared space has an uncorrectable error in scratch (R360). -/
def State.soundShared (s : State) (a n : Nat) : Prop := ∀ b ∈ range a n, s.tan.unit * 0x400000 + b ∉ s.mem.badScratch

/-- The state once the accessed pages' A, and D for a write, are set and their translations cached (R307, R309). -/
def State.marked (s : State) (kind : AccessKind) (xs : List Xlat) : State := xs.foldl (fun s x => markXlat s kind x) s

/-- The bytes that the hart reads at global address `a`: its held stores over its die's view (R105, R119). -/
def State.globalBytes (s : State) (a n : Nat) (xs : List Xlat) : List Byte :=
  (((range a n).map (fun b => b % 2 ^ 64)).zip xs).map (fun e => overlayHeld s.me.held false e.1 (s.mem.viewByte s.tan.die e.2.pa))

/-- The bytes that the hart reads at offset `a` of its shared space: its held stores over scratch (R86, R105). -/
def State.sharedBytes (s : State) (a n : Nat) : List Byte :=
  (range a n).map (fun b => overlayHeld s.me.held true b (s.mem.scratchByte s.free s.tan.unit b))

/-- The strip buffer has room for a store to the bytes `vs` (R108, R393). -/
def State.holds (s : State) (shared : Bool) (vs : List Nat) : Prop :=
  distinctHeld s.me.held + (freshBytes shared vs s.me.held).length ≤ s.stripShare ∨
  s.me.held.foldl (fun n x => n + x.bytes.length) vs.length ≤ s.stripShare

/-- The state with a plain store held behind those held already: in one piece where it is aligned, byte by byte otherwise (R87, R108). -/
def State.held' (s : State) (shared aligned : Bool) (bs : List HeldByte) : State :=
  { s with me := { s.me with held := s.me.held ++
      (if aligned then [{ shared := shared, eligible := false, bytes := bs, strip := s.me.strip.serial }]
       else bs.map (fun b => { shared := shared, eligible := false, bytes := [b], strip := s.me.strip.serial })) } }

/-- The state with some accesses noted (the model's own field). -/
def State.noted (s : State) (ns : List Note) : State := { s with notes := ns }

/-! ## Retirement -/

/-- Nothing watches the hart's retirement: no marked loop is active, no trial runs, the context keeps no history ring, no cluster was just
resumed over a comparator match, no closed strip owes CIDX anything, and no request of the hart and no store performed after retirement is under way to a
peer (R108, R286, R316, R367, R370, R377, R380, R381). -/
def State.Quiet (s : State) : Prop :=
  s.me.loop = none ∧ s.me.csr.trctl.getLsbD 0 = false ∧ s.myCtx.histBase = none ∧ s.dbg.passed = [] ∧ s.tan.owed = [] ∧
  ∀ r ∈ s.links.requests, r.posted = false ∧ r.hart ≠ s.hart

/-- The state once the instruction under way has retired unwatched, with next pc `npc`: INSTRET counts it, flags of its elements join FFLAGS,
its saved operand state goes, and a vector instruction is counted (R41, R47, R180, R186, R380). `tis` is TIS as the instruction found it: its
recheck count, if it had one, is done with (R354). -/
def State.retired (s : State) (npc : Word) (vector tis : Bool) : State :=
  let n := if vector then 1 else 0
  { s with
    tan := { s.tan with vectorCount := s.tan.vectorCount + n }
    me := { s.me.withSaved none with
      pc := npc
      stalled := none
      stallAddr := 0
      barWait := none
      recheck := .idle
      counted := s.me.counted.filter (fun c => c.1 != tis)
      disagreed := none
      history := s.me.history + n
      csr := { s.me.csr with
        fflags := s.me.csr.fflags ||| (s.me.savedNow.map (·.flags)).getD 0
        instret := s.me.csr.instret + 1 } } }

/-! ## Tiles and vector instructions (R16–R18, R38, R39, R185, R186, R354) -/

/-- A vector instruction of the hart in focus starts here and runs once: it is not resumed, no recheck covers it, and its core is no firmware
core (R18, R151, R354). -/
def State.vectorHere (s : State) : Prop := s.me.csr.rck = 0 ∧ s.tan.firmware = none ∧ s.me.savedNow = none

/-- The name `n` with group factor `g` holds RC rows: a multiple of g with its registers below 112, or at most a queue's depth (R39, R185). -/
def State.tileFits (s : State) (n g : Nat) : Prop :=
  if n < 112 then n % g = 0 ∧ n + s.me.csr.rows * g ≤ 112 else s.me.csr.rows * g ≤ 16

/-- The source tile can be read now: registers always, a queue while it holds its RC × g entries without error and before any fault marker (R16,
R17, R345, R360). -/
def State.tileHere (s : State) (n g : Nat) : Prop :=
  s.srcOk n ∧ s.tileFits n g ∧
  (n < 112 ∨ (s.me.csr.rows * g ≤ (s.tan.vfifo (n - 112)).items.length ∧ (s.tan.vfifo (n - 112)).bad = false ∧
    ∀ m, (s.tan.vfifo (n - 112)).marker = some m → s.me.csr.rows * g ≤ m ∨ s.peer.exited = true))

/-- The destination tile can be written now: registers always, a queue with room for every row (R17, R18). -/
def State.tileRoom (s : State) (n g : Nat) : Prop :=
  s.dstOk n ∧ s.tileFits n g ∧ (n < 112 ∨ (s.tan.vfifo (n - 112)).items.length + s.me.csr.rows * g ≤ 16)

/-- The registers of a source tile: those that the name counts up from, or the queue's oldest entries (R16, R38). -/
def State.tileValue (s : State) (n g : Nat) : List VReg :=
  if n < 112 then (range 0 (s.me.csr.rows * g)).map (fun k => s.me.readV (n + k))
  else (s.tan.vfifo (n - 112)).items.take (s.me.csr.rows * g)

/-- The state once a source tile has been read: a queue has lost its entries, which keep their slots while the strip can be run again (R183). -/
def State.tileTaken (s : State) (n g : Nat) : State :=
  if n < 112 then s
  else { s with tan := { s.tan with
      vq := sparseSet {} s.tan.vq (n - 112) ((s.tan.vfifo (n - 112)).pop (s.me.csr.rows * g) 16 s.me.keepsPops) } }

/-- The state with one row pushed to the queue that `n` names. A push ends the re-run of the strip, and that of the peer where only slots kept
for it are free (R18, R183). -/
def State.rowPut (n : Nat) (s : State) (xs : List VReg) : State :=
  let f := s.tan.vfifo (n - 112)
  let s1 := (if 16 < f.items.length + f.spent.length + xs.length then s.spoilPeer else s).spoilStrip
  { s1 with tan := { s1.tan with vq := sparseSet {} s1.tan.vq (n - 112) ((s1.tan.vfifo (n - 112)).push s1.me.pc s1.me.tis xs) } }

/-- The state with the registers `xs` of RC rows, `g` to a row, in the destination tile: written unless VL is 0, or pushed row by row (R18, R186);
VSTART is 0. -/
def State.tilePut (s : State) (n g : Nat) (xs : List VReg) : State :=
  let t :=
    if n < 112 then (if s.me.csr.len = 0 then s else { s with me := writeTile n xs s.me })
    else ((range 0 s.me.csr.rows).map (rowRegs xs g)).foldl (State.rowPut n) s
  { t with me := { t.me with csr := { t.me.csr with vstart := 0 } } }

/-- Two tiles share no architectural register (R37, R185). -/
def State.apart (s : State) (a ga b gb : Nat) : Prop :=
  a < 112 → b < 112 → ∀ k < s.me.csr.rows * ga, ∀ l < s.me.csr.rows * gb, s.me.archV (a + k) ≠ s.me.archV (b + l)

/-- Where an elementwise instruction performs element i of row j (R186): `op` where its linear index is at least VSTART and it is unmasked or its
bit of p0 is 1. -/
def State.each (s : State) (m : Bool) (op : Nat → Nat → Nat × Nat) (j i : Nat) : Elem :=
  if s.me.csr.len ≤ i then .inactive
  else if j * s.me.csr.len + i < s.me.csr.start then .kept
  else if m = false ∨ (s.me.readP 0).getLsbD (1024 * j + i) = true then .value (op j i).1 (op j i).2
  else .inactive

/-- What element i of row j of the destination becomes, its old value being `old`: an inactive element or one of the tail is kept, or zeroed under
IP (R186). -/
def State.elemAfter (s : State) (w : Nat) (f : Nat → Nat → Elem) (j i old : Nat) : Nat :=
  match f j i with
  | .value v _ => v % 2 ^ w
  | .inactive => if s.me.csr.ip then 0 else old
  | .kept => old

/-- The flags that one element raises. -/
def Elem.flags : Elem → Nat
  | .value _ fl => fl
  | _ => 0

/-- The flags of all elements performed in RC rows of `lanes` elements (R63, R186). -/
def State.flagsOf (s : State) (lanes : Nat) (f : Nat → Nat → Elem) : Nat :=
  (range 0 s.me.csr.rows).foldl (fun a j => a ||| (range 0 lanes).foldl (fun b i => b ||| (f j i).flags) 0) 0

/-- The instruction `i` retires having left `t` and raised the flags `fl`, which are merged as it retires; what was kept of its popped operands
and pushed rows goes with it (R18, R186). -/
def State.retiresWith (s : State) (i : Instr) (t : State) (fl : Nat) : Prop :=
  ∃ sv : Option Saved, (sv.map (·.flags)).getD 0 = BitVec.ofNat 64 fl ∧
    exec i s = .next (retire s (s.me.pc + 4) { t with me := t.me.withSaved sv })

/-- The instruction `i` retires with a tile of `gd` registers to a row in D, elements of `w` bits as `f` says, over the state `t` that its operands left. -/
def State.retiresTile (s : State) (i : Instr) (t : State) (d gd w : Nat) (f : Nat → Nat → Elem) : Prop :=
  ∃ xs : List VReg, xs.length = s.me.csr.rows * gd ∧
    (∀ j < s.me.csr.rows, ∀ k < gd * (1024 / w), elemAt xs gd w j k =
      s.elemAfter w f j k (if d < 112 then elemAt (s.tileValue d gd) gd w j k else 0)) ∧
    s.retiresWith i (t.tilePut d gd xs) (s.flagsOf (gd * (1024 / w)) f)

/-! ## What holds after every step -/

/-- Every table of a hart's registers is in its one canonical form (R35–R37). -/
def Hart.tidy (h : Hart) : Prop :=
  sparseWf 0 h.s = true ∧ sparseWf 0 h.v = true ∧ sparseWf 0 h.p = true ∧ sparseWf 0 h.k = true ∧ sparseWf 0 h.h = true

/-- The registers and tiles of a tandem away from the focus are in their canonical form. -/
def Away.tidy (x : Away) : Prop := x.e.tidy ∧ x.a.tidy ∧ sparseWf 0 x.t.zt = true

/-- Memory and the registers and tiles of every tandem, those of a recovery point included, are in their one canonical form: keys strictly rising, nothing listed that an unlisted key
reads as. -/
def State.Tidy (s : State) : Prop :=
  Memory.wf s.mem.cells = true ∧ s.me.tidy ∧ s.peer.tidy ∧ sparseWf 0 s.tan.zt = true ∧ (∀ x ∈ s.away, x.tidy) ∧
  ∀ p, s.rel.safe = some p → ∀ x ∈ p.tandems, x.tidy

/-- Every RUNNING context has a tandem that occupies a slot or for which an engine works (R270), and a queue that a debugger holds has
landed as soon as no kernel of it is live (R379). -/
def State.Settled (s : State) : Prop :=
  (∀ c ∈ s.ctxs, c.state = .running → ∃ x ∈ s.contextTandems c.num, x.busy = true) ∧
  (∀ q ∈ s.queues, q.hold = true → q.landed = false → ∃ k ∈ s.kernels, k.ctx = q.ctx ∧ k.qid = q.num ∧ k.live = true)

end Sys2Proof.Machine
end

