-- ==== Sys2Proof/Certificates/Slice0/Obligations.lean ====
section
/-! DEFINITION. The statements for the provers. -/

open Sys2Proof Sys2Proof.Machine

/-! ## Retirement -/

/-- R47, R180, R186: where nothing watches it, retiring an instruction changes the program counter, INSTRET, FFLAGS by the flags of its elements,
and what the hart holds about the instruction itself; a vector instruction is also counted (R380). -/
def Obligations.QuietRetirementOnlyRetires : Prop :=
  ∀ (s0 s : State) (npc : Word) (recorded : Bool) (taken : Option Bool), s0.Quiet → s.Quiet →
    retireWith recorded s0 npc taken s = s.retired npc (isVector s0.ir) s0.me.tis

/-! ## Scalar instructions (R157–R168) -/

/-- The members of ALU that read two sources, with what R159 writes to s[D] (MUL's halves as bits of the 128-bit product). -/
def Claims.aluPairs : List ((BitVec 7 → BitVec 7 → BitVec 7 → Instr) × (Word → Word → Word)) :=
  [(.add, fun x y => x + y), (.sub, fun x y => x - y), (.and, fun x y => x &&& y), (.or, fun x y => x ||| y),
   (.xor, fun x y => x ^^^ y), (.andn, fun x y => x &&& ~~~y),
   (.sll, fun x y => x <<< (y.toNat % 64)), (.srl, fun x y => x >>> (y.toNat % 64)),
   (.sra, fun x y => x.sshiftRight (y.toNat % 64)),
   (.slt, fun x y => if x.toInt < y.toInt then 1 else 0), (.sltn, fun x y => if x.toNat < y.toNat then 1 else 0),
   (.min, fun x y => if x.toInt ≤ y.toInt then x else y), (.max, fun x y => if x.toInt ≤ y.toInt then y else x),
   (.minn, fun x y => if x.toNat ≤ y.toNat then x else y), (.maxn, fun x y => if x.toNat ≤ y.toNat then y else x),
   (.mul, fun x y => x * y),
   (.mulh, fun x y => (x.signExtend 128 * y.signExtend 128).extractLsb' 64 64),
   (.mulhn, fun x y => (x.zeroExtend 128 * y.zeroExtend 128).extractLsb' 64 64),
   (.addw, fun x y => ((x + y).truncate 32).signExtend 64), (.subw, fun x y => ((x - y).truncate 32).signExtend 64),
   (.sllw, fun x y => (x.truncate 32 <<< (y.toNat % 32)).signExtend 64),
   (.srlw, fun x y => (x.truncate 32 >>> (y.toNat % 32)).signExtend 64),
   (.sraw, fun x y => ((x.truncate 32).sshiftRight (y.toNat % 32)).signExtend 64)]

/-- R160: the quotients and remainders of DIV, DIVN, REM and REMN, by the cases of its table. -/
def Claims.divides (i : Nat) (x y q : Word) : Prop :=
  match i with
  | 0 => (y = 0 → q = if x = 0 then 0 else if x.toInt < 0 then 0x8000000000000000 else 0x7FFFFFFFFFFFFFFF) ∧
      (x.toInt = -(2 ^ 63) → y.toInt = -1 → q = 0x7FFFFFFFFFFFFFFF) ∧
      (y ≠ 0 → ¬(x.toInt = -(2 ^ 63) ∧ y.toInt = -1) → q.toInt = x.toInt.tdiv y.toInt)
  | 1 => (y = 0 → q = if x = 0 then 0 else 0xFFFFFFFFFFFFFFFF) ∧ (y ≠ 0 → q.toNat = x.toNat / y.toNat)
  | 2 => (y = 0 → q = x) ∧ (x.toInt = -(2 ^ 63) → y.toInt = -1 → q = 0) ∧
      (y ≠ 0 → q.toInt = x.toInt - y.toInt * x.toInt.tdiv y.toInt)
  | _ => (y = 0 → q = x) ∧ (y ≠ 0 → q.toNat = x.toNat - y.toNat * (x.toNat / y.toNat))

/-- CLZ, CTZ and POPC of R159: `c` zeros lead or trail `x` (64 for 0), or `c` bits of it are one. -/
def Claims.counts (i : Nat) (x c : Word) : Prop :=
  match i with
  | 0 => c.toNat ≤ 64 ∧ x.toNat < 2 ^ (64 - c.toNat) ∧ (x ≠ 0 → x.getLsbD (63 - c.toNat) = true)
  | 1 => c.toNat ≤ 64 ∧ 2 ^ c.toNat ∣ x.toNat + (if x = 0 then 2 ^ 64 else 0) ∧ (x ≠ 0 → x.getLsbD c.toNat = true)
  | _ => c.toNat = ((List.range 64).filter (fun j => x.getLsbD j)).length

/-- R159, R16, R157: where the sources can be read and D written, each two-source member of ALU retires with the table's value in s[D] and
changes nothing else but the queues its operands name; A is popped before B, and both before D is pushed.

R160: a division completes on every value, and s[D] takes the table's quotient or remainder.

R159: CLZ, CTZ and POPC. -/
def Obligations.ScalarAluWritesItsTablesValue : Prop :=
  (∀ p ∈ Claims.aluPairs, ∀ (d a b : BitVec 7) (s : State), s.can2 d.toNat a.toNat b.toNat →
     exec (p.1 d a b) s =
       .next (retire s (s.me.pc + 4) (((s.srcTaken a.toNat).srcTaken b.toNat).dstPut d.toNat
         (p.2 (s.srcValue a.toNat) ((s.srcTaken a.toNat).srcValue b.toNat))))) ∧
  (∀ (d a b : BitVec 7) (s : State), s.can2 d.toNat a.toNat b.toNat →
     ∀ k ∈ (range 0 4).zip [Instr.div d a b, .divn d a b, .rem d a b, .remn d a b],
       ∃ q, Claims.divides k.1 (s.srcValue a.toNat) ((s.srcTaken a.toNat).srcValue b.toNat) q ∧
         exec k.2 s = .next (retire s (s.me.pc + 4) (((s.srcTaken a.toNat).srcTaken b.toNat).dstPut d.toNat q))) ∧
  (∀ (d a : BitVec 7) (s : State), s.can1 d.toNat a.toNat →
     ∀ k ∈ (range 0 3).zip [Instr.clz d a, .ctz d a, .popc d a],
       ∃ c, Claims.counts k.1 (s.srcValue a.toNat) c ∧
         exec k.2 s = .next (retire s (s.me.pc + 4) ((s.srcTaken a.toNat).dstPut d.toNat c)))

/-- The members of ALUI and SHI, with what R161 writes to s[D]. -/
def Claims.aluImms : List ((BitVec 7 → BitVec 7 → BitVec 10 → Instr) × (Word → Word → Word)) :=
  [(.addi, fun x i => x + i), (.andi, fun x i => x &&& i), (.ori, fun x i => x ||| i), (.xori, fun x i => x ^^^ i),
   (.slti, fun x i => if x.toInt < i.toInt then 1 else 0),
   (fun d a i => .slli d a (i.truncate 6), fun x i => x <<< (i.toNat % 64)),
   (fun d a i => .srli d a (i.truncate 6), fun x i => x >>> (i.toNat % 64)),
   (fun d a i => .srai d a (i.truncate 6), fun x i => x.sshiftRight (i.toNat % 64))]

/-- R161, R162: the immediate members and LUI and ADDPC retire with the rule's value in s[D]. -/
def Obligations.ImmediateInstructionsWriteTheirValue : Prop :=
  (∀ p ∈ Claims.aluImms, ∀ (d a : BitVec 7) (i : BitVec 10) (s : State), s.can1 d.toNat a.toNat →
    exec (p.1 d a i) s =
      .next (retire s (s.me.pc + 4) ((s.srcTaken a.toNat).dstPut d.toNat (p.2 (s.srcValue a.toNat) (i.signExtend 64))))) ∧
  (∀ (d : BitVec 7) (i : BitVec 19) (s : State), s.dstOk d.toNat → s.dstRoom d.toNat →
    exec (.lui d i) s = .next (retire s (s.me.pc + 4) (s.dstPut d.toNat (BitVec.ofInt 64 (i.toInt * 4096)))) ∧
    exec (.addpc d i) s =
      .next (retire s (s.me.pc + 4) (s.dstPut d.toNat (s.me.pc + BitVec.ofInt 64 (i.toInt * 4096)))))

/-- The two-source members of FALU: the bits that each operand occupies (R163), and the result with its flags under a rounding mode and
the draw of R64. -/
def Claims.fpPairs : List ((BitVec 7 → BitVec 7 → BitVec 7 → Instr) × Nat × (Nat → Nat → Nat → Nat → Nat × Nat)) :=
  [(.faddS, 32, fAdd fp32), (.fsubS, 32, fSub fp32), (.fmulS, 32, fMul fp32), (.fdivS, 32, fDiv fp32),
   (.faddD, 64, fAdd fp64), (.fsubD, 64, fSub fp64), (.fmulD, 64, fMul fp64), (.fdivD, 64, fDiv fp64),
   (.fminS, 32, fun _ _ => minMax fp32 false), (.fmaxS, 32, fun _ _ => minMax fp32 true),
   (.fminD, 64, fun _ _ => minMax fp64 false), (.fmaxD, 64, fun _ _ => minMax fp64 true),
   (.feqS, 32, fCompareReg fp32 0), (.fltS, 32, fCompareReg fp32 1), (.fleS, 32, fCompareReg fp32 2),
   (.feqD, 64, fCompareReg fp64 0), (.fltD, 64, fCompareReg fp64 1), (.fleD, 64, fCompareReg fp64 2),
   (.fsgcS, 32, fun _ _ x y => (x % 2 ^ 31 + y / 2 ^ 31 * 2 ^ 31, 0)),
   (.fsgiS, 32, fun _ _ x y => (x % 2 ^ 31 + (1 - y / 2 ^ 31) * 2 ^ 31, 0)),
   (.fsgxS, 32, fun _ _ x y => (x % 2 ^ 31 + (x / 2 ^ 31 + y / 2 ^ 31) % 2 * 2 ^ 31, 0))]

/-- The one-source members of FALU. -/
def Claims.fpUnary : List ((BitVec 7 → BitVec 7 → Instr) × Nat × (Nat → Nat → Nat → Nat × Nat)) :=
  [(.fsqrtS, 32, fSqrt fp32), (.fsqrtD, 64, fSqrt fp64), (.fclassS, 32, fun _ _ x => (classCode fp32 x, 0)),
   (.fcvtSI, 64, fun m r x => fp32.deliver m r (intVal (toSigned 64 x))),
   (.fcvtDI, 64, fun m r x => fp64.deliver m r (intVal (toSigned 64 x))),
   (.fcvtIS, 32, toIntegerCode fp32 true 64), (.fcvtID, 64, toIntegerCode fp64 true 64),
   (.fcvtDS, 32, convert fp32 fp64), (.fcvtSD, 64, convert fp64 fp32), (.fcvtHS, 32, convert fp32 fp16),
   (.fcvtSH, 16, convert fp16 fp32)]

/-- FMA, FMS and FNMA: the format, and whether the product and the addend change sign (R166). -/
def Claims.fpFused : List ((BitVec 7 → BitVec 7 → BitVec 7 → Instr) × Fmt × Bool × Bool) :=
  [(.fmaS, fp32, false, false), (.fmsS, fp32, false, true), (.fnmaS, fp32, true, false),
   (.fmaD, fp64, false, false), (.fmsD, fp64, false, true), (.fnmaD, fp64, true, false)]

/-- R163, R164, R165, R166: a scalar floating-point member reads the low bits of its operands, writes its result with the bits above it 0,
raises its flags into FFLAGS, and retires on every value; D of an FMA member names a register and is read before it is written. -/
def Obligations.ScalarFloatWritesResultAndFlags : Prop :=
  (∀ p ∈ Claims.fpPairs, ∀ (d a b : BitVec 7) (s : State), s.can2 d.toNat a.toNat b.toNat →
    let t := (s.srcTaken a.toNat).srcTaken b.toNat
    let r := p.2.2 (s.rounding 0).1 (s.rounding 0).2 ((s.srcValue a.toNat).toNat % 2 ^ p.2.1)
      (((s.srcTaken a.toNat).srcValue b.toNat).toNat % 2 ^ p.2.1)
    exec (p.1 d a b) s = .next (retire s (s.me.pc + 4) ((t.raised r.2).dstPut d.toNat (BitVec.ofNat 64 r.1)))) ∧
  (∀ p ∈ Claims.fpUnary, ∀ (d a : BitVec 7) (s : State), s.can1 d.toNat a.toNat →
    let r := p.2.2 (s.rounding 0).1 (s.rounding 0).2 ((s.srcValue a.toNat).toNat % 2 ^ p.2.1)
    exec (p.1 d a) s =
      .next (retire s (s.me.pc + 4) (((s.srcTaken a.toNat).raised r.2).dstPut d.toNat (BitVec.ofNat 64 r.1)))) ∧
  (∀ p ∈ Claims.fpFused, ∀ (d a b : BitVec 7) (s : State), s.can2 d.toNat a.toNat b.toNat → d.toNat < 112 →
    let t := (s.srcTaken a.toNat).srcTaken b.toNat
    let w := 2 ^ p.2.1.width
    let r := fFma p.2.1 p.2.1 (s.rounding 0).1 (s.rounding 0).2 p.2.2.1 p.2.2.2 ((s.srcValue a.toNat).toNat % w)
      (((s.srcTaken a.toNat).srcValue b.toNat).toNat % w) ((s.me.readS d.toNat).toNat % w)
    exec (p.1 d a b) s = .next (retire s (s.me.pc + 4) ((t.raised r.2).dstPut d.toNat (BitVec.ofNat 64 r.1))))

/-- R61, R62: rounding a value that a format represents gives back its code and raises no flag, under every rounding mode and every draw;
for the fixed formats of R51.

R165: FMIN and FMAX with one NaN give the other operand, with two the canonical NaN; they order −0 below +0; NV is raised for a
signalling operand only. -/
def Obligations.FloatValuesRoundAndOrder : Prop :=
  (∀ f ∈ [fp64, fp32, fp16, bf16, e4m3, e5m2], ∀ (mode r c : Nat), c < 2 ^ f.width → (f.decode c).isNaN = false →
     f.deliver mode r (f.decode c) = (c, 0)) ∧
  (∀ f ∈ [fp64, fp32], ∀ (big : Bool) (x y : Nat), x < 2 ^ f.width → y < 2 ^ f.width →
     ((f.decode x).isNaN = true → (f.decode y).isNaN = false → (minMax f big x y).1 = y ∧ (minMax f big y x).1 = y) ∧
     ((f.decode x).isNaN = true → (f.decode y).isNaN = true → f.canonical = some (minMax f big x y).1) ∧
     (minMax f true 0 (2 ^ (f.width - 1)) = (0, 0) ∧ minMax f true (2 ^ (f.width - 1)) 0 = (0, 0) ∧
       minMax f false 0 (2 ^ (f.width - 1)) = (2 ^ (f.width - 1), 0) ∧
       minMax f false (2 ^ (f.width - 1)) 0 = (2 ^ (f.width - 1), 0)) ∧
     ((minMax f big x y).2 = if (f.decode x).signals || (f.decode y).signals then 1 else 0))

/-- What a jump to `target`, or a branch to it that is taken, ends in from the state `t` that its operands left: it retires there; out of the active
loop it first clears ACT of the sweep's header, if there is one, and then leaves the loop (R167, R168, R259, R332). -/
def Claims.goes (s t : State) (target : Word) (o : Host.Outcome State Fault Refusal) : Prop :=
  (leavesLoop t.me target = false → o = .next (retireWith true s target (some true) t)) ∧
  (leavesLoop t.me target = true → ∀ u, abandonSweep t.me t = .ok () u →
    o = .next { retireWith true s target (some true) u with me := (retireWith true s target (some true) u).me.leaveLoop })

/-- The tests of BZ, by constructor (R167). -/
def Claims.zeroBranches : List ((BitVec 7 → BitVec 16 → Instr) × (Word → Bool)) :=
  [(.beqz, fun x => x == 0), (.bnez, fun x => x != 0), (.bltz, fun x => x.msb), (.bgez, fun x => !x.msb),
   (.bgtz, fun x => !x.msb && x != 0), (.blez, fun x => x.msb || x == 0)]

/-- The tests of B2, by constructor (R167). -/
def Claims.pairBranches : List ((BitVec 7 → BitVec 7 → BitVec 9 → Instr) × (Word → Word → Bool)) :=
  [(.beq, fun x y => x == y), (.bne, fun x y => x != y), (.blt, fun x y => x.slt y), (.bge, fun x y => !x.slt y),
   (.bltn, fun x y => x.ult y), (.bgen, fun x y => !x.ult y)]

/-- R167, R145: a conditional branch pops its operands, and goes to the target, counted in words from itself, where its test holds, and to the
next word otherwise. A branch out of the active marked loop leaves it (R259), with ACT of its sweep's header cleared first (R332; log 116, the model's
reading).

R168: J, JL and JLR: the target, and PC + 4 in window name s1 or s[D]; JLR reads s[A] before it writes s[D] and clears bits [1:0] of its
target; the word of RET. -/
def Obligations.BranchesAndJumpsGoWhereTheySay : Prop :=
  ((∀ p ∈ Claims.zeroBranches, ∀ (a : BitVec 7) (o : BitVec 16) (s : State), s.srcOk a.toNat → s.srcHere a.toNat →
     let t := s.srcTaken a.toNat
     (p.2 (s.srcValue a.toNat) = true → Claims.goes s t (s.me.pc + 4 * o.signExtend 64) (exec (p.1 a o) s)) ∧
     (p.2 (s.srcValue a.toNat) = false → exec (p.1 a o) s = .next (retireWith true s (s.me.pc + 4) (some false) t))) ∧
   (∀ p ∈ Claims.pairBranches, ∀ (a b : BitVec 7) (o : BitVec 9) (s : State), s.can2 0 a.toNat b.toNat →
     let t := (s.srcTaken a.toNat).srcTaken b.toNat
     let x := p.2 (s.srcValue a.toNat) ((s.srcTaken a.toNat).srcValue b.toNat)
     (x = true → Claims.goes s t (s.me.pc + 4 * o.signExtend 64) (exec (p.1 a b o) s)) ∧
     (x = false → exec (p.1 a b o) s = .next (retireWith true s (s.me.pc + 4) (some false) t)))) ∧
  ((∀ (o : BitVec 26) (s : State),
     Claims.goes s s (s.me.pc + 4 * o.signExtend 64) (exec (.j o) s) ∧
     Claims.goes s { s with me := s.me.writeS 1 (s.me.pc + 4) } (s.me.pc + 4 * o.signExtend 64) (exec (.jl o) s)) ∧
   (∀ (d a : BitVec 7) (i : BitVec 12) (s : State), s.can1 d.toNat a.toNat →
     Claims.goes s ((s.srcTaken a.toNat).dstPut d.toNat (s.me.pc + 4)) ((s.srcValue a.toNat + i.signExtend 64) &&& ~~~3#64) (exec (.jlr d a i) s)) ∧
   decodeWord 0x0000200C = .ok (.jlr 0 1 0))

/-! ## Scalar memory instructions (R85–R87, R105, R108, R169–R175) -/

/-- A value of `n` bytes as LDG, LDS and the acquire loads extend it, or as LDGZ does (R169, R171). -/
def Claims.extended (signed : Bool) (bs : List Byte) : Word :=
  if signed then BitVec.ofInt 64 ((BitVec.ofNat (8 * bs.length) (ofBytes bs)).toInt) else BitVec.ofNat 64 (ofBytes bs)

/-- R169, R170, R171, R86, R105: a load from the shared space retires with the bytes at its offset in s[D], sign-extended; it reads the hart's
own held stores over scratch, and changes nothing else.

R169, R170, R171, R105: a load from cached device memory retires with the bytes at its address in s[D], LDGZ zero-extended and the others
sign-extended; a plain load need not be aligned (R87). Beside s[D] only the page's A bit and cached translation change. -/
def Obligations.ScalarLoadsReadTheirSpace : Prop :=
  ((∀ (d a : BitVec 7) (z : BitVec 2) (i : BitVec 10) (s : State), s.can1 d.toNat a.toNat → s.me.copies = [] →
     let t := s.srcTaken a.toNat
     let n := 2 ^ z.toNat
     let p := (s.srcValue a.toNat + i.signExtend 64).toNat
     p + n ≤ s.sharedTop + 1 → s.soundShared p n →
     ∃ ns, exec (.lds d a z i) s = .next (retire s (s.me.pc + 4)
       ((State.noted { t with free := t.free + 1 } ns).dstPut d.toNat (Claims.extended true (t.sharedBytes p n))))) ∧
   (∀ p ∈ [(Instr.ldasW, 4), (Instr.ldasD, 8)], ∀ (d a : BitVec 7) (s : State), s.can1 d.toNat a.toNat → s.me.copies = [] →
     let t := s.srcTaken a.toNat
     let o := (s.srcValue a.toNat).toNat
     o % p.2 = 0 → o + p.2 ≤ s.sharedTop + 1 → s.soundShared o p.2 →
     ∃ ns, exec (p.1 d a) s = .next (retire s (s.me.pc + 4)
       ((State.noted { t with free := t.free + 1 } ns).dstPut d.toNat (Claims.extended true (t.sharedBytes o p.2)))))) ∧
  ((∀ p ∈ [(Instr.ldg, true), (Instr.ldgz, false)], ∀ (d a : BitVec 7) (z : BitVec 2) (i : BitVec 10) (s : State) (xs : List Xlat),
     s.can1 d.toNat a.toNat → s.unwatched →
     let n := 2 ^ z.toNat
     let q := (s.srcValue a.toNat + i.signExtend 64).toNat
     s.opens .load false q n xs → s.sound xs →
     let t := (s.srcTaken a.toNat).marked .load xs
     ∃ ns, exec (p.1 d a z i) s =
       .next (retire s (s.me.pc + 4) ((t.noted ns).dstPut d.toNat (Claims.extended p.2 (t.globalBytes q n xs))))) ∧
   (∀ p ∈ [(Instr.ldaW, 4), (Instr.ldaD, 8)], ∀ (d a : BitVec 7) (s : State) (xs : List Xlat),
     s.can1 d.toNat a.toNat → s.unwatched →
     let q := (s.srcValue a.toNat).toNat
     q % p.2 = 0 → s.opens .load false q p.2 xs → s.sound xs →
     let t := (s.srcTaken a.toNat).marked .load xs
     ∃ ns, exec (p.1 d a) s =
       .next (retire s (s.me.pc + 4) ((t.noted ns).dstPut d.toNat (Claims.extended true (t.globalBytes q p.2 xs))))))

/-- The bytes of a store, each with its address and where it lands. -/
def Claims.heldBytes (vs pas : List Nat) (bs : List Byte) : List HeldByte :=
  (vs.zip (pas.zip bs)).map (fun e => { va := e.1, pa := e.2.1, val := e.2.2, mask := 0xFF })

/-- R169, R170, R108, R87: STS and STG hold the low bytes of their data in the strip buffer, in one piece where aligned; memory and every
register stay as they are, beside a page's A and D bits.

R105: a hart reads a byte it has just stored, and every other byte as before, whatever it holds already: of the shared space and of
global memory. -/
def Obligations.PlainStoresAreHeldAndSeen : Prop :=
  ((∀ (d a : BitVec 7) (z : BitVec 2) (i : BitVec 10) (s : State), s.srcOk a.toNat → s.srcOk d.toNat →
     s.srcHere a.toNat → (s.srcTaken a.toNat).srcHere d.toNat → s.me.copies = [] →
     let t := (s.srcTaken a.toNat).srcTaken d.toNat
     let n := 2 ^ z.toNat
     let p := (s.srcValue a.toNat + i.signExtend 64).toNat
     let bs := toBytes n ((s.srcTaken a.toNat).srcValue d.toNat).toNat
     p + n ≤ s.sharedTop + 1 → t.holds true (range p n) →
     ∃ ns, exec (.sts d a z i) s = .next (retire s (s.me.pc + 4)
       ((t.noted ns).held' true (decide (p % n = 0)) (Claims.heldBytes (range p n) (List.replicate n 0) bs)))) ∧
   (∀ (d a : BitVec 7) (z : BitVec 2) (i : BitVec 10) (s : State) (xs : List Xlat), s.srcOk a.toNat → s.srcOk d.toNat →
     s.srcHere a.toNat → (s.srcTaken a.toNat).srcHere d.toNat → s.unwatched →
     let n := 2 ^ z.toNat
     let q := (s.srcValue a.toNat + i.signExtend 64).toNat
     let vs := (range q n).map (fun b => b % 2 ^ 64)
     let bs := toBytes n ((s.srcTaken a.toNat).srcValue d.toNat).toNat
     s.opens .store false q n xs →
     let t := ((s.srcTaken a.toNat).srcTaken d.toNat).marked .store xs
     t.holds false vs →
     ∃ ns, exec (.stg d a z i) s = .next (retire s (s.me.pc + 4)
       ((t.noted ns).held' false (decide (q % n = 0)) (Claims.heldBytes vs (xs.map (·.pa)) bs))))) ∧
  (∀ (s : State) (shared aligned : Bool) (vs pas : List Nat) (bs : List Byte) (v : Nat) (b : Byte),
     vs.Nodup → pas.length = vs.length → bs.length = vs.length →
     overlayHeld (s.held' shared aligned (Claims.heldBytes vs pas bs)).me.held shared v b =
       (match vs.idxOf? v with
        | some k => bs.getD k 0
        | none => overlayHeld s.me.held shared v b) ∧
     overlayHeld (s.held' shared aligned (Claims.heldBytes vs pas bs)).me.held (!shared) v b = overlayHeld s.me.held (!shared) v b)

/-- R108, R119, R393: when a strip ends, the hart's held stores to device memory and scratch are performed in program order: its die's view and
scratch then hold what the hart read before, byte by byte; nothing stays held, and other dies' views stay as they are. -/
def Obligations.HeldStoresArePerformedInOrder : Prop :=
  ∀ s : State, s.tan.core < 256 → s.tan.firmware = none → s.isFirmware s.hart = false →
    (∀ x ∈ s.me.held, (∀ b ∈ x.bytes, b.pa < deviceTop) ∧ (x.shared = true → ∀ b ∈ x.bytes, b.va < 0x400000)) →
    let t := s.endStrip
    t.me.held = [] ∧
    (∀ pa, t.mem.viewByte s.tan.die pa =
      overlay pa (s.mem.viewByte s.tan.die pa)
        ((s.me.held.filter (fun x => !x.shared)).flatMap (fun x => x.bytes.map (fun b => (b.pa, b.val, b.mask))))) ∧
    (∀ d pa, d ≠ s.tan.die → t.mem.viewByte d pa = s.mem.viewByte d pa) ∧
    (∀ o < 0x400000, t.mem.scratchByte t.free s.tan.unit o = overlayHeld s.me.held true o (s.mem.scratchByte s.free s.tan.unit o))

/-- Byte i of a little-endian value. -/
def Claims.byteOf (x i : Nat) : Byte := BitVec.ofNat 8 (x / 256 ^ i)

/-- R171, R113: STL.W, STL.D, STLS.W and STLS.D perform every held store before their own, then write their own bytes at once; memory elsewhere
is as the held stores leave it, and no register changes. -/
def Obligations.ReleaseStoresLandBehindHeldStores : Prop :=
  (∀ p ∈ [(Instr.stlsW, 4), (Instr.stlsD, 8)], ∀ (a b : BitVec 7) (s : State), s.can2 0 a.toNat b.toNat → s.me.copies = [] → s.Quiet →
    let o := (s.srcValue a.toNat).toNat
    let x := ((s.srcTaken a.toNat).srcValue b.toNat).toNat
    let u := ((s.srcTaken a.toNat).srcTaken b.toNat).endStrip
    o % p.2 = 0 → o + p.2 ≤ s.sharedTop + 1 → u.Quiet →
    ∃ t, exec (p.1 a b) s = .next t ∧ t.me.pc = s.me.pc + 4 ∧ t.me.held = [] ∧ t.me.s = s.me.s ∧ t.me.v = s.me.v ∧ t.me.p = s.me.p ∧
      (∀ i < p.2, t.mem.scratchByte t.free s.tan.unit (o + i) = Claims.byteOf x i) ∧
      (∀ q < 0x400000, (q < o ∨ o + p.2 ≤ q) →
        t.mem.scratchByte t.free s.tan.unit q = u.mem.scratchByte u.free s.tan.unit q) ∧
      t.mem.cells = u.mem.cells ∧ t.mem.flight = u.mem.flight) ∧
  (∀ p ∈ [(Instr.stlW, 4), (Instr.stlD, 8)], ∀ (a b : BitVec 7) (s : State) (xs : List Xlat) (pa : Nat),
    s.can2 0 a.toNat b.toNat → s.unwatched → s.Quiet → s.tan.core < 256 → s.tan.firmware = none → s.isFirmware s.hart = false →
    let q := (s.srcValue a.toNat).toNat
    let x := ((s.srcTaken a.toNat).srcValue b.toNat).toNat
    let u := (((s.srcTaken a.toNat).srcTaken b.toNat).marked .store xs).endStrip
    q % p.2 = 0 → s.opens .store false q p.2 xs → xs.map (·.pa) = range pa p.2 → pa % p.2 = 0 → u.Quiet →
    ∃ t, exec (p.1 a b) s = .next t ∧ t.me.pc = s.me.pc + 4 ∧ t.me.held = [] ∧ t.me.s = s.me.s ∧ t.me.v = s.me.v ∧ t.me.p = s.me.p ∧
      (∀ i < p.2, t.mem.viewByte s.tan.die (pa + i) = Claims.byteOf x i) ∧
      (∀ r, (r < pa ∨ pa + p.2 ≤ r) → t.mem.viewByte s.tan.die r = u.mem.viewByte s.tan.die r) ∧
      t.mem.scratch = u.mem.scratch)

/-- The atomics of R173 and R174, for AMG and AMS: whether the old value is sign-extended, whether DET forbids it (R78), and what is written over `m` with operand x
and expected value e, `none` for nothing; `w` bits wide. -/
def Claims.atomics : List ((BitVec 2 → BitVec 7 → BitVec 7 → BitVec 7 → BitVec 1 → Instr) ×
    (BitVec 2 → BitVec 7 → BitVec 7 → BitVec 7 → BitVec 1 → Instr) × Bool × Bool × ((w : Nat) → BitVec w → BitVec w → BitVec w → Option (BitVec w))) :=
  [(.amgAdd, .amsAdd, true, false, fun _ m x _ => some (m + x)), (.amgAnd, .amsAnd, true, false, fun _ m x _ => some (m &&& x)),
   (.amgOr, .amsOr, true, false, fun _ m x _ => some (m ||| x)), (.amgXor, .amsXor, true, false, fun _ m x _ => some (m ^^^ x)),
   (.amgMin, .amsMin, true, false, fun _ m x _ => some (if x.slt m then x else m)),
   (.amgMax, .amsMax, true, false, fun _ m x _ => some (if m.slt x then x else m)),
   (.amgMinn, .amsMinn, false, false, fun _ m x _ => some (if x.ult m then x else m)),
   (.amgMaxn, .amsMaxn, false, false, fun _ m x _ => some (if m.ult x then x else m)),
   (.amgSwp, .amsSwp, true, false, fun _ _ x _ => some x), (.amgCas, .amsCas, true, false, fun _ m x e => if m = e then some x else none),
   (.amgFadd, .amsFadd, false, true, fun w m x _ => some (BitVec.ofNat w (fAdd (if w = 32 then fp32 else fp64) 0 0 m.toNat x.toNat).1)),
   (.amgInc, .amsInc, false, false, fun _ m x _ => some (if m.ult x then m + 1 else 0))]

/-- The sources of an atomic can be read, and D is a register (R16, R173). -/
def Claims.atomicReady (s : State) (d a b : BitVec 7) : Prop := s.can2 0 a.toNat b.toNat ∧ d.toNat < 112

/-- R173, R174, R175: an atomic on the shared space performs the held stores, reads its aligned word, writes what its member says, and leaves the
old value in s[D], extended as the member says; no other byte of scratch or memory changes. FADD runs while HCTL.DET is 0 (R78).

R131, R173, R174: an atomic on device memory performs the held stores, takes the latest value of its coherence order, writes what its member
says behind it, and leaves the old value in s[D]; the latest value of every other byte stays. That the write stands in its own die's view at once is the model's
reading of R119 and R131 (log 34). -/
def Obligations.AtomicsReadAndWriteOnce : Prop :=
  (∀ p ∈ Claims.atomics, ∀ (r : BitVec 2) (d a b : BitVec 7) (z : BitVec 1) (s : State), Claims.atomicReady s d a b → s.Tidy → s.me.copies = [] →
     s.Quiet → s.tan.firmware = none → (p.2.2.2.1 = true → s.me.csr.hctl.getLsbD 0 = false) →
     let n := 4 * (z.toNat + 1)
     let o := (s.srcValue a.toNat).toNat
     let u := ((s.srcTaken a.toNat).srcTaken b.toNat).endStrip
     o % n = 0 → o + n ≤ 0x400000 → u.soundShared o n → u.Quiet →
     let old := BitVec.ofNat (8 * n) (ofBytes (u.sharedBytes o n))
     let new := (p.2.2.2.2 (8 * n) old (((s.srcTaken a.toNat).srcValue b.toNat).setWidth _) ((s.me.readS d.toNat).setWidth _)).getD old
     ∃ t, exec (p.2.1 r d a b z) s = .next t ∧ t.me.pc = s.me.pc + 4 ∧ t.me.held = [] ∧
       t.me.readS d.toNat = (if d = 0 then 0 else if p.2.2.1 then old.signExtend 64 else old.setWidth 64) ∧
       (∀ k < 112, k ≠ d.toNat → t.me.readS k = s.me.readS k) ∧
       (∀ k, t.me.readV k = s.me.readV k) ∧
       (new = old ∨ ∀ i < n, t.mem.scratchByte t.free s.tan.unit (o + i) = Claims.byteOf new.toNat i) ∧
       (∀ q < 0x400000, (q < o ∨ o + n ≤ q) →
         ∀ v, lookup u.mem.scratch (s.tan.unit * 0x400000 + q) = some v → t.mem.scratchByte t.free s.tan.unit q = v) ∧
       t.mem.cells = u.mem.cells ∧ t.mem.flight = u.mem.flight) ∧
  (∀ p ∈ Claims.atomics, ∀ (r : BitVec 2) (d a b : BitVec 7) (z : BitVec 1) (s : State) (xs : List Xlat) (pa : Nat),
     Claims.atomicReady s d a b → s.Tidy → s.unwatched → s.Quiet → s.tan.core < 256 → s.tan.firmware = none → (p.2.2.2.1 = true → s.me.csr.hctl.getLsbD 0 = false) →
     let n := 4 * (z.toNat + 1)
     let q := (s.srcValue a.toNat).toNat
     let u := (((s.srcTaken a.toNat).srcTaken b.toNat).marked .atomic xs).endStrip
     q % n = 0 → s.opens .atomic false q n xs → s.sound xs → xs.map (·.pa) = range pa n → u.Quiet →
     let old := BitVec.ofNat (8 * n) (ofBytes ((range pa n).map u.mem.latestByte))
     let new := p.2.2.2.2 (8 * n) old (((s.srcTaken a.toNat).srcValue b.toNat).setWidth _) ((s.me.readS d.toNat).setWidth _)
     ∃ t, exec (p.1 r d a b z) s = .next t ∧ t.me.pc = s.me.pc + 4 ∧ t.me.held = [] ∧
       t.me.readS d.toNat = (if d = 0 then 0 else if p.2.2.1 then old.signExtend 64 else old.setWidth 64) ∧
       (∀ k < 112, k ≠ d.toNat → t.me.readS k = s.me.readS k) ∧
       (∀ v, new = some v → ∀ i < n, t.mem.latestByte (pa + i) = Claims.byteOf v.toNat i ∧
         t.mem.viewByte s.tan.die (pa + i) = Claims.byteOf v.toNat i) ∧
       (∀ k, (new = none ∨ k < pa ∨ pa + n ≤ k) → t.mem.latestByte k = u.mem.latestByte k))

/-! ## Stops of scalar instructions (R14–R17, R19, R85–R87, R158) -/

/-- The instructions that need natural alignment, as words of `n` bytes at the address in s[A]: acquire loads, release stores and atomics. -/
def Claims.aligned (d a b : BitVec 7) (r : BitVec 2) : List (Instr × Nat) :=
  [(.ldaW d a, 4), (.ldaD d a, 8), (.ldasW d a, 4), (.ldasD d a, 8), (.stlW a b, 4), (.stlD a b, 8), (.stlsW a b, 4), (.stlsD a b, 8)] ++
    Claims.atomics.flatMap (fun p => [(p.1 r d a b 0, 4), (p.1 r d a b 1, 8), (p.2.1 r d a b 0, 4), (p.2.1 r d a b 1, 8)])

/-- R14, R16, R158: a queue name at the wrong end, or any in a single-mode tandem, is an illegal operand of every two-source member of ALU and
FALU; nothing is popped or pushed.

R17, R19: a two-source member of ALU whose first source is an empty scalar queue waits with WAITRSN 2 and pops nothing; once the peer has
exited it is an illegal operand, XINFO the queue's name; one whose destination queue is full waits with WAITRSN 1.

R87, R171, R173: a misaligned acquire, release or atomic access is an illegal operand with the address in XADDR; nothing is popped, read
or written.

R85, R86: a plain access that leaves the shared space, or whose global address is not canonical, is a SPACE-BOUND fault with the address in
XADDR, and nothing is read or written. -/
def Obligations.ScalarInstructionsStopWhole : Prop :=
  (∀ i ∈ Claims.aluPairs.map (·.1) ++ Claims.fpPairs.map (·.1), ∀ (d a b : BitVec 7) (s : State),
     ¬(s.srcOk a.toNat ∧ s.srcOk b.toNat ∧ s.dstOk d.toNat) → exec (i d a b) s = .next (takeTrap 2 0 s.me.pc 0 s.irWord s)) ∧
  (∀ i ∈ Claims.aluPairs.map (·.1), ∀ (d a b : BitVec 7) (s : State), s.srcOk a.toNat → s.srcOk b.toNat → s.dstOk d.toNat →
     (¬a.toNat < 112 → (s.tan.sfifo (a.toNat - 112)).items = [] → (s.tan.sfifo (a.toNat - 112)).marker = none →
       exec (i d a b) s = .next (if s.peer.exited then takeTrap 2 0 s.me.pc 0 (BitVec.ofNat 64 a.toNat) s
         else waitHere 2 (a.toNat - 112 + 17) 0 s)) ∧
     (s.srcHere a.toNat → (s.srcTaken a.toNat).srcHere b.toNat → ¬d.toNat < 112 →
       32 ≤ (((s.srcTaken a.toNat).srcTaken b.toNat).tan.sfifo (d.toNat - 112)).items.length →
       exec (i d a b) s = .next (waitHere 1 (d.toNat - 112 + 17) 0 s))) ∧
  (∀ (d a b : BitVec 7) (r : BitVec 2) (s : State), s.can2 d.toNat a.toNat b.toNat → d.toNat < 112 → s.tan.firmware = none →
     ∀ p ∈ Claims.aligned d a b r, (s.srcValue a.toNat).toNat % p.2 ≠ 0 →
       exec p.1 s = .next (takeTrap 2 0 s.me.pc (s.srcValue a.toNat) s.irWord s)) ∧
  (∀ (d a : BitVec 7) (z : BitVec 2) (i : BitVec 10) (s : State), s.srcOk a.toNat → s.srcHere a.toNat →
     let q := s.srcValue a.toNat + i.signExtend 64
     let stop : Host.Outcome State Fault Refusal := .next (takeTrap 3 0 s.me.pc q s.irWord s)
     (s.dstOk d.toNat →
       (s.sharedTop < q.toNat → exec (.lds d a z i) s = stop) ∧
       (2 ^ 56 ≤ q.toNat → q.toNat < 0xFF00000000000000 → exec (.ldg d a z i) s = stop ∧ exec (.ldgz d a z i) s = stop)) ∧
     (s.srcOk d.toNat → (s.srcTaken a.toNat).srcHere d.toNat →
       (s.sharedTop < q.toNat → exec (.sts d a z i) s = stop) ∧
       (2 ^ 56 ≤ q.toNat → q.toNat < 0xFF00000000000000 → exec (.stg d a z i) s = stop)))

/-! ## Fences, traps and control registers (R115, R172, R176–R180, R339–R341) -/

/-- R115, R122, R124, R172: what a fence of kind 0 ACQ, 1 REL, 2 AR, 3 SC, 4 IO or 5 ENG and scope `sc` still waits for. -/
def Claims.fenceDue (kind sc : Nat) (s : State) : Prop :=
  (kind = 5 → s.me.copies = []) ∧
  (kind ≠ 0 → s.me.outstanding = [] ∧ (4 ≤ sc → s.mem.published s.tan.die = true))

/-- The fences by kind. -/
def Claims.fences : List (Nat × (BitVec 7 → Instr)) :=
  [(0, .fenceAcq), (1, .fenceRel), (2, .fenceAr), (3, .fenceSc), (4, .fenceIo), (5, .fenceEng)]

/-- R115, R172: a fence performs the held stores; it retires where what it waits for is complete, and otherwise waits with WAITRSN 11. That scopes DEVICE and SYSTEM
wait for the whole view of the die, and every scope for stores to peers, is the model's reading (log 23). -/
def Obligations.FencesWaitForTheirScope : Prop :=
  ∀ p ∈ Claims.fences, ∀ (sc : BitVec 7) (s : State), s.me.savedNow = none → s.me.loop = none →
    (Claims.fenceDue p.1 sc.toNat s.endStrip → exec (p.2 sc) s = .next (retire s (s.me.pc + 4) s.endStrip)) ∧
    (¬Claims.fenceDue p.1 sc.toNat s.endStrip →
      ∃ t, exec (p.2 sc) s = .next t ∧ t.me.pc = s.me.pc ∧ t.me.held = [] ∧ t.me.csr.waitrsn = 11 ∧
        t.me.stalled.isSome = true ∧ t.mem = s.endStrip.mem ∧ t.me.s = s.me.s)

/-- R341: taking a trap while XVEC is not 0 and no trap is in service performs the held stores, writes XPC, XCAUSE, XADDR and XINFO, and goes to
XVEC; no other register of the hart changes.

R288, R341: a trap that finds XVEC 0 or another trap in service faults its kernel with FCODE 2, the tandem's TID, XADDR and the low half of
XINFO, and the tandem stops.

R176, R341: SYSC and BRK retire and then trap behind themselves: XPC is the next word, XCAUSE holds TIS and code 7 or 6, XINFO the word, and
the handler at XVEC runs, with no store held.

R177: TRET in a trap performs the held stores, clears TIS, and goes to XPC; outside one it is an illegal instruction. -/
def Obligations.TrapsEnterAndReturn : Prop :=
  (∀ (code sub : Nat) (xpc xaddr xinfo : Word) (s : State), code < 256 → sub < 256 → s.me.loop = none →
     s.me.csr.xvec ≠ 0 → s.me.tis = false →
     let t := takeTrap code sub xpc xaddr xinfo s
     t.me.pc = s.me.csr.xvec ∧ t.me.held = [] ∧ t.me.s = s.me.s ∧ t.me.v = s.me.v ∧ t.me.p = s.me.p ∧ t.me.k = s.me.k ∧ t.me.h = s.me.h ∧
     t.me.csr = { s.me.csr with xpc := xpc, xaddr := xaddr, xinfo := xinfo, xcause := BitVec.ofNat 64 (2 ^ 63 + 256 * sub + code) } ∧
     (s.me.held = [] → t.mem = s.mem)) ∧
  (∀ (code sub : Nat) (xpc xaddr xinfo : Word) (s : State) (k : Kernel), s.me.loop = none → s.me.held = [] → s.live = true →
     (s.me.csr.xvec = 0 ∨ s.me.tis = true) → s.kernel? s.tan.ctx s.tan.csn = some k → k.live = true → k.stop = none →
     (∃ c n, s.tan.place = .resident c n) → s.frozen s.tan = false →
     let t := takeTrap code sub xpc xaddr xinfo s
     (t.kernel? s.tan.ctx s.tan.csn).map (·.stop) =
       some (some { cancelled := false, fcode := 2, ftid := s.tan.tid, faddr := xaddr, finfo := xinfo.toNat % 2 ^ 32 }) ∧
     t.tan.place = .stopped ∧ t.me.s = s.me.s) ∧
  (∀ (c : BitVec 7) (s : State), s.Quiet → s.me.csr.xvec ≠ 0 → s.me.tis = false →
     ∀ p ∈ [(Instr.sysc c, (0x8000000000000007 : Word)), (.brk c, 0x8000000000000006)],
       ∃ t, exec p.1 s = .next t ∧ t.me.pc = s.me.csr.xvec ∧ t.me.csr.xpc = s.me.pc + 4 ∧ t.me.csr.xcause = p.2 ∧
         t.me.csr.xaddr = 0 ∧ t.me.csr.xinfo = s.ir.setWidth 64 ∧ t.me.csr.instret = s.me.csr.instret + 1 ∧
         t.me.held = [] ∧ t.me.s = s.me.s ∧ t.me.v = s.me.v ∧ t.me.p = s.me.p ∧ (s.me.held = [] → t.mem = s.mem)) ∧
  (∀ s : State,
     (s.Quiet → s.me.tis = true →
       ∃ t, exec .tret s = .next t ∧ t.me.pc = s.me.csr.xpc ∧ t.me.held = [] ∧
         t.me.csr.xcause = s.me.csr.xcause &&& 0x7FFFFFFFFFFFFFFF ∧ t.me.csr.instret = s.me.csr.instret + 1 ∧
         t.me.s = s.me.s ∧ t.me.v = s.me.v ∧ (s.me.held = [] → t.mem = s.mem)) ∧
     (s.me.tis = false → exec .tret s = .next (takeTrap 1 0 s.me.pc 0 (s.ir.setWidth 64) s)))

/-- R48, R49, R50, R56: the CSRs a hart holds that software writes, with the values that leave no reserved value and no reserved bit; XCAUSE and
TRCTL, which keep a read-only bit, stand apart. -/
def Claims.plainCsrs : List (Nat × (Csr → Word) × (Word → Csr → Csr) × (Word → Bool)) :=
  [(0x000, Csr.frm, fun v c => { c with frm := v }, fun v => v.toNat ≤ 5),
   (0x001, Csr.fflags, fun v c => { c with fflags := v }, fun v => v.toNat < 128),
   (0x002, Csr.srseed, fun v c => { c with srseed := v }, fun _ => true),
   (0x010, Csr.hctl, fun v c => { c with hctl := v }, fun v => v.toNat < 32 && v.toNat / 2 % 4 != 3),
   (0x011, Csr.skm, fun v c => { c with skm := v }, fun v => v.toNat < 65536),
   (0x103, Csr.vstart, fun v c => { c with vstart := v }, fun v => v.toNat < 16384),
   (0x104, Csr.gwbase, fun v c => { c with gwbase := v }, fun _ => true),
   (0x105, Csr.nfmt, fun v c => { c with nfmt := v }, fun v => v.toNat < 2 ^ 24 && narrowLegal v.toNat),
   (0x200, Csr.xpc, fun v c => { c with xpc := v }, fun _ => true), (0x202, Csr.xaddr, fun v c => { c with xaddr := v }, fun _ => true),
   (0x203, Csr.xinfo, fun v c => { c with xinfo := v }, fun _ => true),
   (0x204, Csr.xvec, fun v c => { c with xvec := v }, fun v => v.toNat % 4 == 0),
   (0x205, Csr.xscratch, fun v c => { c with xscratch := v }, fun _ => true),
   (0x300, Csr.lrecn, fun v c => { c with lrecn := v }, fun v => 2 ≤ v.toNat && v.toNat ≤ 16),
   (0x400, Csr.proglim, fun v c => { c with proglim := v }, fun v => v != 0),
   (0x500, Csr.trlo, fun v c => { c with trlo := v }, fun _ => true), (0x501, Csr.trhi, fun v c => { c with trhi := v }, fun _ => true),
   (0x502, Csr.trdly, fun v c => { c with trdly := v }, fun v => v.toNat < 4096),
   (0x504, Csr.trbase, fun v c => { c with trbase := v }, fun v => v.toNat % 64 == 0),
   (0x505, Csr.trexp, fun v c => { c with trexp := v }, fun _ => true)]

/-- The CSRs that are read-only, with what a read gives (R48). -/
def Claims.readOnlyCsrs : List (Nat × (State → Word)) :=
  [(0x020, fun s => BitVec.ofNat 64 s.tan.tid), (0x021, fun s => BitVec.ofNat 64 s.tan.csn), (0x022, fun s => BitVec.ofNat 64 s.myCtx.id),
   (0x023, fun s => if s.tan.single then 2 else if s.onA then 1 else 0), (0x100, fun s => s.me.csr.vl), (0x101, fun s => s.me.csr.vtype),
   (0x102, fun s => s.me.csr.rc), (0x301, fun s => s.me.csr.lstat), (0x302, fun s => s.me.csr.lidx), (0x401, fun s => s.me.csr.waitrsn),
   (0x600, fun s => s.me.csr.cycle + BitVec.ofNat 64 (s.clockOf s.tan - s.tan.since)), (0x601, fun s => s.me.csr.instret)]

/-- CSRWR, CSRSET and CSRCLR with the new value from the old one and s[A] (R180). -/
def Claims.csrWrites : List ((BitVec 5 → BitVec 7 → BitVec 12 → Instr) × (Word → Word → Word)) :=
  [(.csrwr, fun _ x => x), (.csrset, fun o x => o ||| x), (.csrclr, fun o x => o &&& ~~~x)]

/-- R48, R180: CSRRD writes a register's value to s[SD] and changes nothing else; CSRWR, CSRSET and CSRCLR write the new value and give the old one
to s[SD]; a read of ENERGY gives an estimate of its own choosing (log 8). That XCAUSE keeps its TIS on a write (R339), and that values of TRBASE and TRDLY
outside R381 are illegal, is the model's reading (log 70).

R47, R180: a write of a read-only CSR, a value that leaves a reserved value or bit, and a CSR number that is not defined are illegal
instructions, and nothing is popped or written. -/
def Obligations.ControlRegistersReadAndWrite : Prop :=
  (∀ (d : BitVec 5) (a : BitVec 7) (s : State), s.tan.firmware = none →
     (∀ p ∈ Claims.plainCsrs, exec (.csrrd d (BitVec.ofNat 12 p.1)) s =
       .next (retire s (s.me.pc + 4) { s with me := s.me.writeS d.toNat (p.2.1 s.me.csr) })) ∧
     (∀ p ∈ Claims.readOnlyCsrs, exec (.csrrd d (BitVec.ofNat 12 p.1)) s =
       .next (retire s (s.me.pc + 4) { s with me := s.me.writeS d.toNat (p.2 s) })) ∧
     (∃ e, exec (.csrrd d 0x602) s = .next (retire s (s.me.pc + 4) { s with
       free := s.free + 1
       me := { s.me with csr := { s.me.csr with energy := e } }.writeS d.toNat e
       peer := { s.peer with csr := { s.peer.csr with energy := e } } })) ∧
     (s.srcOk a.toNat → s.srcHere a.toNat → ∀ w ∈ Claims.csrWrites, ∀ p ∈ Claims.plainCsrs,
       let old := p.2.1 s.me.csr
       let new := w.2 old (s.srcValue a.toNat)
       let t := s.srcTaken a.toNat
       p.2.2.2 new = true → exec (w.1 d a (BitVec.ofNat 12 p.1)) s =
         .next (retire s (s.me.pc + 4) { t with me := { s.me with csr := p.2.2.1 new s.me.csr }.writeS d.toNat old })) ∧
     (s.srcOk a.toNat → s.srcHere a.toNat → ∀ w ∈ Claims.csrWrites,
       let old := s.me.csr.xcause
       let new := w.2 old (s.srcValue a.toNat)
       let t := s.srcTaken a.toNat
       let kept := (new &&& 0x7FFFFFFFFFFFFFFF) ||| (old &&& 0x8000000000000000)
       new &&& 0x7FFFFFFFFFFF0000 = 0 → exec (w.1 d a 0x201) s =
         .next (retire s (s.me.pc + 4) { t with me := { s.me with csr := { s.me.csr with xcause := kept } }.writeS d.toNat old }))) ∧
  (∀ (d : BitVec 5) (a : BitVec 7) (s : State), s.tan.firmware = none →
     let stop : Host.Outcome State Fault Refusal := .next (takeTrap 1 0 s.me.pc 0 (s.ir.setWidth 64) s)
     (∀ w ∈ Claims.csrWrites, ∀ n ∈ 0x602 :: Claims.readOnlyCsrs.map (·.1), exec (w.1 d a (BitVec.ofNat 12 n)) s = stop) ∧
     (∀ w ∈ Claims.csrWrites, ∀ p ∈ Claims.plainCsrs, s.srcOk a.toNat → s.srcHere a.toNat →
       p.2.2.2 (w.2 (p.2.1 s.me.csr) (s.srcValue a.toNat)) = false → exec (w.1 d a (BitVec.ofNat 12 p.1)) s = stop) ∧
     (∀ n : BitVec 12, n.toNat ∉ 0x201 :: 0x503 :: 0x602 :: (Claims.plainCsrs.map (·.1) ++ Claims.readOnlyCsrs.map (·.1)) →
       exec (.csrrd d n) s = stop ∧ ∀ w ∈ Claims.csrWrites, exec (w.1 d a n) s = stop))

/-! ## Barriers and queue instructions (R246–R249, R255, R256, R295–R297) -/

/-- An object of R295 as its fields. -/
def Claims.object (m exp arr : Nat) (ph ovr valid : Bool) : Prop :=
  m = exp + arr * 2 ^ 32 + ph.toNat * 2 ^ 64 + ovr.toNat * 2 ^ 65 + valid.toNat * 2 ^ 66 ∧ exp < 2 ^ 32 ∧ arr < 2 ^ 32

/-- What a member of BAR, by FN5, makes of the object at its address, as R247, R296 and R297 say: the object it leaves and the value for s[D]; on a
valid object, with operand u and no misuse. -/
def Claims.barrierStep (op u exp arr : Nat) (ph ovr : Bool) (new : Nat) (result : Word) : Prop :=
  match op with
  | 0 => Claims.object new u 0 false false true
  | 1 => Claims.object new (exp + u) arr ph ovr true
  | 2 => result = (if ph then 1 else 0) ∧
      (u = 0 → Claims.object new exp arr ph ovr true) ∧
      (0 < u → (exp ≤ arr ∨ arr + u = exp) → Claims.object new exp 0 (!ph) ovr true) ∧
      (0 < u → arr < exp → arr + u < exp → Claims.object new exp (arr + u) ph ovr true)
  | _ => Claims.object new exp arr ph ovr true ∧ result = (if ph.toNat = u % 2 then 0 else 1)

/-- The members of BAR on a shared object: FN5, the instruction, and whether it writes s[D]. -/
noncomputable def Claims.barriers (d a b : BitVec 7) : List (Nat × Instr × Bool) :=
  [(0, .binit a b, false), (1, .bexp a b, false), (2, .barv d a b, true), (3, .bwait a b, false), (4, .btest d a b, true)]

/-- The members of BAR on a global object. -/
noncomputable def Claims.globalBarriers (d a b : BitVec 7) : List (Nat × Instr × Bool) :=
  [(0, .binitG a b, false), (1, .bexpG a b, false), (2, .barvG d a b, true), (3, .bwaitG a b, false), (4, .btestG d a b, true)]

/-- The operand of a member of BAR is one that R249 allows on a valid object with these fields, and a BWAIT finds its phase past (R247). -/
def Claims.barrierFits (op u exp arr : Nat) (ph : Bool) : Prop :=
  (op = 0 → 1 ≤ u ∧ u < 2 ^ 32) ∧ (op = 1 → exp + u < 2 ^ 32) ∧ (op = 2 → arr < exp → arr + u ≤ exp) ∧ (op = 3 → ph.toNat ≠ u % 2)

/-- The state in which the misuse trap of a member, by FN5, is taken: the held stores, if any, have been performed, and a member that writes has spoilt a
strip that could be run again (R246, R359). -/
def Claims.barEnded (op : Nat) (s : State) : State :=
  let u := if s.me.held = [] then s else s.endStrip
  if op < 3 ∧ u.me.strip.rewindable = true then u.spoilStrip else u

/-- R246, R247, R249, R296, R297: a member of BAR on a shared object reads and writes the object at once behind the held stores, and gives its result
in s[D]; BTEST and BWAIT leave the object. For registers as operands.

R246, R247, R131: a member of BAR on a global object in device memory reads the latest value of its coherence order and writes behind it. For
registers as operands.

R249: the misuses of a shared object trap with BARRIER-MISUSE, XADDR its address and XINFO the case: 1 an expected count outside 1 to 2^32 − 1,
2 an object that is not valid (a BWAIT whose wait a change of the object has already ended apart), 3 an arrival beyond the expected count, 4 an expected count past 32 bits. -/
def Obligations.BarriersStepTheirObjects : Prop :=
  (∀ (d a b : BitVec 7) (s : State), d.toNat < 112 → a.toNat < 112 → b.toNat < 112 → s.Tidy → s.me.copies = [] → s.Quiet → s.tan.firmware = none →
     let o := (s.me.readS a.toNat).toNat
     let u := (s.me.readS b.toNat).toNat
     let e := s.endStrip
     o % 16 = 0 → o < 0x400000 → s.soundShared o 16 → e.Quiet →
     ∀ p ∈ Claims.barriers d a b, ∀ (exp arr : Nat) (ph ovr : Bool),
       (p.1 ≠ 0 → Claims.object (ofBytes (e.sharedBytes o 16)) exp arr ph ovr true) →
       Claims.barrierFits p.1 u exp arr ph → (p.1 = 3 → barMet s ≠ some false) →
       ∃ t new result, exec p.2.1 s = .next t ∧ Claims.barrierStep p.1 u exp arr ph ovr new result ∧ t.me.pc = s.me.pc + 4 ∧ t.me.held = [] ∧
         (p.2.2 = true → t.me.readS d.toNat = if d = 0 then 0 else result) ∧
         (∀ k < 112, (p.2.2 = false ∨ k ≠ d.toNat) → t.me.readS k = s.me.readS k) ∧
         (p.1 < 3 → ¬(p.1 = 2 ∧ u = 0) → ∀ i < 16, t.mem.scratchByte t.free s.tan.unit (o + i) = Claims.byteOf new i) ∧
         ((3 ≤ p.1 ∨ (p.1 = 2 ∧ u = 0)) → t.mem.scratch = e.mem.scratch) ∧
         (∀ q < 0x400000, (q < o ∨ o + 16 ≤ q) → ∀ v, lookup e.mem.scratch (s.tan.unit * 0x400000 + q) = some v →
           t.mem.scratchByte t.free s.tan.unit q = v) ∧
         t.mem.cells = e.mem.cells ∧ t.mem.flight = e.mem.flight) ∧
  (∀ (d a b : BitVec 7) (s : State) (xs : List Xlat) (pa : Nat), d.toNat < 112 → a.toNat < 112 → b.toNat < 112 → s.Tidy → s.unwatched → s.Quiet →
     s.tan.firmware = none → s.tan.core < 256 →
     let o := (s.me.readS a.toNat).toNat
     let u := (s.me.readS b.toNat).toNat
     let e := (s.marked .atomic xs).endStrip
     o % 16 = 0 → s.opens .atomic false o 16 xs → s.sound xs → xs.map (·.pa) = range pa 16 → e.Quiet →
     ∀ p ∈ Claims.globalBarriers d a b, ∀ (exp arr : Nat) (ph ovr : Bool),
       (p.1 ≠ 0 → Claims.object (ofBytes ((range pa 16).map e.mem.latestByte)) exp arr ph ovr true) → Claims.barrierFits p.1 u exp arr ph →
       (p.1 = 3 → barMet s ≠ some false) →
       ∃ t new result, exec p.2.1 s = .next t ∧ Claims.barrierStep p.1 u exp arr ph ovr new result ∧ t.me.pc = s.me.pc + 4 ∧ t.me.held = [] ∧
         (p.2.2 = true → t.me.readS d.toNat = if d = 0 then 0 else result) ∧
         (∀ k < 112, (p.2.2 = false ∨ k ≠ d.toNat) → t.me.readS k = s.me.readS k) ∧
         (∀ i < 16, t.mem.latestByte (pa + i) = Claims.byteOf new i) ∧
         (∀ k, (k < pa ∨ pa + 16 ≤ k) → t.mem.latestByte k = e.mem.latestByte k)) ∧
  (∀ (d a b : BitVec 7) (s : State), d.toNat < 112 → a.toNat < 112 → b.toNat < 112 → s.me.copies = [] → s.tan.firmware = none →
     let o := s.me.readS a.toNat
     let u := (s.me.readS b.toNat).toNat
     let m := ofBytes (s.endStrip.sharedBytes o.toNat 16)
     o.toNat % 16 = 0 → o.toNat < 0x400000 → s.soundShared o.toNat 16 →
     (u = 0 ∨ 2 ^ 32 ≤ u → exec (.binit a b) s = .next (takeTrap 9 0 s.me.pc o 1 s)) ∧
     (m / 2 ^ 66 % 2 = 0 → ∀ p ∈ (Claims.barriers d a b).drop 1, (p.1 = 3 → barMet s ≠ some true) →
       exec p.2.1 s = .next (takeTrap 9 0 s.me.pc o 2 (Claims.barEnded p.1 s))) ∧
     (m / 2 ^ 66 % 2 = 1 → m / 2 ^ 32 % 2 ^ 32 < m % 2 ^ 32 → m % 2 ^ 32 < m / 2 ^ 32 % 2 ^ 32 + u →
       exec (.barv d a b) s = .next (takeTrap 9 0 s.me.pc o 3 (Claims.barEnded 2 s))) ∧
     (m / 2 ^ 66 % 2 = 1 → 2 ^ 32 ≤ m % 2 ^ 32 + u → exec (.bexp a b) s = .next (takeTrap 9 0 s.me.pc o 4 (Claims.barEnded 1 s))))

/-- R14, R20, R255, R256: BQPUSH on the A-side adds a bit to bq; BQT and BQF on the E-side pop one and branch on it; QSTAT reports entries,
depth, marker and the pusher's exit; QDRAIN discards on the popping side what stands before the marker, and on the pushing side retires on an
empty queue. -/
def Obligations.QueueInstructionsActOnTheirQueues : Prop :=
  ∀ s : State, s.tan.firmware = none → s.tan.single = false →
    (∀ a : BitVec 7, s.onA = true → s.srcOk a.toNat → s.srcHere a.toNat → s.tan.bq.items.length < 64 →
      let u := s.srcTaken a.toNat
      let t := (if 64 ≤ s.tan.bq.items.length + s.tan.bq.spent.length then u.spoilPeer else u).spoilStrip
      let resumed := s.tan.bq.owner = some (s.me.pc, s.me.tis)
      exec (.bqpush a) s = .next (retire s (s.me.pc + 4)
        { t with tan := { t.tan with bq := { t.tan.bq with
            items := t.tan.bq.items ++ [s.srcValue a.toNat != 0]
            marker := if resumed then s.tan.bq.others.head?.map (·.1) else s.tan.bq.marker
            owner := if resumed then s.tan.bq.others.head?.map (·.2) else s.tan.bq.owner
            others := if resumed then s.tan.bq.others.tail else s.tan.bq.others.filter (fun m => m.2 != (s.me.pc, s.me.tis)) } } })) ∧
    (∀ (o : BitVec 16) (x : Bool) (r : List Bool), s.onA = false → s.tan.bq.items = x :: r → s.tan.bq.marker = none → s.tan.bq.bad = false →
      let t : State := { s with tan := { s.tan with bq := s.tan.bq.pop 1 64 s.me.keepsPops } }
      let target := s.me.pc + 4 * o.signExtend 64
      let past : Host.Outcome State Fault Refusal := .next (retireWith true s (s.me.pc + 4) (some false) t)
      (x = true → Claims.goes s t target (exec (.bqt o) s) ∧ exec (.bqf o) s = past) ∧
      (x = false → exec (.bqt o) s = past ∧ Claims.goes s t target (exec (.bqf o) s))) ∧
    (∀ d q : BitVec 7, s.dstOk d.toNat → s.dstRoom d.toNat → q.toNat ≤ 32 →
      let n := q.toNat
      let entries := if n < 16 then (s.tan.vfifo n).items.length else if n < 32 then (s.tan.sfifo (n - 16)).items.length else s.tan.bq.items.length
      let depth := if n < 16 then 16 else if n < 32 then 32 else 64
      let mark := if n < 16 then (s.tan.vfifo n).marker else if n < 32 then (s.tan.sfifo (n - 16)).marker else s.tan.bq.marker
      let byA := decide (n < 8 ∨ (16 ≤ n ∧ n < 24) ∨ n = 32)
      let gone := if byA = s.onA then s.me.exited else s.peer.exited
      exec (.qstat d q) s = .next (retire s (s.me.pc + 4) (s.dstPut d.toNat (BitVec.ofNat 64
        (entries + depth * 2 ^ 8 + (match mark with | some m => 2 ^ 15 + m * 2 ^ 16 | none => 0) + (if gone then 2 ^ 23 else 0)))))) ∧
    (∀ q : BitVec 7, q.toNat ≤ 32 →
      let n := q.toNat
      let entries := if n < 16 then (s.tan.vfifo n).items.length else if n < 32 then (s.tan.sfifo (n - 16)).items.length else s.tan.bq.items.length
      let mark := if n < 16 then (s.tan.vfifo n).marker else if n < 32 then (s.tan.sfifo (n - 16)).marker else s.tan.bq.marker
      let gone := match mark with
        | some m => min m entries
        | none => entries
      let byA := decide (n < 8 ∨ (16 ≤ n ∧ n < 24) ∨ n = 32)
      let keep := s.me.keepsPops
      (byA = s.onA → entries = 0 → exec (.qdrain q) s = .next (retire s (s.me.pc + 4) s)) ∧
      (byA ≠ s.onA → exec (.qdrain q) s = .next (retire s (s.me.pc + 4) { s with tan :=
        if n < 16 then { s.tan with vq := sparseSet {} s.tan.vq n ((s.tan.vfifo n).pop gone 16 keep) }
        else if n < 32 then { s.tan with sq := sparseSet {} s.tan.sq (n - 16) ((s.tan.sfifo (n - 16)).pop gone 32 keep) }
        else { s.tan with bq := s.tan.bq.pop gone 64 keep } })))

/-! ## Tandems and groups (R250–R254, R290–R294) -/

/-- The tandem in focus is a paired or single tandem's side that may run GRP instructions for the whole tandem (R250). -/
def Claims.actsForTandem (s : State) : Prop := s.tan.firmware = none ∧ s.onA = false

/-- The state in which a group instruction acts: the strip has ended, it can no longer be run again, and the die's view is published (R183, R251). -/
def Claims.released (s : State) : State :=
  { s.endStrip.spoilStrip with mem := s.endStrip.spoilStrip.mem.publish s.endStrip.spoilStrip.tan.die }

/-- R253, R290, R291: JOIN of a key without a group makes one in which the tandem has rank 0; of a group without it, gives it the lowest free rank
and adds it; LEAVE takes it out. For registers as operands.

R253: GSIZE gives a group's member count, 0 without one; GRANK the tandem's rank, all ones where it is no member; TIDG the tandem's index and its
kernel's tandem count.

R254, R292, R293: GBAR of a tandem that is its group's last counted member to arrive completes the phase and retires, and every waiting member may
return; of another member of a pending phase it arrives and waits with WAITRSN 13.

That the released state of JOIN, LEAVE and GBAR publishes the whole view of the issuing die is the model's reading (log 23). -/
def Obligations.GroupsFormWaitAndDissolve : Prop :=
  (∀ (d a : BitVec 7) (s : State), d.toNat < 112 → a.toNat < 112 → Claims.actsForTandem s →
     let key := s.me.readS a.toNat
     let u := Claims.released s
     ((s.groups.filter (fun g => g.has s.tan.uid)).length < 4 → s.group? key = none →
       (s.groups.filter (fun g => g.ctx == s.tan.ctx)).length < 16384 →
       exec (.join d a) s = .next (retire s (s.me.pc + 4) { u with
         groups := u.groups ++ [{ ctx := s.tan.ctx, key := key, members := [(s.tan.uid, 0)] }]
         me := u.me.writeS d.toNat 0 })) ∧
     (∀ (g : Group) (r : Nat), (s.groups.filter (fun g => g.has s.tan.uid)).length < 4 → s.group? key = some g → g.has s.tan.uid = false →
       (∀ q ∈ s.groups, q.ctx = s.tan.ctx → q.key = key → q = g) → (∀ m ∈ g.members, m.2 ≠ r) → (∀ q < r, ∃ m ∈ g.members, m.2 = q) →
       exec (.join d a) s = .next (retire s (s.me.pc + 4) { u.modGroup key (fun g => { g with members := g.members ++ [(s.tan.uid, r)] }) with
         me := u.me.writeS d.toNat (BitVec.ofNat 64 r) })) ∧
     (∀ g, s.group? key = some g → g.has s.tan.uid = true →
       exec (.leave a) s = .next (retire s (s.me.pc + 4) (u.modGroup key (fun g => g.leave s.tan.uid))))) ∧
  (∀ (d a : BitVec 7) (s : State), s.tan.firmware = none → s.can1 d.toNat a.toNat →
     let t := (s.srcTaken a.toNat).spoilStrip
     let g := s.group? (s.srcValue a.toNat)
     exec (.gsize d a) s = .next (retire s (s.me.pc + 4) (t.dstPut d.toNat (BitVec.ofNat 64 ((g.map (·.members.length)).getD 0)))) ∧
     exec (.grank d a) s = .next (retire s (s.me.pc + 4) (t.dstPut d.toNat
       (((g.bind (fun g => lookup g.members s.tan.uid)).map (BitVec.ofNat 64)).getD (BitVec.allOnes 64)))) ∧
     (s.dstRoom d.toNat → exec (.tidg d) s = .next (retire s (s.me.pc + 4) (s.spoilStrip.dstPut d.toNat
       (BitVec.ofNat 64 (s.tan.tix % 2 ^ 32 + 2 ^ 32 * ((s.kernel? s.tan.ctx s.tan.csn).map (·.tcnt)).getD 0)))))) ∧
  (∀ (a : BitVec 7) (s : State) (g : Group), a.toNat < 112 → Claims.actsForTandem s → s.Quiet → (Claims.released s).Quiet →
     s.group? (s.me.readS a.toNat) = some g → g.has s.tan.uid = true → g.returned = [] → g.pending = true → g.early = [] →
     s.tan.uid ∈ g.counted → s.tan.uid ∉ g.arrived →
     ((∀ m ∈ g.counted, m = s.tan.uid ∨ m ∈ g.arrived) →
       ∃ t g', exec (.gbar a) s = .next t ∧ t.me.pc = s.me.pc + 4 ∧ t.group? (s.me.readS a.toNat) = some g' ∧
         g'.pending = false ∧ g'.arrived = [] ∧ g'.returned = g.arrived.filter (· ≠ s.tan.uid) ∧ g'.members = g.members) ∧
     ((∃ m ∈ g.counted, m ≠ s.tan.uid ∧ m ∉ g.arrived) →
       ∃ t g', exec (.gbar a) s = .next t ∧ t.me.pc = s.me.pc ∧ t.me.csr.waitrsn = 13 ∧ t.group? (s.me.readS a.toNat) = some g' ∧
         g'.arrived = g.arrived ++ [s.tan.uid] ∧ g'.pending = true ∧ g'.returned = []))

/-- R251: SPAWN of 1 to 4,096 tandems, where the context has so many free TIDs, creates them with the lowest ones and gives the first one's index; where
it has not, it creates none and gives all ones. For registers as operands.

R22, R251: the tandems of a SPAWN start with s1 the value in s[A], s2 their place, s3 their index, s4 their number and then the kernel's argument
words, at its entry addresses.

R252, R19: EXIT performs the held stores and ends its side; it ends the tandem once the other side, if there is one, has exited too, with its
queues emptied (the strip's CIDX, R286, is another statement's).

That SPAWN and EXIT publish the whole view of their die is the model's reading (log 23). -/
def Obligations.TandemsSpawnAndEnd : Prop :=
  (∀ (d a b : BitVec 7) (s : State) (k : Kernel), d.toNat < 112 → a.toNat < 112 → b.toNat < 112 → Claims.actsForTandem s →
     let n := (s.me.readS b.toNat).toNat
     let u := Claims.released s
     1 ≤ n → n ≤ 4096 → u.kernel? s.tan.ctx s.tan.csn = some k →
     let tids := freeTids u s.tan.ctx n
     let born := addTandems u (spawned k u.nextUid tids (s.me.readS a.toNat) n)
     let counted := writeKernel (born.modKernel k.ctx k.csn (fun k => { k with tcnt := k.tcnt + n })) born.tan.die k.ctx k.csn
     (tids.length = n → exec (.spawn d a b) s =
       .next (retire s (s.me.pc + 4) { counted with me := counted.me.writeS d.toNat (BitVec.ofNat 64 k.tcnt) })) ∧
     (tids.length < n → exec (.spawn d a b) s =
       .next (retire s (s.me.pc + 4) { u with me := u.me.writeS d.toNat (BitVec.allOnes 64) }))) ∧
  (∀ (k : Kernel) (uid : Nat) (tids : List Nat) (x : Word) (n i : Nat), i < tids.length →
     ∃ w, (spawned k uid tids x n)[i]? = some w ∧ (spawned k uid tids x n).length = tids.length ∧
       w.t.tid = tids.getD i 0 ∧ w.t.tix = k.tcnt + i ∧ w.t.csn = k.csn ∧ w.t.place = .waiting ∧
       ∀ h ∈ [w.e, w.a], h.readS 1 = x ∧ h.readS 2 = BitVec.ofNat 64 i ∧ h.readS 3 = BitVec.ofNat 64 (k.tcnt + i) ∧
         h.readS 4 = BitVec.ofNat 64 n ∧ (∀ j < k.args.length, j < 8 → h.readS (5 + j) = k.args.getD j 0) ∧ h.exited = false ∧
         h.csr = {} ∧ w.e.pc = k.eentry ∧ w.a.pc = k.aentry) ∧
  (∀ s : State, s.tan.firmware = none → s.Quiet → s.endStrip.Quiet → s.me.copyErrors = [] →
     (∃ c n, s.tan.place = .resident c n) →
     ∃ t, exec .exit s = .next t ∧ t.me.exited = true ∧ t.me.held = [] ∧ t.me.pc = s.me.pc + 4 ∧
       (s.me.strip.openRc * s.me.csr.vl.toNat = 0 →
         (s.tan.single = false → s.peer.exited = false → t.tan.place = s.tan.place) ∧
         ((s.tan.single = true ∨ s.peer.exited = true) → s.tan.matrix = [] → t.tan.place = .ended ∧ t.tan.vq = [] ∧ t.tan.sq = [])))

/-! ## The shape of a strip (R181–R183) -/

/-- The elements that a register group holds at a VTYPE: VLEN × g / SEW (R46, R181). -/
def Claims.capacity (vt : Nat) : Nat := 1024 * 2 ^ (vt / 16 % 4) / (8 * 2 ^ (vt % 4))

/-- The Thoud can write the entry of the tandem in focus in its kernel area (R284, R285). -/
def Claims.entryServed (s : State) : Prop :=
  ∃ c, s.ctx? s.tan.ctx = some c ∧
    ∀ bs : List Byte, bs.length = 16 → ∃ t, sysWrite s c s.tan.die (tandemEntryAddr c s.tan.tid) bs = .ok t

/-- R181, R182, R286: VSETL and VSETLX set VTYPE, grant the lesser of the request and the capacity to VL and s[D], close the strip (its stores may then be
performed) and open the next under a checkpoint at the next word; A = 0 asks for VL; VSETR sets RC to 1 to 16; VSTRIP keeps VL and VTYPE. A
strip that closes with no store held adds RC × VL, as it opened and stands, to the E-side's CIDX. For registers as operands.

R360, R183: the checkpoint that VSTRIP takes brings back, through a rewind, the program counter behind it, the scalars that SKM names, the windows,
VL, VTYPE, RC and INSTRET, whatever the strip did to them since. -/
def Obligations.StripsOpenCloseAndRewind : Prop :=
  (∀ (d a b : BitVec 7) (v : BitVec 12) (s : State), d.toNat < 112 → a.toNat < 112 → b.toNat < 112 → s.tan.firmware = none → s.Tidy → s.Quiet →
     let done := s.me.strip.openRc * s.me.csr.vl.toNat
     (s.onA = true ∨ done = 0 ∨ Claims.entryServed s) →
     let req := if a = 0 then s.me.csr.vl.toNat else (s.me.readS a.toNat).toNat
     let ends (t : State) : Prop := t.me.pc = s.me.pc + 4 ∧ (∀ x ∈ t.me.held, x.eligible = true) ∧ t.me.held.length = s.me.held.length ∧
       t.me.strip.rewindable = true ∧ (t.me.strip.ckpt.map (·.pc)) = some (s.me.pc + 4) ∧ t.me.v = s.me.v ∧ (done = 0 → t.mem = s.mem) ∧
       (s.onA = false → s.me.held = [] → t.tan.cidx = s.tan.cidx + done)
     (∃ t, exec (.vsetl d a v) s = .next t ∧ ends t ∧ t.me.csr.vtype = v.setWidth 64 ∧
       t.me.csr.vl.toNat = min req (Claims.capacity v.toNat) ∧ t.me.readS d.toNat = if d = 0 then 0 else t.me.csr.vl) ∧
     ((s.me.readS b.toNat).toNat < 4096 → vtLegal (s.me.readS b.toNat).toNat = true →
       ∃ t, exec (.vsetlx d a b) s = .next t ∧ ends t ∧ t.me.csr.vtype = s.me.readS b.toNat ∧
         t.me.csr.vl.toNat = min req (Claims.capacity (s.me.readS b.toNat).toNat) ∧ t.me.readS d.toNat = if d = 0 then 0 else t.me.csr.vl) ∧
     (∃ t, exec .vstrip s = .next t ∧ ends t ∧ t.me.csr.vtype = s.me.csr.vtype ∧ t.me.csr.vl = s.me.csr.vl ∧ t.me.s = s.me.s) ∧
     (1 ≤ (s.me.readS a.toNat).toNat → (s.me.readS a.toNat).toNat ≤ 16 →
       exec (.vsetr a) s = .next (retire s (s.me.pc + 4) { s with me := { s.me with csr := { s.me.csr with rc := s.me.readS a.toNat } } }))) ∧
  (∀ (s u : State) (k : Checkpoint), (takeCheckpoint s).me.strip.ckpt = some k → u.me.tidy →
     let t := rewindTo k u
     t.me.pc = s.me.pc + 4 ∧ t.me.winS = s.me.winS ∧ t.me.winV = s.me.winV ∧ t.me.csr.vl = s.me.csr.vl ∧
     t.me.csr.vtype = s.me.csr.vtype ∧ t.me.csr.rc = s.me.csr.rc ∧ t.me.csr.instret = s.me.csr.instret + 1 ∧
     (∀ i < 16, s.me.csr.skm.getLsbD i = true → t.me.readS (i + 1) = s.me.readS (i + 1)) ∧
     (∀ x ∈ t.me.held, x.eligible = true ∧ x ∈ u.me.held))

/-! ## Trace marks, trials, descriptors and copies (R217, R218, R238–R244, R263, R381) -/

/-- R178, R179: WBASE sets the window of its class, and PAUSE retires and leaves every register and all of memory.

R263, R381: TMARK of an untraced context and PROGPT outside a trial only retire; PROGPT in a trial adds one to its counter. -/
def Obligations.WindowsMarksAndPausesRetire : Prop :=
  ((∀ (k : BitVec 7) (s : State),
     exec (.wbase 0 k) s = .next (retire s (s.me.pc + 4) { s with me := { s.me with winS := k.toNat } }) ∧
     (s.tan.firmware = none →
       exec (.wbase 1 k) s = .next (retire s (s.me.pc + 4) { s with me := { s.me with winV := k.toNat } }))) ∧
   (∀ s : State, exec .pause s = .next (retire s (s.me.pc + 4) { s with quantum := 0 }))) ∧
  (∀ s : State, s.tan.firmware = none →
     (∀ a : BitVec 7, s.srcOk a.toNat → s.srcHere a.toNat → s.myCtx.traced = false →
       exec (.tmark a) s = .next (retire s (s.me.pc + 4) (s.srcTaken a.toNat))) ∧
     (∀ a : BitVec 7, s.srcOk a.toNat → s.srcHere a.toNat → s.myCtx.traced = true →
       exec (.tmark a) s = .next (retire s (s.me.pc + 4)
         (putRecord (s.srcTaken a.toNat) s.tan.ctx (s.srcTaken a.toNat).tan s.sideCode 1 (s.srcValue a.toNat).toNat 0))) ∧
     (∀ c : BitVec 7, c.toNat ≤ 7 → s.me.csr.trctl.getLsbD 0 = false → exec (.progpt c) s = .next (retire s (s.me.pc + 4) s)) ∧
     (∀ (c : BitVec 7) (l r : List Nat) (x : Nat), s.me.trial.counters = l ++ x :: r → l.length = c.toNat → c.toNat ≤ 7 →
       s.me.csr.trctl.getLsbD 0 = true →
       exec (.progpt c) s = .next (retire s (s.me.pc + 4)
         { s with me := { s.me with trial := { s.me.trial with counters := l ++ (x + 1) % 2 ^ 64 :: r } } })))

/-- A state once the accesses that `ns` numbers have set their pages' A and D bits and cached their translations, one after the other; `xs` are the
translations of each access. -/
def Claims.after (kind : AccessKind) (xs : Nat → List Xlat) (ns : List Nat) (s : State) : State :=
  ns.foldl (fun t n => t.marked kind (xs n)) s

/-- R218: TDSET takes a descriptor's 32 bytes from memory, TDGET holds a store of them, SCLD reads a scale register's 256 bytes at the SBASE of a
valid descriptor and SCST holds stores of them, whether the descriptor is valid or not, and TDINV clears a descriptor; each retires. SCLD and SCST
move their bytes one by one (log 46, the model's reading).

R219: a side reads its own latest write of a descriptor at once. When the other side sees it is the model's reading of 'the ordering of a store' (log
113): at the latest once the writer's strip ends, and, as each reader does here, some of the writes before that. -/
def Obligations.DescriptorsAndScalesMove : Prop :=
  (∀ (t : Tandem) (onA : Bool) (n m : Nat) (v : Desc), sparseWf 0 t.td = true → (t.single = true → t.tdLate = []) →
    let w := t.writeTd onA n v
    w.readTd onA n = v ∧ (m ≠ n → w.readTd onA m = t.readTd onA m) ∧
    (t.single = false → w.readTd (!onA) m = t.readTd (!onA) m) ∧
    ((∀ x ∈ t.tdLate, x.1 = onA) → (w.releaseTds onA).readTd (!onA) n = v ∧ (m ≠ n → (w.releaseTds onA).readTd (!onA) m = t.readTd onA m))) ∧
  ∀ (k : BitVec 3) (td : BitVec 4) (a : BitVec 7) (s : State), a.toNat < 112 → s.tan.firmware = none →
    let u := s.seeTds
    let d := u.tan.readTd u.onA td.toNat
    (exec (.tdinv td) s = .next (retire s (s.me.pc + 4) { s with tan := s.tan.writeTd s.onA td.toNat 0 })) ∧
    (∀ xs, s.unwatched → (s.me.readS a.toNat).toNat % 32 = 0 → s.opens .load false (s.me.readS a.toNat).toNat 32 xs → s.sound xs →
      let t := s.marked .load xs
      let v : Desc := BitVec.ofNat 256 (ofBytes (t.globalBytes (s.me.readS a.toNat).toNat 32 xs))
      (tdValid v = true → tdLegal v = true) →
      ∃ ns, exec (.tdset td a) s = .next (retire s (s.me.pc + 4)
        { t.noted ns with tan := t.tan.writeTd s.onA td.toNat v })) ∧
    (∀ xs, s.unwatched → (s.me.readS a.toNat).toNat % 32 = 0 → u.opens .store false (s.me.readS a.toNat).toNat 32 xs →
      let t := u.marked .store xs
      let vs := range (s.me.readS a.toNat).toNat 32
      t.holds false vs →
      ∃ ns, exec (.tdget td a) s = .next (retire s (s.me.pc + 4)
        ((t.noted ns).held' false true (Claims.heldBytes vs (xs.map (·.pa)) (toBytes 32 d.toNat))))) ∧
    (∀ xs : Nat → List Xlat, tdLegal d = true → s.unwatched →
      let at' (e : Nat) : Nat := (tdSbase d + e) % 2 ^ 64
      let after (e : Nat) := Claims.after .load xs (range 0 e) u
      (∀ e < 256, (after e).opens .load false (at' e) 1 (xs e) ∧ (after e).sound (xs e)) →
      let t := after 256
      ∃ ns, exec (.scld k td) s = .next (retire s (s.me.pc + 4) { t.noted ns with me := t.me.writeK k.toNat (BitVec.ofNat 2048
        (ofBytes ((range 0 256).flatMap (fun e => (after (e + 1)).globalBytes (at' e) 1 (xs e))))) })) ∧
    (∀ xs : Nat → List Xlat, s.unwatched → s.me.savedNow = none → s.me.csr.vstart = 0 →
      let at' (e : Nat) : Nat := (tdSbase d + e) % 2 ^ 64
      let after (e : Nat) := Claims.after .store xs (range 0 e) u
      (∀ e < 256, (after e).opens .store false (at' e) 1 (xs e)) →
      let new : List HeldStore := (range 0 256).map (fun e =>
        { shared := false, eligible := false, strip := s.me.strip.serial
          bytes := Claims.heldBytes [at' e] ((xs e).map (·.pa)) [Claims.byteOf (s.me.readK k.toNat).toNat e] })
      (s.me.held ++ new).foldl (fun n x => n + x.bytes.length) 0 ≤ s.stripShare →
      let t := after 256
      ∃ ns, s.retiresWith (.scst k td) { t with
        notes := ns, me := { t.me with held := s.me.held ++ new, csr := { t.me.csr with vstart := 0 } } } 0)

/-- R238, R241–R244: an accepted copy takes a range-scoreboard slot behind the held stores; CPYW retires once all but the n newest copies have
retired, and waits with WAITRSN 10 otherwise; CPYQ counts the copies in flight.

R243: CPYB reads its descriptors from a tile of 64-bit elements, accepts those whose bit in p0 is set, in order, and sets the bit of each descriptor in
pD to whether it was accepted.

The model's reading: CPYW with n above 63, which R244 does not give, waits by the same rule (log 37); when a copy's checks are made, and a COUNT of 0
(log 52). -/
def Obligations.CopiesAreAcceptedAndCounted : Prop :=
  (∀ s : State, s.tan.firmware = none → (s.onA = true ∨ s.tan.single = true) →
     (∀ (a : BitVec 7), 1 ≤ a.toNat → a.toNat ≤ 108 →
       let w (i : Nat) : Word := s.me.readS (a.toNat + i)
       let c := copyOf s.me.nextCopy s.me.csr.nfmt.toNat s.tan.core (w 0) (w 1) (w 2) (w 3)
       let t := s.endStrip.spoilStrip
       copyLegal c (w 2) = true → copyBounds s.myCtx c = none → s.me.copies.length < 64 →
       exec (if c.seg.isSome then .cpyseg a else .cpy a) s = .next (retire s (s.me.pc + 4) { t with me := { t.me with
         copies := if c.count = 0 then t.me.copies else t.me.copies ++ [c]
         nextCopy := t.me.nextCopy + 1 } })) ∧
     (∀ n : BitVec 7,
       ((∀ c ∈ s.me.copies, s.me.nextCopy ≤ c.id + n.toNat) → exec (.cpyw n) s = .next (retire s (s.me.pc + 4) s)) ∧
       ((∃ c ∈ s.me.copies, c.id + n.toNat < s.me.nextCopy) → exec (.cpyw n) s = .next (waitHere 10 0x41 0 s))) ∧
     (∀ d : BitVec 7, s.dstOk d.toNat → s.dstRoom d.toNat →
       exec (.cpyq d) s = .next (retire s (s.me.pc + 4)
         (s.dstPut d.toNat (BitVec.ofNat 64 (s.me.copies.length + if s.me.copyErrors = [] then 0 else 128)))))) ∧
  (∀ (p : BitVec 4) (a : BitVec 7) (s : State), s.tan.firmware = none → (s.onA = true ∨ s.tan.single = true) → s.me.savedNow = none →
     let c := s.me.csr
     a.toNat < 112 → a.toNat % c.grp = 0 → a.toNat + c.rows * c.grp ≤ 112 → c.sew = 64 → c.len % 4 = 0 → c.start = 0 →
     let tile := (range 0 (c.rows * c.grp)).map (fun k => s.me.readV (a.toNat + k))
     let t := s.endStrip.spoilStrip
     let r := (range 0 (c.rows * c.len / 4)).foldl (batchOne t.myCtx t.tan.core tile) (t.me, [], false)
     exec (.cpyb p a) s = .next (retire s (s.me.pc + 4)
       { t with me := r.1.writeP p.toNat (setPredBits (r.1.readP p.toNat) c.len r.2.1) }) ∧
     r.1.copies.length ≤ t.me.copies.length + c.rows * c.len / 4 ∧ r.2.1.length = c.rows * c.len / 4)

/-! ## Marked loops and rate sets (R257–R262, R316, R326, R329–R331) -/

/-- The operands of an LMARK name two different registers s1–s111, and no marked loop is active (R257). -/
def Claims.markable (s : State) (a b : BitVec 7) : Prop :=
  1 ≤ a.toNat ∧ a.toNat ≤ 111 ∧ 1 ≤ b.toNat ∧ b.toNat ≤ 111 ∧ a ≠ b ∧ s.me.loop = none ∧ s.tan.firmware = none

/-- R257, R316: LMARK, whose target holds a LEND word, with a count of 0 passes to the word after the LEND; with another count it activates the loop from
the next word, with its count and start index, RECORDING where the count passes LRECN and LOFF is not in force; LSTAT says so.

R258, R326: a LEND of an active loop that is not recording decrements the count register, increments the index register and goes back to the loop's
start while the count was not 1; at 1 it ends the loop and passes on, LSTAT's STATE COMPLETE or NOREPLAY and LIDX the count. Elsewhere it is an illegal
instruction.

R260, R331, R332: LMARK.SWEEP of a set with due members sets its ACT, gives their number in s[A] and the lowest due id in s[B], and activates the sweep's
loop over them.

R329, R331: the due members of a sweep are those whose NEXT is at most S, in ascending order of their ids. -/
def Obligations.MarkedLoopsAndSweepsCount : Prop :=
  (∀ (a b : BitVec 7) (o : BitVec 9) (s u : State), Claims.markable s a b →
     let lend := s.me.pc + 4 * o.signExtend 64
     fetchAt lend.toNat s = .ok 0x38 u → u.me = s.me →
     (s.me.readS a.toNat = 0 →
       exec (.lmark a b o) s = .next (retireWith true s (lend + 4) none
         { u with me := { s.me with csr := { s.me.csr with lstat := 1, lidx := 0 } } })) ∧
     (s.me.readS a.toNat ≠ 0 →
       ∃ l, exec (.lmark a b o) s = .next (retireWith true s (s.me.pc + 4) none
           { u with me := { s.me with loop := some l, csr := { s.me.csr with lstat := if s.me.loff then 0x17 else 7 } } }) ∧
         l.start = s.me.pc + 4 ∧ l.lend = lend ∧ l.ra = a.toNat ∧ l.rb = b.toNat ∧ l.count = (s.me.readS a.toNat).toNat ∧
         l.start0 = s.me.readS b.toNat ∧ l.iter = 0 ∧ l.sweep = none ∧ l.replay = none ∧
         (l.recd.isSome = true ↔ s.me.loff = false ∧ s.me.csr.lrecn.toNat < l.count))) ∧
  ((∀ (s : State) (l : Loop), s.me.loop = some l → s.me.pc = l.lend → l.sweep = none → l.recd = none → l.replay = none → l.handed = false →
     let h := (s.me.writeS l.rb (s.me.readS l.rb + 1)).writeS l.ra (s.me.readS l.ra - 1)
     (s.me.readS l.ra ≠ 1 → l.ra ≠ l.rb →
       exec .lend s = .next (retireWith false s l.start none { s with me := { h with loop := some { l with iter := l.iter + 1 } } })) ∧
     (s.me.readS l.ra = 1 →
       exec .lend s = .next (retireWith false s (s.me.pc + 4) none { s with me := { h with
         loop := none
         csr := { s.me.csr with
           lstat := setField s.me.csr.lstat 0 4 (if field s.me.csr.lstat 4 4 = 0 then 1 else 5)
           lidx := BitVec.ofNat 64 l.count } } }))) ∧
   (∀ s : State, (∀ l, s.me.loop = some l → s.me.pc ≠ l.lend ∨ l.replay ≠ none) →
     exec .lend s = .next (takeTrap 1 0 s.me.pc 0 s.irWord s))) ∧
  (∀ (a b : BitVec 7) (o : BitVec 9) (s s1 s2 : State) (w : Sweep) (first : Nat × Nat × Nat) (rest : List (Nat × Nat × Nat)),
     Claims.markable s a b → sweepChecks a b o s = .ok (s.me.pc + 4 * o.signExtend 64, w) s1 → w.due = first :: rest →
     openSweep w.header s1 = .ok () s2 →
     ∃ l, exec (.lmarkSweep a b o) s = .next (retireWith true s (s2.me.pc + 4) none { s2 with
         notes := []
         me := { (s2.me.writeS a.toNat (BitVec.ofNat 64 w.due.length)).writeS b.toNat (BitVec.ofNat 64 first.1) with
           loop := some l, csr := { s2.me.csr with lstat := if s2.me.loff then 0x17 else 7 } } }) ∧
       l.sweep = some w ∧ l.count = w.due.length ∧ l.start = s2.me.pc + 4 ∧ l.lend = s.me.pc + 4 * o.signExtend 64) ∧
  (∀ (header : Nat) (w : Nat → Nat) (n i : Nat) (s t : State) (ms : List Member),
     readMembers header n i s = .ok ms t →
     ms.map (·.id) = range i n ∧
     ((sweepOf header w ms).due.map (·.1)).Pairwise (· < ·) ∧
     ∀ d, d ∈ (sweepOf header w ms).due.map (·.1) ↔ ∃ m ∈ ms, m.id = d ∧ m.next ≤ w 1 % 2 ^ 32)

/-- R261, R262: LOFF takes its state from bit 0 of s[A] and refuses any other bit; RSNEW with B = 0 selects the set at an aligned address of cached memory;
RSQ reads a member's rate class; RSPOL writes its two policy words behind the held stores. -/
def Obligations.RateSetInstructionsAct : Prop :=
  ∀ s : State, s.tan.firmware = none →
    (∀ a : BitVec 7, s.srcOk a.toNat → s.srcHere a.toNat →
      let x := s.srcValue a.toNat
      let t := s.srcTaken a.toNat
      (x.toNat ≤ 1 → exec (.loff a) s = .next (retire s (s.me.pc + 4) { t with me := { s.me with loff := x == 1 } })) ∧
      (1 < x.toNat → exec (.loff a) s = .next (takeTrap 2 0 s.me.pc 0 s.irWord s))) ∧
    (∀ (a : BitVec 7) (xs : List Xlat), s.srcOk a.toNat → s.srcHere a.toNat →
      let x := s.srcValue a.toNat
      x.toNat % 64 = 0 → s.opens .load false x.toNat 64 xs →
      let t := (s.srcTaken a.toNat).marked .load xs
      exec (.rsnew a 0) s = .next (retire s (s.me.pc + 4) { t with me := { s.me with rateSet := some x.toNat } })) ∧
    (∀ (d a : BitVec 7) (h w r : Nat) (s1 s2 : State), d.toNat < 112 → a.toNat < 112 → s.me.rateSet = some h →
      readMem false h 8 s = .ok w s1 → (s.me.readS a.toNat).toNat < w % 2 ^ 17 →
      readMem false (recordAddr h (s.me.readS a.toNat).toNat) 8 s1 = .ok r s2 → 
      exec (.rsq d a) s = .next (retire s (s.me.pc + 4) { s2 with me := s2.me.writeS d.toNat (BitVec.ofNat 64 (r / 2 ^ 32 % 8)) })) ∧
    (∀ (a b : BitVec 7) (h w : Nat) (s1 s2 : State), a.toNat < 112 → b.toNat < 112 → s.me.rateSet = some h →
      let x := (s.me.readS a.toNat).toNat
      let y := (s.me.readS b.toNat).toNat
      x / 16 % 2 ^ 28 = 0 → y < 2 ^ 32 → (fp32.decode (x / 2 ^ 32)).isNaN = false → (fp32.decode y).isNaN = false →
      ltVal (fp32.decode (x / 2 ^ 32)) (fp32.decode y) = false →
      readMem false ((h + 8) % 2 ^ 64) 8 s = .ok w s1 → w.testBit 63 = false →
      setWords [((h + 0x10) % 2 ^ 64, x), ((h + 0x18) % 2 ^ 64, y)] s1.endStrip.spoilStrip = .ok () s2 →
      exec (.rspol a b) s = .next (retire s (s.me.pc + 4) s2))

/-! ## Vector arithmetic (R185–R201) -/

/-- The tiles of an instruction with two source tiles and a destination in the width in force are ready, VTYPE.BLK is 0, and a source that meets the
destination is it (R185). -/
def Claims.tiles2 (s : State) (d a b : Nat) : Prop :=
  let g := s.me.csr.grp
  s.vectorHere ∧ s.me.csr.blk = 0 ∧ s.tileHere a g ∧ (s.tileTaken a g).tileHere b g ∧ ((s.tileTaken a g).tileTaken b g).tileRoom d g ∧
  (d = a ∨ s.apart d g a g) ∧ (d = b ∨ s.apart d g b g)

/-- The same of one source tile and a scalar source. -/
def Claims.tileScalar (s : State) (d a b : Nat) : Prop :=
  let g := s.me.csr.grp
  s.vectorHere ∧ s.me.csr.blk = 0 ∧ s.tileHere a g ∧ s.srcOk b ∧ (s.tileTaken a g).srcHere b ∧
  ((s.tileTaken a g).srcTaken b).tileRoom d g ∧ (d = a ∨ s.apart d g a g)

/-- The same of one source tile. -/
def Claims.tiles1 (s : State) (d a : Nat) : Prop :=
  let g := s.me.csr.grp
  s.vectorHere ∧ s.me.csr.blk = 0 ∧ s.tileHere a g ∧ (s.tileTaken a g).tileRoom d g ∧ (d = a ∨ s.apart d g a g)

/-- An element format that can be used: NFMT is legal where it is the format (R56, R185). -/
def Claims.formatted (s : State) : Prop := s.me.csr.sew = 8 → s.me.csr.fk = 0 → narrowLegal s.me.csr.nfmt.toNat = true

/-- Element i of row j of the tile that names `a` in state `s`, in the width in force. -/
def Claims.elem (s : State) (a j i : Nat) : Nat := elemAt (s.tileValue a s.me.csr.grp) s.me.csr.grp s.me.csr.sew j i

/-- Its second source tile, read after the first. -/
def Claims.elem2 (s : State) (a b j i : Nat) : Nat := Claims.elem (s.tileTaken a s.me.csr.grp) b j i

/-- The low SEW bits of the scalar source B, read after the tile A. -/
def Claims.scalar2 (s : State) (a b : Nat) : Nat := ((s.tileTaken a s.me.csr.grp).srcValue b).toNat % 2 ^ s.me.csr.sew

/-- The linear index of element i of row j (R12). -/
def Claims.index (s : State) (j i : Nat) : Nat := j * s.me.csr.len + i

/-- The two forms of an instruction that combines elements: a second tile, or a scalar for every element. -/
def Claims.pairForms (s : State) (vv vs : BitVec 7 → BitVec 7 → BitVec 7 → BitVec 1 → Instr) (d a b : BitVec 7) (m : BitVec 1)
    (f : Nat → Nat → Nat → Nat → Nat × Nat) : Prop :=
  let g := s.me.csr.grp
  let w := s.me.csr.sew
  (Claims.tiles2 s d.toNat a.toNat b.toNat → s.retiresTile (vv d a b m) ((s.tileTaken a.toNat g).tileTaken b.toNat g) d.toNat g w
    (s.each (m == 1) (fun j i => f j i (Claims.elem s a.toNat j i) (Claims.elem2 s a.toNat b.toNat j i)))) ∧
  (Claims.tileScalar s d.toNat a.toNat b.toNat → s.retiresTile (vs d a b m) ((s.tileTaken a.toNat g).srcTaken b.toNat) d.toNat g w
    (s.each (m == 1) (fun j i => f j i (Claims.elem s a.toNat j i) (Claims.scalar2 s a.toNat b.toNat))))

/-- VINT and VINTX with the value of an element (R188). -/
noncomputable def Claims.vints : List ((BitVec 7 → BitVec 7 → BitVec 7 → BitVec 1 → Instr) × (BitVec 7 → BitVec 7 → BitVec 7 → BitVec 1 → Instr) ×
    ((w : Nat) → BitVec w → BitVec w → BitVec w)) :=
  [(.vadd, .vaddVs, fun _ x y => x + y), (.vsub, .vsubVs, fun _ x y => x - y), (.vmul, .vmulVs, fun _ x y => x * y),
   (.vmulh, .vmulhVs, fun w x y => (x.signExtend (2 * w) * y.signExtend (2 * w)).extractLsb' w w),
   (.vmulhn, .vmulhnVs, fun w x y => (x.setWidth (2 * w) * y.setWidth (2 * w)).extractLsb' w w),
   (.vand, .vandVs, fun _ x y => x &&& y), (.vor, .vorVs, fun _ x y => x ||| y), (.vxor, .vxorVs, fun _ x y => x ^^^ y),
   (.vsll, .vsllVs, fun w x y => x <<< (y.toNat % w)), (.vsrl, .vsrlVs, fun w x y => x >>> (y.toNat % w)),
   (.vsra, .vsraVs, fun w x y => x.sshiftRight (y.toNat % w)),
   (.vmin, .vminVs, fun _ x y => if y.slt x then y else x), (.vmax, .vmaxVs, fun _ x y => if x.slt y then y else x),
   (.vminn, .vminnVs, fun _ x y => if y.ult x then y else x), (.vmaxn, .vmaxnVs, fun _ x y => if x.ult y then y else x),
   (.vsadd, .vsaddVs, fun w x y => BitVec.ofInt w (max (-(2 ^ (w - 1))) (min (2 ^ (w - 1) - 1) (x.toInt + y.toInt))))]

/-- The two-operand members of VFP and VFPX: the value and the flags of an element in a format (R189). -/
noncomputable def Claims.vfpPairs : List ((BitVec 7 → BitVec 7 → BitVec 7 → BitVec 1 → Instr) × (BitVec 7 → BitVec 7 → BitVec 7 → BitVec 1 → Instr) ×
    (Fmt → Nat → Nat → Nat → Nat → Nat × Nat)) :=
  [(.vfadd, .vfaddVs, fAdd), (.vfsub, .vfsubVs, fSub), (.vfmul, .vfmulVs, fMul), (.vfdiv, .vfdivVs, fDiv),
   (.vfmin, .vfminVs, fun f _ _ => minMax f false), (.vfmax, .vfmaxVs, fun f _ _ => minMax f true),
   (.vfsgc, .vfsgcVs, fun f _ _ x y => (f.code (f.neg y) (f.mag x), 0))]

/-- The one-operand members of VFP and VFPX, and whether SEW 8 has them (R189, R192). -/
noncomputable def Claims.vfpUnary : List ((BitVec 7 → BitVec 7 → BitVec 1 → Instr) × (BitVec 7 → BitVec 7 → BitVec 1 → Instr) × Bool ×
    (Fmt → Nat → Nat → Nat → Nat × Nat)) :=
  [(.vfsqrt, .vfsqrtVs, true, fSqrt), (.vfabs, .vfabsVs, true, fun f _ _ x => (f.mag x, 0)),
   (.vfneg, .vfnegVs, true, fun f _ _ x => (f.code (!f.neg x) (f.mag x), 0)), (.vfrece, .vfreceVs, false, fun f _ _ x => fRece f x),
   (.vfrsqe, .vfrsqeVs, false, fun f _ _ x => fRsqe f x), (.vfexp2e, .vfexp2eVs, false, fun f _ _ x => fExp2e f x),
   (.vfclass, .vfclassVs, false, fun f _ _ x => (classCode f x, 0))]

/-- The two widening members and what they round (R190). -/
noncomputable def Claims.vfpWides : List ((BitVec 7 → BitVec 7 → BitVec 7 → BitVec 1 → Instr) × (Nat → Val → Val → Val × Nat)) :=
  [(.vfaddw, addVal), (.vfmulw, fun _ => mulVal)]

/-- R186, R188: each member of VINT and VINTX writes its value to every performed element of D, whatever the width, the mask, VSTART and the queues
its operands name, and no flag.

R189–R192, R63, R64: the members of VFP and VFPX write their rounded value to every performed element and raise the flags of those elements
alone; the draw of an element under stochastic rounding is that of its linear index; the widening members deliver to the format twice as wide.

That rows below VSTART are pushed as zeros to a queue that D names is the model's reading (log 39). -/
def Obligations.VectorArithmeticFollowsItsTables : Prop :=
  (∀ p ∈ Claims.vints, ∀ (d a b : BitVec 7) (m : BitVec 1) (s : State),
     let w := s.me.csr.sew
     Claims.pairForms s p.1 p.2.1 d a b m (fun _ _ x y => ((p.2.2 w (BitVec.ofNat w x) (BitVec.ofNat w y)).toNat, 0))) ∧
  (∀ (d a b : BitVec 7) (m : BitVec 1) (s : State), Claims.formatted s →
     let c := s.me.csr
     let g := c.grp
     let r (j i : Nat) := s.rounding (Claims.index s j i)
     (∀ p ∈ Claims.vfpPairs, Claims.pairForms s p.1 p.2.1 d a b m (fun j i => p.2.2 c.fmt (r j i).1 (r j i).2)) ∧
     (∀ p ∈ Claims.vfpUnary, (c.sew = 8 → p.2.2.1 = true) →
       (Claims.tiles1 s d.toNat a.toNat → s.retiresTile (p.1 d a m) (s.tileTaken a.toNat g) d.toNat g c.sew
         (s.each (m == 1) (fun j i => p.2.2.2 c.fmt (r j i).1 (r j i).2 (Claims.elem s a.toNat j i)))) ∧
       (s.vectorHere → c.blk = 0 → s.srcOk b.toNat → s.srcHere b.toNat → (s.srcTaken b.toNat).tileRoom d.toNat g →
         s.retiresTile (p.2.1 d b m) (s.srcTaken b.toNat) d.toNat g c.sew
           (s.each (m == 1) (fun j i => p.2.2.2 c.fmt (r j i).1 (r j i).2 ((s.srcValue b.toNat).toNat % 2 ^ c.sew))))) ∧
     (∀ p ∈ Claims.vfpWides, s.vectorHere → c.blk = 0 → c.sew ≠ 64 → g ≠ 8 → s.tileHere a.toNat g → (s.tileTaken a.toNat g).tileHere b.toNat g →
       let t := (s.tileTaken a.toNat g).tileTaken b.toNat g
       t.tileRoom d.toNat (2 * g) → s.apart d.toNat (2 * g) a.toNat g → s.apart d.toNat (2 * g) b.toNat g →
       s.retiresTile (p.1 d a b m) t d.toNat (2 * g) (2 * c.sew) (s.each (m == 1) (fun j i =>
         finish c.wideFmt (r j i).1 (r j i).2
           (p.2 (r j i).1 (c.fmt.decode (Claims.elem s a.toNat j i)) (c.fmt.decode (Claims.elem2 s a.toNat b.toNat j i)))))) ∧
     (Claims.tiles1 s d.toNat a.toNat → 1 ≤ b.toNat → b.toNat ≤ 110 →
       s.retiresTile (.vfclamp d a b m) (s.tileTaken a.toNat g) d.toNat g c.sew (s.each (m == 1) (fun j i =>
         let p := minMax c.fmt true (Claims.elem s a.toNat j i) ((s.me.readS b.toNat).toNat % 2 ^ c.sew)
         let q := minMax c.fmt false p.1 ((s.me.readS (b.toNat + 1)).toNat % 2 ^ c.sew)
         (q.1, p.2 ||| q.2)))))

/-- The multiply-adds in one format: whether the product and the addend are negated (R193). -/
noncomputable def Claims.vfmas : List ((BitVec 7 → BitVec 7 → BitVec 7 → BitVec 1 → Instr) × (BitVec 7 → BitVec 7 → BitVec 7 → BitVec 1 → Instr) × Bool × Bool) :=
  [(.vfma, .vfmaX, false, false), (.vfms, .vfmsX, false, true), (.vfnma, .vfnmaX, true, false), (.vfnms, .vfnmsX, true, true)]

/-- R193: the multiply-adds read D as their addend and round once; VFMAW delivers to the format twice as wide; VMACC adds the product of integers
modulo 2^SEW. D is a register. -/
def Obligations.MultiplyAddsReadTheirAddend : Prop :=
  ∀ (d a b : BitVec 7) (m : BitVec 1) (s : State), d.toNat < 112 →
    let c := s.me.csr
    let g := c.grp
    let r (j i : Nat) := s.rounding (Claims.index s j i)
    (Claims.formatted s → ∀ p ∈ Claims.vfmas, Claims.pairForms s p.1 p.2.1 d a b m (fun j i x y =>
      fFma c.fmt c.fmt (r j i).1 (r j i).2 p.2.2.1 p.2.2.2 x y (Claims.elem s d.toNat j i))) ∧
    Claims.pairForms s .vmacc .vmaccX d a b m (fun j i x y => ((Claims.elem s d.toNat j i + x * y) % 2 ^ c.sew, 0)) ∧
    (Claims.formatted s → s.vectorHere → c.blk = 0 → c.sew ≠ 64 → g ≠ 8 → s.tileHere a.toNat g → s.tileRoom d.toNat (2 * g) →
      s.apart d.toNat (2 * g) a.toNat g →
      let wide (j i x y : Nat) := fFma c.fmt c.wideFmt (r j i).1 (r j i).2 false false x y
        (elemAt (s.tileValue d.toNat (2 * g)) (2 * g) (2 * c.sew) j i)
      ((s.tileTaken a.toNat g).tileHere b.toNat g → s.apart d.toNat (2 * g) b.toNat g →
        s.retiresTile (.vfmaw d a b m) ((s.tileTaken a.toNat g).tileTaken b.toNat g) d.toNat (2 * g) (2 * c.sew)
          (s.each (m == 1) (fun j i => wide j i (Claims.elem s a.toNat j i) (Claims.elem2 s a.toNat b.toNat j i)))) ∧
      (s.srcOk b.toNat → (s.tileTaken a.toNat g).srcHere b.toNat →
        s.retiresTile (.vfmawX d a b m) ((s.tileTaken a.toNat g).srcTaken b.toNat) d.toNat (2 * g) (2 * c.sew)
          (s.each (m == 1) (fun j i => wide j i (Claims.elem s a.toNat j i) (Claims.scalar2 s a.toNat b.toNat)))))

/-- The relations of VCMP on integers (R194). -/
noncomputable def Claims.vcmpInts : List (Bool × (BitVec 4 → BitVec 7 → BitVec 7 → BitVec 1 → Instr) × ((w : Nat) → BitVec w → BitVec w → Bool)) :=
  [(false, .vseq, fun _ x y => x == y), (false, .vsne, fun _ x y => x != y), (false, .vslt, fun _ x y => x.slt y),
   (false, .vsle, fun _ x y => x.sle y), (false, .vsltn, fun _ x y => x.ult y), (false, .vslen, fun _ x y => x.ule y),
   (true, .vseqX, fun _ x y => x == y), (true, .vsltX, fun _ x y => x.slt y), (true, .vsgtX, fun _ x y => y.slt x)]

/-- The relations of VCMP on floating values, and whether a quiet NaN raises NV (R194). -/
noncomputable def Claims.vcmpFloats : List (Bool × (BitVec 4 → BitVec 7 → BitVec 7 → BitVec 1 → Instr) × Bool × (Val → Val → Bool)) :=
  [(false, .vfeq, false, eqVal), (false, .vfne, false, fun x y => !eqVal x y), (false, .vflt, true, ltVal),
   (false, .vfle, true, fun x y => ltVal x y || eqVal x y), (false, .vfunord, false, fun x y => x.isNaN || y.isNaN),
   (true, .vfltX, true, ltVal), (true, .vfgtX, true, fun x y => ltVal y x)]

/-- A compare retires with its truths in lane i of row j of pD, below RC: a performed element's truth, an element below VSTART as it stood, any
other lane kept or zeroed under IP; with VL = 0 nothing is written (R186, R194). -/
def Claims.compares (s : State) (i : Instr) (t : State) (p : Nat) (m : Bool) (rel : Nat → Nat → Bool × Nat) : Prop :=
  ∃ q : PReg, (∀ j < 16, ∀ k < 1024, q.getLsbD (1024 * j + k) =
      if s.me.csr.rows ≤ j then (s.me.readP p).getLsbD (1024 * j + k)
      else match s.each m (fun j k => ((rel j k).1.toNat, (rel j k).2)) j k with
        | .value v _ => v == 1
        | .inactive => if s.me.csr.ip then false else (s.me.readP p).getLsbD (1024 * j + k)
        | .kept => (s.me.readP p).getLsbD (1024 * j + k)) ∧
    s.retiresWith i { t with me := { (if s.me.csr.len = 0 then t.me else t.me.writeP p q) with csr := { t.me.csr with vstart := 0 } } }
      (s.flagsOf 1024 (s.each m (fun j k => ((rel j k).1.toNat, (rel j k).2))))

/-- The logical members of PMASK (R195). -/
noncomputable def Claims.pmasks : List ((BitVec 4 → BitVec 4 → BitVec 4 → Instr) × (Bool → Bool → Bool)) :=
  [(.pand, fun x y => x && y), (.por, fun x y => x || y), (.pxor, fun x y => x != y), (.pandn, fun x y => x && !y), (fun d a _ => .pnot d a, fun x _ => !x)]

/-- The bit of lane i of row j. -/
def Claims.lane (q : PReg) (j i : Nat) : Bool := q.getLsbD (1024 * j + i)

/-- The predicate D takes `f` in the lanes below VL of the rows below RC whose linear index is at least `from`, and keeps its other bits. -/
def Claims.predWritten (s : State) (d first : Nat) (f : Nat → Nat → Bool) (q : PReg) : Prop :=
  ∀ j < 16, ∀ i < 1024, Claims.lane q j i =
    if j < s.me.csr.rows ∧ i < s.me.csr.len ∧ first ≤ Claims.index s j i then f j i else Claims.lane (s.me.readP d) j i

/-- The state with predicate D written and VSTART 0. -/
def Claims.predPut (t : State) (d : Nat) (q : PReg) : State :=
  { t with me := { t.me.writeP d q with csr := { t.me.csr with vstart := 0 } } }

/-- R194: each member of VCMP gives the truth of its relation for every performed element; the floating ones raise NV for a signalling NaN, the ordered
ones for any.

R195: the members of PMASK. -/
def Obligations.ComparesAndPredicatesWriteTheirBits : Prop :=
  (∀ (p : BitVec 4) (a b : BitVec 7) (m : BitVec 1) (s : State), s.vectorHere → s.me.csr.blk = 0 → s.me.csr.rows ≤ 16 → s.me.csr.len ≤ 1024 →
     let c := s.me.csr
     let g := c.grp
     let t (x : Bool) := if x then (s.tileTaken a.toNat g).srcTaken b.toNat else (s.tileTaken a.toNat g).tileTaken b.toNat g
     let y (x : Bool) (j i : Nat) := if x then Claims.scalar2 s a.toNat b.toNat else Claims.elem2 s a.toNat b.toNat j i
     let ready (x : Bool) : Prop := s.tileHere a.toNat g ∧
       if x then s.srcOk b.toNat ∧ (s.tileTaken a.toNat g).srcHere b.toNat else (s.tileTaken a.toNat g).tileHere b.toNat g
     (∀ q ∈ Claims.vcmpInts, ready q.1 → Claims.compares s (q.2.1 p a b m) (t q.1) p.toNat (m == 1) (fun j i =>
       (q.2.2 c.sew (BitVec.ofNat _ (Claims.elem s a.toNat j i)) (BitVec.ofNat _ (y q.1 j i)), 0))) ∧
     (Claims.formatted s → ∀ q ∈ Claims.vcmpFloats, ready q.1 → Claims.compares s (q.2.1 p a b m) (t q.1) p.toNat (m == 1) (fun j i =>
       let u := c.fmt.decode (Claims.elem s a.toNat j i)
       let v := c.fmt.decode (y q.1 j i)
       (q.2.2.2 u v, if u.signals || v.signals || (q.2.2.1 && (u.isNaN || v.isNaN)) then flagNV else 0)))) ∧
  (∀ (d a b : BitVec 4) (e : BitVec 7) (s : State), s.vectorHere → s.me.csr.blk = 0 → s.me.csr.rows ≤ 16 → s.me.csr.len ≤ 1024 →
     let c := s.me.csr
     let x := Claims.lane (s.me.readP a.toNat)
     let y := Claims.lane (s.me.readP b.toNat)
     let ones := (range 0 (c.rows * c.len)).filter (fun e => x (e / c.len) (e % c.len))
     (∀ p ∈ Claims.pmasks, ∃ q, Claims.predWritten s d.toNat c.start (fun j i => p.2 (x j i) (y j i)) q ∧
       s.retiresWith (p.1 d a b) (Claims.predPut s d.toNat q) 0) ∧
     s.retiresWith (.pset d) (Claims.predPut s d.toNat (BitVec.allOnes _)) 0 ∧ s.retiresWith (.pclr d) (Claims.predPut s d.toNat 0) 0 ∧
     (c.vstart = 0 → ∃ q r,
       Claims.predWritten s d.toNat 0 (fun j i => x j i && decide (∀ k < i, y j k = false)) q ∧ s.retiresWith (.pcut d a b) (Claims.predPut s d.toNat q) 0 ∧
       Claims.predWritten s d.toNat 0 (fun j i => x j i && decide (∀ k ≤ i, y j k = false)) r ∧ s.retiresWith (.pcuti d a b) (Claims.predPut s d.toNat r) 0) ∧
     (c.vstart = 0 → s.dstOk e.toNat → s.dstRoom e.toNat →
       s.retiresWith (.ppop e a) (s.dstPut e.toNat (BitVec.ofNat 64 ones.length)) 0 ∧
       s.retiresWith (.pfirst e a) (s.dstPut e.toNat (match ones with | [] => BitVec.allOnes 64 | k :: _ => BitVec.ofNat 64 k)) 0) ∧
     (s.tileHere e.toNat c.grp → ∃ q, Claims.predWritten s d.toNat c.start (fun j i => Claims.elem s e.toNat j i != 0) q ∧
       s.retiresWith (.pfromv d e) (Claims.predPut (s.tileTaken e.toNat c.grp) d.toNat q) 0) ∧
     (s.tileRoom e.toNat c.grp → s.retiresTile (.ptov e a) s e.toNat c.grp c.sew (s.each false (fun j i => ((x j i).toNat, 0)))))

/-- A permute is ready: VSTART is 0 and its source tile shares no register with D (R187, R196). -/
def Claims.permutes (s : State) (d a : Nat) : Prop :=
  let g := s.me.csr.grp
  s.vectorHere ∧ s.me.csr.blk = 0 ∧ s.me.csr.vstart = 0 ∧ s.tileHere a g ∧ s.apart d g a g

/-- R196, R197: the members of VPERM move elements within rows, or between them, as their rules say; a position that no element reaches is inactive. -/
def Obligations.PermutesMoveElements : Prop :=
  ∀ (d a b : BitVec 7) (pb : BitVec 4) (m : BitVec 1) (s : State),
    let c := s.me.csr
    let g := c.grp
    let vl := c.len
    let n := d.toNat
    let x := Claims.elem s a.toNat
    let u := s.tileTaken a.toNat g
    let v := u.srcTaken b.toNat
    let k := (u.srcValue b.toNat).toNat
    (Claims.permutes s n a.toNat → s.srcOk b.toNat → u.srcHere b.toNat → v.tileRoom n g →
      s.retiresTile (.vslideup d a b m) v n g c.sew
        (fun j i => if i < vl ∧ i < k then .kept else s.each (m == 1) (fun j i => (x j (i - k), 0)) j i) ∧
      s.retiresTile (.vslidedn d a b m) v n g c.sew (s.each (m == 1) (fun j i => (if i + k < vl then x j (i + k) else 0, 0))) ∧
      s.retiresTile (.vslide1up d a b m) v n g c.sew (s.each (m == 1) (fun j i => (if i = 0 then k % 2 ^ c.sew else x j (i - 1), 0))) ∧
      s.retiresTile (.vslide1dn d a b m) v n g c.sew (s.each (m == 1) (fun j i => (if i + 1 < vl then x j (i + 1) else k % 2 ^ c.sew, 0))) ∧
      (k < c.rows → s.retiresTile (.vrowbc d a b) v n g c.sew (fun _ i => if i < vl then .value (x k i) 0 else .inactive))) ∧
    (Claims.permutes s n a.toNat → u.tileHere b.toNat g → s.apart n g b.toNat g → (u.tileTaken b.toNat g).tileRoom n g →
      s.retiresTile (.vpermi d a b m) (u.tileTaken b.toNat g) n g c.sew (s.each (m == 1) (fun j i =>
        let l := Claims.elem2 s a.toNat b.toNat j i
        (if l < vl then x j l else 0, 0)))) ∧
    (Claims.permutes s n a.toNat → u.tileRoom n g →
      let chosen (j : Nat) := (range 0 vl).filter (Claims.lane (s.me.readP pb.toNat) j)
      s.retiresTile (.vcompress d a pb) u n g c.sew (fun j i => match (chosen j)[i]? with
        | some l => .value (x j l) 0
        | none => .inactive) ∧
      s.retiresTile (.vexpand d a pb) u n g c.sew (fun j i =>
        if i ∈ chosen j then .value (x j ((chosen j).filter (· < i)).length) 0 else .inactive) ∧
      (vl = c.rows → s.retiresTile (.vtrans d a) u n g c.sew (fun j i => if i < vl then .value (x i j) 0 else .inactive))) ∧
    (Claims.tiles2 s n a.toNat b.toNat → s.retiresTile (.vmerge d a b) (u.tileTaken b.toNat g) n g c.sew (s.each false (fun j i =>
      (if Claims.lane (s.me.readP 0) j i then x j i else Claims.elem2 s a.toNat b.toNat j i, 0)))) ∧
    (s.vectorHere → c.blk = 0 → s.srcOk a.toNat → s.srcHere a.toNat → (s.srcTaken a.toNat).tileRoom n g →
      s.retiresTile (.vsplat d a m) (s.srcTaken a.toNat) n g c.sew (s.each (m == 1) (fun _ _ => ((s.srcValue a.toNat).toNat % 2 ^ c.sew, 0)))) ∧
    (s.vectorHere → c.blk = 0 → c.vstart = 0 → s.tileHere a.toNat g → s.srcOk b.toNat → u.srcHere b.toNat → s.dstOk n → v.dstRoom n →
      s.retiresWith (.vmvxs d a b) (v.dstPut n
        (if k < c.rows * vl then (BitVec.ofNat c.sew (x (k / vl) (k % vl))).signExtend 64 else 0)) 0)

/-- The active elements of row j, ascending, as their value and linear index (R74, R198). -/
def Claims.row (s : State) (a : Nat) (m : Bool) (j : Nat) : List (Nat × Nat) :=
  ((range 0 s.me.csr.len).filter (fun i => !m || Claims.lane (s.me.readP 0) j i)).map (fun i => (Claims.elem s a j i, Claims.index s j i))

/-- What a signalling start raises by itself, also where nothing is added to it (R52). -/
def Claims.startFlags (s : State) (start : Nat) : Nat := if (s.me.csr.fmt.decode start).signals then flagNV else 0

/-- A sum in ascending order with its flags: the draw of each addition is that of the element added (R74). -/
def Claims.sumUp (s : State) (start : Nat) (xs : List (Nat × Nat)) : Nat × Nat :=
  xs.foldl (fun t x => let q := fAdd s.me.csr.fmt (s.rounding x.2).1 (s.rounding x.2).2 t.1 x.1; (q.1, t.2 ||| q.2)) (start, Claims.startFlags s start)

/-- A sum of nodes in some association, with its flags: two of the nodes are added, until one is left (R74, R77). -/
def Claims.sumsTo (s : State) : Nat → List Node → Node × Nat → Prop
  | 0, l, r => l = [r.1] ∧ r.2 = 0
  | n + 1, l, r => (l = [r.1] ∧ r.2 = 0) ∨ ∃ x y rest flags, l.Perm (x :: y :: rest) ∧
      Claims.sumsTo s n ((addNodes s x y).1 :: rest) (r.1, flags) ∧ r.2 = (addNodes s x y).2 ||| flags

/-- A value and its flags are a sum of a start and of elements in some association (R77). -/
def Claims.associates (s : State) (start : Nat) (xs : List (Nat × Nat)) (r : Nat × Nat) : Prop :=
  ∃ q, Claims.sumsTo s xs.length (⟨start, none⟩ :: xs.map (fun x => ⟨x.1, some x.2⟩)) q ∧ r = (q.1.val, q.2 ||| Claims.startFlags s start)

/-- R75's tree over the 2^n positions from `lo` of row j: absent leaves pass the other side unchanged; each sum takes the draw of its highest index. -/
def Claims.tree (s : State) (leaf : Nat → Option Node) : Nat → Nat → Option Node × Nat
  | 0, lo => (leaf lo, 0)
  | n + 1, lo =>
    let x := Claims.tree s leaf n lo
    let y := Claims.tree s leaf n (lo + 2 ^ n)
    let c := combine s x.1 y.1
    (c.1, x.2 ||| y.2 ||| c.2)

/-- The integer reductions and minima of VRED: whether elements are floating, and one step with its flags (R198). A signalling start raises NV by
itself (R52, R77). -/
noncomputable def Claims.folds : List ((BitVec 7 → BitVec 7 → BitVec 7 → BitVec 1 → Instr) × Bool × (State → Nat → Nat → Nat × Nat)) :=
  [(.vfredmin, true, fun s x y => minMax s.me.csr.fmt false x y), (.vfredmax, true, fun s x y => minMax s.me.csr.fmt true x y),
   (.vredsum, false, fun s x y => ((x + y) % 2 ^ s.me.csr.sew, 0)),
   (.vredmin, false, fun s x y => (if (BitVec.ofNat s.me.csr.sew y).slt (BitVec.ofNat _ x) then y else x, 0)),
   (.vredmax, false, fun s x y => (if (BitVec.ofNat s.me.csr.sew x).slt (BitVec.ofNat _ y) then y else x, 0)),
   (.vredand, false, fun _ x y => (x &&& y, 0)), (.vredor, false, fun _ x y => (x ||| y, 0))]

/-- Tiles of a reduction or scan: VSTART is 0, and D may meet its sources (R187, R198). -/
def Claims.reduces (s : State) (d a b : Nat) : Prop :=
  let g := s.me.csr.grp
  s.vectorHere ∧ s.me.csr.blk = 0 ∧ s.me.csr.vstart = 0 ∧ s.tileHere a g ∧ (s.tileTaken a g).tileHere b g ∧ ((s.tileTaken a g).tileTaken b g).tileRoom d g

/-- A reduction's elements: element 0 of a row takes the result unless VL is 0; the rest of the row is inactive (R198). -/
def Claims.first (s : State) (r : Nat → Nat × Nat) (j i : Nat) : Elem := if i = 0 ∧ 0 < s.me.csr.len then .value (r j).1 (r j).2 else .inactive

/-- R74–R77, R198: a reduction starts from element 0 of row j of B and takes in the active elements of row j of A: VREDO strictly ascending, VREDT by the tree,
VREDU in some association, the others by their operation; VREDROW sums down the rows. Elements in a format of less than SEW bits are read by
their low bits. The model's reading (log 41): without an active element the result is the start as it stands, a NaN too.

R74, R76, R77, R198: a scan gives each active element the combination of the start with the active elements up to it: VSCANO strictly ascending, VISCAN
of integers, VSCANT by doubling, VSCANU in some association. -/
def Obligations.ReductionsAndScansCombineElements : Prop :=
  (∀ (d a b : BitVec 7) (m : BitVec 1) (s : State), Claims.reduces s d.toNat a.toNat b.toNat → s.me.csr.len ≤ 1024 →
     let c := s.me.csr
     let g := c.grp
     let n := d.toNat
     let t := (s.tileTaken a.toNat g).tileTaken b.toNat g
     let low (x : Nat) := x % 2 ^ c.fmt.width
     let start (j : Nat) := Claims.elem2 s a.toNat b.toNat j 0
     let row (j : Nat) := (Claims.row s a.toNat (m == 1) j).map (fun e => (low e.1, e.2))
     (∀ p ∈ Claims.folds, (p.2.1 = true → Claims.formatted s) →
       s.retiresTile (p.1 d a b m) t n g c.sew (Claims.first s (fun j =>
         (Claims.row s a.toNat (m == 1) j).foldl (fun u x => let q := p.2.2 s u.1 (if p.2.1 then low x.1 else x.1); (q.1, u.2 ||| q.2))
           (if p.2.1 then (low (start j), Claims.startFlags s (low (start j))) else (start j, 0))))) ∧
     (Claims.formatted s →
       s.retiresTile (.vredo d a b m) t n g c.sew (Claims.first s (fun j => Claims.sumUp s (low (start j)) (row j))) ∧
       s.retiresTile (.vredt d a b m) t n g c.sew (Claims.first s (fun j =>
         let leaf (i : Nat) : Option Node := if i < c.len ∧ (m = 1 → Claims.lane (s.me.readP 0) j i = true) then
           some { val := low (Claims.elem s a.toNat j i), idx := some (Claims.index s j i) } else none
         let x := Claims.tree s leaf 10 0
         match x.1 with
         | none => (low (start j), Claims.startFlags s (low (start j)))
         | some x1 => let q := addNodes s { val := low (start j), idx := none } x1; (q.1.val, x.2 ||| q.2))) ∧
       (c.hctl.getLsbD 0 = false → ∃ r k, s.retiresTile (.vredu d a b m) { t with free := k } n g c.sew (Claims.first s r) ∧
         ∀ j < c.rows, Claims.associates s (low (start j)) (row j) (r j)) ∧
       s.retiresTile (.vredrow d a b m) t n g c.sew (fun j i =>
         if j ≠ 0 then .kept
         else if i < c.len then
           let q := Claims.sumUp s (low (Claims.elem2 s a.toNat b.toNat 0 i))
             (((range 0 c.rows).filter (fun j => m == 0 || Claims.lane (s.me.readP 0) j i)).map
               (fun j => (low (Claims.elem s a.toNat j i), Claims.index s j i)))
           .value q.1 q.2
         else .inactive))) ∧
  (∀ (d a b : BitVec 7) (m : BitVec 1) (s : State), Claims.reduces s d.toNat a.toNat b.toNat →
     let c := s.me.csr
     let g := c.grp
     let n := d.toNat
     let t := (s.tileTaken a.toNat g).tileTaken b.toNat g
     let low (x : Nat) := x % 2 ^ c.fmt.width
     let start (j : Nat) := Claims.elem2 s a.toNat b.toNat j 0
     let upTo (j i : Nat) := (Claims.row s a.toNat (m == 1) j).filter (fun e => e.2 ≤ Claims.index s j i)
     s.retiresTile (.viscan d a b m) t n g c.sew (s.each (m == 1) (fun j i =>
       ((upTo j i).foldl (fun u x => (u + x.1) % 2 ^ c.sew) (start j), 0))) ∧
     (Claims.formatted s →
       s.retiresTile (.vscano d a b m) t n g c.sew (s.each (m == 1) (fun j i =>
         Claims.sumUp s (low (start j)) ((upTo j i).map (fun e => (low e.1, e.2))))) ∧
       s.retiresTile (.vscant d a b m) t n g c.sew (s.each (m == 1) (fun j i =>
         let leaves := (range 0 c.len).map (fun i => if m = 0 ∨ Claims.lane (s.me.readP 0) j i = true then
           some (Node.mk (low (Claims.elem s a.toNat j i)) (some (Claims.index s j i))) else none)
         let y := doubling s 11 1 leaves
         let q := addNodes s { val := low (start j), idx := none } ((y.1.getD i none).getD ⟨0, none⟩)
         (q.1.val, q.2 ||| y.2))) ∧
       (c.hctl.getLsbD 0 = false → ∃ r k, s.retiresTile (.vscanu d a b m) { t with free := k } n g c.sew (s.each (m == 1) r) ∧
         ∀ j < c.rows, ∀ i < c.len, (m = 1 → Claims.lane (s.me.readP 0) j i = true) →
           Claims.associates s (low (start j)) ((upTo j i).map (fun e => (low e.1, e.2))) (r j i))))

/-- The bits of an element in a VCVT code (R152). -/
def Claims.codeBits (c : Nat) : Nat := if c < 8 then 8 * 2 ^ (c % 4) else if c < 10 then 16 else if c = 10 then 32 else if c = 11 then 64 else 8

/-- The conversions of R199: which codes each takes, whether it reads elements as floating values, and one element. -/
noncomputable def Claims.conversions : List ((BitVec 7 → BitVec 7 → BitVec 7 → BitVec 1 → Instr) × (Nat → Bool) × Bool × (Csr → Nat → Nat → Nat → Nat → Nat × Nat)) :=
  [(.vcvtf, fun k => 8 ≤ k && k ≤ 14, true, fun c k => convert c.fmt (codeFmt k c.nfmt.toNat)),
   (.vcvtfi, fun k => k ≤ 7, true, fun c k => toIntegerCode c.fmt (decide (k < 4)) (Claims.codeBits k)),
   (.vcvtif, fun k => 8 ≤ k && k ≤ 14, false, fun c k m r x => (codeFmt k c.nfmt.toNat).deliver m r (intVal (BitVec.ofNat c.sew x).toInt)),
   (.vcvti, fun k => k ≤ 7, false, fun c k _ _ x =>
     let n := Claims.codeBits k
     let v : Int := if k < 4 then (BitVec.ofNat c.sew x).toInt else x
     let lo : Int := if k < 4 then -(2 ^ (n - 1)) else 0
     let hi : Int := if k < 4 then 2 ^ (n - 1) - 1 else 2 ^ n - 1
     ((BitVec.ofInt n (max lo (min hi v))).toNat, if v < lo ∨ hi < v then flagNV else 0))]

/-- R60, R200: block scales apply: SEW is 8, BLK 3 to 8, g at most 2, the tile has at most 256 blocks, and NFMT is legal where it is read. -/
def Claims.scaled (s : State) : Prop :=
  let c := s.me.csr
  s.vectorHere ∧ c.sew = 8 ∧ 3 ≤ c.blk ∧ c.blk ≤ 8 ∧ c.grp ≤ 2 ∧ (c.rows * c.len - 1) / 2 ^ c.blk ≤ 255 ∧ Claims.formatted s

/-- The scale of the block that holds element e: 2^(b − 127) by its byte b of k0, a NaN where b is 0xFF; inverted for a quantisation (R59, R200). -/
def Claims.blockFactor (s : State) (invert : Bool) (e : Nat) : Val :=
  let b := ((s.me.readK 0).toNat / 2 ^ (8 * (e / 2 ^ s.me.csr.blk))) % 256
  if b = 255 then .nan false else .num false 1 (if invert then 127 - (b : Int) else b - 127) false

/-- R199, R201: a conversion delivers every performed element to the format of its code, in a tile of that width; VINDEX writes START9 + e × STEP9.

R59, R60, R200: VQNT multiplies FP32 elements by the inverse of their block's scale and delivers them to the narrow format; VDQNT multiplies narrow elements by it
and delivers them to the format of its code; VBSCALE writes the scale of every block to kD. -/
def Obligations.ConversionsDeliverTheirFormat : Prop :=
  (∀ (d a k : BitVec 7) (m : BitVec 1) (x9 y9 : BitVec 9) (s : State), s.vectorHere → s.me.csr.blk = 0 →
     let c := s.me.csr
     let g := c.grp
     let w := Claims.codeBits k.toNat
     let gd := max 1 (g * w / c.sew)
     (∀ p ∈ Claims.conversions, p.2.1 k.toNat = true → (p.2.2.1 = true → Claims.formatted s) → (k = 14 → narrowLegal c.nfmt.toNat = true) →
       g * w ≤ 8 * c.sew → s.tileHere a.toNat g → (s.tileTaken a.toNat g).tileRoom d.toNat gd →
       (s.apart d.toNat gd a.toNat g ∨ (w = c.sew ∧ d = a)) →
       s.retiresTile (p.1 d a k m) (s.tileTaken a.toNat g) d.toNat gd w (s.each (m == 1) (fun j i =>
         let r := s.rounding (Claims.index s j i)
         p.2.2.2 c k.toNat r.1 r.2 (Claims.elem s a.toNat j i)))) ∧
     (s.tileRoom d.toNat g → s.retiresTile (.vindex d m x9 y9) s d.toNat g c.sew (s.each (m == 1) (fun j i =>
       ((BitVec.ofInt c.sew (x9.toInt + (Claims.index s j i : Int) * y9.toInt)).toNat, 0))))) ∧
  (∀ (d a k : BitVec 7) (kd : BitVec 3) (m : BitVec 1) (s : State), Claims.scaled s →
     let c := s.me.csr
     let g := c.grp
     let code := if c.fk = 1 then 12 else if c.fk = 2 then 13 else 14
     let wide (j i : Nat) := elemAt (s.tileValue a.toNat (4 * g)) (4 * g) 32 j i
     let r (j i : Nat) := s.rounding (Claims.index s j i)
     (k.toNat = code → s.tileHere a.toNat (4 * g) → (s.tileTaken a.toNat (4 * g)).tileRoom d.toNat g → s.apart d.toNat g a.toNat (4 * g) →
       s.retiresTile (.vqnt d a k m) (s.tileTaken a.toNat (4 * g)) d.toNat g 8 (s.each (m == 1) (fun j i =>
         finish c.fmt (r j i).1 (r j i).2 (mulVal (fp32.decode (wide j i)) (Claims.blockFactor s true (Claims.index s j i)))))) ∧
     (8 ≤ k.toNat → k.toNat ≤ 10 → s.tileHere a.toNat g →
       let w := Claims.codeBits k.toNat
       (s.tileTaken a.toNat g).tileRoom d.toNat (g * w / 8) → s.apart d.toNat (g * w / 8) a.toNat g →
       s.retiresTile (.vdqnt d a k m) (s.tileTaken a.toNat g) d.toNat (g * w / 8) w (s.each (m == 1) (fun j i =>
         finish (codeFmt k.toNat 0) (r j i).1 (r j i).2
           (mulVal (c.fmt.decode (Claims.elem s a.toNat j i)) (Claims.blockFactor s false (Claims.index s j i)))))) ∧
     (k.toNat = code → c.vstart = 0 → s.tileHere a.toNat (4 * g) → ∃ q : KReg,
       (∀ b < 256, q.toNat / 2 ^ (8 * b) % 256 =
         if b * 2 ^ c.blk < c.rows * c.len then
           blockScale (c.fmt.decode c.fmt.maxMag) (((range (b * 2 ^ c.blk) (2 ^ c.blk)).filter (fun e =>
             decide (e < c.rows * c.len) && (m == 0 || Claims.lane (s.me.readP 0) (e / c.len) (e % c.len)))).map
               (fun e => fp32.decode (wide (e / c.len) (e % c.len))))
         else (s.me.readK kd.toNat).toNat / 2 ^ (8 * b) % 256) ∧
       let t := s.tileTaken a.toNat (4 * g)
       let signals := (range 0 (c.rows * c.len)).any (fun e =>
         (m == 0 || Claims.lane (s.me.readP 0) (e / c.len) (e % c.len)) && (fp32.decode (wide (e / c.len) (e % c.len))).signals)
       s.retiresWith (.vbscale kd a k m) { t with me := t.me.writeK kd.toNat q } (if signals then flagNV else 0)))

/-! ## Vector memory (R202–R216) -/

/-- A kind of memory field can be used (R56, R185). -/
def Claims.kindLegal (s : State) (k : Nat) : Prop := (5 ≤ k → Claims.formatted s) ∧ (k = 7 → narrowLegal s.me.csr.nfmt.toNat = true)

/-- The nibbles of a memory field (R153, R203): kind 0 is as wide as the elements; kind 7 has the width of NFMT's storage unit. -/
def Claims.nibbles (c : Csr) (k : Nat) : Nat :=
  if k = 0 then c.sew / 4 else if k = 1 ∨ k = 3 then 2 else if k = 7 then (if (narrowFmt c.nfmt.toNat).width ≤ 4 then 1 else 2) else 4

/-- Where element e of an access lies (R204); `x` is its stride, its pitch or its index. Fields of one nibble pack two to a byte. -/
def Claims.place (s : State) (f : Form) (base : Word) (nib : Nat) (x : Int) (e : Nat) : Place1 :=
  let vl := s.me.csr.len
  let b : Int := base.toNat
  let z : Int := nib / 2
  let at' (v : Int) : Place1 := { addr := (BitVec.ofInt 64 v).toNat, len := nib / 2 }
  match f with
  | .unit => if nib = 1 then { addr := (base.toNat + e / 2) % 2 ^ 64, len := 1, nib := some (e % 2) } else at' (b + e * z)
  | .strided => at' (b + e * x)
  | .row => at' (b + (e / vl : Nat) * x + (e % vl : Nat) * z)
  | .indexed => at' (b + x * z)

/-- The bytes of a place can be read by a vector access: offsets of the shared space, or global addresses of cached device memory, none with an
uncorrectable error (R86, R303–R310, R360). -/
def Claims.readable (s : State) (shared : Bool) (p : Place1) (xs : List Xlat) : Prop :=
  if shared then p.addr + p.len ≤ 0x400000 ∧ s.soundShared p.addr p.len else s.opens .load true p.addr p.len xs ∧ s.sound xs

/-- The translations of accesses to either space: an access to the shared space has none. -/
def Claims.pages (shared : Bool) (xs : Nat → List Xlat) (n : Nat) : List Xlat := if shared then [] else xs n

/-- Element e is performed: it is at least VSTART and active (R186, R206). -/
def Claims.performed (s : State) (m : Bool) (e : Nat) : Bool :=
  decide (s.me.csr.start ≤ e) && (!m || Claims.lane (s.me.readP 0) (e / s.me.csr.len) (e % s.me.csr.len))

/-- The elements performed, ascending. -/
def Claims.performedBelow (s : State) (m : Bool) (n : Nat) : List Nat := (range 0 n).filter (Claims.performed s m)

/-- The fields of the records performed, ascending, `nf` to a record (R205). -/
def Claims.fieldsBelow (s : State) (m : Bool) (nf n : Nat) : List Nat :=
  (Claims.performedBelow s m n).flatMap (fun e => (range 0 nf).map (fun l => e * nf + l))

/-- The field at a place as the hart reads it from state `u`, converted to an element (R92, R203); each read of the shared space takes its own
unwritten values (R392), the `k`-th here. -/
def Claims.field (u : State) (shared : Bool) (kind : Nat) (p : Place1) (xs : List Xlat) (k : Nat) : Nat × Nat :=
  let c := u.me.csr
  let v := ofBytes (if shared then ({ u with free := u.free + k } : State).sharedBytes p.addr p.len else u.globalBytes p.addr p.len xs)
  loadConv kind c.sew c.nfmt.toNat c.fmt (match p.nib with
    | some h => v / 16 ^ h % 16
    | none => v)

/-- A load retires over the state `u` that its operands and the marks of its pages left, with its elements in D: registers element by element, so that
the others stay, or rows pushed; VSTART is 0. Beside them only the model's notes and its count of free values change. One that begins with VSTART at RC × VL
or beyond performs nothing (R206). -/
def Claims.retiresLoad (s : State) (i : Instr) (u : State) (d : Nat) (f : Nat → Nat → Elem) : Prop :=
  let c := s.me.csr
  let g := c.grp
  let w := c.sew
  let lanes := g * (1024 / w)
  ∃ (ns : List Note) (fr : Nat),
    if c.rows * c.len ≤ c.start then
      s.retiresWith i { u with notes := ns, free := fr, me := { u.me with csr := { u.me.csr with vstart := 0 } } } 0
    else if d < 112 then
      ∃ vs, s.retiresWith i { u with
          notes := ns, free := fr, me := { u.me with v := vs, csr := { u.me.csr with vstart := 0 } } } (s.flagsOf lanes f) ∧
        (∀ j < c.rows, ∀ k < lanes, Sys2Proof.Machine.field (sparseGet 0 vs (s.me.archV (d + j * g + k * w / 1024))) (k * w % 1024) w =
          s.elemAfter w f j k (Claims.elem s d j k)) ∧
        (∀ r, (∀ n < c.rows * g, r ≠ s.me.archV (d + n)) → sparseGet 0 vs r = sparseGet 0 s.me.v r)
    else
      ∃ xs : List VReg, xs.length = c.rows * g ∧ (∀ j < c.rows, ∀ k < lanes, elemAt xs g w j k = s.elemAfter w f j k 0) ∧
        s.retiresWith i (({ u with notes := ns, free := fr } : State).tilePut d g xs) (s.flagsOf lanes f)

/-- The vector loads of one tile by space and form; those with a kind of field take `k` (R202, R211). -/
noncomputable def Claims.loads (d a b : BitVec 7) (k : BitVec 3) (m : BitVec 1) : List (Bool × Form × Nat × Instr) :=
  [(false, .unit, k.toNat, .vld d a k m), (false, .strided, 0, .vlds d a b m), (false, .row, 0, .vldrow d a b m), (false, .indexed, 0, .vldx d a b m),
   (true, .unit, k.toNat, .vldsh d a k m), (true, .strided, 0, .vldshs d a b m), (true, .row, 0, .vldshrow d a b m), (true, .indexed, 0, .vldshx d a b m)]

/-- The vector stores of one tile. -/
noncomputable def Claims.stores (d a b : BitVec 7) (k : BitVec 3) (m : BitVec 1) : List (Bool × Form × Nat × Instr) :=
  [(false, .unit, k.toNat, .vst d a k m), (false, .strided, 0, .vsts d a b m), (false, .row, 0, .vstrow d a b m), (false, .indexed, 0, .vstx d a b m),
   (true, .unit, k.toNat, .vstsh d a k m), (true, .strided, 0, .vstshs d a b m), (true, .row, 0, .vstshrow d a b m), (true, .indexed, 0, .vstshx d a b m)]

/-- What B is beside a form: nothing, a scalar, or an index tile; that it can be read behind A (R202). -/
def Claims.secondHere (s : State) (f : Form) (a b : Nat) : Prop :=
  s.srcOk a ∧ s.srcHere a ∧
  match f with
  | .unit => True
  | .strided | .row => s.srcOk b ∧ (s.srcTaken a).srcHere b
  | .indexed => (s.srcTaken a).tileHere b s.me.csr.grp

/-- The state that A and B leave. -/
def Claims.secondTaken (s : State) (f : Form) (a b : Nat) : State :=
  match f with
  | .unit => s.srcTaken a
  | .strided | .row => (s.srcTaken a).srcTaken b
  | .indexed => (s.srcTaken a).tileTaken b s.me.csr.grp

/-- The stride, the pitch, or the index of element e (R204): strides and pitches are signed, indices unsigned. -/
def Claims.second (s : State) (f : Form) (a b e : Nat) : Int :=
  match f with
  | .unit => 0
  | .strided | .row => ((s.srcTaken a).srcValue b).toInt
  | .indexed => (Claims.elem (s.srcTaken a) b (e / s.me.csr.len) (e % s.me.csr.len) : Nat)

/-- A row's elements lie in its registers: VL is within the capacity of the group (R181). -/
def Claims.fitting (s : State) : Prop := s.me.csr.len * s.me.csr.sew ≤ 1024 * s.me.csr.grp ∧ s.me.csr.rows ≤ 16

/-- R204, R206, R208, R211: a vector load retires with every performed element converted from its memory field, in every form and space, where its elements can
be read.

R205, R208, R209: VLDFF without a fault loads as VLD does with RC = 1, and with an element above the first performed one that lies above the context's vector pages (R303)
sets VL to that element and retires; VLDBC puts row 0's elements in every row; VLDSEG takes F fields to a record and tile f holds field f. -/
def Obligations.VectorLoadsFillTheirTiles : Prop :=
  (∀ (d a b : BitVec 7) (k : BitVec 3) (m : BitVec 1) (s : State) (xs : Nat → List Xlat), s.Tidy → s.vectorHere → s.unwatched → Claims.fitting s →
     ∀ q ∈ Claims.loads d a b k m, Claims.kindLegal s q.2.2.1 → Claims.secondHere s q.2.1 a.toNat b.toNat →
       (q.2.1 = .indexed → s.apart d.toNat s.me.csr.grp b.toNat s.me.csr.grp) →
       let u := Claims.secondTaken s q.2.1 a.toNat b.toNat
       u.tileRoom d.toNat s.me.csr.grp →
       let at' (e : Nat) := Claims.place s q.2.1 (s.srcValue a.toNat) (Claims.nibbles s.me.csr q.2.2.1) (Claims.second s q.2.1 a.toNat b.toNat e) e
       let n := s.me.csr.rows * s.me.csr.len
       let after (e : Nat) := Claims.after .load (Claims.pages q.1 xs) (Claims.performedBelow s (m == 1) e) u
       (∀ e ∈ Claims.performedBelow s (m == 1) n, Claims.readable (after e) q.1 (at' e) (xs e)) →
       Claims.retiresLoad s q.2.2.2 (after n) d.toNat (s.each (m == 1) (fun j i =>
         let e := Claims.index s j i
         Claims.field (after (e + 1)) q.1 q.2.2.1 (at' e) (xs e) (Claims.performedBelow s (m == 1) e).length))) ∧
  (∀ (d a : BitVec 7) (f k : BitVec 3) (m : BitVec 1) (s : State) (xs : Nat → List Xlat), s.Tidy → s.vectorHere → s.unwatched → Claims.fitting s →
     Claims.kindLegal s k.toNat → s.srcOk a.toNat → s.srcHere a.toNat →
     let c := s.me.csr
     let u := s.srcTaken a.toNat
     let at' (q : Nat) := Claims.place s .unit (s.srcValue a.toNat) (Claims.nibbles c k.toNat) 0 q
     let after (n : Nat) := Claims.after .load xs (Claims.performedBelow s (m == 1) n) u
     let value (q : Nat) := Claims.field (after (q + 1)) false k.toNat (at' q) (xs q) 0
     let row (n : Nat) : Prop := ∀ e ∈ Claims.performedBelow s (m == 1) n, Claims.readable (after e) false (at' e) (xs e)
     (u.tileRoom d.toNat c.grp → c.rows = 1 → row c.len →
       Claims.retiresLoad s (.vldff d a k m) (after c.len) d.toNat (s.each (m == 1) (fun _ i => value i))) ∧
     (∀ n, s.Quiet → d.toNat < 112 → u.tileRoom d.toNat c.grp → c.rows = 1 → n < c.len → row n → Claims.performed s (m == 1) n = true →
       Claims.performedBelow s (m == 1) n ≠ [] → s.myCtx.vcount * 2 ^ 25 ≤ (at' n).addr →
       ∃ t, exec (.vldff d a k m) s = .next t ∧ t.me.pc = s.me.pc + 4 ∧ t.me.csr.vl.toNat = n % 2 ^ 64 ∧ t.me.csr.vstart = 0 ∧
         ∀ i ∈ Claims.performedBelow s (m == 1) n, Claims.elem { s with me := { s.me with v := t.me.v } } d.toNat 0 i = (value i).1 % 2 ^ c.sew) ∧
     (u.tileRoom d.toNat c.grp → 1 ≤ c.rows → row c.len →
       Claims.retiresLoad s (.vldbc d a k m) (after c.len) d.toNat (fun j i =>
         if j = 0 then s.each (m == 1) (fun _ i => value i) 0 i
         else if c.len ≤ i then .inactive
         else if Claims.index s j i < c.start then .kept
         else if Claims.performed s (m == 1) i = true ∧ (m = 1 → Claims.lane (s.me.readP 0) j i = true) then .value (value i).1 0
         else .inactive)) ∧
     (let nf := f.toNat + 1
      d.toNat < 112 → d.toNat % c.grp = 0 → d.toNat + nf * c.rows * c.grp ≤ 112 →
       let fields := Claims.fieldsBelow s (m == 1) nf (c.rows * c.len)
       let after (q : Nat) := Claims.after .load xs (fields.filter (fun x => decide (x < q))) u
       (∀ q ∈ fields, Claims.readable (after q) false (at' q) (xs q)) →
       let value (q : Nat) := Claims.field (after (q + 1)) false k.toNat (at' q) (xs q) 0
       let u := Claims.after .load xs fields u
       let el (l : Nat) := s.each (m == 1) (fun j i => value (Claims.index s j i * nf + l))
       let n (l : Nat) := d.toNat + l * (c.rows * c.grp)
       ∃ ns vs fl, s.retiresWith (.vldseg d a f k m) { u with
           notes := ns, me := { u.me with v := vs, csr := { u.me.csr with vstart := 0 } } } fl ∧
         (∀ l < nf, ∀ j < c.rows, ∀ i < c.grp * (1024 / c.sew),
           Claims.elem { s with me := { s.me with v := vs } } (n l) j i =
             if c.rows * c.len ≤ c.start then Claims.elem s (n l) j i else s.elemAfter c.sew (el l) j i (Claims.elem s (n l) j i)) ∧
         (∀ r, (∀ x < nf * c.rows * c.grp, r ≠ s.me.archV (d.toNat + x)) → sparseGet 0 vs r = sparseGet 0 s.me.v r)))

/-- The held stores of one field: its converted element in one piece where aligned, byte by byte otherwise; a nibble changes its half of a byte (R58, R87,
R108). -/
def Claims.heldField (s : State) (shared : Bool) (kind : Nat) (p : Place1) (xs : List Xlat) (x : Nat) : List HeldStore :=
  let c := s.me.csr
  let v := (storeConv kind c.sew c.nfmt.toNat c.fmt x).1
  let bs : List HeldByte := match p.nib with
    | some h => [{ va := p.addr, pa := if shared then 0 else (xs.head?.map (·.pa)).getD 0, val := BitVec.ofNat 8 (v % 16 * 16 ^ h), mask := BitVec.ofNat 8 (15 * 16 ^ h) }]
    | none => Claims.heldBytes (if shared then range p.addr p.len else (range p.addr p.len).map (fun b => b % 2 ^ 64))
        (if shared then List.replicate p.len 0 else xs.map (·.pa)) (toBytes p.len v)
  if p.addr % p.len = 0 then [{ shared := shared, eligible := false, bytes := bs, strip := s.me.strip.serial }]
  else bs.map (fun b => { shared := shared, eligible := false, bytes := [b], strip := s.me.strip.serial })

/-- The bytes of a place can be stored to. -/
def Claims.writable (s : State) (shared : Bool) (p : Place1) (xs : List Xlat) : Prop :=
  if shared then p.addr + p.len ≤ 0x400000 else s.opens .store true p.addr p.len xs

/-- A store retires with `new` behind the stores it held before, VSTART 0, and nothing else changed. -/
def Claims.retiresStore (s : State) (i : Instr) (u : State) (new : List HeldStore) (fl : Nat) : Prop :=
  ∃ ns, s.retiresWith i { u with
    notes := ns, me := { u.me with held := u.me.held ++ new, csr := { u.me.csr with vstart := 0 } } } fl

/-- A location after element e has been added into it: `n` bytes from `p` hold the sum, rounded in the element format by the draw of e (R212). -/
def Claims.addInto (s : State) (n p x e : Nat) (v : Nat → Byte) (q : Nat) : Byte :=
  if p ≤ q ∧ q < p + n then
    let r := s.rounding e
    Claims.byteOf (fAdd s.me.csr.fmt r.1 r.2 (ofBytes ((range p n).map v)) x).1 (q - p)
  else v q

/-- Two lists hold the same elements as often. -/
def Claims.arranged (x y : List Nat) : Prop := ∀ e, x.count e = y.count e

/-- R87, R108, R204, R206, R210, R211: a vector store holds the converted field of every performed element, ascending, in every form and space; VSTSEG the F fields
of every record, where its elements can be stored to and the strip buffer has room for them all.

R212, R213: a scatter-add adds every performed element into its location, each addition whole and rounded: the ordered forms ascending, the others in some order
(HCTL.DET is 0); no register changes. Global locations are mapped by cached translations to device memory; of scratch, written locations. -/
def Obligations.VectorStoresReachMemory : Prop :=
  (∀ (d a b : BitVec 7) (f k : BitVec 3) (m : BitVec 1) (s : State) (xs : Nat → List Xlat), s.vectorHere → s.unwatched → s.me.csr.rows ≤ 16 →
     let c := s.me.csr
     let act := Claims.performedBelow s (m == 1) (c.rows * c.len)
     let room (new : List HeldStore) : Prop := (s.me.held ++ new).foldl (fun n x => n + x.bytes.length) 0 ≤ s.stripShare
     (∀ q ∈ Claims.stores d a b k m, Claims.kindLegal s q.2.2.1 → Claims.secondHere s q.2.1 a.toNat b.toNat →
       let u := Claims.secondTaken s q.2.1 a.toNat b.toNat
       u.tileHere d.toNat c.grp →
       let at' (e : Nat) := Claims.place s q.2.1 (s.srcValue a.toNat) (Claims.nibbles c q.2.2.1) (Claims.second s q.2.1 a.toNat b.toNat e) e
       let x (e : Nat) := Claims.elem u d.toNat (e / c.len) (e % c.len)
       let new := act.flatMap (fun e => Claims.heldField s q.1 q.2.2.1 (at' e) (xs e) (x e))
       let after (e : Nat) := Claims.after .store (Claims.pages q.1 xs) (Claims.performedBelow s (m == 1) e) (u.tileTaken d.toNat c.grp)
       (∀ e ∈ act, Claims.writable (after e) q.1 (at' e) (xs e)) → room new →
       Claims.retiresStore s q.2.2.2 (after (c.rows * c.len)) new
         (act.foldl (fun fl e => fl ||| (storeConv q.2.2.1 c.sew c.nfmt.toNat c.fmt (x e)).2) 0)) ∧
     (let nf := f.toNat + 1
      let at' (q : Nat) := Claims.place s .unit (s.srcValue a.toNat) (Claims.nibbles c k.toNat) 0 q
      let x (l e : Nat) := Claims.elem s (d.toNat + l * (c.rows * c.grp)) (e / c.len) (e % c.len)
      let new := act.flatMap (fun e => (range 0 nf).flatMap (fun l => Claims.heldField s false k.toNat (at' (e * nf + l)) (xs (e * nf + l)) (x l e)))
      Claims.kindLegal s k.toNat → s.srcOk a.toNat → s.srcHere a.toNat → d.toNat < 112 → d.toNat % c.grp = 0 → d.toNat + nf * c.rows * c.grp ≤ 112 →
      let fields := Claims.fieldsBelow s (m == 1) nf (c.rows * c.len)
      let after (q : Nat) := Claims.after .store xs (fields.filter (fun x => decide (x < q))) (s.srcTaken a.toNat)
      (∀ q ∈ fields, Claims.writable (after q) false (at' q) (xs q)) → room new →
       ∃ fl, Claims.retiresStore s (.vstseg d a f k m) (Claims.after .store xs fields (s.srcTaken a.toNat)) new fl)) ∧
  (∀ (d a b : BitVec 7) (m : BitVec 1) (s : State) (xs : Nat → List Xlat) (pa : Nat → Nat), s.Tidy → s.vectorHere → s.unwatched → s.Quiet → s.me.csr.rows ≤ 16 →
     s.tan.core < 256 → Claims.formatted s → s.me.csr.frm.toNat ≤ 5 → s.me.csr.nfmt.toNat < 2 ^ 18 →
     let c := s.me.csr
     let sz := c.sew / 8
     let act := Claims.performedBelow s (m == 1) (c.rows * c.len)
     Claims.secondHere s .indexed a.toNat b.toNat →
     let u := Claims.secondTaken s .indexed a.toNat b.toNat
     let w := (u.tileTaken d.toNat c.grp).endStrip
     u.tileHere d.toNat c.grp → w.Quiet →
     let at' (e : Nat) := (Claims.place s .indexed (s.srcValue a.toNat) (2 * sz) (Claims.second s .indexed a.toNat b.toNat e) e).addr
     let x (e : Nat) := Claims.elem u d.toNat (e / c.len) (e % c.len)
     let ends (i : Instr) (ordered : Bool) (p : Nat → Nat) (before : Nat → Byte) (after : State → Nat → Byte) : Prop :=
       ∃ t order, exec i s = .next t ∧ t.me.pc = s.me.pc + 4 ∧ t.me.csr.vstart = 0 ∧ t.me.held = [] ∧
         t.me.s = s.me.s ∧ t.me.v = s.me.v ∧ t.me.p = s.me.p ∧ Claims.arranged order act ∧ (ordered = true → order = act) ∧
         after t = order.foldl (fun v e => Claims.addInto s sz (p e) (x e) e v) before
     let latest (t : State) (q : Nat) := t.mem.latestByte q
     let scratch (t : State) (q : Nat) := (lookup t.mem.scratch (s.tan.unit * 0x400000 + q)).getD 0
     ((∀ e ∈ act, at' e % sz = 0 ∧ pa e % sz = 0 ∧ s.sound (xs e) ∧ (xs e).map (·.pa) = range (pa e) sz ∧
         ∀ mem, ({ s with mem := mem } : State).opens .atomic true (at' e) sz (xs e) ∧
           ({ s with mem := mem } : State).marked .atomic (xs e) = { s with mem := mem }) →
       ends (.vstxaddo d a b m) true pa (latest w) latest ∧
       (c.hctl.getLsbD 0 = false → ends (.vstxadd d a b m) false pa (latest w) latest)) ∧
     ((∀ e ∈ act, at' e % sz = 0 ∧ at' e + sz ≤ 0x400000 ∧ s.soundShared (at' e) sz ∧ ∀ i < sz, lookup w.mem.scratch (s.tan.unit * 0x400000 + at' e + i) ≠ none) →
       ends (.vstshxaddo d a b m) true at' (scratch w) scratch ∧
       (c.hctl.getLsbD 0 = false → ends (.vstshxadd d a b m) false at' (scratch w) scratch)))

/-- R214–R216: VGWIN marks the active indices in the window that GWBASE opens; VGWSET sets GWBASE to the least active index and gives their number; VCONF marks each
active element that is the first of its index, VCONFM counts the active earlier ones, VCOMB adds duplicates into the first; VPACKNZ packs the
non-zero active elements and their positions, which stops at one whose position does not fit, with VSTART naming it and OF raised. -/
def Obligations.GatherHelpersFindWindowsAndConflicts : Prop :=
  ∀ (d a b : BitVec 7) (p : BitVec 4) (m : BitVec 1) (s : State), s.Tidy → s.vectorHere → s.me.csr.blk = 0 → s.me.csr.rows ≤ 16 → s.me.csr.len ≤ 1024 →
    s.tileHere a.toNat s.me.csr.grp →
    let c := s.me.csr
    let g := c.grp
    let n := c.rows * c.len
    let t := s.tileTaken a.toNat g
    let at' (j i : Nat) : Bool := m == 0 || Claims.lane (s.me.readP 0) j i
    let act := (range 0 n).filter (fun e => at' (e / c.len) (e % c.len))
    let x (e : Nat) := Claims.elem s a.toNat (e / c.len) (e % c.len)
    let y (e : Nat) := Claims.elem2 s a.toNat b.toNat (e / c.len) (e % c.len)
    (∃ q, Claims.predWritten s p.toNat c.start (fun j i =>
        let v := Claims.elem s a.toNat j i
        at' j i && decide (c.gwbase.toNat ≤ v ∧ v < c.gwbase.toNat + 2 ^ 25 / (c.sew / 8))) q ∧
      s.retiresWith (.vgwin p a m) (Claims.predPut t p.toNat q) 0) ∧
    (c.vstart = 0 →
      (s.dstOk d.toNat → t.dstRoom d.toNat →
        let low := (act.map x).foldl min (x (act.headD 0))
        s.retiresWith (.vgwset d a m) (({ t with me := if act = [] then t.me
            else { t.me with csr := { t.me.csr with gwbase := BitVec.ofNat 64 low } } } : State).dstPut d.toNat (BitVec.ofNat 64 act.length)) 0) ∧
      (∃ q, Claims.predWritten s p.toNat 0 (fun j i =>
          let e := Claims.index s j i
          at' j i && (act.filter (fun l => decide (l < e) && x l == x e)).isEmpty) q ∧
        s.retiresWith (.vconf p a m) (Claims.predPut t p.toNat q) 0) ∧
      (t.tileRoom d.toNat g → s.retiresTile (.vconfm d a m) t d.toNat g c.sew (s.each (m == 1) (fun j i =>
        let e := Claims.index s j i
        (min (act.filter (fun l => decide (l < e) && x l == x e)).length (2 ^ c.sew - 1), 0)))) ∧
      (Claims.formatted s → t.tileHere b.toNat g → (t.tileTaken b.toNat g).tileRoom d.toNat g →
        s.retiresTile (.vcomb d a b m) (t.tileTaken b.toNat g) d.toNat g c.sew (s.each (m == 1) (fun j i =>
          let e := Claims.index s j i
          let same := act.filter (fun l => y l == y e)
          if same.head? = some e then
            same.tail.foldl (fun u l => let r := s.rounding e
                                        let q := fAdd c.fmt r.1 r.2 u.1 (x l)
                                        (q.1, u.2 ||| q.2)) (x e, 0)
          else (x e, 0)))) ∧
      (s.Quiet → d.toNat < 112 → b.toNat < 112 → s.tileRoom d.toNat g → s.tileRoom b.toNat g → s.apart d.toNat g a.toNat g → s.apart b.toNat g a.toNat g →
        s.apart d.toNat g b.toNat g → c.hctl.getLsbD 4 = false → c.len * c.sew ≤ 1024 * g →
        let found := act.filter (fun e => x e != 0)
        let last := found.find? (fun e => decide (2 ^ c.sew ≤ e))
        let pairs := (found.filter (fun e => decide (e < 2 ^ c.sew))).map (fun e => (x e, e)) ++ (last.map (fun e => (x e, 2 ^ c.sew - 1))).toList
        ∃ u, exec (.vpacknz d a b m) s = .next u ∧ u.me.pc = s.me.pc + 4 ∧ u.me.csr.vstart = BitVec.ofNat 64 (last.getD 0) ∧
          (last.isSome = true → u.me.csr.fflags &&& BitVec.ofNat 64 flagOF ≠ 0) ∧
          ∀ e < n, ∀ v, pairs[e]? = some v →
            Claims.elem { s with me := { s.me with v := u.me.v } } d.toNat (e / c.len) (e % c.len) = v.1 ∧
            Claims.elem { s with me := { s.me with v := u.me.v } } b.toNat (e / c.len) (e % c.len) = v.2))

/-! ## The matrix engine's tiles (R66–R73, R79–R83, R220–R237) -/

/-- The side in focus may run the members of MZ (R13, R151). -/
def Claims.engineSide (s : State) : Prop := s.tan.firmware = none ∧ s.onA = false

/-- A member of MZ can act on tile j now: the side may run it, no posted instruction targets the tile, no overflow of it waits to be reported, and its
configuration is legal (R13, R40, R72, R221). -/
def Claims.tileFree (s : State) (j : Nat) : Prop :=
  Claims.engineSide s ∧ j < s.tan.z ∧ cfgLegal (s.tan.cfg j) = true ∧ (∀ p ∈ s.tan.matrix, p.tile ≠ j) ∧
  ∀ o ∈ s.tan.overflows, o.tile = j → o.done = true

/-- The same of a member that is not resumed. -/
def Claims.tileReady (s : State) (j : Nat) : Prop := Claims.tileFree s j ∧ s.me.savedNow = none

/-- Only the words of tile j that `own` selects may differ between two lists of tile words. -/
def Claims.onlyWords (zt zt' : List (Nat × BitVec 32)) (j : Nat) (own : Nat → Prop) : Prop :=
  ∀ k, (∀ w < 16384, own w → k ≠ 16384 * j + w) → sparseGet 0 zt' k = sparseGet 0 zt k

/-- The state with the words of the tiles replaced, the strip no longer to be run again (R221). -/
def Claims.withTiles (t : State) (zt : List (Nat × BitVec 32)) : State :=
  { t.spoilStrip with tan := { t.spoilStrip.tan with zt := zt } }

/-- A tile as MZERO leaves it in a mode: gains of 1 in mode 2, every other word 0 (R222). -/
def Claims.zeroed (zt zt' : List (Nat × BitVec 32)) (j mode : Nat) : Prop :=
  Claims.onlyWords zt zt' j (fun _ => True) ∧
  ∀ w < 16384, sparseGet 0 zt' (16384 * j + w) = if mode = 2 ∧ w < 8192 then 0x3F800000 else 0

/-- The anchor that MZCFG gives an exact tile: the sum of the operands' smallest units' exponents, 0 unless both descriptors are legal and
neither is FP32 (R69, R222). -/
def Claims.anchorOf (t : Tandem) (c : BitVec 64) : Int :=
  let a := t.readTd false (cfgTda c)
  let b := t.readTd false (cfgTdb c)
  if tdLegal a = true ∧ tdLegal b = true ∧ tdKind a ≠ 0 ∧ tdKind b ≠ 0 then tdUnitExp a + tdUnitExp b else 0

/-- The tile has an element in its configured rows and columns that `f` selects by its index 64i + j. -/
def Claims.someElem (c : BitVec 64) (f : Nat → Bool) : Bool :=
  (range 0 (cfgM c)).any (fun i => (range 0 (cfgN c)).any (fun j => f (64 * i + j)))

/-- R69, R129, R222–R224, R232, R236: MZCFG takes a legal configuration and clears a tile whose shape or mode it changes; MZERO clears; MANCH rescales an exact tile to its
anchor; MGAIN sets every gain; MSTAT reports; MCOMMIT closes the batch; MWAIT retires with few enough batches outstanding and otherwise waits with
WAITRSN 6. -/
def Obligations.TileInstructionsSetTheirTile : Prop :=
  ∀ (z : BitVec 4) (d a n : BitVec 7) (s : State), s.Tidy → s.me.csr.vstart = 0 →
    (Claims.tileReady s z.toNat →
    let j := z.toNat
    let cfg := s.tan.cfg j
    let t := s.srcTaken a.toNat
    let x := s.srcValue a.toNat
    (s.srcOk a.toNat → s.srcHere a.toNat → cfgLegal x = true →
      let v := t.seeTds
      ∃ zt an, s.retiresWith (.mzcfg z a) { Claims.withTiles v zt with tan := { (Claims.withTiles v zt).tan with
          zcfg := sparseSet 0 s.tan.zcfg j x, zanchor := an } } 0 ∧
        if cfgMode cfg = cfgMode x ∧ cfgM cfg = cfgM x ∧ cfgN cfg = cfgN x then zt = s.tan.zt ∧ an = s.tan.zanchor
        else Claims.zeroed s.tan.zt zt j (cfgMode x) ∧
          an = if cfgMode x = 1 then sparseSet 0 s.tan.zanchor j (Claims.anchorOf v.tan x) else s.tan.zanchor) ∧
    (∃ zt, s.retiresWith (.mzero z) (Claims.withTiles s zt) 0 ∧ Claims.zeroed s.tan.zt zt j (cfgMode cfg)) ∧
    (s.srcOk a.toNat → s.srcHere a.toNat → cfgMode cfg = 1 → -512 ≤ x.toInt → x.toInt ≤ 511 →
      ∃ zt fl, s.retiresWith (.manch z a) { Claims.withTiles t zt with tan := { (Claims.withTiles t zt).tan with
          zanchor := sparseSet 0 s.tan.zanchor j x.toInt } } fl ∧
        (∀ i < cfgM cfg, ∀ k < cfgN cfg,
          ({ s.tan with zt := zt } : Tandem).exact j (64 * i + k) = (rescale (s.tan.anchor j) x.toInt (s.tan.exact j (64 * i + k))).1) ∧
        Claims.onlyWords s.tan.zt zt j (fun w => w / 4 % 64 < cfgN cfg ∧ w / 256 < cfgM cfg)) ∧
    (s.srcOk a.toNat → s.srcHere a.toNat → cfgMode cfg = 2 →
      ∃ zt, s.retiresWith (.mgain z a) (Claims.withTiles t zt) (gainIn (x.toNat % 2 ^ 32)).2 ∧
        (∀ i < cfgM cfg, ∀ k < cfgN cfg, ({ s.tan with zt := zt } : Tandem).word j (64 * i + k) = BitVec.ofNat 32 (gainIn (x.toNat % 2 ^ 32)).1) ∧
        Claims.onlyWords s.tan.zt zt j (fun w => w % 64 < cfgN cfg ∧ w / 64 < cfgM cfg)) ∧
    (s.dstOk d.toNat → s.dstRoom d.toNat →
      let bits := field cfg 0 28 +
        (if cfgMode cfg = 2 ∧ Claims.someElem cfg (fun k => s.tan.word j k == 1) = true then 2 ^ 28 else 0) +
        (if cfgMode cfg = 1 ∧ Claims.someElem cfg (fun k => s.tan.exact j k == exactBound || s.tan.exact j k == -exactBound) = true then 2 ^ 29 else 0) +
        (if cfgMode cfg = 1 ∧ Claims.someElem cfg (fun k => s.tan.exact j k == exactNaN) = true then 2 ^ 30 else 0) +
        (if cfgMode cfg = 1 then (BitVec.ofInt 10 (s.tan.anchor j)).toNat * 2 ^ 32 else 0)
      s.retiresWith (.mstat d z) (s.dstPut d.toNat (BitVec.ofNat 64 bits)) 0)) ∧
    (Claims.engineSide s → s.me.savedNow = none →
      s.retiresWith .mcommit { s with tan := { s.tan with openBatch := s.tan.openBatch + 1 } } 0 ∧
      (s.tan.outstandingBatches ≤ n.toNat →
        (∀ o ∈ s.tan.overflows, o.done = true ∨ s.tan.openBatch ≤ o.batch ∨ ∃ p ∈ s.tan.matrix, p.batch = o.batch) →
        s.retiresWith (.mwait n) s 0) ∧
      (n.toNat < s.tan.outstandingBatches →
        ∃ t, exec (.mwait n) s = .next t ∧ t.me.pc = s.me.pc ∧ t.me.csr.waitrsn = 6 ∧ t.tan.matrix = s.tan.matrix ∧ t.me.s = s.me.s ∧
          t.me.v = s.me.v))

/-- The tile element (plane, i, j) holds the code `x` of a format, converted as R234 says, or copied where it is FP32 and the member `copies` it
(R235); no format is the raw form of an exact element. -/
def Claims.tileHolds (copies : Bool) (s : State) (t : Tandem) (z : Nat) (f : Option Fmt) (plane i j x : Nat) : Prop :=
  let mode := cfgMode (s.tan.cfg z)
  let r := s.rounding (if mode = 0 then 128 * i + j else 64 * i + j)
  if mode = 1 then
    t.exact z (64 * i + j) = match f with
      | none => (BitVec.ofNat 128 x).toInt
      | some f => (toExact (s.tan.anchor z) (f.decode x)).1
  else if mode = 2 then
    if plane = 1 then t.word z (64 * i + j) = BitVec.ofNat 32 (gainIn x).1 else t.word z (8192 + 64 * i + j) = BitVec.ofNat 32 x
  else t.word z (128 * i + j) = BitVec.ofNat 32 (match f with
    | none => x
    | some f => if copies = true then x else (convert f fp32 r.1 r.2 x).1)

/-- Setting an element of tile z from the code `x` of a format raises XOF (R234). -/
def Claims.spills (s : State) (z : Nat) (f : Option Fmt) (x : Nat) : Prop :=
  cfgMode (s.tan.cfg z) = 1 ∧ ∃ g, f = some g ∧ (toExact (s.tan.anchor z) (g.decode x)).2 &&& flagXOF ≠ 0

/-- Element e of a tile in the order of a transfer: its plane, row and column (R233): row by row, and in mode 2 the gains of a row before its offsets. -/
def Claims.tileElem (cfg : BitVec 64) (e : Nat) : Nat × Nat × Nat :=
  let n := cfgN cfg
  if cfgMode cfg = 2 then (if e % (2 * n) < n then 1 else 0, e / (2 * n), e % n) else (0, e / n, e % n)

/-- Where element e of a tile lies in memory (R233). -/
def Claims.tilePlace (s : State) (cfg : BitVec 64) (base pitch : Word) (e : Nat) : Place1 :=
  let n := cfgN cfg * (if cfgMode cfg = 2 then 2 else 1)
  let nib := match ofFmt s.me.csr (cfgOf cfg) with
    | none => 32
    | some f => if f.width ≤ 4 then 1 else 2 * ((f.width + 7) / 8)
  Claims.place s .unit (BitVec.ofInt 64 (base.toNat + (e / n : Nat) * pitch.toInt)) nib 0 (e % n)

/-- The elements of a tile's transfer. -/
def Claims.tileCount (cfg : BitVec 64) : Nat := cfgM cfg * cfgN cfg * (if cfgMode cfg = 2 then 2 else 1)

/-- R73, R233–R235: MZLD and MZWV set tile elements from memory and from a vector tile, MZST holds them as stores, and MZRV puts a block of rows in a vector tile, each
converted as R234 and R73 say. MZLD and MZWV retire with no more than this where HCTL.XOVT is clear or no element raises XOF. -/
def Obligations.TilesMoveTheirElements : Prop :=
  ∀ (z : BitVec 4) (d a b : BitVec 7) (s : State) (xs : Nat → List Xlat), s.Tidy → Claims.tileReady s z.toNat → s.unwatched →
    let j := z.toNat
    let cfg := s.tan.cfg j
    let c := s.me.csr
    let g := c.grp
    let f := ofFmt c (cfgOf cfg)
    let t := (s.srcTaken a.toNat).srcTaken b.toNat
    let at' := Claims.tilePlace s cfg (s.srcValue a.toNat) ((s.srcTaken a.toNat).srcValue b.toNat)
    let legal : Prop := cfgOf cfg = 6 → narrowLegal c.nfmt.toNat = true
    let el := Claims.tileElem cfg
    (s.can2 0 a.toNat b.toNat → legal → c.vstart = 0 →
      let after (e : Nat) := Claims.after .load xs (range 0 e) t
      (∀ e < Claims.tileCount cfg, Claims.readable (after e) false (at' e) (xs e)) →
      let code (e : Nat) : Nat :=
        let v := ofBytes ((after (e + 1)).globalBytes (at' e).addr (at' e).len (xs e))
        match (at' e).nib with
        | some h => v / 16 ^ h % 16
        | none => v
      (c.hctl.getLsbD 4 = true → ∀ e < Claims.tileCount cfg, ¬Claims.spills s j f (code e)) →
      ∃ ns zt fl, s.retiresWith (.mzld z a b) { Claims.withTiles (after (Claims.tileCount cfg)) zt with notes := ns } fl ∧
        ∀ e < Claims.tileCount cfg, Claims.tileHolds false s { s.tan with zt := zt } j f (el e).1 (el e).2.1 (el e).2.2 (code e)) ∧
    (s.can2 0 a.toNat b.toNat → legal → c.vstart = 0 →
      let after (e : Nat) := Claims.after .store xs (range 0 e) t
      (∀ e < Claims.tileCount cfg, Claims.writable (after e) false (at' e) (xs e)) →
      let code (e : Nat) := (tileOut s j f (el e).1 (el e).2.1 (el e).2.2).1
      let new := (range 0 (Claims.tileCount cfg)).flatMap (fun e => Claims.heldField s false 0 (at' e) (xs e) (code e))
      (s.me.held ++ new).foldl (fun n x => n + x.bytes.length) 0 ≤ s.stripShare →
      ∃ fl, Claims.retiresStore s (.mzst z a b) (after (Claims.tileCount cfg)) new fl) ∧
    (c.vstart = 0 → (c.sew = 32 ∨ (c.sew = 64 ∧ cfgMode cfg = 1)) → c.len ≤ cfgN cfg →
      let v := if c.sew = 64 then fp64 else fp32
      let row (x : Word) := x.toNat % 128
      let plane (x : Word) := x.toNat / 128
      let fits (x : Word) : Prop := plane x ≤ 1 ∧ (plane x = 1 → cfgMode cfg = 2) ∧ row x + c.rows ≤ cfgM cfg
      (s.srcOk b.toNat → s.srcHere b.toNat → (s.srcTaken b.toNat).tileRoom d.toNat g → fits (s.srcValue b.toNat) →
        let x := s.srcValue b.toNat
        s.retiresTile (.mzrv d z b) (s.srcTaken b.toNat) d.toNat g c.sew (fun k i =>
          if i < c.len then (let r := tileOut s j (some v) (plane x) (row x + k) i; .value r.1 r.2) else .inactive)) ∧
      (s.tileHere a.toNat g → s.srcOk b.toNat → (s.tileTaken a.toNat g).srcHere b.toNat → fits ((s.tileTaken a.toNat g).srcValue b.toNat) →
        let x := (s.tileTaken a.toNat g).srcValue b.toNat
        (c.hctl.getLsbD 4 = true → ∀ k < c.rows, ∀ i < c.len, ¬Claims.spills s j (some v) (Claims.elem s a.toNat k i)) →
        ∃ zt fl, s.retiresWith (.mzwv z a b) (Claims.withTiles ((s.tileTaken a.toNat g).srcTaken b.toNat) zt) fl ∧
          ∀ k < c.rows, ∀ i < c.len, Claims.tileHolds true s { s.tan with zt := zt } j (some v) (plane x) (row x + k) i (Claims.elem s a.toNat k i)))

/-- R79–R82, R236, R237: MSCAN runs R81's seven steps, one from each value of VSTART, on every column of an affine tile; between two of them it stays
where it is, and after the last it has left the column's last pair in its carry register and retires; MCARRY resets or loads the
128 pairs of a carry register, its gains below the horizon as marks; MCARRYST stores them, a mark as +0. One execution for each of the seven steps is the
model's choice (log 5). -/
def Obligations.AffineScansCarryTheirColumns : Prop :=
  (∀ (z : BitVec 4) (k : BitVec 3) (n : Nat) (s : State), s.Tidy → Claims.tileFree s z.toNat → (∀ x, s.me.savedNow = some x → x.pc = s.me.pc) →
    cfgMode (s.tan.cfg z.toNat) = 2 → n ≤ 7 → s.me.csr.vstart = BitVec.ofNat 64 n →
    let j := z.toNat
    let cfg := s.tan.cfg j
    let rows (t : Tandem) (col : Nat) := (range 0 (cfgM cfg)).map (fun i => ((t.word j (64 * i + col)).toNat, (t.word j (8192 + 64 * i + col)).toNat))
    let step (col : Nat) := scanColumn n (rows s.tan col) (carryPair (s.me.readH k.toNat) col)
    let flags := (range 0 (cfgN cfg)).foldl (fun fl col => fl ||| (step col).2.2) 0
    ∃ zt h sv,
      (sv.map (·.flags)).getD 0 = (s.me.savedNow.map (·.flags)).getD 0 ||| BitVec.ofNat 64 (if n = 7 then 0 else flags) ∧
      (let u : State := { Claims.withTiles s zt with me := { (s.spoilStrip.me.writeH k.toNat h).withSaved sv with
         csr := { s.me.csr with vstart := if n < 6 then BitVec.ofNat 64 (n + 1) else 0 } } }
       exec (.mscan z k) s = .next (if n < 6 then { u with me := { u.me with stalled := none } } else retire s (s.me.pc + 4) u)) ∧
      (n < 7 → ∀ col < cfgN cfg, rows { s.tan with zt := zt } col = (step col).1 ∧ carryPair h col = (step col).2.1) ∧
      (n = 7 → zt = s.tan.zt ∧ h = s.me.readH k.toNat) ∧
      (∀ m < 128, cfgN cfg ≤ m → carryPair h m = carryPair (s.me.readH k.toNat) m) ∧
      Claims.onlyWords s.tan.zt zt j (fun w => w % 64 < cfgN cfg ∧ w / 64 % 128 < cfgM cfg)) ∧
  (∀ (k : BitVec 3) (a : BitVec 7) (s : State), s.Tidy → Claims.engineSide s → s.me.savedNow = none → s.me.csr.vstart = 0 →
    (∃ h, (∀ m < 128, carryPair h m = (0x3F800000, 0)) ∧ s.retiresWith (.mcarry k 0) { s with me := s.me.writeH k.toNat h } 0) ∧
    (∀ xs, a ≠ 0 → s.srcOk a.toNat → s.srcHere a.toNat → s.unwatched → s.opens .load false (s.srcValue a.toNat).toNat 1024 xs → s.sound xs →
      let t := (s.srcTaken a.toNat).marked .load xs
      let v := ofBytes (t.globalBytes (s.srcValue a.toNat).toNat 1024 xs)
      ∃ ns h fl, (∀ m < 128, carryPair h m = ((gainIn (v / 2 ^ (64 * m) % 2 ^ 32)).1, v / 2 ^ (64 * m + 32) % 2 ^ 32)) ∧
        s.retiresWith (.mcarry k a) { t.noted ns with me := t.me.writeH k.toNat h } fl) ∧
    (∀ xs : Nat → List Xlat, s.srcOk a.toNat → s.srcHere a.toNat → s.unwatched →
      let at' (e : Nat) : Place1 := { addr := ((s.srcValue a.toNat).toNat + e) % 2 ^ 64, len := 1 }
      let after (e : Nat) := Claims.after .store xs (range 0 e) (s.srcTaken a.toNat)
      (∀ e < 1024, (after e).opens .store false (at' e).addr 1 (xs e)) →
      let byte (e : Nat) : Nat := let p := carryPair (s.me.readH k.toNat) (e / 8)
        (if e % 8 < 4 then (if p.1 = 1 then 0 else p.1) else p.2) / 256 ^ (e % 4) % 256
      let new : List HeldStore := (range 0 1024).map (fun e =>
        { shared := false, eligible := false, strip := s.me.strip.serial
          bytes := Claims.heldBytes [(at' e).addr] ((xs e).map (·.pa)) [BitVec.ofNat 8 (byte e)] })
      (s.me.held ++ new).foldl (fun n x => n + x.bytes.length) 0 ≤ s.stripShare →
      Claims.retiresStore s (.mcarryst k a) (after 1024) new 0))

/-- What an operand of a posted product captures (R27, R225, R226, R228): a pair s[n], s[n + 1] names a matrix of `rows` rows in scratch, which is noted as it stands at the post and is
read by the engine later; otherwise the elements of a vector tile are taken at once. -/
def Claims.captured (s u : State) (pair : Bool) (n rows : Nat) (d : Desc) (src : MatrixSource) : Prop :=
  if pair then
    let o := (s.me.readS n).toNat
    let p := (s.me.readS (n + 1)).toNat
    ∃ fr, src = .scratch o p [scratchCodes { s with free := fr } s.tan.unit s.me.held d o p rows (tdDepth d)]
  else src = .codes ((range 0 rows).flatMap (fun x => (range 0 (tdDepth d)).map (fun k =>
    elemAt (u.tileValue n s.me.csr.grp) s.me.csr.grp (8 * tdSize d) x k)))

/-- The operand can be captured, and a scratch operand meets no error (R225, R226, R360). -/
def Claims.capturable (s u : State) (pair : Bool) (n rows : Nat) (d : Desc) : Prop :=
  if pair then 1 ≤ n ∧ n ≤ 110 ∧ scratchOut d (s.me.readS n).toNat (s.me.readS (n + 1)).toNat rows (tdDepth d) = none ∧ s.mem.badScratch = []
  else u.tileHere n s.me.csr.grp ∧ rows ≤ s.me.csr.rows ∧ tdDepth d * (8 * tdSize d) ≤ s.me.csr.grp * 1024 ∧ tdTr d = false

/-- The members of MMA by their order (R228, R229). -/
noncomputable def Claims.postedProducts (z : BitVec 4) (a b : BitVec 7) (sel : BitVec 2) : List (Nat × Instr) :=
  [(0, .mmac z a b sel), (1, .mmacn z a b sel), (2, .mmaco z a b sel), (3, .mmacs z a b sel)]

/-- R225–R229: a product whose checks pass is posted behind the others with its operands, its tile's configuration and anchor, its descriptors and their scale registers; no tile
changes yet. With 64 posted it waits with WAITRSN 5. -/
def Obligations.ProductsArePostedInOrder : Prop :=
  ∀ (z : BitVec 4) (a b : BitVec 7) (sel : BitVec 2) (s : State), s.tan.firmware = none → s.onA = false → s.me.savedNow = none → s.me.csr.vstart = 0 →
    z.toNat < s.tan.z →
    let cfg := s.tan.cfg z.toNat
    let v := s.seeTds
    let da := v.tan.readTd false (cfgTda cfg)
    let db := v.tan.readTd false (cfgTdb cfg)
    let pa := sel.getLsbD 0
    let pb := sel.getLsbD 1
    let t := if pa then v else v.tileTaken a.toNat s.me.csr.grp
    let u := if pb then t else t.tileTaken b.toNat s.me.csr.grp
    tdLegal da = true → tdLegal db = true → pairLegal (cfgMode cfg) (cfgM cfg) (cfgN cfg) da db = true →
    Claims.capturable v v pa a.toNat (cfgM cfg) da → Claims.capturable v t pb b.toNat (cfgN cfg) db →
    ¬(cfgMode cfg = 0 ∧ s.me.csr.hctl.getLsbD 0 = true ∧ (tdSplit da = 1 ∨ tdSplit db = 1)) →
    ∀ q ∈ Claims.postedProducts z a b sel,
      (if q.1 = 2 then cfgMode cfg = 2 ∧ tdSplit da ≠ 1 ∧ tdSplit db ≠ 1 else cfgMode cfg ≠ 2) →
      (s.tan.matrix.length < 64 → ∃ (p : Posted) (fr : Nat),
        p.op = q.1 ∧ p.tile = z.toNat ∧ p.cfg = cfg ∧ p.anchor = s.tan.anchor z.toNat ∧ p.tda = da ∧ p.tdb = db ∧
        p.ka = s.me.readK (tdKreg da) ∧ p.kb = s.me.readK (tdKreg db) ∧ p.batch = s.tan.openBatch ∧ p.seq = s.tan.posts ∧ p.row = 0 ∧
        p.flags = 0 ∧ p.spill = none ∧
        Claims.captured v v pa a.toNat (cfgM cfg) da p.a ∧ Claims.captured v t pb b.toNat (cfgN cfg) db p.b ∧
        s.retiresWith q.2 { u.spoilStrip with
          free := fr, tan := { u.spoilStrip.tan with matrix := s.tan.matrix ++ [p], posts := s.tan.posts + 1 } } 0) ∧
      (64 ≤ s.tan.matrix.length → ∃ t, exec q.2 s = .next t ∧ t.me.csr.waitrsn = 5 ∧ t.me.stalled = some 0x42 ∧ t.me.pc = s.me.pc ∧
        t.tan.matrix = s.tan.matrix ∧ t.tan.zt = s.tan.zt ∧ t.me.s = s.me.s ∧ t.me.v = s.me.v)

/-! ## Steps of the harts, their copies, replays and matrix work (R17, R67–R72, R91–R96, R108, R120, R172, R175, R231, R245, R321–R326, R348–R358, R382) -/

/-- The hart in focus is resident and runs: its slot's cluster is not frozen, it has not ended, and it is no A-side of a single-mode tandem (R14). -/
def Claims.runs (s : State) : Prop :=
  s.live = true ∧ s.me.exited = false ∧ ¬(s.onA = true ∧ s.tan.single = true) ∧ s.dbg.frozen = [] ∧ ∃ c k, s.tan.place = .resident c k

/-- No other tandem has the number of the one in focus. -/
def Claims.alone (s : State) : Prop := s.live = true ∧ ∀ x ∈ s.away, x.t.uid ≠ s.tan.uid

/-- The entries or the room that a stalled hart waits for are there, in front of any fault marker (R15, R17, R19, R345): port 1 to 16 for vector queues,
17 to 32 for scalar queues, 33 for the branch queue; WAITRSN 1 for a full queue and 2 for an empty one. -/
def Claims.stallOver (s : State) : Prop :=
  let need := s.me.stallNeed
  let go (port n depth : Nat) (marker : Option Nat) : Prop := s.me.stalled = some port ∧
    ((s.me.csr.waitrsn = 1 ∧ n + need ≤ depth) ∨
      (s.me.csr.waitrsn = 2 ∧ ((need ≤ n ∧ ∀ m, marker = some m → need ≤ m) ∨ s.peer.exited = true)))
  (∃ q < 16, go (q + 1) (s.tan.vfifo q).items.length 16 (s.tan.vfifo q).marker) ∨
    (∃ q < 16, go (q + 17) (s.tan.sfifo q).items.length 32 (s.tan.sfifo q).marker) ∨ go 33 s.tan.bq.items.length 64 s.tan.bq.marker

/-- A trap of code `code` has been taken at the hart in focus, whose program counter was `pc` (R341). -/
def Claims.trapped (s t : State) (code : Nat) (xaddr xinfo : Word) : Prop :=
  t.me.pc = s.me.csr.xvec ∧ t.me.csr.xpc = s.me.pc ∧ t.me.csr.xcause = BitVec.ofNat 64 (2 ^ 63 + code) ∧ t.me.csr.xaddr = xaddr ∧
  t.me.csr.xinfo = xinfo ∧ t.me.stalled = none ∧ t.me.s = s.me.s ∧ t.me.v = s.me.v ∧ t.mem = s.mem

/-- R17, R108, R172, R245, R348, R351, R355, R382: what happens to the hart in focus, or to its tandem: the fence it waits in retires once its accesses
are complete; a queue stall ends when the queue has an entry or room, and the hart has the next turn; an eligible held store is performed alone,
where no older one touches its bytes; an open strip that times out is performed; the progress timer traps; a pending COPY-ERROR traps; pre-emption
parks both sides; a recheck whose runs agree lets the instruction retire, and one that is late is forced; a trial that is over writes its record and
stops.

The steps that name a hart act in the same way whichever hart is in focus: at a hart of a tandem that is away, each does what it does with that hart
in focus, and the focus comes back.

The model's reading: XADDR of the progress trap (log 68), an instruction gated before its second run (log 65), and the next turn for a hart that was stalled
(log 5). -/
def Obligations.HartEventsActOnTheirHart : Prop :=
  (∀ s : State, Claims.runs s →
     (∀ p ∈ Claims.fences, ∀ w, s.me.stallWord = w → wMaj w = 0x13 → wFn5 w = p.1 →
       let u : State := { s with ir := w, notes := [] }
       s.Quiet → u.endStrip.Quiet → s.me.savedNow = none → s.me.stalled ≠ none → Claims.fenceDue p.1 (wD w) u.endStrip →
       exec (.fenceRetire s.hart) s = .next (retire u (s.me.pc + 4) u.endStrip)) ∧
     (Claims.stallOver s → exec (.queueStallEnd s.hart) s =
       .next { s with me := { s.me with stalled := none }, inputs := .turn s.hart :: s.inputs }) ∧
     (∀ k x, s.me.held[k]? = some x → x.eligible = true → s.isFirmware s.hart = false → s.tan.die < 4 → s.Quiet →
       (x.shared = false → ∀ b ∈ x.bytes, b.pa < deviceTop) → (x.shared = true → ∀ b ∈ x.bytes, b.va < 0x400000) →
       (∀ y ∈ s.me.held.take k, y.shared = x.shared → ∀ b ∈ y.bytes, ∀ c ∈ x.bytes, b.va ≠ c.va) →
       ∃ t, exec (.stripBufferDrain s.hart k) s = .next t ∧ t.me.held = s.me.held.eraseIdx k ∧ t.me.s = s.me.s ∧ t.me.pc = s.me.pc ∧
         (x.shared = false →
           (∀ pa, t.mem.viewByte s.tan.die pa =
             overlay pa (s.mem.viewByte s.tan.die pa) (x.bytes.map (fun b => (b.pa, b.val, b.mask)))) ∧
           (∀ d pa, d ≠ s.tan.die → t.mem.viewByte d pa = s.mem.viewByte d pa) ∧ t.mem.scratch = s.mem.scratch) ∧
         (x.shared = true →
           (∀ o < 0x400000, t.mem.scratchByte t.free s.tan.unit o =
             overlay o (s.mem.scratchByte s.free s.tan.unit o) (x.bytes.map (fun b => (b.va, b.val, b.mask)))) ∧
           t.mem.cells = s.mem.cells ∧ t.mem.flight = s.mem.flight)) ∧
     (let u := s.endStrip.spoilStrip
      u.Quiet → exec (.stripTimeout s.hart) s = .next u) ∧
     (s.me.stalled ≠ none → s.me.tis = false → s.peer.tis = false → s.me.csr.waitrsn.toNat ∉ [3, 15, 16, 17, 18] →
       (∀ c ∈ s.me.copies ++ s.peer.copies, c.waiting = none) → (s.me.csr.waitrsn = 13 → barrierHeld s = false) → s.me.csr.xvec ≠ 0 → s.me.held = [] →
       ∃ t, exec (.progressExpiry s.hart) s = .next t ∧
         Claims.trapped s t 8 (stalledAddr s.me.stallWord s)
           (BitVec.ofNat 64 (s.me.csr.waitrsn.toNat % 256 + s.me.stalled.getD 0 % 256 * 256)) ∧
         (wMaj s.me.stallWord < 0x24 → t.me.csr.vstart = 0)) ∧
     (∀ e r, s.me.copyErrors = e :: r → s.me.tis = false → s.me.saved = none → s.me.csr.xvec ≠ 0 → s.me.held = [] →
       ∃ t, exec (.copyErrorTrap s.hart) s = .next t ∧ t.me.copyErrors = r ∧ Claims.trapped s t 10 e.addr e.word0) ∧
     (Claims.alone s → ∃ t, exec (.preempt s.tan.uid) s = .next t ∧ t.tan.place = .parked 19 s.now ∧ t.me.held = [] ∧ t.peer.held = [] ∧
       t.me.stalled = none ∧ t.me.s = s.me.s ∧ t.peer.s = s.peer.s ∧ t.me.v = s.me.v ∧ t.me.pc = s.me.pc ∧ t.peer.pc = s.peer.pc) ∧
     (s.me.loop = none → (s.me.recheck = .pending s.me.pc ∨ s.me.recheck = .forced s.me.pc) → exec (.recheckSecondRun s.hart true) s =
       .next { s with me := { s.me with recheck := .agreed s.me.pc, stalled := none } }) ∧
     (∀ pc, s.me.recheck = .pending pc → exec (.recheckForce s.hart) s = .next { s with me := { s.me with recheck := .forced pc } }) ∧
     (∀ u, s.me.csr.trctl.getLsbD 0 = true → s.me.savedNow = none →
       field s.me.csr.trctl 32 32 ≤ s.cycles.toNat - s.me.trial.startCycle →
       trialStores s.me.csr.trbase.toNat ([s.me.csr.trexp.toNat, s.cycles.toNat - s.me.trial.startCycle, s.me.trial.withheld, s.me.trial.inside,
         s.me.trial.outside, 0, 0, 0] ++ s.me.trial.counters) { s with ir := 0, notes := [] } = .ok () u →
       exec (.trialEnd s.hart) s = .next { u with
         notes := []
         dbg := { u.dbg with passed := u.dbg.passed.filter (fun h => h ≠ s.hart) }
         me := { u.me with csr := { u.me.csr with
           trctl := setField (setField (setField u.me.csr.trctl 0 1 0) 2 1 1) 3 1 0 } } })) ∧
  (∀ (e : Nat → Instr), e ∈ [.fenceRetire, .queueStallEnd, .stripTimeout, .progressExpiry, .copyErrorTrap, .recheckForce, .trialEnd] →
     ∀ (h : Nat) (s : State) (x : Away), s.live = true → s.tan.uid ≠ h / 2 → s.away.find? (fun y => y.t.uid == h / 2) = some x →
       ∃ t, exec (e h) (s.focus h) = .next t ∧ exec (e h) s = .next (t.focus s.hart))

/-- The codes that the engine works from for an operand: those captured at the post, or for a scratch operand each element as it has stood since the post or
stands now (R128, R226). -/
def Claims.delivered (s : State) (d : Desc) (rows depth : Nat) (src : MatrixSource) (codes : List Nat) : Prop :=
  match src with
  | .codes xs => codes = xs
  | .scratch o p early =>
    let now := scratchCodes s s.tan.unit s.focusAway.e.held d o p rows depth
    (∀ xs ∈ early, xs.length = rows * depth) → codes.length = rows * depth ∧
      ∀ e < rows * depth, codes[e]? = now[e]? ∨ ∃ xs ∈ early, codes[e]? = xs[e]?

/-- Element (i, n) of a posted product over tile `t`: in an FP mode the 32-bit code that the depth groups of min(NATIVE) products leave, one rounding to a
group; in exact mode the 128-bit integer that the contributions leave (R67, R68, R70–R72, R229). -/
def Claims.productElem (p : Posted) (as bs : List Nat) (t : Tandem) (i n : Nat) : Int × Nat :=
  let r := products (operandRow p.tda p.ka (tdDepth p.tda) i as) (operandRow p.tdb p.kb (tdDepth p.tda) n bs)
  if cfgMode p.cfg = 1 then
    let x := addExact p.anchor (p.op == 1) (if p.op = 3 then 0 else t.exact p.tile (64 * i + n)) (contributions (max (tdBlk p.tda) (tdBlk p.tdb)) r.1)
    (x.1, r.2 ||| x.2.1)
  else
    let w := if cfgMode p.cfg = 2 then 8192 + 64 * i + n else 128 * i + n
    let x := (chunksOf (min (tdNative p.tda) (tdNative p.tdb)) r.1.length r.1).foldl (addGroup (p.op == 1)) (if p.op = 3 then 0 else (t.word p.tile w).toNat, 0)
    (x.1, r.2 ||| x.2)

/-- R67–R72, R229, R231: the product that stands first of those posted to its tile completes: each element of its rows that were still open takes the
products of its operands' rows, every other word of every tile stays, the flags of the rows join the E-side's FFLAGS, and the product leaves the
queue. For an explicit split. -/
def Obligations.MatrixWorkCompletes : Prop :=
  ∀ (s : State) (k : Nat) (p : Posted), Claims.runs s → Claims.alone s → s.Tidy → s.tan.matrix[k]? = some p → firstOfTile s.tan.matrix k = true →
    s.tan.zsaved = false → cfgLegal p.cfg = true → tdSplit p.tda ≠ 1 → tdSplit p.tdb ≠ 1 →
    let rows := range p.row (cfgM p.cfg - p.row)
    ∃ t as bs, exec (.matrixComplete s.tan.uid k) s = .next t ∧
      Claims.delivered s p.tda (cfgM p.cfg) (tdDepth p.tda) p.a as ∧ Claims.delivered s p.tdb (cfgN p.cfg) (tdDepth p.tda) p.b bs ∧
      (∀ i ∈ rows, ∀ n < cfgN p.cfg, let x := (Claims.productElem p as bs s.tan i n).1
        (cfgMode p.cfg = 0 → ((t.tan.word p.tile (128 * i + n)).toNat : Int) = x) ∧
        (cfgMode p.cfg = 1 → t.tan.exact p.tile (64 * i + n) = x) ∧
        (cfgMode p.cfg = 2 → ((t.tan.word p.tile (8192 + 64 * i + n)).toNat : Int) = x)) ∧
      (∀ j w, w < 16384 → (j ≠ p.tile ∨ (cfgMode p.cfg = 0 ∧ (w / 128 < p.row ∨ cfgM p.cfg ≤ w / 128 ∨ cfgN p.cfg ≤ w % 128)) ∨
          (cfgMode p.cfg = 1 ∧ (w / 256 < p.row ∨ cfgM p.cfg ≤ w / 256 ∨ cfgN p.cfg ≤ w / 4 % 64)) ∨
          (cfgMode p.cfg = 2 ∧ (w < 8192 ∨ w / 64 % 128 < p.row ∨ cfgM p.cfg ≤ w / 64 % 128 ∨ cfgN p.cfg ≤ w % 64))) →
        t.tan.word j w = s.tan.word j w) ∧
      t.tan.matrix = s.tan.matrix.eraseIdx k ∧
      t.focusAway.e.csr.fflags = s.focusAway.e.csr.fflags ||| BitVec.ofNat 64 (rows.foldl (fun f i => f |||
        (range 0 (cfgN p.cfg)).foldl (fun f n => f ||| (Claims.productElem p as bs s.tan i n).2) 0) p.flags) ∧
      t.focusAway.e.s = s.focusAway.e.s ∧ t.mem = s.mem

/-- The source bytes of chunk `k` of a copy, as global or shared addresses, those of a segment copy ascending and each once (R91, R92, R102, R239). -/
def Claims.chunkSources (c : Copy) (k : Nat) : List Nat :=
  let all := (range (k * 2 ^ c.clog) (c.chunkLen k)).flatMap c.sourcesOf
  if c.seg.isSome then (all.foldl (fun m a => insertKey m a ()) []).map (·.1) else all

/-- R91, R92, R95, R102: chunk `k` of a copy without a barrier object, whose global side translates to sound device memory, is written whole: each of its destination
bytes takes the copy's value of its source bytes, a byte of DEV memory as the copy has read it before where it has, and none of it has been written before; the chunk counts as done, and its bit of
the mask predicate is set, once no instruction of the hart is under way. A copy whose chunks are all done retires with its flags, with its writes in the
view of the die where its tandem now is (R126), and a failed one leaves a COPY-ERROR pending (R245). -/
def Obligations.CopiesMoveTheirChunksAndRetire : Prop :=
  ∀ (s : State) (c : Copy), s.live = true → s.me.copies.find? (fun x => x.id == c.id) = some c →
    (∀ (k : Nat) (px : Nat → Xlat), k < c.chunks → k ∉ c.done → lookup c.stood k = none → c.bar = none → s.dbg.frozen = [] → c.core < 256 →
      (copyDev s c = true → ∀ i < k, i ∈ c.done) → (∀ r ∈ s.links.requests, r.hart ≠ copyKey s.hart c.id k) → (∃ n m, s.tan.place = .resident n m) →
      let bytes := range (k * 2 ^ c.clog) (c.chunkLen k)
      let reach (kind : AccessKind) (a : Nat) : Prop := translate s s.myCtx (coreDie c.core) true false kind a = .ok (px a) ∧
        regionOf (px a).pa = .device ∧ (px a).discarded = false ∧ s.stationReady (px a) = true
      let ends (t : State) : Prop := (t.me.copies.find? (fun x => x.id == c.id)).map (·.done) = some (c.done ++ [k]) ∧
        (∀ p b, c.mask = some (p, b) → b + k ≤ 16383 →
          if s.me.savedNow = none then (t.me.readP p).getLsbD (b + k) = true else (p, b + k) ∈ t.me.dueBits ∧ t.me.p = s.me.p) ∧
        (c.mask = none → t.me.p = s.me.p) ∧
        t.me.s = s.me.s ∧ t.me.v = s.me.v
      (c.toShared = true → (∀ r ∈ c.regions, r.1 + r.2 ≤ 0x400000) → (bytes.map c.dstAddr).Nodup →
        (∀ a ∈ Claims.chunkSources c k, reach .copyRead a ∧ lookup s.mem.bad (px a).pa = none) →
        let u := s.marked .copyRead ((Claims.chunkSources c k).map px)
        ∃ t, exec (.copyChunkWritten s.hart c.id k) s = .next t ∧ ends t ∧
          ∀ b ∈ bytes, let v := c.byteValue (fun a => (lookup c.kept a).getD (u.mem.viewByte (coreDie c.core) (px a).pa)) b
            t.mem.scratchByte t.free (coreCluster c.core) (c.dstAddr b) &&& v.2.1 = v.1 &&& v.2.1) ∧
      (c.toShared = false → c.seg = none → (copyDev s c = true → c.wrote = 0) → (bytes.map (fun b => (px (c.dstAddr b)).pa)).Nodup → (∀ b ∈ bytes, reach .copyWrite (c.dstAddr b)) →
        let u := s.marked .copyWrite (bytes.map (fun b => px (c.dstAddr b)))
        ∃ t, exec (.copyChunkWritten s.hart c.id k) s = .next t ∧ ends t ∧
          (∀ b ∈ bytes, t.mem.viewByte (coreDie c.core) (px (c.dstAddr b)).pa = s.mem.scratchByte s.free (coreCluster c.core) ((c.src + b) % 2 ^ 64)) ∧
          ∀ pa, (∀ b ∈ bytes, (px (c.dstAddr b)).pa ≠ pa) → ∀ d, t.mem.viewByte d pa = u.mem.viewByte d pa)) ∧
    ((∀ k < c.chunks, k ∈ c.done) → ¬(c.failed = true ∧ s.me.exited = true) → (∃ n m, s.tan.place = .resident n m) →
      exec (.copyRetire s.hart c.id) s = .next { s with mem := if coreDie c.core = s.tan.die then s.mem else s.mem.pull (coreDie c.core) s.tan.die, me := { s.me with
        csr := { s.me.csr with fflags := s.me.csr.fflags ||| c.flags }
        copies := s.me.copies.filter (fun x => x.id ≠ c.id)
        copyErrors := if c.failed then s.me.copyErrors ++ [{ addr := addrWord c.failAddr, word0 := c.word0 }] else s.me.copyErrors } })

/-- R321–R324, R326: the stations perform a replay's next iteration whole, from the registers that R321 gives it, or stop it with nothing performed; the hart keeps its
registers. A hand-back gives back the counter and index registers as they stand at iteration j, the inductions, the flags, and LSTAT and LIDX; the loop is
over behind its LEND after the last iteration, and otherwise goes on at its start. -/
def Obligations.ReplaysPerformAndHandBack : Prop :=
  ∀ (s : State) (l : Loop) (r : Replay), s.live = true → s.me.loop = some l → l.replay = some r → (s.onA = true → s.peer.loop.bind (·.replay) = none) →
    (r.ended = none → (s.me.csr.rck = 0 ∨ r.checked = true) →
      let begins : State := { s with
        me := replayHart l r s.me
        tan := { s.tan with core := r.lead / 3 * 64 }
        dbg := { s.dbg with passed := s.hart :: s.dbg.passed } }
      (∀ u, replayPath r.lead r.path begins = .ok u →
        ∃ t m r', exec (.replayIteration s.tan.uid) s = .next t ∧ t.me = { s.me with loop := some m } ∧ m.replay = some r' ∧ r'.j = r.j + 1 ∧
          (r'.ended = if r.j + 1 < l.count then none else some .replayed) ∧ r'.flags = r.flags ||| u.me.csr.fflags ∧ t.tan = s.tan ∧
          t.mem = (performHeldOf u u.tan u.onA u.me).1.mem) ∧
      (∀ e, replayPath r.lead r.path begins = .error (some e) → exec (.replayIteration s.tan.uid) s =
        .next { s with me := { s.me with loop := some { l with replay := some { r with ended := some e } } } })) ∧
    (∀ e, r.ended = some e → s.tan.page = none → s.tan.heldRecord = none →
      let h := putInductions r.inductions ((s.me.writeS l.rb (match l.sweep with
        | none => l.start0 + BitVec.ofNat 64 r.j
        | some w => BitVec.ofNat 64 ((w.due[r.j]?.map (fun d => d.1)).getD w.cnt))).writeS l.ra (BitVec.ofNat 64 (l.count - r.j)))
      let state : Nat := match e with
        | .replayed => 2
        | .departed => 3
        | .returned => 4
      let st := setField s.me.csr.lstat 0 4 state
      let csr := { s.me.csr with
        fflags := s.me.csr.fflags ||| r.flags
        lstat := if e = .departed then setField st 8 1 1 else st
        lidx := BitVec.ofNat 64 r.j }
      (e = .replayed → l.sweep = none →
        ∃ t, exec (.handBack s.tan.uid) s = .next t ∧ t.me = { h with csr := csr, loop := none, pc := l.lend + 4 }) ∧
      (e ≠ .replayed →
        ∃ t, exec (.handBack s.tan.uid) s = .next t ∧
          t.me = { h with csr := csr, loop := some { l with replay := none, recd := none, handed := true }, pc := l.start }))

/-- R120, R175, R368: a write in flight reaches a die's view once its causal predecessors have, and no other die's view changes; a reply, over a port on which what is in
flight completes, is kept with its request, or ends that of a store performed after retirement, and its tag is outstanding no more. Its port may send further
requests in the room that is free (R369). -/
def Obligations.WritesSpreadAndRepliesArrive : Prop :=
  ∀ s : State,
    (∀ (d k : Nat) (f : Flight), d < 4 → s.mem.flight[k]? = some f → s.mem.mayApply d f = true → Memory.wf s.mem.cells = true →
      (∀ g ∈ s.mem.flight, g.seen.length = 4) →
      ∃ m, exec (.writeApply d k) s = .next { s with mem := m } ∧
        (∀ e pa, e < 4 → e ≠ d → m.viewByte e pa = s.mem.viewByte e pa) ∧ (∀ pa, m.latestByte pa = s.mem.latestByte pa) ∧
        ((∀ g ∈ s.mem.flight.drop (k + 1), g.seenBy d = false) → ∀ pa, m.viewByte d pa = overlay pa (s.mem.viewByte d pa) f.bytes)) ∧
    (∀ (r : Request) (data : List Byte), r ∈ s.links.requests → r.reply = none → (∀ q ∈ s.links.requests, q.tag = r.tag → q = r) → s.dbg.frozen = [] →
      r.sent = true → (∃ p, r.port = some p ∧ ((s.links.port p).state = .up ∨ (s.links.port p).state = .degraded ∨ (s.links.port p).state = .quiesced)) →
      data.length = (match r.op with
        | .read n => n
        | .write _ => 0
        | .atomic _ n _ _ => n) →
      ∃ t, exec (.memoryReply r.tag data) s = .next t ∧ t.mem = s.mem ∧
        t.links.requests.map (fun q => { q with sent := true }) =
          ((if r.posted then s.links.requests.filter (fun q => q.tag ≠ r.tag)
            else s.links.requests.map (fun q => if q.tag = r.tag then { q with reply := some data } else q)).map (fun q => { q with sent := true })) ∧
        (s.live = true → r.hart % 2 ^ 40 = s.hart → t.me.outstanding = s.me.outstanding.filter (· ≠ r.tag)))

/-- R355–R358: an instruction whose two runs disagree parks its tandem, with a record of reason 10 in its die's buffer and a sweep due on its core. A lane that gives its
known answer is noted with the time, and so is a sweep that every lane passes, which is then no longer due. A wrong answer fences the core, as does any
sweep that follows a second disagreement on one instruction: it is listed with its tasks since the lane's last pass, and no tandem sits on it any more.

The model's choice: a second disagreement fences at the following sweep whatever it finds (log 65), and the tasks and the time of the report (log 74). -/
def Obligations.ChecksFenceFailingCores : Prop :=
  (∀ s : State, Claims.runs s → s.me.loop = none → s.tan.heldRecord = none → (s.me.recheck = .pending s.me.pc ∨ s.me.recheck = .forced s.me.pc) →
    (s.faultBuffer s.tan.die).records.length < 1024 →
    let again := s.me.disagreed == some (s.me.pc, s.tan.core) || s.rel.sweeps.any (fun w => w.1 == s.tan.core && w.2)
    ∃ t, exec (.recheckSecondRun s.hart false) s = .next t ∧ t.me.recheck = .idle ∧ t.me.disagreed = some (s.me.pc, s.tan.core) ∧
      t.tan.place = .parked 19 s.now ∧ (s.tan.core, again) ∈ t.rel.sweeps ∧ t.rel.fenced = s.rel.fenced ∧
      ∃ r : FaultRecord, r.reason = 10 ∧ r.csn = s.tan.csn ∧ r.tid = s.tan.tid ∧ r.core = s.tan.core ∧ r.age = (s.faultBuffer s.tan.die).age ∧
        t.faultBuffer s.tan.die = { s.faultBuffer s.tan.die with
          records := (s.faultBuffer s.tan.die).records ++ [r], age := ((s.faultBuffer s.tan.die).age + 1) % 2 ^ 32 }) ∧
  (∀ (s : State) (core lane : Nat), core < 256 →
    exec (.knownAnswerOp core lane true) s = .next { s with rel := { s.rel with passed := insertKey s.rel.passed (core + 256 * lane) s.now } } ∧
    ((core, true) ∉ s.rel.sweeps → exec (.knownAnswerSweep core true) s = .next { s with rel := { s.rel with
      sweeps := s.rel.sweeps.filter (fun w => w.1 ≠ core)
      swept := insertKey s.rel.swept core s.now } }) ∧
    (core ∉ s.rel.fenced → (s.allTandems.map (·.t.uid)).Nodup →
      let since := max ((lookup s.rel.passed (core + 256 * lane)).getD 0) ((lookup s.rel.swept core).getD 0)
      (∀ e ∈ [Instr.knownAnswerOp core lane false, .knownAnswerSweep core false] ++ (if (core, true) ∈ s.rel.sweeps then [.knownAnswerSweep core true] else []),
        ∃ t, exec e s = .next t ∧ core ∈ t.rel.fenced ∧ (∀ w ∈ t.rel.sweeps, w.1 ≠ core) ∧
          ∀ x ∈ t.allTandems, x.t.firmware = none → residentOn core x.t = false) ∧
      ∃ t, exec (.knownAnswerOp core lane false) s = .next t ∧ .coreFenced core lane since (tasksOf s core since) ∈ t.reports))

/-! ## Kernels, contexts and queues (R21, R31, R266–R289, R387–R389) -/

/-- A kernel's record as it then stands. -/
def Claims.kernelHolds (t : State) (x csn : Nat) (p : Kernel → Prop) : Prop := ∃ k, t.kernel? x csn = some k ∧ p k

/-- What a failing page of a tandem's image or save area makes of its kernel's tandem: the kernel is stopped with FCODE 1 (R268, R288). -/
def Claims.areaFailed (t : State) (x : Tandem) (a : Nat) : Prop :=
  Claims.kernelHolds t x.ctx x.csn (fun k => k.stop = some { cancelled := false, fcode := 1, ftid := x.tid, faddr := addrWord a, finfo := 0 })

/-- R31, R43, R44, R231, R268, R270, R287: a tandem that may be dispatched into an open slot, with room for its tiles and its matrix work, is resident there
afterwards, started, with its registers as they were; its context is RUNNING, and a kernel whose last own tandem starts is RUNNING too; a failure of the
Thoud to write the record parks it again with its context FAULTED. One whose image or save area fails does not start, and its kernel stops with FCODE 1;
one whose page migrates waits. A RECLAIMED context is bound again first.

R287–R289: a draining kernel whose tandems have ended, with nothing of theirs under way, completes: its record is COMPLETE and its TIDs are free; where the
record cannot be written its context is FAULTED. A stopped kernel whose tandems and engines have finished takes its cause into its record, and then the host
is told; a record that waits for its page keeps both back. CANCEL stops a kernel whose completion has not begun, with every tandem of it, those of a frozen
cluster at RESUME; RELEASE frees a stopped kernel's record and TIDs. The addition to a completion counter in device memory adds 1.

The model's reading: placement and the moment of saving and moving work (logs 73, 114), a write of the kernel area that the page does not take (log 28), the
TIDs that are kept and freed (log 71) and the access to the completion counter (log 81). -/
def Obligations.KernelsStartCompleteAndStop : Prop :=
  (∀ (s : State) (u core slot : Nat) (x : Away) (c : Context), s.tandem? u = some x → s.ctx? x.t.ctx = some c → slotOpen s x.t core slot = true →
     hasRoom s x.t core slot = true →
     let fails := if x.t.started then none else imageFault s c (coreDie core) x.t
     (mayDispatch s x = true → c.state ≠ .reclaimed → c.asid ≠ none →
       (∀ r, fails = none → placeTandem core slot s x = .ok r →
         ∃ t y, exec (.tandemDispatch u core slot) s = .next t ∧ t.tandem? u = some y ∧ y.t.started = true ∧ y.t.core = core ∧ y.t.slot = slot ∧
           ((y.t.place = .resident core slot ∧ (∀ d ∈ t.ctxs, d.num = c.num → d.state = .running) ∧
               y.e = { x.e with leftIn := none } ∧ y.a = { x.a with leftIn := none }) ∨
             ∀ d ∈ t.ctxs, d.num = c.num → d.state = .faulted)) ∧
       (∀ a, (fails = some (a, false) ∨ (fails = none ∧ placeTandem core slot s x = .error (a, false))) →
         ∃ t, exec (.tandemDispatch u core slot) s = .next t ∧ Claims.areaFailed t x.t a) ∧
       (∀ a, (fails = some (a, true) ∨ (fails = none ∧ placeTandem core slot s x = .error (a, true))) →
         exec (.tandemDispatch u core slot) s = .next s)) ∧
     (c.state = .reclaimed → (∀ d ∈ s.ctxs, d.num = c.num → d = c) →
       exec (.tandemDispatch u core slot) s = exec (.tandemDispatch u core slot) (bindContext s c.num))) ∧
  (∀ (s : State) (x csn : Nat) (k : Kernel), s.kernel? x csn = some k →
     (∀ c, s.ctx? x = some c → k.state = .draining → k.stop = none → k.closing = false → k.doneAddr = 0 → k.adding = none →
       (∀ y ∈ s.allTandems, y.t.owed = []) → (∀ w ∈ s.areaWrites, w.ctx ≠ x) →
       (∀ y ∈ kernelTandems s x csn, y.e.held = [] ∧ y.a.held = [] ∧ y.enginesIdle = true ∧ y.settled = true) →
       let begun : State := s.modKernel x csn (fun j => { j with closing := true })
       let record := sysWrite { begun with mem := publishAll begun.mem } c 0 (kernelRecordAddr c csn) (kernelRecordBytes { k with state := .complete, closing := true })
       (∀ u, record = .ok u → ∃ t, exec (.kernelComplete x csn) s = .next t ∧
         Claims.kernelHolds t x csn (fun j => j = { k with state := .complete }) ∧
         (∀ y ∈ t.allTandems, ¬(y.t.ctx = x ∧ y.t.csn = csn)) ∧ (k.irq = true → .kernelDone x csn ∈ t.reports)) ∧
       (∀ e, record = .error e → e.later = false → (c.state = .running ∨ c.state = .boundIdle) →
         ∃ t, exec (.kernelComplete x csn) s = .next t ∧ Claims.kernelHolds t x csn (fun j => j = { k with closing := true }) ∧
           (∀ d, t.ctx? x = some d → d.state = .faulted) ∧ .contextFaulted x ∈ t.reports)) ∧
     (∀ (w : KernelStop) (c : Context), k.stop = some w → s.ctx? x = some c → (∀ v ∈ s.areaWrites, v.ctx ≠ x) →
       (∀ y ∈ kernelTandems s x csn, y.enginesIdle = true ∧ y.t.over = true) →
       let j : Kernel := { k with
         state := if w.cancelled then .cancelled else .faulted
         fcode := w.fcode, ftid := w.ftid, faddr := w.faddr, finfo := w.finfo, stop := none }
       let record := sysWrite s c 0 (kernelRecordAddr c csn) (kernelRecordBytes j)
       (∀ u, record = .ok u → ∃ t, exec (.kernelFaultRecord x csn) s = .next t ∧ .kernelFaulted x csn ∈ t.reports ∧
         Claims.kernelHolds t x csn (fun i => i = { j with closing := false })) ∧
       ∀ e, record = .error e → e.later = true → exec (.kernelFaultRecord x csn) s = .next s) ∧
     (k.live = true → k.stop = none → k.closing = false →
       ∃ t, exec (.cancel x csn) s = .next t ∧
         Claims.kernelHolds t x csn (fun j => j = { k with stop := some { cancelled := true, fcode := 0, ftid := 0, faddr := 0, finfo := 0 } }) ∧
         ∀ y ∈ t.allTandems, y.t.ctx = x → y.t.csn = csn → s.frozen y.t = false → y.t.over = true) ∧
     (k.closing = true → exec (.cancel x csn) s = .next s) ∧
     (k.closing = false → (k.state = .faulted ∨ k.state = .cancelled) →
       ∃ t, exec (.release x csn) s = .next t ∧ t.kernel? x csn = none ∧ ∀ y ∈ t.allTandems, ¬(y.t.ctx = x ∧ y.t.csn = csn)) ∧
     (∀ (c : Context) (r : List Xlat) (y : Xlat), k.doneAddr ≠ 0 → k.adding = none → s.ctx? k.ctx = some c →
       translateBytes s c 0 false false .atomic k.doneAddr.toNat 8 = .ok (y :: r) → (∀ z ∈ y :: r, s.stationReady z = true ∧ lookup s.mem.bad z.pa = none) →
       regionOf y.pa = .device → Memory.wf s.mem.cells = true →
       let u := s.marked .atomic (y :: r)
       ∃ t, addDone s k = (t, .done) ∧
         ofBytes ((range y.pa 8).map t.mem.latestByte) = (ofBytes ((range y.pa 8).map u.mem.latestByte) + 1) % 2 ^ 64 ∧
         ∀ pa, (pa < y.pa ∨ y.pa + 8 ≤ pa) → t.mem.latestByte pa = u.mem.latestByte pa))

/-- R267, R270, R271, R284: a context is created DEFINED under a number not in use; BIND gives it the lowest free ASID, or leaves it its own, and a copy of a legal
block, BOUND-IDLE; without a free ASID it waits for one. While all ASIDs are held and a context waits, reclaiming takes that of the context idle for
longest, once what it has in the cores is written back, with its translations and queue slots; DESTROY stops its tandems and engines, discards what they
hold, records its unfinished kernels with FCODE 4, disables its queues with FCODE 4 and frees its ASID and the key slot that its bind had filled.

The model's reading: a destroy overrides a fault that is not recorded yet (log 82), when an ASID is reclaimed (log 83), the vector entries that a bind adopts
(log 95) and the reuse of numbers (log 78). -/
def Obligations.ContextsAreBoundReclaimedAndDestroyed : Prop :=
  ∀ s : State,
    (∀ x block : Nat, (∀ c, s.ctx? x = some c → c.state = .destroyed) → block % 64 = 0 →
      exec (.contextCreate x block) s = .next { s with
        ctxs := s.ctxs.filter (fun c => c.num ≠ x) ++ [{ num := x, block := block, serial := s.nextUid }]
        nextUid := s.nextUid + 1
        areaWrites := s.areaWrites.filter (fun w => w.ctx ≠ x)
        queues := s.queues.filter (fun q => q.ctx ≠ x)
        kernels := s.kernels.filter (fun k => k.ctx ≠ x)
        away := s.away.filter (fun y => y.t.ctx ≠ x || y.t.firmware.isSome) }) ∧
    (∀ (x : Nat) (c : Context), s.ctx? x = some c → (c.state = .defined ∨ c.state = .reclaimed ∨ c.state = .faulted) → s.tt.on = false →
      let w (i : Nat) : Nat := s.mem.viewNat 0 (c.block + 8 * i) 8
      let waiting (b : Bool) : State := { s with ctxs := s.ctxs.map (fun d => if d.num == x then { d with wants := b } else d) }
      (bindOk s x w = false → exec (.bind x) s = .next (waiting false)) ∧
      (bindOk s x w = true → c.asid = none → (∀ a < 512, ∃ d ∈ s.ctxs, d.asid = some a) → exec (.bind x) s = .next (waiting true)) ∧
      ∀ a, (c.asid = some a ∨ (c.asid = none ∧ (∀ d ∈ s.ctxs, d.asid ≠ some a) ∧ a < 512 ∧ ∀ b < a, ∃ d ∈ s.ctxs, d.asid = some b)) →
      bindOk s x w = true →
      exec (.bind x) s = .next { s with paging := adoptEntries s.paging (bits (w 2) 16 0) (bits (w 2) 33 17) c.serial, ctxs := s.ctxs.map (fun d => if d.num == x then { d with
        state := .boundIdle
        asid := some a
        id := w 0 % 2 ^ 32
        key := bits (w 0) 39 32
        keyed := true
        wants := false
        epart := bits (w 0) 44 40
        sroot := w 1
        vbase := bits (w 2) 16 0
        vcount := bits (w 2) 33 17
        imgBase := w 3
        msaBase := w 4
        recBase := w 5 } else d) }) ∧
    ((∀ a < 512, ∃ d ∈ s.ctxs, d.asid = some a) → (∃ d ∈ s.ctxs, d.wants = true) → (∃ d ∈ s.ctxs, d.state = .boundIdle) →
      ∃ c ∈ s.ctxs, ∃ t, c.state = .boundIdle ∧ (∀ d ∈ s.ctxs, d.state = .boundIdle → c.lastRun ≤ d.lastRun) ∧ exec .contextReclaim s = .next t ∧
        let left (u : State) : Prop := ∃ y ∈ u.allTandems, y.t.ctx = c.num ∧ leftBehind y.t.core y.t = true
        let saved := saveAll (fun t => t.ctx == c.num && leftBehind t.core t) s
        (left saved → t = saved) ∧ (∀ u, ¬left saved → writeBackImages saved c.num = .error u → t = u) ∧
        ∀ u, ¬left saved → writeBackImages saved c.num = .ok u →
          (∀ d ∈ t.ctxs, d.num = c.num → d.state = .reclaimed ∧ d.asid = none) ∧ (∀ e ∈ t.paging.tlb, some e.asid ≠ c.asid) ∧
          ∀ q ∈ t.queues, q.ctx = c.num → q.state.holdsSlot = false) ∧
    (∀ (x : Nat) (c : Context), s.ctx? x = some c → c.state ≠ .destroyed → (s.allTandems.map (·.t.uid)).Nodup →
      ∃ t, exec (.destroy x) s = .next t ∧ (∀ d ∈ t.ctxs, d.num = x → d.state = .destroyed ∧ d.asid = none) ∧
        (∀ y ∈ t.contextTandems x, (y.t.place = .ended ∨ y.t.place = .stopped) ∧ y.e.held = [] ∧ y.a.held = [] ∧ y.e.copies = [] ∧ y.a.copies = [] ∧
          y.t.matrix = [] ∧ y.t.zt = []) ∧
        (∀ k ∈ t.kernels, k.ctx = x → k.live = false) ∧
        (∀ k ∈ s.kernels, k.ctx = x → k.live = true →
          ∃ j ∈ t.kernels, j.ctx = x ∧ j.csn = k.csn ∧ j.state = .faulted ∧ j.fcode = 4 ∧ j.ftid = 0 ∧ j.faddr = 0 ∧ j.finfo = 0) ∧
        (∀ q ∈ t.queues, q.ctx = x → q.state = .disabled ∧ q.fcode = 4) ∧
        (if c.keyed then lookup t.dbg.keys c.key = none else t.dbg.keys = s.dbg.keys) ∧
        (∀ e ∈ t.paging.tlb, some e.asid ≠ c.asid) ∧ ∀ g ∈ t.groups, g.ctx ≠ x)

/-- In `u`, the state before an event or what reading the queue's block back makes of it, one queue changed, and saved to its block where it then holds no
slot (R276, R278). -/
def Claims.queueChanged (s u : State) (e : Instr) (n : Nat) (f : Queue → Queue) : Prop :=
  exec e s = .next (saveQueue { u with queues := u.queues.map (fun q => if q.num == n then f q else q) } n)

/-- The saved words of a queue (R276–R278): a queue with a slot is not saved; one without has SAVTAIL, SAVPROG and SAVSTATE written to its block, where the page
takes them; and a queue is loaded with TAIL and PROG as the block has them, by a read that sets A where the queue is DISABLED (R307). -/
def Claims.savedWords : Prop :=
  ∀ (u : State) (n : Nat) (q : Queue) (c : Context), u.ctx? q.ctx = some c → (∀ w ∈ u.areaWrites, w.ctx ≠ c.num) →
    (u.queue? n = some q →
      (q.state.holdsSlot = true → saveQueue u n = u) ∧
      (q.state.holdsSlot = false → c.state ≠ .destroyed → ∀ v, sysWrite u (u.seenCtx c) 0 (q.block + 24)
          (toBytes 8 q.tail ++ toBytes 8 q.prog ++ toBytes 8 (q.state.code + q.fcode * 256 + q.eprio * 65536)) false = .ok v → saveQueue u n = v) ∧
      readBack u n = (if q.state = .disabled then sysSeen u (u.seenCtx c) 0 (q.block + 24) 16 false else u)) ∧
    (∀ a b, sysRead u (u.seenCtx c) 0 (q.block + 24) 8 false = .ok a → sysRead u (u.seenCtx c) 0 (q.block + 32) 8 false = .ok b →
      loadQueue u q = { q with tail := a % 2 ^ 63, prog := b % 2 ^ 63, head := if b % 2 ^ 63 = q.prog then q.head else none })

/-- R276–R280: a TAIL between the old one and PROG + 2^LOG2N is taken, and wakes an EMPTY queue; any other faults an enabled queue with FCODE 2. ENABLE, DISABLE,
CLRFAULT and aging change the state as their rules say; a queue is created DISABLED from a legal block; the waiting queue of highest effective
priority, and of those the one that waits longest, takes a free slot, or the slot of the queue it displaces. A queue that comes to hold a slot has TAIL
and PROG as its block has them, and one that holds none is saved to it.

The model's reading (log 78): TAIL and PROG are read back from the block of a DISABLED queue at an enable and at a doorbell write, what is saved when, TAIL
and PROG are 0 at a queue's creation, and at equal EPRIO a queue is displaced after 16 takes. -/
def Obligations.QueuesFollowTheirStates : Prop :=
  Claims.savedWords ∧
  ∀ (s : State) (n : Nat), s.tt.on = false →
    (∀ v : Word, v.toNat < 2 ^ 63 → Claims.queueChanged s (readBack s n) (.qtailWrite n v) n (fun q =>
      let r := if q.state = .disabled then loadQueue (readBack s n) q else q
      if r.prog ≤ v.toNat ∧ v.toNat ≤ r.prog + 2 ^ r.log2n ∧ r.tail ≤ v.toNat then
        (if q.state = .empty ∧ r.prog ≠ v.toNat then { r with tail := v.toNat, state := .ready, waitSince := s.now } else { r with tail := v.toNat })
      else if q.state = .disabled then r else { r with state := .faulted, fcode := 2 })) ∧
    Claims.queueChanged s (readBack s n) (.enable n) n (fun q => if q.state ≠ .disabled then q
      else
        let r := loadQueue (readBack s n) q
        if r.prog = r.tail then { r with state := .empty } else { r with state := .ready, waitSince := s.now }) ∧
    Claims.queueChanged s s (.disable n) n (fun q => { q with state := .disabled, page := none, heldRecord := none }) ∧
    Claims.queueChanged s s (.clrfault n) n (fun q => if q.state ≠ .faulted then q
      else if q.prog = q.tail then { q with state := .empty, fcode := 0, head := none }
      else { q with state := .ready, fcode := 0, head := none, waitSince := s.now }) ∧
    Claims.queueChanged s s (.queueAging n) n (fun q => if q.ageLim ≠ 0 ∧ q.eprio < 7 ∧
      (q.state = .ready ∨ q.state = .active ∨ q.state = .blocked ∨ q.state = .switchedOut) then { q with eprio := q.eprio + 1 } else q) ∧
    (∀ (x block : Nat) (c : Context), s.ctx? x = some c → c.state ≠ .destroyed → (∀ q, s.queue? n = some q → q.state = .disabled) →
      (∀ xs, imagePages s (s.seenCtx c) 0 .load block 1 = .ok xs →
        ∀ w : Nat → Nat, (∀ i < 8, sysRead s (s.seenCtx c) 0 (block + 8 * i) 8 false = .ok (w i)) → ∀ y, queueOfBlock n x c.block block w = some y →
          exec (.queueCreate n block x) s =
            .next (saveQueue (sysSeen { s with queues := s.queues.filter (fun z => z.num ≠ n) ++ [y] } (s.seenCtx c) 0 block 8 false) n) ∧
          y = { num := n, ctx := x, block := block, ring := w 0, log2n := bits (w 1) 4 0, prio := bits (w 1) 10 8, tt := bit (w 1) 11
                ageLim := bits (w 1) 31 16, agePer := bits (w 1) 47 32, eprio := bits (w 1) 10 8 } ∧ y.state = .disabled ∧ y.prog = 0 ∧ y.tail = 0)) ∧
    ((∀ c ∈ s.ctxs, c.state = .reclaimed → waitedFor s c = false) → (∃ q ∈ s.queues, waitsForSlot s q = true) →
      ∃ q ∈ s.queues, waitsForSlot s q = true ∧
        (∀ r ∈ s.queues, waitsForSlot s r = true → r.eprio < q.eprio ∨ (r.eprio = q.eprio ∧ q.waitSince ≤ r.waitSince)) ∧
        let comesIn (u : State) : State :=
          let w : State := ((u.queue? q.num).map (blockSeen u)).getD u
          { w with queues := w.queues.map (fun z => if z.num == q.num then { loadQueue w z with state := .active, takes := 0, heldSince := w.now } else z) }
        let others := (slotHolders s).filter (fun z => z.num ≠ q.num)
        (others.length < 256 → exec .queueSwitchIn s = .next (comesIn s)) ∧
        (256 ≤ others.length → ∀ v, victim s q.eprio = some v → v.state.holdsSlot = true ∧ v.tt = false ∧ v.eprio ≤ q.eprio ∧
          exec .queueSwitchIn s = .next (comesIn (saveQueue { s with
            queues := s.queues.map (fun z => if z.num == v.num then { z with state := .switchedOut, waitSince := s.now } else z) } v.num))))

/-- R21, R22, R281, R284–R287: the queue whose turn it is and whose head packet passes its tests has it taken: PROG rises, EPRIO is PRIO again, and a STARTING kernel of the
packet's tandems is there under the context's next number; tandem i of them starts at EENTRY with its range, its index, their number and the argument
words in s1–s12. A scan makes a BLOCKED queue whose head passes ACTIVE again, gives a parked tandem that may go on one of the slots open to it, and tries
again the writes of kernel areas that wait for a migration. The model's reading: that retry (log 28) and the free choice of the slot (logs 9, 73).

R21: whatever the total, the grain and the number of tandems of a packet, base and count of each tandem are those of R21's division, and the ranges follow one another from 0 to the total without gap or
overlap, and each begins at a multiple of the grain or at the total. -/
def Obligations.PacketsBecomeKernels : Prop :=
  (∀ s : State,
     (∀ (q : Queue) (c : Context) (p : Packet) (args : List Word) (u : State), leastBy (servedBefore s.lastServed) (servable s) = some q → mayTake s q = true →
       examineHead s q = (u, .takeable p args) → u.ctx? q.ctx = some c →
       ∃ t, exec .packetTake s = .next t ∧ t.lastServed = q.num ∧
         t.queues = u.queues.map (fun z => if z.num == q.num then { z with
           prog := z.prog + 1
           head := none
           takes := z.takes + 1
           eprio := z.prio
           state := if z.prog + 1 = z.tail then .empty else .active } else z) ∧
         (∃ k ∈ t.kernels, k.ctx = q.ctx ∧ k.csn = c.nextCsn ∧ k.qid = q.num ∧ k.state = .starting ∧ k.tcnt = p.t ∧ k.tend = 0 ∧ k.total = p.total ∧
           k.doneAddr = p.doneAddr ∧ k.stop = none) ∧
         t.away.length = u.away.length + p.t ∧
         ∀ i < p.t, ∃ y ∈ t.away, y.t.ctx = q.ctx ∧ y.t.csn = c.nextCsn ∧ y.t.tix = i ∧ y.t.place = .waiting ∧ y.e.pc = p.eentry ∧ y.a.pc = p.aentry ∧
           (y.t.single = true ↔ p.aentry = 0) ∧ y.e.s = y.a.s ∧ ∀ j < 4 + args.length, y.e.readS (j + 1) =
             ([BitVec.ofNat 64 (splitRange p i).1, BitVec.ofNat 64 (splitRange p i).2, BitVec.ofNat 64 i, BitVec.ofNat 64 p.t] ++ args).getD j 0) ∧
     ((∀ c ∈ s.ctxs, c.state ≠ .reclaimed) → s.allTandems = [] → (∀ q ∈ s.queues, q.state ≠ .blocked) → exec .schedulerScan s = .next (flushArea s)) ∧
     (∀ (q : Queue) (p : Packet) (u : State), s.areaWrites = [] → (∀ c ∈ s.ctxs, c.state ≠ .reclaimed) → s.queues = [q] → q.state = .blocked → q.page = none →
       s.allTandems = [] → testHead s q = (u, .ok p) →
       exec .schedulerScan s = .next { u with queues := u.queues.map (fun z => if z.num == q.num then { z with state := .active } else z) }) ∧
     (∀ d, s.areaWrites = [] → (∀ c ∈ s.ctxs, c.state = .reclaimed → hasWaiter s c = false) → (∀ q ∈ s.queues, q.state ≠ .blocked) → resumable s = [d] → openSlots s d ≠ [] →
       ∃ x ∈ openSlots s d, exec .schedulerScan s = .next (dispatchTandem d.uid x.1 x.2 { s with free := s.free + 1 }))) ∧
  (∀ p : Packet, 1 ≤ p.g → 1 ≤ p.t →
     let c := (p.total + p.g - 1) / p.g
     let chunks (i : Nat) : Nat := c / p.t + if i < c % p.t then 1 else 0
     let first (i : Nat) : Nat := i * (c / p.t) + min i (c % p.t)
     (∀ i < p.t, (splitRange p i).1 = min (first i * p.g) p.total ∧
       (splitRange p i).2 = min ((first i + chunks i) * p.g) p.total - (splitRange p i).1) ∧
     (splitRange p 0).1 = 0 ∧ (splitRange p (p.t - 1)).1 + (splitRange p (p.t - 1)).2 = p.total ∧
     ∀ i < p.t, ((splitRange p i).1 % p.g = 0 ∨ (splitRange p i).1 = p.total) ∧
       (i + 1 < p.t → (splitRange p (i + 1)).1 = (splitRange p i).1 + (splitRange p i).2))

/-- R282, R283, R387–R389: a table that keeps R282 is put in force, and one that does not is rejected; at its start a slot lets its parked kernel go on, or takes its queue's
packet, or notes a miss; at its end a kernel still running counts as an overrun and is parked, or the next slot is skipped; the mailbox clears MISS; the local
clock follows its inputs. A budget and a class forecast are what was last written; a window over its partition's budget slows the islands that it uses.
The model's choice: the islands that a partition uses and their numbers (log 106), the energy increments (log 8), and MISS of a slot whose take fails
(log 79). -/
def Obligations.TimeAndEnergyTablesAct : Prop :=
  ∀ s : State,
    (∀ (period epoch : Nat) (rows : List TtRow),
      (tableOk s period rows = true → ∃ t, exec (.ttModeEnable period epoch rows) s = .next t ∧ t.kernels = s.kernels ∧
        t.tt = { s.tt with on := true, period := period, epoch := epoch, rows := (rows.map (fun r => { row := r }) ++
          List.replicate (64 - rows.length) { row := { start := 0, len := 0, queue := 0, skipNext := false, enabled := false } }) }) ∧
      (tableOk s period rows = false → exec (.ttModeEnable period epoch rows) s = .next { s with reports := s.reports ++ [.tableRejected] })) ∧
    (∀ (i : Nat) (r : TtSlot), s.tt.rows[i]? = some r → s.tt.on = true → r.row.enabled = true →
      let begun := s.modRow i (fun r => { r with active := true, skip := false })
      let mine (k : Kernel) : Bool := k.row == some i && k.ttParked && k.live && k.stop.isNone
      (∀ k, s.kernels.find? mine = some k → exec (.ttSlotStart i) s = .next (begun.modKernel k.ctx k.csn (fun k => { k with ttParked := false }))) ∧
      (s.kernels.find? mine = none →
        (r.skip = true → exec (.ttSlotStart i) s = .next (begun.modRow i (fun r => { r with miss := true }))) ∧
        (∀ q u, r.skip = false → s.queue? r.row.queue = some q → q.state.holdsSlot = true →
          (tryTake begun q (some i) = (u, true) → exec (.ttSlotStart i) s = .next u) ∧
          (tryTake begun q (some i) = (u, false) → exec (.ttSlotStart i) s = .next (u.modRow i (fun r => { r with miss := true })))))) ∧
    (∀ (i : Nat) (r : TtSlot), s.tt.rows[i]? = some r → r.active = true →
      (kernelOfRow s i = none → exec (.ttSlotEnd i) s = .next (s.modRow i (fun r => { r with active := false }))) ∧
      (∀ k, kernelOfRow s i = some k → s.dbg.frozen = [] →
        ∃ t, exec (.ttSlotEnd i) s = .next t ∧
          t.tt.rows[i]? = some { r with active := false, ovrcnt := min (r.ovrcnt + 1) 0xFFFF, skip := r.row.skipNext } ∧
          (r.row.skipNext = false → (∀ j, t.kernel? k.ctx k.csn = some j → j.ttParked = true) ∧
            ∀ y ∈ t.allTandems, y.t.ctx = k.ctx → y.t.csn = k.csn → ∀ c n, y.t.place ≠ .resident c n))) ∧
    (∀ (i : Nat) (r : TtSlot), s.tt.rows[i]? = some r →
      ∃ t, exec (.missClear i) s = .next t ∧ t.tt.rows[i]? = some { r with miss := false } ∧ ∀ j, j ≠ i → t.tt.rows[j]? = s.tt.rows[j]?) ∧
    (∃ t, exec .ppsInput s = .next t ∧ t.tt.seconds = s.tt.seconds + 1 ∧ t.tt.timeOfDay % 1000000000 = 0 ∧ s.tt.timeOfDay < t.tt.timeOfDay ∧
      t.tt.timeOfDay ≤ s.tt.timeOfDay + 1000000000) ∧
    (∀ ns, exec (.timeOfDay ns) s = .next { s with tt := { s.tt with timeOfDay := ns } }) ∧
    (∀ i v, (i < 32 → exec (.budgetTableWrite i v) s = .next { s with energy := { s.energy with budget := insertKey s.energy.budget i v } }) ∧
      (i < 8 → exec (.classTableWrite i v) s = .next { s with energy := { s.energy with classes := insertKey s.energy.classes i v } })) ∧
    (∀ part used, ∃ t, exec (.energyWindow part used) s = .next t ∧ t.me = s.me ∧ t.mem = s.mem ∧ t.energy.budget = s.energy.budget ∧
      (∀ i < 32, lookup t.energy.islands i = some (min ((lookup s.energy.islands i).getD 0 + Config.microjoules (s.free + i)) (2 ^ 64 - 1))) ∧
      (∀ i, (part, i) ∈ t.energy.slowed ↔ (lookup s.energy.budget part).getD 0 ≠ 0 ∧ (lookup s.energy.budget part).getD 0 * 1000 < used ∧
        i ∈ (islandsUsed s part).map Island.num) ∧
      ∀ q i, q ≠ part → ((q, i) ∈ t.energy.slowed ↔ (q, i) ∈ s.energy.slowed))

/-! ## Links, the pager, debug, security and recovery (R4, R123, R313–R315, R347, R363–R390) -/

/-- One port changed, with its READY bit (R371, R390). -/
def Claims.withPort (s : State) (p : Nat) (q : Port) : State :=
  { s with links := { s.links with ports := insertKey s.links.ports p q }, ready1 := setField s.ready1 (16 + p) 1 (if q.state = .up ∨ q.state = .degraded then 1 else 0) }

/-- Port `p`, which was `q`, has become FAULTED: nothing is kept there to be sent, and no request to a peer waits there for its reply (R368–R371). -/
def Claims.portFaulted (t : State) (p : Nat) (q : Port) : Prop :=
  (t.links.port p).state = .faulted ∧ (t.links.port p).fails = min (q.fails + 1) 0xFFFF ∧ (t.links.port p).buffer = [] ∧ (t.links.port p).retry = q.retry ∧
  ∀ r ∈ t.links.requests, (∃ n, regionOf r.pa = .peer n) → r.reply = none → r.port ≠ some p

/-- R366, R368–R371, R390: the twelve ports move between their states as R368's table says, and READY follows; LINKSTAT shows state, FAILS and RETRY; an intact flit
acknowledges none but the oldest flits, 16 failures in succession make a port that carries traffic FAULTED, and no request that waits for its reply stays there; the
route table takes what is written. The model's reading (log 84): a reset, a lost partner and a quiesce leave the port's requests waiting. -/
def Obligations.PortsFollowTheirStates : Prop :=
  ∀ (s : State) (p : Nat), p < 12 →
    let q := s.links.port p
    let goes (e : Instr) (r : Port) : Prop := exec e s = .next (Claims.withPort s p r)
    (q.state = .down → goes (.partnerDetected p) { q with state := .training, trainFails := 0 }) ∧
    (q.state = .training → goes (.trainingDone p .allLanes) { q with state := .up, trainFails := 0 } ∧
      goes (.trainingDone p .halfLanes) { q with state := .degraded, trainFails := 0 } ∧
      (q.trainFails < 2 → goes (.trainingDone p .failed) { q with trainFails := q.trainFails + 1 }) ∧
      (2 ≤ q.trainFails → ∃ t, exec (.trainingDone p .failed) s = .next t ∧ Claims.portFaulted t p q)) ∧
    (q.state = .up → goes (.laneFailure p) { q with state := .degraded }) ∧
    ((q.state = .up ∨ q.state = .degraded) → goes (.quiesce p) { q with state := .quiesced }) ∧
    (q.state = .quiesced → goes (.portResume p) { q with state := .training, trainFails := 0 }) ∧
    goes (.portReset p) { q with state := .down, trainFails := 0 } ∧
    goes (.partnerLost p) { q with state := .down, trainFails := 0 } ∧
    (∀ sq, (q.state = .up ∨ q.state = .degraded ∨ q.state = .quiesced) →
      (∃ t n more replies, exec (.flitReceive p sq true) s = .next t ∧ (t.links.port p).state = q.state ∧ (t.links.port p).rejects = 0 ∧
        (t.links.port p).expect = (if sq = q.expect then q.expect + 1 else q.expect) ∧ (t.links.port p).buffer = q.buffer.drop n ++ more ∧
        t.reports = s.reports ++ [.flitAck p sq true] ++ replies) ∧
      ((q.rejects < 15 ∨ q.state = .quiesced) → exec (.flitReceive p sq false) s = .next
        { Claims.withPort s p { q with rejects := q.rejects + 1 } with reports := s.reports ++ [.flitAck p sq false] }) ∧
      (15 ≤ q.rejects → q.state ≠ .quiesced → ∃ t, exec (.flitReceive p sq false) s = .next t ∧ Claims.portFaulted t p q)) ∧
    (∀ (flit : Flit) (rest : List Flit), q.buffer = flit :: rest →
      ((q.state = .quiesced ∨ ((q.state = .up ∨ q.state = .degraded) ∧ flit.fails < 15)) → goes (.flitAckTimeout p)
        { q with retry := min (q.retry + 1) 0xFFFFFFFF, buffer := { flit with fails := flit.fails + 1 } :: rest }) ∧
      ((q.state = .up ∨ q.state = .degraded) → 15 ≤ flit.fails → ∃ t, exec (.flitAckTimeout p) s = .next t ∧ Claims.portFaulted t p q)) ∧
    (let w := statusRead s (0x100 + 8 * p);
      field w 3 13 = 0 ∧ [PortState.down, .training, .up, .degraded, .quiesced, .faulted][field w 0 3]? = some q.state ∧
      field w 16 16 = min q.fails 0xFFFF ∧ field w 32 32 = min q.retry 0xFFFFFFFF) ∧
    ∀ n valid mask, n < 1024 →
      exec (.peerRouteWrite n valid mask) s = .next { s with links := { s.links with routes := insertKey s.links.routes n (valid, mask) } }

/-- What an access from outside to device memory at `pa` makes of the state, and the data it gives (R45, R58, R123, R367): a read gives the bytes of device memory as they stand at
their home die, where no tandem's image holds them; a write leaves its bytes, in the bits that it names, as the latest there, and no other byte changes; an
atomic reads and writes once. -/
def Claims.reaches (s t : State) (op : PeerOp) (pa : Nat) (data : List Byte) : Prop :=
  match op with
  | .read n => t = s ∧ data = imageView s pa ((range pa n).map (fun a => s.mem.viewByte (homeDie a) a))
  | .write bs => data = [] ∧ t = writeImages ((range pa bs.length).zip bs) { s with mem := t.mem } ∧
      (∀ i < bs.length, let b := bs.getD i (0, 0)
        t.mem.latestByte (pa + i) = (b.1 &&& b.2) ||| (s.mem.latestByte (pa + i) &&& ~~~b.2) ∧
        t.mem.viewByte (homeDie (pa + i)) (pa + i) = (b.1 &&& b.2) ||| (s.mem.viewByte (homeDie (pa + i)) (pa + i) &&& ~~~b.2)) ∧
      ∀ a, (a < pa ∨ pa + bs.length ≤ a) → t.mem.latestByte a = s.mem.latestByte a
  | .atomic o n x e => (∀ y ∈ s.allTandems, y.t.cached = false) →
      let r := atomicDevice (homeDie pa) pa n (peerAtomic o n x e) s
      t = r.1 ∧ data = toBytes n r.2.1

/-- R45, R123, R124, R365, R367, R369, R373: an access of a peer or of the host to device memory is performed, and answered; that of a peer once what it wrote has been applied at
every die and its port has room for the reply. A peer's request sent again with its tag has no second effect and gets the first reply; the host's access to a closed granule
is refused, and one through another key slot than that of the data touches nothing but the 16-byte units of its bytes (the model's reading, log 85). An
address outside device memory stops the machine by name (the model's own stop). Bytes in no tandem's image are as device memory has them. -/
def Obligations.OutsideAccessesReachDeviceMemory : Prop :=
  ∀ (s : State) (pa : Nat),
    (∀ bs, (∀ x ∈ s.allTandems, x.imageMeets s pa bs.length = false) → imageView s pa bs = bs) ∧
    ((∀ x ∈ s.allTandems, x.t.cached = false) → ∀ bs, writeImages bs s = s) ∧
    (∀ port tag op, (s.links.port port).state = .up ∨ (s.links.port port).state = .degraded → pa < deviceTop → pa + accessLength op ≤ deviceTop →
      (∀ z ∈ s.links.served, z.tag ≠ tag) → (∀ i < accessLength op, s.ready1.getLsbD (homeStation (pa + i)) = true) →
      ∃ t u data, exec (.peerRequest port tag op pa) s = .next t ∧ Claims.reaches s u op pa data ∧
        t = { u with links := { u.links with served := t.links.served, ports := t.links.ports }, reports := t.reports } ∧
        ∃ r ∈ t.links.served, r.tag = tag ∧ r.port = port ∧ r.data = data ∧ (r.answered = true → r.complete t.mem = true ∧ .reply port tag.2 data ∈ t.reports) ∧
          ((∀ z ∈ s.links.served, z.answered = true) → r.answered = (r.complete t.mem && (s.links.port port).room (flitCount data.length)) ∧
            ((∃ n, op = .read n) → r.complete t.mem = true))) ∧
    (∀ port tag op, ∀ r ∈ s.links.served, r.tag = tag → (s.links.port port).state = .up ∨ (s.links.port port).state = .degraded →
      pa < deviceTop → pa + accessLength op ≤ deviceTop →
      ∃ t, exec (.peerRequest port tag op pa) s = .next t ∧
        t = { s with links := { s.links with served := t.links.served, ports := t.links.ports }, reports := t.reports } ∧
        ((∀ z ∈ s.links.served, z.tag = tag ∧ z = r ∨ z.tag ≠ tag ∧ z.answered = true) → r.complete s.mem = true → (s.links.port port).room (flitCount r.data.length) = true →
          .reply port tag.2 r.data ∈ t.reports)) ∧
    (∀ port tag op, deviceTop < pa + accessLength op ∨ deviceTop ≤ pa →
      exec (.peerRequest port tag op pa) s = .fault (.outsideDevice pa) ∧ exec (.hostMemAccess op pa) s = .fault (.outsideDevice pa)) ∧
    (∀ op, pa < deviceTop → pa + accessLength op ≤ deviceTop → s.hostReady = true → (∀ i < accessLength op, s.ready1.getLsbD (homeStation (pa + i)) = true) →
      (∀ i < accessLength op, s.dbg.closed.contains ((pa + i) / 4096) = false) →
      let mine : Prop := ∀ i < accessLength op, s.dbg.otherKey.contains ((pa + i) / 4096) = false
      ∃ u data bad, exec (.hostMemAccess op pa) s = .next { u with reports := s.reports ++ [.hostReply data bad] } ∧
        (mine → Claims.reaches s u op pa data ∧ (bad = true ↔ ∃ i < accessLength op, lookup u.mem.bad (pa + i) ≠ none)) ∧
        (¬mine → (∀ n, op = .read n → data.length = n ∧ u.mem = s.mem) ∧
          ∀ a, (a / 16 < pa / 16 ∨ (pa + accessLength op + 15) / 16 ≤ a / 16) → u.mem.latestByte a = s.mem.latestByte a)) ∧
    (∀ op i, i < accessLength op → pa < deviceTop → pa + accessLength op ≤ deviceTop → s.hostReady = true → s.dbg.closed.contains ((pa + i) / 4096) = true →
      exec (.hostMemAccess op pa) s = .next { s with reports := s.reports ++ [.granuleRefused pa, .hostReply [] true] }) ∧
    (∀ op, pa < deviceTop → pa + accessLength op ≤ deviceTop → s.hostReady = false → exec (.hostMemAccess op pa) s = .next s)

/-- R4, R245, R279, R288, R310, R313, R314, R347: a page that the pager has served is waited for by no tandem and no queue of the context any more; one that it cannot serve stops the
waiting tandem's kernel with FCODE 2, or faults the waiting queue with FCODE 3; a held record is posted, the one of lowest AGE first. A shootdown takes
the translations of its range away at once and ends the replays with a stream there, and when it is complete no hart of the context holds a store there. A
vector entry is written on all four dies, with the shootdown of its page and 0 in its reserved bits, and read with the marks of all.

The model's reading: what the pager's answers remove (log 76), a vector entry written on all dies in one step with its shootdown and its marks ORed (log 89), and
cached translations that go as the shootdown begins (log 90). -/
def Obligations.ThePagerAndTheVectorTableAct : Prop :=
  ∀ s : State,
    (∀ (x : Nat) (va : Word) (c : Context), s.ctx? x = some c →
      ∃ t, exec (.pagerResume x va) s = .next t ∧ t.mem = s.mem ∧
        (∀ b, samePage s c va.toNat b = true →
          (∀ y ∈ t.allTandems, y.t.ctx = x → (y.t.page.map (·.toNat)) ≠ some b ∧ ∀ p ∈ y.e.copies ++ y.a.copies, ∀ r, p.waiting ≠ some (b, r)) ∧
          ∀ q ∈ t.queues, q.ctx = x → (q.page.map (·.toNat)) ≠ some b) ∧
        ∀ a, c.asid = some a → ∀ e ∈ t.paging.tlb, e.touches a (va.toNat / 2 ^ pageShift s c va.toNat * 2 ^ pageShift s c va.toNat)
          (2 ^ pageShift s c va.toNat) = false) ∧
    (∀ (y : Away) (k : Kernel) (a : Word), s.tandem? y.t.uid = some y → s.ctx? y.t.ctx ≠ none → awaited y = some a → s.kernel? y.t.ctx y.t.csn = some k → k.live = true → k.stop = none →
      ∃ t w, exec (.pagerUnservable y.t.uid false) s = .next t ∧ Claims.kernelHolds t y.t.ctx y.t.csn (fun j => j.stop = some w) ∧
        w.cancelled = false ∧ w.fcode = 2 ∧ w.ftid = y.t.tid ∧ w.faddr = a) ∧
    (∀ n q, s.queue? n = some q → q.page ≠ none → exec (.pagerUnservable n true) s = .next (saveQueue { s with queues := s.queues.map (fun q =>
      if q.num == n then
        (if q.state = .disabled then { q with page := none, heldRecord := none } else { q with state := .faulted, fcode := 3, page := none, heldRecord := none })
      else q) } n)) ∧
    (∀ die, (s.faultBuffer die).records.length < 1024 → heldRecords s die ≠ [] →
      ∃ r ∈ heldRecords s die, ∃ t, exec (.faultRecordPost die) s = .next t ∧ (∀ z ∈ heldRecords s die, r.age ≤ z.age) ∧
        t.faults = sparseSet {} s.faults die { s.faultBuffer die with records := (s.faultBuffer die).records ++ [r] } ∧
        (∀ y ∈ t.allTandems, y.t.heldRecord ≠ some r) ∧ ∀ q ∈ t.queues, q.heldRecord ≠ some r) ∧
    (∀ (x va len a : Nat) (c : Context), s.ctx? x = some c → c.asid = some a →
      ∃ t, exec (.shootdown x va len) s = .next t ∧ t.paging.shoots = s.paging.shoots ++ [{ ctx := c.num, asid := a, va := va, len := len }] ∧
        t.paging.tlb = s.paging.tlb.filter (fun e => !e.touches a va len) ∧ t.mem = s.mem ∧
        ∀ y ∈ t.allTandems, y.t.ctx = c.num → ∀ h ∈ [y.e, y.a], ∀ l r, h.loop = some l → l.replay = some r → replayTouches l r va len = true → r.ended ≠ none) ∧
    (∀ (k : Nat) (x : Shootdown), s.paging.shoots[k]? = some x →
      let holds (u : State) : Prop := ∃ y ∈ u.allTandems, y.t.ctx = x.ctx ∧ ∃ h ∈ [y.e, y.a], ∃ st ∈ h.held, st.shared = false ∧ ∃ b ∈ st.bytes, x.va ≤ b.va ∧ b.va < x.va + x.len
      let streams : Prop := ∃ y ∈ s.allTandems, y.t.ctx = x.ctx ∧ (replayIn x.va x.len y.e = true ∨ replayIn x.va x.len y.a = true)
      (∃ t, exec (.shootdownComplete k) s = .next t ∧ ¬holds t ∧ (t.paging.shoots = s.paging.shoots ∨ t.paging.shoots = s.paging.shoots.eraseIdx k)) ∧
      (¬holds s → (∀ r ∈ s.links.requests, r.port ≠ none) → (streams ∨ requestsIn s x.ctx x.va x.len = true) → exec (.shootdownComplete k) s = .next s) ∧
      (¬holds s → s.links.requests = [] → s.areaWrites = [] → ¬streams → ∃ t, exec (.shootdownComplete k) s = .next t ∧
        t.paging.shoots = s.paging.shoots.eraseIdx k ∧ t.mem = publishAll s.mem ∧ ∀ e ∈ t.paging.tlb, e.touches x.asid x.va x.len = false)) ∧
    (∀ (idx : Nat) (v : Word), idx < 131072 → sparseWf 0 s.paging.vtab = true →
      ∃ t, exec (.vectorEntryWrite idx v) s = .next t ∧ (∀ d < 4, sparseGet 0 t.paging.vtab (131072 * d + idx) = v &&& 0x000FFFFFFE00FFFF) ∧
        (∀ i, i % 131072 ≠ idx → sparseGet 0 t.paging.vtab i = sparseGet 0 s.paging.vtab i) ∧
        (∀ c, s.ctxs.find? (fun c => c.bound && decide (c.vbase ≤ idx ∧ idx < c.vbase + c.vcount)) = some c →
          t.paging.shoots = s.paging.shoots ++
            [{ ctx := c.num, asid := c.asid.getD 512, va := (idx - c.vbase) * 2 ^ 25, len := 2 ^ 25 }]) ∧
        (s.ctxs.find? (fun c => c.bound && decide (c.vbase ≤ idx ∧ idx < c.vbase + c.vcount)) = none → t.paging.shoots = s.paging.shoots)) ∧
    ∀ idx, idx < 131072 →
      let e (d : Nat) : Word := sparseGet 0 s.paging.vtab (131072 * d + idx)
      exec (.vectorEntryRead idx) s = .next { s with reports := s.reports ++ [.vectorEntry idx (e 0 ||| ((e 0 ||| e 1 ||| e 2 ||| e 3) &&& 0x600))] }

/-- R4, R375–R380, R390: a frozen cluster runs on with nothing left in its skid buffer; HOLD needs kernel debug open, and RELEASE ends it; history and trace settings reach a
context that is open; a sample records the program counter of a resident hart; the count of discarded records becomes one record; registers take their writable
fields, and a write at any other offset of the mailbox BAR or of a doorbell page changes nothing; the READY bit of a function is set, and a firmware core's hart is there
from then on. The model's reading: HOLD, history and trace need kernel debug open (R383, log 86), where the registers stand and what a write elsewhere in the mailbox
BAR does (log 11), and the moment at which a firmware core's hart is there (log 14). -/
def Obligations.DebugFunctionsAct : Prop :=
  ∀ s : State,
    (∀ cl, s.dbg.frozen.contains cl = true → ∃ t, exec (.resume cl) s = .next t ∧ t.dbg.frozen = s.dbg.frozen.filter (· ≠ cl) ∧
      t.dbg.skid = s.dbg.skid.filter (fun e => e.1 ≠ cl)) ∧
    (∀ q c, s.ctx? q.ctx = some c → s.queues = [q] → (c.debugOpen = true →
        exec (.hold q.num) s = .next { s with queues := [{ q with hold := true }] }) ∧
      (c.debugOpen = false → exec (.hold q.num) s = .next s)) ∧
    (∀ n, exec (.debugRelease n) s = .next { s with queues := s.queues.map (fun q => if q.num == n then { q with hold := false, landed := false } else q) }) ∧
    (∀ x base, exec (.historyEnable x base) s = .next { s with ctxs := s.ctxs.map (fun c =>
      if c.num = x ∧ c.debugOpen = true ∧ base.toNat % 0x2000 = 0 then { c with histBase := some base.toNat } else c) }) ∧
    (∀ x c base len trace sample period, s.ctx? x = some c → c.debugOpen = true → x ≠ 65536 → (sample = true → 1000 ≤ period ∧ period ≤ 1000000000) →
      exec (.traceEnable x base len trace sample period) s = .next { s with
        dbg := { s.dbg with sinks := insertKey s.dbg.sinks x { base := base, len := len } }
        ctxs := s.ctxs.map (fun d => if d.num == x then { d with traced := trace, sampled := sample, period := period } else d) }) ∧
    (s.live = true → s.away = [] → s.onA = false → s.tan.single = true → (∃ c n, s.tan.place = .resident c n) → s.me.exited = false →
      (∃ c, s.ctx? s.tan.ctx = some c ∧ c.sampled = true) → exec .pcSample s = .next (putRecord s s.tan.ctx s.tan 2 6 s.me.pc.toNat 0)) ∧
    (∀ x k, lookup s.dbg.sinks x = some k → k.dropped ≠ 0 → k.windex - k.rindex < k.len →
      ∃ t j, exec (.dropRecord x) s = .next t ∧ lookup t.dbg.sinks x = some j ∧ j.dropped = 0 ∧ j.windex = k.windex + 1) ∧
    (∀ i v, i < 512 →
      let old := sparseGet {} s.dbg.comparators i
      exec (.registerWrite (0x10000 + 16 * i) v) s = .next { s with dbg := { s.dbg with
        comparators := sparseSet {} s.dbg.comparators i { old with addr := (v.setWidth 57).signExtend 64 } } } ∧
      exec (.registerWrite (0x10000 + 16 * i + 8) v) s = .next { s with dbg := { s.dbg with
        comparators := sparseSet {} s.dbg.comparators i { old with ctl := v &&& 0x1FFFFFFF9 } } }) ∧
    (∀ i v, i < 64 → s.tt.on = false →
      let writes (d : Nat) (g : TtSlot → TtSlot) : Prop := exec (.registerWrite (0x20000 + 16 * i + 8 * d) v) s = .next (s.modRow i g)
      writes 0 (fun r => { r with row := { r.row with start := field v 0 32, len := field v 32 32 } }) ∧
      writes 1 (fun r => { r with row := { r.row with queue := field v 0 12, skipNext := v.getLsbD 12, enabled := v.getLsbD 13 }
                                  miss := r.miss && !v.getLsbD 15 })) ∧
    (∀ a v, (a = 0x80 ∨ a = 0x88 ∨ (0x100 ≤ a ∧ a < 0x160 ∧ a % 8 = 0)) → exec (.registerWrite a v) s = .next s) ∧
    (∀ a v, regionOf a ≠ .doorbell → (a % 8 ≠ 0 ∨ a < 0x80 ∨ (0x90 ≤ a ∧ a < 0x100) ∨ (0x160 ≤ a ∧ a < 0x10000)) → exec (.registerWrite a v) s = .next s) ∧
    (∀ a v, regionOf a = .doorbell → a % 4096 ≠ 0 → a % 4096 ≠ 24 → exec (.registerWrite a v) s = .next s) ∧
    (∀ i, i < 64 → (∃ k < 4, 4 * i + k ∉ s.rel.fenced) → exec (.functionReady (.cluster i)) s = .next { s with ready0 := setField s.ready0 i 1 1 }) ∧
    (∀ i, i < 12 → (s.links.port i).carries = true → exec (.functionReady (.port i)) s = .next { s with ready1 := setField s.ready1 (16 + i) 1 1 }) ∧
    (∀ i, i < 12 → exec (.functionReady (.station i)) s = .next { s with ready1 := setField s.ready1 i 1 1 }) ∧
    exec (.functionReady .cxl) s = .next { s with ready1 := setField s.ready1 28 1 1 } ∧
    (∀ i, i < 4 → let u : State := { s with ready1 := setField s.ready1 (29 + i) 1 1 }
      exec (.functionReady (.firmwareCore i)) s = .next (if ∃ x ∈ s.allTandems, x.t.firmware = some i then u
        else { u with away := s.away ++ [firmwareCore s.nextUid i], nextUid := s.nextUid + 1 }))

/-- DSM extended with an event: SHA-512 of its 64 bytes and the event's (R384). -/
def Claims.dsmAfter (s : State) (kind x : Nat) : Nat := Config.sha512 (toBytes 64 s.dbg.dsm ++ Config.debugEvent kind x)

/-- R363, R364, R384–R386: a device reset leaves the state of reset, with the verified images measured and the others refused; a challenge is good for one attempt; a good token wipes
the keys, destroys the contexts, opens the port and extends DSM, a bad one is counted, and after eight none is taken; kernel debug opens for a context with its own loaded key, and
closes, extending DSM. A checkpoint parks every tandem and stops the taking of packets; once the device is idle its point is kept, or the host is told, and taking resumes; a
return brings back the point's memory, but for what R364 leaves alone, and its queues, kernels, groups and tandems, or is refused where a context with a key
has been destroyed since.

The model's reading: a failed token uses up the challenge, and kernel debug opens only with a loaded key (R383, log 87); the conditions and the extent of a point
and of a return (log 88); the cryptographic functions are the configuration's own (log 15). -/
def Obligations.SecurityAndRecoveryAct : Prop :=
  ∀ s : State,
    (∀ images, ∃ t, exec (.deviceReset images) s = .next t ∧ t = { State.reset with
      inputs := s.inputs
      free := s.free
      dbg := { State.reset.dbg with measurements := (images.filter (fun i => Config.ecdsaVerify Config.vendorKey i.digest i.signature)).map (fun i =>
        Config.extendMeasurement 0 i.digest) }
      reports := t.reports } ∧
      ∀ i, .imageRefused i ∈ t.reports ↔ ∃ m, images[i]? = some m ∧ Config.ecdsaVerify Config.vendorKey m.digest m.signature = false) ∧
    (∃ c, c < 2 ^ 256 ∧ exec .challenge s = .next { s with
      free := s.free + 1, dbg := { s.dbg with challenge := some c }, reports := s.reports ++ [.challenge c] }) ∧
    (∀ nonce, ∃ sig, exec (.attestationReport nonce) s = .next { s with reports := s.reports ++
      [.attestation nonce s.dbg.measurements s.dbg.dsm Config.lifecycle (s.dbg.keys.map (·.1)) sig] }) ∧
    (∀ slot wrapped, slot < 256 → exec (.keyLoad slot wrapped) s = .next { s with dbg := { s.dbg with
      keys := insertKey s.dbg.keys slot (Config.unwrapKey wrapped) } }) ∧
    (∀ token, s.dbg.unlockFails < 8 →
      (tokenGood s token = true → (s.ctxs.map (·.num)).Nodup →
        ∃ t, exec (.firmwareDebugUnlock token) s = .next t ∧ t.dbg.firmwareOpen = true ∧ t.dbg.keys = [] ∧ t.dbg.challenge = none ∧
          t.dbg.dsm = Claims.dsmAfter s 0 0 ∧ ∀ c ∈ t.ctxs, c.state = .defined ∨ c.state = .destroyed) ∧
      (tokenGood s token = false → exec (.firmwareDebugUnlock token) s = .next { s with dbg := { s.dbg with
        challenge := none, unlockFails := s.dbg.unlockFails + 1 } })) ∧
    (∀ token, 8 ≤ s.dbg.unlockFails → exec (.firmwareDebugUnlock token) s = .next s) ∧
    (∀ x c, s.ctx? x = some c →
      (c.asid ≠ none → lookup s.dbg.keys c.key ≠ none → c.debugOpen = false → exec (.kernelDebugUnlock x c.key) s = .next { s with
        ctxs := s.ctxs.map (fun d => if d.num == x then { d with debugOpen := true } else d)
        dbg := { s.dbg with dsm := Claims.dsmAfter s 2 x } }) ∧
      (∀ slot, c.key ≠ slot → exec (.kernelDebugUnlock x slot) s = .next s) ∧
      (c.debugOpen = true → exec (.debugRelock false x) s = .next { s with
        ctxs := s.ctxs.map (fun d => if d.num == x then { d with debugOpen := false, histBase := none, traced := false, sampled := false } else d)
        dbg := { s.dbg with dsm := Claims.dsmAfter s 3 x } })) ∧
    (∀ x, s.dbg.firmwareOpen = true →
      exec (.debugRelock true x) s = .next { s with dbg := { s.dbg with firmwareOpen := false, dsm := Claims.dsmAfter s 1 0 } }) ∧
    (s.rel.quiesced = false → s.dbg.frozen = [] → ∃ t, exec .checkpoint s = .next t ∧ t.rel.quiesced = true ∧
      ∀ y ∈ t.allTandems, y.t.firmware = none → ∀ c n, y.t.place ≠ .resident c n) ∧
    (deviceIdle s = true →
      (∃ t p, exec (.checkpointDone true) s = .next t ∧ t.rel.quiesced = false ∧ t.rel.safe = some p ∧ p.queues = s.queues ∧ p.kernels = s.kernels ∧
        p.ctxs = s.ctxs ∧ p.vtab = s.paging.vtab ∧ p.vtag = s.paging.vtag ∧ p.tandems = s.allTandems.filter (fun x => x.t.firmware.isNone)) ∧
      exec (.checkpointDone false) s = .next { s with rel := { s.rel with quiesced := false }, reports := s.reports ++ [.checkpointFailed] }) ∧
    (∀ p, s.rel.safe = some p → deviceIdle s = true →
      ((∃ c ∈ p.ctxs, c.keyed = true ∧ c.state ≠ .destroyed ∧ s.stillThere c = false) → exec .recoveryReturn s = .next s) ∧
      ((∀ c ∈ p.ctxs, c.keyed = true → c.state ≠ .destroyed → s.stillThere c = true) →
        Memory.wf s.mem.cells = true → Memory.wf p.cells = true → s.mem.flight = [] →
        let back (n : Nat) : Prop := ∃ c ∈ p.ctxs, s.stillThere c = true ∧ c.num = n
        ∃ t, exec .recoveryReturn s = .next t ∧ t.rel.quiesced = false ∧ t.paging.vtab = p.vtab ∧ t.paging.vtag = p.vtag ∧ t.paging.tlb = [] ∧
          (∀ q ∈ p.queues, back q.ctx → q ∈ t.queues) ∧ (∀ k ∈ p.kernels, back k.ctx → k ∈ t.kernels) ∧
          (∀ y ∈ p.tandems, back y.t.ctx → y ∈ t.allTandems) ∧ (∀ g ∈ p.groups, back g.ctx → g ∈ t.groups) ∧
          (∀ k ∈ t.kernels, k ∈ p.kernels ∨ ¬back k.ctx) ∧
          ∀ pa, readCell t.mem.cells pa = if inRuns (keptRuns s) pa = true ∨ deviceTop ≤ pa then readCell s.mem.cells pa else readCell p.cells pa))

/-! ## Encodings, steps and what holds after each (R3, R136, R142–R148, R270, R279, R368, R379, R390) -/

/-- R142–R148: every well-formed instruction that has an encoding is read back from its word, with every operand at every value.

R142, R148: a word that is read as an instruction is that instruction's only word, and the instruction is well formed: no two words mean the
same, and no reserved bit or value is passed over. -/
def Obligations.DecodingAndEncodingAgree : Prop :=
  (∀ i : Instr, i.hasWord = true → i.wellFormed = true → decodeWord (encode i) = .ok i) ∧
  (∀ (w : BitVec 32) (i : Instr), decodeWord w = .ok i → encode i = w ∧ i.hasWord = true ∧ i.wellFormed = true)

/-- Words written out from the formats of R142 and the assignments of R147: ADD s5, s6, s7; ADDI s1, s2, −1; LUI s3, 1; BEQZ s4, +2; VADD.V v8, v16, v24; SYSC 3; a
word of all zeros and one of major 63, which are none. -/
def Obligations.TheseWordsMeanTheseInstructions : Prop :=
  decodeWord (0b00000#5 ++ 7#7 ++ 6#7 ++ 5#7 ++ 0x01#6) = .ok (.add 5 6 7) ∧
  decodeWord (0x3FF#10 ++ 0#2 ++ 2#7 ++ 1#7 ++ 0x02#6) = .ok (.addi 1 2 0x3FF) ∧
  decodeWord (1#19 ++ 3#7 ++ 0x04#6) = .ok (.lui 3 1) ∧
  decodeWord (2#16 ++ 0#3 ++ 4#7 ++ 0x08#6) = .ok (.beqz 4 2) ∧
  decodeWord (0#4 ++ 0#1 ++ 24#7 ++ 16#7 ++ 8#7 ++ 0x24#6) = .ok (.vadd 8 16 24 0) ∧
  decodeWord (0#5 ++ 3#7 ++ 0#7 ++ 0#7 ++ 0x1C#6) = .ok (.sysc 3) ∧
  (∀ i, decodeWord 0 ≠ .ok i) ∧ ∀ i, decodeWord 0x3F ≠ .ok i

/-- R136, R141, R148: where no event and no other hart is due and the word at the program counter is fetched, a step executes the instruction that the word means, or takes the
illegal-instruction trap where it means none; where a comparator matches that fetch, what would retire freezes the cluster instead (R377). Around that instruction a step
moves the clock and the turn, and settles the states that follow (the model's own order, logs 5 and 6). -/
def Obligations.AStepRunsTheFetchedInstruction : Prop :=
  ∀ (s u : State) (w : BitVec 32), s.inputs = [] → (tick s).active = true → s.quantum ≠ 0 → boundary (tick s) = none →
    fetchAt s.me.pc.toNat (beforeFetch (tick s)) = .ok w u →
    let v : State := { u with ir := w }
    (∀ i, decodeWord w = .ok i →
      (fetchMatch v = none → step s = thenSettle settleAfter (thenSettle spendTurn (exec i v))) ∧
      ∀ k t, fetchMatch v = some k → exec i v = .next t →
        step s = .next (settleAfter (spendTurn (if t.me.csr.instret = v.me.csr.instret then t else freezeCluster k v.me.pc v)))) ∧
    ((∀ i, decodeWord w ≠ .ok i) → fetchMatch v = none → step s = .next (settleAfter (spendTurn (takeTrap 1 0 u.me.pc 0 (w.setWidth 64) v)))) ∧
    exec (.illegalInstruction w) s = .next (takeTrap 1 0 s.me.pc 0 (w.setWidth 64) { s with ir := w })

/-- R270, R364, R368, R379, R384, R390: at reset no context, queue, kernel or tandem exists, every port is DOWN and every READY bit 0, memory has no byte written, DSM is the digest of 64
zero bytes, and the invariants of the model hold. -/
def Obligations.ResetIsAsTheSpecLeavesIt : Prop :=
  let s := State.reset
  s.ctxs = [] ∧ s.queues = [] ∧ s.kernels = [] ∧ s.allTandems = [] ∧ (∀ p, (s.links.port p).state = .down) ∧ s.ready0 = 0 ∧ s.ready1 = 0 ∧
  s.mem.cells = [] ∧ s.mem.flight = [] ∧ s.dbg.dsm = Config.sha512 (List.replicate 64 0) ∧ s.dbg.firmwareOpen = false ∧ s.dbg.keys = [] ∧
  s.rel.safe = none ∧ s.Settled ∧ s.Tidy

/-- R270, R379: after every step, every RUNNING context has a tandem in a slot or work in flight, and a held queue whose kernels have all ended has landed. -/
def Obligations.EveryStepLeavesTheStateSettled : Prop := ∀ s t : State, step s = .next t → t.Settled

/-- The tables of memory and of every hart's and tandem's registers stay in their one canonical form through every step, so that equal contents are equal data (the model's own form). -/
def Obligations.EveryStepKeepsTheTablesCanonical : Prop := ∀ s t : State, s.Tidy → step s = .next t → t.Tidy
end

