-- ==== Sys2Proof/Laws/Memory.lean ====
section
/-! SUPPORT. Memory: reads after writes, and the canonical form that every operation on it keeps (R89, R119–R122). -/

set_option Elab.async false

namespace Sys2Proof.Machine

/-! ## Sparse tables -/

/-- A looser lower bound on the keys. -/
theorem sparseWfFrom_mono {β : Type} [DecidableEq β] (d : β) {lo lo' : Nat} (h : lo' ≤ lo) (l : List (Nat × β))
    (hw : sparseWfFrom d lo l = true) : sparseWfFrom d lo' l = true := by
  cases l with
  | nil => rfl
  | cons e r =>
    obtain ⟨k, v⟩ := e
    simp only [sparseWfFrom, Bool.and_eq_true, decide_eq_true_eq] at hw ⊢
    exact ⟨⟨by omega, hw.1.2⟩, hw.2⟩

/-- Setting a key at or above the bound keeps the canonical form. -/
theorem sparseWfFrom_set {β : Type} [DecidableEq β] (d : β) (l : List (Nat × β)) (lo i : Nat) (x : β) (hi : lo ≤ i)
    (hw : sparseWfFrom d lo l = true) : sparseWfFrom d lo (sparseSet d l i x) = true := by
  induction l generalizing lo with
  | nil => unfold sparseSet; split <;> simp_all [sparseWfFrom]
  | cons e r ih =>
    obtain ⟨k, v⟩ := e
    have hw' := hw
    simp only [sparseWfFrom, Bool.and_eq_true, decide_eq_true_eq] at hw
    unfold sparseSet
    split
    · split
      · exact hw'
      · simp only [sparseWfFrom, Bool.and_eq_true, decide_eq_true_eq]
        exact ⟨⟨hi, ‹_›⟩, ⟨by omega, hw.1.2⟩, hw.2⟩
    · split
      · split
        · exact sparseWfFrom_mono d (by omega) r hw.2
        · simp only [sparseWfFrom, Bool.and_eq_true, decide_eq_true_eq]
          subst_vars
          exact ⟨⟨hi, ‹_›⟩, hw.2⟩
      · simp only [sparseWfFrom, Bool.and_eq_true, decide_eq_true_eq]
        exact ⟨hw.1, ih (k + 1) (by omega) hw.2⟩

/-- Setting a key keeps the canonical form. -/
theorem sparseWf_set {β : Type} [DecidableEq β] (d : β) (l : List (Nat × β)) (i : Nat) (x : β) (hw : sparseWf d l = true) :
    sparseWf d (sparseSet d l i x) = true := sparseWfFrom_set d l 0 i x (Nat.zero_le i) hw

/-- Entries left out of a table keep the bound. -/
theorem sparseWfFrom_filter {β : Type} [DecidableEq β] (d : β) (p : Nat × β → Bool) (l : List (Nat × β)) (lo : Nat)
    (hw : sparseWfFrom d lo l = true) : sparseWfFrom d lo (l.filter p) = true := by
  induction l generalizing lo with
  | nil => rfl
  | cons e r ih =>
    obtain ⟨k, v⟩ := e
    simp only [sparseWfFrom, Bool.and_eq_true, decide_eq_true_eq] at hw
    simp only [List.filter_cons]
    split
    · simp only [sparseWfFrom, Bool.and_eq_true, decide_eq_true_eq]
      exact ⟨hw.1, ih (k + 1) hw.2⟩
    · exact sparseWfFrom_mono d (by omega) _ (ih (k + 1) hw.2)

/-- Entries left out of a table keep the canonical form. -/
theorem sparseWf_filter {β : Type} [DecidableEq β] (d : β) (p : Nat × β → Bool) (l : List (Nat × β)) (hw : sparseWf d l = true) :
    sparseWf d (l.filter p) = true := sparseWfFrom_filter d p l 0 hw

/-- Keys set one after the other keep the canonical form. -/
theorem sparseWf_foldl {α β : Type} [DecidableEq β] (d : β) (f : α → Nat × β) (xs : List α) (l : List (Nat × β))
    (hw : sparseWf d l = true) : sparseWf d (xs.foldl (fun l e => sparseSet d l (f e).1 (f e).2) l) = true := by
  induction xs generalizing l with
  | nil => exact hw
  | cons x r ih => exact ih _ (sparseWf_set d l _ _ hw)

/-- What a canonical table holds at a key below its bound: the default. -/
theorem sparseGet_below {β : Type} [DecidableEq β] (d : β) (l : List (Nat × β)) (lo i : Nat) (hi : i < lo)
    (hw : sparseWfFrom d lo l = true) : sparseGet d l i = d := by
  induction l generalizing lo with
  | nil => rfl
  | cons e r ih =>
    obtain ⟨k, v⟩ := e
    simp only [sparseWfFrom, Bool.and_eq_true, decide_eq_true_eq] at hw
    simp only [sparseGet, if_neg (by omega : ¬ i = k)]
    exact ih (k + 1) (by omega) hw.2

/-- A canonical table reads back what was set. -/
theorem sparseGet_set_same {β : Type} [DecidableEq β] (d : β) (l : List (Nat × β)) (i : Nat) (x : β) (hw : sparseWf d l = true) :
    sparseGet d (sparseSet d l i x) i = x := by
  unfold sparseWf at hw
  generalize 0 = lo at hw
  induction l generalizing lo with
  | nil => unfold sparseSet; split <;> simp_all [sparseGet]
  | cons e r ih =>
    obtain ⟨k, v⟩ := e
    simp only [sparseWfFrom, Bool.and_eq_true, decide_eq_true_eq] at hw
    unfold sparseSet
    split
    · split
      · rename_i h1 h2; rw [sparseGet, if_neg (by omega), h2]; exact sparseGet_below d r (k + 1) i (by omega) hw.2
      · simp [sparseGet]
    · split
      · split
        · rename_i h1 h2 h3; rw [h3]; exact sparseGet_below d r (k + 1) i (by omega) hw.2
        · simp [sparseGet]
      · simp only [sparseGet, if_neg ‹¬ i = k›]; exact ih (k + 1) hw.2

/-- Setting one key leaves every other key as it was. -/
theorem sparseGet_set_other {β : Type} [DecidableEq β] (d : β) (l : List (Nat × β)) (i j : Nat) (x : β) (h : j ≠ i) :
    sparseGet d (sparseSet d l i x) j = sparseGet d l j := by
  induction l with
  | nil => unfold sparseSet; split <;> simp_all [sparseGet]
  | cons e r ih =>
    obtain ⟨k, v⟩ := e
    unfold sparseSet
    split
    · split <;> simp [sparseGet, h]
    · split
      · subst_vars; split <;> simp [sparseGet, h]
      · simp only [sparseGet]; split
        · rfl
        · exact ih

/-! ## Cells -/

/-- The memory after reset has the canonical form. -/
theorem reset_cells_wf : Memory.wf State.reset.mem.cells = true := rfl

/-- A byte written keeps the canonical form. -/
theorem writeCell_wf (m : List Host.Cell) (pa : Nat) (v k : Byte) (hw : Memory.wf m = true) : Memory.wf (writeCell m pa v k) = true :=
  sparseWf_set memDefault m pa _ hw

/-- Bytes written keep the canonical form. -/
theorem writeCells_wf (bs : List (Nat × Byte × Byte)) (m : List Host.Cell) (hw : Memory.wf m = true) :
    Memory.wf (writeCells m bs) = true := by
  induction bs generalizing m with
  | nil => exact hw
  | cons e r ih => obtain ⟨pa, v, k⟩ := e; exact ih _ (writeCell_wf m pa v k hw)

/-- Writes that every die has applied keep the canonical form when they are folded in. -/
theorem settle_wf (fs : List Flight) (m : List Host.Cell) (hw : Memory.wf m = true) : Memory.wf (settle m fs).1 = true := by
  induction fs generalizing m with
  | nil => exact hw
  | cons f r ih =>
    unfold settle
    split
    · exact ih _ (writeCells_wf f.bytes m hw)
    · exact hw

/-- Mem.settled keeps the canonical form. -/
theorem Mem.settled_wf (m : Mem) (hw : Memory.wf m.cells = true) : Memory.wf m.settled.cells = true := settle_wf m.flight m.cells hw

/-- A store changes no cell that every view agrees on. -/
@[simp] theorem Mem.store_cells (m : Mem) (d : Nat) (bs : List (Nat × Byte × Byte)) : (m.store d bs).cells = m.cells := rfl

/-- A write of scratch changes no cell of memory. -/
@[simp] theorem Mem.writeScratch_cells (m : Mem) (f u o : Nat) (v k : Byte) : (m.writeScratch f u o v k).cells = m.cells := rfl

/-- A write applied at a die keeps the canonical form (R120). -/
theorem Mem.apply_wf (m : Mem) (d k : Nat) (hw : Memory.wf m.cells = true) : Memory.wf (m.apply d k).cells = true := by
  unfold Mem.apply
  split
  · exact hw
  · split
    · exact Mem.settled_wf _ hw
    · exact hw

/-- Pulling one die's view into another keeps the canonical form (R122). -/
theorem Mem.pull_wf (m : Mem) (d e : Nat) (hw : Memory.wf m.cells = true) : Memory.wf (m.pull d e).cells = true :=
  Mem.settled_wf _ hw

/-- Publishing a die's view keeps the canonical form (R122, R124). -/
theorem Mem.publish_wf (m : Mem) (d : Nat) (hw : Memory.wf m.cells = true) : Memory.wf (m.publish d).cells = true := by
  unfold Mem.publish
  generalize range 0 4 = l
  induction l generalizing m with
  | nil => exact hw
  | cons e r ih => exact ih _ (Mem.pull_wf m d e hw)

/-- A word placed for a test keeps the canonical form. -/
theorem placeWord_wf (m : Mem) (pa : Nat) (w : BitVec 32) (hw : Memory.wf m.cells = true) : Memory.wf (placeWord m pa w).cells = true :=
  sparseWf_foldl memDefault (fun e : Nat × Byte => e) _ _ hw

/-- A byte written whole reads back, where the memory is canonical. -/
theorem readCell_writeCell_same (m : List Host.Cell) (pa : Nat) (v : Byte) (hw : Memory.wf m = true) :
    readCell (writeCell m pa v 0xFF) pa = v := by
  have e : (0xFF#8 : Byte) = BitVec.allOnes 8 := rfl
  rw [readCell, writeCell, sparseGet_set_same memDefault m _ _ hw]
  show v &&& 0xFF#8 ||| readCell m pa &&& ~~~0xFF#8 = v
  rw [e, BitVec.and_allOnes, BitVec.not_allOnes, BitVec.and_zero, BitVec.or_zero]

/-- A byte written leaves every other byte. -/
theorem readCell_writeCell_other (m : List Host.Cell) (pa q : Nat) (v k : Byte) (h : q ≠ pa) :
    readCell (writeCell m pa v k) q = readCell m q := sparseGet_set_other memDefault m pa q _ h

end Sys2Proof.Machine
end

