-- ==== Sys2Proof/Laws/State.lean ====
section
/-! SUPPORT. What each update of the state leaves as it was and what it sets: one lemma per field per update, so that no proof unfolds a record
update. -/

set_option Elab.async false

namespace Sys2Proof.Machine

/-! ## Hart.writeS -/

@[simp] theorem Hart.writeS_pc (h : Hart) (n : Nat) (x : Word) : (h.writeS n x).pc = h.pc := by unfold Hart.writeS; split <;> rfl
@[simp] theorem Hart.writeS_v (h : Hart) (n : Nat) (x : Word) : (h.writeS n x).v = h.v := by unfold Hart.writeS; split <;> rfl
@[simp] theorem Hart.writeS_p (h : Hart) (n : Nat) (x : Word) : (h.writeS n x).p = h.p := by unfold Hart.writeS; split <;> rfl
@[simp] theorem Hart.writeS_k (h : Hart) (n : Nat) (x : Word) : (h.writeS n x).k = h.k := by unfold Hart.writeS; split <;> rfl
@[simp] theorem Hart.writeS_h (h : Hart) (n : Nat) (x : Word) : (h.writeS n x).h = h.h := by unfold Hart.writeS; split <;> rfl
@[simp] theorem Hart.writeS_winS (h : Hart) (n : Nat) (x : Word) : (h.writeS n x).winS = h.winS := by unfold Hart.writeS; split <;> rfl
@[simp] theorem Hart.writeS_winV (h : Hart) (n : Nat) (x : Word) : (h.writeS n x).winV = h.winV := by unfold Hart.writeS; split <;> rfl
@[simp] theorem Hart.writeS_csr (h : Hart) (n : Nat) (x : Word) : (h.writeS n x).csr = h.csr := by unfold Hart.writeS; split <;> rfl
@[simp] theorem Hart.writeS_exited (h : Hart) (n : Nat) (x : Word) : (h.writeS n x).exited = h.exited := by unfold Hart.writeS; split <;> rfl
@[simp] theorem Hart.writeS_held (h : Hart) (n : Nat) (x : Word) : (h.writeS n x).held = h.held := by unfold Hart.writeS; split <;> rfl
@[simp] theorem Hart.writeS_strip (h : Hart) (n : Nat) (x : Word) : (h.writeS n x).strip = h.strip := by unfold Hart.writeS; split <;> rfl
@[simp] theorem Hart.writeS_copies (h : Hart) (n : Nat) (x : Word) : (h.writeS n x).copies = h.copies := by unfold Hart.writeS; split <;> rfl
@[simp] theorem Hart.writeS_copyErrors (h : Hart) (n : Nat) (x : Word) : (h.writeS n x).copyErrors = h.copyErrors := by unfold Hart.writeS; split <;> rfl
@[simp] theorem Hart.writeS_nextCopy (h : Hart) (n : Nat) (x : Word) : (h.writeS n x).nextCopy = h.nextCopy := by unfold Hart.writeS; split <;> rfl
@[simp] theorem Hart.writeS_saved (h : Hart) (n : Nat) (x : Word) : (h.writeS n x).saved = h.saved := by unfold Hart.writeS; split <;> rfl
@[simp] theorem Hart.writeS_savedInTrap (h : Hart) (n : Nat) (x : Word) : (h.writeS n x).savedInTrap = h.savedInTrap := by unfold Hart.writeS; split <;> rfl
@[simp] theorem Hart.writeS_loop (h : Hart) (n : Nat) (x : Word) : (h.writeS n x).loop = h.loop := by unfold Hart.writeS; split <;> rfl
@[simp] theorem Hart.writeS_loff (h : Hart) (n : Nat) (x : Word) : (h.writeS n x).loff = h.loff := by unfold Hart.writeS; split <;> rfl
@[simp] theorem Hart.writeS_rateSet (h : Hart) (n : Nat) (x : Word) : (h.writeS n x).rateSet = h.rateSet := by unfold Hart.writeS; split <;> rfl
@[simp] theorem Hart.writeS_covered (h : Hart) (n : Nat) (x : Word) : (h.writeS n x).covered = h.covered := by unfold Hart.writeS; split <;> rfl
@[simp] theorem Hart.writeS_recheck (h : Hart) (n : Nat) (x : Word) : (h.writeS n x).recheck = h.recheck := by unfold Hart.writeS; split <;> rfl
@[simp] theorem Hart.writeS_disagreed (h : Hart) (n : Nat) (x : Word) : (h.writeS n x).disagreed = h.disagreed := by unfold Hart.writeS; split <;> rfl
@[simp] theorem Hart.writeS_trial (h : Hart) (n : Nat) (x : Word) : (h.writeS n x).trial = h.trial := by unfold Hart.writeS; split <;> rfl
@[simp] theorem Hart.writeS_stalled (h : Hart) (n : Nat) (x : Word) : (h.writeS n x).stalled = h.stalled := by unfold Hart.writeS; split <;> rfl
@[simp] theorem Hart.writeS_stallAddr (h : Hart) (n : Nat) (x : Word) : (h.writeS n x).stallAddr = h.stallAddr := by unfold Hart.writeS; split <;> rfl
@[simp] theorem Hart.writeS_outstanding (h : Hart) (n : Nat) (x : Word) : (h.writeS n x).outstanding = h.outstanding := by unfold Hart.writeS; split <;> rfl
@[simp] theorem Hart.writeS_history (h : Hart) (n : Nat) (x : Word) : (h.writeS n x).history = h.history := by unfold Hart.writeS; split <;> rfl
@[simp] theorem Hart.writeS_dueBits (h : Hart) (n : Nat) (x : Word) : (h.writeS n x).dueBits = h.dueBits := by unfold Hart.writeS; split <;> rfl
@[simp] theorem Hart.writeS_counted (h : Hart) (n : Nat) (x : Word) : (h.writeS n x).counted = h.counted := by unfold Hart.writeS; split <;> rfl
@[simp] theorem Hart.writeS_barWait (h : Hart) (n : Nat) (x : Word) : (h.writeS n x).barWait = h.barWait := by unfold Hart.writeS; split <;> rfl
@[simp] theorem Hart.writeS_leftIn (h : Hart) (n : Nat) (x : Word) : (h.writeS n x).leftIn = h.leftIn := by unfold Hart.writeS; split <;> rfl
@[simp] theorem Hart.writeS_upset (h : Hart) (n : Nat) (x : Word) : (h.writeS n x).upset = h.upset := by unfold Hart.writeS; split <;> rfl
@[simp] theorem Hart.writeS_stallWord (h : Hart) (n : Nat) (x : Word) : (h.writeS n x).stallWord = h.stallWord := by unfold Hart.writeS; split <;> rfl
@[simp] theorem Hart.writeS_stallNeed (h : Hart) (n : Nat) (x : Word) : (h.writeS n x).stallNeed = h.stallNeed := by unfold Hart.writeS; split <;> rfl
@[simp] theorem Hart.writeS_histLate (h : Hart) (n : Nat) (x : Word) : (h.writeS n x).histLate = h.histLate := by unfold Hart.writeS; split <;> rfl

/-! ## Hart.writeV -/

@[simp] theorem Hart.writeV_pc (h : Hart) (n : Nat) (x : VReg) : (h.writeV n x).pc = h.pc := rfl
@[simp] theorem Hart.writeV_s (h : Hart) (n : Nat) (x : VReg) : (h.writeV n x).s = h.s := rfl
@[simp] theorem Hart.writeV_p (h : Hart) (n : Nat) (x : VReg) : (h.writeV n x).p = h.p := rfl
@[simp] theorem Hart.writeV_k (h : Hart) (n : Nat) (x : VReg) : (h.writeV n x).k = h.k := rfl
@[simp] theorem Hart.writeV_h (h : Hart) (n : Nat) (x : VReg) : (h.writeV n x).h = h.h := rfl
@[simp] theorem Hart.writeV_winS (h : Hart) (n : Nat) (x : VReg) : (h.writeV n x).winS = h.winS := rfl
@[simp] theorem Hart.writeV_winV (h : Hart) (n : Nat) (x : VReg) : (h.writeV n x).winV = h.winV := rfl
@[simp] theorem Hart.writeV_csr (h : Hart) (n : Nat) (x : VReg) : (h.writeV n x).csr = h.csr := rfl
@[simp] theorem Hart.writeV_exited (h : Hart) (n : Nat) (x : VReg) : (h.writeV n x).exited = h.exited := rfl
@[simp] theorem Hart.writeV_held (h : Hart) (n : Nat) (x : VReg) : (h.writeV n x).held = h.held := rfl
@[simp] theorem Hart.writeV_strip (h : Hart) (n : Nat) (x : VReg) : (h.writeV n x).strip = h.strip := rfl
@[simp] theorem Hart.writeV_copies (h : Hart) (n : Nat) (x : VReg) : (h.writeV n x).copies = h.copies := rfl
@[simp] theorem Hart.writeV_copyErrors (h : Hart) (n : Nat) (x : VReg) : (h.writeV n x).copyErrors = h.copyErrors := rfl
@[simp] theorem Hart.writeV_nextCopy (h : Hart) (n : Nat) (x : VReg) : (h.writeV n x).nextCopy = h.nextCopy := rfl
@[simp] theorem Hart.writeV_saved (h : Hart) (n : Nat) (x : VReg) : (h.writeV n x).saved = h.saved := rfl
@[simp] theorem Hart.writeV_savedInTrap (h : Hart) (n : Nat) (x : VReg) : (h.writeV n x).savedInTrap = h.savedInTrap := rfl
@[simp] theorem Hart.writeV_loop (h : Hart) (n : Nat) (x : VReg) : (h.writeV n x).loop = h.loop := rfl
@[simp] theorem Hart.writeV_loff (h : Hart) (n : Nat) (x : VReg) : (h.writeV n x).loff = h.loff := rfl
@[simp] theorem Hart.writeV_rateSet (h : Hart) (n : Nat) (x : VReg) : (h.writeV n x).rateSet = h.rateSet := rfl
@[simp] theorem Hart.writeV_covered (h : Hart) (n : Nat) (x : VReg) : (h.writeV n x).covered = h.covered := rfl
@[simp] theorem Hart.writeV_recheck (h : Hart) (n : Nat) (x : VReg) : (h.writeV n x).recheck = h.recheck := rfl
@[simp] theorem Hart.writeV_disagreed (h : Hart) (n : Nat) (x : VReg) : (h.writeV n x).disagreed = h.disagreed := rfl
@[simp] theorem Hart.writeV_trial (h : Hart) (n : Nat) (x : VReg) : (h.writeV n x).trial = h.trial := rfl
@[simp] theorem Hart.writeV_stalled (h : Hart) (n : Nat) (x : VReg) : (h.writeV n x).stalled = h.stalled := rfl
@[simp] theorem Hart.writeV_stallAddr (h : Hart) (n : Nat) (x : VReg) : (h.writeV n x).stallAddr = h.stallAddr := rfl
@[simp] theorem Hart.writeV_outstanding (h : Hart) (n : Nat) (x : VReg) : (h.writeV n x).outstanding = h.outstanding := rfl
@[simp] theorem Hart.writeV_history (h : Hart) (n : Nat) (x : VReg) : (h.writeV n x).history = h.history := rfl
@[simp] theorem Hart.writeV_dueBits (h : Hart) (n : Nat) (x : VReg) : (h.writeV n x).dueBits = h.dueBits := rfl
@[simp] theorem Hart.writeV_counted (h : Hart) (n : Nat) (x : VReg) : (h.writeV n x).counted = h.counted := rfl
@[simp] theorem Hart.writeV_barWait (h : Hart) (n : Nat) (x : VReg) : (h.writeV n x).barWait = h.barWait := rfl
@[simp] theorem Hart.writeV_leftIn (h : Hart) (n : Nat) (x : VReg) : (h.writeV n x).leftIn = h.leftIn := rfl
@[simp] theorem Hart.writeV_upset (h : Hart) (n : Nat) (x : VReg) : (h.writeV n x).upset = h.upset := rfl
@[simp] theorem Hart.writeV_stallWord (h : Hart) (n : Nat) (x : VReg) : (h.writeV n x).stallWord = h.stallWord := rfl
@[simp] theorem Hart.writeV_stallNeed (h : Hart) (n : Nat) (x : VReg) : (h.writeV n x).stallNeed = h.stallNeed := rfl
@[simp] theorem Hart.writeV_histLate (h : Hart) (n : Nat) (x : VReg) : (h.writeV n x).histLate = h.histLate := rfl

/-! ## Hart.writeP -/

@[simp] theorem Hart.writeP_pc (h : Hart) (n : Nat) (x : PReg) : (h.writeP n x).pc = h.pc := rfl
@[simp] theorem Hart.writeP_s (h : Hart) (n : Nat) (x : PReg) : (h.writeP n x).s = h.s := rfl
@[simp] theorem Hart.writeP_v (h : Hart) (n : Nat) (x : PReg) : (h.writeP n x).v = h.v := rfl
@[simp] theorem Hart.writeP_k (h : Hart) (n : Nat) (x : PReg) : (h.writeP n x).k = h.k := rfl
@[simp] theorem Hart.writeP_h (h : Hart) (n : Nat) (x : PReg) : (h.writeP n x).h = h.h := rfl
@[simp] theorem Hart.writeP_winS (h : Hart) (n : Nat) (x : PReg) : (h.writeP n x).winS = h.winS := rfl
@[simp] theorem Hart.writeP_winV (h : Hart) (n : Nat) (x : PReg) : (h.writeP n x).winV = h.winV := rfl
@[simp] theorem Hart.writeP_csr (h : Hart) (n : Nat) (x : PReg) : (h.writeP n x).csr = h.csr := rfl
@[simp] theorem Hart.writeP_exited (h : Hart) (n : Nat) (x : PReg) : (h.writeP n x).exited = h.exited := rfl
@[simp] theorem Hart.writeP_held (h : Hart) (n : Nat) (x : PReg) : (h.writeP n x).held = h.held := rfl
@[simp] theorem Hart.writeP_strip (h : Hart) (n : Nat) (x : PReg) : (h.writeP n x).strip = h.strip := rfl
@[simp] theorem Hart.writeP_copies (h : Hart) (n : Nat) (x : PReg) : (h.writeP n x).copies = h.copies := rfl
@[simp] theorem Hart.writeP_copyErrors (h : Hart) (n : Nat) (x : PReg) : (h.writeP n x).copyErrors = h.copyErrors := rfl
@[simp] theorem Hart.writeP_nextCopy (h : Hart) (n : Nat) (x : PReg) : (h.writeP n x).nextCopy = h.nextCopy := rfl
@[simp] theorem Hart.writeP_saved (h : Hart) (n : Nat) (x : PReg) : (h.writeP n x).saved = h.saved := rfl
@[simp] theorem Hart.writeP_savedInTrap (h : Hart) (n : Nat) (x : PReg) : (h.writeP n x).savedInTrap = h.savedInTrap := rfl
@[simp] theorem Hart.writeP_loop (h : Hart) (n : Nat) (x : PReg) : (h.writeP n x).loop = h.loop := rfl
@[simp] theorem Hart.writeP_loff (h : Hart) (n : Nat) (x : PReg) : (h.writeP n x).loff = h.loff := rfl
@[simp] theorem Hart.writeP_rateSet (h : Hart) (n : Nat) (x : PReg) : (h.writeP n x).rateSet = h.rateSet := rfl
@[simp] theorem Hart.writeP_covered (h : Hart) (n : Nat) (x : PReg) : (h.writeP n x).covered = h.covered := rfl
@[simp] theorem Hart.writeP_recheck (h : Hart) (n : Nat) (x : PReg) : (h.writeP n x).recheck = h.recheck := rfl
@[simp] theorem Hart.writeP_disagreed (h : Hart) (n : Nat) (x : PReg) : (h.writeP n x).disagreed = h.disagreed := rfl
@[simp] theorem Hart.writeP_trial (h : Hart) (n : Nat) (x : PReg) : (h.writeP n x).trial = h.trial := rfl
@[simp] theorem Hart.writeP_stalled (h : Hart) (n : Nat) (x : PReg) : (h.writeP n x).stalled = h.stalled := rfl
@[simp] theorem Hart.writeP_stallAddr (h : Hart) (n : Nat) (x : PReg) : (h.writeP n x).stallAddr = h.stallAddr := rfl
@[simp] theorem Hart.writeP_outstanding (h : Hart) (n : Nat) (x : PReg) : (h.writeP n x).outstanding = h.outstanding := rfl
@[simp] theorem Hart.writeP_history (h : Hart) (n : Nat) (x : PReg) : (h.writeP n x).history = h.history := rfl
@[simp] theorem Hart.writeP_dueBits (h : Hart) (n : Nat) (x : PReg) : (h.writeP n x).dueBits = h.dueBits := rfl
@[simp] theorem Hart.writeP_counted (h : Hart) (n : Nat) (x : PReg) : (h.writeP n x).counted = h.counted := rfl
@[simp] theorem Hart.writeP_barWait (h : Hart) (n : Nat) (x : PReg) : (h.writeP n x).barWait = h.barWait := rfl
@[simp] theorem Hart.writeP_leftIn (h : Hart) (n : Nat) (x : PReg) : (h.writeP n x).leftIn = h.leftIn := rfl
@[simp] theorem Hart.writeP_upset (h : Hart) (n : Nat) (x : PReg) : (h.writeP n x).upset = h.upset := rfl
@[simp] theorem Hart.writeP_stallWord (h : Hart) (n : Nat) (x : PReg) : (h.writeP n x).stallWord = h.stallWord := rfl
@[simp] theorem Hart.writeP_stallNeed (h : Hart) (n : Nat) (x : PReg) : (h.writeP n x).stallNeed = h.stallNeed := rfl
@[simp] theorem Hart.writeP_histLate (h : Hart) (n : Nat) (x : PReg) : (h.writeP n x).histLate = h.histLate := rfl

/-! ## Hart.writeK -/

@[simp] theorem Hart.writeK_pc (h : Hart) (n : Nat) (x : KReg) : (h.writeK n x).pc = h.pc := rfl
@[simp] theorem Hart.writeK_s (h : Hart) (n : Nat) (x : KReg) : (h.writeK n x).s = h.s := rfl
@[simp] theorem Hart.writeK_v (h : Hart) (n : Nat) (x : KReg) : (h.writeK n x).v = h.v := rfl
@[simp] theorem Hart.writeK_p (h : Hart) (n : Nat) (x : KReg) : (h.writeK n x).p = h.p := rfl
@[simp] theorem Hart.writeK_h (h : Hart) (n : Nat) (x : KReg) : (h.writeK n x).h = h.h := rfl
@[simp] theorem Hart.writeK_winS (h : Hart) (n : Nat) (x : KReg) : (h.writeK n x).winS = h.winS := rfl
@[simp] theorem Hart.writeK_winV (h : Hart) (n : Nat) (x : KReg) : (h.writeK n x).winV = h.winV := rfl
@[simp] theorem Hart.writeK_csr (h : Hart) (n : Nat) (x : KReg) : (h.writeK n x).csr = h.csr := rfl
@[simp] theorem Hart.writeK_exited (h : Hart) (n : Nat) (x : KReg) : (h.writeK n x).exited = h.exited := rfl
@[simp] theorem Hart.writeK_held (h : Hart) (n : Nat) (x : KReg) : (h.writeK n x).held = h.held := rfl
@[simp] theorem Hart.writeK_strip (h : Hart) (n : Nat) (x : KReg) : (h.writeK n x).strip = h.strip := rfl
@[simp] theorem Hart.writeK_copies (h : Hart) (n : Nat) (x : KReg) : (h.writeK n x).copies = h.copies := rfl
@[simp] theorem Hart.writeK_copyErrors (h : Hart) (n : Nat) (x : KReg) : (h.writeK n x).copyErrors = h.copyErrors := rfl
@[simp] theorem Hart.writeK_nextCopy (h : Hart) (n : Nat) (x : KReg) : (h.writeK n x).nextCopy = h.nextCopy := rfl
@[simp] theorem Hart.writeK_saved (h : Hart) (n : Nat) (x : KReg) : (h.writeK n x).saved = h.saved := rfl
@[simp] theorem Hart.writeK_savedInTrap (h : Hart) (n : Nat) (x : KReg) : (h.writeK n x).savedInTrap = h.savedInTrap := rfl
@[simp] theorem Hart.writeK_loop (h : Hart) (n : Nat) (x : KReg) : (h.writeK n x).loop = h.loop := rfl
@[simp] theorem Hart.writeK_loff (h : Hart) (n : Nat) (x : KReg) : (h.writeK n x).loff = h.loff := rfl
@[simp] theorem Hart.writeK_rateSet (h : Hart) (n : Nat) (x : KReg) : (h.writeK n x).rateSet = h.rateSet := rfl
@[simp] theorem Hart.writeK_covered (h : Hart) (n : Nat) (x : KReg) : (h.writeK n x).covered = h.covered := rfl
@[simp] theorem Hart.writeK_recheck (h : Hart) (n : Nat) (x : KReg) : (h.writeK n x).recheck = h.recheck := rfl
@[simp] theorem Hart.writeK_disagreed (h : Hart) (n : Nat) (x : KReg) : (h.writeK n x).disagreed = h.disagreed := rfl
@[simp] theorem Hart.writeK_trial (h : Hart) (n : Nat) (x : KReg) : (h.writeK n x).trial = h.trial := rfl
@[simp] theorem Hart.writeK_stalled (h : Hart) (n : Nat) (x : KReg) : (h.writeK n x).stalled = h.stalled := rfl
@[simp] theorem Hart.writeK_stallAddr (h : Hart) (n : Nat) (x : KReg) : (h.writeK n x).stallAddr = h.stallAddr := rfl
@[simp] theorem Hart.writeK_outstanding (h : Hart) (n : Nat) (x : KReg) : (h.writeK n x).outstanding = h.outstanding := rfl
@[simp] theorem Hart.writeK_history (h : Hart) (n : Nat) (x : KReg) : (h.writeK n x).history = h.history := rfl
@[simp] theorem Hart.writeK_dueBits (h : Hart) (n : Nat) (x : KReg) : (h.writeK n x).dueBits = h.dueBits := rfl
@[simp] theorem Hart.writeK_counted (h : Hart) (n : Nat) (x : KReg) : (h.writeK n x).counted = h.counted := rfl
@[simp] theorem Hart.writeK_barWait (h : Hart) (n : Nat) (x : KReg) : (h.writeK n x).barWait = h.barWait := rfl
@[simp] theorem Hart.writeK_leftIn (h : Hart) (n : Nat) (x : KReg) : (h.writeK n x).leftIn = h.leftIn := rfl
@[simp] theorem Hart.writeK_upset (h : Hart) (n : Nat) (x : KReg) : (h.writeK n x).upset = h.upset := rfl
@[simp] theorem Hart.writeK_stallWord (h : Hart) (n : Nat) (x : KReg) : (h.writeK n x).stallWord = h.stallWord := rfl
@[simp] theorem Hart.writeK_stallNeed (h : Hart) (n : Nat) (x : KReg) : (h.writeK n x).stallNeed = h.stallNeed := rfl
@[simp] theorem Hart.writeK_histLate (h : Hart) (n : Nat) (x : KReg) : (h.writeK n x).histLate = h.histLate := rfl

/-! ## Hart.writeH -/

@[simp] theorem Hart.writeH_pc (h : Hart) (n : Nat) (x : HReg) : (h.writeH n x).pc = h.pc := rfl
@[simp] theorem Hart.writeH_s (h : Hart) (n : Nat) (x : HReg) : (h.writeH n x).s = h.s := rfl
@[simp] theorem Hart.writeH_v (h : Hart) (n : Nat) (x : HReg) : (h.writeH n x).v = h.v := rfl
@[simp] theorem Hart.writeH_p (h : Hart) (n : Nat) (x : HReg) : (h.writeH n x).p = h.p := rfl
@[simp] theorem Hart.writeH_k (h : Hart) (n : Nat) (x : HReg) : (h.writeH n x).k = h.k := rfl
@[simp] theorem Hart.writeH_winS (h : Hart) (n : Nat) (x : HReg) : (h.writeH n x).winS = h.winS := rfl
@[simp] theorem Hart.writeH_winV (h : Hart) (n : Nat) (x : HReg) : (h.writeH n x).winV = h.winV := rfl
@[simp] theorem Hart.writeH_csr (h : Hart) (n : Nat) (x : HReg) : (h.writeH n x).csr = h.csr := rfl
@[simp] theorem Hart.writeH_exited (h : Hart) (n : Nat) (x : HReg) : (h.writeH n x).exited = h.exited := rfl
@[simp] theorem Hart.writeH_held (h : Hart) (n : Nat) (x : HReg) : (h.writeH n x).held = h.held := rfl
@[simp] theorem Hart.writeH_strip (h : Hart) (n : Nat) (x : HReg) : (h.writeH n x).strip = h.strip := rfl
@[simp] theorem Hart.writeH_copies (h : Hart) (n : Nat) (x : HReg) : (h.writeH n x).copies = h.copies := rfl
@[simp] theorem Hart.writeH_copyErrors (h : Hart) (n : Nat) (x : HReg) : (h.writeH n x).copyErrors = h.copyErrors := rfl
@[simp] theorem Hart.writeH_nextCopy (h : Hart) (n : Nat) (x : HReg) : (h.writeH n x).nextCopy = h.nextCopy := rfl
@[simp] theorem Hart.writeH_saved (h : Hart) (n : Nat) (x : HReg) : (h.writeH n x).saved = h.saved := rfl
@[simp] theorem Hart.writeH_savedInTrap (h : Hart) (n : Nat) (x : HReg) : (h.writeH n x).savedInTrap = h.savedInTrap := rfl
@[simp] theorem Hart.writeH_loop (h : Hart) (n : Nat) (x : HReg) : (h.writeH n x).loop = h.loop := rfl
@[simp] theorem Hart.writeH_loff (h : Hart) (n : Nat) (x : HReg) : (h.writeH n x).loff = h.loff := rfl
@[simp] theorem Hart.writeH_rateSet (h : Hart) (n : Nat) (x : HReg) : (h.writeH n x).rateSet = h.rateSet := rfl
@[simp] theorem Hart.writeH_covered (h : Hart) (n : Nat) (x : HReg) : (h.writeH n x).covered = h.covered := rfl
@[simp] theorem Hart.writeH_recheck (h : Hart) (n : Nat) (x : HReg) : (h.writeH n x).recheck = h.recheck := rfl
@[simp] theorem Hart.writeH_disagreed (h : Hart) (n : Nat) (x : HReg) : (h.writeH n x).disagreed = h.disagreed := rfl
@[simp] theorem Hart.writeH_trial (h : Hart) (n : Nat) (x : HReg) : (h.writeH n x).trial = h.trial := rfl
@[simp] theorem Hart.writeH_stalled (h : Hart) (n : Nat) (x : HReg) : (h.writeH n x).stalled = h.stalled := rfl
@[simp] theorem Hart.writeH_stallAddr (h : Hart) (n : Nat) (x : HReg) : (h.writeH n x).stallAddr = h.stallAddr := rfl
@[simp] theorem Hart.writeH_outstanding (h : Hart) (n : Nat) (x : HReg) : (h.writeH n x).outstanding = h.outstanding := rfl
@[simp] theorem Hart.writeH_history (h : Hart) (n : Nat) (x : HReg) : (h.writeH n x).history = h.history := rfl
@[simp] theorem Hart.writeH_dueBits (h : Hart) (n : Nat) (x : HReg) : (h.writeH n x).dueBits = h.dueBits := rfl
@[simp] theorem Hart.writeH_counted (h : Hart) (n : Nat) (x : HReg) : (h.writeH n x).counted = h.counted := rfl
@[simp] theorem Hart.writeH_barWait (h : Hart) (n : Nat) (x : HReg) : (h.writeH n x).barWait = h.barWait := rfl
@[simp] theorem Hart.writeH_leftIn (h : Hart) (n : Nat) (x : HReg) : (h.writeH n x).leftIn = h.leftIn := rfl
@[simp] theorem Hart.writeH_upset (h : Hart) (n : Nat) (x : HReg) : (h.writeH n x).upset = h.upset := rfl
@[simp] theorem Hart.writeH_stallWord (h : Hart) (n : Nat) (x : HReg) : (h.writeH n x).stallWord = h.stallWord := rfl
@[simp] theorem Hart.writeH_stallNeed (h : Hart) (n : Nat) (x : HReg) : (h.writeH n x).stallNeed = h.stallNeed := rfl
@[simp] theorem Hart.writeH_histLate (h : Hart) (n : Nat) (x : HReg) : (h.writeH n x).histLate = h.histLate := rfl

/-! ## Hart.raise -/

@[simp] theorem Hart.raise_pc (h : Hart) (f : Word) : (h.raise f).pc = h.pc := rfl
@[simp] theorem Hart.raise_s (h : Hart) (f : Word) : (h.raise f).s = h.s := rfl
@[simp] theorem Hart.raise_v (h : Hart) (f : Word) : (h.raise f).v = h.v := rfl
@[simp] theorem Hart.raise_p (h : Hart) (f : Word) : (h.raise f).p = h.p := rfl
@[simp] theorem Hart.raise_k (h : Hart) (f : Word) : (h.raise f).k = h.k := rfl
@[simp] theorem Hart.raise_h (h : Hart) (f : Word) : (h.raise f).h = h.h := rfl
@[simp] theorem Hart.raise_winS (h : Hart) (f : Word) : (h.raise f).winS = h.winS := rfl
@[simp] theorem Hart.raise_winV (h : Hart) (f : Word) : (h.raise f).winV = h.winV := rfl
@[simp] theorem Hart.raise_exited (h : Hart) (f : Word) : (h.raise f).exited = h.exited := rfl
@[simp] theorem Hart.raise_held (h : Hart) (f : Word) : (h.raise f).held = h.held := rfl
@[simp] theorem Hart.raise_strip (h : Hart) (f : Word) : (h.raise f).strip = h.strip := rfl
@[simp] theorem Hart.raise_copies (h : Hart) (f : Word) : (h.raise f).copies = h.copies := rfl
@[simp] theorem Hart.raise_copyErrors (h : Hart) (f : Word) : (h.raise f).copyErrors = h.copyErrors := rfl
@[simp] theorem Hart.raise_nextCopy (h : Hart) (f : Word) : (h.raise f).nextCopy = h.nextCopy := rfl
@[simp] theorem Hart.raise_saved (h : Hart) (f : Word) : (h.raise f).saved = h.saved := rfl
@[simp] theorem Hart.raise_savedInTrap (h : Hart) (f : Word) : (h.raise f).savedInTrap = h.savedInTrap := rfl
@[simp] theorem Hart.raise_loop (h : Hart) (f : Word) : (h.raise f).loop = h.loop := rfl
@[simp] theorem Hart.raise_loff (h : Hart) (f : Word) : (h.raise f).loff = h.loff := rfl
@[simp] theorem Hart.raise_rateSet (h : Hart) (f : Word) : (h.raise f).rateSet = h.rateSet := rfl
@[simp] theorem Hart.raise_covered (h : Hart) (f : Word) : (h.raise f).covered = h.covered := rfl
@[simp] theorem Hart.raise_recheck (h : Hart) (f : Word) : (h.raise f).recheck = h.recheck := rfl
@[simp] theorem Hart.raise_disagreed (h : Hart) (f : Word) : (h.raise f).disagreed = h.disagreed := rfl
@[simp] theorem Hart.raise_trial (h : Hart) (f : Word) : (h.raise f).trial = h.trial := rfl
@[simp] theorem Hart.raise_stalled (h : Hart) (f : Word) : (h.raise f).stalled = h.stalled := rfl
@[simp] theorem Hart.raise_stallAddr (h : Hart) (f : Word) : (h.raise f).stallAddr = h.stallAddr := rfl
@[simp] theorem Hart.raise_outstanding (h : Hart) (f : Word) : (h.raise f).outstanding = h.outstanding := rfl
@[simp] theorem Hart.raise_history (h : Hart) (f : Word) : (h.raise f).history = h.history := rfl
@[simp] theorem Hart.raise_dueBits (h : Hart) (f : Word) : (h.raise f).dueBits = h.dueBits := rfl
@[simp] theorem Hart.raise_counted (h : Hart) (f : Word) : (h.raise f).counted = h.counted := rfl
@[simp] theorem Hart.raise_barWait (h : Hart) (f : Word) : (h.raise f).barWait = h.barWait := rfl
@[simp] theorem Hart.raise_leftIn (h : Hart) (f : Word) : (h.raise f).leftIn = h.leftIn := rfl
@[simp] theorem Hart.raise_upset (h : Hart) (f : Word) : (h.raise f).upset = h.upset := rfl
@[simp] theorem Hart.raise_stallWord (h : Hart) (f : Word) : (h.raise f).stallWord = h.stallWord := rfl
@[simp] theorem Hart.raise_stallNeed (h : Hart) (f : Word) : (h.raise f).stallNeed = h.stallNeed := rfl
@[simp] theorem Hart.raise_histLate (h : Hart) (f : Word) : (h.raise f).histLate = h.histLate := rfl

/-! ## Hart.withSaved -/

@[simp] theorem Hart.withSaved_pc (h : Hart) (x : Option Saved) : (h.withSaved x).pc = h.pc := by unfold Hart.withSaved; split <;> rfl
@[simp] theorem Hart.withSaved_s (h : Hart) (x : Option Saved) : (h.withSaved x).s = h.s := by unfold Hart.withSaved; split <;> rfl
@[simp] theorem Hart.withSaved_v (h : Hart) (x : Option Saved) : (h.withSaved x).v = h.v := by unfold Hart.withSaved; split <;> rfl
@[simp] theorem Hart.withSaved_p (h : Hart) (x : Option Saved) : (h.withSaved x).p = h.p := by unfold Hart.withSaved; split <;> rfl
@[simp] theorem Hart.withSaved_k (h : Hart) (x : Option Saved) : (h.withSaved x).k = h.k := by unfold Hart.withSaved; split <;> rfl
@[simp] theorem Hart.withSaved_h (h : Hart) (x : Option Saved) : (h.withSaved x).h = h.h := by unfold Hart.withSaved; split <;> rfl
@[simp] theorem Hart.withSaved_winS (h : Hart) (x : Option Saved) : (h.withSaved x).winS = h.winS := by unfold Hart.withSaved; split <;> rfl
@[simp] theorem Hart.withSaved_winV (h : Hart) (x : Option Saved) : (h.withSaved x).winV = h.winV := by unfold Hart.withSaved; split <;> rfl
@[simp] theorem Hart.withSaved_csr (h : Hart) (x : Option Saved) : (h.withSaved x).csr = h.csr := by unfold Hart.withSaved; split <;> rfl
@[simp] theorem Hart.withSaved_exited (h : Hart) (x : Option Saved) : (h.withSaved x).exited = h.exited := by unfold Hart.withSaved; split <;> rfl
@[simp] theorem Hart.withSaved_held (h : Hart) (x : Option Saved) : (h.withSaved x).held = h.held := by unfold Hart.withSaved; split <;> rfl
@[simp] theorem Hart.withSaved_strip (h : Hart) (x : Option Saved) : (h.withSaved x).strip = h.strip := by unfold Hart.withSaved; split <;> rfl
@[simp] theorem Hart.withSaved_copies (h : Hart) (x : Option Saved) : (h.withSaved x).copies = h.copies := by unfold Hart.withSaved; split <;> rfl
@[simp] theorem Hart.withSaved_copyErrors (h : Hart) (x : Option Saved) : (h.withSaved x).copyErrors = h.copyErrors := by unfold Hart.withSaved; split <;> rfl
@[simp] theorem Hart.withSaved_nextCopy (h : Hart) (x : Option Saved) : (h.withSaved x).nextCopy = h.nextCopy := by unfold Hart.withSaved; split <;> rfl
@[simp] theorem Hart.withSaved_loop (h : Hart) (x : Option Saved) : (h.withSaved x).loop = h.loop := by unfold Hart.withSaved; split <;> rfl
@[simp] theorem Hart.withSaved_loff (h : Hart) (x : Option Saved) : (h.withSaved x).loff = h.loff := by unfold Hart.withSaved; split <;> rfl
@[simp] theorem Hart.withSaved_rateSet (h : Hart) (x : Option Saved) : (h.withSaved x).rateSet = h.rateSet := by unfold Hart.withSaved; split <;> rfl
@[simp] theorem Hart.withSaved_covered (h : Hart) (x : Option Saved) : (h.withSaved x).covered = h.covered := by unfold Hart.withSaved; split <;> rfl
@[simp] theorem Hart.withSaved_recheck (h : Hart) (x : Option Saved) : (h.withSaved x).recheck = h.recheck := by unfold Hart.withSaved; split <;> rfl
@[simp] theorem Hart.withSaved_disagreed (h : Hart) (x : Option Saved) : (h.withSaved x).disagreed = h.disagreed := by unfold Hart.withSaved; split <;> rfl
@[simp] theorem Hart.withSaved_trial (h : Hart) (x : Option Saved) : (h.withSaved x).trial = h.trial := by unfold Hart.withSaved; split <;> rfl
@[simp] theorem Hart.withSaved_stalled (h : Hart) (x : Option Saved) : (h.withSaved x).stalled = h.stalled := by unfold Hart.withSaved; split <;> rfl
@[simp] theorem Hart.withSaved_stallAddr (h : Hart) (x : Option Saved) : (h.withSaved x).stallAddr = h.stallAddr := by unfold Hart.withSaved; split <;> rfl
@[simp] theorem Hart.withSaved_outstanding (h : Hart) (x : Option Saved) : (h.withSaved x).outstanding = h.outstanding := by unfold Hart.withSaved; split <;> rfl
@[simp] theorem Hart.withSaved_history (h : Hart) (x : Option Saved) : (h.withSaved x).history = h.history := by unfold Hart.withSaved; split <;> rfl
@[simp] theorem Hart.withSaved_dueBits (h : Hart) (x : Option Saved) : (h.withSaved x).dueBits = h.dueBits := by unfold Hart.withSaved; split <;> rfl
@[simp] theorem Hart.withSaved_counted (h : Hart) (x : Option Saved) : (h.withSaved x).counted = h.counted := by unfold Hart.withSaved; split <;> rfl
@[simp] theorem Hart.withSaved_barWait (h : Hart) (x : Option Saved) : (h.withSaved x).barWait = h.barWait := by unfold Hart.withSaved; split <;> rfl
@[simp] theorem Hart.withSaved_leftIn (h : Hart) (x : Option Saved) : (h.withSaved x).leftIn = h.leftIn := by unfold Hart.withSaved; split <;> rfl
@[simp] theorem Hart.withSaved_upset (h : Hart) (x : Option Saved) : (h.withSaved x).upset = h.upset := by unfold Hart.withSaved; split <;> rfl
@[simp] theorem Hart.withSaved_stallWord (h : Hart) (x : Option Saved) : (h.withSaved x).stallWord = h.stallWord := by unfold Hart.withSaved; split <;> rfl
@[simp] theorem Hart.withSaved_stallNeed (h : Hart) (x : Option Saved) : (h.withSaved x).stallNeed = h.stallNeed := by unfold Hart.withSaved; split <;> rfl
@[simp] theorem Hart.withSaved_histLate (h : Hart) (x : Option Saved) : (h.withSaved x).histLate = h.histLate := by unfold Hart.withSaved; split <;> rfl

/-! ## Flags -/

@[simp] theorem Hart.raise_csr_frm (h : Hart) (f : Word) : (h.raise f).csr.frm = h.csr.frm := rfl
@[simp] theorem Hart.raise_csr_srseed (h : Hart) (f : Word) : (h.raise f).csr.srseed = h.csr.srseed := rfl
@[simp] theorem Hart.raise_csr_hctl (h : Hart) (f : Word) : (h.raise f).csr.hctl = h.csr.hctl := rfl
@[simp] theorem Hart.raise_csr_skm (h : Hart) (f : Word) : (h.raise f).csr.skm = h.csr.skm := rfl
@[simp] theorem Hart.raise_csr_vl (h : Hart) (f : Word) : (h.raise f).csr.vl = h.csr.vl := rfl
@[simp] theorem Hart.raise_csr_vtype (h : Hart) (f : Word) : (h.raise f).csr.vtype = h.csr.vtype := rfl
@[simp] theorem Hart.raise_csr_rc (h : Hart) (f : Word) : (h.raise f).csr.rc = h.csr.rc := rfl
@[simp] theorem Hart.raise_csr_vstart (h : Hart) (f : Word) : (h.raise f).csr.vstart = h.csr.vstart := rfl
@[simp] theorem Hart.raise_csr_gwbase (h : Hart) (f : Word) : (h.raise f).csr.gwbase = h.csr.gwbase := rfl
@[simp] theorem Hart.raise_csr_nfmt (h : Hart) (f : Word) : (h.raise f).csr.nfmt = h.csr.nfmt := rfl
@[simp] theorem Hart.raise_csr_xpc (h : Hart) (f : Word) : (h.raise f).csr.xpc = h.csr.xpc := rfl
@[simp] theorem Hart.raise_csr_xcause (h : Hart) (f : Word) : (h.raise f).csr.xcause = h.csr.xcause := rfl
@[simp] theorem Hart.raise_csr_xaddr (h : Hart) (f : Word) : (h.raise f).csr.xaddr = h.csr.xaddr := rfl
@[simp] theorem Hart.raise_csr_xinfo (h : Hart) (f : Word) : (h.raise f).csr.xinfo = h.csr.xinfo := rfl
@[simp] theorem Hart.raise_csr_xvec (h : Hart) (f : Word) : (h.raise f).csr.xvec = h.csr.xvec := rfl
@[simp] theorem Hart.raise_csr_xscratch (h : Hart) (f : Word) : (h.raise f).csr.xscratch = h.csr.xscratch := rfl
@[simp] theorem Hart.raise_csr_lrecn (h : Hart) (f : Word) : (h.raise f).csr.lrecn = h.csr.lrecn := rfl
@[simp] theorem Hart.raise_csr_lstat (h : Hart) (f : Word) : (h.raise f).csr.lstat = h.csr.lstat := rfl
@[simp] theorem Hart.raise_csr_lidx (h : Hart) (f : Word) : (h.raise f).csr.lidx = h.csr.lidx := rfl
@[simp] theorem Hart.raise_csr_proglim (h : Hart) (f : Word) : (h.raise f).csr.proglim = h.csr.proglim := rfl
@[simp] theorem Hart.raise_csr_waitrsn (h : Hart) (f : Word) : (h.raise f).csr.waitrsn = h.csr.waitrsn := rfl
@[simp] theorem Hart.raise_csr_trlo (h : Hart) (f : Word) : (h.raise f).csr.trlo = h.csr.trlo := rfl
@[simp] theorem Hart.raise_csr_trhi (h : Hart) (f : Word) : (h.raise f).csr.trhi = h.csr.trhi := rfl
@[simp] theorem Hart.raise_csr_trdly (h : Hart) (f : Word) : (h.raise f).csr.trdly = h.csr.trdly := rfl
@[simp] theorem Hart.raise_csr_trctl (h : Hart) (f : Word) : (h.raise f).csr.trctl = h.csr.trctl := rfl
@[simp] theorem Hart.raise_csr_trbase (h : Hart) (f : Word) : (h.raise f).csr.trbase = h.csr.trbase := rfl
@[simp] theorem Hart.raise_csr_trexp (h : Hart) (f : Word) : (h.raise f).csr.trexp = h.csr.trexp := rfl
@[simp] theorem Hart.raise_csr_cycle (h : Hart) (f : Word) : (h.raise f).csr.cycle = h.csr.cycle := rfl
@[simp] theorem Hart.raise_csr_instret (h : Hart) (f : Word) : (h.raise f).csr.instret = h.csr.instret := rfl
@[simp] theorem Hart.raise_csr_energy (h : Hart) (f : Word) : (h.raise f).csr.energy = h.csr.energy := rfl
@[simp] theorem Hart.raise_csr_fflags (h : Hart) (f : Word) : (h.raise f).csr.fflags = h.csr.fflags ||| f := rfl

/-! ## tick -/

@[simp] theorem tick_onA (s : State) : (tick s).onA = s.onA := rfl
@[simp] theorem tick_me (s : State) : (tick s).me = s.me := rfl
@[simp] theorem tick_peer (s : State) : (tick s).peer = s.peer := rfl
@[simp] theorem tick_tan (s : State) : (tick s).tan = s.tan := rfl
@[simp] theorem tick_away (s : State) : (tick s).away = s.away := rfl
@[simp] theorem tick_mem (s : State) : (tick s).mem = s.mem := rfl
@[simp] theorem tick_paging (s : State) : (tick s).paging = s.paging := rfl
@[simp] theorem tick_ctxs (s : State) : (tick s).ctxs = s.ctxs := rfl
@[simp] theorem tick_queues (s : State) : (tick s).queues = s.queues := rfl
@[simp] theorem tick_kernels (s : State) : (tick s).kernels = s.kernels := rfl
@[simp] theorem tick_groups (s : State) : (tick s).groups = s.groups := rfl
@[simp] theorem tick_links (s : State) : (tick s).links = s.links := rfl
@[simp] theorem tick_tt (s : State) : (tick s).tt = s.tt := rfl
@[simp] theorem tick_energy (s : State) : (tick s).energy = s.energy := rfl
@[simp] theorem tick_rel (s : State) : (tick s).rel = s.rel := rfl
@[simp] theorem tick_dbg (s : State) : (tick s).dbg = s.dbg := rfl
@[simp] theorem tick_ready0 (s : State) : (tick s).ready0 = s.ready0 := rfl
@[simp] theorem tick_ready1 (s : State) : (tick s).ready1 = s.ready1 := rfl
@[simp] theorem tick_faults (s : State) : (tick s).faults = s.faults := rfl
@[simp] theorem tick_areaWrites (s : State) : (tick s).areaWrites = s.areaWrites := rfl
@[simp] theorem tick_inputs (s : State) : (tick s).inputs = s.inputs := rfl
@[simp] theorem tick_reports (s : State) : (tick s).reports = s.reports := rfl
@[simp] theorem tick_ir (s : State) : (tick s).ir = s.ir := rfl
@[simp] theorem tick_notes (s : State) : (tick s).notes = s.notes := rfl
@[simp] theorem tick_quantum (s : State) : (tick s).quantum = s.quantum := rfl
@[simp] theorem tick_nextUid (s : State) : (tick s).nextUid = s.nextUid := rfl
@[simp] theorem tick_lastServed (s : State) : (tick s).lastServed = s.lastServed := rfl
@[simp] theorem tick_live (s : State) : (tick s).live = s.live := rfl

@[simp] theorem tick_now (s : State) : (tick s).now = s.now + 1 + Config.clocks s.free := rfl
@[simp] theorem tick_free (s : State) : (tick s).free = s.free + 1 := rfl

/-! ## spendTurn -/

@[simp] theorem spendTurn_onA (s : State) : (spendTurn s).onA = s.onA := rfl
@[simp] theorem spendTurn_me (s : State) : (spendTurn s).me = s.me := rfl
@[simp] theorem spendTurn_peer (s : State) : (spendTurn s).peer = s.peer := rfl
@[simp] theorem spendTurn_tan (s : State) : (spendTurn s).tan = s.tan := rfl
@[simp] theorem spendTurn_away (s : State) : (spendTurn s).away = s.away := rfl
@[simp] theorem spendTurn_mem (s : State) : (spendTurn s).mem = s.mem := rfl
@[simp] theorem spendTurn_paging (s : State) : (spendTurn s).paging = s.paging := rfl
@[simp] theorem spendTurn_ctxs (s : State) : (spendTurn s).ctxs = s.ctxs := rfl
@[simp] theorem spendTurn_queues (s : State) : (spendTurn s).queues = s.queues := rfl
@[simp] theorem spendTurn_kernels (s : State) : (spendTurn s).kernels = s.kernels := rfl
@[simp] theorem spendTurn_groups (s : State) : (spendTurn s).groups = s.groups := rfl
@[simp] theorem spendTurn_links (s : State) : (spendTurn s).links = s.links := rfl
@[simp] theorem spendTurn_tt (s : State) : (spendTurn s).tt = s.tt := rfl
@[simp] theorem spendTurn_energy (s : State) : (spendTurn s).energy = s.energy := rfl
@[simp] theorem spendTurn_rel (s : State) : (spendTurn s).rel = s.rel := rfl
@[simp] theorem spendTurn_dbg (s : State) : (spendTurn s).dbg = s.dbg := rfl
@[simp] theorem spendTurn_ready0 (s : State) : (spendTurn s).ready0 = s.ready0 := rfl
@[simp] theorem spendTurn_ready1 (s : State) : (spendTurn s).ready1 = s.ready1 := rfl
@[simp] theorem spendTurn_faults (s : State) : (spendTurn s).faults = s.faults := rfl
@[simp] theorem spendTurn_areaWrites (s : State) : (spendTurn s).areaWrites = s.areaWrites := rfl
@[simp] theorem spendTurn_inputs (s : State) : (spendTurn s).inputs = s.inputs := rfl
@[simp] theorem spendTurn_reports (s : State) : (spendTurn s).reports = s.reports := rfl
@[simp] theorem spendTurn_now (s : State) : (spendTurn s).now = s.now := rfl
@[simp] theorem spendTurn_free (s : State) : (spendTurn s).free = s.free := rfl
@[simp] theorem spendTurn_ir (s : State) : (spendTurn s).ir = s.ir := rfl
@[simp] theorem spendTurn_notes (s : State) : (spendTurn s).notes = s.notes := rfl
@[simp] theorem spendTurn_nextUid (s : State) : (spendTurn s).nextUid = s.nextUid := rfl
@[simp] theorem spendTurn_lastServed (s : State) : (spendTurn s).lastServed = s.lastServed := rfl
@[simp] theorem spendTurn_live (s : State) : (spendTurn s).live = s.live := rfl

/-! ## beforeFetch -/

@[simp] theorem beforeFetch_onA (s : State) : (beforeFetch s).onA = s.onA := rfl
/-- The bits that a hart's copies set change its predicates and nothing else (R95). -/
theorem setMaskBits_eq (bs : List (Nat × Nat)) (h : Hart) : ∃ p, setMaskBits bs h = { h with p := p } := by
  induction bs generalizing h with
  | nil => exact ⟨h.p, rfl⟩
  | cons b bs ih =>
    obtain ⟨p, hp⟩ := ih (h.writeP b.1 (setField (h.readP b.1) b.2 1 1))
    exact ⟨p, by rw [show setMaskBits (b :: bs) h = setMaskBits bs (h.writeP b.1 (setField (h.readP b.1) b.2 1 1)) from rfl, hp]; rfl⟩

/-- Before a fetch only the predicates of the hart in focus may change, by the bits due to them (R95). -/
theorem beforeFetch_me_eq (s : State) : ∃ p d, (beforeFetch s).me = { s.me with p := p, dueBits := d } := by
  obtain ⟨p, hp⟩ := setMaskBits_eq s.me.dueBits s.me
  unfold beforeFetch
  dsimp only
  split
  · exact ⟨s.me.p, s.me.dueBits, rfl⟩
  · exact ⟨p, [], by rw [hp]⟩

/-- Where no bit is due, nothing of the hart changes before a fetch. -/
theorem beforeFetch_me (s : State) (h : s.me.dueBits = []) : (beforeFetch s).me = s.me := by simp [beforeFetch, h]

@[simp] theorem beforeFetch_me_pc (s : State) : (beforeFetch s).me.pc = s.me.pc := by obtain ⟨p, d, h⟩ := beforeFetch_me_eq s; rw [h]
@[simp] theorem beforeFetch_me_s (s : State) : (beforeFetch s).me.s = s.me.s := by obtain ⟨p, d, h⟩ := beforeFetch_me_eq s; rw [h]
@[simp] theorem beforeFetch_me_v (s : State) : (beforeFetch s).me.v = s.me.v := by obtain ⟨p, d, h⟩ := beforeFetch_me_eq s; rw [h]
@[simp] theorem beforeFetch_me_k (s : State) : (beforeFetch s).me.k = s.me.k := by obtain ⟨p, d, h⟩ := beforeFetch_me_eq s; rw [h]
@[simp] theorem beforeFetch_me_h (s : State) : (beforeFetch s).me.h = s.me.h := by obtain ⟨p, d, h⟩ := beforeFetch_me_eq s; rw [h]
@[simp] theorem beforeFetch_me_winS (s : State) : (beforeFetch s).me.winS = s.me.winS := by obtain ⟨p, d, h⟩ := beforeFetch_me_eq s; rw [h]
@[simp] theorem beforeFetch_me_winV (s : State) : (beforeFetch s).me.winV = s.me.winV := by obtain ⟨p, d, h⟩ := beforeFetch_me_eq s; rw [h]
@[simp] theorem beforeFetch_me_csr (s : State) : (beforeFetch s).me.csr = s.me.csr := by obtain ⟨p, d, h⟩ := beforeFetch_me_eq s; rw [h]
@[simp] theorem beforeFetch_me_exited (s : State) : (beforeFetch s).me.exited = s.me.exited := by obtain ⟨p, d, h⟩ := beforeFetch_me_eq s; rw [h]
@[simp] theorem beforeFetch_me_held (s : State) : (beforeFetch s).me.held = s.me.held := by obtain ⟨p, d, h⟩ := beforeFetch_me_eq s; rw [h]
@[simp] theorem beforeFetch_me_strip (s : State) : (beforeFetch s).me.strip = s.me.strip := by obtain ⟨p, d, h⟩ := beforeFetch_me_eq s; rw [h]
@[simp] theorem beforeFetch_me_copies (s : State) : (beforeFetch s).me.copies = s.me.copies := by obtain ⟨p, d, h⟩ := beforeFetch_me_eq s; rw [h]
@[simp] theorem beforeFetch_me_copyErrors (s : State) : (beforeFetch s).me.copyErrors = s.me.copyErrors := by obtain ⟨p, d, h⟩ := beforeFetch_me_eq s; rw [h]
@[simp] theorem beforeFetch_me_nextCopy (s : State) : (beforeFetch s).me.nextCopy = s.me.nextCopy := by obtain ⟨p, d, h⟩ := beforeFetch_me_eq s; rw [h]
@[simp] theorem beforeFetch_me_saved (s : State) : (beforeFetch s).me.saved = s.me.saved := by obtain ⟨p, d, h⟩ := beforeFetch_me_eq s; rw [h]
@[simp] theorem beforeFetch_me_savedInTrap (s : State) : (beforeFetch s).me.savedInTrap = s.me.savedInTrap := by obtain ⟨p, d, h⟩ := beforeFetch_me_eq s; rw [h]
@[simp] theorem beforeFetch_me_loop (s : State) : (beforeFetch s).me.loop = s.me.loop := by obtain ⟨p, d, h⟩ := beforeFetch_me_eq s; rw [h]
@[simp] theorem beforeFetch_me_loff (s : State) : (beforeFetch s).me.loff = s.me.loff := by obtain ⟨p, d, h⟩ := beforeFetch_me_eq s; rw [h]
@[simp] theorem beforeFetch_me_rateSet (s : State) : (beforeFetch s).me.rateSet = s.me.rateSet := by obtain ⟨p, d, h⟩ := beforeFetch_me_eq s; rw [h]
@[simp] theorem beforeFetch_me_covered (s : State) : (beforeFetch s).me.covered = s.me.covered := by obtain ⟨p, d, h⟩ := beforeFetch_me_eq s; rw [h]
@[simp] theorem beforeFetch_me_recheck (s : State) : (beforeFetch s).me.recheck = s.me.recheck := by obtain ⟨p, d, h⟩ := beforeFetch_me_eq s; rw [h]
@[simp] theorem beforeFetch_me_counted (s : State) : (beforeFetch s).me.counted = s.me.counted := by obtain ⟨p, d, h⟩ := beforeFetch_me_eq s; rw [h]
@[simp] theorem beforeFetch_me_disagreed (s : State) : (beforeFetch s).me.disagreed = s.me.disagreed := by obtain ⟨p, d, h⟩ := beforeFetch_me_eq s; rw [h]
@[simp] theorem beforeFetch_me_trial (s : State) : (beforeFetch s).me.trial = s.me.trial := by obtain ⟨p, d, h⟩ := beforeFetch_me_eq s; rw [h]
@[simp] theorem beforeFetch_me_stalled (s : State) : (beforeFetch s).me.stalled = s.me.stalled := by obtain ⟨p, d, h⟩ := beforeFetch_me_eq s; rw [h]
@[simp] theorem beforeFetch_me_stallAddr (s : State) : (beforeFetch s).me.stallAddr = s.me.stallAddr := by obtain ⟨p, d, h⟩ := beforeFetch_me_eq s; rw [h]
@[simp] theorem beforeFetch_me_barWait (s : State) : (beforeFetch s).me.barWait = s.me.barWait := by obtain ⟨p, d, h⟩ := beforeFetch_me_eq s; rw [h]
@[simp] theorem beforeFetch_me_leftIn (s : State) : (beforeFetch s).me.leftIn = s.me.leftIn := by obtain ⟨p, d, h⟩ := beforeFetch_me_eq s; rw [h]
@[simp] theorem beforeFetch_me_outstanding (s : State) : (beforeFetch s).me.outstanding = s.me.outstanding := by obtain ⟨p, d, h⟩ := beforeFetch_me_eq s; rw [h]
@[simp] theorem beforeFetch_me_upset (s : State) : (beforeFetch s).me.upset = s.me.upset := by obtain ⟨p, d, h⟩ := beforeFetch_me_eq s; rw [h]
@[simp] theorem beforeFetch_me_stallWord (s : State) : (beforeFetch s).me.stallWord = s.me.stallWord := by obtain ⟨p, d, h⟩ := beforeFetch_me_eq s; rw [h]
@[simp] theorem beforeFetch_me_stallNeed (s : State) : (beforeFetch s).me.stallNeed = s.me.stallNeed := by obtain ⟨p, d, h⟩ := beforeFetch_me_eq s; rw [h]
@[simp] theorem beforeFetch_me_histLate (s : State) : (beforeFetch s).me.histLate = s.me.histLate := by obtain ⟨p, d, h⟩ := beforeFetch_me_eq s; rw [h]
@[simp] theorem beforeFetch_me_history (s : State) : (beforeFetch s).me.history = s.me.history := by obtain ⟨p, d, h⟩ := beforeFetch_me_eq s; rw [h]
@[simp] theorem beforeFetch_peer (s : State) : (beforeFetch s).peer = s.peer := rfl
@[simp] theorem beforeFetch_tan (s : State) : (beforeFetch s).tan = s.tan := rfl
@[simp] theorem beforeFetch_away (s : State) : (beforeFetch s).away = s.away := rfl
@[simp] theorem beforeFetch_mem (s : State) : (beforeFetch s).mem = s.mem := rfl
@[simp] theorem beforeFetch_paging (s : State) : (beforeFetch s).paging = s.paging := rfl
@[simp] theorem beforeFetch_ctxs (s : State) : (beforeFetch s).ctxs = s.ctxs := rfl
@[simp] theorem beforeFetch_queues (s : State) : (beforeFetch s).queues = s.queues := rfl
@[simp] theorem beforeFetch_kernels (s : State) : (beforeFetch s).kernels = s.kernels := rfl
@[simp] theorem beforeFetch_groups (s : State) : (beforeFetch s).groups = s.groups := rfl
@[simp] theorem beforeFetch_links (s : State) : (beforeFetch s).links = s.links := rfl
@[simp] theorem beforeFetch_tt (s : State) : (beforeFetch s).tt = s.tt := rfl
@[simp] theorem beforeFetch_energy (s : State) : (beforeFetch s).energy = s.energy := rfl
@[simp] theorem beforeFetch_rel (s : State) : (beforeFetch s).rel = s.rel := rfl
@[simp] theorem beforeFetch_dbg (s : State) : (beforeFetch s).dbg = s.dbg := rfl
@[simp] theorem beforeFetch_ready0 (s : State) : (beforeFetch s).ready0 = s.ready0 := rfl
@[simp] theorem beforeFetch_ready1 (s : State) : (beforeFetch s).ready1 = s.ready1 := rfl
@[simp] theorem beforeFetch_faults (s : State) : (beforeFetch s).faults = s.faults := rfl
@[simp] theorem beforeFetch_areaWrites (s : State) : (beforeFetch s).areaWrites = s.areaWrites := rfl
@[simp] theorem beforeFetch_inputs (s : State) : (beforeFetch s).inputs = s.inputs := rfl
@[simp] theorem beforeFetch_reports (s : State) : (beforeFetch s).reports = s.reports := rfl
@[simp] theorem beforeFetch_now (s : State) : (beforeFetch s).now = s.now := rfl
@[simp] theorem beforeFetch_free (s : State) : (beforeFetch s).free = s.free := rfl
@[simp] theorem beforeFetch_quantum (s : State) : (beforeFetch s).quantum = s.quantum := rfl
@[simp] theorem beforeFetch_nextUid (s : State) : (beforeFetch s).nextUid = s.nextUid := rfl
@[simp] theorem beforeFetch_lastServed (s : State) : (beforeFetch s).lastServed = s.lastServed := rfl
@[simp] theorem beforeFetch_live (s : State) : (beforeFetch s).live = s.live := rfl

/-! ## waitHere -/

@[simp] theorem waitHere_onA (r p : Nat) (a : Word) (s : State) (n : Nat) : (waitHere r p a s n).onA = s.onA := rfl
@[simp] theorem waitHere_peer (r p : Nat) (a : Word) (s : State) (n : Nat) : (waitHere r p a s n).peer = s.peer := rfl
@[simp] theorem waitHere_tan (r p : Nat) (a : Word) (s : State) (n : Nat) : (waitHere r p a s n).tan = s.tan := rfl
@[simp] theorem waitHere_away (r p : Nat) (a : Word) (s : State) (n : Nat) : (waitHere r p a s n).away = s.away := rfl
@[simp] theorem waitHere_mem (r p : Nat) (a : Word) (s : State) (n : Nat) : (waitHere r p a s n).mem = s.mem := rfl
@[simp] theorem waitHere_paging (r p : Nat) (a : Word) (s : State) (n : Nat) : (waitHere r p a s n).paging = s.paging := rfl
@[simp] theorem waitHere_ctxs (r p : Nat) (a : Word) (s : State) (n : Nat) : (waitHere r p a s n).ctxs = s.ctxs := rfl
@[simp] theorem waitHere_queues (r p : Nat) (a : Word) (s : State) (n : Nat) : (waitHere r p a s n).queues = s.queues := rfl
@[simp] theorem waitHere_kernels (r p : Nat) (a : Word) (s : State) (n : Nat) : (waitHere r p a s n).kernels = s.kernels := rfl
@[simp] theorem waitHere_groups (r p : Nat) (a : Word) (s : State) (n : Nat) : (waitHere r p a s n).groups = s.groups := rfl
@[simp] theorem waitHere_links (r p : Nat) (a : Word) (s : State) (n : Nat) : (waitHere r p a s n).links = s.links := rfl
@[simp] theorem waitHere_tt (r p : Nat) (a : Word) (s : State) (n : Nat) : (waitHere r p a s n).tt = s.tt := rfl
@[simp] theorem waitHere_energy (r p : Nat) (a : Word) (s : State) (n : Nat) : (waitHere r p a s n).energy = s.energy := rfl
@[simp] theorem waitHere_rel (r p : Nat) (a : Word) (s : State) (n : Nat) : (waitHere r p a s n).rel = s.rel := rfl
@[simp] theorem waitHere_dbg (r p : Nat) (a : Word) (s : State) (n : Nat) : (waitHere r p a s n).dbg = s.dbg := rfl
@[simp] theorem waitHere_ready0 (r p : Nat) (a : Word) (s : State) (n : Nat) : (waitHere r p a s n).ready0 = s.ready0 := rfl
@[simp] theorem waitHere_ready1 (r p : Nat) (a : Word) (s : State) (n : Nat) : (waitHere r p a s n).ready1 = s.ready1 := rfl
@[simp] theorem waitHere_faults (r p : Nat) (a : Word) (s : State) (n : Nat) : (waitHere r p a s n).faults = s.faults := rfl
@[simp] theorem waitHere_areaWrites (r p : Nat) (a : Word) (s : State) (n : Nat) : (waitHere r p a s n).areaWrites = s.areaWrites := rfl
@[simp] theorem waitHere_inputs (r p : Nat) (a : Word) (s : State) (n : Nat) : (waitHere r p a s n).inputs = s.inputs := rfl
@[simp] theorem waitHere_reports (r p : Nat) (a : Word) (s : State) (n : Nat) : (waitHere r p a s n).reports = s.reports := rfl
@[simp] theorem waitHere_now (r p : Nat) (a : Word) (s : State) (n : Nat) : (waitHere r p a s n).now = s.now := rfl
@[simp] theorem waitHere_free (r p : Nat) (a : Word) (s : State) (n : Nat) : (waitHere r p a s n).free = s.free := rfl
@[simp] theorem waitHere_ir (r p : Nat) (a : Word) (s : State) (n : Nat) : (waitHere r p a s n).ir = s.ir := rfl
@[simp] theorem waitHere_notes (r p : Nat) (a : Word) (s : State) (n : Nat) : (waitHere r p a s n).notes = s.notes := rfl
@[simp] theorem waitHere_quantum (r p : Nat) (a : Word) (s : State) (n : Nat) : (waitHere r p a s n).quantum = s.quantum := rfl
@[simp] theorem waitHere_nextUid (r p : Nat) (a : Word) (s : State) (n : Nat) : (waitHere r p a s n).nextUid = s.nextUid := rfl
@[simp] theorem waitHere_lastServed (r p : Nat) (a : Word) (s : State) (n : Nat) : (waitHere r p a s n).lastServed = s.lastServed := rfl
@[simp] theorem waitHere_live (r p : Nat) (a : Word) (s : State) (n : Nat) : (waitHere r p a s n).live = s.live := rfl

@[simp] theorem waitHere_me_pc (r p : Nat) (a : Word) (s : State) (n : Nat) : (waitHere r p a s n).me.pc = s.me.pc := rfl
@[simp] theorem waitHere_me_s (r p : Nat) (a : Word) (s : State) (n : Nat) : (waitHere r p a s n).me.s = s.me.s := rfl
@[simp] theorem waitHere_me_v (r p : Nat) (a : Word) (s : State) (n : Nat) : (waitHere r p a s n).me.v = s.me.v := rfl
@[simp] theorem waitHere_me_p (r p : Nat) (a : Word) (s : State) (n : Nat) : (waitHere r p a s n).me.p = s.me.p := rfl
@[simp] theorem waitHere_me_k (r p : Nat) (a : Word) (s : State) (n : Nat) : (waitHere r p a s n).me.k = s.me.k := rfl
@[simp] theorem waitHere_me_h (r p : Nat) (a : Word) (s : State) (n : Nat) : (waitHere r p a s n).me.h = s.me.h := rfl
@[simp] theorem waitHere_me_winS (r p : Nat) (a : Word) (s : State) (n : Nat) : (waitHere r p a s n).me.winS = s.me.winS := rfl
@[simp] theorem waitHere_me_winV (r p : Nat) (a : Word) (s : State) (n : Nat) : (waitHere r p a s n).me.winV = s.me.winV := rfl
@[simp] theorem waitHere_me_exited (r p : Nat) (a : Word) (s : State) (n : Nat) : (waitHere r p a s n).me.exited = s.me.exited := rfl
@[simp] theorem waitHere_me_held (r p : Nat) (a : Word) (s : State) (n : Nat) : (waitHere r p a s n).me.held = s.me.held := rfl
@[simp] theorem waitHere_me_strip (r p : Nat) (a : Word) (s : State) (n : Nat) : (waitHere r p a s n).me.strip = s.me.strip := rfl
@[simp] theorem waitHere_me_copies (r p : Nat) (a : Word) (s : State) (n : Nat) : (waitHere r p a s n).me.copies = s.me.copies := rfl
@[simp] theorem waitHere_me_copyErrors (r p : Nat) (a : Word) (s : State) (n : Nat) : (waitHere r p a s n).me.copyErrors = s.me.copyErrors := rfl
@[simp] theorem waitHere_me_nextCopy (r p : Nat) (a : Word) (s : State) (n : Nat) : (waitHere r p a s n).me.nextCopy = s.me.nextCopy := rfl
@[simp] theorem waitHere_me_saved (r p : Nat) (a : Word) (s : State) (n : Nat) : (waitHere r p a s n).me.saved = s.me.saved := rfl
@[simp] theorem waitHere_me_savedInTrap (r p : Nat) (a : Word) (s : State) (n : Nat) : (waitHere r p a s n).me.savedInTrap = s.me.savedInTrap := rfl
@[simp] theorem waitHere_me_loop (r p : Nat) (a : Word) (s : State) (n : Nat) : (waitHere r p a s n).me.loop = s.me.loop := rfl
@[simp] theorem waitHere_me_loff (r p : Nat) (a : Word) (s : State) (n : Nat) : (waitHere r p a s n).me.loff = s.me.loff := rfl
@[simp] theorem waitHere_me_rateSet (r p : Nat) (a : Word) (s : State) (n : Nat) : (waitHere r p a s n).me.rateSet = s.me.rateSet := rfl
@[simp] theorem waitHere_me_covered (r p : Nat) (a : Word) (s : State) (n : Nat) : (waitHere r p a s n).me.covered = s.me.covered := rfl
@[simp] theorem waitHere_me_recheck (r p : Nat) (a : Word) (s : State) (n : Nat) : (waitHere r p a s n).me.recheck = s.me.recheck := rfl
@[simp] theorem waitHere_me_disagreed (r p : Nat) (a : Word) (s : State) (n : Nat) : (waitHere r p a s n).me.disagreed = s.me.disagreed := rfl
@[simp] theorem waitHere_me_trial (r p : Nat) (a : Word) (s : State) (n : Nat) : (waitHere r p a s n).me.trial = s.me.trial := rfl
@[simp] theorem waitHere_me_outstanding (r p : Nat) (a : Word) (s : State) (n : Nat) : (waitHere r p a s n).me.outstanding = s.me.outstanding := rfl
@[simp] theorem waitHere_me_history (r p : Nat) (a : Word) (s : State) (n : Nat) : (waitHere r p a s n).me.history = s.me.history := rfl
@[simp] theorem waitHere_me_dueBits (r p : Nat) (a : Word) (s : State) (n : Nat) : (waitHere r p a s n).me.dueBits = s.me.dueBits := rfl
@[simp] theorem waitHere_me_counted (r p : Nat) (a : Word) (s : State) (n : Nat) : (waitHere r p a s n).me.counted = s.me.counted := rfl
@[simp] theorem waitHere_me_barWait (r p : Nat) (a : Word) (s : State) (n : Nat) : (waitHere r p a s n).me.barWait = s.me.barWait := rfl
@[simp] theorem waitHere_me_leftIn (r p : Nat) (a : Word) (s : State) (n : Nat) : (waitHere r p a s n).me.leftIn = s.me.leftIn := rfl
@[simp] theorem waitHere_me_upset (r p : Nat) (a : Word) (s : State) (n : Nat) : (waitHere r p a s n).me.upset = s.me.upset := rfl
@[simp] theorem waitHere_me_stallWord (r p : Nat) (a : Word) (s : State) (n : Nat) : (waitHere r p a s n).me.stallWord = s.ir := rfl
@[simp] theorem waitHere_me_stallNeed (r p : Nat) (a : Word) (s : State) (n : Nat) : (waitHere r p a s n).me.stallNeed = n := rfl
@[simp] theorem waitHere_me_histLate (r p : Nat) (a : Word) (s : State) (n : Nat) : (waitHere r p a s n).me.histLate = s.me.histLate := rfl
@[simp] theorem waitHere_csr_frm (r p : Nat) (a : Word) (s : State) (n : Nat) : (waitHere r p a s n).me.csr.frm = s.me.csr.frm := rfl
@[simp] theorem waitHere_csr_fflags (r p : Nat) (a : Word) (s : State) (n : Nat) : (waitHere r p a s n).me.csr.fflags = s.me.csr.fflags := rfl
@[simp] theorem waitHere_csr_srseed (r p : Nat) (a : Word) (s : State) (n : Nat) : (waitHere r p a s n).me.csr.srseed = s.me.csr.srseed := rfl
@[simp] theorem waitHere_csr_hctl (r p : Nat) (a : Word) (s : State) (n : Nat) : (waitHere r p a s n).me.csr.hctl = s.me.csr.hctl := rfl
@[simp] theorem waitHere_csr_skm (r p : Nat) (a : Word) (s : State) (n : Nat) : (waitHere r p a s n).me.csr.skm = s.me.csr.skm := rfl
@[simp] theorem waitHere_csr_vl (r p : Nat) (a : Word) (s : State) (n : Nat) : (waitHere r p a s n).me.csr.vl = s.me.csr.vl := rfl
@[simp] theorem waitHere_csr_vtype (r p : Nat) (a : Word) (s : State) (n : Nat) : (waitHere r p a s n).me.csr.vtype = s.me.csr.vtype := rfl
@[simp] theorem waitHere_csr_rc (r p : Nat) (a : Word) (s : State) (n : Nat) : (waitHere r p a s n).me.csr.rc = s.me.csr.rc := rfl
@[simp] theorem waitHere_csr_vstart (r p : Nat) (a : Word) (s : State) (n : Nat) : (waitHere r p a s n).me.csr.vstart = s.me.csr.vstart := rfl
@[simp] theorem waitHere_csr_gwbase (r p : Nat) (a : Word) (s : State) (n : Nat) : (waitHere r p a s n).me.csr.gwbase = s.me.csr.gwbase := rfl
@[simp] theorem waitHere_csr_nfmt (r p : Nat) (a : Word) (s : State) (n : Nat) : (waitHere r p a s n).me.csr.nfmt = s.me.csr.nfmt := rfl
@[simp] theorem waitHere_csr_xpc (r p : Nat) (a : Word) (s : State) (n : Nat) : (waitHere r p a s n).me.csr.xpc = s.me.csr.xpc := rfl
@[simp] theorem waitHere_csr_xcause (r p : Nat) (a : Word) (s : State) (n : Nat) : (waitHere r p a s n).me.csr.xcause = s.me.csr.xcause := rfl
@[simp] theorem waitHere_csr_xaddr (r p : Nat) (a : Word) (s : State) (n : Nat) : (waitHere r p a s n).me.csr.xaddr = s.me.csr.xaddr := rfl
@[simp] theorem waitHere_csr_xinfo (r p : Nat) (a : Word) (s : State) (n : Nat) : (waitHere r p a s n).me.csr.xinfo = s.me.csr.xinfo := rfl
@[simp] theorem waitHere_csr_xvec (r p : Nat) (a : Word) (s : State) (n : Nat) : (waitHere r p a s n).me.csr.xvec = s.me.csr.xvec := rfl
@[simp] theorem waitHere_csr_xscratch (r p : Nat) (a : Word) (s : State) (n : Nat) : (waitHere r p a s n).me.csr.xscratch = s.me.csr.xscratch := rfl
@[simp] theorem waitHere_csr_lrecn (r p : Nat) (a : Word) (s : State) (n : Nat) : (waitHere r p a s n).me.csr.lrecn = s.me.csr.lrecn := rfl
@[simp] theorem waitHere_csr_lstat (r p : Nat) (a : Word) (s : State) (n : Nat) : (waitHere r p a s n).me.csr.lstat = s.me.csr.lstat := rfl
@[simp] theorem waitHere_csr_lidx (r p : Nat) (a : Word) (s : State) (n : Nat) : (waitHere r p a s n).me.csr.lidx = s.me.csr.lidx := rfl
@[simp] theorem waitHere_csr_proglim (r p : Nat) (a : Word) (s : State) (n : Nat) : (waitHere r p a s n).me.csr.proglim = s.me.csr.proglim := rfl
@[simp] theorem waitHere_csr_trlo (r p : Nat) (a : Word) (s : State) (n : Nat) : (waitHere r p a s n).me.csr.trlo = s.me.csr.trlo := rfl
@[simp] theorem waitHere_csr_trhi (r p : Nat) (a : Word) (s : State) (n : Nat) : (waitHere r p a s n).me.csr.trhi = s.me.csr.trhi := rfl
@[simp] theorem waitHere_csr_trdly (r p : Nat) (a : Word) (s : State) (n : Nat) : (waitHere r p a s n).me.csr.trdly = s.me.csr.trdly := rfl
@[simp] theorem waitHere_csr_trctl (r p : Nat) (a : Word) (s : State) (n : Nat) : (waitHere r p a s n).me.csr.trctl = s.me.csr.trctl := rfl
@[simp] theorem waitHere_csr_trbase (r p : Nat) (a : Word) (s : State) (n : Nat) : (waitHere r p a s n).me.csr.trbase = s.me.csr.trbase := rfl
@[simp] theorem waitHere_csr_trexp (r p : Nat) (a : Word) (s : State) (n : Nat) : (waitHere r p a s n).me.csr.trexp = s.me.csr.trexp := rfl
@[simp] theorem waitHere_csr_cycle (r p : Nat) (a : Word) (s : State) (n : Nat) : (waitHere r p a s n).me.csr.cycle = s.me.csr.cycle := rfl
@[simp] theorem waitHere_csr_instret (r p : Nat) (a : Word) (s : State) (n : Nat) : (waitHere r p a s n).me.csr.instret = s.me.csr.instret := rfl
@[simp] theorem waitHere_csr_energy (r p : Nat) (a : Word) (s : State) (n : Nat) : (waitHere r p a s n).me.csr.energy = s.me.csr.energy := rfl
@[simp] theorem waitHere_waitrsn (r p : Nat) (a : Word) (s : State) (n : Nat) : (waitHere r p a s n).me.csr.waitrsn = BitVec.ofNat 64 r := rfl
@[simp] theorem waitHere_stalled (r p : Nat) (a : Word) (s : State) (n : Nat) : (waitHere r p a s n).me.stalled = some p := rfl

/-! ## State.spoilStrip -/

@[simp] theorem State.spoilStrip_onA (s : State) : (s.spoilStrip).onA = s.onA := rfl
@[simp] theorem State.spoilStrip_peer (s : State) : (s.spoilStrip).peer = s.peer := rfl
@[simp] theorem State.spoilStrip_away (s : State) : (s.spoilStrip).away = s.away := rfl
@[simp] theorem State.spoilStrip_mem (s : State) : (s.spoilStrip).mem = s.mem := rfl
@[simp] theorem State.spoilStrip_paging (s : State) : (s.spoilStrip).paging = s.paging := rfl
@[simp] theorem State.spoilStrip_ctxs (s : State) : (s.spoilStrip).ctxs = s.ctxs := rfl
@[simp] theorem State.spoilStrip_queues (s : State) : (s.spoilStrip).queues = s.queues := rfl
@[simp] theorem State.spoilStrip_kernels (s : State) : (s.spoilStrip).kernels = s.kernels := rfl
@[simp] theorem State.spoilStrip_groups (s : State) : (s.spoilStrip).groups = s.groups := rfl
@[simp] theorem State.spoilStrip_links (s : State) : (s.spoilStrip).links = s.links := rfl
@[simp] theorem State.spoilStrip_tt (s : State) : (s.spoilStrip).tt = s.tt := rfl
@[simp] theorem State.spoilStrip_energy (s : State) : (s.spoilStrip).energy = s.energy := rfl
@[simp] theorem State.spoilStrip_rel (s : State) : (s.spoilStrip).rel = s.rel := rfl
@[simp] theorem State.spoilStrip_dbg (s : State) : (s.spoilStrip).dbg = s.dbg := rfl
@[simp] theorem State.spoilStrip_ready0 (s : State) : (s.spoilStrip).ready0 = s.ready0 := rfl
@[simp] theorem State.spoilStrip_ready1 (s : State) : (s.spoilStrip).ready1 = s.ready1 := rfl
@[simp] theorem State.spoilStrip_faults (s : State) : (s.spoilStrip).faults = s.faults := rfl
@[simp] theorem State.spoilStrip_areaWrites (s : State) : (s.spoilStrip).areaWrites = s.areaWrites := rfl
@[simp] theorem State.spoilStrip_inputs (s : State) : (s.spoilStrip).inputs = s.inputs := rfl
@[simp] theorem State.spoilStrip_reports (s : State) : (s.spoilStrip).reports = s.reports := rfl
@[simp] theorem State.spoilStrip_now (s : State) : (s.spoilStrip).now = s.now := rfl
@[simp] theorem State.spoilStrip_free (s : State) : (s.spoilStrip).free = s.free := rfl
@[simp] theorem State.spoilStrip_ir (s : State) : (s.spoilStrip).ir = s.ir := rfl
@[simp] theorem State.spoilStrip_notes (s : State) : (s.spoilStrip).notes = s.notes := rfl
@[simp] theorem State.spoilStrip_quantum (s : State) : (s.spoilStrip).quantum = s.quantum := rfl
@[simp] theorem State.spoilStrip_nextUid (s : State) : (s.spoilStrip).nextUid = s.nextUid := rfl
@[simp] theorem State.spoilStrip_lastServed (s : State) : (s.spoilStrip).lastServed = s.lastServed := rfl
@[simp] theorem State.spoilStrip_live (s : State) : (s.spoilStrip).live = s.live := rfl

/-! ## settleContexts -/

@[simp] theorem settleContexts_onA (s : State) : (settleContexts s).onA = s.onA := rfl
@[simp] theorem settleContexts_me (s : State) : (settleContexts s).me = s.me := rfl
@[simp] theorem settleContexts_peer (s : State) : (settleContexts s).peer = s.peer := rfl
@[simp] theorem settleContexts_tan (s : State) : (settleContexts s).tan = s.tan := rfl
@[simp] theorem settleContexts_away (s : State) : (settleContexts s).away = s.away := rfl
@[simp] theorem settleContexts_mem (s : State) : (settleContexts s).mem = s.mem := rfl
@[simp] theorem settleContexts_paging (s : State) : (settleContexts s).paging = s.paging := rfl
@[simp] theorem settleContexts_queues (s : State) : (settleContexts s).queues = s.queues := rfl
@[simp] theorem settleContexts_kernels (s : State) : (settleContexts s).kernels = s.kernels := rfl
@[simp] theorem settleContexts_groups (s : State) : (settleContexts s).groups = s.groups := rfl
@[simp] theorem settleContexts_links (s : State) : (settleContexts s).links = s.links := rfl
@[simp] theorem settleContexts_tt (s : State) : (settleContexts s).tt = s.tt := rfl
@[simp] theorem settleContexts_energy (s : State) : (settleContexts s).energy = s.energy := rfl
@[simp] theorem settleContexts_rel (s : State) : (settleContexts s).rel = s.rel := rfl
@[simp] theorem settleContexts_dbg (s : State) : (settleContexts s).dbg = s.dbg := rfl
@[simp] theorem settleContexts_ready0 (s : State) : (settleContexts s).ready0 = s.ready0 := rfl
@[simp] theorem settleContexts_ready1 (s : State) : (settleContexts s).ready1 = s.ready1 := rfl
@[simp] theorem settleContexts_faults (s : State) : (settleContexts s).faults = s.faults := rfl
@[simp] theorem settleContexts_areaWrites (s : State) : (settleContexts s).areaWrites = s.areaWrites := rfl
@[simp] theorem settleContexts_inputs (s : State) : (settleContexts s).inputs = s.inputs := rfl
@[simp] theorem settleContexts_reports (s : State) : (settleContexts s).reports = s.reports := rfl
@[simp] theorem settleContexts_now (s : State) : (settleContexts s).now = s.now := rfl
@[simp] theorem settleContexts_free (s : State) : (settleContexts s).free = s.free := rfl
@[simp] theorem settleContexts_ir (s : State) : (settleContexts s).ir = s.ir := rfl
@[simp] theorem settleContexts_notes (s : State) : (settleContexts s).notes = s.notes := rfl
@[simp] theorem settleContexts_quantum (s : State) : (settleContexts s).quantum = s.quantum := rfl
@[simp] theorem settleContexts_nextUid (s : State) : (settleContexts s).nextUid = s.nextUid := rfl
@[simp] theorem settleContexts_lastServed (s : State) : (settleContexts s).lastServed = s.lastServed := rfl
@[simp] theorem settleContexts_live (s : State) : (settleContexts s).live = s.live := rfl

/-! ## settleHolds -/

@[simp] theorem settleHolds_onA (s : State) : (settleHolds s).onA = s.onA := rfl
@[simp] theorem settleHolds_me (s : State) : (settleHolds s).me = s.me := rfl
@[simp] theorem settleHolds_peer (s : State) : (settleHolds s).peer = s.peer := rfl
@[simp] theorem settleHolds_tan (s : State) : (settleHolds s).tan = s.tan := rfl
@[simp] theorem settleHolds_away (s : State) : (settleHolds s).away = s.away := rfl
@[simp] theorem settleHolds_mem (s : State) : (settleHolds s).mem = s.mem := rfl
@[simp] theorem settleHolds_paging (s : State) : (settleHolds s).paging = s.paging := rfl
@[simp] theorem settleHolds_ctxs (s : State) : (settleHolds s).ctxs = s.ctxs := rfl
@[simp] theorem settleHolds_kernels (s : State) : (settleHolds s).kernels = s.kernels := rfl
@[simp] theorem settleHolds_groups (s : State) : (settleHolds s).groups = s.groups := rfl
@[simp] theorem settleHolds_links (s : State) : (settleHolds s).links = s.links := rfl
@[simp] theorem settleHolds_tt (s : State) : (settleHolds s).tt = s.tt := rfl
@[simp] theorem settleHolds_energy (s : State) : (settleHolds s).energy = s.energy := rfl
@[simp] theorem settleHolds_rel (s : State) : (settleHolds s).rel = s.rel := rfl
@[simp] theorem settleHolds_dbg (s : State) : (settleHolds s).dbg = s.dbg := rfl
@[simp] theorem settleHolds_ready0 (s : State) : (settleHolds s).ready0 = s.ready0 := rfl
@[simp] theorem settleHolds_ready1 (s : State) : (settleHolds s).ready1 = s.ready1 := rfl
@[simp] theorem settleHolds_faults (s : State) : (settleHolds s).faults = s.faults := rfl
@[simp] theorem settleHolds_areaWrites (s : State) : (settleHolds s).areaWrites = s.areaWrites := rfl
@[simp] theorem settleHolds_inputs (s : State) : (settleHolds s).inputs = s.inputs := rfl
@[simp] theorem settleHolds_reports (s : State) : (settleHolds s).reports = s.reports := rfl
@[simp] theorem settleHolds_now (s : State) : (settleHolds s).now = s.now := rfl
@[simp] theorem settleHolds_free (s : State) : (settleHolds s).free = s.free := rfl
@[simp] theorem settleHolds_ir (s : State) : (settleHolds s).ir = s.ir := rfl
@[simp] theorem settleHolds_notes (s : State) : (settleHolds s).notes = s.notes := rfl
@[simp] theorem settleHolds_quantum (s : State) : (settleHolds s).quantum = s.quantum := rfl
@[simp] theorem settleHolds_nextUid (s : State) : (settleHolds s).nextUid = s.nextUid := rfl
@[simp] theorem settleHolds_lastServed (s : State) : (settleHolds s).lastServed = s.lastServed := rfl
@[simp] theorem settleHolds_live (s : State) : (settleHolds s).live = s.live := rfl

/-! ## State.modQueue -/

@[simp] theorem State.modQueue_onA (s : State) (n : Nat) (f : Queue → Queue) : (s.modQueue n f).onA = s.onA := rfl
@[simp] theorem State.modQueue_me (s : State) (n : Nat) (f : Queue → Queue) : (s.modQueue n f).me = s.me := rfl
@[simp] theorem State.modQueue_peer (s : State) (n : Nat) (f : Queue → Queue) : (s.modQueue n f).peer = s.peer := rfl
@[simp] theorem State.modQueue_tan (s : State) (n : Nat) (f : Queue → Queue) : (s.modQueue n f).tan = s.tan := rfl
@[simp] theorem State.modQueue_away (s : State) (n : Nat) (f : Queue → Queue) : (s.modQueue n f).away = s.away := rfl
@[simp] theorem State.modQueue_mem (s : State) (n : Nat) (f : Queue → Queue) : (s.modQueue n f).mem = s.mem := rfl
@[simp] theorem State.modQueue_paging (s : State) (n : Nat) (f : Queue → Queue) : (s.modQueue n f).paging = s.paging := rfl
@[simp] theorem State.modQueue_ctxs (s : State) (n : Nat) (f : Queue → Queue) : (s.modQueue n f).ctxs = s.ctxs := rfl
@[simp] theorem State.modQueue_kernels (s : State) (n : Nat) (f : Queue → Queue) : (s.modQueue n f).kernels = s.kernels := rfl
@[simp] theorem State.modQueue_groups (s : State) (n : Nat) (f : Queue → Queue) : (s.modQueue n f).groups = s.groups := rfl
@[simp] theorem State.modQueue_links (s : State) (n : Nat) (f : Queue → Queue) : (s.modQueue n f).links = s.links := rfl
@[simp] theorem State.modQueue_tt (s : State) (n : Nat) (f : Queue → Queue) : (s.modQueue n f).tt = s.tt := rfl
@[simp] theorem State.modQueue_energy (s : State) (n : Nat) (f : Queue → Queue) : (s.modQueue n f).energy = s.energy := rfl
@[simp] theorem State.modQueue_rel (s : State) (n : Nat) (f : Queue → Queue) : (s.modQueue n f).rel = s.rel := rfl
@[simp] theorem State.modQueue_dbg (s : State) (n : Nat) (f : Queue → Queue) : (s.modQueue n f).dbg = s.dbg := rfl
@[simp] theorem State.modQueue_ready0 (s : State) (n : Nat) (f : Queue → Queue) : (s.modQueue n f).ready0 = s.ready0 := rfl
@[simp] theorem State.modQueue_ready1 (s : State) (n : Nat) (f : Queue → Queue) : (s.modQueue n f).ready1 = s.ready1 := rfl
@[simp] theorem State.modQueue_faults (s : State) (n : Nat) (f : Queue → Queue) : (s.modQueue n f).faults = s.faults := rfl
@[simp] theorem State.modQueue_areaWrites (s : State) (n : Nat) (f : Queue → Queue) : (s.modQueue n f).areaWrites = s.areaWrites := rfl
@[simp] theorem State.modQueue_inputs (s : State) (n : Nat) (f : Queue → Queue) : (s.modQueue n f).inputs = s.inputs := rfl
@[simp] theorem State.modQueue_reports (s : State) (n : Nat) (f : Queue → Queue) : (s.modQueue n f).reports = s.reports := rfl
@[simp] theorem State.modQueue_now (s : State) (n : Nat) (f : Queue → Queue) : (s.modQueue n f).now = s.now := rfl
@[simp] theorem State.modQueue_free (s : State) (n : Nat) (f : Queue → Queue) : (s.modQueue n f).free = s.free := rfl
@[simp] theorem State.modQueue_ir (s : State) (n : Nat) (f : Queue → Queue) : (s.modQueue n f).ir = s.ir := rfl
@[simp] theorem State.modQueue_notes (s : State) (n : Nat) (f : Queue → Queue) : (s.modQueue n f).notes = s.notes := rfl
@[simp] theorem State.modQueue_quantum (s : State) (n : Nat) (f : Queue → Queue) : (s.modQueue n f).quantum = s.quantum := rfl
@[simp] theorem State.modQueue_nextUid (s : State) (n : Nat) (f : Queue → Queue) : (s.modQueue n f).nextUid = s.nextUid := rfl
@[simp] theorem State.modQueue_lastServed (s : State) (n : Nat) (f : Queue → Queue) : (s.modQueue n f).lastServed = s.lastServed := rfl
@[simp] theorem State.modQueue_live (s : State) (n : Nat) (f : Queue → Queue) : (s.modQueue n f).live = s.live := rfl

/-! ## State.modCtx -/

@[simp] theorem State.modCtx_onA (s : State) (n : Nat) (f : Context → Context) : (s.modCtx n f).onA = s.onA := rfl
@[simp] theorem State.modCtx_me (s : State) (n : Nat) (f : Context → Context) : (s.modCtx n f).me = s.me := rfl
@[simp] theorem State.modCtx_peer (s : State) (n : Nat) (f : Context → Context) : (s.modCtx n f).peer = s.peer := rfl
@[simp] theorem State.modCtx_tan (s : State) (n : Nat) (f : Context → Context) : (s.modCtx n f).tan = s.tan := rfl
@[simp] theorem State.modCtx_away (s : State) (n : Nat) (f : Context → Context) : (s.modCtx n f).away = s.away := rfl
@[simp] theorem State.modCtx_mem (s : State) (n : Nat) (f : Context → Context) : (s.modCtx n f).mem = s.mem := rfl
@[simp] theorem State.modCtx_paging (s : State) (n : Nat) (f : Context → Context) : (s.modCtx n f).paging = s.paging := rfl
@[simp] theorem State.modCtx_queues (s : State) (n : Nat) (f : Context → Context) : (s.modCtx n f).queues = s.queues := rfl
@[simp] theorem State.modCtx_kernels (s : State) (n : Nat) (f : Context → Context) : (s.modCtx n f).kernels = s.kernels := rfl
@[simp] theorem State.modCtx_groups (s : State) (n : Nat) (f : Context → Context) : (s.modCtx n f).groups = s.groups := rfl
@[simp] theorem State.modCtx_links (s : State) (n : Nat) (f : Context → Context) : (s.modCtx n f).links = s.links := rfl
@[simp] theorem State.modCtx_tt (s : State) (n : Nat) (f : Context → Context) : (s.modCtx n f).tt = s.tt := rfl
@[simp] theorem State.modCtx_energy (s : State) (n : Nat) (f : Context → Context) : (s.modCtx n f).energy = s.energy := rfl
@[simp] theorem State.modCtx_rel (s : State) (n : Nat) (f : Context → Context) : (s.modCtx n f).rel = s.rel := rfl
@[simp] theorem State.modCtx_dbg (s : State) (n : Nat) (f : Context → Context) : (s.modCtx n f).dbg = s.dbg := rfl
@[simp] theorem State.modCtx_ready0 (s : State) (n : Nat) (f : Context → Context) : (s.modCtx n f).ready0 = s.ready0 := rfl
@[simp] theorem State.modCtx_ready1 (s : State) (n : Nat) (f : Context → Context) : (s.modCtx n f).ready1 = s.ready1 := rfl
@[simp] theorem State.modCtx_faults (s : State) (n : Nat) (f : Context → Context) : (s.modCtx n f).faults = s.faults := rfl
@[simp] theorem State.modCtx_areaWrites (s : State) (n : Nat) (f : Context → Context) : (s.modCtx n f).areaWrites = s.areaWrites := rfl
@[simp] theorem State.modCtx_inputs (s : State) (n : Nat) (f : Context → Context) : (s.modCtx n f).inputs = s.inputs := rfl
@[simp] theorem State.modCtx_reports (s : State) (n : Nat) (f : Context → Context) : (s.modCtx n f).reports = s.reports := rfl
@[simp] theorem State.modCtx_now (s : State) (n : Nat) (f : Context → Context) : (s.modCtx n f).now = s.now := rfl
@[simp] theorem State.modCtx_free (s : State) (n : Nat) (f : Context → Context) : (s.modCtx n f).free = s.free := rfl
@[simp] theorem State.modCtx_ir (s : State) (n : Nat) (f : Context → Context) : (s.modCtx n f).ir = s.ir := rfl
@[simp] theorem State.modCtx_notes (s : State) (n : Nat) (f : Context → Context) : (s.modCtx n f).notes = s.notes := rfl
@[simp] theorem State.modCtx_quantum (s : State) (n : Nat) (f : Context → Context) : (s.modCtx n f).quantum = s.quantum := rfl
@[simp] theorem State.modCtx_nextUid (s : State) (n : Nat) (f : Context → Context) : (s.modCtx n f).nextUid = s.nextUid := rfl
@[simp] theorem State.modCtx_lastServed (s : State) (n : Nat) (f : Context → Context) : (s.modCtx n f).lastServed = s.lastServed := rfl
@[simp] theorem State.modCtx_live (s : State) (n : Nat) (f : Context → Context) : (s.modCtx n f).live = s.live := rfl

/-! ## State.modKernel -/

@[simp] theorem State.modKernel_onA (s : State) (n m : Nat) (f : Kernel → Kernel) : (s.modKernel n m f).onA = s.onA := rfl
@[simp] theorem State.modKernel_me (s : State) (n m : Nat) (f : Kernel → Kernel) : (s.modKernel n m f).me = s.me := rfl
@[simp] theorem State.modKernel_peer (s : State) (n m : Nat) (f : Kernel → Kernel) : (s.modKernel n m f).peer = s.peer := rfl
@[simp] theorem State.modKernel_tan (s : State) (n m : Nat) (f : Kernel → Kernel) : (s.modKernel n m f).tan = s.tan := rfl
@[simp] theorem State.modKernel_away (s : State) (n m : Nat) (f : Kernel → Kernel) : (s.modKernel n m f).away = s.away := rfl
@[simp] theorem State.modKernel_mem (s : State) (n m : Nat) (f : Kernel → Kernel) : (s.modKernel n m f).mem = s.mem := rfl
@[simp] theorem State.modKernel_paging (s : State) (n m : Nat) (f : Kernel → Kernel) : (s.modKernel n m f).paging = s.paging := rfl
@[simp] theorem State.modKernel_ctxs (s : State) (n m : Nat) (f : Kernel → Kernel) : (s.modKernel n m f).ctxs = s.ctxs := rfl
@[simp] theorem State.modKernel_queues (s : State) (n m : Nat) (f : Kernel → Kernel) : (s.modKernel n m f).queues = s.queues := rfl
@[simp] theorem State.modKernel_groups (s : State) (n m : Nat) (f : Kernel → Kernel) : (s.modKernel n m f).groups = s.groups := rfl
@[simp] theorem State.modKernel_links (s : State) (n m : Nat) (f : Kernel → Kernel) : (s.modKernel n m f).links = s.links := rfl
@[simp] theorem State.modKernel_tt (s : State) (n m : Nat) (f : Kernel → Kernel) : (s.modKernel n m f).tt = s.tt := rfl
@[simp] theorem State.modKernel_energy (s : State) (n m : Nat) (f : Kernel → Kernel) : (s.modKernel n m f).energy = s.energy := rfl
@[simp] theorem State.modKernel_rel (s : State) (n m : Nat) (f : Kernel → Kernel) : (s.modKernel n m f).rel = s.rel := rfl
@[simp] theorem State.modKernel_dbg (s : State) (n m : Nat) (f : Kernel → Kernel) : (s.modKernel n m f).dbg = s.dbg := rfl
@[simp] theorem State.modKernel_ready0 (s : State) (n m : Nat) (f : Kernel → Kernel) : (s.modKernel n m f).ready0 = s.ready0 := rfl
@[simp] theorem State.modKernel_ready1 (s : State) (n m : Nat) (f : Kernel → Kernel) : (s.modKernel n m f).ready1 = s.ready1 := rfl
@[simp] theorem State.modKernel_faults (s : State) (n m : Nat) (f : Kernel → Kernel) : (s.modKernel n m f).faults = s.faults := rfl
@[simp] theorem State.modKernel_areaWrites (s : State) (n m : Nat) (f : Kernel → Kernel) : (s.modKernel n m f).areaWrites = s.areaWrites := rfl
@[simp] theorem State.modKernel_inputs (s : State) (n m : Nat) (f : Kernel → Kernel) : (s.modKernel n m f).inputs = s.inputs := rfl
@[simp] theorem State.modKernel_reports (s : State) (n m : Nat) (f : Kernel → Kernel) : (s.modKernel n m f).reports = s.reports := rfl
@[simp] theorem State.modKernel_now (s : State) (n m : Nat) (f : Kernel → Kernel) : (s.modKernel n m f).now = s.now := rfl
@[simp] theorem State.modKernel_free (s : State) (n m : Nat) (f : Kernel → Kernel) : (s.modKernel n m f).free = s.free := rfl
@[simp] theorem State.modKernel_ir (s : State) (n m : Nat) (f : Kernel → Kernel) : (s.modKernel n m f).ir = s.ir := rfl
@[simp] theorem State.modKernel_notes (s : State) (n m : Nat) (f : Kernel → Kernel) : (s.modKernel n m f).notes = s.notes := rfl
@[simp] theorem State.modKernel_quantum (s : State) (n m : Nat) (f : Kernel → Kernel) : (s.modKernel n m f).quantum = s.quantum := rfl
@[simp] theorem State.modKernel_nextUid (s : State) (n m : Nat) (f : Kernel → Kernel) : (s.modKernel n m f).nextUid = s.nextUid := rfl
@[simp] theorem State.modKernel_lastServed (s : State) (n m : Nat) (f : Kernel → Kernel) : (s.modKernel n m f).lastServed = s.lastServed := rfl
@[simp] theorem State.modKernel_live (s : State) (n m : Nat) (f : Kernel → Kernel) : (s.modKernel n m f).live = s.live := rfl

/-! ## State.modRow -/

@[simp] theorem State.modRow_onA (s : State) (i : Nat) (f : TtSlot → TtSlot) : (s.modRow i f).onA = s.onA := rfl
@[simp] theorem State.modRow_me (s : State) (i : Nat) (f : TtSlot → TtSlot) : (s.modRow i f).me = s.me := rfl
@[simp] theorem State.modRow_peer (s : State) (i : Nat) (f : TtSlot → TtSlot) : (s.modRow i f).peer = s.peer := rfl
@[simp] theorem State.modRow_tan (s : State) (i : Nat) (f : TtSlot → TtSlot) : (s.modRow i f).tan = s.tan := rfl
@[simp] theorem State.modRow_away (s : State) (i : Nat) (f : TtSlot → TtSlot) : (s.modRow i f).away = s.away := rfl
@[simp] theorem State.modRow_mem (s : State) (i : Nat) (f : TtSlot → TtSlot) : (s.modRow i f).mem = s.mem := rfl
@[simp] theorem State.modRow_paging (s : State) (i : Nat) (f : TtSlot → TtSlot) : (s.modRow i f).paging = s.paging := rfl
@[simp] theorem State.modRow_ctxs (s : State) (i : Nat) (f : TtSlot → TtSlot) : (s.modRow i f).ctxs = s.ctxs := rfl
@[simp] theorem State.modRow_queues (s : State) (i : Nat) (f : TtSlot → TtSlot) : (s.modRow i f).queues = s.queues := rfl
@[simp] theorem State.modRow_kernels (s : State) (i : Nat) (f : TtSlot → TtSlot) : (s.modRow i f).kernels = s.kernels := rfl
@[simp] theorem State.modRow_groups (s : State) (i : Nat) (f : TtSlot → TtSlot) : (s.modRow i f).groups = s.groups := rfl
@[simp] theorem State.modRow_links (s : State) (i : Nat) (f : TtSlot → TtSlot) : (s.modRow i f).links = s.links := rfl
@[simp] theorem State.modRow_energy (s : State) (i : Nat) (f : TtSlot → TtSlot) : (s.modRow i f).energy = s.energy := rfl
@[simp] theorem State.modRow_rel (s : State) (i : Nat) (f : TtSlot → TtSlot) : (s.modRow i f).rel = s.rel := rfl
@[simp] theorem State.modRow_dbg (s : State) (i : Nat) (f : TtSlot → TtSlot) : (s.modRow i f).dbg = s.dbg := rfl
@[simp] theorem State.modRow_ready0 (s : State) (i : Nat) (f : TtSlot → TtSlot) : (s.modRow i f).ready0 = s.ready0 := rfl
@[simp] theorem State.modRow_ready1 (s : State) (i : Nat) (f : TtSlot → TtSlot) : (s.modRow i f).ready1 = s.ready1 := rfl
@[simp] theorem State.modRow_faults (s : State) (i : Nat) (f : TtSlot → TtSlot) : (s.modRow i f).faults = s.faults := rfl
@[simp] theorem State.modRow_areaWrites (s : State) (i : Nat) (f : TtSlot → TtSlot) : (s.modRow i f).areaWrites = s.areaWrites := rfl
@[simp] theorem State.modRow_inputs (s : State) (i : Nat) (f : TtSlot → TtSlot) : (s.modRow i f).inputs = s.inputs := rfl
@[simp] theorem State.modRow_reports (s : State) (i : Nat) (f : TtSlot → TtSlot) : (s.modRow i f).reports = s.reports := rfl
@[simp] theorem State.modRow_now (s : State) (i : Nat) (f : TtSlot → TtSlot) : (s.modRow i f).now = s.now := rfl
@[simp] theorem State.modRow_free (s : State) (i : Nat) (f : TtSlot → TtSlot) : (s.modRow i f).free = s.free := rfl
@[simp] theorem State.modRow_ir (s : State) (i : Nat) (f : TtSlot → TtSlot) : (s.modRow i f).ir = s.ir := rfl
@[simp] theorem State.modRow_notes (s : State) (i : Nat) (f : TtSlot → TtSlot) : (s.modRow i f).notes = s.notes := rfl
@[simp] theorem State.modRow_quantum (s : State) (i : Nat) (f : TtSlot → TtSlot) : (s.modRow i f).quantum = s.quantum := rfl
@[simp] theorem State.modRow_nextUid (s : State) (i : Nat) (f : TtSlot → TtSlot) : (s.modRow i f).nextUid = s.nextUid := rfl
@[simp] theorem State.modRow_lastServed (s : State) (i : Nat) (f : TtSlot → TtSlot) : (s.modRow i f).lastServed = s.lastServed := rfl
@[simp] theorem State.modRow_live (s : State) (i : Nat) (f : TtSlot → TtSlot) : (s.modRow i f).live = s.live := rfl

/-! ## changePort -/

@[simp] theorem changePort_onA (s : State) (p : Nat) (f : Port → Port) : (changePort s p f).onA = s.onA := by unfold changePort; split <;> rfl
@[simp] theorem changePort_me (s : State) (p : Nat) (f : Port → Port) : (changePort s p f).me = s.me := by unfold changePort; split <;> rfl
@[simp] theorem changePort_peer (s : State) (p : Nat) (f : Port → Port) : (changePort s p f).peer = s.peer := by unfold changePort; split <;> rfl
@[simp] theorem changePort_tan (s : State) (p : Nat) (f : Port → Port) : (changePort s p f).tan = s.tan := by unfold changePort; split <;> rfl
@[simp] theorem changePort_away (s : State) (p : Nat) (f : Port → Port) : (changePort s p f).away = s.away := by unfold changePort; split <;> rfl
@[simp] theorem changePort_mem (s : State) (p : Nat) (f : Port → Port) : (changePort s p f).mem = s.mem := by unfold changePort; split <;> rfl
@[simp] theorem changePort_paging (s : State) (p : Nat) (f : Port → Port) : (changePort s p f).paging = s.paging := by unfold changePort; split <;> rfl
@[simp] theorem changePort_ctxs (s : State) (p : Nat) (f : Port → Port) : (changePort s p f).ctxs = s.ctxs := by unfold changePort; split <;> rfl
@[simp] theorem changePort_queues (s : State) (p : Nat) (f : Port → Port) : (changePort s p f).queues = s.queues := by unfold changePort; split <;> rfl
@[simp] theorem changePort_kernels (s : State) (p : Nat) (f : Port → Port) : (changePort s p f).kernels = s.kernels := by unfold changePort; split <;> rfl
@[simp] theorem changePort_groups (s : State) (p : Nat) (f : Port → Port) : (changePort s p f).groups = s.groups := by unfold changePort; split <;> rfl
@[simp] theorem changePort_tt (s : State) (p : Nat) (f : Port → Port) : (changePort s p f).tt = s.tt := by unfold changePort; split <;> rfl
@[simp] theorem changePort_energy (s : State) (p : Nat) (f : Port → Port) : (changePort s p f).energy = s.energy := by unfold changePort; split <;> rfl
@[simp] theorem changePort_rel (s : State) (p : Nat) (f : Port → Port) : (changePort s p f).rel = s.rel := by unfold changePort; split <;> rfl
@[simp] theorem changePort_dbg (s : State) (p : Nat) (f : Port → Port) : (changePort s p f).dbg = s.dbg := by unfold changePort; split <;> rfl
@[simp] theorem changePort_ready0 (s : State) (p : Nat) (f : Port → Port) : (changePort s p f).ready0 = s.ready0 := by unfold changePort; split <;> rfl
@[simp] theorem changePort_faults (s : State) (p : Nat) (f : Port → Port) : (changePort s p f).faults = s.faults := by unfold changePort; split <;> rfl
@[simp] theorem changePort_areaWrites (s : State) (p : Nat) (f : Port → Port) : (changePort s p f).areaWrites = s.areaWrites := by unfold changePort; split <;> rfl
@[simp] theorem changePort_inputs (s : State) (p : Nat) (f : Port → Port) : (changePort s p f).inputs = s.inputs := by unfold changePort; split <;> rfl
@[simp] theorem changePort_reports (s : State) (p : Nat) (f : Port → Port) : (changePort s p f).reports = s.reports := by unfold changePort; split <;> rfl
@[simp] theorem changePort_now (s : State) (p : Nat) (f : Port → Port) : (changePort s p f).now = s.now := by unfold changePort; split <;> rfl
@[simp] theorem changePort_free (s : State) (p : Nat) (f : Port → Port) : (changePort s p f).free = s.free := by unfold changePort; split <;> rfl
@[simp] theorem changePort_ir (s : State) (p : Nat) (f : Port → Port) : (changePort s p f).ir = s.ir := by unfold changePort; split <;> rfl
@[simp] theorem changePort_notes (s : State) (p : Nat) (f : Port → Port) : (changePort s p f).notes = s.notes := by unfold changePort; split <;> rfl
@[simp] theorem changePort_quantum (s : State) (p : Nat) (f : Port → Port) : (changePort s p f).quantum = s.quantum := by unfold changePort; split <;> rfl
@[simp] theorem changePort_nextUid (s : State) (p : Nat) (f : Port → Port) : (changePort s p f).nextUid = s.nextUid := by unfold changePort; split <;> rfl
@[simp] theorem changePort_lastServed (s : State) (p : Nat) (f : Port → Port) : (changePort s p f).lastServed = s.lastServed := by unfold changePort; split <;> rfl
@[simp] theorem changePort_live (s : State) (p : Nat) (f : Port → Port) : (changePort s p f).live = s.live := by unfold changePort; split <;> rfl

/-! ## Registers read after they are written (R36, R37) -/

/-- A write of s0 is discarded (R37). -/
@[simp] theorem Hart.writeS_zero (h : Hart) (x : Word) : h.writeS 0 x = h := rfl

/-- A scalar register that was written reads back (R36). -/
theorem Hart.readS_writeS_same (h : Hart) (n : Nat) (x : Word) (hn : n ≠ 0) (hw : sparseWf 0 h.s = true) : (h.writeS n x).readS n = x := by
  unfold Hart.readS Hart.writeS
  rw [if_neg hn, if_neg hn]
  exact sparseGet_set_same 0 h.s _ x hw

/-- A write of one scalar register leaves every other (R36). -/
theorem Hart.readS_writeS_other (h : Hart) (n m : Nat) (x : Word) (hm : m ≠ n) : (h.writeS n x).readS m = h.readS m := by
  unfold Hart.readS Hart.writeS
  split
  · rfl
  · split
    · rfl
    · exact sparseGet_set_other 0 h.s (archReg h.winS n) (archReg h.winS m) x (by unfold archReg; omega)

/-- s0 reads 0 (R37). -/
@[simp] theorem Hart.readS_zero (h : Hart) : h.readS 0 = 0 := rfl

end Sys2Proof.Machine
end

