-- ==== Sys2Proof/Laws/Run.lean ====
section
/-! SUPPORT. One law per shared operation of an instruction's body: sequencing, checks and operands in the terms of Safety, and how a body
becomes an outcome. -/

set_option Elab.async false

namespace Sys2Proof.Machine

/-! ## Sequencing -/

theorem exec_bind_ok {α β : Type} {m : Exec α} {f : α → Exec β} {s s' : State} {a : α} (h : m s = .ok a s') :
    (m >>= f) s = f a s' := by
  show EStateM.bind m f s = _
  unfold EStateM.bind; rw [h]

theorem exec_bind_error {α β : Type} {m : Exec α} {f : α → Exec β} {s s' : State} {e : Stop} (h : m s = .error e s') :
    (m >>= f) s = .error e s' := by
  show EStateM.bind m f s = _
  unfold EStateM.bind; rw [h]

@[simp] theorem exec_pure {α : Type} (a : α) (s : State) : (pure a : Exec α) s = .ok a s := rfl
@[simp] theorem getState_run (s : State) : getState s = .ok s s := rfl
@[simp] theorem modState_run (f : State → State) (s : State) : modState f s = .ok () (f s) := rfl
@[simp] theorem modMe_run (f : Hart → Hart) (s : State) : modMe f s = .ok () { s with me := f s.me } := rfl
@[simp] theorem modTan_run (f : Tandem → Tandem) (s : State) : modTan f s = .ok () { s with tan := f s.tan } := rfl

theorem exec_getState_bind {β : Type} (f : State → Exec β) (s : State) : (getState >>= f) s = f s s := rfl
theorem exec_pure_bind {α β : Type} (a : α) (f : α → Exec β) (s : State) : ((pure a : Exec α) >>= f) s = f a s := rfl
theorem exec_modState_bind {β : Type} (g : State → State) (f : Unit → Exec β) (s : State) : (modState g >>= f) s = f () (g s) := rfl
theorem exec_modMe_bind {β : Type} (g : Hart → Hart) (f : Unit → Exec β) (s : State) :
    (modMe g >>= f) s = f () { s with me := g s.me } := rfl

/-! ## Checks -/

theorem checkSrc_ok {s : State} {n : Nat} (h : s.srcOk n) : checkSrc n s = .ok () s := by
  simp only [checkSrc]; exact if_pos h

theorem checkDst_ok {s : State} {n : Nat} (h : s.dstOk n) : checkDst n s = .ok () s := by
  simp only [checkDst]; exact if_pos h

theorem checkSrc_bad {s : State} {n : Nat} (h : ¬ s.srcOk n) : checkSrc n s = .error (.trap 2 0 s.me.pc 0 s.irWord) s := by
  simp only [checkSrc]; exact if_neg h

theorem checkDst_bad {s : State} {n : Nat} (h : ¬ s.dstOk n) : checkDst n s = .error (.trap 2 0 s.me.pc 0 s.irWord) s := by
  simp only [checkDst]; exact if_neg h

theorem require_true {s : State} : require true s = .ok () s := rfl
theorem require_of {b : Bool} {s : State} (h : b = true) : require b s = .ok () s := by subst h; rfl

theorem checkRmw_ok {s : State} {n : Nat} (h : n < 112) : checkRmw n s = .ok () s := by simp [checkRmw, h]

/-! ## Operands -/

theorem popReady_ok {α : Type} {f : Fifo α} {s : State} {port x : Nat} {e : ErrorAt} (hi : f.items ≠ []) (hb : f.bad = false)
    (hm : f.marker ≠ some 0 ∨ s.peer.exited = true) : popReady f 1 port x e s = .ok () s := by
  have hl : 1 ≤ f.items.length := List.length_pos_of_ne_nil hi
  unfold popReady
  cases hf : f.marker with
  | none => simp [hl, hb]
  | some m =>
    rcases Nat.eq_zero_or_pos m with h0 | h0
    · subst h0; simp [hf] at hm; simp [hm, hl, hb]
    · have : ¬ m < 1 := by omega
      simp [this, hl, hb]

theorem readS_here {s : State} {n : Nat} (h : s.srcHere n) : readS n s = .ok (s.srcValue n) (s.srcTaken n) := by
  unfold readS State.srcValue State.srcTaken
  by_cases hn : n < 112
  · simp [hn]
  · rcases h with h | ⟨h1, hb, h2⟩
    · exact absurd h hn
    · simp only [hn, if_false, popScalar]
      rw [exec_getState_bind, exec_bind_ok (popReady_ok h1 hb h2)]
      rfl

theorem writeS_room {s : State} {n : Nat} (x : Word) (h : s.dstRoom n) : writeS n x s = .ok () (s.dstPut n x) := by
  unfold writeS State.dstPut
  by_cases hn : n < 112
  · simp [hn]
  · rcases h with h | h
    · exact absurd h hn
    · simp only [hn, if_false, pushScalar]
      rw [if_neg (by omega)]

/-! ## Outcomes -/

theorem runScalar_ok {b : Exec Unit} {s s' : State} (h : b s = .ok () s') :
    runScalar b s = .next (retire s (s.me.pc + 4) s') := by
  unfold runScalar; rw [h]

theorem testBarrier_held (s : State) (t : Tandem) (h : Hart) : (testBarrier s t h).held = h.held := by
  unfold testBarrier
  split
  · rfl
  · split <;> rfl

theorem endStrip_held (s : State) : s.endStrip.me.held = [] := by
  unfold State.endStrip
  split
  · next h => exact h.1
  · dsimp only [testBarriers]
    rw [testBarrier_held]
    unfold performHeldOf
    split
    · assumption
    · rfl

theorem endStrip_of_nil {s : State} (h : s.me.held = []) (ht : s.tan.tdLate = []) : s.endStrip = s := by unfold State.endStrip; rw [if_pos ⟨h, ht⟩]

/-- A stop that has not touched the held stores or the strip leaves the state as it was. -/
theorem undone_same {s s' : State} (h : s'.me.held = s.me.held) (hr : s'.me.strip.rewindable = s.me.strip.rewindable) : undone s s' = s := by
  have hn : ¬(s.me.held ≠ [] ∧ s.me.held = []) := fun q => q.1 q.2
  unfold undone
  rw [h, hr, if_neg hn]
  simp

/-- What an instruction that stops leaves, whatever stopped it (R158, R360). -/
theorem runScalar_error {b : Exec Unit} {s s' : State} {e : Stop} (h : b s = .error e s') :
    runScalar b s = .next (applyStop e (undone s s')) := by
  unfold runScalar; rw [h]

theorem srcTaken_srcOk {s : State} {n m : Nat} : (s.srcTaken n).srcOk m ↔ s.srcOk m := by
  unfold State.srcOk State.srcTaken; split <;> simp

theorem srcTaken_me (s : State) (n : Nat) : (s.srcTaken n).me = s.me := by
  unfold State.srcTaken; split <;> rfl

end Sys2Proof.Machine
end

