-- ==== Sys2Proof/Laws/Access.lean ====
section
/-! SUPPORT. What translating, reading and loading do for an access that State.opens describes. -/

set_option Elab.async false

namespace Sys2Proof.Machine

theorem translate_congr {s t : State} (h1 : t.paging = s.paging) (h2 : t.mem = s.mem) (h3 : t.ready1 = s.ready1) (c d v y k a) : translate t c d v y k a = translate s c d v y k a := by
  unfold translate; rw [h1, h2, h3]
theorem translateBytes_congr {s t : State} (h1 : t.paging = s.paging) (h2 : t.mem = s.mem) (h3 : t.ready1 = s.ready1) (c d v y k a n) : translateBytes t c d v y k a n = translateBytes s c d v y k a n := by
  unfold translateBytes; simp only [translate_congr h1 h2 h3]

/-- A translation that enters the TLB changes the tables' caches and the count of free values (R309). -/
theorem installXlat_eq (s : State) (e : TlbEntry) : ∃ f p, installXlat s e = { s with free := f, paging := p } := by
  unfold installXlat
  by_cases h : s.paging.tlb.contains e = true
  · exact ⟨s.free, s.paging, by rw [if_pos h]⟩
  · rw [if_neg h]
    by_cases g : (s.paging.tlb.filter (fun x => x.die == e.die)).length < tlbSize
    · exact ⟨_, _, if_pos g⟩
    · exact ⟨_, _, if_neg g⟩

/-- A and D are set in memory or in the vector table, and no byte becomes readable or unreadable by it (R307). -/
theorem setAccessed_eq (s : State) (k : AccessKind) (x : Xlat) :
    ∃ m p, setAccessed s k x = { s with mem := m, paging := p } ∧ m.bad = s.mem.bad := by
  unfold setAccessed
  generalize (if k.writes = true then 6 else 2 : Nat) = w
  by_cases h : x.direct = true
  · exact ⟨s.mem, s.paging, by rw [if_pos h], rfl⟩
  · rw [if_neg h]
    rcases x.mark with pa | i
    · by_cases g : (s.mem.latestByte pa).toNat &&& w = w
      · exact ⟨s.mem, s.paging, if_pos g, rfl⟩
      · exact ⟨_, _, if_neg g, rfl⟩
    · exact ⟨s.mem, _, rfl, rfl⟩

/-- What a translated access leaves changes memory's marks, the tables and the count of free values only (R307, R309). -/
theorem markXlat_eq (s : State) (k : AccessKind) (x : Xlat) :
    ∃ f m p, markXlat s k x = { s with free := f, mem := m, paging := p } ∧ m.bad = s.mem.bad := by
  have g : ∃ f p, cacheXlat s x = { s with free := f, paging := p } := by
    unfold cacheXlat
    rcases x.install with _ | e
    · exact ⟨s.free, s.paging, rfl⟩
    · exact installXlat_eq s e
  obtain ⟨f, p, g⟩ := g
  obtain ⟨m, q, h, hb⟩ := setAccessed_eq { s with free := f, paging := p } k x
  exact ⟨f, m, q, by unfold markXlat; rw [g, h], hb⟩

theorem marked_eq (s : State) (k : AccessKind) (xs : List Xlat) :
    ∃ f m p, s.marked k xs = { s with free := f, mem := m, paging := p } ∧ m.bad = s.mem.bad := by
  unfold State.marked
  induction xs generalizing s with
  | nil => exact ⟨s.free, s.mem, s.paging, rfl, rfl⟩
  | cons x r ih =>
    obtain ⟨f, m, p, h, hb⟩ := markXlat_eq s k x
    obtain ⟨f', m', p', h', hb'⟩ := ih (markXlat s k x)
    rw [h] at h' hb'
    exact ⟨f', m', p', by rw [List.foldl_cons, h, h'], hb'.trans hb⟩

theorem marked_frame (s : State) (k xs) : (s.marked k xs).me = s.me ∧ (s.marked k xs).tan = s.tan ∧ (s.marked k xs).onA = s.onA ∧ (s.marked k xs).peer = s.peer ∧ (s.marked k xs).dbg = s.dbg ∧ (s.marked k xs).ctxs = s.ctxs ∧ (s.marked k xs).mem.bad = s.mem.bad
   ∧ (s.marked k xs).links = s.links ∧ (s.marked k xs).away = s.away ∧ (s.marked k xs).ready1 = s.ready1 := by
  obtain ⟨f, m, p, h, hb⟩ := marked_eq s k xs
  rw [h]
  simp only [hb, and_self]
theorem srcTaken_frame (s : State) (n) : (s.srcTaken n).me = s.me ∧ (s.srcTaken n).paging = s.paging ∧ (s.srcTaken n).mem = s.mem ∧ (s.srcTaken n).ctxs = s.ctxs ∧ (s.srcTaken n).dbg = s.dbg ∧ (s.srcTaken n).peer = s.peer
   ∧ (s.srcTaken n).onA = s.onA ∧ (s.srcTaken n).ready1 = s.ready1 ∧ (s.srcTaken n).tan.ctx = s.tan.ctx ∧ (s.srcTaken n).tan.firmware = s.tan.firmware ∧ (s.srcTaken n).tan.core = s.tan.core ∧ (s.srcTaken n).tan.die = s.tan.die
   ∧ (s.srcTaken n).free = s.free ∧ (s.srcTaken n).tan.unit = s.tan.unit:= by
  unfold State.srcTaken; split <;> simp [Tandem.die, Tandem.unit]
theorem opens_srcTaken {s : State} {n k v a m xs} (h : s.opens k v a m xs) : (s.srcTaken n).opens k v a m xs := by
  obtain ⟨h1, h2⟩ := h
  have f := srcTaken_frame s n
  refine ⟨?_, ?_⟩
  · rw [translateBytes_congr f.2.1 f.2.2.1 f.2.2.2.2.2.2.2.1]
    have : (s.srcTaken n).myCtx = s.myCtx := by simp [State.myCtx, State.ctx?, f]
    rw [this, f.2.2.2.2.2.2.2.2.2.2.2.1, f.2.2.2.2.2.2.2.2.2.1]; exact h1
  · intro x hx; rw [f.2.2.2.2.2.2.2.1]; exact h2 x hx
theorem resolve_opens {s : State} {k v a n xs} (h : s.opens k v a n xs) : resolve v k a n s = .ok xs (s.marked k xs) := by
  obtain ⟨h1, h2⟩ := h
  unfold resolve
  rw [h1]
  have : xs.all s.stationReady = true := by
    rw [List.all_eq_true]; intro x hx; obtain ⟨a1,a2,a3,a4⟩ := h2 x hx
    simp only [State.stationReady, Bool.or_eq_true]; right; exact a4
  have hh : xs.any (fun x => !x.discarded && regionOf x.pa == Region.host) = false := by
    rw [List.any_eq_false]; intro x hx; rw [(h2 x hx).1]; simp
  simp only [this, hh, Bool.true_eq_false, Bool.false_eq_true, if_false, and_false]; rfl
theorem comparators_none {s : State} {k a n} (h : s.dbg.comparators = []) : comparators k a n s = .ok () s := by
  unfold comparators
  split; rfl
  have : (range 0 8).find? (fun i => (sparseGet {} s.dbg.comparators (8 * coreCluster s.tan.core + i)).hits s k a n) = none := by
    rw [List.find?_eq_none]; intro i _; rw [h]; simp [sparseGet, Comparator.hits]
  rw [this]
theorem scoreboard_none {s : State} {st sh m a n} (h : s.me.copies = []) : scoreboard st sh m a n s = .ok () s := by
  unfold scoreboard; simp [h]
theorem checkErrors_sound {s : State} {vs : List Nat} {xs : List Xlat} (h : ∀ x ∈ xs, lookup s.mem.bad x.pa = none) : checkErrors (vs.zip xs) s = .ok () s := by
  unfold checkErrors
  have : (vs.zip xs).find? (fun x => !x.2.discarded && (lookup s.mem.bad x.2.pa).isSome) = none := by
    rw [List.find?_eq_none]; intro x hx
    have := h x.2 (List.of_mem_zip hx).2
    simp [this]
  rw [this]
theorem beforeDev_none {s : State} {xs : List Xlat} (h : ∀ x ∈ xs, x.dev = false) : beforeDev xs s = .ok () s := by
  unfold beforeDev; rw [if_neg]; simp only [List.any_eq_true]; rintro ⟨x, hx, h2⟩; rw [h x hx] at h2; cases h2
-- runs
theorem viewBytes_len (m : Mem) (d pa n) : (m.viewBytes d pa n).length = n := by induction n generalizing pa <;> simp_all [Mem.viewBytes]
def runGood : List (Nat × Xlat) → Prop
  | [] => True
  | [_] => True
  | x :: y :: r => x.2.pa + 1 = y.2.pa ∧ runGood (y :: r)
theorem runsOf_ne_nil (l : List (Nat × Xlat)) : ∀ r ∈ runsOf l, r ≠ [] := by
  induction l with
  | nil => simp [runsOf]
  | cons x r ih =>
    unfold runsOf
    split
    · simp
    · simp
    · next h =>
      rw [h] at ih
      split
      · intro q hq; simp only [List.mem_cons] at hq; rcases hq with hq | hq
        · subst hq; simp
        · exact ih _ (by simp [hq])
      · intro q hq; simp only [List.mem_cons] at hq; rcases hq with hq | hq | hq
        · subst hq; simp
        · subst hq; simp
        · exact ih _ (by simp [hq])

theorem runsOf_good (l : List (Nat × Xlat)) : (∀ r ∈ runsOf l, runGood r) ∧ (runsOf l).flatten = l := by
  induction l with
  | nil => simp [runsOf]
  | cons x r ih =>
    unfold runsOf
    split
    · next h => rw [h] at ih; simp at ih; subst ih; simp [runGood]
    · next rest h => 
      rw [h] at ih
      exact absurd rfl (runsOf_ne_nil r [] (by rw [h]; simp))
    · next y q rest h =>
      rw [h] at ih
      split
      · next hc =>
        refine ⟨?_, ?_⟩
        · intro rr hr; simp only [List.mem_cons] at hr
          rcases hr with hr | hr
          · subst hr; exact ⟨hc.1, ih.1 _ (by simp)⟩
          · exact ih.1 _ (by simp [hr])
        · simp at ih ⊢; exact ih.2
      · refine ⟨?_, ?_⟩
        · intro rr hr; simp only [List.mem_cons] at hr
          rcases hr with hr | hr | hr
          · subst hr; simp [runGood]
          · subst hr; exact ih.1 _ (by simp)
          · exact ih.1 _ (by simp [hr])
        · simp at ih ⊢; exact ih.2
theorem imageView_none {s : State} (hf : s.tan.firmware.isSome = true) (h : ∀ x ∈ s.away, x.t.cached = false) (pa : Nat) (bs : List Byte) :
    imageView s pa bs = bs := by
  have : s.allTandems.filter (Away.imageMeets s pa bs.length) = [] := by
    rw [List.filter_eq_nil_iff]
    intro x hx
    rcases List.mem_append.mp hx with hx | hx
    · split at hx
      · simp only [List.mem_singleton] at hx; subst hx
        have : s.focusAway.t = s.tan := by unfold State.focusAway; split <;> rfl
        simp [Away.imageMeets, this, Tandem.cached, Option.isNone_iff_eq_none, Option.isSome_iff_ne_none.mp hf]
      · cases hx
    · simp [Away.imageMeets, h x hx]
  unfold imageView; rw [this]
theorem readRun_device {s : State} (hv : s.tan.firmware.isSome = true → ∀ x ∈ s.away, x.t.cached = false)
   (r : List (Nat × Xlat)) (k : AccessKind) (hg : runGood r) (h : ∀ x ∈ r, regionOf x.2.pa = .device ∧ x.2.discarded = false) :
   readRun r k s = .ok (r.map (fun x => s.mem.viewByte s.tan.die x.2.pa)) s := by
  cases r with
  | nil => rfl
  | cons x r =>
    have hx := h x (by simp)
    simp only [readRun, hx.1, hx.2, Bool.false_eq_true, if_false]
    rw [show (if s.tan.firmware.isSome then imageView s x.2.pa (s.mem.viewBytes s.tan.die x.2.pa (x :: r).length)
      else s.mem.viewBytes s.tan.die x.2.pa (x :: r).length) = s.mem.viewBytes s.tan.die x.2.pa (x :: r).length by
        split
        · next hf => exact imageView_none hf (hv hf) _ _
        · rfl]
    congr 1
    clear h hx
    induction r generalizing x with
    | nil => simp [Mem.viewBytes]
    | cons y q ih =>
      have := ih y hg.2
      simp only [List.length_cons, Mem.viewBytes, List.map_cons] at this ⊢
      rw [hg.1, this]
theorem readRuns_device {s : State} (hv : s.tan.firmware.isSome = true → ∀ x ∈ s.away, x.t.cached = false) (l : List (List (Nat × Xlat))) (k : AccessKind) (hg : ∀ r ∈ l, runGood r) (h : ∀ x ∈ l.flatten, regionOf x.2.pa = .device ∧ x.2.discarded = false) :
   readRuns l k s = .ok (l.flatten.map (fun x => s.mem.viewByte s.tan.die x.2.pa)) s := by
  induction l with
  | nil => rfl
  | cons r q ih =>
    unfold readRuns
    rw [exec_bind_ok (readRun_device hv r k (hg r (by simp)) (fun x hx => h x (by simp [hx]))), exec_bind_ok (ih (fun r hr => hg r (by simp [hr])) (fun x hx => h x (by simp at hx ⊢; exact Or.inr hx)))]
    simp
theorem zip_map_zip {α β γ δ : Type} (vs : List α) (xs : List β) (f : α × β → γ) (g : α × γ → δ) :
    (vs.zip ((vs.zip xs).map f)).map g = (vs.zip xs).map (fun e => g (e.1, f e)) := by
  induction vs generalizing xs with
  | nil => rfl
  | cons v r ih =>
    cases xs with
    | nil => rfl
    | cons x q => simp only [List.zip_cons_cons, List.map_cons, ih]

theorem loadGlobal_opens {s : State} {v m a n xs} (h : s.opens .load v a n xs) (hs : s.sound xs) (hu : s.unwatched) :
    ∃ ns, loadGlobal v m a n s = .ok ((s.marked .load xs).globalBytes a n xs) ((s.marked .load xs).noted ns) := by
  have f := marked_frame s .load xs
  unfold loadGlobal
  rw [exec_bind_ok (resolve_opens h), exec_bind_ok (comparators_none (by rw [f.2.2.2.2.1]; exact hu.2.1)), exec_bind_ok (scoreboard_none (by rw [f.1]; exact hu.1))]
  dsimp only
  have hd := h.2
  rw [exec_bind_ok (beforeDev_none (fun x hx => (hd x hx).2.2.1)), exec_bind_ok (checkErrors_sound (by rw [f.2.2.2.2.2.2.1]; exact hs))]
  have g := runsOf_good (((range a n).map (fun b => b % 2 ^ 64)).zip xs)
  rw [exec_bind_ok (readRuns_device (by rw [f.2.1, f.2.2.2.2.2.2.2.2.1]; exact hu.2.2.2) _ _ g.1 (by rw [g.2]; intro x hx; have := (hd x.2 (List.of_mem_zip hx).2); exact ⟨this.1, this.2.1⟩))]
  rw [g.2, exec_getState_bind]
  have he : (s.marked .load xs).extrapolating = none := by
    have := hu.2.2.1; unfold State.extrapolating at this ⊢; rw [f.1]; exact this
  rw [he]
  dsimp only
  rw [exec_pure_bind]
  unfold note
  rw [exec_modState_bind, exec_pure, zip_map_zip]
  exact ⟨_, rfl⟩

end Sys2Proof.Machine
end

