-- ==== Sys2Proof/Laws/PerInstr.lean ====
section
/-! SUPPORT. The round trip of the encoder and the decoder, one lemma per constructor (R142, R148): what encode writes for a
well-formed instruction, decodeWord reads back, with every operand. -/

set_option Elab.async false

namespace Sys2Proof.Laws

theorem packF3_slots (maj d a b fn : Nat) (hmaj : maj < 64) (hd : d < 128) (ha : a < 128) (hb : b < 128) (hfn : fn < 32) :
    (packF3 maj d a b fn) % 2 ^ 32 = packF3 maj d a b fn ∧ fld (packF3 maj d a b fn) 0 6 = maj ∧
    fld (packF3 maj d a b fn) 6 7 = d ∧
    fld (packF3 maj d a b fn) 13 7 = a ∧
    fld (packF3 maj d a b fn) 20 7 = b ∧
    fld (packF3 maj d a b fn) 27 5 = fn := by
  simp only [fld, packF3]; omega

theorem packF3V_slots (maj d a b m fn : Nat) (hmaj : maj < 64) (hd : d < 128) (ha : a < 128) (hb : b < 128) (hm : m < 2) (hfn : fn < 16) :
    (packF3V maj d a b m fn) % 2 ^ 32 = packF3V maj d a b m fn ∧ fld (packF3V maj d a b m fn) 0 6 = maj ∧
    fld (packF3V maj d a b m fn) 6 7 = d ∧
    fld (packF3V maj d a b m fn) 13 7 = a ∧
    fld (packF3V maj d a b m fn) 20 7 = b ∧
    fld (packF3V maj d a b m fn) 27 1 = m ∧
    fld (packF3V maj d a b m fn) 28 4 = fn := by
  simp only [fld, packF3V]; omega

theorem packFI2_slots (maj d a fn i : Nat) (hmaj : maj < 64) (hd : d < 128) (ha : a < 128) (hfn : fn < 4) (hi : i < 1024) :
    (packFI2 maj d a fn i) % 2 ^ 32 = packFI2 maj d a fn i ∧ fld (packFI2 maj d a fn i) 0 6 = maj ∧
    fld (packFI2 maj d a fn i) 6 7 = d ∧
    fld (packFI2 maj d a fn i) 13 7 = a ∧
    fld (packFI2 maj d a fn i) 20 2 = fn ∧
    fld (packFI2 maj d a fn i) 22 10 = i := by
  simp only [fld, packFI2]; omega

theorem packFC_slots (maj d fn a c : Nat) (hmaj : maj < 64) (hd : d < 32) (hfn : fn < 4) (ha : a < 128) (hc : c < 4096) :
    (packFC maj d fn a c) % 2 ^ 32 = packFC maj d fn a c ∧ fld (packFC maj d fn a c) 0 6 = maj ∧
    fld (packFC maj d fn a c) 6 5 = d ∧
    fld (packFC maj d fn a c) 11 2 = fn ∧
    fld (packFC maj d fn a c) 13 7 = a ∧
    fld (packFC maj d fn a c) 20 12 = c := by
  simp only [fld, packFC]; omega

theorem packFU_slots (maj d i : Nat) (hmaj : maj < 64) (hd : d < 128) (hi : i < 524288) :
    (packFU maj d i) % 2 ^ 32 = packFU maj d i ∧ fld (packFU maj d i) 0 6 = maj ∧
    fld (packFU maj d i) 6 7 = d ∧
    fld (packFU maj d i) 13 19 = i := by
  simp only [fld, packFU]; omega

theorem packFBZ_slots (maj a fn o : Nat) (hmaj : maj < 64) (ha : a < 128) (hfn : fn < 8) (ho : o < 65536) :
    (packFBZ maj a fn o) % 2 ^ 32 = packFBZ maj a fn o ∧ fld (packFBZ maj a fn o) 0 6 = maj ∧
    fld (packFBZ maj a fn o) 6 7 = a ∧
    fld (packFBZ maj a fn o) 13 3 = fn ∧
    fld (packFBZ maj a fn o) 16 16 = o := by
  simp only [fld, packFBZ]; omega

theorem packFB2_slots (maj a b fn o : Nat) (hmaj : maj < 64) (ha : a < 128) (hb : b < 128) (hfn : fn < 8) (ho : o < 512) :
    (packFB2 maj a b fn o) % 2 ^ 32 = packFB2 maj a b fn o ∧ fld (packFB2 maj a b fn o) 0 6 = maj ∧
    fld (packFB2 maj a b fn o) 6 7 = a ∧
    fld (packFB2 maj a b fn o) 13 7 = b ∧
    fld (packFB2 maj a b fn o) 20 3 = fn ∧
    fld (packFB2 maj a b fn o) 23 9 = o := by
  simp only [fld, packFB2]; omega

theorem packFJ_slots (maj o : Nat) (hmaj : maj < 64) (ho : o < 67108864) :
    (packFJ maj o) % 2 ^ 32 = packFJ maj o ∧ fld (packFJ maj o) 0 6 = maj ∧
    fld (packFJ maj o) 6 26 = o := by
  simp only [fld, packFJ]; omega

theorem packFX_slots (maj d m s p : Nat) (hmaj : maj < 64) (hd : d < 128) (hm : m < 2) (hs : s < 512) (hp : p < 512) :
    (packFX maj d m s p) % 2 ^ 32 = packFX maj d m s p ∧ fld (packFX maj d m s p) 0 6 = maj ∧
    fld (packFX maj d m s p) 6 7 = d ∧
    fld (packFX maj d m s p) 13 1 = m ∧
    fld (packFX maj d m s p) 14 9 = s ∧
    fld (packFX maj d m s p) 23 9 = p := by
  simp only [fld, packFX]; omega

theorem packFV_slots (maj d a i : Nat) (hmaj : maj < 64) (hd : d < 128) (ha : a < 128) (hi : i < 4096) :
    (packFV maj d a i) % 2 ^ 32 = packFV maj d a i ∧ fld (packFV maj d a i) 0 6 = maj ∧
    fld (packFV maj d a i) 6 7 = d ∧
    fld (packFV maj d a i) 13 7 = a ∧
    fld (packFV maj d a i) 20 12 = i := by
  simp only [fld, packFV]; omega

theorem packFM_slots (maj z y a b fn s : Nat) (hmaj : maj < 64) (hz : z < 16) (hy : y < 8) (ha : a < 128) (hb : b < 128) (hfn : fn < 8) (hs : s < 4) :
    (packFM maj z y a b fn s) % 2 ^ 32 = packFM maj z y a b fn s ∧ fld (packFM maj z y a b fn s) 0 6 = maj ∧
    fld (packFM maj z y a b fn s) 6 4 = z ∧
    fld (packFM maj z y a b fn s) 10 3 = y ∧
    fld (packFM maj z y a b fn s) 13 7 = a ∧
    fld (packFM maj z y a b fn s) 20 7 = b ∧
    fld (packFM maj z y a b fn s) 27 3 = fn ∧
    fld (packFM maj z y a b fn s) 30 2 = s := by
  simp only [fld, packFM]; omega

theorem packFA_slots (maj d a b z fn : Nat) (hmaj : maj < 64) (hd : d < 128) (ha : a < 128) (hb : b < 128) (hz : z < 2) (hfn : fn < 16) :
    (packFA maj d a b z fn) % 2 ^ 32 = packFA maj d a b z fn ∧ fld (packFA maj d a b z fn) 0 6 = maj ∧
    fld (packFA maj d a b z fn) 6 7 = d ∧
    fld (packFA maj d a b z fn) 13 7 = a ∧
    fld (packFA maj d a b z fn) 20 7 = b ∧
    fld (packFA maj d a b z fn) 27 1 = z ∧
    fld (packFA maj d a b z fn) 28 4 = fn := by
  simp only [fld, packFA]; omega

theorem decodeNat_01 (n : Nat) (h : fld n 0 6 = 1) : decodeNat n = decodeMajor01 n := by
  unfold decodeNat; simp only [h]

theorem decodeNat_02 (n : Nat) (h : fld n 0 6 = 2) : decodeNat n = decodeMajor02 n := by
  unfold decodeNat; simp only [h]

theorem decodeNat_03 (n : Nat) (h : fld n 0 6 = 3) : decodeNat n = decodeMajor03 n := by
  unfold decodeNat; simp only [h]

theorem decodeNat_04 (n : Nat) (h : fld n 0 6 = 4) : decodeNat n = decodeMajor04 n := by
  unfold decodeNat; simp only [h]

theorem decodeNat_05 (n : Nat) (h : fld n 0 6 = 5) : decodeNat n = decodeMajor05 n := by
  unfold decodeNat; simp only [h]

theorem decodeNat_06 (n : Nat) (h : fld n 0 6 = 6) : decodeNat n = decodeMajor06 n := by
  unfold decodeNat; simp only [h]

theorem decodeNat_07 (n : Nat) (h : fld n 0 6 = 7) : decodeNat n = decodeMajor07 n := by
  unfold decodeNat; simp only [h]

theorem decodeNat_08 (n : Nat) (h : fld n 0 6 = 8) : decodeNat n = decodeMajor08 n := by
  unfold decodeNat; simp only [h]

theorem decodeNat_09 (n : Nat) (h : fld n 0 6 = 9) : decodeNat n = decodeMajor09 n := by
  unfold decodeNat; simp only [h]

theorem decodeNat_0A (n : Nat) (h : fld n 0 6 = 10) : decodeNat n = decodeMajor0A n := by
  unfold decodeNat; simp only [h]

theorem decodeNat_0B (n : Nat) (h : fld n 0 6 = 11) : decodeNat n = decodeMajor0B n := by
  unfold decodeNat; simp only [h]

theorem decodeNat_0C (n : Nat) (h : fld n 0 6 = 12) : decodeNat n = decodeMajor0C n := by
  unfold decodeNat; simp only [h]

theorem decodeNat_0D (n : Nat) (h : fld n 0 6 = 13) : decodeNat n = decodeMajor0D n := by
  unfold decodeNat; simp only [h]

theorem decodeNat_0E (n : Nat) (h : fld n 0 6 = 14) : decodeNat n = decodeMajor0E n := by
  unfold decodeNat; simp only [h]

theorem decodeNat_0F (n : Nat) (h : fld n 0 6 = 15) : decodeNat n = decodeMajor0F n := by
  unfold decodeNat; simp only [h]

theorem decodeNat_10 (n : Nat) (h : fld n 0 6 = 16) : decodeNat n = decodeMajor10 n := by
  unfold decodeNat; simp only [h]

theorem decodeNat_11 (n : Nat) (h : fld n 0 6 = 17) : decodeNat n = decodeMajor11 n := by
  unfold decodeNat; simp only [h]

theorem decodeNat_12 (n : Nat) (h : fld n 0 6 = 18) : decodeNat n = decodeMajor12 n := by
  unfold decodeNat; simp only [h]

theorem decodeNat_13 (n : Nat) (h : fld n 0 6 = 19) : decodeNat n = decodeMajor13 n := by
  unfold decodeNat; simp only [h]

theorem decodeNat_14 (n : Nat) (h : fld n 0 6 = 20) : decodeNat n = decodeMajor14 n := by
  unfold decodeNat; simp only [h]

theorem decodeNat_15 (n : Nat) (h : fld n 0 6 = 21) : decodeNat n = decodeMajor14 n := by
  unfold decodeNat; simp only [h]

theorem decodeNat_16 (n : Nat) (h : fld n 0 6 = 22) : decodeNat n = decodeMajor14 n := by
  unfold decodeNat; simp only [h]

theorem decodeNat_17 (n : Nat) (h : fld n 0 6 = 23) : decodeNat n = decodeMajor14 n := by
  unfold decodeNat; simp only [h]

theorem decodeNat_18 (n : Nat) (h : fld n 0 6 = 24) : decodeNat n = decodeMajor18 n := by
  unfold decodeNat; simp only [h]

theorem decodeNat_19 (n : Nat) (h : fld n 0 6 = 25) : decodeNat n = decodeMajor18 n := by
  unfold decodeNat; simp only [h]

theorem decodeNat_1A (n : Nat) (h : fld n 0 6 = 26) : decodeNat n = decodeMajor18 n := by
  unfold decodeNat; simp only [h]

theorem decodeNat_1B (n : Nat) (h : fld n 0 6 = 27) : decodeNat n = decodeMajor18 n := by
  unfold decodeNat; simp only [h]

theorem decodeNat_1C (n : Nat) (h : fld n 0 6 = 28) : decodeNat n = decodeMajor1C n := by
  unfold decodeNat; simp only [h]

theorem decodeNat_1D (n : Nat) (h : fld n 0 6 = 29) : decodeNat n = decodeMajor1D n := by
  unfold decodeNat; simp only [h]

theorem decodeNat_1E (n : Nat) (h : fld n 0 6 = 30) : decodeNat n = decodeMajor1E n := by
  unfold decodeNat; simp only [h]

theorem decodeNat_1F (n : Nat) (h : fld n 0 6 = 31) : decodeNat n = decodeMajor1F n := by
  unfold decodeNat; simp only [h]

theorem decodeNat_20 (n : Nat) (h : fld n 0 6 = 32) : decodeNat n = decodeMajor20 n := by
  unfold decodeNat; simp only [h]

theorem decodeNat_21 (n : Nat) (h : fld n 0 6 = 33) : decodeNat n = decodeMajor21 n := by
  unfold decodeNat; simp only [h]

theorem decodeNat_22 (n : Nat) (h : fld n 0 6 = 34) : decodeNat n = decodeMajor22 n := by
  unfold decodeNat; simp only [h]

theorem decodeNat_23 (n : Nat) (h : fld n 0 6 = 35) : decodeNat n = decodeMajor23 n := by
  unfold decodeNat; simp only [h]

theorem decodeNat_24 (n : Nat) (h : fld n 0 6 = 36) : decodeNat n = decodeMajor24 n := by
  unfold decodeNat; simp only [h]

theorem decodeNat_25 (n : Nat) (h : fld n 0 6 = 37) : decodeNat n = decodeMajor25 n := by
  unfold decodeNat; simp only [h]

theorem decodeNat_26 (n : Nat) (h : fld n 0 6 = 38) : decodeNat n = decodeMajor26 n := by
  unfold decodeNat; simp only [h]

theorem decodeNat_27 (n : Nat) (h : fld n 0 6 = 39) : decodeNat n = decodeMajor27 n := by
  unfold decodeNat; simp only [h]

theorem decodeNat_28 (n : Nat) (h : fld n 0 6 = 40) : decodeNat n = decodeMajor28 n := by
  unfold decodeNat; simp only [h]

theorem decodeNat_29 (n : Nat) (h : fld n 0 6 = 41) : decodeNat n = decodeMajor29 n := by
  unfold decodeNat; simp only [h]

theorem decodeNat_2A (n : Nat) (h : fld n 0 6 = 42) : decodeNat n = decodeMajor2A n := by
  unfold decodeNat; simp only [h]

theorem decodeNat_2B (n : Nat) (h : fld n 0 6 = 43) : decodeNat n = decodeMajor2B n := by
  unfold decodeNat; simp only [h]

theorem decodeNat_2C (n : Nat) (h : fld n 0 6 = 44) : decodeNat n = decodeMajor2C n := by
  unfold decodeNat; simp only [h]

theorem decodeNat_2D (n : Nat) (h : fld n 0 6 = 45) : decodeNat n = decodeMajor2D n := by
  unfold decodeNat; simp only [h]

theorem decodeNat_2E (n : Nat) (h : fld n 0 6 = 46) : decodeNat n = decodeMajor2E n := by
  unfold decodeNat; simp only [h]

theorem decodeNat_2F (n : Nat) (h : fld n 0 6 = 47) : decodeNat n = decodeMajor2F n := by
  unfold decodeNat; simp only [h]

theorem decodeNat_30 (n : Nat) (h : fld n 0 6 = 48) : decodeNat n = decodeMajor30 n := by
  unfold decodeNat; simp only [h]

theorem decodeNat_31 (n : Nat) (h : fld n 0 6 = 49) : decodeNat n = decodeMajor31 n := by
  unfold decodeNat; simp only [h]

theorem decodeNat_32 (n : Nat) (h : fld n 0 6 = 50) : decodeNat n = decodeMajor32 n := by
  unfold decodeNat; simp only [h]

theorem decodeNat_33 (n : Nat) (h : fld n 0 6 = 51) : decodeNat n = decodeMajor33 n := by
  unfold decodeNat; simp only [h]

theorem decodeNat_34 (n : Nat) (h : fld n 0 6 = 52) : decodeNat n = decodeMajor34 n := by
  unfold decodeNat; simp only [h]

theorem decodeNat_35 (n : Nat) (h : fld n 0 6 = 53) : decodeNat n = decodeMajor35 n := by
  unfold decodeNat; simp only [h]

theorem decodeNat_36 (n : Nat) (h : fld n 0 6 = 54) : decodeNat n = decodeMajor36 n := by
  unfold decodeNat; simp only [h]

theorem decodeNat_37 (n : Nat) (h : fld n 0 6 = 55) : decodeNat n = decodeMajor37 n := by
  unfold decodeNat; simp only [h]

theorem decodeNat_38 (n : Nat) (h : fld n 0 6 = 56) : decodeNat n = decodeMajor38 n := by
  unfold decodeNat; simp only [h]

theorem decodeNat_39 (n : Nat) (h : fld n 0 6 = 57) : decodeNat n = decodeMajor39 n := by
  unfold decodeNat; simp only [h]

end Sys2Proof.Laws

namespace Sys2Proof.Laws.RoundTrip

set_option linter.unusedVariables false
set_option linter.unusedSimpArgs false

/-- Decoding the word of a well-formed instruction gives the instruction back. -/
def Statement (i : Instr) : Prop :=
  i.wellFormed = true → i.hasWord = true → decodeWord (encode i) = .ok i

theorem add (d : BitVec 7) (a : BitVec 7) (b : BitVec 7) : Statement (.add d a b) := by
  intro _ _
  have hd := d.isLt
  have ha := a.isLt
  have hb := b.isLt
  obtain ⟨e, e0, e_d, e_a, e_b, e_fn⟩ := packF3_slots 1 d.toNat a.toNat b.toNat 0 (by omega) (by omega) (by omega) (by omega) (by omega)
  simp only [decodeWord, encode, encodeNat, BitVec.toNat_ofNat]
  rw [e, decodeNat_01 _ e0]
  unfold decodeMajor01
  simp only [e_fn]
  simp [legalIf, e_d, e_a, e_b, Instr.wellFormed]

theorem sub (d : BitVec 7) (a : BitVec 7) (b : BitVec 7) : Statement (.sub d a b) := by
  intro _ _
  have hd := d.isLt
  have ha := a.isLt
  have hb := b.isLt
  obtain ⟨e, e0, e_d, e_a, e_b, e_fn⟩ := packF3_slots 1 d.toNat a.toNat b.toNat 1 (by omega) (by omega) (by omega) (by omega) (by omega)
  simp only [decodeWord, encode, encodeNat, BitVec.toNat_ofNat]
  rw [e, decodeNat_01 _ e0]
  unfold decodeMajor01
  simp only [e_fn]
  simp [legalIf, e_d, e_a, e_b, Instr.wellFormed]

theorem and (d : BitVec 7) (a : BitVec 7) (b : BitVec 7) : Statement (.and d a b) := by
  intro _ _
  have hd := d.isLt
  have ha := a.isLt
  have hb := b.isLt
  obtain ⟨e, e0, e_d, e_a, e_b, e_fn⟩ := packF3_slots 1 d.toNat a.toNat b.toNat 2 (by omega) (by omega) (by omega) (by omega) (by omega)
  simp only [decodeWord, encode, encodeNat, BitVec.toNat_ofNat]
  rw [e, decodeNat_01 _ e0]
  unfold decodeMajor01
  simp only [e_fn]
  simp [legalIf, e_d, e_a, e_b, Instr.wellFormed]

theorem or (d : BitVec 7) (a : BitVec 7) (b : BitVec 7) : Statement (.or d a b) := by
  intro _ _
  have hd := d.isLt
  have ha := a.isLt
  have hb := b.isLt
  obtain ⟨e, e0, e_d, e_a, e_b, e_fn⟩ := packF3_slots 1 d.toNat a.toNat b.toNat 3 (by omega) (by omega) (by omega) (by omega) (by omega)
  simp only [decodeWord, encode, encodeNat, BitVec.toNat_ofNat]
  rw [e, decodeNat_01 _ e0]
  unfold decodeMajor01
  simp only [e_fn]
  simp [legalIf, e_d, e_a, e_b, Instr.wellFormed]

theorem xor (d : BitVec 7) (a : BitVec 7) (b : BitVec 7) : Statement (.xor d a b) := by
  intro _ _
  have hd := d.isLt
  have ha := a.isLt
  have hb := b.isLt
  obtain ⟨e, e0, e_d, e_a, e_b, e_fn⟩ := packF3_slots 1 d.toNat a.toNat b.toNat 4 (by omega) (by omega) (by omega) (by omega) (by omega)
  simp only [decodeWord, encode, encodeNat, BitVec.toNat_ofNat]
  rw [e, decodeNat_01 _ e0]
  unfold decodeMajor01
  simp only [e_fn]
  simp [legalIf, e_d, e_a, e_b, Instr.wellFormed]

theorem andn (d : BitVec 7) (a : BitVec 7) (b : BitVec 7) : Statement (.andn d a b) := by
  intro _ _
  have hd := d.isLt
  have ha := a.isLt
  have hb := b.isLt
  obtain ⟨e, e0, e_d, e_a, e_b, e_fn⟩ := packF3_slots 1 d.toNat a.toNat b.toNat 5 (by omega) (by omega) (by omega) (by omega) (by omega)
  simp only [decodeWord, encode, encodeNat, BitVec.toNat_ofNat]
  rw [e, decodeNat_01 _ e0]
  unfold decodeMajor01
  simp only [e_fn]
  simp [legalIf, e_d, e_a, e_b, Instr.wellFormed]

theorem sll (d : BitVec 7) (a : BitVec 7) (b : BitVec 7) : Statement (.sll d a b) := by
  intro _ _
  have hd := d.isLt
  have ha := a.isLt
  have hb := b.isLt
  obtain ⟨e, e0, e_d, e_a, e_b, e_fn⟩ := packF3_slots 1 d.toNat a.toNat b.toNat 6 (by omega) (by omega) (by omega) (by omega) (by omega)
  simp only [decodeWord, encode, encodeNat, BitVec.toNat_ofNat]
  rw [e, decodeNat_01 _ e0]
  unfold decodeMajor01
  simp only [e_fn]
  simp [legalIf, e_d, e_a, e_b, Instr.wellFormed]

theorem srl (d : BitVec 7) (a : BitVec 7) (b : BitVec 7) : Statement (.srl d a b) := by
  intro _ _
  have hd := d.isLt
  have ha := a.isLt
  have hb := b.isLt
  obtain ⟨e, e0, e_d, e_a, e_b, e_fn⟩ := packF3_slots 1 d.toNat a.toNat b.toNat 7 (by omega) (by omega) (by omega) (by omega) (by omega)
  simp only [decodeWord, encode, encodeNat, BitVec.toNat_ofNat]
  rw [e, decodeNat_01 _ e0]
  unfold decodeMajor01
  simp only [e_fn]
  simp [legalIf, e_d, e_a, e_b, Instr.wellFormed]

theorem sra (d : BitVec 7) (a : BitVec 7) (b : BitVec 7) : Statement (.sra d a b) := by
  intro _ _
  have hd := d.isLt
  have ha := a.isLt
  have hb := b.isLt
  obtain ⟨e, e0, e_d, e_a, e_b, e_fn⟩ := packF3_slots 1 d.toNat a.toNat b.toNat 8 (by omega) (by omega) (by omega) (by omega) (by omega)
  simp only [decodeWord, encode, encodeNat, BitVec.toNat_ofNat]
  rw [e, decodeNat_01 _ e0]
  unfold decodeMajor01
  simp only [e_fn]
  simp [legalIf, e_d, e_a, e_b, Instr.wellFormed]

theorem slt (d : BitVec 7) (a : BitVec 7) (b : BitVec 7) : Statement (.slt d a b) := by
  intro _ _
  have hd := d.isLt
  have ha := a.isLt
  have hb := b.isLt
  obtain ⟨e, e0, e_d, e_a, e_b, e_fn⟩ := packF3_slots 1 d.toNat a.toNat b.toNat 9 (by omega) (by omega) (by omega) (by omega) (by omega)
  simp only [decodeWord, encode, encodeNat, BitVec.toNat_ofNat]
  rw [e, decodeNat_01 _ e0]
  unfold decodeMajor01
  simp only [e_fn]
  simp [legalIf, e_d, e_a, e_b, Instr.wellFormed]

theorem sltn (d : BitVec 7) (a : BitVec 7) (b : BitVec 7) : Statement (.sltn d a b) := by
  intro _ _
  have hd := d.isLt
  have ha := a.isLt
  have hb := b.isLt
  obtain ⟨e, e0, e_d, e_a, e_b, e_fn⟩ := packF3_slots 1 d.toNat a.toNat b.toNat 10 (by omega) (by omega) (by omega) (by omega) (by omega)
  simp only [decodeWord, encode, encodeNat, BitVec.toNat_ofNat]
  rw [e, decodeNat_01 _ e0]
  unfold decodeMajor01
  simp only [e_fn]
  simp [legalIf, e_d, e_a, e_b, Instr.wellFormed]

theorem min (d : BitVec 7) (a : BitVec 7) (b : BitVec 7) : Statement (.min d a b) := by
  intro _ _
  have hd := d.isLt
  have ha := a.isLt
  have hb := b.isLt
  obtain ⟨e, e0, e_d, e_a, e_b, e_fn⟩ := packF3_slots 1 d.toNat a.toNat b.toNat 11 (by omega) (by omega) (by omega) (by omega) (by omega)
  simp only [decodeWord, encode, encodeNat, BitVec.toNat_ofNat]
  rw [e, decodeNat_01 _ e0]
  unfold decodeMajor01
  simp only [e_fn]
  simp [legalIf, e_d, e_a, e_b, Instr.wellFormed]

theorem max (d : BitVec 7) (a : BitVec 7) (b : BitVec 7) : Statement (.max d a b) := by
  intro _ _
  have hd := d.isLt
  have ha := a.isLt
  have hb := b.isLt
  obtain ⟨e, e0, e_d, e_a, e_b, e_fn⟩ := packF3_slots 1 d.toNat a.toNat b.toNat 12 (by omega) (by omega) (by omega) (by omega) (by omega)
  simp only [decodeWord, encode, encodeNat, BitVec.toNat_ofNat]
  rw [e, decodeNat_01 _ e0]
  unfold decodeMajor01
  simp only [e_fn]
  simp [legalIf, e_d, e_a, e_b, Instr.wellFormed]

theorem minn (d : BitVec 7) (a : BitVec 7) (b : BitVec 7) : Statement (.minn d a b) := by
  intro _ _
  have hd := d.isLt
  have ha := a.isLt
  have hb := b.isLt
  obtain ⟨e, e0, e_d, e_a, e_b, e_fn⟩ := packF3_slots 1 d.toNat a.toNat b.toNat 13 (by omega) (by omega) (by omega) (by omega) (by omega)
  simp only [decodeWord, encode, encodeNat, BitVec.toNat_ofNat]
  rw [e, decodeNat_01 _ e0]
  unfold decodeMajor01
  simp only [e_fn]
  simp [legalIf, e_d, e_a, e_b, Instr.wellFormed]

theorem maxn (d : BitVec 7) (a : BitVec 7) (b : BitVec 7) : Statement (.maxn d a b) := by
  intro _ _
  have hd := d.isLt
  have ha := a.isLt
  have hb := b.isLt
  obtain ⟨e, e0, e_d, e_a, e_b, e_fn⟩ := packF3_slots 1 d.toNat a.toNat b.toNat 14 (by omega) (by omega) (by omega) (by omega) (by omega)
  simp only [decodeWord, encode, encodeNat, BitVec.toNat_ofNat]
  rw [e, decodeNat_01 _ e0]
  unfold decodeMajor01
  simp only [e_fn]
  simp [legalIf, e_d, e_a, e_b, Instr.wellFormed]

theorem mul (d : BitVec 7) (a : BitVec 7) (b : BitVec 7) : Statement (.mul d a b) := by
  intro _ _
  have hd := d.isLt
  have ha := a.isLt
  have hb := b.isLt
  obtain ⟨e, e0, e_d, e_a, e_b, e_fn⟩ := packF3_slots 1 d.toNat a.toNat b.toNat 15 (by omega) (by omega) (by omega) (by omega) (by omega)
  simp only [decodeWord, encode, encodeNat, BitVec.toNat_ofNat]
  rw [e, decodeNat_01 _ e0]
  unfold decodeMajor01
  simp only [e_fn]
  simp [legalIf, e_d, e_a, e_b, Instr.wellFormed]

theorem mulh (d : BitVec 7) (a : BitVec 7) (b : BitVec 7) : Statement (.mulh d a b) := by
  intro _ _
  have hd := d.isLt
  have ha := a.isLt
  have hb := b.isLt
  obtain ⟨e, e0, e_d, e_a, e_b, e_fn⟩ := packF3_slots 1 d.toNat a.toNat b.toNat 16 (by omega) (by omega) (by omega) (by omega) (by omega)
  simp only [decodeWord, encode, encodeNat, BitVec.toNat_ofNat]
  rw [e, decodeNat_01 _ e0]
  unfold decodeMajor01
  simp only [e_fn]
  simp [legalIf, e_d, e_a, e_b, Instr.wellFormed]

theorem mulhn (d : BitVec 7) (a : BitVec 7) (b : BitVec 7) : Statement (.mulhn d a b) := by
  intro _ _
  have hd := d.isLt
  have ha := a.isLt
  have hb := b.isLt
  obtain ⟨e, e0, e_d, e_a, e_b, e_fn⟩ := packF3_slots 1 d.toNat a.toNat b.toNat 17 (by omega) (by omega) (by omega) (by omega) (by omega)
  simp only [decodeWord, encode, encodeNat, BitVec.toNat_ofNat]
  rw [e, decodeNat_01 _ e0]
  unfold decodeMajor01
  simp only [e_fn]
  simp [legalIf, e_d, e_a, e_b, Instr.wellFormed]

theorem div (d : BitVec 7) (a : BitVec 7) (b : BitVec 7) : Statement (.div d a b) := by
  intro _ _
  have hd := d.isLt
  have ha := a.isLt
  have hb := b.isLt
  obtain ⟨e, e0, e_d, e_a, e_b, e_fn⟩ := packF3_slots 1 d.toNat a.toNat b.toNat 18 (by omega) (by omega) (by omega) (by omega) (by omega)
  simp only [decodeWord, encode, encodeNat, BitVec.toNat_ofNat]
  rw [e, decodeNat_01 _ e0]
  unfold decodeMajor01
  simp only [e_fn]
  simp [legalIf, e_d, e_a, e_b, Instr.wellFormed]

theorem divn (d : BitVec 7) (a : BitVec 7) (b : BitVec 7) : Statement (.divn d a b) := by
  intro _ _
  have hd := d.isLt
  have ha := a.isLt
  have hb := b.isLt
  obtain ⟨e, e0, e_d, e_a, e_b, e_fn⟩ := packF3_slots 1 d.toNat a.toNat b.toNat 19 (by omega) (by omega) (by omega) (by omega) (by omega)
  simp only [decodeWord, encode, encodeNat, BitVec.toNat_ofNat]
  rw [e, decodeNat_01 _ e0]
  unfold decodeMajor01
  simp only [e_fn]
  simp [legalIf, e_d, e_a, e_b, Instr.wellFormed]

theorem rem (d : BitVec 7) (a : BitVec 7) (b : BitVec 7) : Statement (.rem d a b) := by
  intro _ _
  have hd := d.isLt
  have ha := a.isLt
  have hb := b.isLt
  obtain ⟨e, e0, e_d, e_a, e_b, e_fn⟩ := packF3_slots 1 d.toNat a.toNat b.toNat 20 (by omega) (by omega) (by omega) (by omega) (by omega)
  simp only [decodeWord, encode, encodeNat, BitVec.toNat_ofNat]
  rw [e, decodeNat_01 _ e0]
  unfold decodeMajor01
  simp only [e_fn]
  simp [legalIf, e_d, e_a, e_b, Instr.wellFormed]

theorem remn (d : BitVec 7) (a : BitVec 7) (b : BitVec 7) : Statement (.remn d a b) := by
  intro _ _
  have hd := d.isLt
  have ha := a.isLt
  have hb := b.isLt
  obtain ⟨e, e0, e_d, e_a, e_b, e_fn⟩ := packF3_slots 1 d.toNat a.toNat b.toNat 21 (by omega) (by omega) (by omega) (by omega) (by omega)
  simp only [decodeWord, encode, encodeNat, BitVec.toNat_ofNat]
  rw [e, decodeNat_01 _ e0]
  unfold decodeMajor01
  simp only [e_fn]
  simp [legalIf, e_d, e_a, e_b, Instr.wellFormed]

theorem clz (d : BitVec 7) (a : BitVec 7) : Statement (.clz d a) := by
  intro _ _
  have hd := d.isLt
  have ha := a.isLt
  obtain ⟨e, e0, e_d, e_a, e_b, e_fn⟩ := packF3_slots 1 d.toNat a.toNat 0 22 (by omega) (by omega) (by omega) (by omega) (by omega)
  simp only [decodeWord, encode, encodeNat, BitVec.toNat_ofNat]
  rw [e, decodeNat_01 _ e0]
  unfold decodeMajor01
  simp only [e_fn]
  simp [legalIf, e_d, e_a, e_b, Instr.wellFormed]

theorem ctz (d : BitVec 7) (a : BitVec 7) : Statement (.ctz d a) := by
  intro _ _
  have hd := d.isLt
  have ha := a.isLt
  obtain ⟨e, e0, e_d, e_a, e_b, e_fn⟩ := packF3_slots 1 d.toNat a.toNat 0 23 (by omega) (by omega) (by omega) (by omega) (by omega)
  simp only [decodeWord, encode, encodeNat, BitVec.toNat_ofNat]
  rw [e, decodeNat_01 _ e0]
  unfold decodeMajor01
  simp only [e_fn]
  simp [legalIf, e_d, e_a, e_b, Instr.wellFormed]

theorem popc (d : BitVec 7) (a : BitVec 7) : Statement (.popc d a) := by
  intro _ _
  have hd := d.isLt
  have ha := a.isLt
  obtain ⟨e, e0, e_d, e_a, e_b, e_fn⟩ := packF3_slots 1 d.toNat a.toNat 0 24 (by omega) (by omega) (by omega) (by omega) (by omega)
  simp only [decodeWord, encode, encodeNat, BitVec.toNat_ofNat]
  rw [e, decodeNat_01 _ e0]
  unfold decodeMajor01
  simp only [e_fn]
  simp [legalIf, e_d, e_a, e_b, Instr.wellFormed]

theorem addw (d : BitVec 7) (a : BitVec 7) (b : BitVec 7) : Statement (.addw d a b) := by
  intro _ _
  have hd := d.isLt
  have ha := a.isLt
  have hb := b.isLt
  obtain ⟨e, e0, e_d, e_a, e_b, e_fn⟩ := packF3_slots 1 d.toNat a.toNat b.toNat 25 (by omega) (by omega) (by omega) (by omega) (by omega)
  simp only [decodeWord, encode, encodeNat, BitVec.toNat_ofNat]
  rw [e, decodeNat_01 _ e0]
  unfold decodeMajor01
  simp only [e_fn]
  simp [legalIf, e_d, e_a, e_b, Instr.wellFormed]

theorem subw (d : BitVec 7) (a : BitVec 7) (b : BitVec 7) : Statement (.subw d a b) := by
  intro _ _
  have hd := d.isLt
  have ha := a.isLt
  have hb := b.isLt
  obtain ⟨e, e0, e_d, e_a, e_b, e_fn⟩ := packF3_slots 1 d.toNat a.toNat b.toNat 26 (by omega) (by omega) (by omega) (by omega) (by omega)
  simp only [decodeWord, encode, encodeNat, BitVec.toNat_ofNat]
  rw [e, decodeNat_01 _ e0]
  unfold decodeMajor01
  simp only [e_fn]
  simp [legalIf, e_d, e_a, e_b, Instr.wellFormed]

theorem sllw (d : BitVec 7) (a : BitVec 7) (b : BitVec 7) : Statement (.sllw d a b) := by
  intro _ _
  have hd := d.isLt
  have ha := a.isLt
  have hb := b.isLt
  obtain ⟨e, e0, e_d, e_a, e_b, e_fn⟩ := packF3_slots 1 d.toNat a.toNat b.toNat 27 (by omega) (by omega) (by omega) (by omega) (by omega)
  simp only [decodeWord, encode, encodeNat, BitVec.toNat_ofNat]
  rw [e, decodeNat_01 _ e0]
  unfold decodeMajor01
  simp only [e_fn]
  simp [legalIf, e_d, e_a, e_b, Instr.wellFormed]

theorem srlw (d : BitVec 7) (a : BitVec 7) (b : BitVec 7) : Statement (.srlw d a b) := by
  intro _ _
  have hd := d.isLt
  have ha := a.isLt
  have hb := b.isLt
  obtain ⟨e, e0, e_d, e_a, e_b, e_fn⟩ := packF3_slots 1 d.toNat a.toNat b.toNat 28 (by omega) (by omega) (by omega) (by omega) (by omega)
  simp only [decodeWord, encode, encodeNat, BitVec.toNat_ofNat]
  rw [e, decodeNat_01 _ e0]
  unfold decodeMajor01
  simp only [e_fn]
  simp [legalIf, e_d, e_a, e_b, Instr.wellFormed]

theorem sraw (d : BitVec 7) (a : BitVec 7) (b : BitVec 7) : Statement (.sraw d a b) := by
  intro _ _
  have hd := d.isLt
  have ha := a.isLt
  have hb := b.isLt
  obtain ⟨e, e0, e_d, e_a, e_b, e_fn⟩ := packF3_slots 1 d.toNat a.toNat b.toNat 29 (by omega) (by omega) (by omega) (by omega) (by omega)
  simp only [decodeWord, encode, encodeNat, BitVec.toNat_ofNat]
  rw [e, decodeNat_01 _ e0]
  unfold decodeMajor01
  simp only [e_fn]
  simp [legalIf, e_d, e_a, e_b, Instr.wellFormed]

theorem addi (d : BitVec 7) (a : BitVec 7) (i : BitVec 10) : Statement (.addi d a i) := by
  intro _ _
  have hd := d.isLt
  have ha := a.isLt
  have hi := i.isLt
  obtain ⟨e, e0, e_d, e_a, e_fn, e_i⟩ := packFI2_slots 2 d.toNat a.toNat 0 i.toNat (by omega) (by omega) (by omega) (by omega) (by omega)
  simp only [decodeWord, encode, encodeNat, BitVec.toNat_ofNat]
  rw [e, decodeNat_02 _ e0]
  unfold decodeMajor02
  simp only [e_fn]
  simp [legalIf, e_d, e_a, e_i, Instr.wellFormed]

theorem andi (d : BitVec 7) (a : BitVec 7) (i : BitVec 10) : Statement (.andi d a i) := by
  intro _ _
  have hd := d.isLt
  have ha := a.isLt
  have hi := i.isLt
  obtain ⟨e, e0, e_d, e_a, e_fn, e_i⟩ := packFI2_slots 2 d.toNat a.toNat 1 i.toNat (by omega) (by omega) (by omega) (by omega) (by omega)
  simp only [decodeWord, encode, encodeNat, BitVec.toNat_ofNat]
  rw [e, decodeNat_02 _ e0]
  unfold decodeMajor02
  simp only [e_fn]
  simp [legalIf, e_d, e_a, e_i, Instr.wellFormed]

theorem ori (d : BitVec 7) (a : BitVec 7) (i : BitVec 10) : Statement (.ori d a i) := by
  intro _ _
  have hd := d.isLt
  have ha := a.isLt
  have hi := i.isLt
  obtain ⟨e, e0, e_d, e_a, e_fn, e_i⟩ := packFI2_slots 2 d.toNat a.toNat 2 i.toNat (by omega) (by omega) (by omega) (by omega) (by omega)
  simp only [decodeWord, encode, encodeNat, BitVec.toNat_ofNat]
  rw [e, decodeNat_02 _ e0]
  unfold decodeMajor02
  simp only [e_fn]
  simp [legalIf, e_d, e_a, e_i, Instr.wellFormed]

theorem xori (d : BitVec 7) (a : BitVec 7) (i : BitVec 10) : Statement (.xori d a i) := by
  intro _ _
  have hd := d.isLt
  have ha := a.isLt
  have hi := i.isLt
  obtain ⟨e, e0, e_d, e_a, e_fn, e_i⟩ := packFI2_slots 2 d.toNat a.toNat 3 i.toNat (by omega) (by omega) (by omega) (by omega) (by omega)
  simp only [decodeWord, encode, encodeNat, BitVec.toNat_ofNat]
  rw [e, decodeNat_02 _ e0]
  unfold decodeMajor02
  simp only [e_fn]
  simp [legalIf, e_d, e_a, e_i, Instr.wellFormed]

theorem slli (d : BitVec 7) (a : BitVec 7) (i : BitVec 6) : Statement (.slli d a i) := by
  intro _ _
  have hd := d.isLt
  have ha := a.isLt
  have hi := i.isLt
  obtain ⟨e, e0, e_d, e_a, e_fn, e_i⟩ := packFI2_slots 3 d.toNat a.toNat 0 i.toNat (by omega) (by omega) (by omega) (by omega) (by omega)
  simp only [decodeWord, encode, encodeNat, BitVec.toNat_ofNat]
  rw [e, decodeNat_03 _ e0]
  unfold decodeMajor03
  simp only [e_fn]
  simp [legalIf, e_d, e_a, e_i, Instr.wellFormed] <;> omega

theorem srli (d : BitVec 7) (a : BitVec 7) (i : BitVec 6) : Statement (.srli d a i) := by
  intro _ _
  have hd := d.isLt
  have ha := a.isLt
  have hi := i.isLt
  obtain ⟨e, e0, e_d, e_a, e_fn, e_i⟩ := packFI2_slots 3 d.toNat a.toNat 1 i.toNat (by omega) (by omega) (by omega) (by omega) (by omega)
  simp only [decodeWord, encode, encodeNat, BitVec.toNat_ofNat]
  rw [e, decodeNat_03 _ e0]
  unfold decodeMajor03
  simp only [e_fn]
  simp [legalIf, e_d, e_a, e_i, Instr.wellFormed] <;> omega

theorem srai (d : BitVec 7) (a : BitVec 7) (i : BitVec 6) : Statement (.srai d a i) := by
  intro _ _
  have hd := d.isLt
  have ha := a.isLt
  have hi := i.isLt
  obtain ⟨e, e0, e_d, e_a, e_fn, e_i⟩ := packFI2_slots 3 d.toNat a.toNat 2 i.toNat (by omega) (by omega) (by omega) (by omega) (by omega)
  simp only [decodeWord, encode, encodeNat, BitVec.toNat_ofNat]
  rw [e, decodeNat_03 _ e0]
  unfold decodeMajor03
  simp only [e_fn]
  simp [legalIf, e_d, e_a, e_i, Instr.wellFormed] <;> omega

theorem slti (d : BitVec 7) (a : BitVec 7) (i : BitVec 10) : Statement (.slti d a i) := by
  intro _ _
  have hd := d.isLt
  have ha := a.isLt
  have hi := i.isLt
  obtain ⟨e, e0, e_d, e_a, e_fn, e_i⟩ := packFI2_slots 3 d.toNat a.toNat 3 i.toNat (by omega) (by omega) (by omega) (by omega) (by omega)
  simp only [decodeWord, encode, encodeNat, BitVec.toNat_ofNat]
  rw [e, decodeNat_03 _ e0]
  unfold decodeMajor03
  simp only [e_fn]
  simp [legalIf, e_d, e_a, e_i, Instr.wellFormed]

theorem lui (d : BitVec 7) (i : BitVec 19) : Statement (.lui d i) := by
  intro _ _
  have hd := d.isLt
  have hi := i.isLt
  obtain ⟨e, e0, e_d, e_i⟩ := packFU_slots 4 d.toNat i.toNat (by omega) (by omega) (by omega)
  simp only [decodeWord, encode, encodeNat, BitVec.toNat_ofNat]
  rw [e, decodeNat_04 _ e0]
  unfold decodeMajor04
  simp [legalIf, e_d, e_i, Instr.wellFormed]

theorem addpc (d : BitVec 7) (i : BitVec 19) : Statement (.addpc d i) := by
  intro _ _
  have hd := d.isLt
  have hi := i.isLt
  obtain ⟨e, e0, e_d, e_i⟩ := packFU_slots 5 d.toNat i.toNat (by omega) (by omega) (by omega)
  simp only [decodeWord, encode, encodeNat, BitVec.toNat_ofNat]
  rw [e, decodeNat_05 _ e0]
  unfold decodeMajor05
  simp [legalIf, e_d, e_i, Instr.wellFormed]

theorem faddS (d : BitVec 7) (a : BitVec 7) (b : BitVec 7) : Statement (.faddS d a b) := by
  intro _ _
  have hd := d.isLt
  have ha := a.isLt
  have hb := b.isLt
  obtain ⟨e, e0, e_d, e_a, e_b, e_fn⟩ := packF3_slots 6 d.toNat a.toNat b.toNat 0 (by omega) (by omega) (by omega) (by omega) (by omega)
  simp only [decodeWord, encode, encodeNat, BitVec.toNat_ofNat]
  rw [e, decodeNat_06 _ e0]
  unfold decodeMajor06
  simp only [e_fn]
  simp [legalIf, e_d, e_a, e_b, Instr.wellFormed]

theorem fsubS (d : BitVec 7) (a : BitVec 7) (b : BitVec 7) : Statement (.fsubS d a b) := by
  intro _ _
  have hd := d.isLt
  have ha := a.isLt
  have hb := b.isLt
  obtain ⟨e, e0, e_d, e_a, e_b, e_fn⟩ := packF3_slots 6 d.toNat a.toNat b.toNat 1 (by omega) (by omega) (by omega) (by omega) (by omega)
  simp only [decodeWord, encode, encodeNat, BitVec.toNat_ofNat]
  rw [e, decodeNat_06 _ e0]
  unfold decodeMajor06
  simp only [e_fn]
  simp [legalIf, e_d, e_a, e_b, Instr.wellFormed]

theorem fmulS (d : BitVec 7) (a : BitVec 7) (b : BitVec 7) : Statement (.fmulS d a b) := by
  intro _ _
  have hd := d.isLt
  have ha := a.isLt
  have hb := b.isLt
  obtain ⟨e, e0, e_d, e_a, e_b, e_fn⟩ := packF3_slots 6 d.toNat a.toNat b.toNat 2 (by omega) (by omega) (by omega) (by omega) (by omega)
  simp only [decodeWord, encode, encodeNat, BitVec.toNat_ofNat]
  rw [e, decodeNat_06 _ e0]
  unfold decodeMajor06
  simp only [e_fn]
  simp [legalIf, e_d, e_a, e_b, Instr.wellFormed]

theorem fdivS (d : BitVec 7) (a : BitVec 7) (b : BitVec 7) : Statement (.fdivS d a b) := by
  intro _ _
  have hd := d.isLt
  have ha := a.isLt
  have hb := b.isLt
  obtain ⟨e, e0, e_d, e_a, e_b, e_fn⟩ := packF3_slots 6 d.toNat a.toNat b.toNat 3 (by omega) (by omega) (by omega) (by omega) (by omega)
  simp only [decodeWord, encode, encodeNat, BitVec.toNat_ofNat]
  rw [e, decodeNat_06 _ e0]
  unfold decodeMajor06
  simp only [e_fn]
  simp [legalIf, e_d, e_a, e_b, Instr.wellFormed]

theorem fsqrtS (d : BitVec 7) (a : BitVec 7) : Statement (.fsqrtS d a) := by
  intro _ _
  have hd := d.isLt
  have ha := a.isLt
  obtain ⟨e, e0, e_d, e_a, e_b, e_fn⟩ := packF3_slots 6 d.toNat a.toNat 0 4 (by omega) (by omega) (by omega) (by omega) (by omega)
  simp only [decodeWord, encode, encodeNat, BitVec.toNat_ofNat]
  rw [e, decodeNat_06 _ e0]
  unfold decodeMajor06
  simp only [e_fn]
  simp [legalIf, e_d, e_a, e_b, Instr.wellFormed]

theorem fminS (d : BitVec 7) (a : BitVec 7) (b : BitVec 7) : Statement (.fminS d a b) := by
  intro _ _
  have hd := d.isLt
  have ha := a.isLt
  have hb := b.isLt
  obtain ⟨e, e0, e_d, e_a, e_b, e_fn⟩ := packF3_slots 6 d.toNat a.toNat b.toNat 5 (by omega) (by omega) (by omega) (by omega) (by omega)
  simp only [decodeWord, encode, encodeNat, BitVec.toNat_ofNat]
  rw [e, decodeNat_06 _ e0]
  unfold decodeMajor06
  simp only [e_fn]
  simp [legalIf, e_d, e_a, e_b, Instr.wellFormed]

theorem fmaxS (d : BitVec 7) (a : BitVec 7) (b : BitVec 7) : Statement (.fmaxS d a b) := by
  intro _ _
  have hd := d.isLt
  have ha := a.isLt
  have hb := b.isLt
  obtain ⟨e, e0, e_d, e_a, e_b, e_fn⟩ := packF3_slots 6 d.toNat a.toNat b.toNat 6 (by omega) (by omega) (by omega) (by omega) (by omega)
  simp only [decodeWord, encode, encodeNat, BitVec.toNat_ofNat]
  rw [e, decodeNat_06 _ e0]
  unfold decodeMajor06
  simp only [e_fn]
  simp [legalIf, e_d, e_a, e_b, Instr.wellFormed]

theorem feqS (d : BitVec 7) (a : BitVec 7) (b : BitVec 7) : Statement (.feqS d a b) := by
  intro _ _
  have hd := d.isLt
  have ha := a.isLt
  have hb := b.isLt
  obtain ⟨e, e0, e_d, e_a, e_b, e_fn⟩ := packF3_slots 6 d.toNat a.toNat b.toNat 7 (by omega) (by omega) (by omega) (by omega) (by omega)
  simp only [decodeWord, encode, encodeNat, BitVec.toNat_ofNat]
  rw [e, decodeNat_06 _ e0]
  unfold decodeMajor06
  simp only [e_fn]
  simp [legalIf, e_d, e_a, e_b, Instr.wellFormed]

theorem fltS (d : BitVec 7) (a : BitVec 7) (b : BitVec 7) : Statement (.fltS d a b) := by
  intro _ _
  have hd := d.isLt
  have ha := a.isLt
  have hb := b.isLt
  obtain ⟨e, e0, e_d, e_a, e_b, e_fn⟩ := packF3_slots 6 d.toNat a.toNat b.toNat 8 (by omega) (by omega) (by omega) (by omega) (by omega)
  simp only [decodeWord, encode, encodeNat, BitVec.toNat_ofNat]
  rw [e, decodeNat_06 _ e0]
  unfold decodeMajor06
  simp only [e_fn]
  simp [legalIf, e_d, e_a, e_b, Instr.wellFormed]

theorem fleS (d : BitVec 7) (a : BitVec 7) (b : BitVec 7) : Statement (.fleS d a b) := by
  intro _ _
  have hd := d.isLt
  have ha := a.isLt
  have hb := b.isLt
  obtain ⟨e, e0, e_d, e_a, e_b, e_fn⟩ := packF3_slots 6 d.toNat a.toNat b.toNat 9 (by omega) (by omega) (by omega) (by omega) (by omega)
  simp only [decodeWord, encode, encodeNat, BitVec.toNat_ofNat]
  rw [e, decodeNat_06 _ e0]
  unfold decodeMajor06
  simp only [e_fn]
  simp [legalIf, e_d, e_a, e_b, Instr.wellFormed]

theorem fclassS (d : BitVec 7) (a : BitVec 7) : Statement (.fclassS d a) := by
  intro _ _
  have hd := d.isLt
  have ha := a.isLt
  obtain ⟨e, e0, e_d, e_a, e_b, e_fn⟩ := packF3_slots 6 d.toNat a.toNat 0 10 (by omega) (by omega) (by omega) (by omega) (by omega)
  simp only [decodeWord, encode, encodeNat, BitVec.toNat_ofNat]
  rw [e, decodeNat_06 _ e0]
  unfold decodeMajor06
  simp only [e_fn]
  simp [legalIf, e_d, e_a, e_b, Instr.wellFormed]

theorem fcvtSI (d : BitVec 7) (a : BitVec 7) : Statement (.fcvtSI d a) := by
  intro _ _
  have hd := d.isLt
  have ha := a.isLt
  obtain ⟨e, e0, e_d, e_a, e_b, e_fn⟩ := packF3_slots 6 d.toNat a.toNat 0 11 (by omega) (by omega) (by omega) (by omega) (by omega)
  simp only [decodeWord, encode, encodeNat, BitVec.toNat_ofNat]
  rw [e, decodeNat_06 _ e0]
  unfold decodeMajor06
  simp only [e_fn]
  simp [legalIf, e_d, e_a, e_b, Instr.wellFormed]

theorem fcvtIS (d : BitVec 7) (a : BitVec 7) : Statement (.fcvtIS d a) := by
  intro _ _
  have hd := d.isLt
  have ha := a.isLt
  obtain ⟨e, e0, e_d, e_a, e_b, e_fn⟩ := packF3_slots 6 d.toNat a.toNat 0 12 (by omega) (by omega) (by omega) (by omega) (by omega)
  simp only [decodeWord, encode, encodeNat, BitVec.toNat_ofNat]
  rw [e, decodeNat_06 _ e0]
  unfold decodeMajor06
  simp only [e_fn]
  simp [legalIf, e_d, e_a, e_b, Instr.wellFormed]

theorem faddD (d : BitVec 7) (a : BitVec 7) (b : BitVec 7) : Statement (.faddD d a b) := by
  intro _ _
  have hd := d.isLt
  have ha := a.isLt
  have hb := b.isLt
  obtain ⟨e, e0, e_d, e_a, e_b, e_fn⟩ := packF3_slots 6 d.toNat a.toNat b.toNat 13 (by omega) (by omega) (by omega) (by omega) (by omega)
  simp only [decodeWord, encode, encodeNat, BitVec.toNat_ofNat]
  rw [e, decodeNat_06 _ e0]
  unfold decodeMajor06
  simp only [e_fn]
  simp [legalIf, e_d, e_a, e_b, Instr.wellFormed]

theorem fsubD (d : BitVec 7) (a : BitVec 7) (b : BitVec 7) : Statement (.fsubD d a b) := by
  intro _ _
  have hd := d.isLt
  have ha := a.isLt
  have hb := b.isLt
  obtain ⟨e, e0, e_d, e_a, e_b, e_fn⟩ := packF3_slots 6 d.toNat a.toNat b.toNat 14 (by omega) (by omega) (by omega) (by omega) (by omega)
  simp only [decodeWord, encode, encodeNat, BitVec.toNat_ofNat]
  rw [e, decodeNat_06 _ e0]
  unfold decodeMajor06
  simp only [e_fn]
  simp [legalIf, e_d, e_a, e_b, Instr.wellFormed]

theorem fmulD (d : BitVec 7) (a : BitVec 7) (b : BitVec 7) : Statement (.fmulD d a b) := by
  intro _ _
  have hd := d.isLt
  have ha := a.isLt
  have hb := b.isLt
  obtain ⟨e, e0, e_d, e_a, e_b, e_fn⟩ := packF3_slots 6 d.toNat a.toNat b.toNat 15 (by omega) (by omega) (by omega) (by omega) (by omega)
  simp only [decodeWord, encode, encodeNat, BitVec.toNat_ofNat]
  rw [e, decodeNat_06 _ e0]
  unfold decodeMajor06
  simp only [e_fn]
  simp [legalIf, e_d, e_a, e_b, Instr.wellFormed]

theorem fdivD (d : BitVec 7) (a : BitVec 7) (b : BitVec 7) : Statement (.fdivD d a b) := by
  intro _ _
  have hd := d.isLt
  have ha := a.isLt
  have hb := b.isLt
  obtain ⟨e, e0, e_d, e_a, e_b, e_fn⟩ := packF3_slots 6 d.toNat a.toNat b.toNat 16 (by omega) (by omega) (by omega) (by omega) (by omega)
  simp only [decodeWord, encode, encodeNat, BitVec.toNat_ofNat]
  rw [e, decodeNat_06 _ e0]
  unfold decodeMajor06
  simp only [e_fn]
  simp [legalIf, e_d, e_a, e_b, Instr.wellFormed]

theorem fsqrtD (d : BitVec 7) (a : BitVec 7) : Statement (.fsqrtD d a) := by
  intro _ _
  have hd := d.isLt
  have ha := a.isLt
  obtain ⟨e, e0, e_d, e_a, e_b, e_fn⟩ := packF3_slots 6 d.toNat a.toNat 0 17 (by omega) (by omega) (by omega) (by omega) (by omega)
  simp only [decodeWord, encode, encodeNat, BitVec.toNat_ofNat]
  rw [e, decodeNat_06 _ e0]
  unfold decodeMajor06
  simp only [e_fn]
  simp [legalIf, e_d, e_a, e_b, Instr.wellFormed]

theorem fminD (d : BitVec 7) (a : BitVec 7) (b : BitVec 7) : Statement (.fminD d a b) := by
  intro _ _
  have hd := d.isLt
  have ha := a.isLt
  have hb := b.isLt
  obtain ⟨e, e0, e_d, e_a, e_b, e_fn⟩ := packF3_slots 6 d.toNat a.toNat b.toNat 18 (by omega) (by omega) (by omega) (by omega) (by omega)
  simp only [decodeWord, encode, encodeNat, BitVec.toNat_ofNat]
  rw [e, decodeNat_06 _ e0]
  unfold decodeMajor06
  simp only [e_fn]
  simp [legalIf, e_d, e_a, e_b, Instr.wellFormed]

theorem fmaxD (d : BitVec 7) (a : BitVec 7) (b : BitVec 7) : Statement (.fmaxD d a b) := by
  intro _ _
  have hd := d.isLt
  have ha := a.isLt
  have hb := b.isLt
  obtain ⟨e, e0, e_d, e_a, e_b, e_fn⟩ := packF3_slots 6 d.toNat a.toNat b.toNat 19 (by omega) (by omega) (by omega) (by omega) (by omega)
  simp only [decodeWord, encode, encodeNat, BitVec.toNat_ofNat]
  rw [e, decodeNat_06 _ e0]
  unfold decodeMajor06
  simp only [e_fn]
  simp [legalIf, e_d, e_a, e_b, Instr.wellFormed]

theorem feqD (d : BitVec 7) (a : BitVec 7) (b : BitVec 7) : Statement (.feqD d a b) := by
  intro _ _
  have hd := d.isLt
  have ha := a.isLt
  have hb := b.isLt
  obtain ⟨e, e0, e_d, e_a, e_b, e_fn⟩ := packF3_slots 6 d.toNat a.toNat b.toNat 20 (by omega) (by omega) (by omega) (by omega) (by omega)
  simp only [decodeWord, encode, encodeNat, BitVec.toNat_ofNat]
  rw [e, decodeNat_06 _ e0]
  unfold decodeMajor06
  simp only [e_fn]
  simp [legalIf, e_d, e_a, e_b, Instr.wellFormed]

theorem fltD (d : BitVec 7) (a : BitVec 7) (b : BitVec 7) : Statement (.fltD d a b) := by
  intro _ _
  have hd := d.isLt
  have ha := a.isLt
  have hb := b.isLt
  obtain ⟨e, e0, e_d, e_a, e_b, e_fn⟩ := packF3_slots 6 d.toNat a.toNat b.toNat 21 (by omega) (by omega) (by omega) (by omega) (by omega)
  simp only [decodeWord, encode, encodeNat, BitVec.toNat_ofNat]
  rw [e, decodeNat_06 _ e0]
  unfold decodeMajor06
  simp only [e_fn]
  simp [legalIf, e_d, e_a, e_b, Instr.wellFormed]

theorem fleD (d : BitVec 7) (a : BitVec 7) (b : BitVec 7) : Statement (.fleD d a b) := by
  intro _ _
  have hd := d.isLt
  have ha := a.isLt
  have hb := b.isLt
  obtain ⟨e, e0, e_d, e_a, e_b, e_fn⟩ := packF3_slots 6 d.toNat a.toNat b.toNat 22 (by omega) (by omega) (by omega) (by omega) (by omega)
  simp only [decodeWord, encode, encodeNat, BitVec.toNat_ofNat]
  rw [e, decodeNat_06 _ e0]
  unfold decodeMajor06
  simp only [e_fn]
  simp [legalIf, e_d, e_a, e_b, Instr.wellFormed]

theorem fcvtDS (d : BitVec 7) (a : BitVec 7) : Statement (.fcvtDS d a) := by
  intro _ _
  have hd := d.isLt
  have ha := a.isLt
  obtain ⟨e, e0, e_d, e_a, e_b, e_fn⟩ := packF3_slots 6 d.toNat a.toNat 0 23 (by omega) (by omega) (by omega) (by omega) (by omega)
  simp only [decodeWord, encode, encodeNat, BitVec.toNat_ofNat]
  rw [e, decodeNat_06 _ e0]
  unfold decodeMajor06
  simp only [e_fn]
  simp [legalIf, e_d, e_a, e_b, Instr.wellFormed]

theorem fcvtSD (d : BitVec 7) (a : BitVec 7) : Statement (.fcvtSD d a) := by
  intro _ _
  have hd := d.isLt
  have ha := a.isLt
  obtain ⟨e, e0, e_d, e_a, e_b, e_fn⟩ := packF3_slots 6 d.toNat a.toNat 0 24 (by omega) (by omega) (by omega) (by omega) (by omega)
  simp only [decodeWord, encode, encodeNat, BitVec.toNat_ofNat]
  rw [e, decodeNat_06 _ e0]
  unfold decodeMajor06
  simp only [e_fn]
  simp [legalIf, e_d, e_a, e_b, Instr.wellFormed]

theorem fcvtDI (d : BitVec 7) (a : BitVec 7) : Statement (.fcvtDI d a) := by
  intro _ _
  have hd := d.isLt
  have ha := a.isLt
  obtain ⟨e, e0, e_d, e_a, e_b, e_fn⟩ := packF3_slots 6 d.toNat a.toNat 0 25 (by omega) (by omega) (by omega) (by omega) (by omega)
  simp only [decodeWord, encode, encodeNat, BitVec.toNat_ofNat]
  rw [e, decodeNat_06 _ e0]
  unfold decodeMajor06
  simp only [e_fn]
  simp [legalIf, e_d, e_a, e_b, Instr.wellFormed]

theorem fcvtID (d : BitVec 7) (a : BitVec 7) : Statement (.fcvtID d a) := by
  intro _ _
  have hd := d.isLt
  have ha := a.isLt
  obtain ⟨e, e0, e_d, e_a, e_b, e_fn⟩ := packF3_slots 6 d.toNat a.toNat 0 26 (by omega) (by omega) (by omega) (by omega) (by omega)
  simp only [decodeWord, encode, encodeNat, BitVec.toNat_ofNat]
  rw [e, decodeNat_06 _ e0]
  unfold decodeMajor06
  simp only [e_fn]
  simp [legalIf, e_d, e_a, e_b, Instr.wellFormed]

theorem fsgcS (d : BitVec 7) (a : BitVec 7) (b : BitVec 7) : Statement (.fsgcS d a b) := by
  intro _ _
  have hd := d.isLt
  have ha := a.isLt
  have hb := b.isLt
  obtain ⟨e, e0, e_d, e_a, e_b, e_fn⟩ := packF3_slots 6 d.toNat a.toNat b.toNat 27 (by omega) (by omega) (by omega) (by omega) (by omega)
  simp only [decodeWord, encode, encodeNat, BitVec.toNat_ofNat]
  rw [e, decodeNat_06 _ e0]
  unfold decodeMajor06
  simp only [e_fn]
  simp [legalIf, e_d, e_a, e_b, Instr.wellFormed]

theorem fsgiS (d : BitVec 7) (a : BitVec 7) (b : BitVec 7) : Statement (.fsgiS d a b) := by
  intro _ _
  have hd := d.isLt
  have ha := a.isLt
  have hb := b.isLt
  obtain ⟨e, e0, e_d, e_a, e_b, e_fn⟩ := packF3_slots 6 d.toNat a.toNat b.toNat 28 (by omega) (by omega) (by omega) (by omega) (by omega)
  simp only [decodeWord, encode, encodeNat, BitVec.toNat_ofNat]
  rw [e, decodeNat_06 _ e0]
  unfold decodeMajor06
  simp only [e_fn]
  simp [legalIf, e_d, e_a, e_b, Instr.wellFormed]

theorem fsgxS (d : BitVec 7) (a : BitVec 7) (b : BitVec 7) : Statement (.fsgxS d a b) := by
  intro _ _
  have hd := d.isLt
  have ha := a.isLt
  have hb := b.isLt
  obtain ⟨e, e0, e_d, e_a, e_b, e_fn⟩ := packF3_slots 6 d.toNat a.toNat b.toNat 29 (by omega) (by omega) (by omega) (by omega) (by omega)
  simp only [decodeWord, encode, encodeNat, BitVec.toNat_ofNat]
  rw [e, decodeNat_06 _ e0]
  unfold decodeMajor06
  simp only [e_fn]
  simp [legalIf, e_d, e_a, e_b, Instr.wellFormed]

theorem fcvtHS (d : BitVec 7) (a : BitVec 7) : Statement (.fcvtHS d a) := by
  intro _ _
  have hd := d.isLt
  have ha := a.isLt
  obtain ⟨e, e0, e_d, e_a, e_b, e_fn⟩ := packF3_slots 6 d.toNat a.toNat 0 30 (by omega) (by omega) (by omega) (by omega) (by omega)
  simp only [decodeWord, encode, encodeNat, BitVec.toNat_ofNat]
  rw [e, decodeNat_06 _ e0]
  unfold decodeMajor06
  simp only [e_fn]
  simp [legalIf, e_d, e_a, e_b, Instr.wellFormed]

theorem fcvtSH (d : BitVec 7) (a : BitVec 7) : Statement (.fcvtSH d a) := by
  intro _ _
  have hd := d.isLt
  have ha := a.isLt
  obtain ⟨e, e0, e_d, e_a, e_b, e_fn⟩ := packF3_slots 6 d.toNat a.toNat 0 31 (by omega) (by omega) (by omega) (by omega) (by omega)
  simp only [decodeWord, encode, encodeNat, BitVec.toNat_ofNat]
  rw [e, decodeNat_06 _ e0]
  unfold decodeMajor06
  simp only [e_fn]
  simp [legalIf, e_d, e_a, e_b, Instr.wellFormed]

theorem fmaS (d : BitVec 7) (a : BitVec 7) (b : BitVec 7) : Statement (.fmaS d a b) := by
  intro _ _
  have hd := d.isLt
  have ha := a.isLt
  have hb := b.isLt
  obtain ⟨e, e0, e_d, e_a, e_b, e_fn⟩ := packF3_slots 7 d.toNat a.toNat b.toNat 0 (by omega) (by omega) (by omega) (by omega) (by omega)
  simp only [decodeWord, encode, encodeNat, BitVec.toNat_ofNat]
  rw [e, decodeNat_07 _ e0]
  unfold decodeMajor07
  simp only [e_fn]
  simp [legalIf, e_d, e_a, e_b, Instr.wellFormed]

theorem fmsS (d : BitVec 7) (a : BitVec 7) (b : BitVec 7) : Statement (.fmsS d a b) := by
  intro _ _
  have hd := d.isLt
  have ha := a.isLt
  have hb := b.isLt
  obtain ⟨e, e0, e_d, e_a, e_b, e_fn⟩ := packF3_slots 7 d.toNat a.toNat b.toNat 1 (by omega) (by omega) (by omega) (by omega) (by omega)
  simp only [decodeWord, encode, encodeNat, BitVec.toNat_ofNat]
  rw [e, decodeNat_07 _ e0]
  unfold decodeMajor07
  simp only [e_fn]
  simp [legalIf, e_d, e_a, e_b, Instr.wellFormed]

theorem fnmaS (d : BitVec 7) (a : BitVec 7) (b : BitVec 7) : Statement (.fnmaS d a b) := by
  intro _ _
  have hd := d.isLt
  have ha := a.isLt
  have hb := b.isLt
  obtain ⟨e, e0, e_d, e_a, e_b, e_fn⟩ := packF3_slots 7 d.toNat a.toNat b.toNat 2 (by omega) (by omega) (by omega) (by omega) (by omega)
  simp only [decodeWord, encode, encodeNat, BitVec.toNat_ofNat]
  rw [e, decodeNat_07 _ e0]
  unfold decodeMajor07
  simp only [e_fn]
  simp [legalIf, e_d, e_a, e_b, Instr.wellFormed]

theorem fmaD (d : BitVec 7) (a : BitVec 7) (b : BitVec 7) : Statement (.fmaD d a b) := by
  intro _ _
  have hd := d.isLt
  have ha := a.isLt
  have hb := b.isLt
  obtain ⟨e, e0, e_d, e_a, e_b, e_fn⟩ := packF3_slots 7 d.toNat a.toNat b.toNat 3 (by omega) (by omega) (by omega) (by omega) (by omega)
  simp only [decodeWord, encode, encodeNat, BitVec.toNat_ofNat]
  rw [e, decodeNat_07 _ e0]
  unfold decodeMajor07
  simp only [e_fn]
  simp [legalIf, e_d, e_a, e_b, Instr.wellFormed]

theorem fmsD (d : BitVec 7) (a : BitVec 7) (b : BitVec 7) : Statement (.fmsD d a b) := by
  intro _ _
  have hd := d.isLt
  have ha := a.isLt
  have hb := b.isLt
  obtain ⟨e, e0, e_d, e_a, e_b, e_fn⟩ := packF3_slots 7 d.toNat a.toNat b.toNat 4 (by omega) (by omega) (by omega) (by omega) (by omega)
  simp only [decodeWord, encode, encodeNat, BitVec.toNat_ofNat]
  rw [e, decodeNat_07 _ e0]
  unfold decodeMajor07
  simp only [e_fn]
  simp [legalIf, e_d, e_a, e_b, Instr.wellFormed]

theorem fnmaD (d : BitVec 7) (a : BitVec 7) (b : BitVec 7) : Statement (.fnmaD d a b) := by
  intro _ _
  have hd := d.isLt
  have ha := a.isLt
  have hb := b.isLt
  obtain ⟨e, e0, e_d, e_a, e_b, e_fn⟩ := packF3_slots 7 d.toNat a.toNat b.toNat 5 (by omega) (by omega) (by omega) (by omega) (by omega)
  simp only [decodeWord, encode, encodeNat, BitVec.toNat_ofNat]
  rw [e, decodeNat_07 _ e0]
  unfold decodeMajor07
  simp only [e_fn]
  simp [legalIf, e_d, e_a, e_b, Instr.wellFormed]

theorem beqz (a : BitVec 7) (o : BitVec 16) : Statement (.beqz a o) := by
  intro _ _
  have ha := a.isLt
  have ho := o.isLt
  obtain ⟨e, e0, e_a, e_fn, e_o⟩ := packFBZ_slots 8 a.toNat 0 o.toNat (by omega) (by omega) (by omega) (by omega)
  simp only [decodeWord, encode, encodeNat, BitVec.toNat_ofNat]
  rw [e, decodeNat_08 _ e0]
  unfold decodeMajor08
  simp only [e_fn]
  simp [legalIf, e_a, e_o, Instr.wellFormed]

theorem bnez (a : BitVec 7) (o : BitVec 16) : Statement (.bnez a o) := by
  intro _ _
  have ha := a.isLt
  have ho := o.isLt
  obtain ⟨e, e0, e_a, e_fn, e_o⟩ := packFBZ_slots 8 a.toNat 1 o.toNat (by omega) (by omega) (by omega) (by omega)
  simp only [decodeWord, encode, encodeNat, BitVec.toNat_ofNat]
  rw [e, decodeNat_08 _ e0]
  unfold decodeMajor08
  simp only [e_fn]
  simp [legalIf, e_a, e_o, Instr.wellFormed]

theorem bltz (a : BitVec 7) (o : BitVec 16) : Statement (.bltz a o) := by
  intro _ _
  have ha := a.isLt
  have ho := o.isLt
  obtain ⟨e, e0, e_a, e_fn, e_o⟩ := packFBZ_slots 8 a.toNat 2 o.toNat (by omega) (by omega) (by omega) (by omega)
  simp only [decodeWord, encode, encodeNat, BitVec.toNat_ofNat]
  rw [e, decodeNat_08 _ e0]
  unfold decodeMajor08
  simp only [e_fn]
  simp [legalIf, e_a, e_o, Instr.wellFormed]

theorem bgez (a : BitVec 7) (o : BitVec 16) : Statement (.bgez a o) := by
  intro _ _
  have ha := a.isLt
  have ho := o.isLt
  obtain ⟨e, e0, e_a, e_fn, e_o⟩ := packFBZ_slots 8 a.toNat 3 o.toNat (by omega) (by omega) (by omega) (by omega)
  simp only [decodeWord, encode, encodeNat, BitVec.toNat_ofNat]
  rw [e, decodeNat_08 _ e0]
  unfold decodeMajor08
  simp only [e_fn]
  simp [legalIf, e_a, e_o, Instr.wellFormed]

theorem bgtz (a : BitVec 7) (o : BitVec 16) : Statement (.bgtz a o) := by
  intro _ _
  have ha := a.isLt
  have ho := o.isLt
  obtain ⟨e, e0, e_a, e_fn, e_o⟩ := packFBZ_slots 8 a.toNat 4 o.toNat (by omega) (by omega) (by omega) (by omega)
  simp only [decodeWord, encode, encodeNat, BitVec.toNat_ofNat]
  rw [e, decodeNat_08 _ e0]
  unfold decodeMajor08
  simp only [e_fn]
  simp [legalIf, e_a, e_o, Instr.wellFormed]

theorem blez (a : BitVec 7) (o : BitVec 16) : Statement (.blez a o) := by
  intro _ _
  have ha := a.isLt
  have ho := o.isLt
  obtain ⟨e, e0, e_a, e_fn, e_o⟩ := packFBZ_slots 8 a.toNat 5 o.toNat (by omega) (by omega) (by omega) (by omega)
  simp only [decodeWord, encode, encodeNat, BitVec.toNat_ofNat]
  rw [e, decodeNat_08 _ e0]
  unfold decodeMajor08
  simp only [e_fn]
  simp [legalIf, e_a, e_o, Instr.wellFormed]

theorem beq (a : BitVec 7) (b : BitVec 7) (o : BitVec 9) : Statement (.beq a b o) := by
  intro _ _
  have ha := a.isLt
  have hb := b.isLt
  have ho := o.isLt
  obtain ⟨e, e0, e_a, e_b, e_fn, e_o⟩ := packFB2_slots 9 a.toNat b.toNat 0 o.toNat (by omega) (by omega) (by omega) (by omega) (by omega)
  simp only [decodeWord, encode, encodeNat, BitVec.toNat_ofNat]
  rw [e, decodeNat_09 _ e0]
  unfold decodeMajor09
  simp only [e_fn]
  simp [legalIf, e_a, e_b, e_o, Instr.wellFormed]

theorem bne (a : BitVec 7) (b : BitVec 7) (o : BitVec 9) : Statement (.bne a b o) := by
  intro _ _
  have ha := a.isLt
  have hb := b.isLt
  have ho := o.isLt
  obtain ⟨e, e0, e_a, e_b, e_fn, e_o⟩ := packFB2_slots 9 a.toNat b.toNat 1 o.toNat (by omega) (by omega) (by omega) (by omega) (by omega)
  simp only [decodeWord, encode, encodeNat, BitVec.toNat_ofNat]
  rw [e, decodeNat_09 _ e0]
  unfold decodeMajor09
  simp only [e_fn]
  simp [legalIf, e_a, e_b, e_o, Instr.wellFormed]

theorem blt (a : BitVec 7) (b : BitVec 7) (o : BitVec 9) : Statement (.blt a b o) := by
  intro _ _
  have ha := a.isLt
  have hb := b.isLt
  have ho := o.isLt
  obtain ⟨e, e0, e_a, e_b, e_fn, e_o⟩ := packFB2_slots 9 a.toNat b.toNat 2 o.toNat (by omega) (by omega) (by omega) (by omega) (by omega)
  simp only [decodeWord, encode, encodeNat, BitVec.toNat_ofNat]
  rw [e, decodeNat_09 _ e0]
  unfold decodeMajor09
  simp only [e_fn]
  simp [legalIf, e_a, e_b, e_o, Instr.wellFormed]

theorem bge (a : BitVec 7) (b : BitVec 7) (o : BitVec 9) : Statement (.bge a b o) := by
  intro _ _
  have ha := a.isLt
  have hb := b.isLt
  have ho := o.isLt
  obtain ⟨e, e0, e_a, e_b, e_fn, e_o⟩ := packFB2_slots 9 a.toNat b.toNat 3 o.toNat (by omega) (by omega) (by omega) (by omega) (by omega)
  simp only [decodeWord, encode, encodeNat, BitVec.toNat_ofNat]
  rw [e, decodeNat_09 _ e0]
  unfold decodeMajor09
  simp only [e_fn]
  simp [legalIf, e_a, e_b, e_o, Instr.wellFormed]

theorem bltn (a : BitVec 7) (b : BitVec 7) (o : BitVec 9) : Statement (.bltn a b o) := by
  intro _ _
  have ha := a.isLt
  have hb := b.isLt
  have ho := o.isLt
  obtain ⟨e, e0, e_a, e_b, e_fn, e_o⟩ := packFB2_slots 9 a.toNat b.toNat 4 o.toNat (by omega) (by omega) (by omega) (by omega) (by omega)
  simp only [decodeWord, encode, encodeNat, BitVec.toNat_ofNat]
  rw [e, decodeNat_09 _ e0]
  unfold decodeMajor09
  simp only [e_fn]
  simp [legalIf, e_a, e_b, e_o, Instr.wellFormed]

theorem bgen (a : BitVec 7) (b : BitVec 7) (o : BitVec 9) : Statement (.bgen a b o) := by
  intro _ _
  have ha := a.isLt
  have hb := b.isLt
  have ho := o.isLt
  obtain ⟨e, e0, e_a, e_b, e_fn, e_o⟩ := packFB2_slots 9 a.toNat b.toNat 5 o.toNat (by omega) (by omega) (by omega) (by omega) (by omega)
  simp only [decodeWord, encode, encodeNat, BitVec.toNat_ofNat]
  rw [e, decodeNat_09 _ e0]
  unfold decodeMajor09
  simp only [e_fn]
  simp [legalIf, e_a, e_b, e_o, Instr.wellFormed]

theorem j (o : BitVec 26) : Statement (.j o) := by
  intro _ _
  have ho := o.isLt
  obtain ⟨e, e0, e_o⟩ := packFJ_slots 10 o.toNat (by omega) (by omega)
  simp only [decodeWord, encode, encodeNat, BitVec.toNat_ofNat]
  rw [e, decodeNat_0A _ e0]
  unfold decodeMajor0A
  simp [legalIf, e_o, Instr.wellFormed]

theorem jl (o : BitVec 26) : Statement (.jl o) := by
  intro _ _
  have ho := o.isLt
  obtain ⟨e, e0, e_o⟩ := packFJ_slots 11 o.toNat (by omega) (by omega)
  simp only [decodeWord, encode, encodeNat, BitVec.toNat_ofNat]
  rw [e, decodeNat_0B _ e0]
  unfold decodeMajor0B
  simp [legalIf, e_o, Instr.wellFormed]

theorem jlr (d : BitVec 7) (a : BitVec 7) (i : BitVec 12) : Statement (.jlr d a i) := by
  intro _ _
  have hd := d.isLt
  have ha := a.isLt
  have hi := i.isLt
  obtain ⟨e, e0, e_d, e_a, e_i⟩ := packFV_slots 12 d.toNat a.toNat i.toNat (by omega) (by omega) (by omega) (by omega)
  simp only [decodeWord, encode, encodeNat, BitVec.toNat_ofNat]
  rw [e, decodeNat_0C _ e0]
  unfold decodeMajor0C
  simp [legalIf, e_d, e_a, e_i, Instr.wellFormed]

theorem ldg (d : BitVec 7) (a : BitVec 7) (z : BitVec 2) (i : BitVec 10) : Statement (.ldg d a z i) := by
  intro _ _
  have hd := d.isLt
  have ha := a.isLt
  have hz := z.isLt
  have hi := i.isLt
  obtain ⟨e, e0, e_d, e_a, e_fn, e_i⟩ := packFI2_slots 13 d.toNat a.toNat z.toNat i.toNat (by omega) (by omega) (by omega) (by omega) (by omega)
  simp only [decodeWord, encode, encodeNat, BitVec.toNat_ofNat]
  rw [e, decodeNat_0D _ e0]
  unfold decodeMajor0D
  simp [legalIf, e_d, e_a, e_fn, e_i, Instr.wellFormed]

theorem ldgz (d : BitVec 7) (a : BitVec 7) (z : BitVec 2) (i : BitVec 10) : Statement (.ldgz d a z i) := by
  intro h _
  have hd := d.isLt
  have ha := a.isLt
  have hz := z.isLt
  have hi := i.isLt
  simp only [Instr.wellFormed, decide_eq_true_eq] at h
  obtain ⟨e, e0, e_d, e_a, e_fn, e_i⟩ := packFI2_slots 14 d.toNat a.toNat z.toNat i.toNat (by omega) (by omega) (by omega) (by omega) (by omega)
  simp only [decodeWord, encode, encodeNat, BitVec.toNat_ofNat]
  rw [e, decodeNat_0E _ e0]
  unfold decodeMajor0E
  simp [legalIf, e_d, e_a, e_fn, e_i, Instr.wellFormed, h]

theorem stg (d : BitVec 7) (a : BitVec 7) (z : BitVec 2) (i : BitVec 10) : Statement (.stg d a z i) := by
  intro _ _
  have hd := d.isLt
  have ha := a.isLt
  have hz := z.isLt
  have hi := i.isLt
  obtain ⟨e, e0, e_d, e_a, e_fn, e_i⟩ := packFI2_slots 15 d.toNat a.toNat z.toNat i.toNat (by omega) (by omega) (by omega) (by omega) (by omega)
  simp only [decodeWord, encode, encodeNat, BitVec.toNat_ofNat]
  rw [e, decodeNat_0F _ e0]
  unfold decodeMajor0F
  simp [legalIf, e_d, e_a, e_fn, e_i, Instr.wellFormed]

theorem lds (d : BitVec 7) (a : BitVec 7) (z : BitVec 2) (i : BitVec 10) : Statement (.lds d a z i) := by
  intro _ _
  have hd := d.isLt
  have ha := a.isLt
  have hz := z.isLt
  have hi := i.isLt
  obtain ⟨e, e0, e_d, e_a, e_fn, e_i⟩ := packFI2_slots 16 d.toNat a.toNat z.toNat i.toNat (by omega) (by omega) (by omega) (by omega) (by omega)
  simp only [decodeWord, encode, encodeNat, BitVec.toNat_ofNat]
  rw [e, decodeNat_10 _ e0]
  unfold decodeMajor10
  simp [legalIf, e_d, e_a, e_fn, e_i, Instr.wellFormed]

theorem sts (d : BitVec 7) (a : BitVec 7) (z : BitVec 2) (i : BitVec 10) : Statement (.sts d a z i) := by
  intro _ _
  have hd := d.isLt
  have ha := a.isLt
  have hz := z.isLt
  have hi := i.isLt
  obtain ⟨e, e0, e_d, e_a, e_fn, e_i⟩ := packFI2_slots 17 d.toNat a.toNat z.toNat i.toNat (by omega) (by omega) (by omega) (by omega) (by omega)
  simp only [decodeWord, encode, encodeNat, BitVec.toNat_ofNat]
  rw [e, decodeNat_11 _ e0]
  unfold decodeMajor11
  simp [legalIf, e_d, e_a, e_fn, e_i, Instr.wellFormed]

theorem ldaW (d : BitVec 7) (a : BitVec 7) : Statement (.ldaW d a) := by
  intro _ _
  have hd := d.isLt
  have ha := a.isLt
  obtain ⟨e, e0, e_d, e_a, e_b, e_fn⟩ := packF3_slots 18 d.toNat a.toNat 0 0 (by omega) (by omega) (by omega) (by omega) (by omega)
  simp only [decodeWord, encode, encodeNat, BitVec.toNat_ofNat]
  rw [e, decodeNat_12 _ e0]
  unfold decodeMajor12
  simp only [e_fn]
  simp [legalIf, e_d, e_a, e_b, Instr.wellFormed]

theorem ldaD (d : BitVec 7) (a : BitVec 7) : Statement (.ldaD d a) := by
  intro _ _
  have hd := d.isLt
  have ha := a.isLt
  obtain ⟨e, e0, e_d, e_a, e_b, e_fn⟩ := packF3_slots 18 d.toNat a.toNat 0 1 (by omega) (by omega) (by omega) (by omega) (by omega)
  simp only [decodeWord, encode, encodeNat, BitVec.toNat_ofNat]
  rw [e, decodeNat_12 _ e0]
  unfold decodeMajor12
  simp only [e_fn]
  simp [legalIf, e_d, e_a, e_b, Instr.wellFormed]

theorem stlW (a : BitVec 7) (b : BitVec 7) : Statement (.stlW a b) := by
  intro _ _
  have ha := a.isLt
  have hb := b.isLt
  obtain ⟨e, e0, e_d, e_a, e_b, e_fn⟩ := packF3_slots 18 0 a.toNat b.toNat 2 (by omega) (by omega) (by omega) (by omega) (by omega)
  simp only [decodeWord, encode, encodeNat, BitVec.toNat_ofNat]
  rw [e, decodeNat_12 _ e0]
  unfold decodeMajor12
  simp only [e_fn]
  simp [legalIf, e_d, e_a, e_b, Instr.wellFormed]

theorem stlD (a : BitVec 7) (b : BitVec 7) : Statement (.stlD a b) := by
  intro _ _
  have ha := a.isLt
  have hb := b.isLt
  obtain ⟨e, e0, e_d, e_a, e_b, e_fn⟩ := packF3_slots 18 0 a.toNat b.toNat 3 (by omega) (by omega) (by omega) (by omega) (by omega)
  simp only [decodeWord, encode, encodeNat, BitVec.toNat_ofNat]
  rw [e, decodeNat_12 _ e0]
  unfold decodeMajor12
  simp only [e_fn]
  simp [legalIf, e_d, e_a, e_b, Instr.wellFormed]

theorem ldasW (d : BitVec 7) (a : BitVec 7) : Statement (.ldasW d a) := by
  intro _ _
  have hd := d.isLt
  have ha := a.isLt
  obtain ⟨e, e0, e_d, e_a, e_b, e_fn⟩ := packF3_slots 18 d.toNat a.toNat 0 4 (by omega) (by omega) (by omega) (by omega) (by omega)
  simp only [decodeWord, encode, encodeNat, BitVec.toNat_ofNat]
  rw [e, decodeNat_12 _ e0]
  unfold decodeMajor12
  simp only [e_fn]
  simp [legalIf, e_d, e_a, e_b, Instr.wellFormed]

theorem ldasD (d : BitVec 7) (a : BitVec 7) : Statement (.ldasD d a) := by
  intro _ _
  have hd := d.isLt
  have ha := a.isLt
  obtain ⟨e, e0, e_d, e_a, e_b, e_fn⟩ := packF3_slots 18 d.toNat a.toNat 0 5 (by omega) (by omega) (by omega) (by omega) (by omega)
  simp only [decodeWord, encode, encodeNat, BitVec.toNat_ofNat]
  rw [e, decodeNat_12 _ e0]
  unfold decodeMajor12
  simp only [e_fn]
  simp [legalIf, e_d, e_a, e_b, Instr.wellFormed]

theorem stlsW (a : BitVec 7) (b : BitVec 7) : Statement (.stlsW a b) := by
  intro _ _
  have ha := a.isLt
  have hb := b.isLt
  obtain ⟨e, e0, e_d, e_a, e_b, e_fn⟩ := packF3_slots 18 0 a.toNat b.toNat 6 (by omega) (by omega) (by omega) (by omega) (by omega)
  simp only [decodeWord, encode, encodeNat, BitVec.toNat_ofNat]
  rw [e, decodeNat_12 _ e0]
  unfold decodeMajor12
  simp only [e_fn]
  simp [legalIf, e_d, e_a, e_b, Instr.wellFormed]

theorem stlsD (a : BitVec 7) (b : BitVec 7) : Statement (.stlsD a b) := by
  intro _ _
  have ha := a.isLt
  have hb := b.isLt
  obtain ⟨e, e0, e_d, e_a, e_b, e_fn⟩ := packF3_slots 18 0 a.toNat b.toNat 7 (by omega) (by omega) (by omega) (by omega) (by omega)
  simp only [decodeWord, encode, encodeNat, BitVec.toNat_ofNat]
  rw [e, decodeNat_12 _ e0]
  unfold decodeMajor12
  simp only [e_fn]
  simp [legalIf, e_d, e_a, e_b, Instr.wellFormed]

theorem fenceAcq (s : BitVec 7) : Statement (.fenceAcq s) := by
  intro h _
  have hs := s.isLt
  simp only [Instr.wellFormed, decide_eq_true_eq] at h
  obtain ⟨e, e0, e_d, e_a, e_b, e_fn⟩ := packF3_slots 19 s.toNat 0 0 0 (by omega) (by omega) (by omega) (by omega) (by omega)
  simp only [decodeWord, encode, encodeNat, BitVec.toNat_ofNat]
  rw [e, decodeNat_13 _ e0]
  unfold decodeMajor13
  simp only [e_fn]
  simp [legalIf, e_d, e_a, e_b, Instr.wellFormed, h]

theorem fenceRel (s : BitVec 7) : Statement (.fenceRel s) := by
  intro h _
  have hs := s.isLt
  simp only [Instr.wellFormed, decide_eq_true_eq] at h
  obtain ⟨e, e0, e_d, e_a, e_b, e_fn⟩ := packF3_slots 19 s.toNat 0 0 1 (by omega) (by omega) (by omega) (by omega) (by omega)
  simp only [decodeWord, encode, encodeNat, BitVec.toNat_ofNat]
  rw [e, decodeNat_13 _ e0]
  unfold decodeMajor13
  simp only [e_fn]
  simp [legalIf, e_d, e_a, e_b, Instr.wellFormed, h]

theorem fenceAr (s : BitVec 7) : Statement (.fenceAr s) := by
  intro h _
  have hs := s.isLt
  simp only [Instr.wellFormed, decide_eq_true_eq] at h
  obtain ⟨e, e0, e_d, e_a, e_b, e_fn⟩ := packF3_slots 19 s.toNat 0 0 2 (by omega) (by omega) (by omega) (by omega) (by omega)
  simp only [decodeWord, encode, encodeNat, BitVec.toNat_ofNat]
  rw [e, decodeNat_13 _ e0]
  unfold decodeMajor13
  simp only [e_fn]
  simp [legalIf, e_d, e_a, e_b, Instr.wellFormed, h]

theorem fenceSc (s : BitVec 7) : Statement (.fenceSc s) := by
  intro h _
  have hs := s.isLt
  simp only [Instr.wellFormed, decide_eq_true_eq] at h
  obtain ⟨e, e0, e_d, e_a, e_b, e_fn⟩ := packF3_slots 19 s.toNat 0 0 3 (by omega) (by omega) (by omega) (by omega) (by omega)
  simp only [decodeWord, encode, encodeNat, BitVec.toNat_ofNat]
  rw [e, decodeNat_13 _ e0]
  unfold decodeMajor13
  simp only [e_fn]
  simp [legalIf, e_d, e_a, e_b, Instr.wellFormed, h]

theorem fenceIo (s : BitVec 7) : Statement (.fenceIo s) := by
  intro h _
  have hs := s.isLt
  simp only [Instr.wellFormed, decide_eq_true_eq] at h
  obtain ⟨e, e0, e_d, e_a, e_b, e_fn⟩ := packF3_slots 19 s.toNat 0 0 4 (by omega) (by omega) (by omega) (by omega) (by omega)
  simp only [decodeWord, encode, encodeNat, BitVec.toNat_ofNat]
  rw [e, decodeNat_13 _ e0]
  unfold decodeMajor13
  simp only [e_fn]
  simp [legalIf, e_d, e_a, e_b, Instr.wellFormed, h]

theorem fenceEng (s : BitVec 7) : Statement (.fenceEng s) := by
  intro h _
  have hs := s.isLt
  simp only [Instr.wellFormed, decide_eq_true_eq] at h
  obtain ⟨e, e0, e_d, e_a, e_b, e_fn⟩ := packF3_slots 19 s.toNat 0 0 5 (by omega) (by omega) (by omega) (by omega) (by omega)
  simp only [decodeWord, encode, encodeNat, BitVec.toNat_ofNat]
  rw [e, decodeNat_13 _ e0]
  unfold decodeMajor13
  simp only [e_fn]
  simp [legalIf, e_d, e_a, e_b, Instr.wellFormed, h]

theorem fenceRetire (h : Nat) : Statement (.fenceRetire h) := by
  intro _ h; exact absurd h (by simp [Instr.hasWord])

theorem amgAdd (r : BitVec 2) (d : BitVec 7) (a : BitVec 7) (b : BitVec 7) (z : BitVec 1) : Statement (.amgAdd r d a b z) := by
  intro _ _
  have hr := r.isLt
  have hd := d.isLt
  have ha := a.isLt
  have hb := b.isLt
  have hz := z.isLt
  obtain hr | hr | hr | hr : r = 0 ∨ r = 1 ∨ r = 2 ∨ r = 3 := by
    have : r.toNat = 0 ∨ r.toNat = 1 ∨ r.toNat = 2 ∨ r.toNat = 3 := by omega
    rcases this with h | h | h | h <;> simp [← BitVec.toNat_inj, h]
  · subst hr
    obtain ⟨e, e0, e_d, e_a, e_b, e_z, e_fn⟩ := packFA_slots (20 + (0 : BitVec 2).toNat) d.toNat a.toNat b.toNat z.toNat 0 (by omega) (by omega) (by omega) (by omega) (by omega) (by omega)
    simp only [decodeWord, encode, encodeNat, BitVec.toNat_ofNat]
    rw [e, decodeNat_14 _ e0]
    unfold decodeMajor14
    simp only [e_fn]
    simp at e0 e_d e_a e_b e_z
    simp [legalIf, e0, e_d, e_a, e_b, e_z, Instr.wellFormed]
  · subst hr
    obtain ⟨e, e0, e_d, e_a, e_b, e_z, e_fn⟩ := packFA_slots (20 + (1 : BitVec 2).toNat) d.toNat a.toNat b.toNat z.toNat 0 (by omega) (by omega) (by omega) (by omega) (by omega) (by omega)
    simp only [decodeWord, encode, encodeNat, BitVec.toNat_ofNat]
    rw [e, decodeNat_15 _ e0]
    unfold decodeMajor14
    simp only [e_fn]
    simp at e0 e_d e_a e_b e_z
    simp [legalIf, e0, e_d, e_a, e_b, e_z, Instr.wellFormed]
  · subst hr
    obtain ⟨e, e0, e_d, e_a, e_b, e_z, e_fn⟩ := packFA_slots (20 + (2 : BitVec 2).toNat) d.toNat a.toNat b.toNat z.toNat 0 (by omega) (by omega) (by omega) (by omega) (by omega) (by omega)
    simp only [decodeWord, encode, encodeNat, BitVec.toNat_ofNat]
    rw [e, decodeNat_16 _ e0]
    unfold decodeMajor14
    simp only [e_fn]
    simp at e0 e_d e_a e_b e_z
    simp [legalIf, e0, e_d, e_a, e_b, e_z, Instr.wellFormed]
  · subst hr
    obtain ⟨e, e0, e_d, e_a, e_b, e_z, e_fn⟩ := packFA_slots (20 + (3 : BitVec 2).toNat) d.toNat a.toNat b.toNat z.toNat 0 (by omega) (by omega) (by omega) (by omega) (by omega) (by omega)
    simp only [decodeWord, encode, encodeNat, BitVec.toNat_ofNat]
    rw [e, decodeNat_17 _ e0]
    unfold decodeMajor14
    simp only [e_fn]
    simp at e0 e_d e_a e_b e_z
    simp [legalIf, e0, e_d, e_a, e_b, e_z, Instr.wellFormed]


theorem amgAnd (r : BitVec 2) (d : BitVec 7) (a : BitVec 7) (b : BitVec 7) (z : BitVec 1) : Statement (.amgAnd r d a b z) := by
  intro _ _
  have hr := r.isLt
  have hd := d.isLt
  have ha := a.isLt
  have hb := b.isLt
  have hz := z.isLt
  obtain hr | hr | hr | hr : r = 0 ∨ r = 1 ∨ r = 2 ∨ r = 3 := by
    have : r.toNat = 0 ∨ r.toNat = 1 ∨ r.toNat = 2 ∨ r.toNat = 3 := by omega
    rcases this with h | h | h | h <;> simp [← BitVec.toNat_inj, h]
  · subst hr
    obtain ⟨e, e0, e_d, e_a, e_b, e_z, e_fn⟩ := packFA_slots (20 + (0 : BitVec 2).toNat) d.toNat a.toNat b.toNat z.toNat 1 (by omega) (by omega) (by omega) (by omega) (by omega) (by omega)
    simp only [decodeWord, encode, encodeNat, BitVec.toNat_ofNat]
    rw [e, decodeNat_14 _ e0]
    unfold decodeMajor14
    simp only [e_fn]
    simp at e0 e_d e_a e_b e_z
    simp [legalIf, e0, e_d, e_a, e_b, e_z, Instr.wellFormed]
  · subst hr
    obtain ⟨e, e0, e_d, e_a, e_b, e_z, e_fn⟩ := packFA_slots (20 + (1 : BitVec 2).toNat) d.toNat a.toNat b.toNat z.toNat 1 (by omega) (by omega) (by omega) (by omega) (by omega) (by omega)
    simp only [decodeWord, encode, encodeNat, BitVec.toNat_ofNat]
    rw [e, decodeNat_15 _ e0]
    unfold decodeMajor14
    simp only [e_fn]
    simp at e0 e_d e_a e_b e_z
    simp [legalIf, e0, e_d, e_a, e_b, e_z, Instr.wellFormed]
  · subst hr
    obtain ⟨e, e0, e_d, e_a, e_b, e_z, e_fn⟩ := packFA_slots (20 + (2 : BitVec 2).toNat) d.toNat a.toNat b.toNat z.toNat 1 (by omega) (by omega) (by omega) (by omega) (by omega) (by omega)
    simp only [decodeWord, encode, encodeNat, BitVec.toNat_ofNat]
    rw [e, decodeNat_16 _ e0]
    unfold decodeMajor14
    simp only [e_fn]
    simp at e0 e_d e_a e_b e_z
    simp [legalIf, e0, e_d, e_a, e_b, e_z, Instr.wellFormed]
  · subst hr
    obtain ⟨e, e0, e_d, e_a, e_b, e_z, e_fn⟩ := packFA_slots (20 + (3 : BitVec 2).toNat) d.toNat a.toNat b.toNat z.toNat 1 (by omega) (by omega) (by omega) (by omega) (by omega) (by omega)
    simp only [decodeWord, encode, encodeNat, BitVec.toNat_ofNat]
    rw [e, decodeNat_17 _ e0]
    unfold decodeMajor14
    simp only [e_fn]
    simp at e0 e_d e_a e_b e_z
    simp [legalIf, e0, e_d, e_a, e_b, e_z, Instr.wellFormed]


theorem amgOr (r : BitVec 2) (d : BitVec 7) (a : BitVec 7) (b : BitVec 7) (z : BitVec 1) : Statement (.amgOr r d a b z) := by
  intro _ _
  have hr := r.isLt
  have hd := d.isLt
  have ha := a.isLt
  have hb := b.isLt
  have hz := z.isLt
  obtain hr | hr | hr | hr : r = 0 ∨ r = 1 ∨ r = 2 ∨ r = 3 := by
    have : r.toNat = 0 ∨ r.toNat = 1 ∨ r.toNat = 2 ∨ r.toNat = 3 := by omega
    rcases this with h | h | h | h <;> simp [← BitVec.toNat_inj, h]
  · subst hr
    obtain ⟨e, e0, e_d, e_a, e_b, e_z, e_fn⟩ := packFA_slots (20 + (0 : BitVec 2).toNat) d.toNat a.toNat b.toNat z.toNat 2 (by omega) (by omega) (by omega) (by omega) (by omega) (by omega)
    simp only [decodeWord, encode, encodeNat, BitVec.toNat_ofNat]
    rw [e, decodeNat_14 _ e0]
    unfold decodeMajor14
    simp only [e_fn]
    simp at e0 e_d e_a e_b e_z
    simp [legalIf, e0, e_d, e_a, e_b, e_z, Instr.wellFormed]
  · subst hr
    obtain ⟨e, e0, e_d, e_a, e_b, e_z, e_fn⟩ := packFA_slots (20 + (1 : BitVec 2).toNat) d.toNat a.toNat b.toNat z.toNat 2 (by omega) (by omega) (by omega) (by omega) (by omega) (by omega)
    simp only [decodeWord, encode, encodeNat, BitVec.toNat_ofNat]
    rw [e, decodeNat_15 _ e0]
    unfold decodeMajor14
    simp only [e_fn]
    simp at e0 e_d e_a e_b e_z
    simp [legalIf, e0, e_d, e_a, e_b, e_z, Instr.wellFormed]
  · subst hr
    obtain ⟨e, e0, e_d, e_a, e_b, e_z, e_fn⟩ := packFA_slots (20 + (2 : BitVec 2).toNat) d.toNat a.toNat b.toNat z.toNat 2 (by omega) (by omega) (by omega) (by omega) (by omega) (by omega)
    simp only [decodeWord, encode, encodeNat, BitVec.toNat_ofNat]
    rw [e, decodeNat_16 _ e0]
    unfold decodeMajor14
    simp only [e_fn]
    simp at e0 e_d e_a e_b e_z
    simp [legalIf, e0, e_d, e_a, e_b, e_z, Instr.wellFormed]
  · subst hr
    obtain ⟨e, e0, e_d, e_a, e_b, e_z, e_fn⟩ := packFA_slots (20 + (3 : BitVec 2).toNat) d.toNat a.toNat b.toNat z.toNat 2 (by omega) (by omega) (by omega) (by omega) (by omega) (by omega)
    simp only [decodeWord, encode, encodeNat, BitVec.toNat_ofNat]
    rw [e, decodeNat_17 _ e0]
    unfold decodeMajor14
    simp only [e_fn]
    simp at e0 e_d e_a e_b e_z
    simp [legalIf, e0, e_d, e_a, e_b, e_z, Instr.wellFormed]


theorem amgXor (r : BitVec 2) (d : BitVec 7) (a : BitVec 7) (b : BitVec 7) (z : BitVec 1) : Statement (.amgXor r d a b z) := by
  intro _ _
  have hr := r.isLt
  have hd := d.isLt
  have ha := a.isLt
  have hb := b.isLt
  have hz := z.isLt
  obtain hr | hr | hr | hr : r = 0 ∨ r = 1 ∨ r = 2 ∨ r = 3 := by
    have : r.toNat = 0 ∨ r.toNat = 1 ∨ r.toNat = 2 ∨ r.toNat = 3 := by omega
    rcases this with h | h | h | h <;> simp [← BitVec.toNat_inj, h]
  · subst hr
    obtain ⟨e, e0, e_d, e_a, e_b, e_z, e_fn⟩ := packFA_slots (20 + (0 : BitVec 2).toNat) d.toNat a.toNat b.toNat z.toNat 3 (by omega) (by omega) (by omega) (by omega) (by omega) (by omega)
    simp only [decodeWord, encode, encodeNat, BitVec.toNat_ofNat]
    rw [e, decodeNat_14 _ e0]
    unfold decodeMajor14
    simp only [e_fn]
    simp at e0 e_d e_a e_b e_z
    simp [legalIf, e0, e_d, e_a, e_b, e_z, Instr.wellFormed]
  · subst hr
    obtain ⟨e, e0, e_d, e_a, e_b, e_z, e_fn⟩ := packFA_slots (20 + (1 : BitVec 2).toNat) d.toNat a.toNat b.toNat z.toNat 3 (by omega) (by omega) (by omega) (by omega) (by omega) (by omega)
    simp only [decodeWord, encode, encodeNat, BitVec.toNat_ofNat]
    rw [e, decodeNat_15 _ e0]
    unfold decodeMajor14
    simp only [e_fn]
    simp at e0 e_d e_a e_b e_z
    simp [legalIf, e0, e_d, e_a, e_b, e_z, Instr.wellFormed]
  · subst hr
    obtain ⟨e, e0, e_d, e_a, e_b, e_z, e_fn⟩ := packFA_slots (20 + (2 : BitVec 2).toNat) d.toNat a.toNat b.toNat z.toNat 3 (by omega) (by omega) (by omega) (by omega) (by omega) (by omega)
    simp only [decodeWord, encode, encodeNat, BitVec.toNat_ofNat]
    rw [e, decodeNat_16 _ e0]
    unfold decodeMajor14
    simp only [e_fn]
    simp at e0 e_d e_a e_b e_z
    simp [legalIf, e0, e_d, e_a, e_b, e_z, Instr.wellFormed]
  · subst hr
    obtain ⟨e, e0, e_d, e_a, e_b, e_z, e_fn⟩ := packFA_slots (20 + (3 : BitVec 2).toNat) d.toNat a.toNat b.toNat z.toNat 3 (by omega) (by omega) (by omega) (by omega) (by omega) (by omega)
    simp only [decodeWord, encode, encodeNat, BitVec.toNat_ofNat]
    rw [e, decodeNat_17 _ e0]
    unfold decodeMajor14
    simp only [e_fn]
    simp at e0 e_d e_a e_b e_z
    simp [legalIf, e0, e_d, e_a, e_b, e_z, Instr.wellFormed]


theorem amgMin (r : BitVec 2) (d : BitVec 7) (a : BitVec 7) (b : BitVec 7) (z : BitVec 1) : Statement (.amgMin r d a b z) := by
  intro _ _
  have hr := r.isLt
  have hd := d.isLt
  have ha := a.isLt
  have hb := b.isLt
  have hz := z.isLt
  obtain hr | hr | hr | hr : r = 0 ∨ r = 1 ∨ r = 2 ∨ r = 3 := by
    have : r.toNat = 0 ∨ r.toNat = 1 ∨ r.toNat = 2 ∨ r.toNat = 3 := by omega
    rcases this with h | h | h | h <;> simp [← BitVec.toNat_inj, h]
  · subst hr
    obtain ⟨e, e0, e_d, e_a, e_b, e_z, e_fn⟩ := packFA_slots (20 + (0 : BitVec 2).toNat) d.toNat a.toNat b.toNat z.toNat 4 (by omega) (by omega) (by omega) (by omega) (by omega) (by omega)
    simp only [decodeWord, encode, encodeNat, BitVec.toNat_ofNat]
    rw [e, decodeNat_14 _ e0]
    unfold decodeMajor14
    simp only [e_fn]
    simp at e0 e_d e_a e_b e_z
    simp [legalIf, e0, e_d, e_a, e_b, e_z, Instr.wellFormed]
  · subst hr
    obtain ⟨e, e0, e_d, e_a, e_b, e_z, e_fn⟩ := packFA_slots (20 + (1 : BitVec 2).toNat) d.toNat a.toNat b.toNat z.toNat 4 (by omega) (by omega) (by omega) (by omega) (by omega) (by omega)
    simp only [decodeWord, encode, encodeNat, BitVec.toNat_ofNat]
    rw [e, decodeNat_15 _ e0]
    unfold decodeMajor14
    simp only [e_fn]
    simp at e0 e_d e_a e_b e_z
    simp [legalIf, e0, e_d, e_a, e_b, e_z, Instr.wellFormed]
  · subst hr
    obtain ⟨e, e0, e_d, e_a, e_b, e_z, e_fn⟩ := packFA_slots (20 + (2 : BitVec 2).toNat) d.toNat a.toNat b.toNat z.toNat 4 (by omega) (by omega) (by omega) (by omega) (by omega) (by omega)
    simp only [decodeWord, encode, encodeNat, BitVec.toNat_ofNat]
    rw [e, decodeNat_16 _ e0]
    unfold decodeMajor14
    simp only [e_fn]
    simp at e0 e_d e_a e_b e_z
    simp [legalIf, e0, e_d, e_a, e_b, e_z, Instr.wellFormed]
  · subst hr
    obtain ⟨e, e0, e_d, e_a, e_b, e_z, e_fn⟩ := packFA_slots (20 + (3 : BitVec 2).toNat) d.toNat a.toNat b.toNat z.toNat 4 (by omega) (by omega) (by omega) (by omega) (by omega) (by omega)
    simp only [decodeWord, encode, encodeNat, BitVec.toNat_ofNat]
    rw [e, decodeNat_17 _ e0]
    unfold decodeMajor14
    simp only [e_fn]
    simp at e0 e_d e_a e_b e_z
    simp [legalIf, e0, e_d, e_a, e_b, e_z, Instr.wellFormed]


theorem amgMax (r : BitVec 2) (d : BitVec 7) (a : BitVec 7) (b : BitVec 7) (z : BitVec 1) : Statement (.amgMax r d a b z) := by
  intro _ _
  have hr := r.isLt
  have hd := d.isLt
  have ha := a.isLt
  have hb := b.isLt
  have hz := z.isLt
  obtain hr | hr | hr | hr : r = 0 ∨ r = 1 ∨ r = 2 ∨ r = 3 := by
    have : r.toNat = 0 ∨ r.toNat = 1 ∨ r.toNat = 2 ∨ r.toNat = 3 := by omega
    rcases this with h | h | h | h <;> simp [← BitVec.toNat_inj, h]
  · subst hr
    obtain ⟨e, e0, e_d, e_a, e_b, e_z, e_fn⟩ := packFA_slots (20 + (0 : BitVec 2).toNat) d.toNat a.toNat b.toNat z.toNat 5 (by omega) (by omega) (by omega) (by omega) (by omega) (by omega)
    simp only [decodeWord, encode, encodeNat, BitVec.toNat_ofNat]
    rw [e, decodeNat_14 _ e0]
    unfold decodeMajor14
    simp only [e_fn]
    simp at e0 e_d e_a e_b e_z
    simp [legalIf, e0, e_d, e_a, e_b, e_z, Instr.wellFormed]
  · subst hr
    obtain ⟨e, e0, e_d, e_a, e_b, e_z, e_fn⟩ := packFA_slots (20 + (1 : BitVec 2).toNat) d.toNat a.toNat b.toNat z.toNat 5 (by omega) (by omega) (by omega) (by omega) (by omega) (by omega)
    simp only [decodeWord, encode, encodeNat, BitVec.toNat_ofNat]
    rw [e, decodeNat_15 _ e0]
    unfold decodeMajor14
    simp only [e_fn]
    simp at e0 e_d e_a e_b e_z
    simp [legalIf, e0, e_d, e_a, e_b, e_z, Instr.wellFormed]
  · subst hr
    obtain ⟨e, e0, e_d, e_a, e_b, e_z, e_fn⟩ := packFA_slots (20 + (2 : BitVec 2).toNat) d.toNat a.toNat b.toNat z.toNat 5 (by omega) (by omega) (by omega) (by omega) (by omega) (by omega)
    simp only [decodeWord, encode, encodeNat, BitVec.toNat_ofNat]
    rw [e, decodeNat_16 _ e0]
    unfold decodeMajor14
    simp only [e_fn]
    simp at e0 e_d e_a e_b e_z
    simp [legalIf, e0, e_d, e_a, e_b, e_z, Instr.wellFormed]
  · subst hr
    obtain ⟨e, e0, e_d, e_a, e_b, e_z, e_fn⟩ := packFA_slots (20 + (3 : BitVec 2).toNat) d.toNat a.toNat b.toNat z.toNat 5 (by omega) (by omega) (by omega) (by omega) (by omega) (by omega)
    simp only [decodeWord, encode, encodeNat, BitVec.toNat_ofNat]
    rw [e, decodeNat_17 _ e0]
    unfold decodeMajor14
    simp only [e_fn]
    simp at e0 e_d e_a e_b e_z
    simp [legalIf, e0, e_d, e_a, e_b, e_z, Instr.wellFormed]


theorem amgMinn (r : BitVec 2) (d : BitVec 7) (a : BitVec 7) (b : BitVec 7) (z : BitVec 1) : Statement (.amgMinn r d a b z) := by
  intro _ _
  have hr := r.isLt
  have hd := d.isLt
  have ha := a.isLt
  have hb := b.isLt
  have hz := z.isLt
  obtain hr | hr | hr | hr : r = 0 ∨ r = 1 ∨ r = 2 ∨ r = 3 := by
    have : r.toNat = 0 ∨ r.toNat = 1 ∨ r.toNat = 2 ∨ r.toNat = 3 := by omega
    rcases this with h | h | h | h <;> simp [← BitVec.toNat_inj, h]
  · subst hr
    obtain ⟨e, e0, e_d, e_a, e_b, e_z, e_fn⟩ := packFA_slots (20 + (0 : BitVec 2).toNat) d.toNat a.toNat b.toNat z.toNat 6 (by omega) (by omega) (by omega) (by omega) (by omega) (by omega)
    simp only [decodeWord, encode, encodeNat, BitVec.toNat_ofNat]
    rw [e, decodeNat_14 _ e0]
    unfold decodeMajor14
    simp only [e_fn]
    simp at e0 e_d e_a e_b e_z
    simp [legalIf, e0, e_d, e_a, e_b, e_z, Instr.wellFormed]
  · subst hr
    obtain ⟨e, e0, e_d, e_a, e_b, e_z, e_fn⟩ := packFA_slots (20 + (1 : BitVec 2).toNat) d.toNat a.toNat b.toNat z.toNat 6 (by omega) (by omega) (by omega) (by omega) (by omega) (by omega)
    simp only [decodeWord, encode, encodeNat, BitVec.toNat_ofNat]
    rw [e, decodeNat_15 _ e0]
    unfold decodeMajor14
    simp only [e_fn]
    simp at e0 e_d e_a e_b e_z
    simp [legalIf, e0, e_d, e_a, e_b, e_z, Instr.wellFormed]
  · subst hr
    obtain ⟨e, e0, e_d, e_a, e_b, e_z, e_fn⟩ := packFA_slots (20 + (2 : BitVec 2).toNat) d.toNat a.toNat b.toNat z.toNat 6 (by omega) (by omega) (by omega) (by omega) (by omega) (by omega)
    simp only [decodeWord, encode, encodeNat, BitVec.toNat_ofNat]
    rw [e, decodeNat_16 _ e0]
    unfold decodeMajor14
    simp only [e_fn]
    simp at e0 e_d e_a e_b e_z
    simp [legalIf, e0, e_d, e_a, e_b, e_z, Instr.wellFormed]
  · subst hr
    obtain ⟨e, e0, e_d, e_a, e_b, e_z, e_fn⟩ := packFA_slots (20 + (3 : BitVec 2).toNat) d.toNat a.toNat b.toNat z.toNat 6 (by omega) (by omega) (by omega) (by omega) (by omega) (by omega)
    simp only [decodeWord, encode, encodeNat, BitVec.toNat_ofNat]
    rw [e, decodeNat_17 _ e0]
    unfold decodeMajor14
    simp only [e_fn]
    simp at e0 e_d e_a e_b e_z
    simp [legalIf, e0, e_d, e_a, e_b, e_z, Instr.wellFormed]


theorem amgMaxn (r : BitVec 2) (d : BitVec 7) (a : BitVec 7) (b : BitVec 7) (z : BitVec 1) : Statement (.amgMaxn r d a b z) := by
  intro _ _
  have hr := r.isLt
  have hd := d.isLt
  have ha := a.isLt
  have hb := b.isLt
  have hz := z.isLt
  obtain hr | hr | hr | hr : r = 0 ∨ r = 1 ∨ r = 2 ∨ r = 3 := by
    have : r.toNat = 0 ∨ r.toNat = 1 ∨ r.toNat = 2 ∨ r.toNat = 3 := by omega
    rcases this with h | h | h | h <;> simp [← BitVec.toNat_inj, h]
  · subst hr
    obtain ⟨e, e0, e_d, e_a, e_b, e_z, e_fn⟩ := packFA_slots (20 + (0 : BitVec 2).toNat) d.toNat a.toNat b.toNat z.toNat 7 (by omega) (by omega) (by omega) (by omega) (by omega) (by omega)
    simp only [decodeWord, encode, encodeNat, BitVec.toNat_ofNat]
    rw [e, decodeNat_14 _ e0]
    unfold decodeMajor14
    simp only [e_fn]
    simp at e0 e_d e_a e_b e_z
    simp [legalIf, e0, e_d, e_a, e_b, e_z, Instr.wellFormed]
  · subst hr
    obtain ⟨e, e0, e_d, e_a, e_b, e_z, e_fn⟩ := packFA_slots (20 + (1 : BitVec 2).toNat) d.toNat a.toNat b.toNat z.toNat 7 (by omega) (by omega) (by omega) (by omega) (by omega) (by omega)
    simp only [decodeWord, encode, encodeNat, BitVec.toNat_ofNat]
    rw [e, decodeNat_15 _ e0]
    unfold decodeMajor14
    simp only [e_fn]
    simp at e0 e_d e_a e_b e_z
    simp [legalIf, e0, e_d, e_a, e_b, e_z, Instr.wellFormed]
  · subst hr
    obtain ⟨e, e0, e_d, e_a, e_b, e_z, e_fn⟩ := packFA_slots (20 + (2 : BitVec 2).toNat) d.toNat a.toNat b.toNat z.toNat 7 (by omega) (by omega) (by omega) (by omega) (by omega) (by omega)
    simp only [decodeWord, encode, encodeNat, BitVec.toNat_ofNat]
    rw [e, decodeNat_16 _ e0]
    unfold decodeMajor14
    simp only [e_fn]
    simp at e0 e_d e_a e_b e_z
    simp [legalIf, e0, e_d, e_a, e_b, e_z, Instr.wellFormed]
  · subst hr
    obtain ⟨e, e0, e_d, e_a, e_b, e_z, e_fn⟩ := packFA_slots (20 + (3 : BitVec 2).toNat) d.toNat a.toNat b.toNat z.toNat 7 (by omega) (by omega) (by omega) (by omega) (by omega) (by omega)
    simp only [decodeWord, encode, encodeNat, BitVec.toNat_ofNat]
    rw [e, decodeNat_17 _ e0]
    unfold decodeMajor14
    simp only [e_fn]
    simp at e0 e_d e_a e_b e_z
    simp [legalIf, e0, e_d, e_a, e_b, e_z, Instr.wellFormed]


theorem amgSwp (r : BitVec 2) (d : BitVec 7) (a : BitVec 7) (b : BitVec 7) (z : BitVec 1) : Statement (.amgSwp r d a b z) := by
  intro _ _
  have hr := r.isLt
  have hd := d.isLt
  have ha := a.isLt
  have hb := b.isLt
  have hz := z.isLt
  obtain hr | hr | hr | hr : r = 0 ∨ r = 1 ∨ r = 2 ∨ r = 3 := by
    have : r.toNat = 0 ∨ r.toNat = 1 ∨ r.toNat = 2 ∨ r.toNat = 3 := by omega
    rcases this with h | h | h | h <;> simp [← BitVec.toNat_inj, h]
  · subst hr
    obtain ⟨e, e0, e_d, e_a, e_b, e_z, e_fn⟩ := packFA_slots (20 + (0 : BitVec 2).toNat) d.toNat a.toNat b.toNat z.toNat 8 (by omega) (by omega) (by omega) (by omega) (by omega) (by omega)
    simp only [decodeWord, encode, encodeNat, BitVec.toNat_ofNat]
    rw [e, decodeNat_14 _ e0]
    unfold decodeMajor14
    simp only [e_fn]
    simp at e0 e_d e_a e_b e_z
    simp [legalIf, e0, e_d, e_a, e_b, e_z, Instr.wellFormed]
  · subst hr
    obtain ⟨e, e0, e_d, e_a, e_b, e_z, e_fn⟩ := packFA_slots (20 + (1 : BitVec 2).toNat) d.toNat a.toNat b.toNat z.toNat 8 (by omega) (by omega) (by omega) (by omega) (by omega) (by omega)
    simp only [decodeWord, encode, encodeNat, BitVec.toNat_ofNat]
    rw [e, decodeNat_15 _ e0]
    unfold decodeMajor14
    simp only [e_fn]
    simp at e0 e_d e_a e_b e_z
    simp [legalIf, e0, e_d, e_a, e_b, e_z, Instr.wellFormed]
  · subst hr
    obtain ⟨e, e0, e_d, e_a, e_b, e_z, e_fn⟩ := packFA_slots (20 + (2 : BitVec 2).toNat) d.toNat a.toNat b.toNat z.toNat 8 (by omega) (by omega) (by omega) (by omega) (by omega) (by omega)
    simp only [decodeWord, encode, encodeNat, BitVec.toNat_ofNat]
    rw [e, decodeNat_16 _ e0]
    unfold decodeMajor14
    simp only [e_fn]
    simp at e0 e_d e_a e_b e_z
    simp [legalIf, e0, e_d, e_a, e_b, e_z, Instr.wellFormed]
  · subst hr
    obtain ⟨e, e0, e_d, e_a, e_b, e_z, e_fn⟩ := packFA_slots (20 + (3 : BitVec 2).toNat) d.toNat a.toNat b.toNat z.toNat 8 (by omega) (by omega) (by omega) (by omega) (by omega) (by omega)
    simp only [decodeWord, encode, encodeNat, BitVec.toNat_ofNat]
    rw [e, decodeNat_17 _ e0]
    unfold decodeMajor14
    simp only [e_fn]
    simp at e0 e_d e_a e_b e_z
    simp [legalIf, e0, e_d, e_a, e_b, e_z, Instr.wellFormed]


theorem amgCas (r : BitVec 2) (d : BitVec 7) (a : BitVec 7) (b : BitVec 7) (z : BitVec 1) : Statement (.amgCas r d a b z) := by
  intro _ _
  have hr := r.isLt
  have hd := d.isLt
  have ha := a.isLt
  have hb := b.isLt
  have hz := z.isLt
  obtain hr | hr | hr | hr : r = 0 ∨ r = 1 ∨ r = 2 ∨ r = 3 := by
    have : r.toNat = 0 ∨ r.toNat = 1 ∨ r.toNat = 2 ∨ r.toNat = 3 := by omega
    rcases this with h | h | h | h <;> simp [← BitVec.toNat_inj, h]
  · subst hr
    obtain ⟨e, e0, e_d, e_a, e_b, e_z, e_fn⟩ := packFA_slots (20 + (0 : BitVec 2).toNat) d.toNat a.toNat b.toNat z.toNat 9 (by omega) (by omega) (by omega) (by omega) (by omega) (by omega)
    simp only [decodeWord, encode, encodeNat, BitVec.toNat_ofNat]
    rw [e, decodeNat_14 _ e0]
    unfold decodeMajor14
    simp only [e_fn]
    simp at e0 e_d e_a e_b e_z
    simp [legalIf, e0, e_d, e_a, e_b, e_z, Instr.wellFormed]
  · subst hr
    obtain ⟨e, e0, e_d, e_a, e_b, e_z, e_fn⟩ := packFA_slots (20 + (1 : BitVec 2).toNat) d.toNat a.toNat b.toNat z.toNat 9 (by omega) (by omega) (by omega) (by omega) (by omega) (by omega)
    simp only [decodeWord, encode, encodeNat, BitVec.toNat_ofNat]
    rw [e, decodeNat_15 _ e0]
    unfold decodeMajor14
    simp only [e_fn]
    simp at e0 e_d e_a e_b e_z
    simp [legalIf, e0, e_d, e_a, e_b, e_z, Instr.wellFormed]
  · subst hr
    obtain ⟨e, e0, e_d, e_a, e_b, e_z, e_fn⟩ := packFA_slots (20 + (2 : BitVec 2).toNat) d.toNat a.toNat b.toNat z.toNat 9 (by omega) (by omega) (by omega) (by omega) (by omega) (by omega)
    simp only [decodeWord, encode, encodeNat, BitVec.toNat_ofNat]
    rw [e, decodeNat_16 _ e0]
    unfold decodeMajor14
    simp only [e_fn]
    simp at e0 e_d e_a e_b e_z
    simp [legalIf, e0, e_d, e_a, e_b, e_z, Instr.wellFormed]
  · subst hr
    obtain ⟨e, e0, e_d, e_a, e_b, e_z, e_fn⟩ := packFA_slots (20 + (3 : BitVec 2).toNat) d.toNat a.toNat b.toNat z.toNat 9 (by omega) (by omega) (by omega) (by omega) (by omega) (by omega)
    simp only [decodeWord, encode, encodeNat, BitVec.toNat_ofNat]
    rw [e, decodeNat_17 _ e0]
    unfold decodeMajor14
    simp only [e_fn]
    simp at e0 e_d e_a e_b e_z
    simp [legalIf, e0, e_d, e_a, e_b, e_z, Instr.wellFormed]


theorem amgFadd (r : BitVec 2) (d : BitVec 7) (a : BitVec 7) (b : BitVec 7) (z : BitVec 1) : Statement (.amgFadd r d a b z) := by
  intro _ _
  have hr := r.isLt
  have hd := d.isLt
  have ha := a.isLt
  have hb := b.isLt
  have hz := z.isLt
  obtain hr | hr | hr | hr : r = 0 ∨ r = 1 ∨ r = 2 ∨ r = 3 := by
    have : r.toNat = 0 ∨ r.toNat = 1 ∨ r.toNat = 2 ∨ r.toNat = 3 := by omega
    rcases this with h | h | h | h <;> simp [← BitVec.toNat_inj, h]
  · subst hr
    obtain ⟨e, e0, e_d, e_a, e_b, e_z, e_fn⟩ := packFA_slots (20 + (0 : BitVec 2).toNat) d.toNat a.toNat b.toNat z.toNat 10 (by omega) (by omega) (by omega) (by omega) (by omega) (by omega)
    simp only [decodeWord, encode, encodeNat, BitVec.toNat_ofNat]
    rw [e, decodeNat_14 _ e0]
    unfold decodeMajor14
    simp only [e_fn]
    simp at e0 e_d e_a e_b e_z
    simp [legalIf, e0, e_d, e_a, e_b, e_z, Instr.wellFormed]
  · subst hr
    obtain ⟨e, e0, e_d, e_a, e_b, e_z, e_fn⟩ := packFA_slots (20 + (1 : BitVec 2).toNat) d.toNat a.toNat b.toNat z.toNat 10 (by omega) (by omega) (by omega) (by omega) (by omega) (by omega)
    simp only [decodeWord, encode, encodeNat, BitVec.toNat_ofNat]
    rw [e, decodeNat_15 _ e0]
    unfold decodeMajor14
    simp only [e_fn]
    simp at e0 e_d e_a e_b e_z
    simp [legalIf, e0, e_d, e_a, e_b, e_z, Instr.wellFormed]
  · subst hr
    obtain ⟨e, e0, e_d, e_a, e_b, e_z, e_fn⟩ := packFA_slots (20 + (2 : BitVec 2).toNat) d.toNat a.toNat b.toNat z.toNat 10 (by omega) (by omega) (by omega) (by omega) (by omega) (by omega)
    simp only [decodeWord, encode, encodeNat, BitVec.toNat_ofNat]
    rw [e, decodeNat_16 _ e0]
    unfold decodeMajor14
    simp only [e_fn]
    simp at e0 e_d e_a e_b e_z
    simp [legalIf, e0, e_d, e_a, e_b, e_z, Instr.wellFormed]
  · subst hr
    obtain ⟨e, e0, e_d, e_a, e_b, e_z, e_fn⟩ := packFA_slots (20 + (3 : BitVec 2).toNat) d.toNat a.toNat b.toNat z.toNat 10 (by omega) (by omega) (by omega) (by omega) (by omega) (by omega)
    simp only [decodeWord, encode, encodeNat, BitVec.toNat_ofNat]
    rw [e, decodeNat_17 _ e0]
    unfold decodeMajor14
    simp only [e_fn]
    simp at e0 e_d e_a e_b e_z
    simp [legalIf, e0, e_d, e_a, e_b, e_z, Instr.wellFormed]


theorem amgInc (r : BitVec 2) (d : BitVec 7) (a : BitVec 7) (b : BitVec 7) (z : BitVec 1) : Statement (.amgInc r d a b z) := by
  intro _ _
  have hr := r.isLt
  have hd := d.isLt
  have ha := a.isLt
  have hb := b.isLt
  have hz := z.isLt
  obtain hr | hr | hr | hr : r = 0 ∨ r = 1 ∨ r = 2 ∨ r = 3 := by
    have : r.toNat = 0 ∨ r.toNat = 1 ∨ r.toNat = 2 ∨ r.toNat = 3 := by omega
    rcases this with h | h | h | h <;> simp [← BitVec.toNat_inj, h]
  · subst hr
    obtain ⟨e, e0, e_d, e_a, e_b, e_z, e_fn⟩ := packFA_slots (20 + (0 : BitVec 2).toNat) d.toNat a.toNat b.toNat z.toNat 11 (by omega) (by omega) (by omega) (by omega) (by omega) (by omega)
    simp only [decodeWord, encode, encodeNat, BitVec.toNat_ofNat]
    rw [e, decodeNat_14 _ e0]
    unfold decodeMajor14
    simp only [e_fn]
    simp at e0 e_d e_a e_b e_z
    simp [legalIf, e0, e_d, e_a, e_b, e_z, Instr.wellFormed]
  · subst hr
    obtain ⟨e, e0, e_d, e_a, e_b, e_z, e_fn⟩ := packFA_slots (20 + (1 : BitVec 2).toNat) d.toNat a.toNat b.toNat z.toNat 11 (by omega) (by omega) (by omega) (by omega) (by omega) (by omega)
    simp only [decodeWord, encode, encodeNat, BitVec.toNat_ofNat]
    rw [e, decodeNat_15 _ e0]
    unfold decodeMajor14
    simp only [e_fn]
    simp at e0 e_d e_a e_b e_z
    simp [legalIf, e0, e_d, e_a, e_b, e_z, Instr.wellFormed]
  · subst hr
    obtain ⟨e, e0, e_d, e_a, e_b, e_z, e_fn⟩ := packFA_slots (20 + (2 : BitVec 2).toNat) d.toNat a.toNat b.toNat z.toNat 11 (by omega) (by omega) (by omega) (by omega) (by omega) (by omega)
    simp only [decodeWord, encode, encodeNat, BitVec.toNat_ofNat]
    rw [e, decodeNat_16 _ e0]
    unfold decodeMajor14
    simp only [e_fn]
    simp at e0 e_d e_a e_b e_z
    simp [legalIf, e0, e_d, e_a, e_b, e_z, Instr.wellFormed]
  · subst hr
    obtain ⟨e, e0, e_d, e_a, e_b, e_z, e_fn⟩ := packFA_slots (20 + (3 : BitVec 2).toNat) d.toNat a.toNat b.toNat z.toNat 11 (by omega) (by omega) (by omega) (by omega) (by omega) (by omega)
    simp only [decodeWord, encode, encodeNat, BitVec.toNat_ofNat]
    rw [e, decodeNat_17 _ e0]
    unfold decodeMajor14
    simp only [e_fn]
    simp at e0 e_d e_a e_b e_z
    simp [legalIf, e0, e_d, e_a, e_b, e_z, Instr.wellFormed]


theorem amsAdd (r : BitVec 2) (d : BitVec 7) (a : BitVec 7) (b : BitVec 7) (z : BitVec 1) : Statement (.amsAdd r d a b z) := by
  intro _ _
  have hr := r.isLt
  have hd := d.isLt
  have ha := a.isLt
  have hb := b.isLt
  have hz := z.isLt
  obtain hr | hr | hr | hr : r = 0 ∨ r = 1 ∨ r = 2 ∨ r = 3 := by
    have : r.toNat = 0 ∨ r.toNat = 1 ∨ r.toNat = 2 ∨ r.toNat = 3 := by omega
    rcases this with h | h | h | h <;> simp [← BitVec.toNat_inj, h]
  · subst hr
    obtain ⟨e, e0, e_d, e_a, e_b, e_z, e_fn⟩ := packFA_slots (24 + (0 : BitVec 2).toNat) d.toNat a.toNat b.toNat z.toNat 0 (by omega) (by omega) (by omega) (by omega) (by omega) (by omega)
    simp only [decodeWord, encode, encodeNat, BitVec.toNat_ofNat]
    rw [e, decodeNat_18 _ e0]
    unfold decodeMajor18
    simp only [e_fn]
    simp at e0 e_d e_a e_b e_z
    simp [legalIf, e0, e_d, e_a, e_b, e_z, Instr.wellFormed]
  · subst hr
    obtain ⟨e, e0, e_d, e_a, e_b, e_z, e_fn⟩ := packFA_slots (24 + (1 : BitVec 2).toNat) d.toNat a.toNat b.toNat z.toNat 0 (by omega) (by omega) (by omega) (by omega) (by omega) (by omega)
    simp only [decodeWord, encode, encodeNat, BitVec.toNat_ofNat]
    rw [e, decodeNat_19 _ e0]
    unfold decodeMajor18
    simp only [e_fn]
    simp at e0 e_d e_a e_b e_z
    simp [legalIf, e0, e_d, e_a, e_b, e_z, Instr.wellFormed]
  · subst hr
    obtain ⟨e, e0, e_d, e_a, e_b, e_z, e_fn⟩ := packFA_slots (24 + (2 : BitVec 2).toNat) d.toNat a.toNat b.toNat z.toNat 0 (by omega) (by omega) (by omega) (by omega) (by omega) (by omega)
    simp only [decodeWord, encode, encodeNat, BitVec.toNat_ofNat]
    rw [e, decodeNat_1A _ e0]
    unfold decodeMajor18
    simp only [e_fn]
    simp at e0 e_d e_a e_b e_z
    simp [legalIf, e0, e_d, e_a, e_b, e_z, Instr.wellFormed]
  · subst hr
    obtain ⟨e, e0, e_d, e_a, e_b, e_z, e_fn⟩ := packFA_slots (24 + (3 : BitVec 2).toNat) d.toNat a.toNat b.toNat z.toNat 0 (by omega) (by omega) (by omega) (by omega) (by omega) (by omega)
    simp only [decodeWord, encode, encodeNat, BitVec.toNat_ofNat]
    rw [e, decodeNat_1B _ e0]
    unfold decodeMajor18
    simp only [e_fn]
    simp at e0 e_d e_a e_b e_z
    simp [legalIf, e0, e_d, e_a, e_b, e_z, Instr.wellFormed]


theorem amsAnd (r : BitVec 2) (d : BitVec 7) (a : BitVec 7) (b : BitVec 7) (z : BitVec 1) : Statement (.amsAnd r d a b z) := by
  intro _ _
  have hr := r.isLt
  have hd := d.isLt
  have ha := a.isLt
  have hb := b.isLt
  have hz := z.isLt
  obtain hr | hr | hr | hr : r = 0 ∨ r = 1 ∨ r = 2 ∨ r = 3 := by
    have : r.toNat = 0 ∨ r.toNat = 1 ∨ r.toNat = 2 ∨ r.toNat = 3 := by omega
    rcases this with h | h | h | h <;> simp [← BitVec.toNat_inj, h]
  · subst hr
    obtain ⟨e, e0, e_d, e_a, e_b, e_z, e_fn⟩ := packFA_slots (24 + (0 : BitVec 2).toNat) d.toNat a.toNat b.toNat z.toNat 1 (by omega) (by omega) (by omega) (by omega) (by omega) (by omega)
    simp only [decodeWord, encode, encodeNat, BitVec.toNat_ofNat]
    rw [e, decodeNat_18 _ e0]
    unfold decodeMajor18
    simp only [e_fn]
    simp at e0 e_d e_a e_b e_z
    simp [legalIf, e0, e_d, e_a, e_b, e_z, Instr.wellFormed]
  · subst hr
    obtain ⟨e, e0, e_d, e_a, e_b, e_z, e_fn⟩ := packFA_slots (24 + (1 : BitVec 2).toNat) d.toNat a.toNat b.toNat z.toNat 1 (by omega) (by omega) (by omega) (by omega) (by omega) (by omega)
    simp only [decodeWord, encode, encodeNat, BitVec.toNat_ofNat]
    rw [e, decodeNat_19 _ e0]
    unfold decodeMajor18
    simp only [e_fn]
    simp at e0 e_d e_a e_b e_z
    simp [legalIf, e0, e_d, e_a, e_b, e_z, Instr.wellFormed]
  · subst hr
    obtain ⟨e, e0, e_d, e_a, e_b, e_z, e_fn⟩ := packFA_slots (24 + (2 : BitVec 2).toNat) d.toNat a.toNat b.toNat z.toNat 1 (by omega) (by omega) (by omega) (by omega) (by omega) (by omega)
    simp only [decodeWord, encode, encodeNat, BitVec.toNat_ofNat]
    rw [e, decodeNat_1A _ e0]
    unfold decodeMajor18
    simp only [e_fn]
    simp at e0 e_d e_a e_b e_z
    simp [legalIf, e0, e_d, e_a, e_b, e_z, Instr.wellFormed]
  · subst hr
    obtain ⟨e, e0, e_d, e_a, e_b, e_z, e_fn⟩ := packFA_slots (24 + (3 : BitVec 2).toNat) d.toNat a.toNat b.toNat z.toNat 1 (by omega) (by omega) (by omega) (by omega) (by omega) (by omega)
    simp only [decodeWord, encode, encodeNat, BitVec.toNat_ofNat]
    rw [e, decodeNat_1B _ e0]
    unfold decodeMajor18
    simp only [e_fn]
    simp at e0 e_d e_a e_b e_z
    simp [legalIf, e0, e_d, e_a, e_b, e_z, Instr.wellFormed]


theorem amsOr (r : BitVec 2) (d : BitVec 7) (a : BitVec 7) (b : BitVec 7) (z : BitVec 1) : Statement (.amsOr r d a b z) := by
  intro _ _
  have hr := r.isLt
  have hd := d.isLt
  have ha := a.isLt
  have hb := b.isLt
  have hz := z.isLt
  obtain hr | hr | hr | hr : r = 0 ∨ r = 1 ∨ r = 2 ∨ r = 3 := by
    have : r.toNat = 0 ∨ r.toNat = 1 ∨ r.toNat = 2 ∨ r.toNat = 3 := by omega
    rcases this with h | h | h | h <;> simp [← BitVec.toNat_inj, h]
  · subst hr
    obtain ⟨e, e0, e_d, e_a, e_b, e_z, e_fn⟩ := packFA_slots (24 + (0 : BitVec 2).toNat) d.toNat a.toNat b.toNat z.toNat 2 (by omega) (by omega) (by omega) (by omega) (by omega) (by omega)
    simp only [decodeWord, encode, encodeNat, BitVec.toNat_ofNat]
    rw [e, decodeNat_18 _ e0]
    unfold decodeMajor18
    simp only [e_fn]
    simp at e0 e_d e_a e_b e_z
    simp [legalIf, e0, e_d, e_a, e_b, e_z, Instr.wellFormed]
  · subst hr
    obtain ⟨e, e0, e_d, e_a, e_b, e_z, e_fn⟩ := packFA_slots (24 + (1 : BitVec 2).toNat) d.toNat a.toNat b.toNat z.toNat 2 (by omega) (by omega) (by omega) (by omega) (by omega) (by omega)
    simp only [decodeWord, encode, encodeNat, BitVec.toNat_ofNat]
    rw [e, decodeNat_19 _ e0]
    unfold decodeMajor18
    simp only [e_fn]
    simp at e0 e_d e_a e_b e_z
    simp [legalIf, e0, e_d, e_a, e_b, e_z, Instr.wellFormed]
  · subst hr
    obtain ⟨e, e0, e_d, e_a, e_b, e_z, e_fn⟩ := packFA_slots (24 + (2 : BitVec 2).toNat) d.toNat a.toNat b.toNat z.toNat 2 (by omega) (by omega) (by omega) (by omega) (by omega) (by omega)
    simp only [decodeWord, encode, encodeNat, BitVec.toNat_ofNat]
    rw [e, decodeNat_1A _ e0]
    unfold decodeMajor18
    simp only [e_fn]
    simp at e0 e_d e_a e_b e_z
    simp [legalIf, e0, e_d, e_a, e_b, e_z, Instr.wellFormed]
  · subst hr
    obtain ⟨e, e0, e_d, e_a, e_b, e_z, e_fn⟩ := packFA_slots (24 + (3 : BitVec 2).toNat) d.toNat a.toNat b.toNat z.toNat 2 (by omega) (by omega) (by omega) (by omega) (by omega) (by omega)
    simp only [decodeWord, encode, encodeNat, BitVec.toNat_ofNat]
    rw [e, decodeNat_1B _ e0]
    unfold decodeMajor18
    simp only [e_fn]
    simp at e0 e_d e_a e_b e_z
    simp [legalIf, e0, e_d, e_a, e_b, e_z, Instr.wellFormed]


theorem amsXor (r : BitVec 2) (d : BitVec 7) (a : BitVec 7) (b : BitVec 7) (z : BitVec 1) : Statement (.amsXor r d a b z) := by
  intro _ _
  have hr := r.isLt
  have hd := d.isLt
  have ha := a.isLt
  have hb := b.isLt
  have hz := z.isLt
  obtain hr | hr | hr | hr : r = 0 ∨ r = 1 ∨ r = 2 ∨ r = 3 := by
    have : r.toNat = 0 ∨ r.toNat = 1 ∨ r.toNat = 2 ∨ r.toNat = 3 := by omega
    rcases this with h | h | h | h <;> simp [← BitVec.toNat_inj, h]
  · subst hr
    obtain ⟨e, e0, e_d, e_a, e_b, e_z, e_fn⟩ := packFA_slots (24 + (0 : BitVec 2).toNat) d.toNat a.toNat b.toNat z.toNat 3 (by omega) (by omega) (by omega) (by omega) (by omega) (by omega)
    simp only [decodeWord, encode, encodeNat, BitVec.toNat_ofNat]
    rw [e, decodeNat_18 _ e0]
    unfold decodeMajor18
    simp only [e_fn]
    simp at e0 e_d e_a e_b e_z
    simp [legalIf, e0, e_d, e_a, e_b, e_z, Instr.wellFormed]
  · subst hr
    obtain ⟨e, e0, e_d, e_a, e_b, e_z, e_fn⟩ := packFA_slots (24 + (1 : BitVec 2).toNat) d.toNat a.toNat b.toNat z.toNat 3 (by omega) (by omega) (by omega) (by omega) (by omega) (by omega)
    simp only [decodeWord, encode, encodeNat, BitVec.toNat_ofNat]
    rw [e, decodeNat_19 _ e0]
    unfold decodeMajor18
    simp only [e_fn]
    simp at e0 e_d e_a e_b e_z
    simp [legalIf, e0, e_d, e_a, e_b, e_z, Instr.wellFormed]
  · subst hr
    obtain ⟨e, e0, e_d, e_a, e_b, e_z, e_fn⟩ := packFA_slots (24 + (2 : BitVec 2).toNat) d.toNat a.toNat b.toNat z.toNat 3 (by omega) (by omega) (by omega) (by omega) (by omega) (by omega)
    simp only [decodeWord, encode, encodeNat, BitVec.toNat_ofNat]
    rw [e, decodeNat_1A _ e0]
    unfold decodeMajor18
    simp only [e_fn]
    simp at e0 e_d e_a e_b e_z
    simp [legalIf, e0, e_d, e_a, e_b, e_z, Instr.wellFormed]
  · subst hr
    obtain ⟨e, e0, e_d, e_a, e_b, e_z, e_fn⟩ := packFA_slots (24 + (3 : BitVec 2).toNat) d.toNat a.toNat b.toNat z.toNat 3 (by omega) (by omega) (by omega) (by omega) (by omega) (by omega)
    simp only [decodeWord, encode, encodeNat, BitVec.toNat_ofNat]
    rw [e, decodeNat_1B _ e0]
    unfold decodeMajor18
    simp only [e_fn]
    simp at e0 e_d e_a e_b e_z
    simp [legalIf, e0, e_d, e_a, e_b, e_z, Instr.wellFormed]


theorem amsMin (r : BitVec 2) (d : BitVec 7) (a : BitVec 7) (b : BitVec 7) (z : BitVec 1) : Statement (.amsMin r d a b z) := by
  intro _ _
  have hr := r.isLt
  have hd := d.isLt
  have ha := a.isLt
  have hb := b.isLt
  have hz := z.isLt
  obtain hr | hr | hr | hr : r = 0 ∨ r = 1 ∨ r = 2 ∨ r = 3 := by
    have : r.toNat = 0 ∨ r.toNat = 1 ∨ r.toNat = 2 ∨ r.toNat = 3 := by omega
    rcases this with h | h | h | h <;> simp [← BitVec.toNat_inj, h]
  · subst hr
    obtain ⟨e, e0, e_d, e_a, e_b, e_z, e_fn⟩ := packFA_slots (24 + (0 : BitVec 2).toNat) d.toNat a.toNat b.toNat z.toNat 4 (by omega) (by omega) (by omega) (by omega) (by omega) (by omega)
    simp only [decodeWord, encode, encodeNat, BitVec.toNat_ofNat]
    rw [e, decodeNat_18 _ e0]
    unfold decodeMajor18
    simp only [e_fn]
    simp at e0 e_d e_a e_b e_z
    simp [legalIf, e0, e_d, e_a, e_b, e_z, Instr.wellFormed]
  · subst hr
    obtain ⟨e, e0, e_d, e_a, e_b, e_z, e_fn⟩ := packFA_slots (24 + (1 : BitVec 2).toNat) d.toNat a.toNat b.toNat z.toNat 4 (by omega) (by omega) (by omega) (by omega) (by omega) (by omega)
    simp only [decodeWord, encode, encodeNat, BitVec.toNat_ofNat]
    rw [e, decodeNat_19 _ e0]
    unfold decodeMajor18
    simp only [e_fn]
    simp at e0 e_d e_a e_b e_z
    simp [legalIf, e0, e_d, e_a, e_b, e_z, Instr.wellFormed]
  · subst hr
    obtain ⟨e, e0, e_d, e_a, e_b, e_z, e_fn⟩ := packFA_slots (24 + (2 : BitVec 2).toNat) d.toNat a.toNat b.toNat z.toNat 4 (by omega) (by omega) (by omega) (by omega) (by omega) (by omega)
    simp only [decodeWord, encode, encodeNat, BitVec.toNat_ofNat]
    rw [e, decodeNat_1A _ e0]
    unfold decodeMajor18
    simp only [e_fn]
    simp at e0 e_d e_a e_b e_z
    simp [legalIf, e0, e_d, e_a, e_b, e_z, Instr.wellFormed]
  · subst hr
    obtain ⟨e, e0, e_d, e_a, e_b, e_z, e_fn⟩ := packFA_slots (24 + (3 : BitVec 2).toNat) d.toNat a.toNat b.toNat z.toNat 4 (by omega) (by omega) (by omega) (by omega) (by omega) (by omega)
    simp only [decodeWord, encode, encodeNat, BitVec.toNat_ofNat]
    rw [e, decodeNat_1B _ e0]
    unfold decodeMajor18
    simp only [e_fn]
    simp at e0 e_d e_a e_b e_z
    simp [legalIf, e0, e_d, e_a, e_b, e_z, Instr.wellFormed]


theorem amsMax (r : BitVec 2) (d : BitVec 7) (a : BitVec 7) (b : BitVec 7) (z : BitVec 1) : Statement (.amsMax r d a b z) := by
  intro _ _
  have hr := r.isLt
  have hd := d.isLt
  have ha := a.isLt
  have hb := b.isLt
  have hz := z.isLt
  obtain hr | hr | hr | hr : r = 0 ∨ r = 1 ∨ r = 2 ∨ r = 3 := by
    have : r.toNat = 0 ∨ r.toNat = 1 ∨ r.toNat = 2 ∨ r.toNat = 3 := by omega
    rcases this with h | h | h | h <;> simp [← BitVec.toNat_inj, h]
  · subst hr
    obtain ⟨e, e0, e_d, e_a, e_b, e_z, e_fn⟩ := packFA_slots (24 + (0 : BitVec 2).toNat) d.toNat a.toNat b.toNat z.toNat 5 (by omega) (by omega) (by omega) (by omega) (by omega) (by omega)
    simp only [decodeWord, encode, encodeNat, BitVec.toNat_ofNat]
    rw [e, decodeNat_18 _ e0]
    unfold decodeMajor18
    simp only [e_fn]
    simp at e0 e_d e_a e_b e_z
    simp [legalIf, e0, e_d, e_a, e_b, e_z, Instr.wellFormed]
  · subst hr
    obtain ⟨e, e0, e_d, e_a, e_b, e_z, e_fn⟩ := packFA_slots (24 + (1 : BitVec 2).toNat) d.toNat a.toNat b.toNat z.toNat 5 (by omega) (by omega) (by omega) (by omega) (by omega) (by omega)
    simp only [decodeWord, encode, encodeNat, BitVec.toNat_ofNat]
    rw [e, decodeNat_19 _ e0]
    unfold decodeMajor18
    simp only [e_fn]
    simp at e0 e_d e_a e_b e_z
    simp [legalIf, e0, e_d, e_a, e_b, e_z, Instr.wellFormed]
  · subst hr
    obtain ⟨e, e0, e_d, e_a, e_b, e_z, e_fn⟩ := packFA_slots (24 + (2 : BitVec 2).toNat) d.toNat a.toNat b.toNat z.toNat 5 (by omega) (by omega) (by omega) (by omega) (by omega) (by omega)
    simp only [decodeWord, encode, encodeNat, BitVec.toNat_ofNat]
    rw [e, decodeNat_1A _ e0]
    unfold decodeMajor18
    simp only [e_fn]
    simp at e0 e_d e_a e_b e_z
    simp [legalIf, e0, e_d, e_a, e_b, e_z, Instr.wellFormed]
  · subst hr
    obtain ⟨e, e0, e_d, e_a, e_b, e_z, e_fn⟩ := packFA_slots (24 + (3 : BitVec 2).toNat) d.toNat a.toNat b.toNat z.toNat 5 (by omega) (by omega) (by omega) (by omega) (by omega) (by omega)
    simp only [decodeWord, encode, encodeNat, BitVec.toNat_ofNat]
    rw [e, decodeNat_1B _ e0]
    unfold decodeMajor18
    simp only [e_fn]
    simp at e0 e_d e_a e_b e_z
    simp [legalIf, e0, e_d, e_a, e_b, e_z, Instr.wellFormed]


theorem amsMinn (r : BitVec 2) (d : BitVec 7) (a : BitVec 7) (b : BitVec 7) (z : BitVec 1) : Statement (.amsMinn r d a b z) := by
  intro _ _
  have hr := r.isLt
  have hd := d.isLt
  have ha := a.isLt
  have hb := b.isLt
  have hz := z.isLt
  obtain hr | hr | hr | hr : r = 0 ∨ r = 1 ∨ r = 2 ∨ r = 3 := by
    have : r.toNat = 0 ∨ r.toNat = 1 ∨ r.toNat = 2 ∨ r.toNat = 3 := by omega
    rcases this with h | h | h | h <;> simp [← BitVec.toNat_inj, h]
  · subst hr
    obtain ⟨e, e0, e_d, e_a, e_b, e_z, e_fn⟩ := packFA_slots (24 + (0 : BitVec 2).toNat) d.toNat a.toNat b.toNat z.toNat 6 (by omega) (by omega) (by omega) (by omega) (by omega) (by omega)
    simp only [decodeWord, encode, encodeNat, BitVec.toNat_ofNat]
    rw [e, decodeNat_18 _ e0]
    unfold decodeMajor18
    simp only [e_fn]
    simp at e0 e_d e_a e_b e_z
    simp [legalIf, e0, e_d, e_a, e_b, e_z, Instr.wellFormed]
  · subst hr
    obtain ⟨e, e0, e_d, e_a, e_b, e_z, e_fn⟩ := packFA_slots (24 + (1 : BitVec 2).toNat) d.toNat a.toNat b.toNat z.toNat 6 (by omega) (by omega) (by omega) (by omega) (by omega) (by omega)
    simp only [decodeWord, encode, encodeNat, BitVec.toNat_ofNat]
    rw [e, decodeNat_19 _ e0]
    unfold decodeMajor18
    simp only [e_fn]
    simp at e0 e_d e_a e_b e_z
    simp [legalIf, e0, e_d, e_a, e_b, e_z, Instr.wellFormed]
  · subst hr
    obtain ⟨e, e0, e_d, e_a, e_b, e_z, e_fn⟩ := packFA_slots (24 + (2 : BitVec 2).toNat) d.toNat a.toNat b.toNat z.toNat 6 (by omega) (by omega) (by omega) (by omega) (by omega) (by omega)
    simp only [decodeWord, encode, encodeNat, BitVec.toNat_ofNat]
    rw [e, decodeNat_1A _ e0]
    unfold decodeMajor18
    simp only [e_fn]
    simp at e0 e_d e_a e_b e_z
    simp [legalIf, e0, e_d, e_a, e_b, e_z, Instr.wellFormed]
  · subst hr
    obtain ⟨e, e0, e_d, e_a, e_b, e_z, e_fn⟩ := packFA_slots (24 + (3 : BitVec 2).toNat) d.toNat a.toNat b.toNat z.toNat 6 (by omega) (by omega) (by omega) (by omega) (by omega) (by omega)
    simp only [decodeWord, encode, encodeNat, BitVec.toNat_ofNat]
    rw [e, decodeNat_1B _ e0]
    unfold decodeMajor18
    simp only [e_fn]
    simp at e0 e_d e_a e_b e_z
    simp [legalIf, e0, e_d, e_a, e_b, e_z, Instr.wellFormed]


theorem amsMaxn (r : BitVec 2) (d : BitVec 7) (a : BitVec 7) (b : BitVec 7) (z : BitVec 1) : Statement (.amsMaxn r d a b z) := by
  intro _ _
  have hr := r.isLt
  have hd := d.isLt
  have ha := a.isLt
  have hb := b.isLt
  have hz := z.isLt
  obtain hr | hr | hr | hr : r = 0 ∨ r = 1 ∨ r = 2 ∨ r = 3 := by
    have : r.toNat = 0 ∨ r.toNat = 1 ∨ r.toNat = 2 ∨ r.toNat = 3 := by omega
    rcases this with h | h | h | h <;> simp [← BitVec.toNat_inj, h]
  · subst hr
    obtain ⟨e, e0, e_d, e_a, e_b, e_z, e_fn⟩ := packFA_slots (24 + (0 : BitVec 2).toNat) d.toNat a.toNat b.toNat z.toNat 7 (by omega) (by omega) (by omega) (by omega) (by omega) (by omega)
    simp only [decodeWord, encode, encodeNat, BitVec.toNat_ofNat]
    rw [e, decodeNat_18 _ e0]
    unfold decodeMajor18
    simp only [e_fn]
    simp at e0 e_d e_a e_b e_z
    simp [legalIf, e0, e_d, e_a, e_b, e_z, Instr.wellFormed]
  · subst hr
    obtain ⟨e, e0, e_d, e_a, e_b, e_z, e_fn⟩ := packFA_slots (24 + (1 : BitVec 2).toNat) d.toNat a.toNat b.toNat z.toNat 7 (by omega) (by omega) (by omega) (by omega) (by omega) (by omega)
    simp only [decodeWord, encode, encodeNat, BitVec.toNat_ofNat]
    rw [e, decodeNat_19 _ e0]
    unfold decodeMajor18
    simp only [e_fn]
    simp at e0 e_d e_a e_b e_z
    simp [legalIf, e0, e_d, e_a, e_b, e_z, Instr.wellFormed]
  · subst hr
    obtain ⟨e, e0, e_d, e_a, e_b, e_z, e_fn⟩ := packFA_slots (24 + (2 : BitVec 2).toNat) d.toNat a.toNat b.toNat z.toNat 7 (by omega) (by omega) (by omega) (by omega) (by omega) (by omega)
    simp only [decodeWord, encode, encodeNat, BitVec.toNat_ofNat]
    rw [e, decodeNat_1A _ e0]
    unfold decodeMajor18
    simp only [e_fn]
    simp at e0 e_d e_a e_b e_z
    simp [legalIf, e0, e_d, e_a, e_b, e_z, Instr.wellFormed]
  · subst hr
    obtain ⟨e, e0, e_d, e_a, e_b, e_z, e_fn⟩ := packFA_slots (24 + (3 : BitVec 2).toNat) d.toNat a.toNat b.toNat z.toNat 7 (by omega) (by omega) (by omega) (by omega) (by omega) (by omega)
    simp only [decodeWord, encode, encodeNat, BitVec.toNat_ofNat]
    rw [e, decodeNat_1B _ e0]
    unfold decodeMajor18
    simp only [e_fn]
    simp at e0 e_d e_a e_b e_z
    simp [legalIf, e0, e_d, e_a, e_b, e_z, Instr.wellFormed]


theorem amsSwp (r : BitVec 2) (d : BitVec 7) (a : BitVec 7) (b : BitVec 7) (z : BitVec 1) : Statement (.amsSwp r d a b z) := by
  intro _ _
  have hr := r.isLt
  have hd := d.isLt
  have ha := a.isLt
  have hb := b.isLt
  have hz := z.isLt
  obtain hr | hr | hr | hr : r = 0 ∨ r = 1 ∨ r = 2 ∨ r = 3 := by
    have : r.toNat = 0 ∨ r.toNat = 1 ∨ r.toNat = 2 ∨ r.toNat = 3 := by omega
    rcases this with h | h | h | h <;> simp [← BitVec.toNat_inj, h]
  · subst hr
    obtain ⟨e, e0, e_d, e_a, e_b, e_z, e_fn⟩ := packFA_slots (24 + (0 : BitVec 2).toNat) d.toNat a.toNat b.toNat z.toNat 8 (by omega) (by omega) (by omega) (by omega) (by omega) (by omega)
    simp only [decodeWord, encode, encodeNat, BitVec.toNat_ofNat]
    rw [e, decodeNat_18 _ e0]
    unfold decodeMajor18
    simp only [e_fn]
    simp at e0 e_d e_a e_b e_z
    simp [legalIf, e0, e_d, e_a, e_b, e_z, Instr.wellFormed]
  · subst hr
    obtain ⟨e, e0, e_d, e_a, e_b, e_z, e_fn⟩ := packFA_slots (24 + (1 : BitVec 2).toNat) d.toNat a.toNat b.toNat z.toNat 8 (by omega) (by omega) (by omega) (by omega) (by omega) (by omega)
    simp only [decodeWord, encode, encodeNat, BitVec.toNat_ofNat]
    rw [e, decodeNat_19 _ e0]
    unfold decodeMajor18
    simp only [e_fn]
    simp at e0 e_d e_a e_b e_z
    simp [legalIf, e0, e_d, e_a, e_b, e_z, Instr.wellFormed]
  · subst hr
    obtain ⟨e, e0, e_d, e_a, e_b, e_z, e_fn⟩ := packFA_slots (24 + (2 : BitVec 2).toNat) d.toNat a.toNat b.toNat z.toNat 8 (by omega) (by omega) (by omega) (by omega) (by omega) (by omega)
    simp only [decodeWord, encode, encodeNat, BitVec.toNat_ofNat]
    rw [e, decodeNat_1A _ e0]
    unfold decodeMajor18
    simp only [e_fn]
    simp at e0 e_d e_a e_b e_z
    simp [legalIf, e0, e_d, e_a, e_b, e_z, Instr.wellFormed]
  · subst hr
    obtain ⟨e, e0, e_d, e_a, e_b, e_z, e_fn⟩ := packFA_slots (24 + (3 : BitVec 2).toNat) d.toNat a.toNat b.toNat z.toNat 8 (by omega) (by omega) (by omega) (by omega) (by omega) (by omega)
    simp only [decodeWord, encode, encodeNat, BitVec.toNat_ofNat]
    rw [e, decodeNat_1B _ e0]
    unfold decodeMajor18
    simp only [e_fn]
    simp at e0 e_d e_a e_b e_z
    simp [legalIf, e0, e_d, e_a, e_b, e_z, Instr.wellFormed]


theorem amsCas (r : BitVec 2) (d : BitVec 7) (a : BitVec 7) (b : BitVec 7) (z : BitVec 1) : Statement (.amsCas r d a b z) := by
  intro _ _
  have hr := r.isLt
  have hd := d.isLt
  have ha := a.isLt
  have hb := b.isLt
  have hz := z.isLt
  obtain hr | hr | hr | hr : r = 0 ∨ r = 1 ∨ r = 2 ∨ r = 3 := by
    have : r.toNat = 0 ∨ r.toNat = 1 ∨ r.toNat = 2 ∨ r.toNat = 3 := by omega
    rcases this with h | h | h | h <;> simp [← BitVec.toNat_inj, h]
  · subst hr
    obtain ⟨e, e0, e_d, e_a, e_b, e_z, e_fn⟩ := packFA_slots (24 + (0 : BitVec 2).toNat) d.toNat a.toNat b.toNat z.toNat 9 (by omega) (by omega) (by omega) (by omega) (by omega) (by omega)
    simp only [decodeWord, encode, encodeNat, BitVec.toNat_ofNat]
    rw [e, decodeNat_18 _ e0]
    unfold decodeMajor18
    simp only [e_fn]
    simp at e0 e_d e_a e_b e_z
    simp [legalIf, e0, e_d, e_a, e_b, e_z, Instr.wellFormed]
  · subst hr
    obtain ⟨e, e0, e_d, e_a, e_b, e_z, e_fn⟩ := packFA_slots (24 + (1 : BitVec 2).toNat) d.toNat a.toNat b.toNat z.toNat 9 (by omega) (by omega) (by omega) (by omega) (by omega) (by omega)
    simp only [decodeWord, encode, encodeNat, BitVec.toNat_ofNat]
    rw [e, decodeNat_19 _ e0]
    unfold decodeMajor18
    simp only [e_fn]
    simp at e0 e_d e_a e_b e_z
    simp [legalIf, e0, e_d, e_a, e_b, e_z, Instr.wellFormed]
  · subst hr
    obtain ⟨e, e0, e_d, e_a, e_b, e_z, e_fn⟩ := packFA_slots (24 + (2 : BitVec 2).toNat) d.toNat a.toNat b.toNat z.toNat 9 (by omega) (by omega) (by omega) (by omega) (by omega) (by omega)
    simp only [decodeWord, encode, encodeNat, BitVec.toNat_ofNat]
    rw [e, decodeNat_1A _ e0]
    unfold decodeMajor18
    simp only [e_fn]
    simp at e0 e_d e_a e_b e_z
    simp [legalIf, e0, e_d, e_a, e_b, e_z, Instr.wellFormed]
  · subst hr
    obtain ⟨e, e0, e_d, e_a, e_b, e_z, e_fn⟩ := packFA_slots (24 + (3 : BitVec 2).toNat) d.toNat a.toNat b.toNat z.toNat 9 (by omega) (by omega) (by omega) (by omega) (by omega) (by omega)
    simp only [decodeWord, encode, encodeNat, BitVec.toNat_ofNat]
    rw [e, decodeNat_1B _ e0]
    unfold decodeMajor18
    simp only [e_fn]
    simp at e0 e_d e_a e_b e_z
    simp [legalIf, e0, e_d, e_a, e_b, e_z, Instr.wellFormed]


theorem amsFadd (r : BitVec 2) (d : BitVec 7) (a : BitVec 7) (b : BitVec 7) (z : BitVec 1) : Statement (.amsFadd r d a b z) := by
  intro _ _
  have hr := r.isLt
  have hd := d.isLt
  have ha := a.isLt
  have hb := b.isLt
  have hz := z.isLt
  obtain hr | hr | hr | hr : r = 0 ∨ r = 1 ∨ r = 2 ∨ r = 3 := by
    have : r.toNat = 0 ∨ r.toNat = 1 ∨ r.toNat = 2 ∨ r.toNat = 3 := by omega
    rcases this with h | h | h | h <;> simp [← BitVec.toNat_inj, h]
  · subst hr
    obtain ⟨e, e0, e_d, e_a, e_b, e_z, e_fn⟩ := packFA_slots (24 + (0 : BitVec 2).toNat) d.toNat a.toNat b.toNat z.toNat 10 (by omega) (by omega) (by omega) (by omega) (by omega) (by omega)
    simp only [decodeWord, encode, encodeNat, BitVec.toNat_ofNat]
    rw [e, decodeNat_18 _ e0]
    unfold decodeMajor18
    simp only [e_fn]
    simp at e0 e_d e_a e_b e_z
    simp [legalIf, e0, e_d, e_a, e_b, e_z, Instr.wellFormed]
  · subst hr
    obtain ⟨e, e0, e_d, e_a, e_b, e_z, e_fn⟩ := packFA_slots (24 + (1 : BitVec 2).toNat) d.toNat a.toNat b.toNat z.toNat 10 (by omega) (by omega) (by omega) (by omega) (by omega) (by omega)
    simp only [decodeWord, encode, encodeNat, BitVec.toNat_ofNat]
    rw [e, decodeNat_19 _ e0]
    unfold decodeMajor18
    simp only [e_fn]
    simp at e0 e_d e_a e_b e_z
    simp [legalIf, e0, e_d, e_a, e_b, e_z, Instr.wellFormed]
  · subst hr
    obtain ⟨e, e0, e_d, e_a, e_b, e_z, e_fn⟩ := packFA_slots (24 + (2 : BitVec 2).toNat) d.toNat a.toNat b.toNat z.toNat 10 (by omega) (by omega) (by omega) (by omega) (by omega) (by omega)
    simp only [decodeWord, encode, encodeNat, BitVec.toNat_ofNat]
    rw [e, decodeNat_1A _ e0]
    unfold decodeMajor18
    simp only [e_fn]
    simp at e0 e_d e_a e_b e_z
    simp [legalIf, e0, e_d, e_a, e_b, e_z, Instr.wellFormed]
  · subst hr
    obtain ⟨e, e0, e_d, e_a, e_b, e_z, e_fn⟩ := packFA_slots (24 + (3 : BitVec 2).toNat) d.toNat a.toNat b.toNat z.toNat 10 (by omega) (by omega) (by omega) (by omega) (by omega) (by omega)
    simp only [decodeWord, encode, encodeNat, BitVec.toNat_ofNat]
    rw [e, decodeNat_1B _ e0]
    unfold decodeMajor18
    simp only [e_fn]
    simp at e0 e_d e_a e_b e_z
    simp [legalIf, e0, e_d, e_a, e_b, e_z, Instr.wellFormed]


theorem amsInc (r : BitVec 2) (d : BitVec 7) (a : BitVec 7) (b : BitVec 7) (z : BitVec 1) : Statement (.amsInc r d a b z) := by
  intro _ _
  have hr := r.isLt
  have hd := d.isLt
  have ha := a.isLt
  have hb := b.isLt
  have hz := z.isLt
  obtain hr | hr | hr | hr : r = 0 ∨ r = 1 ∨ r = 2 ∨ r = 3 := by
    have : r.toNat = 0 ∨ r.toNat = 1 ∨ r.toNat = 2 ∨ r.toNat = 3 := by omega
    rcases this with h | h | h | h <;> simp [← BitVec.toNat_inj, h]
  · subst hr
    obtain ⟨e, e0, e_d, e_a, e_b, e_z, e_fn⟩ := packFA_slots (24 + (0 : BitVec 2).toNat) d.toNat a.toNat b.toNat z.toNat 11 (by omega) (by omega) (by omega) (by omega) (by omega) (by omega)
    simp only [decodeWord, encode, encodeNat, BitVec.toNat_ofNat]
    rw [e, decodeNat_18 _ e0]
    unfold decodeMajor18
    simp only [e_fn]
    simp at e0 e_d e_a e_b e_z
    simp [legalIf, e0, e_d, e_a, e_b, e_z, Instr.wellFormed]
  · subst hr
    obtain ⟨e, e0, e_d, e_a, e_b, e_z, e_fn⟩ := packFA_slots (24 + (1 : BitVec 2).toNat) d.toNat a.toNat b.toNat z.toNat 11 (by omega) (by omega) (by omega) (by omega) (by omega) (by omega)
    simp only [decodeWord, encode, encodeNat, BitVec.toNat_ofNat]
    rw [e, decodeNat_19 _ e0]
    unfold decodeMajor18
    simp only [e_fn]
    simp at e0 e_d e_a e_b e_z
    simp [legalIf, e0, e_d, e_a, e_b, e_z, Instr.wellFormed]
  · subst hr
    obtain ⟨e, e0, e_d, e_a, e_b, e_z, e_fn⟩ := packFA_slots (24 + (2 : BitVec 2).toNat) d.toNat a.toNat b.toNat z.toNat 11 (by omega) (by omega) (by omega) (by omega) (by omega) (by omega)
    simp only [decodeWord, encode, encodeNat, BitVec.toNat_ofNat]
    rw [e, decodeNat_1A _ e0]
    unfold decodeMajor18
    simp only [e_fn]
    simp at e0 e_d e_a e_b e_z
    simp [legalIf, e0, e_d, e_a, e_b, e_z, Instr.wellFormed]
  · subst hr
    obtain ⟨e, e0, e_d, e_a, e_b, e_z, e_fn⟩ := packFA_slots (24 + (3 : BitVec 2).toNat) d.toNat a.toNat b.toNat z.toNat 11 (by omega) (by omega) (by omega) (by omega) (by omega) (by omega)
    simp only [decodeWord, encode, encodeNat, BitVec.toNat_ofNat]
    rw [e, decodeNat_1B _ e0]
    unfold decodeMajor18
    simp only [e_fn]
    simp at e0 e_d e_a e_b e_z
    simp [legalIf, e0, e_d, e_a, e_b, e_z, Instr.wellFormed]


theorem sysc (c : BitVec 7) : Statement (.sysc c) := by
  intro _ _
  have hc := c.isLt
  obtain ⟨e, e0, e_d, e_a, e_b, e_fn⟩ := packF3_slots 28 0 0 c.toNat 0 (by omega) (by omega) (by omega) (by omega) (by omega)
  simp only [decodeWord, encode, encodeNat, BitVec.toNat_ofNat]
  rw [e, decodeNat_1C _ e0]
  unfold decodeMajor1C
  simp only [e_fn]
  simp [legalIf, e_d, e_a, e_b, Instr.wellFormed]

theorem tret : Statement (.tret) := by
  intro _ _
  obtain ⟨e, e0, e_d, e_a, e_b, e_fn⟩ := packF3_slots 28 0 0 0 1 (by omega) (by omega) (by omega) (by omega) (by omega)
  simp only [decodeWord, encode, encodeNat, BitVec.toNat_ofNat]
  rw [e, decodeNat_1C _ e0]
  unfold decodeMajor1C
  simp only [e_fn]
  simp [legalIf, e_d, e_a, e_b, Instr.wellFormed]

theorem brk (c : BitVec 7) : Statement (.brk c) := by
  intro _ _
  have hc := c.isLt
  obtain ⟨e, e0, e_d, e_a, e_b, e_fn⟩ := packF3_slots 28 0 0 c.toNat 2 (by omega) (by omega) (by omega) (by omega) (by omega)
  simp only [decodeWord, encode, encodeNat, BitVec.toNat_ofNat]
  rw [e, decodeNat_1C _ e0]
  unfold decodeMajor1C
  simp only [e_fn]
  simp [legalIf, e_d, e_a, e_b, Instr.wellFormed]

theorem wbase (c : BitVec 7) (k : BitVec 7) : Statement (.wbase c k) := by
  intro h _
  have hc := c.isLt
  have hk := k.isLt
  simp only [Instr.wellFormed, decide_eq_true_eq] at h
  obtain ⟨e, e0, e_d, e_a, e_b, e_fn⟩ := packF3_slots 28 c.toNat k.toNat 0 3 (by omega) (by omega) (by omega) (by omega) (by omega)
  simp only [decodeWord, encode, encodeNat, BitVec.toNat_ofNat]
  rw [e, decodeNat_1C _ e0]
  unfold decodeMajor1C
  simp only [e_fn]
  simp [legalIf, e_d, e_a, e_b, Instr.wellFormed, h]

theorem pause : Statement (.pause) := by
  intro _ _
  obtain ⟨e, e0, e_d, e_a, e_b, e_fn⟩ := packF3_slots 28 0 0 0 4 (by omega) (by omega) (by omega) (by omega) (by omega)
  simp only [decodeWord, encode, encodeNat, BitVec.toNat_ofNat]
  rw [e, decodeNat_1C _ e0]
  unfold decodeMajor1C
  simp only [e_fn]
  simp [legalIf, e_d, e_a, e_b, Instr.wellFormed]

theorem csrrd (d : BitVec 5) (c : BitVec 12) : Statement (.csrrd d c) := by
  intro _ _
  have hd := d.isLt
  have hc := c.isLt
  obtain ⟨e, e0, e_d, e_fn, e_a, e_c⟩ := packFC_slots 29 d.toNat 0 0 c.toNat (by omega) (by omega) (by omega) (by omega) (by omega)
  simp only [decodeWord, encode, encodeNat, BitVec.toNat_ofNat]
  rw [e, decodeNat_1D _ e0]
  unfold decodeMajor1D
  simp only [e_fn]
  simp [legalIf, e_d, e_a, e_c, Instr.wellFormed]

theorem csrwr (d : BitVec 5) (a : BitVec 7) (c : BitVec 12) : Statement (.csrwr d a c) := by
  intro _ _
  have hd := d.isLt
  have ha := a.isLt
  have hc := c.isLt
  obtain ⟨e, e0, e_d, e_fn, e_a, e_c⟩ := packFC_slots 29 d.toNat 1 a.toNat c.toNat (by omega) (by omega) (by omega) (by omega) (by omega)
  simp only [decodeWord, encode, encodeNat, BitVec.toNat_ofNat]
  rw [e, decodeNat_1D _ e0]
  unfold decodeMajor1D
  simp only [e_fn]
  simp [legalIf, e_d, e_a, e_c, Instr.wellFormed]

theorem csrset (d : BitVec 5) (a : BitVec 7) (c : BitVec 12) : Statement (.csrset d a c) := by
  intro _ _
  have hd := d.isLt
  have ha := a.isLt
  have hc := c.isLt
  obtain ⟨e, e0, e_d, e_fn, e_a, e_c⟩ := packFC_slots 29 d.toNat 2 a.toNat c.toNat (by omega) (by omega) (by omega) (by omega) (by omega)
  simp only [decodeWord, encode, encodeNat, BitVec.toNat_ofNat]
  rw [e, decodeNat_1D _ e0]
  unfold decodeMajor1D
  simp only [e_fn]
  simp [legalIf, e_d, e_a, e_c, Instr.wellFormed]

theorem csrclr (d : BitVec 5) (a : BitVec 7) (c : BitVec 12) : Statement (.csrclr d a c) := by
  intro _ _
  have hd := d.isLt
  have ha := a.isLt
  have hc := c.isLt
  obtain ⟨e, e0, e_d, e_fn, e_a, e_c⟩ := packFC_slots 29 d.toNat 3 a.toNat c.toNat (by omega) (by omega) (by omega) (by omega) (by omega)
  simp only [decodeWord, encode, encodeNat, BitVec.toNat_ofNat]
  rw [e, decodeNat_1D _ e0]
  unfold decodeMajor1D
  simp only [e_fn]
  simp [legalIf, e_d, e_a, e_c, Instr.wellFormed]

theorem spawn (d : BitVec 7) (a : BitVec 7) (b : BitVec 7) : Statement (.spawn d a b) := by
  intro _ _
  have hd := d.isLt
  have ha := a.isLt
  have hb := b.isLt
  obtain ⟨e, e0, e_d, e_a, e_b, e_fn⟩ := packF3_slots 30 d.toNat a.toNat b.toNat 0 (by omega) (by omega) (by omega) (by omega) (by omega)
  simp only [decodeWord, encode, encodeNat, BitVec.toNat_ofNat]
  rw [e, decodeNat_1E _ e0]
  unfold decodeMajor1E
  simp only [e_fn]
  simp [legalIf, e_d, e_a, e_b, Instr.wellFormed]

theorem exit : Statement (.exit) := by
  intro _ _
  obtain ⟨e, e0, e_d, e_a, e_b, e_fn⟩ := packF3_slots 30 0 0 0 1 (by omega) (by omega) (by omega) (by omega) (by omega)
  simp only [decodeWord, encode, encodeNat, BitVec.toNat_ofNat]
  rw [e, decodeNat_1E _ e0]
  unfold decodeMajor1E
  simp only [e_fn]
  simp [legalIf, e_d, e_a, e_b, Instr.wellFormed]

theorem join (d : BitVec 7) (a : BitVec 7) : Statement (.join d a) := by
  intro _ _
  have hd := d.isLt
  have ha := a.isLt
  obtain ⟨e, e0, e_d, e_a, e_b, e_fn⟩ := packF3_slots 30 d.toNat a.toNat 0 2 (by omega) (by omega) (by omega) (by omega) (by omega)
  simp only [decodeWord, encode, encodeNat, BitVec.toNat_ofNat]
  rw [e, decodeNat_1E _ e0]
  unfold decodeMajor1E
  simp only [e_fn]
  simp [legalIf, e_d, e_a, e_b, Instr.wellFormed]

theorem leave (a : BitVec 7) : Statement (.leave a) := by
  intro _ _
  have ha := a.isLt
  obtain ⟨e, e0, e_d, e_a, e_b, e_fn⟩ := packF3_slots 30 0 a.toNat 0 3 (by omega) (by omega) (by omega) (by omega) (by omega)
  simp only [decodeWord, encode, encodeNat, BitVec.toNat_ofNat]
  rw [e, decodeNat_1E _ e0]
  unfold decodeMajor1E
  simp only [e_fn]
  simp [legalIf, e_d, e_a, e_b, Instr.wellFormed]

theorem gsize (d : BitVec 7) (a : BitVec 7) : Statement (.gsize d a) := by
  intro _ _
  have hd := d.isLt
  have ha := a.isLt
  obtain ⟨e, e0, e_d, e_a, e_b, e_fn⟩ := packF3_slots 30 d.toNat a.toNat 0 4 (by omega) (by omega) (by omega) (by omega) (by omega)
  simp only [decodeWord, encode, encodeNat, BitVec.toNat_ofNat]
  rw [e, decodeNat_1E _ e0]
  unfold decodeMajor1E
  simp only [e_fn]
  simp [legalIf, e_d, e_a, e_b, Instr.wellFormed]

theorem grank (d : BitVec 7) (a : BitVec 7) : Statement (.grank d a) := by
  intro _ _
  have hd := d.isLt
  have ha := a.isLt
  obtain ⟨e, e0, e_d, e_a, e_b, e_fn⟩ := packF3_slots 30 d.toNat a.toNat 0 5 (by omega) (by omega) (by omega) (by omega) (by omega)
  simp only [decodeWord, encode, encodeNat, BitVec.toNat_ofNat]
  rw [e, decodeNat_1E _ e0]
  unfold decodeMajor1E
  simp only [e_fn]
  simp [legalIf, e_d, e_a, e_b, Instr.wellFormed]

theorem gbar (a : BitVec 7) : Statement (.gbar a) := by
  intro _ _
  have ha := a.isLt
  obtain ⟨e, e0, e_d, e_a, e_b, e_fn⟩ := packF3_slots 30 0 a.toNat 0 6 (by omega) (by omega) (by omega) (by omega) (by omega)
  simp only [decodeWord, encode, encodeNat, BitVec.toNat_ofNat]
  rw [e, decodeNat_1E _ e0]
  unfold decodeMajor1E
  simp only [e_fn]
  simp [legalIf, e_d, e_a, e_b, Instr.wellFormed]

theorem tidg (d : BitVec 7) : Statement (.tidg d) := by
  intro _ _
  have hd := d.isLt
  obtain ⟨e, e0, e_d, e_a, e_b, e_fn⟩ := packF3_slots 30 d.toNat 0 0 7 (by omega) (by omega) (by omega) (by omega) (by omega)
  simp only [decodeWord, encode, encodeNat, BitVec.toNat_ofNat]
  rw [e, decodeNat_1E _ e0]
  unfold decodeMajor1E
  simp only [e_fn]
  simp [legalIf, e_d, e_a, e_b, Instr.wellFormed]

theorem binit (a : BitVec 7) (b : BitVec 7) : Statement (.binit a b) := by
  intro _ _
  have ha := a.isLt
  have hb := b.isLt
  obtain ⟨e, e0, e_d, e_a, e_b, e_fn⟩ := packF3_slots 31 0 a.toNat b.toNat 0 (by omega) (by omega) (by omega) (by omega) (by omega)
  simp only [decodeWord, encode, encodeNat, BitVec.toNat_ofNat]
  rw [e, decodeNat_1F _ e0]
  unfold decodeMajor1F
  simp only [e_fn]
  simp [legalIf, e_d, e_a, e_b, Instr.wellFormed]

theorem bexp (a : BitVec 7) (b : BitVec 7) : Statement (.bexp a b) := by
  intro _ _
  have ha := a.isLt
  have hb := b.isLt
  obtain ⟨e, e0, e_d, e_a, e_b, e_fn⟩ := packF3_slots 31 0 a.toNat b.toNat 1 (by omega) (by omega) (by omega) (by omega) (by omega)
  simp only [decodeWord, encode, encodeNat, BitVec.toNat_ofNat]
  rw [e, decodeNat_1F _ e0]
  unfold decodeMajor1F
  simp only [e_fn]
  simp [legalIf, e_d, e_a, e_b, Instr.wellFormed]

theorem barv (d : BitVec 7) (a : BitVec 7) (b : BitVec 7) : Statement (.barv d a b) := by
  intro _ _
  have hd := d.isLt
  have ha := a.isLt
  have hb := b.isLt
  obtain ⟨e, e0, e_d, e_a, e_b, e_fn⟩ := packF3_slots 31 d.toNat a.toNat b.toNat 2 (by omega) (by omega) (by omega) (by omega) (by omega)
  simp only [decodeWord, encode, encodeNat, BitVec.toNat_ofNat]
  rw [e, decodeNat_1F _ e0]
  unfold decodeMajor1F
  simp only [e_fn]
  simp [legalIf, e_d, e_a, e_b, Instr.wellFormed]

theorem bwait (a : BitVec 7) (b : BitVec 7) : Statement (.bwait a b) := by
  intro _ _
  have ha := a.isLt
  have hb := b.isLt
  obtain ⟨e, e0, e_d, e_a, e_b, e_fn⟩ := packF3_slots 31 0 a.toNat b.toNat 3 (by omega) (by omega) (by omega) (by omega) (by omega)
  simp only [decodeWord, encode, encodeNat, BitVec.toNat_ofNat]
  rw [e, decodeNat_1F _ e0]
  unfold decodeMajor1F
  simp only [e_fn]
  simp [legalIf, e_d, e_a, e_b, Instr.wellFormed]

theorem btest (d : BitVec 7) (a : BitVec 7) (b : BitVec 7) : Statement (.btest d a b) := by
  intro _ _
  have hd := d.isLt
  have ha := a.isLt
  have hb := b.isLt
  obtain ⟨e, e0, e_d, e_a, e_b, e_fn⟩ := packF3_slots 31 d.toNat a.toNat b.toNat 4 (by omega) (by omega) (by omega) (by omega) (by omega)
  simp only [decodeWord, encode, encodeNat, BitVec.toNat_ofNat]
  rw [e, decodeNat_1F _ e0]
  unfold decodeMajor1F
  simp only [e_fn]
  simp [legalIf, e_d, e_a, e_b, Instr.wellFormed]

theorem binitG (a : BitVec 7) (b : BitVec 7) : Statement (.binitG a b) := by
  intro _ _
  have ha := a.isLt
  have hb := b.isLt
  obtain ⟨e, e0, e_d, e_a, e_b, e_fn⟩ := packF3_slots 31 0 a.toNat b.toNat 5 (by omega) (by omega) (by omega) (by omega) (by omega)
  simp only [decodeWord, encode, encodeNat, BitVec.toNat_ofNat]
  rw [e, decodeNat_1F _ e0]
  unfold decodeMajor1F
  simp only [e_fn]
  simp [legalIf, e_d, e_a, e_b, Instr.wellFormed]

theorem bexpG (a : BitVec 7) (b : BitVec 7) : Statement (.bexpG a b) := by
  intro _ _
  have ha := a.isLt
  have hb := b.isLt
  obtain ⟨e, e0, e_d, e_a, e_b, e_fn⟩ := packF3_slots 31 0 a.toNat b.toNat 6 (by omega) (by omega) (by omega) (by omega) (by omega)
  simp only [decodeWord, encode, encodeNat, BitVec.toNat_ofNat]
  rw [e, decodeNat_1F _ e0]
  unfold decodeMajor1F
  simp only [e_fn]
  simp [legalIf, e_d, e_a, e_b, Instr.wellFormed]

theorem barvG (d : BitVec 7) (a : BitVec 7) (b : BitVec 7) : Statement (.barvG d a b) := by
  intro _ _
  have hd := d.isLt
  have ha := a.isLt
  have hb := b.isLt
  obtain ⟨e, e0, e_d, e_a, e_b, e_fn⟩ := packF3_slots 31 d.toNat a.toNat b.toNat 7 (by omega) (by omega) (by omega) (by omega) (by omega)
  simp only [decodeWord, encode, encodeNat, BitVec.toNat_ofNat]
  rw [e, decodeNat_1F _ e0]
  unfold decodeMajor1F
  simp only [e_fn]
  simp [legalIf, e_d, e_a, e_b, Instr.wellFormed]

theorem bwaitG (a : BitVec 7) (b : BitVec 7) : Statement (.bwaitG a b) := by
  intro _ _
  have ha := a.isLt
  have hb := b.isLt
  obtain ⟨e, e0, e_d, e_a, e_b, e_fn⟩ := packF3_slots 31 0 a.toNat b.toNat 8 (by omega) (by omega) (by omega) (by omega) (by omega)
  simp only [decodeWord, encode, encodeNat, BitVec.toNat_ofNat]
  rw [e, decodeNat_1F _ e0]
  unfold decodeMajor1F
  simp only [e_fn]
  simp [legalIf, e_d, e_a, e_b, Instr.wellFormed]

theorem btestG (d : BitVec 7) (a : BitVec 7) (b : BitVec 7) : Statement (.btestG d a b) := by
  intro _ _
  have hd := d.isLt
  have ha := a.isLt
  have hb := b.isLt
  obtain ⟨e, e0, e_d, e_a, e_b, e_fn⟩ := packF3_slots 31 d.toNat a.toNat b.toNat 9 (by omega) (by omega) (by omega) (by omega) (by omega)
  simp only [decodeWord, encode, encodeNat, BitVec.toNat_ofNat]
  rw [e, decodeNat_1F _ e0]
  unfold decodeMajor1F
  simp only [e_fn]
  simp [legalIf, e_d, e_a, e_b, Instr.wellFormed]

theorem bqpush (a : BitVec 7) : Statement (.bqpush a) := by
  intro _ _
  have ha := a.isLt
  obtain ⟨e, e0, e_d, e_a, e_b, e_fn⟩ := packF3_slots 32 0 a.toNat 0 0 (by omega) (by omega) (by omega) (by omega) (by omega)
  simp only [decodeWord, encode, encodeNat, BitVec.toNat_ofNat]
  rw [e, decodeNat_20 _ e0]
  unfold decodeMajor20
  simp only [e_fn]
  simp [legalIf, e_d, e_a, e_b, Instr.wellFormed]

theorem qstat (d : BitVec 7) (q : BitVec 7) : Statement (.qstat d q) := by
  intro _ _
  have hd := d.isLt
  have hq := q.isLt
  obtain ⟨e, e0, e_d, e_a, e_b, e_fn⟩ := packF3_slots 32 d.toNat q.toNat 0 1 (by omega) (by omega) (by omega) (by omega) (by omega)
  simp only [decodeWord, encode, encodeNat, BitVec.toNat_ofNat]
  rw [e, decodeNat_20 _ e0]
  unfold decodeMajor20
  simp only [e_fn]
  simp [legalIf, e_d, e_a, e_b, Instr.wellFormed]

theorem qdrain (q : BitVec 7) : Statement (.qdrain q) := by
  intro _ _
  have hq := q.isLt
  obtain ⟨e, e0, e_d, e_a, e_b, e_fn⟩ := packF3_slots 32 0 q.toNat 0 2 (by omega) (by omega) (by omega) (by omega) (by omega)
  simp only [decodeWord, encode, encodeNat, BitVec.toNat_ofNat]
  rw [e, decodeNat_20 _ e0]
  unfold decodeMajor20
  simp only [e_fn]
  simp [legalIf, e_d, e_a, e_b, Instr.wellFormed]

theorem bqt (o : BitVec 16) : Statement (.bqt o) := by
  intro _ _
  have ho := o.isLt
  obtain ⟨e, e0, e_a, e_fn, e_o⟩ := packFBZ_slots 33 0 0 o.toNat (by omega) (by omega) (by omega) (by omega)
  simp only [decodeWord, encode, encodeNat, BitVec.toNat_ofNat]
  rw [e, decodeNat_21 _ e0]
  unfold decodeMajor21
  simp only [e_fn]
  simp [legalIf, e_a, e_o, Instr.wellFormed]

theorem bqf (o : BitVec 16) : Statement (.bqf o) := by
  intro _ _
  have ho := o.isLt
  obtain ⟨e, e0, e_a, e_fn, e_o⟩ := packFBZ_slots 33 0 1 o.toNat (by omega) (by omega) (by omega) (by omega)
  simp only [decodeWord, encode, encodeNat, BitVec.toNat_ofNat]
  rw [e, decodeNat_21 _ e0]
  unfold decodeMajor21
  simp only [e_fn]
  simp [legalIf, e_a, e_o, Instr.wellFormed]

theorem queueStallEnd (h : Nat) : Statement (.queueStallEnd h) := by
  intro _ h; exact absurd h (by simp [Instr.hasWord])

theorem vsetl (d : BitVec 7) (a : BitVec 7) (v : BitVec 12) : Statement (.vsetl d a v) := by
  intro h _
  have hd := d.isLt
  have ha := a.isLt
  have hv := v.isLt
  simp only [Instr.wellFormed] at h
  obtain ⟨e, e0, e_d, e_a, e_i⟩ := packFV_slots 34 d.toNat a.toNat v.toNat (by omega) (by omega) (by omega) (by omega)
  simp only [decodeWord, encode, encodeNat, BitVec.toNat_ofNat]
  rw [e, decodeNat_22 _ e0]
  unfold decodeMajor22
  simp [legalIf, e_d, e_a, e_i, Instr.wellFormed, h]

theorem vsetr (a : BitVec 7) : Statement (.vsetr a) := by
  intro _ _
  have ha := a.isLt
  obtain ⟨e, e0, e_d, e_a, e_b, e_fn⟩ := packF3_slots 35 0 a.toNat 0 0 (by omega) (by omega) (by omega) (by omega) (by omega)
  simp only [decodeWord, encode, encodeNat, BitVec.toNat_ofNat]
  rw [e, decodeNat_23 _ e0]
  unfold decodeMajor23
  simp only [e_fn]
  simp [legalIf, e_d, e_a, e_b, Instr.wellFormed]

theorem vsetlx (d : BitVec 7) (a : BitVec 7) (b : BitVec 7) : Statement (.vsetlx d a b) := by
  intro _ _
  have hd := d.isLt
  have ha := a.isLt
  have hb := b.isLt
  obtain ⟨e, e0, e_d, e_a, e_b, e_fn⟩ := packF3_slots 35 d.toNat a.toNat b.toNat 1 (by omega) (by omega) (by omega) (by omega) (by omega)
  simp only [decodeWord, encode, encodeNat, BitVec.toNat_ofNat]
  rw [e, decodeNat_23 _ e0]
  unfold decodeMajor23
  simp only [e_fn]
  simp [legalIf, e_d, e_a, e_b, Instr.wellFormed]

theorem vstrip : Statement (.vstrip) := by
  intro _ _
  obtain ⟨e, e0, e_d, e_a, e_b, e_fn⟩ := packF3_slots 35 0 0 0 2 (by omega) (by omega) (by omega) (by omega) (by omega)
  simp only [decodeWord, encode, encodeNat, BitVec.toNat_ofNat]
  rw [e, decodeNat_23 _ e0]
  unfold decodeMajor23
  simp only [e_fn]
  simp [legalIf, e_d, e_a, e_b, Instr.wellFormed]

theorem vadd (d : BitVec 7) (a : BitVec 7) (b : BitVec 7) (m : BitVec 1) : Statement (.vadd d a b m) := by
  intro _ _
  have hd := d.isLt
  have ha := a.isLt
  have hb := b.isLt
  have hm := m.isLt
  obtain ⟨e, e0, e_d, e_a, e_b, e_m, e_fn⟩ := packF3V_slots 36 d.toNat a.toNat b.toNat m.toNat 0 (by omega) (by omega) (by omega) (by omega) (by omega) (by omega)
  simp only [decodeWord, encode, encodeNat, BitVec.toNat_ofNat]
  rw [e, decodeNat_24 _ e0]
  unfold decodeMajor24
  simp only [e_fn]
  simp [legalIf, e_d, e_a, e_b, e_m, Instr.wellFormed]

theorem vsub (d : BitVec 7) (a : BitVec 7) (b : BitVec 7) (m : BitVec 1) : Statement (.vsub d a b m) := by
  intro _ _
  have hd := d.isLt
  have ha := a.isLt
  have hb := b.isLt
  have hm := m.isLt
  obtain ⟨e, e0, e_d, e_a, e_b, e_m, e_fn⟩ := packF3V_slots 36 d.toNat a.toNat b.toNat m.toNat 1 (by omega) (by omega) (by omega) (by omega) (by omega) (by omega)
  simp only [decodeWord, encode, encodeNat, BitVec.toNat_ofNat]
  rw [e, decodeNat_24 _ e0]
  unfold decodeMajor24
  simp only [e_fn]
  simp [legalIf, e_d, e_a, e_b, e_m, Instr.wellFormed]

theorem vmul (d : BitVec 7) (a : BitVec 7) (b : BitVec 7) (m : BitVec 1) : Statement (.vmul d a b m) := by
  intro _ _
  have hd := d.isLt
  have ha := a.isLt
  have hb := b.isLt
  have hm := m.isLt
  obtain ⟨e, e0, e_d, e_a, e_b, e_m, e_fn⟩ := packF3V_slots 36 d.toNat a.toNat b.toNat m.toNat 2 (by omega) (by omega) (by omega) (by omega) (by omega) (by omega)
  simp only [decodeWord, encode, encodeNat, BitVec.toNat_ofNat]
  rw [e, decodeNat_24 _ e0]
  unfold decodeMajor24
  simp only [e_fn]
  simp [legalIf, e_d, e_a, e_b, e_m, Instr.wellFormed]

theorem vmulh (d : BitVec 7) (a : BitVec 7) (b : BitVec 7) (m : BitVec 1) : Statement (.vmulh d a b m) := by
  intro _ _
  have hd := d.isLt
  have ha := a.isLt
  have hb := b.isLt
  have hm := m.isLt
  obtain ⟨e, e0, e_d, e_a, e_b, e_m, e_fn⟩ := packF3V_slots 36 d.toNat a.toNat b.toNat m.toNat 3 (by omega) (by omega) (by omega) (by omega) (by omega) (by omega)
  simp only [decodeWord, encode, encodeNat, BitVec.toNat_ofNat]
  rw [e, decodeNat_24 _ e0]
  unfold decodeMajor24
  simp only [e_fn]
  simp [legalIf, e_d, e_a, e_b, e_m, Instr.wellFormed]

theorem vmulhn (d : BitVec 7) (a : BitVec 7) (b : BitVec 7) (m : BitVec 1) : Statement (.vmulhn d a b m) := by
  intro _ _
  have hd := d.isLt
  have ha := a.isLt
  have hb := b.isLt
  have hm := m.isLt
  obtain ⟨e, e0, e_d, e_a, e_b, e_m, e_fn⟩ := packF3V_slots 36 d.toNat a.toNat b.toNat m.toNat 4 (by omega) (by omega) (by omega) (by omega) (by omega) (by omega)
  simp only [decodeWord, encode, encodeNat, BitVec.toNat_ofNat]
  rw [e, decodeNat_24 _ e0]
  unfold decodeMajor24
  simp only [e_fn]
  simp [legalIf, e_d, e_a, e_b, e_m, Instr.wellFormed]

theorem vand (d : BitVec 7) (a : BitVec 7) (b : BitVec 7) (m : BitVec 1) : Statement (.vand d a b m) := by
  intro _ _
  have hd := d.isLt
  have ha := a.isLt
  have hb := b.isLt
  have hm := m.isLt
  obtain ⟨e, e0, e_d, e_a, e_b, e_m, e_fn⟩ := packF3V_slots 36 d.toNat a.toNat b.toNat m.toNat 5 (by omega) (by omega) (by omega) (by omega) (by omega) (by omega)
  simp only [decodeWord, encode, encodeNat, BitVec.toNat_ofNat]
  rw [e, decodeNat_24 _ e0]
  unfold decodeMajor24
  simp only [e_fn]
  simp [legalIf, e_d, e_a, e_b, e_m, Instr.wellFormed]

theorem vor (d : BitVec 7) (a : BitVec 7) (b : BitVec 7) (m : BitVec 1) : Statement (.vor d a b m) := by
  intro _ _
  have hd := d.isLt
  have ha := a.isLt
  have hb := b.isLt
  have hm := m.isLt
  obtain ⟨e, e0, e_d, e_a, e_b, e_m, e_fn⟩ := packF3V_slots 36 d.toNat a.toNat b.toNat m.toNat 6 (by omega) (by omega) (by omega) (by omega) (by omega) (by omega)
  simp only [decodeWord, encode, encodeNat, BitVec.toNat_ofNat]
  rw [e, decodeNat_24 _ e0]
  unfold decodeMajor24
  simp only [e_fn]
  simp [legalIf, e_d, e_a, e_b, e_m, Instr.wellFormed]

theorem vxor (d : BitVec 7) (a : BitVec 7) (b : BitVec 7) (m : BitVec 1) : Statement (.vxor d a b m) := by
  intro _ _
  have hd := d.isLt
  have ha := a.isLt
  have hb := b.isLt
  have hm := m.isLt
  obtain ⟨e, e0, e_d, e_a, e_b, e_m, e_fn⟩ := packF3V_slots 36 d.toNat a.toNat b.toNat m.toNat 7 (by omega) (by omega) (by omega) (by omega) (by omega) (by omega)
  simp only [decodeWord, encode, encodeNat, BitVec.toNat_ofNat]
  rw [e, decodeNat_24 _ e0]
  unfold decodeMajor24
  simp only [e_fn]
  simp [legalIf, e_d, e_a, e_b, e_m, Instr.wellFormed]

theorem vsll (d : BitVec 7) (a : BitVec 7) (b : BitVec 7) (m : BitVec 1) : Statement (.vsll d a b m) := by
  intro _ _
  have hd := d.isLt
  have ha := a.isLt
  have hb := b.isLt
  have hm := m.isLt
  obtain ⟨e, e0, e_d, e_a, e_b, e_m, e_fn⟩ := packF3V_slots 36 d.toNat a.toNat b.toNat m.toNat 8 (by omega) (by omega) (by omega) (by omega) (by omega) (by omega)
  simp only [decodeWord, encode, encodeNat, BitVec.toNat_ofNat]
  rw [e, decodeNat_24 _ e0]
  unfold decodeMajor24
  simp only [e_fn]
  simp [legalIf, e_d, e_a, e_b, e_m, Instr.wellFormed]

theorem vsrl (d : BitVec 7) (a : BitVec 7) (b : BitVec 7) (m : BitVec 1) : Statement (.vsrl d a b m) := by
  intro _ _
  have hd := d.isLt
  have ha := a.isLt
  have hb := b.isLt
  have hm := m.isLt
  obtain ⟨e, e0, e_d, e_a, e_b, e_m, e_fn⟩ := packF3V_slots 36 d.toNat a.toNat b.toNat m.toNat 9 (by omega) (by omega) (by omega) (by omega) (by omega) (by omega)
  simp only [decodeWord, encode, encodeNat, BitVec.toNat_ofNat]
  rw [e, decodeNat_24 _ e0]
  unfold decodeMajor24
  simp only [e_fn]
  simp [legalIf, e_d, e_a, e_b, e_m, Instr.wellFormed]

theorem vsra (d : BitVec 7) (a : BitVec 7) (b : BitVec 7) (m : BitVec 1) : Statement (.vsra d a b m) := by
  intro _ _
  have hd := d.isLt
  have ha := a.isLt
  have hb := b.isLt
  have hm := m.isLt
  obtain ⟨e, e0, e_d, e_a, e_b, e_m, e_fn⟩ := packF3V_slots 36 d.toNat a.toNat b.toNat m.toNat 10 (by omega) (by omega) (by omega) (by omega) (by omega) (by omega)
  simp only [decodeWord, encode, encodeNat, BitVec.toNat_ofNat]
  rw [e, decodeNat_24 _ e0]
  unfold decodeMajor24
  simp only [e_fn]
  simp [legalIf, e_d, e_a, e_b, e_m, Instr.wellFormed]

theorem vmin (d : BitVec 7) (a : BitVec 7) (b : BitVec 7) (m : BitVec 1) : Statement (.vmin d a b m) := by
  intro _ _
  have hd := d.isLt
  have ha := a.isLt
  have hb := b.isLt
  have hm := m.isLt
  obtain ⟨e, e0, e_d, e_a, e_b, e_m, e_fn⟩ := packF3V_slots 36 d.toNat a.toNat b.toNat m.toNat 11 (by omega) (by omega) (by omega) (by omega) (by omega) (by omega)
  simp only [decodeWord, encode, encodeNat, BitVec.toNat_ofNat]
  rw [e, decodeNat_24 _ e0]
  unfold decodeMajor24
  simp only [e_fn]
  simp [legalIf, e_d, e_a, e_b, e_m, Instr.wellFormed]

theorem vmax (d : BitVec 7) (a : BitVec 7) (b : BitVec 7) (m : BitVec 1) : Statement (.vmax d a b m) := by
  intro _ _
  have hd := d.isLt
  have ha := a.isLt
  have hb := b.isLt
  have hm := m.isLt
  obtain ⟨e, e0, e_d, e_a, e_b, e_m, e_fn⟩ := packF3V_slots 36 d.toNat a.toNat b.toNat m.toNat 12 (by omega) (by omega) (by omega) (by omega) (by omega) (by omega)
  simp only [decodeWord, encode, encodeNat, BitVec.toNat_ofNat]
  rw [e, decodeNat_24 _ e0]
  unfold decodeMajor24
  simp only [e_fn]
  simp [legalIf, e_d, e_a, e_b, e_m, Instr.wellFormed]

theorem vminn (d : BitVec 7) (a : BitVec 7) (b : BitVec 7) (m : BitVec 1) : Statement (.vminn d a b m) := by
  intro _ _
  have hd := d.isLt
  have ha := a.isLt
  have hb := b.isLt
  have hm := m.isLt
  obtain ⟨e, e0, e_d, e_a, e_b, e_m, e_fn⟩ := packF3V_slots 36 d.toNat a.toNat b.toNat m.toNat 13 (by omega) (by omega) (by omega) (by omega) (by omega) (by omega)
  simp only [decodeWord, encode, encodeNat, BitVec.toNat_ofNat]
  rw [e, decodeNat_24 _ e0]
  unfold decodeMajor24
  simp only [e_fn]
  simp [legalIf, e_d, e_a, e_b, e_m, Instr.wellFormed]

theorem vmaxn (d : BitVec 7) (a : BitVec 7) (b : BitVec 7) (m : BitVec 1) : Statement (.vmaxn d a b m) := by
  intro _ _
  have hd := d.isLt
  have ha := a.isLt
  have hb := b.isLt
  have hm := m.isLt
  obtain ⟨e, e0, e_d, e_a, e_b, e_m, e_fn⟩ := packF3V_slots 36 d.toNat a.toNat b.toNat m.toNat 14 (by omega) (by omega) (by omega) (by omega) (by omega) (by omega)
  simp only [decodeWord, encode, encodeNat, BitVec.toNat_ofNat]
  rw [e, decodeNat_24 _ e0]
  unfold decodeMajor24
  simp only [e_fn]
  simp [legalIf, e_d, e_a, e_b, e_m, Instr.wellFormed]

theorem vsadd (d : BitVec 7) (a : BitVec 7) (b : BitVec 7) (m : BitVec 1) : Statement (.vsadd d a b m) := by
  intro _ _
  have hd := d.isLt
  have ha := a.isLt
  have hb := b.isLt
  have hm := m.isLt
  obtain ⟨e, e0, e_d, e_a, e_b, e_m, e_fn⟩ := packF3V_slots 36 d.toNat a.toNat b.toNat m.toNat 15 (by omega) (by omega) (by omega) (by omega) (by omega) (by omega)
  simp only [decodeWord, encode, encodeNat, BitVec.toNat_ofNat]
  rw [e, decodeNat_24 _ e0]
  unfold decodeMajor24
  simp only [e_fn]
  simp [legalIf, e_d, e_a, e_b, e_m, Instr.wellFormed]

theorem vaddVs (d : BitVec 7) (a : BitVec 7) (b : BitVec 7) (m : BitVec 1) : Statement (.vaddVs d a b m) := by
  intro _ _
  have hd := d.isLt
  have ha := a.isLt
  have hb := b.isLt
  have hm := m.isLt
  obtain ⟨e, e0, e_d, e_a, e_b, e_m, e_fn⟩ := packF3V_slots 37 d.toNat a.toNat b.toNat m.toNat 0 (by omega) (by omega) (by omega) (by omega) (by omega) (by omega)
  simp only [decodeWord, encode, encodeNat, BitVec.toNat_ofNat]
  rw [e, decodeNat_25 _ e0]
  unfold decodeMajor25
  simp only [e_fn]
  simp [legalIf, e_d, e_a, e_b, e_m, Instr.wellFormed]

theorem vsubVs (d : BitVec 7) (a : BitVec 7) (b : BitVec 7) (m : BitVec 1) : Statement (.vsubVs d a b m) := by
  intro _ _
  have hd := d.isLt
  have ha := a.isLt
  have hb := b.isLt
  have hm := m.isLt
  obtain ⟨e, e0, e_d, e_a, e_b, e_m, e_fn⟩ := packF3V_slots 37 d.toNat a.toNat b.toNat m.toNat 1 (by omega) (by omega) (by omega) (by omega) (by omega) (by omega)
  simp only [decodeWord, encode, encodeNat, BitVec.toNat_ofNat]
  rw [e, decodeNat_25 _ e0]
  unfold decodeMajor25
  simp only [e_fn]
  simp [legalIf, e_d, e_a, e_b, e_m, Instr.wellFormed]

theorem vmulVs (d : BitVec 7) (a : BitVec 7) (b : BitVec 7) (m : BitVec 1) : Statement (.vmulVs d a b m) := by
  intro _ _
  have hd := d.isLt
  have ha := a.isLt
  have hb := b.isLt
  have hm := m.isLt
  obtain ⟨e, e0, e_d, e_a, e_b, e_m, e_fn⟩ := packF3V_slots 37 d.toNat a.toNat b.toNat m.toNat 2 (by omega) (by omega) (by omega) (by omega) (by omega) (by omega)
  simp only [decodeWord, encode, encodeNat, BitVec.toNat_ofNat]
  rw [e, decodeNat_25 _ e0]
  unfold decodeMajor25
  simp only [e_fn]
  simp [legalIf, e_d, e_a, e_b, e_m, Instr.wellFormed]

theorem vmulhVs (d : BitVec 7) (a : BitVec 7) (b : BitVec 7) (m : BitVec 1) : Statement (.vmulhVs d a b m) := by
  intro _ _
  have hd := d.isLt
  have ha := a.isLt
  have hb := b.isLt
  have hm := m.isLt
  obtain ⟨e, e0, e_d, e_a, e_b, e_m, e_fn⟩ := packF3V_slots 37 d.toNat a.toNat b.toNat m.toNat 3 (by omega) (by omega) (by omega) (by omega) (by omega) (by omega)
  simp only [decodeWord, encode, encodeNat, BitVec.toNat_ofNat]
  rw [e, decodeNat_25 _ e0]
  unfold decodeMajor25
  simp only [e_fn]
  simp [legalIf, e_d, e_a, e_b, e_m, Instr.wellFormed]

theorem vmulhnVs (d : BitVec 7) (a : BitVec 7) (b : BitVec 7) (m : BitVec 1) : Statement (.vmulhnVs d a b m) := by
  intro _ _
  have hd := d.isLt
  have ha := a.isLt
  have hb := b.isLt
  have hm := m.isLt
  obtain ⟨e, e0, e_d, e_a, e_b, e_m, e_fn⟩ := packF3V_slots 37 d.toNat a.toNat b.toNat m.toNat 4 (by omega) (by omega) (by omega) (by omega) (by omega) (by omega)
  simp only [decodeWord, encode, encodeNat, BitVec.toNat_ofNat]
  rw [e, decodeNat_25 _ e0]
  unfold decodeMajor25
  simp only [e_fn]
  simp [legalIf, e_d, e_a, e_b, e_m, Instr.wellFormed]

theorem vandVs (d : BitVec 7) (a : BitVec 7) (b : BitVec 7) (m : BitVec 1) : Statement (.vandVs d a b m) := by
  intro _ _
  have hd := d.isLt
  have ha := a.isLt
  have hb := b.isLt
  have hm := m.isLt
  obtain ⟨e, e0, e_d, e_a, e_b, e_m, e_fn⟩ := packF3V_slots 37 d.toNat a.toNat b.toNat m.toNat 5 (by omega) (by omega) (by omega) (by omega) (by omega) (by omega)
  simp only [decodeWord, encode, encodeNat, BitVec.toNat_ofNat]
  rw [e, decodeNat_25 _ e0]
  unfold decodeMajor25
  simp only [e_fn]
  simp [legalIf, e_d, e_a, e_b, e_m, Instr.wellFormed]

theorem vorVs (d : BitVec 7) (a : BitVec 7) (b : BitVec 7) (m : BitVec 1) : Statement (.vorVs d a b m) := by
  intro _ _
  have hd := d.isLt
  have ha := a.isLt
  have hb := b.isLt
  have hm := m.isLt
  obtain ⟨e, e0, e_d, e_a, e_b, e_m, e_fn⟩ := packF3V_slots 37 d.toNat a.toNat b.toNat m.toNat 6 (by omega) (by omega) (by omega) (by omega) (by omega) (by omega)
  simp only [decodeWord, encode, encodeNat, BitVec.toNat_ofNat]
  rw [e, decodeNat_25 _ e0]
  unfold decodeMajor25
  simp only [e_fn]
  simp [legalIf, e_d, e_a, e_b, e_m, Instr.wellFormed]

theorem vxorVs (d : BitVec 7) (a : BitVec 7) (b : BitVec 7) (m : BitVec 1) : Statement (.vxorVs d a b m) := by
  intro _ _
  have hd := d.isLt
  have ha := a.isLt
  have hb := b.isLt
  have hm := m.isLt
  obtain ⟨e, e0, e_d, e_a, e_b, e_m, e_fn⟩ := packF3V_slots 37 d.toNat a.toNat b.toNat m.toNat 7 (by omega) (by omega) (by omega) (by omega) (by omega) (by omega)
  simp only [decodeWord, encode, encodeNat, BitVec.toNat_ofNat]
  rw [e, decodeNat_25 _ e0]
  unfold decodeMajor25
  simp only [e_fn]
  simp [legalIf, e_d, e_a, e_b, e_m, Instr.wellFormed]

theorem vsllVs (d : BitVec 7) (a : BitVec 7) (b : BitVec 7) (m : BitVec 1) : Statement (.vsllVs d a b m) := by
  intro _ _
  have hd := d.isLt
  have ha := a.isLt
  have hb := b.isLt
  have hm := m.isLt
  obtain ⟨e, e0, e_d, e_a, e_b, e_m, e_fn⟩ := packF3V_slots 37 d.toNat a.toNat b.toNat m.toNat 8 (by omega) (by omega) (by omega) (by omega) (by omega) (by omega)
  simp only [decodeWord, encode, encodeNat, BitVec.toNat_ofNat]
  rw [e, decodeNat_25 _ e0]
  unfold decodeMajor25
  simp only [e_fn]
  simp [legalIf, e_d, e_a, e_b, e_m, Instr.wellFormed]

theorem vsrlVs (d : BitVec 7) (a : BitVec 7) (b : BitVec 7) (m : BitVec 1) : Statement (.vsrlVs d a b m) := by
  intro _ _
  have hd := d.isLt
  have ha := a.isLt
  have hb := b.isLt
  have hm := m.isLt
  obtain ⟨e, e0, e_d, e_a, e_b, e_m, e_fn⟩ := packF3V_slots 37 d.toNat a.toNat b.toNat m.toNat 9 (by omega) (by omega) (by omega) (by omega) (by omega) (by omega)
  simp only [decodeWord, encode, encodeNat, BitVec.toNat_ofNat]
  rw [e, decodeNat_25 _ e0]
  unfold decodeMajor25
  simp only [e_fn]
  simp [legalIf, e_d, e_a, e_b, e_m, Instr.wellFormed]

theorem vsraVs (d : BitVec 7) (a : BitVec 7) (b : BitVec 7) (m : BitVec 1) : Statement (.vsraVs d a b m) := by
  intro _ _
  have hd := d.isLt
  have ha := a.isLt
  have hb := b.isLt
  have hm := m.isLt
  obtain ⟨e, e0, e_d, e_a, e_b, e_m, e_fn⟩ := packF3V_slots 37 d.toNat a.toNat b.toNat m.toNat 10 (by omega) (by omega) (by omega) (by omega) (by omega) (by omega)
  simp only [decodeWord, encode, encodeNat, BitVec.toNat_ofNat]
  rw [e, decodeNat_25 _ e0]
  unfold decodeMajor25
  simp only [e_fn]
  simp [legalIf, e_d, e_a, e_b, e_m, Instr.wellFormed]

theorem vminVs (d : BitVec 7) (a : BitVec 7) (b : BitVec 7) (m : BitVec 1) : Statement (.vminVs d a b m) := by
  intro _ _
  have hd := d.isLt
  have ha := a.isLt
  have hb := b.isLt
  have hm := m.isLt
  obtain ⟨e, e0, e_d, e_a, e_b, e_m, e_fn⟩ := packF3V_slots 37 d.toNat a.toNat b.toNat m.toNat 11 (by omega) (by omega) (by omega) (by omega) (by omega) (by omega)
  simp only [decodeWord, encode, encodeNat, BitVec.toNat_ofNat]
  rw [e, decodeNat_25 _ e0]
  unfold decodeMajor25
  simp only [e_fn]
  simp [legalIf, e_d, e_a, e_b, e_m, Instr.wellFormed]

theorem vmaxVs (d : BitVec 7) (a : BitVec 7) (b : BitVec 7) (m : BitVec 1) : Statement (.vmaxVs d a b m) := by
  intro _ _
  have hd := d.isLt
  have ha := a.isLt
  have hb := b.isLt
  have hm := m.isLt
  obtain ⟨e, e0, e_d, e_a, e_b, e_m, e_fn⟩ := packF3V_slots 37 d.toNat a.toNat b.toNat m.toNat 12 (by omega) (by omega) (by omega) (by omega) (by omega) (by omega)
  simp only [decodeWord, encode, encodeNat, BitVec.toNat_ofNat]
  rw [e, decodeNat_25 _ e0]
  unfold decodeMajor25
  simp only [e_fn]
  simp [legalIf, e_d, e_a, e_b, e_m, Instr.wellFormed]

theorem vminnVs (d : BitVec 7) (a : BitVec 7) (b : BitVec 7) (m : BitVec 1) : Statement (.vminnVs d a b m) := by
  intro _ _
  have hd := d.isLt
  have ha := a.isLt
  have hb := b.isLt
  have hm := m.isLt
  obtain ⟨e, e0, e_d, e_a, e_b, e_m, e_fn⟩ := packF3V_slots 37 d.toNat a.toNat b.toNat m.toNat 13 (by omega) (by omega) (by omega) (by omega) (by omega) (by omega)
  simp only [decodeWord, encode, encodeNat, BitVec.toNat_ofNat]
  rw [e, decodeNat_25 _ e0]
  unfold decodeMajor25
  simp only [e_fn]
  simp [legalIf, e_d, e_a, e_b, e_m, Instr.wellFormed]

theorem vmaxnVs (d : BitVec 7) (a : BitVec 7) (b : BitVec 7) (m : BitVec 1) : Statement (.vmaxnVs d a b m) := by
  intro _ _
  have hd := d.isLt
  have ha := a.isLt
  have hb := b.isLt
  have hm := m.isLt
  obtain ⟨e, e0, e_d, e_a, e_b, e_m, e_fn⟩ := packF3V_slots 37 d.toNat a.toNat b.toNat m.toNat 14 (by omega) (by omega) (by omega) (by omega) (by omega) (by omega)
  simp only [decodeWord, encode, encodeNat, BitVec.toNat_ofNat]
  rw [e, decodeNat_25 _ e0]
  unfold decodeMajor25
  simp only [e_fn]
  simp [legalIf, e_d, e_a, e_b, e_m, Instr.wellFormed]

theorem vsaddVs (d : BitVec 7) (a : BitVec 7) (b : BitVec 7) (m : BitVec 1) : Statement (.vsaddVs d a b m) := by
  intro _ _
  have hd := d.isLt
  have ha := a.isLt
  have hb := b.isLt
  have hm := m.isLt
  obtain ⟨e, e0, e_d, e_a, e_b, e_m, e_fn⟩ := packF3V_slots 37 d.toNat a.toNat b.toNat m.toNat 15 (by omega) (by omega) (by omega) (by omega) (by omega) (by omega)
  simp only [decodeWord, encode, encodeNat, BitVec.toNat_ofNat]
  rw [e, decodeNat_25 _ e0]
  unfold decodeMajor25
  simp only [e_fn]
  simp [legalIf, e_d, e_a, e_b, e_m, Instr.wellFormed]

theorem vfadd (d : BitVec 7) (a : BitVec 7) (b : BitVec 7) (m : BitVec 1) : Statement (.vfadd d a b m) := by
  intro _ _
  have hd := d.isLt
  have ha := a.isLt
  have hb := b.isLt
  have hm := m.isLt
  obtain ⟨e, e0, e_d, e_a, e_b, e_m, e_fn⟩ := packF3V_slots 38 d.toNat a.toNat b.toNat m.toNat 0 (by omega) (by omega) (by omega) (by omega) (by omega) (by omega)
  simp only [decodeWord, encode, encodeNat, BitVec.toNat_ofNat]
  rw [e, decodeNat_26 _ e0]
  unfold decodeMajor26
  simp only [e_fn]
  simp [legalIf, e_d, e_a, e_b, e_m, Instr.wellFormed]

theorem vfsub (d : BitVec 7) (a : BitVec 7) (b : BitVec 7) (m : BitVec 1) : Statement (.vfsub d a b m) := by
  intro _ _
  have hd := d.isLt
  have ha := a.isLt
  have hb := b.isLt
  have hm := m.isLt
  obtain ⟨e, e0, e_d, e_a, e_b, e_m, e_fn⟩ := packF3V_slots 38 d.toNat a.toNat b.toNat m.toNat 1 (by omega) (by omega) (by omega) (by omega) (by omega) (by omega)
  simp only [decodeWord, encode, encodeNat, BitVec.toNat_ofNat]
  rw [e, decodeNat_26 _ e0]
  unfold decodeMajor26
  simp only [e_fn]
  simp [legalIf, e_d, e_a, e_b, e_m, Instr.wellFormed]

theorem vfmul (d : BitVec 7) (a : BitVec 7) (b : BitVec 7) (m : BitVec 1) : Statement (.vfmul d a b m) := by
  intro _ _
  have hd := d.isLt
  have ha := a.isLt
  have hb := b.isLt
  have hm := m.isLt
  obtain ⟨e, e0, e_d, e_a, e_b, e_m, e_fn⟩ := packF3V_slots 38 d.toNat a.toNat b.toNat m.toNat 2 (by omega) (by omega) (by omega) (by omega) (by omega) (by omega)
  simp only [decodeWord, encode, encodeNat, BitVec.toNat_ofNat]
  rw [e, decodeNat_26 _ e0]
  unfold decodeMajor26
  simp only [e_fn]
  simp [legalIf, e_d, e_a, e_b, e_m, Instr.wellFormed]

theorem vfdiv (d : BitVec 7) (a : BitVec 7) (b : BitVec 7) (m : BitVec 1) : Statement (.vfdiv d a b m) := by
  intro _ _
  have hd := d.isLt
  have ha := a.isLt
  have hb := b.isLt
  have hm := m.isLt
  obtain ⟨e, e0, e_d, e_a, e_b, e_m, e_fn⟩ := packF3V_slots 38 d.toNat a.toNat b.toNat m.toNat 3 (by omega) (by omega) (by omega) (by omega) (by omega) (by omega)
  simp only [decodeWord, encode, encodeNat, BitVec.toNat_ofNat]
  rw [e, decodeNat_26 _ e0]
  unfold decodeMajor26
  simp only [e_fn]
  simp [legalIf, e_d, e_a, e_b, e_m, Instr.wellFormed]

theorem vfmin (d : BitVec 7) (a : BitVec 7) (b : BitVec 7) (m : BitVec 1) : Statement (.vfmin d a b m) := by
  intro _ _
  have hd := d.isLt
  have ha := a.isLt
  have hb := b.isLt
  have hm := m.isLt
  obtain ⟨e, e0, e_d, e_a, e_b, e_m, e_fn⟩ := packF3V_slots 38 d.toNat a.toNat b.toNat m.toNat 4 (by omega) (by omega) (by omega) (by omega) (by omega) (by omega)
  simp only [decodeWord, encode, encodeNat, BitVec.toNat_ofNat]
  rw [e, decodeNat_26 _ e0]
  unfold decodeMajor26
  simp only [e_fn]
  simp [legalIf, e_d, e_a, e_b, e_m, Instr.wellFormed]

theorem vfmax (d : BitVec 7) (a : BitVec 7) (b : BitVec 7) (m : BitVec 1) : Statement (.vfmax d a b m) := by
  intro _ _
  have hd := d.isLt
  have ha := a.isLt
  have hb := b.isLt
  have hm := m.isLt
  obtain ⟨e, e0, e_d, e_a, e_b, e_m, e_fn⟩ := packF3V_slots 38 d.toNat a.toNat b.toNat m.toNat 5 (by omega) (by omega) (by omega) (by omega) (by omega) (by omega)
  simp only [decodeWord, encode, encodeNat, BitVec.toNat_ofNat]
  rw [e, decodeNat_26 _ e0]
  unfold decodeMajor26
  simp only [e_fn]
  simp [legalIf, e_d, e_a, e_b, e_m, Instr.wellFormed]

theorem vfsqrt (d : BitVec 7) (a : BitVec 7) (m : BitVec 1) : Statement (.vfsqrt d a m) := by
  intro _ _
  have hd := d.isLt
  have ha := a.isLt
  have hm := m.isLt
  obtain ⟨e, e0, e_d, e_a, e_b, e_m, e_fn⟩ := packF3V_slots 38 d.toNat a.toNat 0 m.toNat 6 (by omega) (by omega) (by omega) (by omega) (by omega) (by omega)
  simp only [decodeWord, encode, encodeNat, BitVec.toNat_ofNat]
  rw [e, decodeNat_26 _ e0]
  unfold decodeMajor26
  simp only [e_fn]
  simp [legalIf, e_d, e_a, e_b, e_m, Instr.wellFormed]

theorem vfabs (d : BitVec 7) (a : BitVec 7) (m : BitVec 1) : Statement (.vfabs d a m) := by
  intro _ _
  have hd := d.isLt
  have ha := a.isLt
  have hm := m.isLt
  obtain ⟨e, e0, e_d, e_a, e_b, e_m, e_fn⟩ := packF3V_slots 38 d.toNat a.toNat 0 m.toNat 7 (by omega) (by omega) (by omega) (by omega) (by omega) (by omega)
  simp only [decodeWord, encode, encodeNat, BitVec.toNat_ofNat]
  rw [e, decodeNat_26 _ e0]
  unfold decodeMajor26
  simp only [e_fn]
  simp [legalIf, e_d, e_a, e_b, e_m, Instr.wellFormed]

theorem vfneg (d : BitVec 7) (a : BitVec 7) (m : BitVec 1) : Statement (.vfneg d a m) := by
  intro _ _
  have hd := d.isLt
  have ha := a.isLt
  have hm := m.isLt
  obtain ⟨e, e0, e_d, e_a, e_b, e_m, e_fn⟩ := packF3V_slots 38 d.toNat a.toNat 0 m.toNat 8 (by omega) (by omega) (by omega) (by omega) (by omega) (by omega)
  simp only [decodeWord, encode, encodeNat, BitVec.toNat_ofNat]
  rw [e, decodeNat_26 _ e0]
  unfold decodeMajor26
  simp only [e_fn]
  simp [legalIf, e_d, e_a, e_b, e_m, Instr.wellFormed]

theorem vfsgc (d : BitVec 7) (a : BitVec 7) (b : BitVec 7) (m : BitVec 1) : Statement (.vfsgc d a b m) := by
  intro _ _
  have hd := d.isLt
  have ha := a.isLt
  have hb := b.isLt
  have hm := m.isLt
  obtain ⟨e, e0, e_d, e_a, e_b, e_m, e_fn⟩ := packF3V_slots 38 d.toNat a.toNat b.toNat m.toNat 9 (by omega) (by omega) (by omega) (by omega) (by omega) (by omega)
  simp only [decodeWord, encode, encodeNat, BitVec.toNat_ofNat]
  rw [e, decodeNat_26 _ e0]
  unfold decodeMajor26
  simp only [e_fn]
  simp [legalIf, e_d, e_a, e_b, e_m, Instr.wellFormed]

theorem vfrece (d : BitVec 7) (a : BitVec 7) (m : BitVec 1) : Statement (.vfrece d a m) := by
  intro _ _
  have hd := d.isLt
  have ha := a.isLt
  have hm := m.isLt
  obtain ⟨e, e0, e_d, e_a, e_b, e_m, e_fn⟩ := packF3V_slots 38 d.toNat a.toNat 0 m.toNat 10 (by omega) (by omega) (by omega) (by omega) (by omega) (by omega)
  simp only [decodeWord, encode, encodeNat, BitVec.toNat_ofNat]
  rw [e, decodeNat_26 _ e0]
  unfold decodeMajor26
  simp only [e_fn]
  simp [legalIf, e_d, e_a, e_b, e_m, Instr.wellFormed]

theorem vfrsqe (d : BitVec 7) (a : BitVec 7) (m : BitVec 1) : Statement (.vfrsqe d a m) := by
  intro _ _
  have hd := d.isLt
  have ha := a.isLt
  have hm := m.isLt
  obtain ⟨e, e0, e_d, e_a, e_b, e_m, e_fn⟩ := packF3V_slots 38 d.toNat a.toNat 0 m.toNat 11 (by omega) (by omega) (by omega) (by omega) (by omega) (by omega)
  simp only [decodeWord, encode, encodeNat, BitVec.toNat_ofNat]
  rw [e, decodeNat_26 _ e0]
  unfold decodeMajor26
  simp only [e_fn]
  simp [legalIf, e_d, e_a, e_b, e_m, Instr.wellFormed]

theorem vfexp2e (d : BitVec 7) (a : BitVec 7) (m : BitVec 1) : Statement (.vfexp2e d a m) := by
  intro _ _
  have hd := d.isLt
  have ha := a.isLt
  have hm := m.isLt
  obtain ⟨e, e0, e_d, e_a, e_b, e_m, e_fn⟩ := packF3V_slots 38 d.toNat a.toNat 0 m.toNat 12 (by omega) (by omega) (by omega) (by omega) (by omega) (by omega)
  simp only [decodeWord, encode, encodeNat, BitVec.toNat_ofNat]
  rw [e, decodeNat_26 _ e0]
  unfold decodeMajor26
  simp only [e_fn]
  simp [legalIf, e_d, e_a, e_b, e_m, Instr.wellFormed]

theorem vfclass (d : BitVec 7) (a : BitVec 7) (m : BitVec 1) : Statement (.vfclass d a m) := by
  intro _ _
  have hd := d.isLt
  have ha := a.isLt
  have hm := m.isLt
  obtain ⟨e, e0, e_d, e_a, e_b, e_m, e_fn⟩ := packF3V_slots 38 d.toNat a.toNat 0 m.toNat 13 (by omega) (by omega) (by omega) (by omega) (by omega) (by omega)
  simp only [decodeWord, encode, encodeNat, BitVec.toNat_ofNat]
  rw [e, decodeNat_26 _ e0]
  unfold decodeMajor26
  simp only [e_fn]
  simp [legalIf, e_d, e_a, e_b, e_m, Instr.wellFormed]

theorem vfaddw (d : BitVec 7) (a : BitVec 7) (b : BitVec 7) (m : BitVec 1) : Statement (.vfaddw d a b m) := by
  intro _ _
  have hd := d.isLt
  have ha := a.isLt
  have hb := b.isLt
  have hm := m.isLt
  obtain ⟨e, e0, e_d, e_a, e_b, e_m, e_fn⟩ := packF3V_slots 38 d.toNat a.toNat b.toNat m.toNat 14 (by omega) (by omega) (by omega) (by omega) (by omega) (by omega)
  simp only [decodeWord, encode, encodeNat, BitVec.toNat_ofNat]
  rw [e, decodeNat_26 _ e0]
  unfold decodeMajor26
  simp only [e_fn]
  simp [legalIf, e_d, e_a, e_b, e_m, Instr.wellFormed]

theorem vfmulw (d : BitVec 7) (a : BitVec 7) (b : BitVec 7) (m : BitVec 1) : Statement (.vfmulw d a b m) := by
  intro _ _
  have hd := d.isLt
  have ha := a.isLt
  have hb := b.isLt
  have hm := m.isLt
  obtain ⟨e, e0, e_d, e_a, e_b, e_m, e_fn⟩ := packF3V_slots 38 d.toNat a.toNat b.toNat m.toNat 15 (by omega) (by omega) (by omega) (by omega) (by omega) (by omega)
  simp only [decodeWord, encode, encodeNat, BitVec.toNat_ofNat]
  rw [e, decodeNat_26 _ e0]
  unfold decodeMajor26
  simp only [e_fn]
  simp [legalIf, e_d, e_a, e_b, e_m, Instr.wellFormed]

theorem vfaddVs (d : BitVec 7) (a : BitVec 7) (b : BitVec 7) (m : BitVec 1) : Statement (.vfaddVs d a b m) := by
  intro _ _
  have hd := d.isLt
  have ha := a.isLt
  have hb := b.isLt
  have hm := m.isLt
  obtain ⟨e, e0, e_d, e_a, e_b, e_m, e_fn⟩ := packF3V_slots 39 d.toNat a.toNat b.toNat m.toNat 0 (by omega) (by omega) (by omega) (by omega) (by omega) (by omega)
  simp only [decodeWord, encode, encodeNat, BitVec.toNat_ofNat]
  rw [e, decodeNat_27 _ e0]
  unfold decodeMajor27
  simp only [e_fn]
  simp [legalIf, e_d, e_a, e_b, e_m, Instr.wellFormed]

theorem vfsubVs (d : BitVec 7) (a : BitVec 7) (b : BitVec 7) (m : BitVec 1) : Statement (.vfsubVs d a b m) := by
  intro _ _
  have hd := d.isLt
  have ha := a.isLt
  have hb := b.isLt
  have hm := m.isLt
  obtain ⟨e, e0, e_d, e_a, e_b, e_m, e_fn⟩ := packF3V_slots 39 d.toNat a.toNat b.toNat m.toNat 1 (by omega) (by omega) (by omega) (by omega) (by omega) (by omega)
  simp only [decodeWord, encode, encodeNat, BitVec.toNat_ofNat]
  rw [e, decodeNat_27 _ e0]
  unfold decodeMajor27
  simp only [e_fn]
  simp [legalIf, e_d, e_a, e_b, e_m, Instr.wellFormed]

theorem vfmulVs (d : BitVec 7) (a : BitVec 7) (b : BitVec 7) (m : BitVec 1) : Statement (.vfmulVs d a b m) := by
  intro _ _
  have hd := d.isLt
  have ha := a.isLt
  have hb := b.isLt
  have hm := m.isLt
  obtain ⟨e, e0, e_d, e_a, e_b, e_m, e_fn⟩ := packF3V_slots 39 d.toNat a.toNat b.toNat m.toNat 2 (by omega) (by omega) (by omega) (by omega) (by omega) (by omega)
  simp only [decodeWord, encode, encodeNat, BitVec.toNat_ofNat]
  rw [e, decodeNat_27 _ e0]
  unfold decodeMajor27
  simp only [e_fn]
  simp [legalIf, e_d, e_a, e_b, e_m, Instr.wellFormed]

theorem vfdivVs (d : BitVec 7) (a : BitVec 7) (b : BitVec 7) (m : BitVec 1) : Statement (.vfdivVs d a b m) := by
  intro _ _
  have hd := d.isLt
  have ha := a.isLt
  have hb := b.isLt
  have hm := m.isLt
  obtain ⟨e, e0, e_d, e_a, e_b, e_m, e_fn⟩ := packF3V_slots 39 d.toNat a.toNat b.toNat m.toNat 3 (by omega) (by omega) (by omega) (by omega) (by omega) (by omega)
  simp only [decodeWord, encode, encodeNat, BitVec.toNat_ofNat]
  rw [e, decodeNat_27 _ e0]
  unfold decodeMajor27
  simp only [e_fn]
  simp [legalIf, e_d, e_a, e_b, e_m, Instr.wellFormed]

theorem vfminVs (d : BitVec 7) (a : BitVec 7) (b : BitVec 7) (m : BitVec 1) : Statement (.vfminVs d a b m) := by
  intro _ _
  have hd := d.isLt
  have ha := a.isLt
  have hb := b.isLt
  have hm := m.isLt
  obtain ⟨e, e0, e_d, e_a, e_b, e_m, e_fn⟩ := packF3V_slots 39 d.toNat a.toNat b.toNat m.toNat 4 (by omega) (by omega) (by omega) (by omega) (by omega) (by omega)
  simp only [decodeWord, encode, encodeNat, BitVec.toNat_ofNat]
  rw [e, decodeNat_27 _ e0]
  unfold decodeMajor27
  simp only [e_fn]
  simp [legalIf, e_d, e_a, e_b, e_m, Instr.wellFormed]

theorem vfmaxVs (d : BitVec 7) (a : BitVec 7) (b : BitVec 7) (m : BitVec 1) : Statement (.vfmaxVs d a b m) := by
  intro _ _
  have hd := d.isLt
  have ha := a.isLt
  have hb := b.isLt
  have hm := m.isLt
  obtain ⟨e, e0, e_d, e_a, e_b, e_m, e_fn⟩ := packF3V_slots 39 d.toNat a.toNat b.toNat m.toNat 5 (by omega) (by omega) (by omega) (by omega) (by omega) (by omega)
  simp only [decodeWord, encode, encodeNat, BitVec.toNat_ofNat]
  rw [e, decodeNat_27 _ e0]
  unfold decodeMajor27
  simp only [e_fn]
  simp [legalIf, e_d, e_a, e_b, e_m, Instr.wellFormed]

theorem vfsqrtVs (d : BitVec 7) (b : BitVec 7) (m : BitVec 1) : Statement (.vfsqrtVs d b m) := by
  intro _ _
  have hd := d.isLt
  have hb := b.isLt
  have hm := m.isLt
  obtain ⟨e, e0, e_d, e_a, e_b, e_m, e_fn⟩ := packF3V_slots 39 d.toNat 0 b.toNat m.toNat 6 (by omega) (by omega) (by omega) (by omega) (by omega) (by omega)
  simp only [decodeWord, encode, encodeNat, BitVec.toNat_ofNat]
  rw [e, decodeNat_27 _ e0]
  unfold decodeMajor27
  simp only [e_fn]
  simp [legalIf, e_d, e_a, e_b, e_m, Instr.wellFormed]

theorem vfabsVs (d : BitVec 7) (b : BitVec 7) (m : BitVec 1) : Statement (.vfabsVs d b m) := by
  intro _ _
  have hd := d.isLt
  have hb := b.isLt
  have hm := m.isLt
  obtain ⟨e, e0, e_d, e_a, e_b, e_m, e_fn⟩ := packF3V_slots 39 d.toNat 0 b.toNat m.toNat 7 (by omega) (by omega) (by omega) (by omega) (by omega) (by omega)
  simp only [decodeWord, encode, encodeNat, BitVec.toNat_ofNat]
  rw [e, decodeNat_27 _ e0]
  unfold decodeMajor27
  simp only [e_fn]
  simp [legalIf, e_d, e_a, e_b, e_m, Instr.wellFormed]

theorem vfnegVs (d : BitVec 7) (b : BitVec 7) (m : BitVec 1) : Statement (.vfnegVs d b m) := by
  intro _ _
  have hd := d.isLt
  have hb := b.isLt
  have hm := m.isLt
  obtain ⟨e, e0, e_d, e_a, e_b, e_m, e_fn⟩ := packF3V_slots 39 d.toNat 0 b.toNat m.toNat 8 (by omega) (by omega) (by omega) (by omega) (by omega) (by omega)
  simp only [decodeWord, encode, encodeNat, BitVec.toNat_ofNat]
  rw [e, decodeNat_27 _ e0]
  unfold decodeMajor27
  simp only [e_fn]
  simp [legalIf, e_d, e_a, e_b, e_m, Instr.wellFormed]

theorem vfsgcVs (d : BitVec 7) (a : BitVec 7) (b : BitVec 7) (m : BitVec 1) : Statement (.vfsgcVs d a b m) := by
  intro _ _
  have hd := d.isLt
  have ha := a.isLt
  have hb := b.isLt
  have hm := m.isLt
  obtain ⟨e, e0, e_d, e_a, e_b, e_m, e_fn⟩ := packF3V_slots 39 d.toNat a.toNat b.toNat m.toNat 9 (by omega) (by omega) (by omega) (by omega) (by omega) (by omega)
  simp only [decodeWord, encode, encodeNat, BitVec.toNat_ofNat]
  rw [e, decodeNat_27 _ e0]
  unfold decodeMajor27
  simp only [e_fn]
  simp [legalIf, e_d, e_a, e_b, e_m, Instr.wellFormed]

theorem vfreceVs (d : BitVec 7) (b : BitVec 7) (m : BitVec 1) : Statement (.vfreceVs d b m) := by
  intro _ _
  have hd := d.isLt
  have hb := b.isLt
  have hm := m.isLt
  obtain ⟨e, e0, e_d, e_a, e_b, e_m, e_fn⟩ := packF3V_slots 39 d.toNat 0 b.toNat m.toNat 10 (by omega) (by omega) (by omega) (by omega) (by omega) (by omega)
  simp only [decodeWord, encode, encodeNat, BitVec.toNat_ofNat]
  rw [e, decodeNat_27 _ e0]
  unfold decodeMajor27
  simp only [e_fn]
  simp [legalIf, e_d, e_a, e_b, e_m, Instr.wellFormed]

theorem vfrsqeVs (d : BitVec 7) (b : BitVec 7) (m : BitVec 1) : Statement (.vfrsqeVs d b m) := by
  intro _ _
  have hd := d.isLt
  have hb := b.isLt
  have hm := m.isLt
  obtain ⟨e, e0, e_d, e_a, e_b, e_m, e_fn⟩ := packF3V_slots 39 d.toNat 0 b.toNat m.toNat 11 (by omega) (by omega) (by omega) (by omega) (by omega) (by omega)
  simp only [decodeWord, encode, encodeNat, BitVec.toNat_ofNat]
  rw [e, decodeNat_27 _ e0]
  unfold decodeMajor27
  simp only [e_fn]
  simp [legalIf, e_d, e_a, e_b, e_m, Instr.wellFormed]

theorem vfexp2eVs (d : BitVec 7) (b : BitVec 7) (m : BitVec 1) : Statement (.vfexp2eVs d b m) := by
  intro _ _
  have hd := d.isLt
  have hb := b.isLt
  have hm := m.isLt
  obtain ⟨e, e0, e_d, e_a, e_b, e_m, e_fn⟩ := packF3V_slots 39 d.toNat 0 b.toNat m.toNat 12 (by omega) (by omega) (by omega) (by omega) (by omega) (by omega)
  simp only [decodeWord, encode, encodeNat, BitVec.toNat_ofNat]
  rw [e, decodeNat_27 _ e0]
  unfold decodeMajor27
  simp only [e_fn]
  simp [legalIf, e_d, e_a, e_b, e_m, Instr.wellFormed]

theorem vfclassVs (d : BitVec 7) (b : BitVec 7) (m : BitVec 1) : Statement (.vfclassVs d b m) := by
  intro _ _
  have hd := d.isLt
  have hb := b.isLt
  have hm := m.isLt
  obtain ⟨e, e0, e_d, e_a, e_b, e_m, e_fn⟩ := packF3V_slots 39 d.toNat 0 b.toNat m.toNat 13 (by omega) (by omega) (by omega) (by omega) (by omega) (by omega)
  simp only [decodeWord, encode, encodeNat, BitVec.toNat_ofNat]
  rw [e, decodeNat_27 _ e0]
  unfold decodeMajor27
  simp only [e_fn]
  simp [legalIf, e_d, e_a, e_b, e_m, Instr.wellFormed]

theorem vfclamp (d : BitVec 7) (a : BitVec 7) (b : BitVec 7) (m : BitVec 1) : Statement (.vfclamp d a b m) := by
  intro _ _
  have hd := d.isLt
  have ha := a.isLt
  have hb := b.isLt
  have hm := m.isLt
  obtain ⟨e, e0, e_d, e_a, e_b, e_m, e_fn⟩ := packF3V_slots 39 d.toNat a.toNat b.toNat m.toNat 14 (by omega) (by omega) (by omega) (by omega) (by omega) (by omega)
  simp only [decodeWord, encode, encodeNat, BitVec.toNat_ofNat]
  rw [e, decodeNat_27 _ e0]
  unfold decodeMajor27
  simp only [e_fn]
  simp [legalIf, e_d, e_a, e_b, e_m, Instr.wellFormed]

theorem vfma (d : BitVec 7) (a : BitVec 7) (b : BitVec 7) (m : BitVec 1) : Statement (.vfma d a b m) := by
  intro _ _
  have hd := d.isLt
  have ha := a.isLt
  have hb := b.isLt
  have hm := m.isLt
  obtain ⟨e, e0, e_d, e_a, e_b, e_m, e_fn⟩ := packF3V_slots 40 d.toNat a.toNat b.toNat m.toNat 0 (by omega) (by omega) (by omega) (by omega) (by omega) (by omega)
  simp only [decodeWord, encode, encodeNat, BitVec.toNat_ofNat]
  rw [e, decodeNat_28 _ e0]
  unfold decodeMajor28
  simp only [e_fn]
  simp [legalIf, e_d, e_a, e_b, e_m, Instr.wellFormed]

theorem vfms (d : BitVec 7) (a : BitVec 7) (b : BitVec 7) (m : BitVec 1) : Statement (.vfms d a b m) := by
  intro _ _
  have hd := d.isLt
  have ha := a.isLt
  have hb := b.isLt
  have hm := m.isLt
  obtain ⟨e, e0, e_d, e_a, e_b, e_m, e_fn⟩ := packF3V_slots 40 d.toNat a.toNat b.toNat m.toNat 1 (by omega) (by omega) (by omega) (by omega) (by omega) (by omega)
  simp only [decodeWord, encode, encodeNat, BitVec.toNat_ofNat]
  rw [e, decodeNat_28 _ e0]
  unfold decodeMajor28
  simp only [e_fn]
  simp [legalIf, e_d, e_a, e_b, e_m, Instr.wellFormed]

theorem vfnma (d : BitVec 7) (a : BitVec 7) (b : BitVec 7) (m : BitVec 1) : Statement (.vfnma d a b m) := by
  intro _ _
  have hd := d.isLt
  have ha := a.isLt
  have hb := b.isLt
  have hm := m.isLt
  obtain ⟨e, e0, e_d, e_a, e_b, e_m, e_fn⟩ := packF3V_slots 40 d.toNat a.toNat b.toNat m.toNat 2 (by omega) (by omega) (by omega) (by omega) (by omega) (by omega)
  simp only [decodeWord, encode, encodeNat, BitVec.toNat_ofNat]
  rw [e, decodeNat_28 _ e0]
  unfold decodeMajor28
  simp only [e_fn]
  simp [legalIf, e_d, e_a, e_b, e_m, Instr.wellFormed]

theorem vfnms (d : BitVec 7) (a : BitVec 7) (b : BitVec 7) (m : BitVec 1) : Statement (.vfnms d a b m) := by
  intro _ _
  have hd := d.isLt
  have ha := a.isLt
  have hb := b.isLt
  have hm := m.isLt
  obtain ⟨e, e0, e_d, e_a, e_b, e_m, e_fn⟩ := packF3V_slots 40 d.toNat a.toNat b.toNat m.toNat 3 (by omega) (by omega) (by omega) (by omega) (by omega) (by omega)
  simp only [decodeWord, encode, encodeNat, BitVec.toNat_ofNat]
  rw [e, decodeNat_28 _ e0]
  unfold decodeMajor28
  simp only [e_fn]
  simp [legalIf, e_d, e_a, e_b, e_m, Instr.wellFormed]

theorem vfmaX (d : BitVec 7) (a : BitVec 7) (b : BitVec 7) (m : BitVec 1) : Statement (.vfmaX d a b m) := by
  intro _ _
  have hd := d.isLt
  have ha := a.isLt
  have hb := b.isLt
  have hm := m.isLt
  obtain ⟨e, e0, e_d, e_a, e_b, e_m, e_fn⟩ := packF3V_slots 40 d.toNat a.toNat b.toNat m.toNat 4 (by omega) (by omega) (by omega) (by omega) (by omega) (by omega)
  simp only [decodeWord, encode, encodeNat, BitVec.toNat_ofNat]
  rw [e, decodeNat_28 _ e0]
  unfold decodeMajor28
  simp only [e_fn]
  simp [legalIf, e_d, e_a, e_b, e_m, Instr.wellFormed]

theorem vfmsX (d : BitVec 7) (a : BitVec 7) (b : BitVec 7) (m : BitVec 1) : Statement (.vfmsX d a b m) := by
  intro _ _
  have hd := d.isLt
  have ha := a.isLt
  have hb := b.isLt
  have hm := m.isLt
  obtain ⟨e, e0, e_d, e_a, e_b, e_m, e_fn⟩ := packF3V_slots 40 d.toNat a.toNat b.toNat m.toNat 5 (by omega) (by omega) (by omega) (by omega) (by omega) (by omega)
  simp only [decodeWord, encode, encodeNat, BitVec.toNat_ofNat]
  rw [e, decodeNat_28 _ e0]
  unfold decodeMajor28
  simp only [e_fn]
  simp [legalIf, e_d, e_a, e_b, e_m, Instr.wellFormed]

theorem vfnmaX (d : BitVec 7) (a : BitVec 7) (b : BitVec 7) (m : BitVec 1) : Statement (.vfnmaX d a b m) := by
  intro _ _
  have hd := d.isLt
  have ha := a.isLt
  have hb := b.isLt
  have hm := m.isLt
  obtain ⟨e, e0, e_d, e_a, e_b, e_m, e_fn⟩ := packF3V_slots 40 d.toNat a.toNat b.toNat m.toNat 6 (by omega) (by omega) (by omega) (by omega) (by omega) (by omega)
  simp only [decodeWord, encode, encodeNat, BitVec.toNat_ofNat]
  rw [e, decodeNat_28 _ e0]
  unfold decodeMajor28
  simp only [e_fn]
  simp [legalIf, e_d, e_a, e_b, e_m, Instr.wellFormed]

theorem vfnmsX (d : BitVec 7) (a : BitVec 7) (b : BitVec 7) (m : BitVec 1) : Statement (.vfnmsX d a b m) := by
  intro _ _
  have hd := d.isLt
  have ha := a.isLt
  have hb := b.isLt
  have hm := m.isLt
  obtain ⟨e, e0, e_d, e_a, e_b, e_m, e_fn⟩ := packF3V_slots 40 d.toNat a.toNat b.toNat m.toNat 7 (by omega) (by omega) (by omega) (by omega) (by omega) (by omega)
  simp only [decodeWord, encode, encodeNat, BitVec.toNat_ofNat]
  rw [e, decodeNat_28 _ e0]
  unfold decodeMajor28
  simp only [e_fn]
  simp [legalIf, e_d, e_a, e_b, e_m, Instr.wellFormed]

theorem vfmaw (d : BitVec 7) (a : BitVec 7) (b : BitVec 7) (m : BitVec 1) : Statement (.vfmaw d a b m) := by
  intro _ _
  have hd := d.isLt
  have ha := a.isLt
  have hb := b.isLt
  have hm := m.isLt
  obtain ⟨e, e0, e_d, e_a, e_b, e_m, e_fn⟩ := packF3V_slots 40 d.toNat a.toNat b.toNat m.toNat 8 (by omega) (by omega) (by omega) (by omega) (by omega) (by omega)
  simp only [decodeWord, encode, encodeNat, BitVec.toNat_ofNat]
  rw [e, decodeNat_28 _ e0]
  unfold decodeMajor28
  simp only [e_fn]
  simp [legalIf, e_d, e_a, e_b, e_m, Instr.wellFormed]

theorem vfmawX (d : BitVec 7) (a : BitVec 7) (b : BitVec 7) (m : BitVec 1) : Statement (.vfmawX d a b m) := by
  intro _ _
  have hd := d.isLt
  have ha := a.isLt
  have hb := b.isLt
  have hm := m.isLt
  obtain ⟨e, e0, e_d, e_a, e_b, e_m, e_fn⟩ := packF3V_slots 40 d.toNat a.toNat b.toNat m.toNat 9 (by omega) (by omega) (by omega) (by omega) (by omega) (by omega)
  simp only [decodeWord, encode, encodeNat, BitVec.toNat_ofNat]
  rw [e, decodeNat_28 _ e0]
  unfold decodeMajor28
  simp only [e_fn]
  simp [legalIf, e_d, e_a, e_b, e_m, Instr.wellFormed]

theorem vmacc (d : BitVec 7) (a : BitVec 7) (b : BitVec 7) (m : BitVec 1) : Statement (.vmacc d a b m) := by
  intro _ _
  have hd := d.isLt
  have ha := a.isLt
  have hb := b.isLt
  have hm := m.isLt
  obtain ⟨e, e0, e_d, e_a, e_b, e_m, e_fn⟩ := packF3V_slots 40 d.toNat a.toNat b.toNat m.toNat 10 (by omega) (by omega) (by omega) (by omega) (by omega) (by omega)
  simp only [decodeWord, encode, encodeNat, BitVec.toNat_ofNat]
  rw [e, decodeNat_28 _ e0]
  unfold decodeMajor28
  simp only [e_fn]
  simp [legalIf, e_d, e_a, e_b, e_m, Instr.wellFormed]

theorem vmaccX (d : BitVec 7) (a : BitVec 7) (b : BitVec 7) (m : BitVec 1) : Statement (.vmaccX d a b m) := by
  intro _ _
  have hd := d.isLt
  have ha := a.isLt
  have hb := b.isLt
  have hm := m.isLt
  obtain ⟨e, e0, e_d, e_a, e_b, e_m, e_fn⟩ := packF3V_slots 40 d.toNat a.toNat b.toNat m.toNat 11 (by omega) (by omega) (by omega) (by omega) (by omega) (by omega)
  simp only [decodeWord, encode, encodeNat, BitVec.toNat_ofNat]
  rw [e, decodeNat_28 _ e0]
  unfold decodeMajor28
  simp only [e_fn]
  simp [legalIf, e_d, e_a, e_b, e_m, Instr.wellFormed]

theorem vseq (p : BitVec 4) (a : BitVec 7) (b : BitVec 7) (m : BitVec 1) : Statement (.vseq p a b m) := by
  intro _ _
  have hp := p.isLt
  have ha := a.isLt
  have hb := b.isLt
  have hm := m.isLt
  obtain ⟨e, e0, e_d, e_a, e_b, e_m, e_fn⟩ := packF3V_slots 41 p.toNat a.toNat b.toNat m.toNat 0 (by omega) (by omega) (by omega) (by omega) (by omega) (by omega)
  simp only [decodeWord, encode, encodeNat, BitVec.toNat_ofNat]
  rw [e, decodeNat_29 _ e0]
  unfold decodeMajor29
  simp only [e_fn]
  simp [legalIf, e_d, e_a, e_b, e_m, Instr.wellFormed] <;> omega

theorem vsne (p : BitVec 4) (a : BitVec 7) (b : BitVec 7) (m : BitVec 1) : Statement (.vsne p a b m) := by
  intro _ _
  have hp := p.isLt
  have ha := a.isLt
  have hb := b.isLt
  have hm := m.isLt
  obtain ⟨e, e0, e_d, e_a, e_b, e_m, e_fn⟩ := packF3V_slots 41 p.toNat a.toNat b.toNat m.toNat 1 (by omega) (by omega) (by omega) (by omega) (by omega) (by omega)
  simp only [decodeWord, encode, encodeNat, BitVec.toNat_ofNat]
  rw [e, decodeNat_29 _ e0]
  unfold decodeMajor29
  simp only [e_fn]
  simp [legalIf, e_d, e_a, e_b, e_m, Instr.wellFormed] <;> omega

theorem vslt (p : BitVec 4) (a : BitVec 7) (b : BitVec 7) (m : BitVec 1) : Statement (.vslt p a b m) := by
  intro _ _
  have hp := p.isLt
  have ha := a.isLt
  have hb := b.isLt
  have hm := m.isLt
  obtain ⟨e, e0, e_d, e_a, e_b, e_m, e_fn⟩ := packF3V_slots 41 p.toNat a.toNat b.toNat m.toNat 2 (by omega) (by omega) (by omega) (by omega) (by omega) (by omega)
  simp only [decodeWord, encode, encodeNat, BitVec.toNat_ofNat]
  rw [e, decodeNat_29 _ e0]
  unfold decodeMajor29
  simp only [e_fn]
  simp [legalIf, e_d, e_a, e_b, e_m, Instr.wellFormed] <;> omega

theorem vsle (p : BitVec 4) (a : BitVec 7) (b : BitVec 7) (m : BitVec 1) : Statement (.vsle p a b m) := by
  intro _ _
  have hp := p.isLt
  have ha := a.isLt
  have hb := b.isLt
  have hm := m.isLt
  obtain ⟨e, e0, e_d, e_a, e_b, e_m, e_fn⟩ := packF3V_slots 41 p.toNat a.toNat b.toNat m.toNat 3 (by omega) (by omega) (by omega) (by omega) (by omega) (by omega)
  simp only [decodeWord, encode, encodeNat, BitVec.toNat_ofNat]
  rw [e, decodeNat_29 _ e0]
  unfold decodeMajor29
  simp only [e_fn]
  simp [legalIf, e_d, e_a, e_b, e_m, Instr.wellFormed] <;> omega

theorem vsltn (p : BitVec 4) (a : BitVec 7) (b : BitVec 7) (m : BitVec 1) : Statement (.vsltn p a b m) := by
  intro _ _
  have hp := p.isLt
  have ha := a.isLt
  have hb := b.isLt
  have hm := m.isLt
  obtain ⟨e, e0, e_d, e_a, e_b, e_m, e_fn⟩ := packF3V_slots 41 p.toNat a.toNat b.toNat m.toNat 4 (by omega) (by omega) (by omega) (by omega) (by omega) (by omega)
  simp only [decodeWord, encode, encodeNat, BitVec.toNat_ofNat]
  rw [e, decodeNat_29 _ e0]
  unfold decodeMajor29
  simp only [e_fn]
  simp [legalIf, e_d, e_a, e_b, e_m, Instr.wellFormed] <;> omega

theorem vslen (p : BitVec 4) (a : BitVec 7) (b : BitVec 7) (m : BitVec 1) : Statement (.vslen p a b m) := by
  intro _ _
  have hp := p.isLt
  have ha := a.isLt
  have hb := b.isLt
  have hm := m.isLt
  obtain ⟨e, e0, e_d, e_a, e_b, e_m, e_fn⟩ := packF3V_slots 41 p.toNat a.toNat b.toNat m.toNat 5 (by omega) (by omega) (by omega) (by omega) (by omega) (by omega)
  simp only [decodeWord, encode, encodeNat, BitVec.toNat_ofNat]
  rw [e, decodeNat_29 _ e0]
  unfold decodeMajor29
  simp only [e_fn]
  simp [legalIf, e_d, e_a, e_b, e_m, Instr.wellFormed] <;> omega

theorem vfeq (p : BitVec 4) (a : BitVec 7) (b : BitVec 7) (m : BitVec 1) : Statement (.vfeq p a b m) := by
  intro _ _
  have hp := p.isLt
  have ha := a.isLt
  have hb := b.isLt
  have hm := m.isLt
  obtain ⟨e, e0, e_d, e_a, e_b, e_m, e_fn⟩ := packF3V_slots 41 p.toNat a.toNat b.toNat m.toNat 6 (by omega) (by omega) (by omega) (by omega) (by omega) (by omega)
  simp only [decodeWord, encode, encodeNat, BitVec.toNat_ofNat]
  rw [e, decodeNat_29 _ e0]
  unfold decodeMajor29
  simp only [e_fn]
  simp [legalIf, e_d, e_a, e_b, e_m, Instr.wellFormed] <;> omega

theorem vfne (p : BitVec 4) (a : BitVec 7) (b : BitVec 7) (m : BitVec 1) : Statement (.vfne p a b m) := by
  intro _ _
  have hp := p.isLt
  have ha := a.isLt
  have hb := b.isLt
  have hm := m.isLt
  obtain ⟨e, e0, e_d, e_a, e_b, e_m, e_fn⟩ := packF3V_slots 41 p.toNat a.toNat b.toNat m.toNat 7 (by omega) (by omega) (by omega) (by omega) (by omega) (by omega)
  simp only [decodeWord, encode, encodeNat, BitVec.toNat_ofNat]
  rw [e, decodeNat_29 _ e0]
  unfold decodeMajor29
  simp only [e_fn]
  simp [legalIf, e_d, e_a, e_b, e_m, Instr.wellFormed] <;> omega

theorem vflt (p : BitVec 4) (a : BitVec 7) (b : BitVec 7) (m : BitVec 1) : Statement (.vflt p a b m) := by
  intro _ _
  have hp := p.isLt
  have ha := a.isLt
  have hb := b.isLt
  have hm := m.isLt
  obtain ⟨e, e0, e_d, e_a, e_b, e_m, e_fn⟩ := packF3V_slots 41 p.toNat a.toNat b.toNat m.toNat 8 (by omega) (by omega) (by omega) (by omega) (by omega) (by omega)
  simp only [decodeWord, encode, encodeNat, BitVec.toNat_ofNat]
  rw [e, decodeNat_29 _ e0]
  unfold decodeMajor29
  simp only [e_fn]
  simp [legalIf, e_d, e_a, e_b, e_m, Instr.wellFormed] <;> omega

theorem vfle (p : BitVec 4) (a : BitVec 7) (b : BitVec 7) (m : BitVec 1) : Statement (.vfle p a b m) := by
  intro _ _
  have hp := p.isLt
  have ha := a.isLt
  have hb := b.isLt
  have hm := m.isLt
  obtain ⟨e, e0, e_d, e_a, e_b, e_m, e_fn⟩ := packF3V_slots 41 p.toNat a.toNat b.toNat m.toNat 9 (by omega) (by omega) (by omega) (by omega) (by omega) (by omega)
  simp only [decodeWord, encode, encodeNat, BitVec.toNat_ofNat]
  rw [e, decodeNat_29 _ e0]
  unfold decodeMajor29
  simp only [e_fn]
  simp [legalIf, e_d, e_a, e_b, e_m, Instr.wellFormed] <;> omega

theorem vfunord (p : BitVec 4) (a : BitVec 7) (b : BitVec 7) (m : BitVec 1) : Statement (.vfunord p a b m) := by
  intro _ _
  have hp := p.isLt
  have ha := a.isLt
  have hb := b.isLt
  have hm := m.isLt
  obtain ⟨e, e0, e_d, e_a, e_b, e_m, e_fn⟩ := packF3V_slots 41 p.toNat a.toNat b.toNat m.toNat 10 (by omega) (by omega) (by omega) (by omega) (by omega) (by omega)
  simp only [decodeWord, encode, encodeNat, BitVec.toNat_ofNat]
  rw [e, decodeNat_29 _ e0]
  unfold decodeMajor29
  simp only [e_fn]
  simp [legalIf, e_d, e_a, e_b, e_m, Instr.wellFormed] <;> omega

theorem vsltX (p : BitVec 4) (a : BitVec 7) (b : BitVec 7) (m : BitVec 1) : Statement (.vsltX p a b m) := by
  intro _ _
  have hp := p.isLt
  have ha := a.isLt
  have hb := b.isLt
  have hm := m.isLt
  obtain ⟨e, e0, e_d, e_a, e_b, e_m, e_fn⟩ := packF3V_slots 41 p.toNat a.toNat b.toNat m.toNat 11 (by omega) (by omega) (by omega) (by omega) (by omega) (by omega)
  simp only [decodeWord, encode, encodeNat, BitVec.toNat_ofNat]
  rw [e, decodeNat_29 _ e0]
  unfold decodeMajor29
  simp only [e_fn]
  simp [legalIf, e_d, e_a, e_b, e_m, Instr.wellFormed] <;> omega

theorem vsgtX (p : BitVec 4) (a : BitVec 7) (b : BitVec 7) (m : BitVec 1) : Statement (.vsgtX p a b m) := by
  intro _ _
  have hp := p.isLt
  have ha := a.isLt
  have hb := b.isLt
  have hm := m.isLt
  obtain ⟨e, e0, e_d, e_a, e_b, e_m, e_fn⟩ := packF3V_slots 41 p.toNat a.toNat b.toNat m.toNat 12 (by omega) (by omega) (by omega) (by omega) (by omega) (by omega)
  simp only [decodeWord, encode, encodeNat, BitVec.toNat_ofNat]
  rw [e, decodeNat_29 _ e0]
  unfold decodeMajor29
  simp only [e_fn]
  simp [legalIf, e_d, e_a, e_b, e_m, Instr.wellFormed] <;> omega

theorem vfltX (p : BitVec 4) (a : BitVec 7) (b : BitVec 7) (m : BitVec 1) : Statement (.vfltX p a b m) := by
  intro _ _
  have hp := p.isLt
  have ha := a.isLt
  have hb := b.isLt
  have hm := m.isLt
  obtain ⟨e, e0, e_d, e_a, e_b, e_m, e_fn⟩ := packF3V_slots 41 p.toNat a.toNat b.toNat m.toNat 13 (by omega) (by omega) (by omega) (by omega) (by omega) (by omega)
  simp only [decodeWord, encode, encodeNat, BitVec.toNat_ofNat]
  rw [e, decodeNat_29 _ e0]
  unfold decodeMajor29
  simp only [e_fn]
  simp [legalIf, e_d, e_a, e_b, e_m, Instr.wellFormed] <;> omega

theorem vfgtX (p : BitVec 4) (a : BitVec 7) (b : BitVec 7) (m : BitVec 1) : Statement (.vfgtX p a b m) := by
  intro _ _
  have hp := p.isLt
  have ha := a.isLt
  have hb := b.isLt
  have hm := m.isLt
  obtain ⟨e, e0, e_d, e_a, e_b, e_m, e_fn⟩ := packF3V_slots 41 p.toNat a.toNat b.toNat m.toNat 14 (by omega) (by omega) (by omega) (by omega) (by omega) (by omega)
  simp only [decodeWord, encode, encodeNat, BitVec.toNat_ofNat]
  rw [e, decodeNat_29 _ e0]
  unfold decodeMajor29
  simp only [e_fn]
  simp [legalIf, e_d, e_a, e_b, e_m, Instr.wellFormed] <;> omega

theorem vseqX (p : BitVec 4) (a : BitVec 7) (b : BitVec 7) (m : BitVec 1) : Statement (.vseqX p a b m) := by
  intro _ _
  have hp := p.isLt
  have ha := a.isLt
  have hb := b.isLt
  have hm := m.isLt
  obtain ⟨e, e0, e_d, e_a, e_b, e_m, e_fn⟩ := packF3V_slots 41 p.toNat a.toNat b.toNat m.toNat 15 (by omega) (by omega) (by omega) (by omega) (by omega) (by omega)
  simp only [decodeWord, encode, encodeNat, BitVec.toNat_ofNat]
  rw [e, decodeNat_29 _ e0]
  unfold decodeMajor29
  simp only [e_fn]
  simp [legalIf, e_d, e_a, e_b, e_m, Instr.wellFormed] <;> omega

theorem pand (d : BitVec 4) (a : BitVec 4) (b : BitVec 4) : Statement (.pand d a b) := by
  intro _ _
  have hd := d.isLt
  have ha := a.isLt
  have hb := b.isLt
  obtain ⟨e, e0, e_d, e_a, e_b, e_m, e_fn⟩ := packF3V_slots 42 d.toNat a.toNat b.toNat 0 0 (by omega) (by omega) (by omega) (by omega) (by omega) (by omega)
  simp only [decodeWord, encode, encodeNat, BitVec.toNat_ofNat]
  rw [e, decodeNat_2A _ e0]
  unfold decodeMajor2A
  simp only [e_fn]
  simp [legalIf, e_d, e_a, e_b, e_m, Instr.wellFormed] <;> omega

theorem por (d : BitVec 4) (a : BitVec 4) (b : BitVec 4) : Statement (.por d a b) := by
  intro _ _
  have hd := d.isLt
  have ha := a.isLt
  have hb := b.isLt
  obtain ⟨e, e0, e_d, e_a, e_b, e_m, e_fn⟩ := packF3V_slots 42 d.toNat a.toNat b.toNat 0 1 (by omega) (by omega) (by omega) (by omega) (by omega) (by omega)
  simp only [decodeWord, encode, encodeNat, BitVec.toNat_ofNat]
  rw [e, decodeNat_2A _ e0]
  unfold decodeMajor2A
  simp only [e_fn]
  simp [legalIf, e_d, e_a, e_b, e_m, Instr.wellFormed] <;> omega

theorem pxor (d : BitVec 4) (a : BitVec 4) (b : BitVec 4) : Statement (.pxor d a b) := by
  intro _ _
  have hd := d.isLt
  have ha := a.isLt
  have hb := b.isLt
  obtain ⟨e, e0, e_d, e_a, e_b, e_m, e_fn⟩ := packF3V_slots 42 d.toNat a.toNat b.toNat 0 2 (by omega) (by omega) (by omega) (by omega) (by omega) (by omega)
  simp only [decodeWord, encode, encodeNat, BitVec.toNat_ofNat]
  rw [e, decodeNat_2A _ e0]
  unfold decodeMajor2A
  simp only [e_fn]
  simp [legalIf, e_d, e_a, e_b, e_m, Instr.wellFormed] <;> omega

theorem pandn (d : BitVec 4) (a : BitVec 4) (b : BitVec 4) : Statement (.pandn d a b) := by
  intro _ _
  have hd := d.isLt
  have ha := a.isLt
  have hb := b.isLt
  obtain ⟨e, e0, e_d, e_a, e_b, e_m, e_fn⟩ := packF3V_slots 42 d.toNat a.toNat b.toNat 0 3 (by omega) (by omega) (by omega) (by omega) (by omega) (by omega)
  simp only [decodeWord, encode, encodeNat, BitVec.toNat_ofNat]
  rw [e, decodeNat_2A _ e0]
  unfold decodeMajor2A
  simp only [e_fn]
  simp [legalIf, e_d, e_a, e_b, e_m, Instr.wellFormed] <;> omega

theorem pnot (d : BitVec 4) (a : BitVec 4) : Statement (.pnot d a) := by
  intro _ _
  have hd := d.isLt
  have ha := a.isLt
  obtain ⟨e, e0, e_d, e_a, e_b, e_m, e_fn⟩ := packF3V_slots 42 d.toNat a.toNat 0 0 4 (by omega) (by omega) (by omega) (by omega) (by omega) (by omega)
  simp only [decodeWord, encode, encodeNat, BitVec.toNat_ofNat]
  rw [e, decodeNat_2A _ e0]
  unfold decodeMajor2A
  simp only [e_fn]
  simp [legalIf, e_d, e_a, e_b, e_m, Instr.wellFormed] <;> omega

theorem pset (d : BitVec 4) : Statement (.pset d) := by
  intro _ _
  have hd := d.isLt
  obtain ⟨e, e0, e_d, e_a, e_b, e_m, e_fn⟩ := packF3V_slots 42 d.toNat 0 0 0 5 (by omega) (by omega) (by omega) (by omega) (by omega) (by omega)
  simp only [decodeWord, encode, encodeNat, BitVec.toNat_ofNat]
  rw [e, decodeNat_2A _ e0]
  unfold decodeMajor2A
  simp only [e_fn]
  simp [legalIf, e_d, e_a, e_b, e_m, Instr.wellFormed] <;> omega

theorem pclr (d : BitVec 4) : Statement (.pclr d) := by
  intro _ _
  have hd := d.isLt
  obtain ⟨e, e0, e_d, e_a, e_b, e_m, e_fn⟩ := packF3V_slots 42 d.toNat 0 0 0 6 (by omega) (by omega) (by omega) (by omega) (by omega) (by omega)
  simp only [decodeWord, encode, encodeNat, BitVec.toNat_ofNat]
  rw [e, decodeNat_2A _ e0]
  unfold decodeMajor2A
  simp only [e_fn]
  simp [legalIf, e_d, e_a, e_b, e_m, Instr.wellFormed] <;> omega

theorem pcut (d : BitVec 4) (a : BitVec 4) (b : BitVec 4) : Statement (.pcut d a b) := by
  intro _ _
  have hd := d.isLt
  have ha := a.isLt
  have hb := b.isLt
  obtain ⟨e, e0, e_d, e_a, e_b, e_m, e_fn⟩ := packF3V_slots 42 d.toNat a.toNat b.toNat 0 7 (by omega) (by omega) (by omega) (by omega) (by omega) (by omega)
  simp only [decodeWord, encode, encodeNat, BitVec.toNat_ofNat]
  rw [e, decodeNat_2A _ e0]
  unfold decodeMajor2A
  simp only [e_fn]
  simp [legalIf, e_d, e_a, e_b, e_m, Instr.wellFormed] <;> omega

theorem pcuti (d : BitVec 4) (a : BitVec 4) (b : BitVec 4) : Statement (.pcuti d a b) := by
  intro _ _
  have hd := d.isLt
  have ha := a.isLt
  have hb := b.isLt
  obtain ⟨e, e0, e_d, e_a, e_b, e_m, e_fn⟩ := packF3V_slots 42 d.toNat a.toNat b.toNat 0 8 (by omega) (by omega) (by omega) (by omega) (by omega) (by omega)
  simp only [decodeWord, encode, encodeNat, BitVec.toNat_ofNat]
  rw [e, decodeNat_2A _ e0]
  unfold decodeMajor2A
  simp only [e_fn]
  simp [legalIf, e_d, e_a, e_b, e_m, Instr.wellFormed] <;> omega

theorem ppop (d : BitVec 7) (a : BitVec 4) : Statement (.ppop d a) := by
  intro _ _
  have hd := d.isLt
  have ha := a.isLt
  obtain ⟨e, e0, e_d, e_a, e_b, e_m, e_fn⟩ := packF3V_slots 42 d.toNat a.toNat 0 0 9 (by omega) (by omega) (by omega) (by omega) (by omega) (by omega)
  simp only [decodeWord, encode, encodeNat, BitVec.toNat_ofNat]
  rw [e, decodeNat_2A _ e0]
  unfold decodeMajor2A
  simp only [e_fn]
  simp [legalIf, e_d, e_a, e_b, e_m, Instr.wellFormed] <;> omega

theorem pfirst (d : BitVec 7) (a : BitVec 4) : Statement (.pfirst d a) := by
  intro _ _
  have hd := d.isLt
  have ha := a.isLt
  obtain ⟨e, e0, e_d, e_a, e_b, e_m, e_fn⟩ := packF3V_slots 42 d.toNat a.toNat 0 0 10 (by omega) (by omega) (by omega) (by omega) (by omega) (by omega)
  simp only [decodeWord, encode, encodeNat, BitVec.toNat_ofNat]
  rw [e, decodeNat_2A _ e0]
  unfold decodeMajor2A
  simp only [e_fn]
  simp [legalIf, e_d, e_a, e_b, e_m, Instr.wellFormed] <;> omega

theorem pfromv (d : BitVec 4) (a : BitVec 7) : Statement (.pfromv d a) := by
  intro _ _
  have hd := d.isLt
  have ha := a.isLt
  obtain ⟨e, e0, e_d, e_a, e_b, e_m, e_fn⟩ := packF3V_slots 42 d.toNat a.toNat 0 0 11 (by omega) (by omega) (by omega) (by omega) (by omega) (by omega)
  simp only [decodeWord, encode, encodeNat, BitVec.toNat_ofNat]
  rw [e, decodeNat_2A _ e0]
  unfold decodeMajor2A
  simp only [e_fn]
  simp [legalIf, e_d, e_a, e_b, e_m, Instr.wellFormed] <;> omega

theorem ptov (d : BitVec 7) (a : BitVec 4) : Statement (.ptov d a) := by
  intro _ _
  have hd := d.isLt
  have ha := a.isLt
  obtain ⟨e, e0, e_d, e_a, e_b, e_m, e_fn⟩ := packF3V_slots 42 d.toNat a.toNat 0 0 12 (by omega) (by omega) (by omega) (by omega) (by omega) (by omega)
  simp only [decodeWord, encode, encodeNat, BitVec.toNat_ofNat]
  rw [e, decodeNat_2A _ e0]
  unfold decodeMajor2A
  simp only [e_fn]
  simp [legalIf, e_d, e_a, e_b, e_m, Instr.wellFormed] <;> omega

theorem vslideup (d : BitVec 7) (a : BitVec 7) (b : BitVec 7) (m : BitVec 1) : Statement (.vslideup d a b m) := by
  intro _ _
  have hd := d.isLt
  have ha := a.isLt
  have hb := b.isLt
  have hm := m.isLt
  obtain ⟨e, e0, e_d, e_a, e_b, e_m, e_fn⟩ := packF3V_slots 43 d.toNat a.toNat b.toNat m.toNat 0 (by omega) (by omega) (by omega) (by omega) (by omega) (by omega)
  simp only [decodeWord, encode, encodeNat, BitVec.toNat_ofNat]
  rw [e, decodeNat_2B _ e0]
  unfold decodeMajor2B
  simp only [e_fn]
  simp [legalIf, e_d, e_a, e_b, e_m, Instr.wellFormed]

theorem vslidedn (d : BitVec 7) (a : BitVec 7) (b : BitVec 7) (m : BitVec 1) : Statement (.vslidedn d a b m) := by
  intro _ _
  have hd := d.isLt
  have ha := a.isLt
  have hb := b.isLt
  have hm := m.isLt
  obtain ⟨e, e0, e_d, e_a, e_b, e_m, e_fn⟩ := packF3V_slots 43 d.toNat a.toNat b.toNat m.toNat 1 (by omega) (by omega) (by omega) (by omega) (by omega) (by omega)
  simp only [decodeWord, encode, encodeNat, BitVec.toNat_ofNat]
  rw [e, decodeNat_2B _ e0]
  unfold decodeMajor2B
  simp only [e_fn]
  simp [legalIf, e_d, e_a, e_b, e_m, Instr.wellFormed]

theorem vslide1up (d : BitVec 7) (a : BitVec 7) (b : BitVec 7) (m : BitVec 1) : Statement (.vslide1up d a b m) := by
  intro _ _
  have hd := d.isLt
  have ha := a.isLt
  have hb := b.isLt
  have hm := m.isLt
  obtain ⟨e, e0, e_d, e_a, e_b, e_m, e_fn⟩ := packF3V_slots 43 d.toNat a.toNat b.toNat m.toNat 2 (by omega) (by omega) (by omega) (by omega) (by omega) (by omega)
  simp only [decodeWord, encode, encodeNat, BitVec.toNat_ofNat]
  rw [e, decodeNat_2B _ e0]
  unfold decodeMajor2B
  simp only [e_fn]
  simp [legalIf, e_d, e_a, e_b, e_m, Instr.wellFormed]

theorem vslide1dn (d : BitVec 7) (a : BitVec 7) (b : BitVec 7) (m : BitVec 1) : Statement (.vslide1dn d a b m) := by
  intro _ _
  have hd := d.isLt
  have ha := a.isLt
  have hb := b.isLt
  have hm := m.isLt
  obtain ⟨e, e0, e_d, e_a, e_b, e_m, e_fn⟩ := packF3V_slots 43 d.toNat a.toNat b.toNat m.toNat 3 (by omega) (by omega) (by omega) (by omega) (by omega) (by omega)
  simp only [decodeWord, encode, encodeNat, BitVec.toNat_ofNat]
  rw [e, decodeNat_2B _ e0]
  unfold decodeMajor2B
  simp only [e_fn]
  simp [legalIf, e_d, e_a, e_b, e_m, Instr.wellFormed]

theorem vpermi (d : BitVec 7) (a : BitVec 7) (b : BitVec 7) (m : BitVec 1) : Statement (.vpermi d a b m) := by
  intro _ _
  have hd := d.isLt
  have ha := a.isLt
  have hb := b.isLt
  have hm := m.isLt
  obtain ⟨e, e0, e_d, e_a, e_b, e_m, e_fn⟩ := packF3V_slots 43 d.toNat a.toNat b.toNat m.toNat 4 (by omega) (by omega) (by omega) (by omega) (by omega) (by omega)
  simp only [decodeWord, encode, encodeNat, BitVec.toNat_ofNat]
  rw [e, decodeNat_2B _ e0]
  unfold decodeMajor2B
  simp only [e_fn]
  simp [legalIf, e_d, e_a, e_b, e_m, Instr.wellFormed]

theorem vcompress (d : BitVec 7) (a : BitVec 7) (b : BitVec 4) : Statement (.vcompress d a b) := by
  intro _ _
  have hd := d.isLt
  have ha := a.isLt
  have hb := b.isLt
  obtain ⟨e, e0, e_d, e_a, e_b, e_m, e_fn⟩ := packF3V_slots 43 d.toNat a.toNat b.toNat 0 5 (by omega) (by omega) (by omega) (by omega) (by omega) (by omega)
  simp only [decodeWord, encode, encodeNat, BitVec.toNat_ofNat]
  rw [e, decodeNat_2B _ e0]
  unfold decodeMajor2B
  simp only [e_fn]
  simp [legalIf, e_d, e_a, e_b, e_m, Instr.wellFormed] <;> omega

theorem vexpand (d : BitVec 7) (a : BitVec 7) (b : BitVec 4) : Statement (.vexpand d a b) := by
  intro _ _
  have hd := d.isLt
  have ha := a.isLt
  have hb := b.isLt
  obtain ⟨e, e0, e_d, e_a, e_b, e_m, e_fn⟩ := packF3V_slots 43 d.toNat a.toNat b.toNat 0 6 (by omega) (by omega) (by omega) (by omega) (by omega) (by omega)
  simp only [decodeWord, encode, encodeNat, BitVec.toNat_ofNat]
  rw [e, decodeNat_2B _ e0]
  unfold decodeMajor2B
  simp only [e_fn]
  simp [legalIf, e_d, e_a, e_b, e_m, Instr.wellFormed] <;> omega

theorem vmerge (d : BitVec 7) (a : BitVec 7) (b : BitVec 7) : Statement (.vmerge d a b) := by
  intro _ _
  have hd := d.isLt
  have ha := a.isLt
  have hb := b.isLt
  obtain ⟨e, e0, e_d, e_a, e_b, e_m, e_fn⟩ := packF3V_slots 43 d.toNat a.toNat b.toNat 0 7 (by omega) (by omega) (by omega) (by omega) (by omega) (by omega)
  simp only [decodeWord, encode, encodeNat, BitVec.toNat_ofNat]
  rw [e, decodeNat_2B _ e0]
  unfold decodeMajor2B
  simp only [e_fn]
  simp [legalIf, e_d, e_a, e_b, e_m, Instr.wellFormed]

theorem vsplat (d : BitVec 7) (a : BitVec 7) (m : BitVec 1) : Statement (.vsplat d a m) := by
  intro _ _
  have hd := d.isLt
  have ha := a.isLt
  have hm := m.isLt
  obtain ⟨e, e0, e_d, e_a, e_b, e_m, e_fn⟩ := packF3V_slots 43 d.toNat a.toNat 0 m.toNat 8 (by omega) (by omega) (by omega) (by omega) (by omega) (by omega)
  simp only [decodeWord, encode, encodeNat, BitVec.toNat_ofNat]
  rw [e, decodeNat_2B _ e0]
  unfold decodeMajor2B
  simp only [e_fn]
  simp [legalIf, e_d, e_a, e_b, e_m, Instr.wellFormed]

theorem vmvxs (d : BitVec 7) (a : BitVec 7) (b : BitVec 7) : Statement (.vmvxs d a b) := by
  intro _ _
  have hd := d.isLt
  have ha := a.isLt
  have hb := b.isLt
  obtain ⟨e, e0, e_d, e_a, e_b, e_m, e_fn⟩ := packF3V_slots 43 d.toNat a.toNat b.toNat 0 9 (by omega) (by omega) (by omega) (by omega) (by omega) (by omega)
  simp only [decodeWord, encode, encodeNat, BitVec.toNat_ofNat]
  rw [e, decodeNat_2B _ e0]
  unfold decodeMajor2B
  simp only [e_fn]
  simp [legalIf, e_d, e_a, e_b, e_m, Instr.wellFormed]

theorem vrowbc (d : BitVec 7) (a : BitVec 7) (b : BitVec 7) : Statement (.vrowbc d a b) := by
  intro _ _
  have hd := d.isLt
  have ha := a.isLt
  have hb := b.isLt
  obtain ⟨e, e0, e_d, e_a, e_b, e_m, e_fn⟩ := packF3V_slots 43 d.toNat a.toNat b.toNat 0 10 (by omega) (by omega) (by omega) (by omega) (by omega) (by omega)
  simp only [decodeWord, encode, encodeNat, BitVec.toNat_ofNat]
  rw [e, decodeNat_2B _ e0]
  unfold decodeMajor2B
  simp only [e_fn]
  simp [legalIf, e_d, e_a, e_b, e_m, Instr.wellFormed]

theorem vtrans (d : BitVec 7) (a : BitVec 7) : Statement (.vtrans d a) := by
  intro _ _
  have hd := d.isLt
  have ha := a.isLt
  obtain ⟨e, e0, e_d, e_a, e_b, e_m, e_fn⟩ := packF3V_slots 43 d.toNat a.toNat 0 0 11 (by omega) (by omega) (by omega) (by omega) (by omega) (by omega)
  simp only [decodeWord, encode, encodeNat, BitVec.toNat_ofNat]
  rw [e, decodeNat_2B _ e0]
  unfold decodeMajor2B
  simp only [e_fn]
  simp [legalIf, e_d, e_a, e_b, e_m, Instr.wellFormed]

theorem vredo (d : BitVec 7) (a : BitVec 7) (b : BitVec 7) (m : BitVec 1) : Statement (.vredo d a b m) := by
  intro _ _
  have hd := d.isLt
  have ha := a.isLt
  have hb := b.isLt
  have hm := m.isLt
  obtain ⟨e, e0, e_d, e_a, e_b, e_m, e_fn⟩ := packF3V_slots 44 d.toNat a.toNat b.toNat m.toNat 0 (by omega) (by omega) (by omega) (by omega) (by omega) (by omega)
  simp only [decodeWord, encode, encodeNat, BitVec.toNat_ofNat]
  rw [e, decodeNat_2C _ e0]
  unfold decodeMajor2C
  simp only [e_fn]
  simp [legalIf, e_d, e_a, e_b, e_m, Instr.wellFormed]

theorem vredt (d : BitVec 7) (a : BitVec 7) (b : BitVec 7) (m : BitVec 1) : Statement (.vredt d a b m) := by
  intro _ _
  have hd := d.isLt
  have ha := a.isLt
  have hb := b.isLt
  have hm := m.isLt
  obtain ⟨e, e0, e_d, e_a, e_b, e_m, e_fn⟩ := packF3V_slots 44 d.toNat a.toNat b.toNat m.toNat 1 (by omega) (by omega) (by omega) (by omega) (by omega) (by omega)
  simp only [decodeWord, encode, encodeNat, BitVec.toNat_ofNat]
  rw [e, decodeNat_2C _ e0]
  unfold decodeMajor2C
  simp only [e_fn]
  simp [legalIf, e_d, e_a, e_b, e_m, Instr.wellFormed]

theorem vredu (d : BitVec 7) (a : BitVec 7) (b : BitVec 7) (m : BitVec 1) : Statement (.vredu d a b m) := by
  intro _ _
  have hd := d.isLt
  have ha := a.isLt
  have hb := b.isLt
  have hm := m.isLt
  obtain ⟨e, e0, e_d, e_a, e_b, e_m, e_fn⟩ := packF3V_slots 44 d.toNat a.toNat b.toNat m.toNat 2 (by omega) (by omega) (by omega) (by omega) (by omega) (by omega)
  simp only [decodeWord, encode, encodeNat, BitVec.toNat_ofNat]
  rw [e, decodeNat_2C _ e0]
  unfold decodeMajor2C
  simp only [e_fn]
  simp [legalIf, e_d, e_a, e_b, e_m, Instr.wellFormed]

theorem vfredmin (d : BitVec 7) (a : BitVec 7) (b : BitVec 7) (m : BitVec 1) : Statement (.vfredmin d a b m) := by
  intro _ _
  have hd := d.isLt
  have ha := a.isLt
  have hb := b.isLt
  have hm := m.isLt
  obtain ⟨e, e0, e_d, e_a, e_b, e_m, e_fn⟩ := packF3V_slots 44 d.toNat a.toNat b.toNat m.toNat 3 (by omega) (by omega) (by omega) (by omega) (by omega) (by omega)
  simp only [decodeWord, encode, encodeNat, BitVec.toNat_ofNat]
  rw [e, decodeNat_2C _ e0]
  unfold decodeMajor2C
  simp only [e_fn]
  simp [legalIf, e_d, e_a, e_b, e_m, Instr.wellFormed]

theorem vfredmax (d : BitVec 7) (a : BitVec 7) (b : BitVec 7) (m : BitVec 1) : Statement (.vfredmax d a b m) := by
  intro _ _
  have hd := d.isLt
  have ha := a.isLt
  have hb := b.isLt
  have hm := m.isLt
  obtain ⟨e, e0, e_d, e_a, e_b, e_m, e_fn⟩ := packF3V_slots 44 d.toNat a.toNat b.toNat m.toNat 4 (by omega) (by omega) (by omega) (by omega) (by omega) (by omega)
  simp only [decodeWord, encode, encodeNat, BitVec.toNat_ofNat]
  rw [e, decodeNat_2C _ e0]
  unfold decodeMajor2C
  simp only [e_fn]
  simp [legalIf, e_d, e_a, e_b, e_m, Instr.wellFormed]

theorem vredsum (d : BitVec 7) (a : BitVec 7) (b : BitVec 7) (m : BitVec 1) : Statement (.vredsum d a b m) := by
  intro _ _
  have hd := d.isLt
  have ha := a.isLt
  have hb := b.isLt
  have hm := m.isLt
  obtain ⟨e, e0, e_d, e_a, e_b, e_m, e_fn⟩ := packF3V_slots 44 d.toNat a.toNat b.toNat m.toNat 5 (by omega) (by omega) (by omega) (by omega) (by omega) (by omega)
  simp only [decodeWord, encode, encodeNat, BitVec.toNat_ofNat]
  rw [e, decodeNat_2C _ e0]
  unfold decodeMajor2C
  simp only [e_fn]
  simp [legalIf, e_d, e_a, e_b, e_m, Instr.wellFormed]

theorem vredmin (d : BitVec 7) (a : BitVec 7) (b : BitVec 7) (m : BitVec 1) : Statement (.vredmin d a b m) := by
  intro _ _
  have hd := d.isLt
  have ha := a.isLt
  have hb := b.isLt
  have hm := m.isLt
  obtain ⟨e, e0, e_d, e_a, e_b, e_m, e_fn⟩ := packF3V_slots 44 d.toNat a.toNat b.toNat m.toNat 6 (by omega) (by omega) (by omega) (by omega) (by omega) (by omega)
  simp only [decodeWord, encode, encodeNat, BitVec.toNat_ofNat]
  rw [e, decodeNat_2C _ e0]
  unfold decodeMajor2C
  simp only [e_fn]
  simp [legalIf, e_d, e_a, e_b, e_m, Instr.wellFormed]

theorem vredmax (d : BitVec 7) (a : BitVec 7) (b : BitVec 7) (m : BitVec 1) : Statement (.vredmax d a b m) := by
  intro _ _
  have hd := d.isLt
  have ha := a.isLt
  have hb := b.isLt
  have hm := m.isLt
  obtain ⟨e, e0, e_d, e_a, e_b, e_m, e_fn⟩ := packF3V_slots 44 d.toNat a.toNat b.toNat m.toNat 7 (by omega) (by omega) (by omega) (by omega) (by omega) (by omega)
  simp only [decodeWord, encode, encodeNat, BitVec.toNat_ofNat]
  rw [e, decodeNat_2C _ e0]
  unfold decodeMajor2C
  simp only [e_fn]
  simp [legalIf, e_d, e_a, e_b, e_m, Instr.wellFormed]

theorem vscano (d : BitVec 7) (a : BitVec 7) (b : BitVec 7) (m : BitVec 1) : Statement (.vscano d a b m) := by
  intro _ _
  have hd := d.isLt
  have ha := a.isLt
  have hb := b.isLt
  have hm := m.isLt
  obtain ⟨e, e0, e_d, e_a, e_b, e_m, e_fn⟩ := packF3V_slots 44 d.toNat a.toNat b.toNat m.toNat 8 (by omega) (by omega) (by omega) (by omega) (by omega) (by omega)
  simp only [decodeWord, encode, encodeNat, BitVec.toNat_ofNat]
  rw [e, decodeNat_2C _ e0]
  unfold decodeMajor2C
  simp only [e_fn]
  simp [legalIf, e_d, e_a, e_b, e_m, Instr.wellFormed]

theorem vscant (d : BitVec 7) (a : BitVec 7) (b : BitVec 7) (m : BitVec 1) : Statement (.vscant d a b m) := by
  intro _ _
  have hd := d.isLt
  have ha := a.isLt
  have hb := b.isLt
  have hm := m.isLt
  obtain ⟨e, e0, e_d, e_a, e_b, e_m, e_fn⟩ := packF3V_slots 44 d.toNat a.toNat b.toNat m.toNat 9 (by omega) (by omega) (by omega) (by omega) (by omega) (by omega)
  simp only [decodeWord, encode, encodeNat, BitVec.toNat_ofNat]
  rw [e, decodeNat_2C _ e0]
  unfold decodeMajor2C
  simp only [e_fn]
  simp [legalIf, e_d, e_a, e_b, e_m, Instr.wellFormed]

theorem vscanu (d : BitVec 7) (a : BitVec 7) (b : BitVec 7) (m : BitVec 1) : Statement (.vscanu d a b m) := by
  intro _ _
  have hd := d.isLt
  have ha := a.isLt
  have hb := b.isLt
  have hm := m.isLt
  obtain ⟨e, e0, e_d, e_a, e_b, e_m, e_fn⟩ := packF3V_slots 44 d.toNat a.toNat b.toNat m.toNat 10 (by omega) (by omega) (by omega) (by omega) (by omega) (by omega)
  simp only [decodeWord, encode, encodeNat, BitVec.toNat_ofNat]
  rw [e, decodeNat_2C _ e0]
  unfold decodeMajor2C
  simp only [e_fn]
  simp [legalIf, e_d, e_a, e_b, e_m, Instr.wellFormed]

theorem viscan (d : BitVec 7) (a : BitVec 7) (b : BitVec 7) (m : BitVec 1) : Statement (.viscan d a b m) := by
  intro _ _
  have hd := d.isLt
  have ha := a.isLt
  have hb := b.isLt
  have hm := m.isLt
  obtain ⟨e, e0, e_d, e_a, e_b, e_m, e_fn⟩ := packF3V_slots 44 d.toNat a.toNat b.toNat m.toNat 11 (by omega) (by omega) (by omega) (by omega) (by omega) (by omega)
  simp only [decodeWord, encode, encodeNat, BitVec.toNat_ofNat]
  rw [e, decodeNat_2C _ e0]
  unfold decodeMajor2C
  simp only [e_fn]
  simp [legalIf, e_d, e_a, e_b, e_m, Instr.wellFormed]

theorem vredand (d : BitVec 7) (a : BitVec 7) (b : BitVec 7) (m : BitVec 1) : Statement (.vredand d a b m) := by
  intro _ _
  have hd := d.isLt
  have ha := a.isLt
  have hb := b.isLt
  have hm := m.isLt
  obtain ⟨e, e0, e_d, e_a, e_b, e_m, e_fn⟩ := packF3V_slots 44 d.toNat a.toNat b.toNat m.toNat 12 (by omega) (by omega) (by omega) (by omega) (by omega) (by omega)
  simp only [decodeWord, encode, encodeNat, BitVec.toNat_ofNat]
  rw [e, decodeNat_2C _ e0]
  unfold decodeMajor2C
  simp only [e_fn]
  simp [legalIf, e_d, e_a, e_b, e_m, Instr.wellFormed]

theorem vredor (d : BitVec 7) (a : BitVec 7) (b : BitVec 7) (m : BitVec 1) : Statement (.vredor d a b m) := by
  intro _ _
  have hd := d.isLt
  have ha := a.isLt
  have hb := b.isLt
  have hm := m.isLt
  obtain ⟨e, e0, e_d, e_a, e_b, e_m, e_fn⟩ := packF3V_slots 44 d.toNat a.toNat b.toNat m.toNat 13 (by omega) (by omega) (by omega) (by omega) (by omega) (by omega)
  simp only [decodeWord, encode, encodeNat, BitVec.toNat_ofNat]
  rw [e, decodeNat_2C _ e0]
  unfold decodeMajor2C
  simp only [e_fn]
  simp [legalIf, e_d, e_a, e_b, e_m, Instr.wellFormed]

theorem vredrow (d : BitVec 7) (a : BitVec 7) (b : BitVec 7) (m : BitVec 1) : Statement (.vredrow d a b m) := by
  intro _ _
  have hd := d.isLt
  have ha := a.isLt
  have hb := b.isLt
  have hm := m.isLt
  obtain ⟨e, e0, e_d, e_a, e_b, e_m, e_fn⟩ := packF3V_slots 44 d.toNat a.toNat b.toNat m.toNat 14 (by omega) (by omega) (by omega) (by omega) (by omega) (by omega)
  simp only [decodeWord, encode, encodeNat, BitVec.toNat_ofNat]
  rw [e, decodeNat_2C _ e0]
  unfold decodeMajor2C
  simp only [e_fn]
  simp [legalIf, e_d, e_a, e_b, e_m, Instr.wellFormed]

theorem vcvtf (d : BitVec 7) (a : BitVec 7) (c : BitVec 7) (m : BitVec 1) : Statement (.vcvtf d a c m) := by
  intro h _
  have hd := d.isLt
  have ha := a.isLt
  have hc := c.isLt
  have hm := m.isLt
  simp only [Instr.wellFormed, decide_eq_true_eq] at h
  obtain ⟨e, e0, e_d, e_a, e_b, e_m, e_fn⟩ := packF3V_slots 45 d.toNat a.toNat c.toNat m.toNat 0 (by omega) (by omega) (by omega) (by omega) (by omega) (by omega)
  simp only [decodeWord, encode, encodeNat, BitVec.toNat_ofNat]
  rw [e, decodeNat_2D _ e0]
  unfold decodeMajor2D
  simp only [e_fn]
  simp [legalIf, e_d, e_a, e_b, e_m, Instr.wellFormed, h]

theorem vcvtfi (d : BitVec 7) (a : BitVec 7) (c : BitVec 7) (m : BitVec 1) : Statement (.vcvtfi d a c m) := by
  intro h _
  have hd := d.isLt
  have ha := a.isLt
  have hc := c.isLt
  have hm := m.isLt
  simp only [Instr.wellFormed, decide_eq_true_eq] at h
  obtain ⟨e, e0, e_d, e_a, e_b, e_m, e_fn⟩ := packF3V_slots 45 d.toNat a.toNat c.toNat m.toNat 1 (by omega) (by omega) (by omega) (by omega) (by omega) (by omega)
  simp only [decodeWord, encode, encodeNat, BitVec.toNat_ofNat]
  rw [e, decodeNat_2D _ e0]
  unfold decodeMajor2D
  simp only [e_fn]
  simp [legalIf, e_d, e_a, e_b, e_m, Instr.wellFormed, h]

theorem vcvtif (d : BitVec 7) (a : BitVec 7) (c : BitVec 7) (m : BitVec 1) : Statement (.vcvtif d a c m) := by
  intro h _
  have hd := d.isLt
  have ha := a.isLt
  have hc := c.isLt
  have hm := m.isLt
  simp only [Instr.wellFormed, decide_eq_true_eq] at h
  obtain ⟨e, e0, e_d, e_a, e_b, e_m, e_fn⟩ := packF3V_slots 45 d.toNat a.toNat c.toNat m.toNat 2 (by omega) (by omega) (by omega) (by omega) (by omega) (by omega)
  simp only [decodeWord, encode, encodeNat, BitVec.toNat_ofNat]
  rw [e, decodeNat_2D _ e0]
  unfold decodeMajor2D
  simp only [e_fn]
  simp [legalIf, e_d, e_a, e_b, e_m, Instr.wellFormed, h]

theorem vqnt (d : BitVec 7) (a : BitVec 7) (c : BitVec 7) (m : BitVec 1) : Statement (.vqnt d a c m) := by
  intro h _
  have hd := d.isLt
  have ha := a.isLt
  have hc := c.isLt
  have hm := m.isLt
  simp only [Instr.wellFormed, decide_eq_true_eq] at h
  obtain ⟨e, e0, e_d, e_a, e_b, e_m, e_fn⟩ := packF3V_slots 45 d.toNat a.toNat c.toNat m.toNat 3 (by omega) (by omega) (by omega) (by omega) (by omega) (by omega)
  simp only [decodeWord, encode, encodeNat, BitVec.toNat_ofNat]
  rw [e, decodeNat_2D _ e0]
  unfold decodeMajor2D
  simp only [e_fn]
  simp [legalIf, e_d, e_a, e_b, e_m, Instr.wellFormed, h]

theorem vdqnt (d : BitVec 7) (a : BitVec 7) (c : BitVec 7) (m : BitVec 1) : Statement (.vdqnt d a c m) := by
  intro h _
  have hd := d.isLt
  have ha := a.isLt
  have hc := c.isLt
  have hm := m.isLt
  simp only [Instr.wellFormed, decide_eq_true_eq] at h
  obtain ⟨e, e0, e_d, e_a, e_b, e_m, e_fn⟩ := packF3V_slots 45 d.toNat a.toNat c.toNat m.toNat 4 (by omega) (by omega) (by omega) (by omega) (by omega) (by omega)
  simp only [decodeWord, encode, encodeNat, BitVec.toNat_ofNat]
  rw [e, decodeNat_2D _ e0]
  unfold decodeMajor2D
  simp only [e_fn]
  simp [legalIf, e_d, e_a, e_b, e_m, Instr.wellFormed, h]

theorem vbscale (d : BitVec 3) (a : BitVec 7) (c : BitVec 7) (m : BitVec 1) : Statement (.vbscale d a c m) := by
  intro h _
  have hd := d.isLt
  have ha := a.isLt
  have hc := c.isLt
  have hm := m.isLt
  simp only [Instr.wellFormed, decide_eq_true_eq] at h
  obtain ⟨e, e0, e_d, e_a, e_b, e_m, e_fn⟩ := packF3V_slots 45 d.toNat a.toNat c.toNat m.toNat 5 (by omega) (by omega) (by omega) (by omega) (by omega) (by omega)
  simp only [decodeWord, encode, encodeNat, BitVec.toNat_ofNat]
  rw [e, decodeNat_2D _ e0]
  unfold decodeMajor2D
  simp only [e_fn]
  simp [legalIf, e_d, e_a, e_b, e_m, Instr.wellFormed, h] <;> omega

theorem vcvti (d : BitVec 7) (a : BitVec 7) (c : BitVec 7) (m : BitVec 1) : Statement (.vcvti d a c m) := by
  intro h _
  have hd := d.isLt
  have ha := a.isLt
  have hc := c.isLt
  have hm := m.isLt
  simp only [Instr.wellFormed, decide_eq_true_eq] at h
  obtain ⟨e, e0, e_d, e_a, e_b, e_m, e_fn⟩ := packF3V_slots 45 d.toNat a.toNat c.toNat m.toNat 6 (by omega) (by omega) (by omega) (by omega) (by omega) (by omega)
  simp only [decodeWord, encode, encodeNat, BitVec.toNat_ofNat]
  rw [e, decodeNat_2D _ e0]
  unfold decodeMajor2D
  simp only [e_fn]
  simp [legalIf, e_d, e_a, e_b, e_m, Instr.wellFormed, h]

theorem vindex (d : BitVec 7) (m : BitVec 1) (s : BitVec 9) (p : BitVec 9) : Statement (.vindex d m s p) := by
  intro _ _
  have hd := d.isLt
  have hm := m.isLt
  have hs := s.isLt
  have hp := p.isLt
  obtain ⟨e, e0, e_d, e_m, e_s, e_p⟩ := packFX_slots 46 d.toNat m.toNat s.toNat p.toNat (by omega) (by omega) (by omega) (by omega) (by omega)
  simp only [decodeWord, encode, encodeNat, BitVec.toNat_ofNat]
  rw [e, decodeNat_2E _ e0]
  unfold decodeMajor2E
  simp [legalIf, e_d, e_m, e_s, e_p, Instr.wellFormed]

theorem vld (d : BitVec 7) (a : BitVec 7) (k : BitVec 3) (m : BitVec 1) : Statement (.vld d a k m) := by
  intro _ _
  have hd := d.isLt
  have ha := a.isLt
  have hk := k.isLt
  have hm := m.isLt
  obtain ⟨e, e0, e_d, e_a, e_b, e_m, e_fn⟩ := packF3V_slots 47 d.toNat a.toNat (k.toNat * 8) m.toNat 0 (by omega) (by omega) (by omega) (by omega) (by omega) (by omega)
  simp only [decodeWord, encode, encodeNat, BitVec.toNat_ofNat]
  rw [e, decodeNat_2F _ e0]
  unfold decodeMajor2F
  simp only [e_fn]
  simp [legalIf, e_d, e_a, e_b, e_m, Instr.wellFormed] <;> omega

theorem vlds (d : BitVec 7) (a : BitVec 7) (b : BitVec 7) (m : BitVec 1) : Statement (.vlds d a b m) := by
  intro _ _
  have hd := d.isLt
  have ha := a.isLt
  have hb := b.isLt
  have hm := m.isLt
  obtain ⟨e, e0, e_d, e_a, e_b, e_m, e_fn⟩ := packF3V_slots 47 d.toNat a.toNat b.toNat m.toNat 1 (by omega) (by omega) (by omega) (by omega) (by omega) (by omega)
  simp only [decodeWord, encode, encodeNat, BitVec.toNat_ofNat]
  rw [e, decodeNat_2F _ e0]
  unfold decodeMajor2F
  simp only [e_fn]
  simp [legalIf, e_d, e_a, e_b, e_m, Instr.wellFormed]

theorem vldff (d : BitVec 7) (a : BitVec 7) (k : BitVec 3) (m : BitVec 1) : Statement (.vldff d a k m) := by
  intro _ _
  have hd := d.isLt
  have ha := a.isLt
  have hk := k.isLt
  have hm := m.isLt
  obtain ⟨e, e0, e_d, e_a, e_b, e_m, e_fn⟩ := packF3V_slots 47 d.toNat a.toNat (k.toNat * 8) m.toNat 2 (by omega) (by omega) (by omega) (by omega) (by omega) (by omega)
  simp only [decodeWord, encode, encodeNat, BitVec.toNat_ofNat]
  rw [e, decodeNat_2F _ e0]
  unfold decodeMajor2F
  simp only [e_fn]
  simp [legalIf, e_d, e_a, e_b, e_m, Instr.wellFormed] <;> omega

theorem vldseg (d : BitVec 7) (a : BitVec 7) (f : BitVec 3) (k : BitVec 3) (m : BitVec 1) : Statement (.vldseg d a f k m) := by
  intro h _
  have hd := d.isLt
  have ha := a.isLt
  have hf := f.isLt
  have hk := k.isLt
  have hm := m.isLt
  simp only [Instr.wellFormed, decide_eq_true_eq] at h
  obtain ⟨e, e0, e_d, e_a, e_b, e_m, e_fn⟩ := packF3V_slots 47 d.toNat a.toNat (k.toNat * 8 + f.toNat) m.toNat 3 (by omega) (by omega) (by omega) (by omega) (by omega) (by omega)
  simp only [decodeWord, encode, encodeNat, BitVec.toNat_ofNat]
  rw [e, decodeNat_2F _ e0]
  unfold decodeMajor2F
  simp only [e_fn]
  have f1 : BitVec.ofNat 3 (k.toNat * 8 + f.toNat) = f := by
    apply BitVec.eq_of_toNat_eq; simp; omega
  have f2 : BitVec.ofNat 3 ((k.toNat * 8 + f.toNat) / 8) = k := by
    apply BitVec.eq_of_toNat_eq; simp; omega
  have f3 : k.toNat * 8 + f.toNat < 64 := by omega
  have f4 : f.toNat % 8 ≠ 0 := by omega
  simp [f1, f2, f3, f4, legalIf, e_d, e_a, e_b, e_m, Instr.wellFormed, h]

theorem vldx (d : BitVec 7) (a : BitVec 7) (b : BitVec 7) (m : BitVec 1) : Statement (.vldx d a b m) := by
  intro _ _
  have hd := d.isLt
  have ha := a.isLt
  have hb := b.isLt
  have hm := m.isLt
  obtain ⟨e, e0, e_d, e_a, e_b, e_m, e_fn⟩ := packF3V_slots 47 d.toNat a.toNat b.toNat m.toNat 4 (by omega) (by omega) (by omega) (by omega) (by omega) (by omega)
  simp only [decodeWord, encode, encodeNat, BitVec.toNat_ofNat]
  rw [e, decodeNat_2F _ e0]
  unfold decodeMajor2F
  simp only [e_fn]
  simp [legalIf, e_d, e_a, e_b, e_m, Instr.wellFormed]

theorem vldrow (d : BitVec 7) (a : BitVec 7) (b : BitVec 7) (m : BitVec 1) : Statement (.vldrow d a b m) := by
  intro _ _
  have hd := d.isLt
  have ha := a.isLt
  have hb := b.isLt
  have hm := m.isLt
  obtain ⟨e, e0, e_d, e_a, e_b, e_m, e_fn⟩ := packF3V_slots 47 d.toNat a.toNat b.toNat m.toNat 5 (by omega) (by omega) (by omega) (by omega) (by omega) (by omega)
  simp only [decodeWord, encode, encodeNat, BitVec.toNat_ofNat]
  rw [e, decodeNat_2F _ e0]
  unfold decodeMajor2F
  simp only [e_fn]
  simp [legalIf, e_d, e_a, e_b, e_m, Instr.wellFormed]

theorem vldbc (d : BitVec 7) (a : BitVec 7) (k : BitVec 3) (m : BitVec 1) : Statement (.vldbc d a k m) := by
  intro _ _
  have hd := d.isLt
  have ha := a.isLt
  have hk := k.isLt
  have hm := m.isLt
  obtain ⟨e, e0, e_d, e_a, e_b, e_m, e_fn⟩ := packF3V_slots 47 d.toNat a.toNat (k.toNat * 8) m.toNat 6 (by omega) (by omega) (by omega) (by omega) (by omega) (by omega)
  simp only [decodeWord, encode, encodeNat, BitVec.toNat_ofNat]
  rw [e, decodeNat_2F _ e0]
  unfold decodeMajor2F
  simp only [e_fn]
  simp [legalIf, e_d, e_a, e_b, e_m, Instr.wellFormed] <;> omega

theorem vst (d : BitVec 7) (a : BitVec 7) (k : BitVec 3) (m : BitVec 1) : Statement (.vst d a k m) := by
  intro _ _
  have hd := d.isLt
  have ha := a.isLt
  have hk := k.isLt
  have hm := m.isLt
  obtain ⟨e, e0, e_d, e_a, e_b, e_m, e_fn⟩ := packF3V_slots 48 d.toNat a.toNat (k.toNat * 8) m.toNat 0 (by omega) (by omega) (by omega) (by omega) (by omega) (by omega)
  simp only [decodeWord, encode, encodeNat, BitVec.toNat_ofNat]
  rw [e, decodeNat_30 _ e0]
  unfold decodeMajor30
  simp only [e_fn]
  simp [legalIf, e_d, e_a, e_b, e_m, Instr.wellFormed] <;> omega

theorem vsts (d : BitVec 7) (a : BitVec 7) (b : BitVec 7) (m : BitVec 1) : Statement (.vsts d a b m) := by
  intro _ _
  have hd := d.isLt
  have ha := a.isLt
  have hb := b.isLt
  have hm := m.isLt
  obtain ⟨e, e0, e_d, e_a, e_b, e_m, e_fn⟩ := packF3V_slots 48 d.toNat a.toNat b.toNat m.toNat 1 (by omega) (by omega) (by omega) (by omega) (by omega) (by omega)
  simp only [decodeWord, encode, encodeNat, BitVec.toNat_ofNat]
  rw [e, decodeNat_30 _ e0]
  unfold decodeMajor30
  simp only [e_fn]
  simp [legalIf, e_d, e_a, e_b, e_m, Instr.wellFormed]

theorem vstseg (d : BitVec 7) (a : BitVec 7) (f : BitVec 3) (k : BitVec 3) (m : BitVec 1) : Statement (.vstseg d a f k m) := by
  intro h _
  have hd := d.isLt
  have ha := a.isLt
  have hf := f.isLt
  have hk := k.isLt
  have hm := m.isLt
  simp only [Instr.wellFormed, decide_eq_true_eq] at h
  obtain ⟨e, e0, e_d, e_a, e_b, e_m, e_fn⟩ := packF3V_slots 48 d.toNat a.toNat (k.toNat * 8 + f.toNat) m.toNat 2 (by omega) (by omega) (by omega) (by omega) (by omega) (by omega)
  simp only [decodeWord, encode, encodeNat, BitVec.toNat_ofNat]
  rw [e, decodeNat_30 _ e0]
  unfold decodeMajor30
  simp only [e_fn]
  have f1 : BitVec.ofNat 3 (k.toNat * 8 + f.toNat) = f := by
    apply BitVec.eq_of_toNat_eq; simp; omega
  have f2 : BitVec.ofNat 3 ((k.toNat * 8 + f.toNat) / 8) = k := by
    apply BitVec.eq_of_toNat_eq; simp; omega
  have f3 : k.toNat * 8 + f.toNat < 64 := by omega
  have f4 : f.toNat % 8 ≠ 0 := by omega
  simp [f1, f2, f3, f4, legalIf, e_d, e_a, e_b, e_m, Instr.wellFormed, h]

theorem vstx (d : BitVec 7) (a : BitVec 7) (b : BitVec 7) (m : BitVec 1) : Statement (.vstx d a b m) := by
  intro _ _
  have hd := d.isLt
  have ha := a.isLt
  have hb := b.isLt
  have hm := m.isLt
  obtain ⟨e, e0, e_d, e_a, e_b, e_m, e_fn⟩ := packF3V_slots 48 d.toNat a.toNat b.toNat m.toNat 3 (by omega) (by omega) (by omega) (by omega) (by omega) (by omega)
  simp only [decodeWord, encode, encodeNat, BitVec.toNat_ofNat]
  rw [e, decodeNat_30 _ e0]
  unfold decodeMajor30
  simp only [e_fn]
  simp [legalIf, e_d, e_a, e_b, e_m, Instr.wellFormed]

theorem vstrow (d : BitVec 7) (a : BitVec 7) (b : BitVec 7) (m : BitVec 1) : Statement (.vstrow d a b m) := by
  intro _ _
  have hd := d.isLt
  have ha := a.isLt
  have hb := b.isLt
  have hm := m.isLt
  obtain ⟨e, e0, e_d, e_a, e_b, e_m, e_fn⟩ := packF3V_slots 48 d.toNat a.toNat b.toNat m.toNat 4 (by omega) (by omega) (by omega) (by omega) (by omega) (by omega)
  simp only [decodeWord, encode, encodeNat, BitVec.toNat_ofNat]
  rw [e, decodeNat_30 _ e0]
  unfold decodeMajor30
  simp only [e_fn]
  simp [legalIf, e_d, e_a, e_b, e_m, Instr.wellFormed]

theorem vstxaddo (d : BitVec 7) (a : BitVec 7) (b : BitVec 7) (m : BitVec 1) : Statement (.vstxaddo d a b m) := by
  intro _ _
  have hd := d.isLt
  have ha := a.isLt
  have hb := b.isLt
  have hm := m.isLt
  obtain ⟨e, e0, e_d, e_a, e_b, e_m, e_fn⟩ := packF3V_slots 48 d.toNat a.toNat b.toNat m.toNat 5 (by omega) (by omega) (by omega) (by omega) (by omega) (by omega)
  simp only [decodeWord, encode, encodeNat, BitVec.toNat_ofNat]
  rw [e, decodeNat_30 _ e0]
  unfold decodeMajor30
  simp only [e_fn]
  simp [legalIf, e_d, e_a, e_b, e_m, Instr.wellFormed]

theorem vstxadd (d : BitVec 7) (a : BitVec 7) (b : BitVec 7) (m : BitVec 1) : Statement (.vstxadd d a b m) := by
  intro _ _
  have hd := d.isLt
  have ha := a.isLt
  have hb := b.isLt
  have hm := m.isLt
  obtain ⟨e, e0, e_d, e_a, e_b, e_m, e_fn⟩ := packF3V_slots 48 d.toNat a.toNat b.toNat m.toNat 6 (by omega) (by omega) (by omega) (by omega) (by omega) (by omega)
  simp only [decodeWord, encode, encodeNat, BitVec.toNat_ofNat]
  rw [e, decodeNat_30 _ e0]
  unfold decodeMajor30
  simp only [e_fn]
  simp [legalIf, e_d, e_a, e_b, e_m, Instr.wellFormed]

theorem vldsh (d : BitVec 7) (a : BitVec 7) (k : BitVec 3) (m : BitVec 1) : Statement (.vldsh d a k m) := by
  intro _ _
  have hd := d.isLt
  have ha := a.isLt
  have hk := k.isLt
  have hm := m.isLt
  obtain ⟨e, e0, e_d, e_a, e_b, e_m, e_fn⟩ := packF3V_slots 49 d.toNat a.toNat (k.toNat * 8) m.toNat 0 (by omega) (by omega) (by omega) (by omega) (by omega) (by omega)
  simp only [decodeWord, encode, encodeNat, BitVec.toNat_ofNat]
  rw [e, decodeNat_31 _ e0]
  unfold decodeMajor31
  simp only [e_fn]
  simp [legalIf, e_d, e_a, e_b, e_m, Instr.wellFormed] <;> omega

theorem vldshs (d : BitVec 7) (a : BitVec 7) (b : BitVec 7) (m : BitVec 1) : Statement (.vldshs d a b m) := by
  intro _ _
  have hd := d.isLt
  have ha := a.isLt
  have hb := b.isLt
  have hm := m.isLt
  obtain ⟨e, e0, e_d, e_a, e_b, e_m, e_fn⟩ := packF3V_slots 49 d.toNat a.toNat b.toNat m.toNat 1 (by omega) (by omega) (by omega) (by omega) (by omega) (by omega)
  simp only [decodeWord, encode, encodeNat, BitVec.toNat_ofNat]
  rw [e, decodeNat_31 _ e0]
  unfold decodeMajor31
  simp only [e_fn]
  simp [legalIf, e_d, e_a, e_b, e_m, Instr.wellFormed]

theorem vldshrow (d : BitVec 7) (a : BitVec 7) (b : BitVec 7) (m : BitVec 1) : Statement (.vldshrow d a b m) := by
  intro _ _
  have hd := d.isLt
  have ha := a.isLt
  have hb := b.isLt
  have hm := m.isLt
  obtain ⟨e, e0, e_d, e_a, e_b, e_m, e_fn⟩ := packF3V_slots 49 d.toNat a.toNat b.toNat m.toNat 2 (by omega) (by omega) (by omega) (by omega) (by omega) (by omega)
  simp only [decodeWord, encode, encodeNat, BitVec.toNat_ofNat]
  rw [e, decodeNat_31 _ e0]
  unfold decodeMajor31
  simp only [e_fn]
  simp [legalIf, e_d, e_a, e_b, e_m, Instr.wellFormed]

theorem vstsh (d : BitVec 7) (a : BitVec 7) (k : BitVec 3) (m : BitVec 1) : Statement (.vstsh d a k m) := by
  intro _ _
  have hd := d.isLt
  have ha := a.isLt
  have hk := k.isLt
  have hm := m.isLt
  obtain ⟨e, e0, e_d, e_a, e_b, e_m, e_fn⟩ := packF3V_slots 49 d.toNat a.toNat (k.toNat * 8) m.toNat 3 (by omega) (by omega) (by omega) (by omega) (by omega) (by omega)
  simp only [decodeWord, encode, encodeNat, BitVec.toNat_ofNat]
  rw [e, decodeNat_31 _ e0]
  unfold decodeMajor31
  simp only [e_fn]
  simp [legalIf, e_d, e_a, e_b, e_m, Instr.wellFormed] <;> omega

theorem vstshs (d : BitVec 7) (a : BitVec 7) (b : BitVec 7) (m : BitVec 1) : Statement (.vstshs d a b m) := by
  intro _ _
  have hd := d.isLt
  have ha := a.isLt
  have hb := b.isLt
  have hm := m.isLt
  obtain ⟨e, e0, e_d, e_a, e_b, e_m, e_fn⟩ := packF3V_slots 49 d.toNat a.toNat b.toNat m.toNat 4 (by omega) (by omega) (by omega) (by omega) (by omega) (by omega)
  simp only [decodeWord, encode, encodeNat, BitVec.toNat_ofNat]
  rw [e, decodeNat_31 _ e0]
  unfold decodeMajor31
  simp only [e_fn]
  simp [legalIf, e_d, e_a, e_b, e_m, Instr.wellFormed]

theorem vstshrow (d : BitVec 7) (a : BitVec 7) (b : BitVec 7) (m : BitVec 1) : Statement (.vstshrow d a b m) := by
  intro _ _
  have hd := d.isLt
  have ha := a.isLt
  have hb := b.isLt
  have hm := m.isLt
  obtain ⟨e, e0, e_d, e_a, e_b, e_m, e_fn⟩ := packF3V_slots 49 d.toNat a.toNat b.toNat m.toNat 5 (by omega) (by omega) (by omega) (by omega) (by omega) (by omega)
  simp only [decodeWord, encode, encodeNat, BitVec.toNat_ofNat]
  rw [e, decodeNat_31 _ e0]
  unfold decodeMajor31
  simp only [e_fn]
  simp [legalIf, e_d, e_a, e_b, e_m, Instr.wellFormed]

theorem vldshx (d : BitVec 7) (a : BitVec 7) (b : BitVec 7) (m : BitVec 1) : Statement (.vldshx d a b m) := by
  intro _ _
  have hd := d.isLt
  have ha := a.isLt
  have hb := b.isLt
  have hm := m.isLt
  obtain ⟨e, e0, e_d, e_a, e_b, e_m, e_fn⟩ := packF3V_slots 49 d.toNat a.toNat b.toNat m.toNat 6 (by omega) (by omega) (by omega) (by omega) (by omega) (by omega)
  simp only [decodeWord, encode, encodeNat, BitVec.toNat_ofNat]
  rw [e, decodeNat_31 _ e0]
  unfold decodeMajor31
  simp only [e_fn]
  simp [legalIf, e_d, e_a, e_b, e_m, Instr.wellFormed]

theorem vstshx (d : BitVec 7) (a : BitVec 7) (b : BitVec 7) (m : BitVec 1) : Statement (.vstshx d a b m) := by
  intro _ _
  have hd := d.isLt
  have ha := a.isLt
  have hb := b.isLt
  have hm := m.isLt
  obtain ⟨e, e0, e_d, e_a, e_b, e_m, e_fn⟩ := packF3V_slots 49 d.toNat a.toNat b.toNat m.toNat 7 (by omega) (by omega) (by omega) (by omega) (by omega) (by omega)
  simp only [decodeWord, encode, encodeNat, BitVec.toNat_ofNat]
  rw [e, decodeNat_31 _ e0]
  unfold decodeMajor31
  simp only [e_fn]
  simp [legalIf, e_d, e_a, e_b, e_m, Instr.wellFormed]

theorem vstshxaddo (d : BitVec 7) (a : BitVec 7) (b : BitVec 7) (m : BitVec 1) : Statement (.vstshxaddo d a b m) := by
  intro _ _
  have hd := d.isLt
  have ha := a.isLt
  have hb := b.isLt
  have hm := m.isLt
  obtain ⟨e, e0, e_d, e_a, e_b, e_m, e_fn⟩ := packF3V_slots 49 d.toNat a.toNat b.toNat m.toNat 8 (by omega) (by omega) (by omega) (by omega) (by omega) (by omega)
  simp only [decodeWord, encode, encodeNat, BitVec.toNat_ofNat]
  rw [e, decodeNat_31 _ e0]
  unfold decodeMajor31
  simp only [e_fn]
  simp [legalIf, e_d, e_a, e_b, e_m, Instr.wellFormed]

theorem vstshxadd (d : BitVec 7) (a : BitVec 7) (b : BitVec 7) (m : BitVec 1) : Statement (.vstshxadd d a b m) := by
  intro _ _
  have hd := d.isLt
  have ha := a.isLt
  have hb := b.isLt
  have hm := m.isLt
  obtain ⟨e, e0, e_d, e_a, e_b, e_m, e_fn⟩ := packF3V_slots 49 d.toNat a.toNat b.toNat m.toNat 9 (by omega) (by omega) (by omega) (by omega) (by omega) (by omega)
  simp only [decodeWord, encode, encodeNat, BitVec.toNat_ofNat]
  rw [e, decodeNat_31 _ e0]
  unfold decodeMajor31
  simp only [e_fn]
  simp [legalIf, e_d, e_a, e_b, e_m, Instr.wellFormed]

theorem vgwin (p : BitVec 4) (a : BitVec 7) (m : BitVec 1) : Statement (.vgwin p a m) := by
  intro _ _
  have hp := p.isLt
  have ha := a.isLt
  have hm := m.isLt
  obtain ⟨e, e0, e_d, e_a, e_b, e_m, e_fn⟩ := packF3V_slots 50 p.toNat a.toNat 0 m.toNat 0 (by omega) (by omega) (by omega) (by omega) (by omega) (by omega)
  simp only [decodeWord, encode, encodeNat, BitVec.toNat_ofNat]
  rw [e, decodeNat_32 _ e0]
  unfold decodeMajor32
  simp only [e_fn]
  simp [legalIf, e_d, e_a, e_b, e_m, Instr.wellFormed] <;> omega

theorem vgwset (d : BitVec 7) (a : BitVec 7) (m : BitVec 1) : Statement (.vgwset d a m) := by
  intro _ _
  have hd := d.isLt
  have ha := a.isLt
  have hm := m.isLt
  obtain ⟨e, e0, e_d, e_a, e_b, e_m, e_fn⟩ := packF3V_slots 50 d.toNat a.toNat 0 m.toNat 1 (by omega) (by omega) (by omega) (by omega) (by omega) (by omega)
  simp only [decodeWord, encode, encodeNat, BitVec.toNat_ofNat]
  rw [e, decodeNat_32 _ e0]
  unfold decodeMajor32
  simp only [e_fn]
  simp [legalIf, e_d, e_a, e_b, e_m, Instr.wellFormed]

theorem vconf (p : BitVec 4) (a : BitVec 7) (m : BitVec 1) : Statement (.vconf p a m) := by
  intro _ _
  have hp := p.isLt
  have ha := a.isLt
  have hm := m.isLt
  obtain ⟨e, e0, e_d, e_a, e_b, e_m, e_fn⟩ := packF3V_slots 50 p.toNat a.toNat 0 m.toNat 2 (by omega) (by omega) (by omega) (by omega) (by omega) (by omega)
  simp only [decodeWord, encode, encodeNat, BitVec.toNat_ofNat]
  rw [e, decodeNat_32 _ e0]
  unfold decodeMajor32
  simp only [e_fn]
  simp [legalIf, e_d, e_a, e_b, e_m, Instr.wellFormed] <;> omega

theorem vcomb (d : BitVec 7) (a : BitVec 7) (b : BitVec 7) (m : BitVec 1) : Statement (.vcomb d a b m) := by
  intro _ _
  have hd := d.isLt
  have ha := a.isLt
  have hb := b.isLt
  have hm := m.isLt
  obtain ⟨e, e0, e_d, e_a, e_b, e_m, e_fn⟩ := packF3V_slots 50 d.toNat a.toNat b.toNat m.toNat 3 (by omega) (by omega) (by omega) (by omega) (by omega) (by omega)
  simp only [decodeWord, encode, encodeNat, BitVec.toNat_ofNat]
  rw [e, decodeNat_32 _ e0]
  unfold decodeMajor32
  simp only [e_fn]
  simp [legalIf, e_d, e_a, e_b, e_m, Instr.wellFormed]

theorem vconfm (d : BitVec 7) (a : BitVec 7) (m : BitVec 1) : Statement (.vconfm d a m) := by
  intro _ _
  have hd := d.isLt
  have ha := a.isLt
  have hm := m.isLt
  obtain ⟨e, e0, e_d, e_a, e_b, e_m, e_fn⟩ := packF3V_slots 50 d.toNat a.toNat 0 m.toNat 4 (by omega) (by omega) (by omega) (by omega) (by omega) (by omega)
  simp only [decodeWord, encode, encodeNat, BitVec.toNat_ofNat]
  rw [e, decodeNat_32 _ e0]
  unfold decodeMajor32
  simp only [e_fn]
  simp [legalIf, e_d, e_a, e_b, e_m, Instr.wellFormed]

theorem vpacknz (d : BitVec 7) (a : BitVec 7) (b : BitVec 7) (m : BitVec 1) : Statement (.vpacknz d a b m) := by
  intro _ _
  have hd := d.isLt
  have ha := a.isLt
  have hb := b.isLt
  have hm := m.isLt
  obtain ⟨e, e0, e_d, e_a, e_b, e_m, e_fn⟩ := packF3V_slots 50 d.toNat a.toNat b.toNat m.toNat 5 (by omega) (by omega) (by omega) (by omega) (by omega) (by omega)
  simp only [decodeWord, encode, encodeNat, BitVec.toNat_ofNat]
  rw [e, decodeNat_32 _ e0]
  unfold decodeMajor32
  simp only [e_fn]
  simp [legalIf, e_d, e_a, e_b, e_m, Instr.wellFormed]

theorem mmac (z : BitVec 4) (a : BitVec 7) (b : BitVec 7) (s : BitVec 2) : Statement (.mmac z a b s) := by
  intro _ _
  have hz := z.isLt
  have ha := a.isLt
  have hb := b.isLt
  have hs := s.isLt
  obtain ⟨e, e0, e_z, e_y, e_a, e_b, e_fn, e_s⟩ := packFM_slots 51 z.toNat 0 a.toNat b.toNat 0 s.toNat (by omega) (by omega) (by omega) (by omega) (by omega) (by omega) (by omega)
  simp only [decodeWord, encode, encodeNat, BitVec.toNat_ofNat]
  rw [e, decodeNat_33 _ e0]
  unfold decodeMajor33
  simp only [e_fn]
  simp [legalIf, e_z, e_y, e_a, e_b, e_s, Instr.wellFormed]

theorem mmacn (z : BitVec 4) (a : BitVec 7) (b : BitVec 7) (s : BitVec 2) : Statement (.mmacn z a b s) := by
  intro _ _
  have hz := z.isLt
  have ha := a.isLt
  have hb := b.isLt
  have hs := s.isLt
  obtain ⟨e, e0, e_z, e_y, e_a, e_b, e_fn, e_s⟩ := packFM_slots 51 z.toNat 0 a.toNat b.toNat 1 s.toNat (by omega) (by omega) (by omega) (by omega) (by omega) (by omega) (by omega)
  simp only [decodeWord, encode, encodeNat, BitVec.toNat_ofNat]
  rw [e, decodeNat_33 _ e0]
  unfold decodeMajor33
  simp only [e_fn]
  simp [legalIf, e_z, e_y, e_a, e_b, e_s, Instr.wellFormed]

theorem mmaco (z : BitVec 4) (a : BitVec 7) (b : BitVec 7) (s : BitVec 2) : Statement (.mmaco z a b s) := by
  intro _ _
  have hz := z.isLt
  have ha := a.isLt
  have hb := b.isLt
  have hs := s.isLt
  obtain ⟨e, e0, e_z, e_y, e_a, e_b, e_fn, e_s⟩ := packFM_slots 51 z.toNat 0 a.toNat b.toNat 2 s.toNat (by omega) (by omega) (by omega) (by omega) (by omega) (by omega) (by omega)
  simp only [decodeWord, encode, encodeNat, BitVec.toNat_ofNat]
  rw [e, decodeNat_33 _ e0]
  unfold decodeMajor33
  simp only [e_fn]
  simp [legalIf, e_z, e_y, e_a, e_b, e_s, Instr.wellFormed]

theorem mmacs (z : BitVec 4) (a : BitVec 7) (b : BitVec 7) (s : BitVec 2) : Statement (.mmacs z a b s) := by
  intro _ _
  have hz := z.isLt
  have ha := a.isLt
  have hb := b.isLt
  have hs := s.isLt
  obtain ⟨e, e0, e_z, e_y, e_a, e_b, e_fn, e_s⟩ := packFM_slots 51 z.toNat 0 a.toNat b.toNat 3 s.toNat (by omega) (by omega) (by omega) (by omega) (by omega) (by omega) (by omega)
  simp only [decodeWord, encode, encodeNat, BitVec.toNat_ofNat]
  rw [e, decodeNat_33 _ e0]
  unfold decodeMajor33
  simp only [e_fn]
  simp [legalIf, e_z, e_y, e_a, e_b, e_s, Instr.wellFormed]

theorem mzcfg (z : BitVec 4) (a : BitVec 7) : Statement (.mzcfg z a) := by
  intro _ _
  have hz := z.isLt
  have ha := a.isLt
  obtain ⟨e, e0, e_d, e_a, e_b, e_fn⟩ := packF3_slots 52 z.toNat a.toNat 0 0 (by omega) (by omega) (by omega) (by omega) (by omega)
  simp only [decodeWord, encode, encodeNat, BitVec.toNat_ofNat]
  rw [e, decodeNat_34 _ e0]
  unfold decodeMajor34
  simp only [e_fn]
  simp [legalIf, e_d, e_a, e_b, Instr.wellFormed] <;> omega

theorem mzero (z : BitVec 4) : Statement (.mzero z) := by
  intro _ _
  have hz := z.isLt
  obtain ⟨e, e0, e_d, e_a, e_b, e_fn⟩ := packF3_slots 52 z.toNat 0 0 1 (by omega) (by omega) (by omega) (by omega) (by omega)
  simp only [decodeWord, encode, encodeNat, BitVec.toNat_ofNat]
  rw [e, decodeNat_34 _ e0]
  unfold decodeMajor34
  simp only [e_fn]
  simp [legalIf, e_d, e_a, e_b, Instr.wellFormed] <;> omega

theorem mzld (z : BitVec 4) (a : BitVec 7) (b : BitVec 7) : Statement (.mzld z a b) := by
  intro _ _
  have hz := z.isLt
  have ha := a.isLt
  have hb := b.isLt
  obtain ⟨e, e0, e_d, e_a, e_b, e_fn⟩ := packF3_slots 52 z.toNat a.toNat b.toNat 2 (by omega) (by omega) (by omega) (by omega) (by omega)
  simp only [decodeWord, encode, encodeNat, BitVec.toNat_ofNat]
  rw [e, decodeNat_34 _ e0]
  unfold decodeMajor34
  simp only [e_fn]
  simp [legalIf, e_d, e_a, e_b, Instr.wellFormed] <;> omega

theorem mzst (z : BitVec 4) (a : BitVec 7) (b : BitVec 7) : Statement (.mzst z a b) := by
  intro _ _
  have hz := z.isLt
  have ha := a.isLt
  have hb := b.isLt
  obtain ⟨e, e0, e_d, e_a, e_b, e_fn⟩ := packF3_slots 52 z.toNat a.toNat b.toNat 3 (by omega) (by omega) (by omega) (by omega) (by omega)
  simp only [decodeWord, encode, encodeNat, BitVec.toNat_ofNat]
  rw [e, decodeNat_34 _ e0]
  unfold decodeMajor34
  simp only [e_fn]
  simp [legalIf, e_d, e_a, e_b, Instr.wellFormed] <;> omega

theorem mzrv (d : BitVec 7) (z : BitVec 4) (b : BitVec 7) : Statement (.mzrv d z b) := by
  intro _ _
  have hd := d.isLt
  have hz := z.isLt
  have hb := b.isLt
  obtain ⟨e, e0, e_d, e_a, e_b, e_fn⟩ := packF3_slots 52 d.toNat z.toNat b.toNat 4 (by omega) (by omega) (by omega) (by omega) (by omega)
  simp only [decodeWord, encode, encodeNat, BitVec.toNat_ofNat]
  rw [e, decodeNat_34 _ e0]
  unfold decodeMajor34
  simp only [e_fn]
  simp [legalIf, e_d, e_a, e_b, Instr.wellFormed] <;> omega

theorem mzwv (z : BitVec 4) (a : BitVec 7) (b : BitVec 7) : Statement (.mzwv z a b) := by
  intro _ _
  have hz := z.isLt
  have ha := a.isLt
  have hb := b.isLt
  obtain ⟨e, e0, e_d, e_a, e_b, e_fn⟩ := packF3_slots 52 z.toNat a.toNat b.toNat 5 (by omega) (by omega) (by omega) (by omega) (by omega)
  simp only [decodeWord, encode, encodeNat, BitVec.toNat_ofNat]
  rw [e, decodeNat_34 _ e0]
  unfold decodeMajor34
  simp only [e_fn]
  simp [legalIf, e_d, e_a, e_b, Instr.wellFormed] <;> omega

theorem manch (z : BitVec 4) (a : BitVec 7) : Statement (.manch z a) := by
  intro _ _
  have hz := z.isLt
  have ha := a.isLt
  obtain ⟨e, e0, e_d, e_a, e_b, e_fn⟩ := packF3_slots 52 z.toNat a.toNat 0 6 (by omega) (by omega) (by omega) (by omega) (by omega)
  simp only [decodeWord, encode, encodeNat, BitVec.toNat_ofNat]
  rw [e, decodeNat_34 _ e0]
  unfold decodeMajor34
  simp only [e_fn]
  simp [legalIf, e_d, e_a, e_b, Instr.wellFormed] <;> omega

theorem mscan (z : BitVec 4) (h : BitVec 3) : Statement (.mscan z h) := by
  intro _ _
  have hz := z.isLt
  have hh := h.isLt
  obtain ⟨e, e0, e_d, e_a, e_b, e_fn⟩ := packF3_slots 52 z.toNat h.toNat 0 7 (by omega) (by omega) (by omega) (by omega) (by omega)
  simp only [decodeWord, encode, encodeNat, BitVec.toNat_ofNat]
  rw [e, decodeNat_34 _ e0]
  unfold decodeMajor34
  simp only [e_fn]
  simp [legalIf, e_d, e_a, e_b, Instr.wellFormed] <;> omega

theorem mcarry (h : BitVec 3) (a : BitVec 7) : Statement (.mcarry h a) := by
  intro _ _
  have hh := h.isLt
  have ha := a.isLt
  obtain ⟨e, e0, e_d, e_a, e_b, e_fn⟩ := packF3_slots 52 h.toNat a.toNat 0 8 (by omega) (by omega) (by omega) (by omega) (by omega)
  simp only [decodeWord, encode, encodeNat, BitVec.toNat_ofNat]
  rw [e, decodeNat_34 _ e0]
  unfold decodeMajor34
  simp only [e_fn]
  simp [legalIf, e_d, e_a, e_b, Instr.wellFormed] <;> omega

theorem mcarryst (h : BitVec 3) (a : BitVec 7) : Statement (.mcarryst h a) := by
  intro _ _
  have hh := h.isLt
  have ha := a.isLt
  obtain ⟨e, e0, e_d, e_a, e_b, e_fn⟩ := packF3_slots 52 h.toNat a.toNat 0 9 (by omega) (by omega) (by omega) (by omega) (by omega)
  simp only [decodeWord, encode, encodeNat, BitVec.toNat_ofNat]
  rw [e, decodeNat_34 _ e0]
  unfold decodeMajor34
  simp only [e_fn]
  simp [legalIf, e_d, e_a, e_b, Instr.wellFormed] <;> omega

theorem mcommit : Statement (.mcommit) := by
  intro _ _
  obtain ⟨e, e0, e_d, e_a, e_b, e_fn⟩ := packF3_slots 52 0 0 0 10 (by omega) (by omega) (by omega) (by omega) (by omega)
  simp only [decodeWord, encode, encodeNat, BitVec.toNat_ofNat]
  rw [e, decodeNat_34 _ e0]
  unfold decodeMajor34
  simp only [e_fn]
  simp [legalIf, e_d, e_a, e_b, Instr.wellFormed]

theorem mwait (n : BitVec 7) : Statement (.mwait n) := by
  intro _ _
  have hn := n.isLt
  obtain ⟨e, e0, e_d, e_a, e_b, e_fn⟩ := packF3_slots 52 0 n.toNat 0 11 (by omega) (by omega) (by omega) (by omega) (by omega)
  simp only [decodeWord, encode, encodeNat, BitVec.toNat_ofNat]
  rw [e, decodeNat_34 _ e0]
  unfold decodeMajor34
  simp only [e_fn]
  simp [legalIf, e_d, e_a, e_b, Instr.wellFormed]

theorem mgain (z : BitVec 4) (a : BitVec 7) : Statement (.mgain z a) := by
  intro _ _
  have hz := z.isLt
  have ha := a.isLt
  obtain ⟨e, e0, e_d, e_a, e_b, e_fn⟩ := packF3_slots 52 z.toNat a.toNat 0 12 (by omega) (by omega) (by omega) (by omega) (by omega)
  simp only [decodeWord, encode, encodeNat, BitVec.toNat_ofNat]
  rw [e, decodeNat_34 _ e0]
  unfold decodeMajor34
  simp only [e_fn]
  simp [legalIf, e_d, e_a, e_b, Instr.wellFormed] <;> omega

theorem mstat (d : BitVec 7) (z : BitVec 4) : Statement (.mstat d z) := by
  intro _ _
  have hd := d.isLt
  have hz := z.isLt
  obtain ⟨e, e0, e_d, e_a, e_b, e_fn⟩ := packF3_slots 52 d.toNat z.toNat 0 13 (by omega) (by omega) (by omega) (by omega) (by omega)
  simp only [decodeWord, encode, encodeNat, BitVec.toNat_ofNat]
  rw [e, decodeNat_34 _ e0]
  unfold decodeMajor34
  simp only [e_fn]
  simp [legalIf, e_d, e_a, e_b, Instr.wellFormed] <;> omega

theorem matrixComplete (t : Nat) (i : Nat) : Statement (.matrixComplete t i) := by
  intro _ h; exact absurd h (by simp [Instr.hasWord])

theorem tdset (t : BitVec 4) (a : BitVec 7) : Statement (.tdset t a) := by
  intro _ _
  have ht := t.isLt
  have ha := a.isLt
  obtain ⟨e, e0, e_d, e_a, e_b, e_fn⟩ := packF3_slots 53 t.toNat a.toNat 0 0 (by omega) (by omega) (by omega) (by omega) (by omega)
  simp only [decodeWord, encode, encodeNat, BitVec.toNat_ofNat]
  rw [e, decodeNat_35 _ e0]
  unfold decodeMajor35
  simp only [e_fn]
  simp [legalIf, e_d, e_a, e_b, Instr.wellFormed] <;> omega

theorem tdget (t : BitVec 4) (a : BitVec 7) : Statement (.tdget t a) := by
  intro _ _
  have ht := t.isLt
  have ha := a.isLt
  obtain ⟨e, e0, e_d, e_a, e_b, e_fn⟩ := packF3_slots 53 t.toNat a.toNat 0 1 (by omega) (by omega) (by omega) (by omega) (by omega)
  simp only [decodeWord, encode, encodeNat, BitVec.toNat_ofNat]
  rw [e, decodeNat_35 _ e0]
  unfold decodeMajor35
  simp only [e_fn]
  simp [legalIf, e_d, e_a, e_b, Instr.wellFormed] <;> omega

theorem scld (k : BitVec 3) (t : BitVec 4) : Statement (.scld k t) := by
  intro _ _
  have hk := k.isLt
  have ht := t.isLt
  obtain ⟨e, e0, e_d, e_a, e_b, e_fn⟩ := packF3_slots 53 k.toNat t.toNat 0 2 (by omega) (by omega) (by omega) (by omega) (by omega)
  simp only [decodeWord, encode, encodeNat, BitVec.toNat_ofNat]
  rw [e, decodeNat_35 _ e0]
  unfold decodeMajor35
  simp only [e_fn]
  simp [legalIf, e_d, e_a, e_b, Instr.wellFormed] <;> omega

theorem scst (k : BitVec 3) (t : BitVec 4) : Statement (.scst k t) := by
  intro _ _
  have hk := k.isLt
  have ht := t.isLt
  obtain ⟨e, e0, e_d, e_a, e_b, e_fn⟩ := packF3_slots 53 k.toNat t.toNat 0 3 (by omega) (by omega) (by omega) (by omega) (by omega)
  simp only [decodeWord, encode, encodeNat, BitVec.toNat_ofNat]
  rw [e, decodeNat_35 _ e0]
  unfold decodeMajor35
  simp only [e_fn]
  simp [legalIf, e_d, e_a, e_b, Instr.wellFormed] <;> omega

theorem tdinv (t : BitVec 4) : Statement (.tdinv t) := by
  intro _ _
  have ht := t.isLt
  obtain ⟨e, e0, e_d, e_a, e_b, e_fn⟩ := packF3_slots 53 t.toNat 0 0 4 (by omega) (by omega) (by omega) (by omega) (by omega)
  simp only [decodeWord, encode, encodeNat, BitVec.toNat_ofNat]
  rw [e, decodeNat_35 _ e0]
  unfold decodeMajor35
  simp only [e_fn]
  simp [legalIf, e_d, e_a, e_b, Instr.wellFormed] <;> omega

theorem cpy (a : BitVec 7) : Statement (.cpy a) := by
  intro _ _
  have ha := a.isLt
  obtain ⟨e, e0, e_d, e_a, e_b, e_fn⟩ := packF3_slots 54 0 a.toNat 0 0 (by omega) (by omega) (by omega) (by omega) (by omega)
  simp only [decodeWord, encode, encodeNat, BitVec.toNat_ofNat]
  rw [e, decodeNat_36 _ e0]
  unfold decodeMajor36
  simp only [e_fn]
  simp [legalIf, e_d, e_a, e_b, Instr.wellFormed]

theorem cpyb (p : BitVec 4) (a : BitVec 7) : Statement (.cpyb p a) := by
  intro _ _
  have hp := p.isLt
  have ha := a.isLt
  obtain ⟨e, e0, e_d, e_a, e_b, e_fn⟩ := packF3_slots 54 p.toNat a.toNat 0 1 (by omega) (by omega) (by omega) (by omega) (by omega)
  simp only [decodeWord, encode, encodeNat, BitVec.toNat_ofNat]
  rw [e, decodeNat_36 _ e0]
  unfold decodeMajor36
  simp only [e_fn]
  simp [legalIf, e_d, e_a, e_b, Instr.wellFormed] <;> omega

theorem cpyseg (a : BitVec 7) : Statement (.cpyseg a) := by
  intro _ _
  have ha := a.isLt
  obtain ⟨e, e0, e_d, e_a, e_b, e_fn⟩ := packF3_slots 54 0 a.toNat 0 2 (by omega) (by omega) (by omega) (by omega) (by omega)
  simp only [decodeWord, encode, encodeNat, BitVec.toNat_ofNat]
  rw [e, decodeNat_36 _ e0]
  unfold decodeMajor36
  simp only [e_fn]
  simp [legalIf, e_d, e_a, e_b, Instr.wellFormed]

theorem cpyw (n : BitVec 7) : Statement (.cpyw n) := by
  intro _ _
  have hn := n.isLt
  obtain ⟨e, e0, e_d, e_a, e_b, e_fn⟩ := packF3_slots 54 0 n.toNat 0 3 (by omega) (by omega) (by omega) (by omega) (by omega)
  simp only [decodeWord, encode, encodeNat, BitVec.toNat_ofNat]
  rw [e, decodeNat_36 _ e0]
  unfold decodeMajor36
  simp only [e_fn]
  simp [legalIf, e_d, e_a, e_b, Instr.wellFormed]

theorem cpyq (d : BitVec 7) : Statement (.cpyq d) := by
  intro _ _
  have hd := d.isLt
  obtain ⟨e, e0, e_d, e_a, e_b, e_fn⟩ := packF3_slots 54 d.toNat 0 0 4 (by omega) (by omega) (by omega) (by omega) (by omega)
  simp only [decodeWord, encode, encodeNat, BitVec.toNat_ofNat]
  rw [e, decodeNat_36 _ e0]
  unfold decodeMajor36
  simp only [e_fn]
  simp [legalIf, e_d, e_a, e_b, Instr.wellFormed]

theorem copyChunkWritten (h : Nat) (c : Nat) (k : Nat) : Statement (.copyChunkWritten h c k) := by
  intro _ h; exact absurd h (by simp [Instr.hasWord])

theorem copyRetire (h : Nat) (c : Nat) : Statement (.copyRetire h c) := by
  intro _ h; exact absurd h (by simp [Instr.hasWord])

theorem copyErrorTrap (h : Nat) : Statement (.copyErrorTrap h) := by
  intro _ h; exact absurd h (by simp [Instr.hasWord])

theorem lmark (a : BitVec 7) (b : BitVec 7) (o : BitVec 9) : Statement (.lmark a b o) := by
  intro h _
  have ha := a.isLt
  have hb := b.isLt
  have ho := o.isLt
  simp only [Instr.wellFormed, decide_eq_true_eq] at h
  obtain ⟨e, e0, e_a, e_b, e_fn, e_o⟩ := packFB2_slots 55 a.toNat b.toNat 0 o.toNat (by omega) (by omega) (by omega) (by omega) (by omega)
  simp only [decodeWord, encode, encodeNat, BitVec.toNat_ofNat]
  rw [e, decodeNat_37 _ e0]
  unfold decodeMajor37
  simp only [e_fn]
  simp [legalIf, e_a, e_b, e_o, Instr.wellFormed, h]

theorem lmarkSweep (a : BitVec 7) (b : BitVec 7) (o : BitVec 9) : Statement (.lmarkSweep a b o) := by
  intro h _
  have ha := a.isLt
  have hb := b.isLt
  have ho := o.isLt
  simp only [Instr.wellFormed, decide_eq_true_eq] at h
  obtain ⟨e, e0, e_a, e_b, e_fn, e_o⟩ := packFB2_slots 55 a.toNat b.toNat 1 o.toNat (by omega) (by omega) (by omega) (by omega) (by omega)
  simp only [decodeWord, encode, encodeNat, BitVec.toNat_ofNat]
  rw [e, decodeNat_37 _ e0]
  unfold decodeMajor37
  simp only [e_fn]
  simp [legalIf, e_a, e_b, e_o, Instr.wellFormed, h]

theorem lend : Statement (.lend) := by
  intro _ _
  obtain ⟨e, e0, e_d, e_a, e_b, e_fn⟩ := packF3_slots 56 0 0 0 0 (by omega) (by omega) (by omega) (by omega) (by omega)
  simp only [decodeWord, encode, encodeNat, BitVec.toNat_ofNat]
  rw [e, decodeNat_38 _ e0]
  unfold decodeMajor38
  simp only [e_fn]
  simp [legalIf, e_d, e_a, e_b, Instr.wellFormed]

theorem loff (a : BitVec 7) : Statement (.loff a) := by
  intro _ _
  have ha := a.isLt
  obtain ⟨e, e0, e_d, e_a, e_b, e_fn⟩ := packF3_slots 56 0 a.toNat 0 1 (by omega) (by omega) (by omega) (by omega) (by omega)
  simp only [decodeWord, encode, encodeNat, BitVec.toNat_ofNat]
  rw [e, decodeNat_38 _ e0]
  unfold decodeMajor38
  simp only [e_fn]
  simp [legalIf, e_d, e_a, e_b, Instr.wellFormed]

theorem rsnew (a : BitVec 7) (b : BitVec 7) : Statement (.rsnew a b) := by
  intro _ _
  have ha := a.isLt
  have hb := b.isLt
  obtain ⟨e, e0, e_d, e_a, e_b, e_fn⟩ := packF3_slots 56 0 a.toNat b.toNat 2 (by omega) (by omega) (by omega) (by omega) (by omega)
  simp only [decodeWord, encode, encodeNat, BitVec.toNat_ofNat]
  rw [e, decodeNat_38 _ e0]
  unfold decodeMajor38
  simp only [e_fn]
  simp [legalIf, e_d, e_a, e_b, Instr.wellFormed]

theorem rsq (d : BitVec 7) (a : BitVec 7) : Statement (.rsq d a) := by
  intro _ _
  have hd := d.isLt
  have ha := a.isLt
  obtain ⟨e, e0, e_d, e_a, e_b, e_fn⟩ := packF3_slots 56 d.toNat a.toNat 0 3 (by omega) (by omega) (by omega) (by omega) (by omega)
  simp only [decodeWord, encode, encodeNat, BitVec.toNat_ofNat]
  rw [e, decodeNat_38 _ e0]
  unfold decodeMajor38
  simp only [e_fn]
  simp [legalIf, e_d, e_a, e_b, Instr.wellFormed]

theorem rspol (a : BitVec 7) (b : BitVec 7) : Statement (.rspol a b) := by
  intro _ _
  have ha := a.isLt
  have hb := b.isLt
  obtain ⟨e, e0, e_d, e_a, e_b, e_fn⟩ := packF3_slots 56 0 a.toNat b.toNat 4 (by omega) (by omega) (by omega) (by omega) (by omega)
  simp only [decodeWord, encode, encodeNat, BitVec.toNat_ofNat]
  rw [e, decodeNat_38 _ e0]
  unfold decodeMajor38
  simp only [e_fn]
  simp [legalIf, e_d, e_a, e_b, Instr.wellFormed]

theorem tmark (a : BitVec 7) : Statement (.tmark a) := by
  intro _ _
  have ha := a.isLt
  obtain ⟨e, e0, e_d, e_a, e_b, e_fn⟩ := packF3_slots 57 0 a.toNat 0 0 (by omega) (by omega) (by omega) (by omega) (by omega)
  simp only [decodeWord, encode, encodeNat, BitVec.toNat_ofNat]
  rw [e, decodeNat_39 _ e0]
  unfold decodeMajor39
  simp only [e_fn]
  simp [legalIf, e_d, e_a, e_b, Instr.wellFormed]

theorem progpt (c : BitVec 7) : Statement (.progpt c) := by
  intro _ _
  have hc := c.isLt
  obtain ⟨e, e0, e_d, e_a, e_b, e_fn⟩ := packF3_slots 57 0 c.toNat 0 1 (by omega) (by omega) (by omega) (by omega) (by omega)
  simp only [decodeWord, encode, encodeNat, BitVec.toNat_ofNat]
  rw [e, decodeNat_39 _ e0]
  unfold decodeMajor39
  simp only [e_fn]
  simp [legalIf, e_d, e_a, e_b, Instr.wellFormed]

theorem replayIteration (t : Nat) : Statement (.replayIteration t) := by
  intro _ h; exact absurd h (by simp [Instr.hasWord])

theorem handBack (t : Nat) : Statement (.handBack t) := by
  intro _ h; exact absurd h (by simp [Instr.hasWord])

theorem pagerResume (x : Nat) (va : Word) : Statement (.pagerResume x va) := by
  intro _ h; exact absurd h (by simp [Instr.hasWord])

theorem pagerUnservable (t : Nat) (queue : Bool) : Statement (.pagerUnservable t queue) := by
  intro _ h; exact absurd h (by simp [Instr.hasWord])

theorem faultRecordPost (die : Nat) : Statement (.faultRecordPost die) := by
  intro _ h; exact absurd h (by simp [Instr.hasWord])

theorem progressExpiry (h : Nat) : Statement (.progressExpiry h) := by
  intro _ h; exact absurd h (by simp [Instr.hasWord])

theorem preempt (t : Nat) : Statement (.preempt t) := by
  intro _ h; exact absurd h (by simp [Instr.hasWord])

theorem stripBufferDrain (h : Nat) (k : Nat) : Statement (.stripBufferDrain h k) := by
  intro _ h; exact absurd h (by simp [Instr.hasWord])

theorem stripTimeout (h : Nat) : Statement (.stripTimeout h) := by
  intro _ h; exact absurd h (by simp [Instr.hasWord])

theorem writeApply (die : Nat) (k : Nat) : Statement (.writeApply die k) := by
  intro _ h; exact absurd h (by simp [Instr.hasWord])

theorem recheckSecondRun (h : Nat) (agree : Bool) : Statement (.recheckSecondRun h agree) := by
  intro _ h; exact absurd h (by simp [Instr.hasWord])

theorem recheckForce (h : Nat) : Statement (.recheckForce h) := by
  intro _ h; exact absurd h (by simp [Instr.hasWord])

theorem knownAnswerOp (core : Nat) (lane : Nat) (pass : Bool) : Statement (.knownAnswerOp core lane pass) := by
  intro _ h; exact absurd h (by simp [Instr.hasWord])

theorem knownAnswerSweep (core : Nat) (pass : Bool) : Statement (.knownAnswerSweep core pass) := by
  intro _ h; exact absurd h (by simp [Instr.hasWord])

theorem qtailWrite (q : Nat) (v : Word) : Statement (.qtailWrite q v) := by
  intro _ h; exact absurd h (by simp [Instr.hasWord])

theorem enable (q : Nat) : Statement (.enable q) := by
  intro _ h; exact absurd h (by simp [Instr.hasWord])

theorem disable (q : Nat) : Statement (.disable q) := by
  intro _ h; exact absurd h (by simp [Instr.hasWord])

theorem clrfault (q : Nat) : Statement (.clrfault q) := by
  intro _ h; exact absurd h (by simp [Instr.hasWord])

theorem missClear (row : Nat) : Statement (.missClear row) := by
  intro _ h; exact absurd h (by simp [Instr.hasWord])

theorem registerWrite (a : Nat) (v : Word) : Statement (.registerWrite a v) := by
  intro _ h; exact absurd h (by simp [Instr.hasWord])

theorem schedulerScan : Statement (.schedulerScan) := by
  intro _ h; exact absurd h (by simp [Instr.hasWord])

theorem queueSwitchIn : Statement (.queueSwitchIn) := by
  intro _ h; exact absurd h (by simp [Instr.hasWord])

theorem queueAging (q : Nat) : Statement (.queueAging q) := by
  intro _ h; exact absurd h (by simp [Instr.hasWord])

theorem packetTake : Statement (.packetTake) := by
  intro _ h; exact absurd h (by simp [Instr.hasWord])

theorem tandemDispatch (t : Nat) (core : Nat) (slot : Nat) : Statement (.tandemDispatch t core slot) := by
  intro _ h; exact absurd h (by simp [Instr.hasWord])

theorem kernelComplete (x : Nat) (csn : Nat) : Statement (.kernelComplete x csn) := by
  intro _ h; exact absurd h (by simp [Instr.hasWord])

theorem kernelFaultRecord (x : Nat) (csn : Nat) : Statement (.kernelFaultRecord x csn) := by
  intro _ h; exact absurd h (by simp [Instr.hasWord])

theorem cancel (x : Nat) (csn : Nat) : Statement (.cancel x csn) := by
  intro _ h; exact absurd h (by simp [Instr.hasWord])

theorem release (x : Nat) (csn : Nat) : Statement (.release x csn) := by
  intro _ h; exact absurd h (by simp [Instr.hasWord])

theorem queueCreate (q : Nat) (block : Nat) (x : Nat) : Statement (.queueCreate q block x) := by
  intro _ h; exact absurd h (by simp [Instr.hasWord])

theorem bind (x : Nat) : Statement (.bind x) := by
  intro _ h; exact absurd h (by simp [Instr.hasWord])

theorem destroy (x : Nat) : Statement (.destroy x) := by
  intro _ h; exact absurd h (by simp [Instr.hasWord])

theorem contextReclaim : Statement (.contextReclaim) := by
  intro _ h; exact absurd h (by simp [Instr.hasWord])

theorem shootdown (x : Nat) (va : Nat) (len : Nat) : Statement (.shootdown x va len) := by
  intro _ h; exact absurd h (by simp [Instr.hasWord])

theorem shootdownComplete (k : Nat) : Statement (.shootdownComplete k) := by
  intro _ h; exact absurd h (by simp [Instr.hasWord])

theorem vectorEntryWrite (idx : Nat) (v : Word) : Statement (.vectorEntryWrite idx v) := by
  intro _ h; exact absurd h (by simp [Instr.hasWord])

theorem vectorEntryRead (idx : Nat) : Statement (.vectorEntryRead idx) := by
  intro _ h; exact absurd h (by simp [Instr.hasWord])

theorem ttModeEnable (period : Nat) (epoch : Nat) (rows : List (TtRow)) : Statement (.ttModeEnable period epoch rows) := by
  intro _ h; exact absurd h (by simp [Instr.hasWord])

theorem ttSlotStart (row : Nat) : Statement (.ttSlotStart row) := by
  intro _ h; exact absurd h (by simp [Instr.hasWord])

theorem ttSlotEnd (row : Nat) : Statement (.ttSlotEnd row) := by
  intro _ h; exact absurd h (by simp [Instr.hasWord])

theorem ppsInput : Statement (.ppsInput) := by
  intro _ h; exact absurd h (by simp [Instr.hasWord])

theorem timeOfDay (ns : Nat) : Statement (.timeOfDay ns) := by
  intro _ h; exact absurd h (by simp [Instr.hasWord])

theorem energyWindow (part : Nat) (used : Nat) : Statement (.energyWindow part used) := by
  intro _ h; exact absurd h (by simp [Instr.hasWord])

theorem budgetTableWrite (i : Nat) (v : Nat) : Statement (.budgetTableWrite i v) := by
  intro _ h; exact absurd h (by simp [Instr.hasWord])

theorem classTableWrite (i : Nat) (v : Nat) : Statement (.classTableWrite i v) := by
  intro _ h; exact absurd h (by simp [Instr.hasWord])

theorem peerRouteWrite (n : Nat) (valid : Bool) (mask : BitVec 12) : Statement (.peerRouteWrite n valid mask) := by
  intro _ h; exact absurd h (by simp [Instr.hasWord])

theorem peerRequest (port : Nat) (tag : Nat × Nat) (op : PeerOp) (pa : Nat) : Statement (.peerRequest port tag op pa) := by
  intro _ h; exact absurd h (by simp [Instr.hasWord])

theorem quiesce (p : Nat) : Statement (.quiesce p) := by
  intro _ h; exact absurd h (by simp [Instr.hasWord])

theorem portResume (p : Nat) : Statement (.portResume p) := by
  intro _ h; exact absurd h (by simp [Instr.hasWord])

theorem portReset (p : Nat) : Statement (.portReset p) := by
  intro _ h; exact absurd h (by simp [Instr.hasWord])

theorem partnerDetected (p : Nat) : Statement (.partnerDetected p) := by
  intro _ h; exact absurd h (by simp [Instr.hasWord])

theorem partnerLost (p : Nat) : Statement (.partnerLost p) := by
  intro _ h; exact absurd h (by simp [Instr.hasWord])

theorem trainingDone (p : Nat) (r : TrainResult) : Statement (.trainingDone p r) := by
  intro _ h; exact absurd h (by simp [Instr.hasWord])

theorem laneFailure (p : Nat) : Statement (.laneFailure p) := by
  intro _ h; exact absurd h (by simp [Instr.hasWord])

theorem flitReceive (p : Nat) (sq : Nat) (intact : Bool) : Statement (.flitReceive p sq intact) := by
  intro _ h; exact absurd h (by simp [Instr.hasWord])

theorem flitAckTimeout (p : Nat) : Statement (.flitAckTimeout p) := by
  intro _ h; exact absurd h (by simp [Instr.hasWord])

theorem hostMemAccess (op : PeerOp) (pa : Nat) : Statement (.hostMemAccess op pa) := by
  intro _ h; exact absurd h (by simp [Instr.hasWord])

theorem resume (cluster : Nat) : Statement (.resume cluster) := by
  intro _ h; exact absurd h (by simp [Instr.hasWord])

theorem hold (q : Nat) : Statement (.hold q) := by
  intro _ h; exact absurd h (by simp [Instr.hasWord])

theorem debugRelease (q : Nat) : Statement (.debugRelease q) := by
  intro _ h; exact absurd h (by simp [Instr.hasWord])

theorem historyEnable (x : Nat) (base : Word) : Statement (.historyEnable x base) := by
  intro _ h; exact absurd h (by simp [Instr.hasWord])

theorem pcSample : Statement (.pcSample) := by
  intro _ h; exact absurd h (by simp [Instr.hasWord])

theorem dropRecord (x : Nat) : Statement (.dropRecord x) := by
  intro _ h; exact absurd h (by simp [Instr.hasWord])

theorem trialEnd (h : Nat) : Statement (.trialEnd h) := by
  intro _ h; exact absurd h (by simp [Instr.hasWord])

theorem deviceReset (images : List (FwImage)) : Statement (.deviceReset images) := by
  intro _ h; exact absurd h (by simp [Instr.hasWord])

theorem challenge : Statement (.challenge) := by
  intro _ h; exact absurd h (by simp [Instr.hasWord])

theorem firmwareDebugUnlock (token : List (Byte)) : Statement (.firmwareDebugUnlock token) := by
  intro _ h; exact absurd h (by simp [Instr.hasWord])

theorem kernelDebugUnlock (x : Nat) (slot : Nat) : Statement (.kernelDebugUnlock x slot) := by
  intro _ h; exact absurd h (by simp [Instr.hasWord])

theorem attestationReport (nonce : Nat) : Statement (.attestationReport nonce) := by
  intro _ h; exact absurd h (by simp [Instr.hasWord])

theorem keyLoad (slot : Nat) (wrapped : Nat) : Statement (.keyLoad slot wrapped) := by
  intro _ h; exact absurd h (by simp [Instr.hasWord])

theorem checkpoint : Statement (.checkpoint) := by
  intro _ h; exact absurd h (by simp [Instr.hasWord])

theorem checkpointDone (ok : Bool) : Statement (.checkpointDone ok) := by
  intro _ h; exact absurd h (by simp [Instr.hasWord])

theorem recoveryReturn : Statement (.recoveryReturn) := by
  intro _ h; exact absurd h (by simp [Instr.hasWord])

theorem functionReady (f : Function) : Statement (.functionReady f) := by
  intro _ h; exact absurd h (by simp [Instr.hasWord])

theorem illegalInstruction (w : BitVec 32) : Statement (.illegalInstruction w) := by
  intro _ h; exact absurd h (by simp [Instr.hasWord])

theorem memoryReply (tag : Nat) (data : List (Byte)) : Statement (.memoryReply tag data) := by
  intro _ h; exact absurd h (by simp [Instr.hasWord])

theorem debugRelock (firmware : Bool) (x : Nat) : Statement (.debugRelock firmware x) := by
  intro _ h; exact absurd h (by simp [Instr.hasWord])

theorem traceEnable (x : Nat) (base : Nat) (len : Nat) (trace : Bool) (sample : Bool) (period : Nat) : Statement (.traceEnable x base len trace sample period) := by
  intro _ h; exact absurd h (by simp [Instr.hasWord])

theorem contextCreate (x : Nat) (block : Nat) : Statement (.contextCreate x block) := by
  intro _ h; exact absurd h (by simp [Instr.hasWord])

end Sys2Proof.Laws.RoundTrip
end

