-- ==== Sys2Proof/Tests/Slice0.lean ====
section
/-! SUPPORT. Tests: a word of every instruction, written out from the formats of R142 and the assignments of R147; words that are none and
ill-formed instructions; values that the manual works out; and for every statement with hypotheses a state that meets them, at the ends of its
ranges. -/

set_option Elab.async false

namespace Sys2Proof

open Machine

/-! ## Words -/

/-- Each word is read as the instruction beside it. -/
noncomputable def Tests.reads (l : List (BitVec 32 × Instr)) : Bool := l.all (fun e => match decodeWord e.1 with
  | .ok i => decide (i = e.2)
  | .error _ => false)

theorem test_words_01 : Tests.reads [
  (0#5 ++ 7#7 ++ 6#7 ++ 5#7 ++ 0x01#6, .add 5 6 7),
  (1#5 ++ 7#7 ++ 6#7 ++ 5#7 ++ 0x01#6, .sub 5 6 7),
  (2#5 ++ 7#7 ++ 6#7 ++ 5#7 ++ 0x01#6, .and 5 6 7),
  (3#5 ++ 7#7 ++ 6#7 ++ 5#7 ++ 0x01#6, .or 5 6 7),
  (4#5 ++ 7#7 ++ 6#7 ++ 5#7 ++ 0x01#6, .xor 5 6 7),
  (5#5 ++ 7#7 ++ 6#7 ++ 5#7 ++ 0x01#6, .andn 5 6 7),
  (6#5 ++ 7#7 ++ 6#7 ++ 5#7 ++ 0x01#6, .sll 5 6 7),
  (7#5 ++ 7#7 ++ 6#7 ++ 5#7 ++ 0x01#6, .srl 5 6 7),
  (8#5 ++ 7#7 ++ 6#7 ++ 5#7 ++ 0x01#6, .sra 5 6 7),
  (9#5 ++ 7#7 ++ 6#7 ++ 5#7 ++ 0x01#6, .slt 5 6 7),
  (10#5 ++ 7#7 ++ 6#7 ++ 5#7 ++ 0x01#6, .sltn 5 6 7),
  (11#5 ++ 7#7 ++ 6#7 ++ 5#7 ++ 0x01#6, .min 5 6 7),
  (12#5 ++ 7#7 ++ 6#7 ++ 5#7 ++ 0x01#6, .max 5 6 7),
  (13#5 ++ 7#7 ++ 6#7 ++ 5#7 ++ 0x01#6, .minn 5 6 7),
  (14#5 ++ 7#7 ++ 6#7 ++ 5#7 ++ 0x01#6, .maxn 5 6 7),
  (15#5 ++ 7#7 ++ 6#7 ++ 5#7 ++ 0x01#6, .mul 5 6 7),
  (16#5 ++ 7#7 ++ 6#7 ++ 5#7 ++ 0x01#6, .mulh 5 6 7),
  (17#5 ++ 7#7 ++ 6#7 ++ 5#7 ++ 0x01#6, .mulhn 5 6 7),
  (18#5 ++ 7#7 ++ 6#7 ++ 5#7 ++ 0x01#6, .div 5 6 7),
  (19#5 ++ 7#7 ++ 6#7 ++ 5#7 ++ 0x01#6, .divn 5 6 7),
  (20#5 ++ 7#7 ++ 6#7 ++ 5#7 ++ 0x01#6, .rem 5 6 7),
  (21#5 ++ 7#7 ++ 6#7 ++ 5#7 ++ 0x01#6, .remn 5 6 7),
  (22#5 ++ 0#7 ++ 6#7 ++ 5#7 ++ 0x01#6, .clz 5 6),
  (23#5 ++ 0#7 ++ 6#7 ++ 5#7 ++ 0x01#6, .ctz 5 6),
  (24#5 ++ 0#7 ++ 6#7 ++ 5#7 ++ 0x01#6, .popc 5 6),
  (25#5 ++ 7#7 ++ 6#7 ++ 5#7 ++ 0x01#6, .addw 5 6 7),
  (26#5 ++ 7#7 ++ 6#7 ++ 5#7 ++ 0x01#6, .subw 5 6 7),
  (27#5 ++ 7#7 ++ 6#7 ++ 5#7 ++ 0x01#6, .sllw 5 6 7),
  (28#5 ++ 7#7 ++ 6#7 ++ 5#7 ++ 0x01#6, .srlw 5 6 7),
  (29#5 ++ 7#7 ++ 6#7 ++ 5#7 ++ 0x01#6, .sraw 5 6 7)] = true := by decide +kernel

theorem test_words_02 : Tests.reads [
  (11#10 ++ 0#2 ++ 6#7 ++ 5#7 ++ 0x02#6, .addi 5 6 11),
  (11#10 ++ 1#2 ++ 6#7 ++ 5#7 ++ 0x02#6, .andi 5 6 11),
  (11#10 ++ 2#2 ++ 6#7 ++ 5#7 ++ 0x02#6, .ori 5 6 11),
  (11#10 ++ 3#2 ++ 6#7 ++ 5#7 ++ 0x02#6, .xori 5 6 11)] = true := by decide +kernel

theorem test_words_03 : Tests.reads [
  (0#4 ++ 11#6 ++ 0#2 ++ 6#7 ++ 5#7 ++ 0x03#6, .slli 5 6 11),
  (0#4 ++ 11#6 ++ 1#2 ++ 6#7 ++ 5#7 ++ 0x03#6, .srli 5 6 11),
  (0#4 ++ 11#6 ++ 2#2 ++ 6#7 ++ 5#7 ++ 0x03#6, .srai 5 6 11),
  (11#10 ++ 3#2 ++ 6#7 ++ 5#7 ++ 0x03#6, .slti 5 6 11)] = true := by decide +kernel

theorem test_words_04 : Tests.reads [
  (10#19 ++ 5#7 ++ 0x04#6, .lui 5 10)] = true := by decide +kernel

theorem test_words_05 : Tests.reads [
  (10#19 ++ 5#7 ++ 0x05#6, .addpc 5 10)] = true := by decide +kernel

theorem test_words_06 : Tests.reads [
  (0#5 ++ 7#7 ++ 6#7 ++ 5#7 ++ 0x06#6, .faddS 5 6 7),
  (1#5 ++ 7#7 ++ 6#7 ++ 5#7 ++ 0x06#6, .fsubS 5 6 7),
  (2#5 ++ 7#7 ++ 6#7 ++ 5#7 ++ 0x06#6, .fmulS 5 6 7),
  (3#5 ++ 7#7 ++ 6#7 ++ 5#7 ++ 0x06#6, .fdivS 5 6 7),
  (4#5 ++ 0#7 ++ 6#7 ++ 5#7 ++ 0x06#6, .fsqrtS 5 6),
  (5#5 ++ 7#7 ++ 6#7 ++ 5#7 ++ 0x06#6, .fminS 5 6 7),
  (6#5 ++ 7#7 ++ 6#7 ++ 5#7 ++ 0x06#6, .fmaxS 5 6 7),
  (7#5 ++ 7#7 ++ 6#7 ++ 5#7 ++ 0x06#6, .feqS 5 6 7),
  (8#5 ++ 7#7 ++ 6#7 ++ 5#7 ++ 0x06#6, .fltS 5 6 7),
  (9#5 ++ 7#7 ++ 6#7 ++ 5#7 ++ 0x06#6, .fleS 5 6 7),
  (10#5 ++ 0#7 ++ 6#7 ++ 5#7 ++ 0x06#6, .fclassS 5 6),
  (11#5 ++ 0#7 ++ 6#7 ++ 5#7 ++ 0x06#6, .fcvtSI 5 6),
  (12#5 ++ 0#7 ++ 6#7 ++ 5#7 ++ 0x06#6, .fcvtIS 5 6),
  (13#5 ++ 7#7 ++ 6#7 ++ 5#7 ++ 0x06#6, .faddD 5 6 7),
  (14#5 ++ 7#7 ++ 6#7 ++ 5#7 ++ 0x06#6, .fsubD 5 6 7),
  (15#5 ++ 7#7 ++ 6#7 ++ 5#7 ++ 0x06#6, .fmulD 5 6 7),
  (16#5 ++ 7#7 ++ 6#7 ++ 5#7 ++ 0x06#6, .fdivD 5 6 7),
  (17#5 ++ 0#7 ++ 6#7 ++ 5#7 ++ 0x06#6, .fsqrtD 5 6),
  (18#5 ++ 7#7 ++ 6#7 ++ 5#7 ++ 0x06#6, .fminD 5 6 7),
  (19#5 ++ 7#7 ++ 6#7 ++ 5#7 ++ 0x06#6, .fmaxD 5 6 7),
  (20#5 ++ 7#7 ++ 6#7 ++ 5#7 ++ 0x06#6, .feqD 5 6 7),
  (21#5 ++ 7#7 ++ 6#7 ++ 5#7 ++ 0x06#6, .fltD 5 6 7),
  (22#5 ++ 7#7 ++ 6#7 ++ 5#7 ++ 0x06#6, .fleD 5 6 7),
  (23#5 ++ 0#7 ++ 6#7 ++ 5#7 ++ 0x06#6, .fcvtDS 5 6),
  (24#5 ++ 0#7 ++ 6#7 ++ 5#7 ++ 0x06#6, .fcvtSD 5 6),
  (25#5 ++ 0#7 ++ 6#7 ++ 5#7 ++ 0x06#6, .fcvtDI 5 6),
  (26#5 ++ 0#7 ++ 6#7 ++ 5#7 ++ 0x06#6, .fcvtID 5 6),
  (27#5 ++ 7#7 ++ 6#7 ++ 5#7 ++ 0x06#6, .fsgcS 5 6 7),
  (28#5 ++ 7#7 ++ 6#7 ++ 5#7 ++ 0x06#6, .fsgiS 5 6 7),
  (29#5 ++ 7#7 ++ 6#7 ++ 5#7 ++ 0x06#6, .fsgxS 5 6 7),
  (30#5 ++ 0#7 ++ 6#7 ++ 5#7 ++ 0x06#6, .fcvtHS 5 6),
  (31#5 ++ 0#7 ++ 6#7 ++ 5#7 ++ 0x06#6, .fcvtSH 5 6)] = true := by decide +kernel

theorem test_words_07 : Tests.reads [
  (0#5 ++ 7#7 ++ 6#7 ++ 5#7 ++ 0x07#6, .fmaS 5 6 7),
  (1#5 ++ 7#7 ++ 6#7 ++ 5#7 ++ 0x07#6, .fmsS 5 6 7),
  (2#5 ++ 7#7 ++ 6#7 ++ 5#7 ++ 0x07#6, .fnmaS 5 6 7),
  (3#5 ++ 7#7 ++ 6#7 ++ 5#7 ++ 0x07#6, .fmaD 5 6 7),
  (4#5 ++ 7#7 ++ 6#7 ++ 5#7 ++ 0x07#6, .fmsD 5 6 7),
  (5#5 ++ 7#7 ++ 6#7 ++ 5#7 ++ 0x07#6, .fnmaD 5 6 7)] = true := by decide +kernel

theorem test_words_08 : Tests.reads [
  (10#16 ++ 0#3 ++ 6#7 ++ 0x08#6, .beqz 6 10),
  (10#16 ++ 1#3 ++ 6#7 ++ 0x08#6, .bnez 6 10),
  (10#16 ++ 2#3 ++ 6#7 ++ 0x08#6, .bltz 6 10),
  (10#16 ++ 3#3 ++ 6#7 ++ 0x08#6, .bgez 6 10),
  (10#16 ++ 4#3 ++ 6#7 ++ 0x08#6, .bgtz 6 10),
  (10#16 ++ 5#3 ++ 6#7 ++ 0x08#6, .blez 6 10)] = true := by decide +kernel

theorem test_words_09 : Tests.reads [
  (11#9 ++ 0#3 ++ 7#7 ++ 6#7 ++ 0x09#6, .beq 6 7 11),
  (11#9 ++ 1#3 ++ 7#7 ++ 6#7 ++ 0x09#6, .bne 6 7 11),
  (11#9 ++ 2#3 ++ 7#7 ++ 6#7 ++ 0x09#6, .blt 6 7 11),
  (11#9 ++ 3#3 ++ 7#7 ++ 6#7 ++ 0x09#6, .bge 6 7 11),
  (11#9 ++ 4#3 ++ 7#7 ++ 6#7 ++ 0x09#6, .bltn 6 7 11),
  (11#9 ++ 5#3 ++ 7#7 ++ 6#7 ++ 0x09#6, .bgen 6 7 11)] = true := by decide +kernel

theorem test_words_0a : Tests.reads [
  (9#26 ++ 0x0A#6, .j 9)] = true := by decide +kernel

theorem test_words_0b : Tests.reads [
  (9#26 ++ 0x0B#6, .jl 9)] = true := by decide +kernel

theorem test_words_0c : Tests.reads [
  (11#12 ++ 6#7 ++ 5#7 ++ 0x0C#6, .jlr 5 6 11)] = true := by decide +kernel

theorem test_words_0d : Tests.reads [
  (12#10 ++ 3#2 ++ 6#7 ++ 5#7 ++ 0x0D#6, .ldg 5 6 3 12)] = true := by decide +kernel

theorem test_words_0e : Tests.reads [
  (12#10 ++ 2#2 ++ 6#7 ++ 5#7 ++ 0x0E#6, .ldgz 5 6 2 12)] = true := by decide +kernel

theorem test_words_0f : Tests.reads [
  (12#10 ++ 3#2 ++ 6#7 ++ 5#7 ++ 0x0F#6, .stg 5 6 3 12)] = true := by decide +kernel

theorem test_words_10 : Tests.reads [
  (12#10 ++ 3#2 ++ 6#7 ++ 5#7 ++ 0x10#6, .lds 5 6 3 12)] = true := by decide +kernel

theorem test_words_11 : Tests.reads [
  (12#10 ++ 3#2 ++ 6#7 ++ 5#7 ++ 0x11#6, .sts 5 6 3 12)] = true := by decide +kernel

theorem test_words_12 : Tests.reads [
  (0#5 ++ 0#7 ++ 6#7 ++ 5#7 ++ 0x12#6, .ldaW 5 6),
  (1#5 ++ 0#7 ++ 6#7 ++ 5#7 ++ 0x12#6, .ldaD 5 6),
  (2#5 ++ 7#7 ++ 6#7 ++ 0#7 ++ 0x12#6, .stlW 6 7),
  (3#5 ++ 7#7 ++ 6#7 ++ 0#7 ++ 0x12#6, .stlD 6 7),
  (4#5 ++ 0#7 ++ 6#7 ++ 5#7 ++ 0x12#6, .ldasW 5 6),
  (5#5 ++ 0#7 ++ 6#7 ++ 5#7 ++ 0x12#6, .ldasD 5 6),
  (6#5 ++ 7#7 ++ 6#7 ++ 0#7 ++ 0x12#6, .stlsW 6 7),
  (7#5 ++ 7#7 ++ 6#7 ++ 0#7 ++ 0x12#6, .stlsD 6 7)] = true := by decide +kernel

theorem test_words_13 : Tests.reads [
  (0#5 ++ 0#7 ++ 0#7 ++ 0#7 ++ 0x13#6, .fenceAcq 0),
  (1#5 ++ 0#7 ++ 0#7 ++ 1#7 ++ 0x13#6, .fenceRel 1),
  (2#5 ++ 0#7 ++ 0#7 ++ 2#7 ++ 0x13#6, .fenceAr 2),
  (3#5 ++ 0#7 ++ 0#7 ++ 3#7 ++ 0x13#6, .fenceSc 3),
  (4#5 ++ 0#7 ++ 0#7 ++ 4#7 ++ 0x13#6, .fenceIo 4),
  (5#5 ++ 0#7 ++ 0#7 ++ 5#7 ++ 0x13#6, .fenceEng 5)] = true := by decide +kernel

theorem test_words_14 : Tests.reads [
  (0#4 ++ 1#1 ++ 7#7 ++ 6#7 ++ 5#7 ++ 5#4 ++ 1#2, .amgAdd 1 5 6 7 1),
  (1#4 ++ 1#1 ++ 7#7 ++ 6#7 ++ 5#7 ++ 5#4 ++ 1#2, .amgAnd 1 5 6 7 1),
  (2#4 ++ 1#1 ++ 7#7 ++ 6#7 ++ 5#7 ++ 5#4 ++ 1#2, .amgOr 1 5 6 7 1),
  (3#4 ++ 1#1 ++ 7#7 ++ 6#7 ++ 5#7 ++ 5#4 ++ 1#2, .amgXor 1 5 6 7 1),
  (4#4 ++ 1#1 ++ 7#7 ++ 6#7 ++ 5#7 ++ 5#4 ++ 1#2, .amgMin 1 5 6 7 1),
  (5#4 ++ 1#1 ++ 7#7 ++ 6#7 ++ 5#7 ++ 5#4 ++ 1#2, .amgMax 1 5 6 7 1),
  (6#4 ++ 1#1 ++ 7#7 ++ 6#7 ++ 5#7 ++ 5#4 ++ 1#2, .amgMinn 1 5 6 7 1),
  (7#4 ++ 1#1 ++ 7#7 ++ 6#7 ++ 5#7 ++ 5#4 ++ 1#2, .amgMaxn 1 5 6 7 1),
  (8#4 ++ 1#1 ++ 7#7 ++ 6#7 ++ 5#7 ++ 5#4 ++ 1#2, .amgSwp 1 5 6 7 1),
  (9#4 ++ 1#1 ++ 7#7 ++ 6#7 ++ 5#7 ++ 5#4 ++ 1#2, .amgCas 1 5 6 7 1),
  (10#4 ++ 1#1 ++ 7#7 ++ 6#7 ++ 5#7 ++ 5#4 ++ 1#2, .amgFadd 1 5 6 7 1),
  (11#4 ++ 1#1 ++ 7#7 ++ 6#7 ++ 5#7 ++ 5#4 ++ 1#2, .amgInc 1 5 6 7 1)] = true := by decide +kernel

theorem test_words_18 : Tests.reads [
  (0#4 ++ 1#1 ++ 7#7 ++ 6#7 ++ 5#7 ++ 6#4 ++ 1#2, .amsAdd 1 5 6 7 1),
  (1#4 ++ 1#1 ++ 7#7 ++ 6#7 ++ 5#7 ++ 6#4 ++ 1#2, .amsAnd 1 5 6 7 1),
  (2#4 ++ 1#1 ++ 7#7 ++ 6#7 ++ 5#7 ++ 6#4 ++ 1#2, .amsOr 1 5 6 7 1),
  (3#4 ++ 1#1 ++ 7#7 ++ 6#7 ++ 5#7 ++ 6#4 ++ 1#2, .amsXor 1 5 6 7 1),
  (4#4 ++ 1#1 ++ 7#7 ++ 6#7 ++ 5#7 ++ 6#4 ++ 1#2, .amsMin 1 5 6 7 1),
  (5#4 ++ 1#1 ++ 7#7 ++ 6#7 ++ 5#7 ++ 6#4 ++ 1#2, .amsMax 1 5 6 7 1),
  (6#4 ++ 1#1 ++ 7#7 ++ 6#7 ++ 5#7 ++ 6#4 ++ 1#2, .amsMinn 1 5 6 7 1),
  (7#4 ++ 1#1 ++ 7#7 ++ 6#7 ++ 5#7 ++ 6#4 ++ 1#2, .amsMaxn 1 5 6 7 1),
  (8#4 ++ 1#1 ++ 7#7 ++ 6#7 ++ 5#7 ++ 6#4 ++ 1#2, .amsSwp 1 5 6 7 1),
  (9#4 ++ 1#1 ++ 7#7 ++ 6#7 ++ 5#7 ++ 6#4 ++ 1#2, .amsCas 1 5 6 7 1),
  (10#4 ++ 1#1 ++ 7#7 ++ 6#7 ++ 5#7 ++ 6#4 ++ 1#2, .amsFadd 1 5 6 7 1),
  (11#4 ++ 1#1 ++ 7#7 ++ 6#7 ++ 5#7 ++ 6#4 ++ 1#2, .amsInc 1 5 6 7 1)] = true := by decide +kernel

theorem test_words_1c : Tests.reads [
  (0#5 ++ 9#7 ++ 0#7 ++ 0#7 ++ 0x1C#6, .sysc 9),
  (1#5 ++ 0#7 ++ 0#7 ++ 0#7 ++ 0x1C#6, .tret),
  (2#5 ++ 9#7 ++ 0#7 ++ 0#7 ++ 0x1C#6, .brk 9),
  (3#5 ++ 0#7 ++ 25#7 ++ 1#7 ++ 0x1C#6, .wbase 1 25),
  (4#5 ++ 0#7 ++ 0#7 ++ 0#7 ++ 0x1C#6, .pause)] = true := by decide +kernel

theorem test_words_1d : Tests.reads [
  (10#12 ++ 0#7 ++ 0#2 ++ 5#5 ++ 0x1D#6, .csrrd 5 10),
  (11#12 ++ 6#7 ++ 1#2 ++ 5#5 ++ 0x1D#6, .csrwr 5 6 11),
  (11#12 ++ 6#7 ++ 2#2 ++ 5#5 ++ 0x1D#6, .csrset 5 6 11),
  (11#12 ++ 6#7 ++ 3#2 ++ 5#5 ++ 0x1D#6, .csrclr 5 6 11)] = true := by decide +kernel

theorem test_words_1e : Tests.reads [
  (0#5 ++ 7#7 ++ 6#7 ++ 5#7 ++ 0x1E#6, .spawn 5 6 7),
  (1#5 ++ 0#7 ++ 0#7 ++ 0#7 ++ 0x1E#6, .exit),
  (2#5 ++ 0#7 ++ 6#7 ++ 5#7 ++ 0x1E#6, .join 5 6),
  (3#5 ++ 0#7 ++ 6#7 ++ 0#7 ++ 0x1E#6, .leave 6),
  (4#5 ++ 0#7 ++ 6#7 ++ 5#7 ++ 0x1E#6, .gsize 5 6),
  (5#5 ++ 0#7 ++ 6#7 ++ 5#7 ++ 0x1E#6, .grank 5 6),
  (6#5 ++ 0#7 ++ 6#7 ++ 0#7 ++ 0x1E#6, .gbar 6),
  (7#5 ++ 0#7 ++ 0#7 ++ 5#7 ++ 0x1E#6, .tidg 5)] = true := by decide +kernel

theorem test_words_1f : Tests.reads [
  (0#5 ++ 7#7 ++ 6#7 ++ 0#7 ++ 0x1F#6, .binit 6 7),
  (1#5 ++ 7#7 ++ 6#7 ++ 0#7 ++ 0x1F#6, .bexp 6 7),
  (2#5 ++ 7#7 ++ 6#7 ++ 5#7 ++ 0x1F#6, .barv 5 6 7),
  (3#5 ++ 7#7 ++ 6#7 ++ 0#7 ++ 0x1F#6, .bwait 6 7),
  (4#5 ++ 7#7 ++ 6#7 ++ 5#7 ++ 0x1F#6, .btest 5 6 7),
  (5#5 ++ 7#7 ++ 6#7 ++ 0#7 ++ 0x1F#6, .binitG 6 7),
  (6#5 ++ 7#7 ++ 6#7 ++ 0#7 ++ 0x1F#6, .bexpG 6 7),
  (7#5 ++ 7#7 ++ 6#7 ++ 5#7 ++ 0x1F#6, .barvG 5 6 7),
  (8#5 ++ 7#7 ++ 6#7 ++ 0#7 ++ 0x1F#6, .bwaitG 6 7),
  (9#5 ++ 7#7 ++ 6#7 ++ 5#7 ++ 0x1F#6, .btestG 5 6 7)] = true := by decide +kernel

theorem test_words_20 : Tests.reads [
  (0#5 ++ 0#7 ++ 6#7 ++ 0#7 ++ 0x20#6, .bqpush 6),
  (1#5 ++ 0#7 ++ 10#7 ++ 5#7 ++ 0x20#6, .qstat 5 10),
  (2#5 ++ 0#7 ++ 9#7 ++ 0#7 ++ 0x20#6, .qdrain 9)] = true := by decide +kernel

theorem test_words_21 : Tests.reads [
  (9#16 ++ 0#3 ++ 0#7 ++ 0x21#6, .bqt 9),
  (9#16 ++ 1#3 ++ 0#7 ++ 0x21#6, .bqf 9)] = true := by decide +kernel

theorem test_words_22 : Tests.reads [
  (436#12 ++ 6#7 ++ 5#7 ++ 0x22#6, .vsetl 5 6 436)] = true := by decide +kernel

theorem test_words_23 : Tests.reads [
  (0#5 ++ 0#7 ++ 6#7 ++ 0#7 ++ 0x23#6, .vsetr 6),
  (1#5 ++ 7#7 ++ 6#7 ++ 5#7 ++ 0x23#6, .vsetlx 5 6 7),
  (2#5 ++ 0#7 ++ 0#7 ++ 0#7 ++ 0x23#6, .vstrip)] = true := by decide +kernel

theorem test_words_24 : Tests.reads [
  (0#4 ++ 1#1 ++ 7#7 ++ 6#7 ++ 5#7 ++ 0x24#6, .vadd 5 6 7 1),
  (1#4 ++ 1#1 ++ 7#7 ++ 6#7 ++ 5#7 ++ 0x24#6, .vsub 5 6 7 1),
  (2#4 ++ 1#1 ++ 7#7 ++ 6#7 ++ 5#7 ++ 0x24#6, .vmul 5 6 7 1),
  (3#4 ++ 1#1 ++ 7#7 ++ 6#7 ++ 5#7 ++ 0x24#6, .vmulh 5 6 7 1),
  (4#4 ++ 1#1 ++ 7#7 ++ 6#7 ++ 5#7 ++ 0x24#6, .vmulhn 5 6 7 1),
  (5#4 ++ 1#1 ++ 7#7 ++ 6#7 ++ 5#7 ++ 0x24#6, .vand 5 6 7 1),
  (6#4 ++ 1#1 ++ 7#7 ++ 6#7 ++ 5#7 ++ 0x24#6, .vor 5 6 7 1),
  (7#4 ++ 1#1 ++ 7#7 ++ 6#7 ++ 5#7 ++ 0x24#6, .vxor 5 6 7 1),
  (8#4 ++ 1#1 ++ 7#7 ++ 6#7 ++ 5#7 ++ 0x24#6, .vsll 5 6 7 1),
  (9#4 ++ 1#1 ++ 7#7 ++ 6#7 ++ 5#7 ++ 0x24#6, .vsrl 5 6 7 1),
  (10#4 ++ 1#1 ++ 7#7 ++ 6#7 ++ 5#7 ++ 0x24#6, .vsra 5 6 7 1),
  (11#4 ++ 1#1 ++ 7#7 ++ 6#7 ++ 5#7 ++ 0x24#6, .vmin 5 6 7 1),
  (12#4 ++ 1#1 ++ 7#7 ++ 6#7 ++ 5#7 ++ 0x24#6, .vmax 5 6 7 1),
  (13#4 ++ 1#1 ++ 7#7 ++ 6#7 ++ 5#7 ++ 0x24#6, .vminn 5 6 7 1),
  (14#4 ++ 1#1 ++ 7#7 ++ 6#7 ++ 5#7 ++ 0x24#6, .vmaxn 5 6 7 1),
  (15#4 ++ 1#1 ++ 7#7 ++ 6#7 ++ 5#7 ++ 0x24#6, .vsadd 5 6 7 1)] = true := by decide +kernel

theorem test_words_25 : Tests.reads [
  (0#4 ++ 1#1 ++ 7#7 ++ 6#7 ++ 5#7 ++ 0x25#6, .vaddVs 5 6 7 1),
  (1#4 ++ 1#1 ++ 7#7 ++ 6#7 ++ 5#7 ++ 0x25#6, .vsubVs 5 6 7 1),
  (2#4 ++ 1#1 ++ 7#7 ++ 6#7 ++ 5#7 ++ 0x25#6, .vmulVs 5 6 7 1),
  (3#4 ++ 1#1 ++ 7#7 ++ 6#7 ++ 5#7 ++ 0x25#6, .vmulhVs 5 6 7 1),
  (4#4 ++ 1#1 ++ 7#7 ++ 6#7 ++ 5#7 ++ 0x25#6, .vmulhnVs 5 6 7 1),
  (5#4 ++ 1#1 ++ 7#7 ++ 6#7 ++ 5#7 ++ 0x25#6, .vandVs 5 6 7 1),
  (6#4 ++ 1#1 ++ 7#7 ++ 6#7 ++ 5#7 ++ 0x25#6, .vorVs 5 6 7 1),
  (7#4 ++ 1#1 ++ 7#7 ++ 6#7 ++ 5#7 ++ 0x25#6, .vxorVs 5 6 7 1),
  (8#4 ++ 1#1 ++ 7#7 ++ 6#7 ++ 5#7 ++ 0x25#6, .vsllVs 5 6 7 1),
  (9#4 ++ 1#1 ++ 7#7 ++ 6#7 ++ 5#7 ++ 0x25#6, .vsrlVs 5 6 7 1),
  (10#4 ++ 1#1 ++ 7#7 ++ 6#7 ++ 5#7 ++ 0x25#6, .vsraVs 5 6 7 1),
  (11#4 ++ 1#1 ++ 7#7 ++ 6#7 ++ 5#7 ++ 0x25#6, .vminVs 5 6 7 1),
  (12#4 ++ 1#1 ++ 7#7 ++ 6#7 ++ 5#7 ++ 0x25#6, .vmaxVs 5 6 7 1),
  (13#4 ++ 1#1 ++ 7#7 ++ 6#7 ++ 5#7 ++ 0x25#6, .vminnVs 5 6 7 1),
  (14#4 ++ 1#1 ++ 7#7 ++ 6#7 ++ 5#7 ++ 0x25#6, .vmaxnVs 5 6 7 1),
  (15#4 ++ 1#1 ++ 7#7 ++ 6#7 ++ 5#7 ++ 0x25#6, .vsaddVs 5 6 7 1)] = true := by decide +kernel

theorem test_words_26 : Tests.reads [
  (0#4 ++ 1#1 ++ 7#7 ++ 6#7 ++ 5#7 ++ 0x26#6, .vfadd 5 6 7 1),
  (1#4 ++ 1#1 ++ 7#7 ++ 6#7 ++ 5#7 ++ 0x26#6, .vfsub 5 6 7 1),
  (2#4 ++ 1#1 ++ 7#7 ++ 6#7 ++ 5#7 ++ 0x26#6, .vfmul 5 6 7 1),
  (3#4 ++ 1#1 ++ 7#7 ++ 6#7 ++ 5#7 ++ 0x26#6, .vfdiv 5 6 7 1),
  (4#4 ++ 1#1 ++ 7#7 ++ 6#7 ++ 5#7 ++ 0x26#6, .vfmin 5 6 7 1),
  (5#4 ++ 1#1 ++ 7#7 ++ 6#7 ++ 5#7 ++ 0x26#6, .vfmax 5 6 7 1),
  (6#4 ++ 1#1 ++ 0#7 ++ 6#7 ++ 5#7 ++ 0x26#6, .vfsqrt 5 6 1),
  (7#4 ++ 1#1 ++ 0#7 ++ 6#7 ++ 5#7 ++ 0x26#6, .vfabs 5 6 1),
  (8#4 ++ 1#1 ++ 0#7 ++ 6#7 ++ 5#7 ++ 0x26#6, .vfneg 5 6 1),
  (9#4 ++ 1#1 ++ 7#7 ++ 6#7 ++ 5#7 ++ 0x26#6, .vfsgc 5 6 7 1),
  (10#4 ++ 1#1 ++ 0#7 ++ 6#7 ++ 5#7 ++ 0x26#6, .vfrece 5 6 1),
  (11#4 ++ 1#1 ++ 0#7 ++ 6#7 ++ 5#7 ++ 0x26#6, .vfrsqe 5 6 1),
  (12#4 ++ 1#1 ++ 0#7 ++ 6#7 ++ 5#7 ++ 0x26#6, .vfexp2e 5 6 1),
  (13#4 ++ 1#1 ++ 0#7 ++ 6#7 ++ 5#7 ++ 0x26#6, .vfclass 5 6 1),
  (14#4 ++ 1#1 ++ 7#7 ++ 6#7 ++ 5#7 ++ 0x26#6, .vfaddw 5 6 7 1),
  (15#4 ++ 1#1 ++ 7#7 ++ 6#7 ++ 5#7 ++ 0x26#6, .vfmulw 5 6 7 1)] = true := by decide +kernel

theorem test_words_27 : Tests.reads [
  (0#4 ++ 1#1 ++ 7#7 ++ 6#7 ++ 5#7 ++ 0x27#6, .vfaddVs 5 6 7 1),
  (1#4 ++ 1#1 ++ 7#7 ++ 6#7 ++ 5#7 ++ 0x27#6, .vfsubVs 5 6 7 1),
  (2#4 ++ 1#1 ++ 7#7 ++ 6#7 ++ 5#7 ++ 0x27#6, .vfmulVs 5 6 7 1),
  (3#4 ++ 1#1 ++ 7#7 ++ 6#7 ++ 5#7 ++ 0x27#6, .vfdivVs 5 6 7 1),
  (4#4 ++ 1#1 ++ 7#7 ++ 6#7 ++ 5#7 ++ 0x27#6, .vfminVs 5 6 7 1),
  (5#4 ++ 1#1 ++ 7#7 ++ 6#7 ++ 5#7 ++ 0x27#6, .vfmaxVs 5 6 7 1),
  (6#4 ++ 1#1 ++ 7#7 ++ 0#7 ++ 5#7 ++ 0x27#6, .vfsqrtVs 5 7 1),
  (7#4 ++ 1#1 ++ 7#7 ++ 0#7 ++ 5#7 ++ 0x27#6, .vfabsVs 5 7 1),
  (8#4 ++ 1#1 ++ 7#7 ++ 0#7 ++ 5#7 ++ 0x27#6, .vfnegVs 5 7 1),
  (9#4 ++ 1#1 ++ 7#7 ++ 6#7 ++ 5#7 ++ 0x27#6, .vfsgcVs 5 6 7 1),
  (10#4 ++ 1#1 ++ 7#7 ++ 0#7 ++ 5#7 ++ 0x27#6, .vfreceVs 5 7 1),
  (11#4 ++ 1#1 ++ 7#7 ++ 0#7 ++ 5#7 ++ 0x27#6, .vfrsqeVs 5 7 1),
  (12#4 ++ 1#1 ++ 7#7 ++ 0#7 ++ 5#7 ++ 0x27#6, .vfexp2eVs 5 7 1),
  (13#4 ++ 1#1 ++ 7#7 ++ 0#7 ++ 5#7 ++ 0x27#6, .vfclassVs 5 7 1),
  (14#4 ++ 1#1 ++ 7#7 ++ 6#7 ++ 5#7 ++ 0x27#6, .vfclamp 5 6 7 1)] = true := by decide +kernel

theorem test_words_28 : Tests.reads [
  (0#4 ++ 1#1 ++ 7#7 ++ 6#7 ++ 5#7 ++ 0x28#6, .vfma 5 6 7 1),
  (1#4 ++ 1#1 ++ 7#7 ++ 6#7 ++ 5#7 ++ 0x28#6, .vfms 5 6 7 1),
  (2#4 ++ 1#1 ++ 7#7 ++ 6#7 ++ 5#7 ++ 0x28#6, .vfnma 5 6 7 1),
  (3#4 ++ 1#1 ++ 7#7 ++ 6#7 ++ 5#7 ++ 0x28#6, .vfnms 5 6 7 1),
  (4#4 ++ 1#1 ++ 7#7 ++ 6#7 ++ 5#7 ++ 0x28#6, .vfmaX 5 6 7 1),
  (5#4 ++ 1#1 ++ 7#7 ++ 6#7 ++ 5#7 ++ 0x28#6, .vfmsX 5 6 7 1),
  (6#4 ++ 1#1 ++ 7#7 ++ 6#7 ++ 5#7 ++ 0x28#6, .vfnmaX 5 6 7 1),
  (7#4 ++ 1#1 ++ 7#7 ++ 6#7 ++ 5#7 ++ 0x28#6, .vfnmsX 5 6 7 1),
  (8#4 ++ 1#1 ++ 7#7 ++ 6#7 ++ 5#7 ++ 0x28#6, .vfmaw 5 6 7 1),
  (9#4 ++ 1#1 ++ 7#7 ++ 6#7 ++ 5#7 ++ 0x28#6, .vfmawX 5 6 7 1),
  (10#4 ++ 1#1 ++ 7#7 ++ 6#7 ++ 5#7 ++ 0x28#6, .vmacc 5 6 7 1),
  (11#4 ++ 1#1 ++ 7#7 ++ 6#7 ++ 5#7 ++ 0x28#6, .vmaccX 5 6 7 1)] = true := by decide +kernel

theorem test_words_29 : Tests.reads [
  (0#4 ++ 1#1 ++ 7#7 ++ 6#7 ++ 0#3 ++ 9#4 ++ 0x29#6, .vseq 9 6 7 1),
  (1#4 ++ 1#1 ++ 7#7 ++ 6#7 ++ 0#3 ++ 9#4 ++ 0x29#6, .vsne 9 6 7 1),
  (2#4 ++ 1#1 ++ 7#7 ++ 6#7 ++ 0#3 ++ 9#4 ++ 0x29#6, .vslt 9 6 7 1),
  (3#4 ++ 1#1 ++ 7#7 ++ 6#7 ++ 0#3 ++ 9#4 ++ 0x29#6, .vsle 9 6 7 1),
  (4#4 ++ 1#1 ++ 7#7 ++ 6#7 ++ 0#3 ++ 9#4 ++ 0x29#6, .vsltn 9 6 7 1),
  (5#4 ++ 1#1 ++ 7#7 ++ 6#7 ++ 0#3 ++ 9#4 ++ 0x29#6, .vslen 9 6 7 1),
  (6#4 ++ 1#1 ++ 7#7 ++ 6#7 ++ 0#3 ++ 9#4 ++ 0x29#6, .vfeq 9 6 7 1),
  (7#4 ++ 1#1 ++ 7#7 ++ 6#7 ++ 0#3 ++ 9#4 ++ 0x29#6, .vfne 9 6 7 1),
  (8#4 ++ 1#1 ++ 7#7 ++ 6#7 ++ 0#3 ++ 9#4 ++ 0x29#6, .vflt 9 6 7 1),
  (9#4 ++ 1#1 ++ 7#7 ++ 6#7 ++ 0#3 ++ 9#4 ++ 0x29#6, .vfle 9 6 7 1),
  (10#4 ++ 1#1 ++ 7#7 ++ 6#7 ++ 0#3 ++ 9#4 ++ 0x29#6, .vfunord 9 6 7 1),
  (11#4 ++ 1#1 ++ 7#7 ++ 6#7 ++ 0#3 ++ 9#4 ++ 0x29#6, .vsltX 9 6 7 1),
  (12#4 ++ 1#1 ++ 7#7 ++ 6#7 ++ 0#3 ++ 9#4 ++ 0x29#6, .vsgtX 9 6 7 1),
  (13#4 ++ 1#1 ++ 7#7 ++ 6#7 ++ 0#3 ++ 9#4 ++ 0x29#6, .vfltX 9 6 7 1),
  (14#4 ++ 1#1 ++ 7#7 ++ 6#7 ++ 0#3 ++ 9#4 ++ 0x29#6, .vfgtX 9 6 7 1),
  (15#4 ++ 1#1 ++ 7#7 ++ 6#7 ++ 0#3 ++ 9#4 ++ 0x29#6, .vseqX 9 6 7 1)] = true := by decide +kernel

theorem test_words_2a : Tests.reads [
  (0#5 ++ 0#3 ++ 7#4 ++ 0#3 ++ 6#4 ++ 0#3 ++ 5#4 ++ 0x2A#6, .pand 5 6 7),
  (2#5 ++ 0#3 ++ 7#4 ++ 0#3 ++ 6#4 ++ 0#3 ++ 5#4 ++ 0x2A#6, .por 5 6 7),
  (4#5 ++ 0#3 ++ 7#4 ++ 0#3 ++ 6#4 ++ 0#3 ++ 5#4 ++ 0x2A#6, .pxor 5 6 7),
  (6#5 ++ 0#3 ++ 7#4 ++ 0#3 ++ 6#4 ++ 0#3 ++ 5#4 ++ 0x2A#6, .pandn 5 6 7),
  (8#5 ++ 0#7 ++ 0#3 ++ 6#4 ++ 0#3 ++ 5#4 ++ 0x2A#6, .pnot 5 6),
  (10#5 ++ 0#7 ++ 0#7 ++ 0#3 ++ 5#4 ++ 0x2A#6, .pset 5),
  (12#5 ++ 0#7 ++ 0#7 ++ 0#3 ++ 5#4 ++ 0x2A#6, .pclr 5),
  (14#5 ++ 0#3 ++ 7#4 ++ 0#3 ++ 6#4 ++ 0#3 ++ 5#4 ++ 0x2A#6, .pcut 5 6 7),
  (16#5 ++ 0#3 ++ 7#4 ++ 0#3 ++ 6#4 ++ 0#3 ++ 5#4 ++ 0x2A#6, .pcuti 5 6 7),
  (18#5 ++ 0#7 ++ 0#3 ++ 6#4 ++ 5#7 ++ 0x2A#6, .ppop 5 6),
  (20#5 ++ 0#7 ++ 0#3 ++ 6#4 ++ 5#7 ++ 0x2A#6, .pfirst 5 6),
  (22#5 ++ 0#7 ++ 6#7 ++ 0#3 ++ 5#4 ++ 0x2A#6, .pfromv 5 6),
  (24#5 ++ 0#7 ++ 0#3 ++ 6#4 ++ 5#7 ++ 0x2A#6, .ptov 5 6)] = true := by decide +kernel

theorem test_words_2b : Tests.reads [
  (0#4 ++ 1#1 ++ 7#7 ++ 6#7 ++ 5#7 ++ 0x2B#6, .vslideup 5 6 7 1),
  (1#4 ++ 1#1 ++ 7#7 ++ 6#7 ++ 5#7 ++ 0x2B#6, .vslidedn 5 6 7 1),
  (2#4 ++ 1#1 ++ 7#7 ++ 6#7 ++ 5#7 ++ 0x2B#6, .vslide1up 5 6 7 1),
  (3#4 ++ 1#1 ++ 7#7 ++ 6#7 ++ 5#7 ++ 0x2B#6, .vslide1dn 5 6 7 1),
  (4#4 ++ 1#1 ++ 7#7 ++ 6#7 ++ 5#7 ++ 0x2B#6, .vpermi 5 6 7 1),
  (10#5 ++ 0#3 ++ 7#4 ++ 6#7 ++ 5#7 ++ 0x2B#6, .vcompress 5 6 7),
  (12#5 ++ 0#3 ++ 7#4 ++ 6#7 ++ 5#7 ++ 0x2B#6, .vexpand 5 6 7),
  (14#5 ++ 7#7 ++ 6#7 ++ 5#7 ++ 0x2B#6, .vmerge 5 6 7),
  (8#4 ++ 1#1 ++ 0#7 ++ 6#7 ++ 5#7 ++ 0x2B#6, .vsplat 5 6 1),
  (18#5 ++ 7#7 ++ 6#7 ++ 5#7 ++ 0x2B#6, .vmvxs 5 6 7),
  (20#5 ++ 7#7 ++ 6#7 ++ 5#7 ++ 0x2B#6, .vrowbc 5 6 7),
  (22#5 ++ 0#7 ++ 6#7 ++ 5#7 ++ 0x2B#6, .vtrans 5 6)] = true := by decide +kernel

theorem test_words_2c : Tests.reads [
  (0#4 ++ 1#1 ++ 7#7 ++ 6#7 ++ 5#7 ++ 0x2C#6, .vredo 5 6 7 1),
  (1#4 ++ 1#1 ++ 7#7 ++ 6#7 ++ 5#7 ++ 0x2C#6, .vredt 5 6 7 1),
  (2#4 ++ 1#1 ++ 7#7 ++ 6#7 ++ 5#7 ++ 0x2C#6, .vredu 5 6 7 1),
  (3#4 ++ 1#1 ++ 7#7 ++ 6#7 ++ 5#7 ++ 0x2C#6, .vfredmin 5 6 7 1),
  (4#4 ++ 1#1 ++ 7#7 ++ 6#7 ++ 5#7 ++ 0x2C#6, .vfredmax 5 6 7 1),
  (5#4 ++ 1#1 ++ 7#7 ++ 6#7 ++ 5#7 ++ 0x2C#6, .vredsum 5 6 7 1),
  (6#4 ++ 1#1 ++ 7#7 ++ 6#7 ++ 5#7 ++ 0x2C#6, .vredmin 5 6 7 1),
  (7#4 ++ 1#1 ++ 7#7 ++ 6#7 ++ 5#7 ++ 0x2C#6, .vredmax 5 6 7 1),
  (8#4 ++ 1#1 ++ 7#7 ++ 6#7 ++ 5#7 ++ 0x2C#6, .vscano 5 6 7 1),
  (9#4 ++ 1#1 ++ 7#7 ++ 6#7 ++ 5#7 ++ 0x2C#6, .vscant 5 6 7 1),
  (10#4 ++ 1#1 ++ 7#7 ++ 6#7 ++ 5#7 ++ 0x2C#6, .vscanu 5 6 7 1),
  (11#4 ++ 1#1 ++ 7#7 ++ 6#7 ++ 5#7 ++ 0x2C#6, .viscan 5 6 7 1),
  (12#4 ++ 1#1 ++ 7#7 ++ 6#7 ++ 5#7 ++ 0x2C#6, .vredand 5 6 7 1),
  (13#4 ++ 1#1 ++ 7#7 ++ 6#7 ++ 5#7 ++ 0x2C#6, .vredor 5 6 7 1),
  (14#4 ++ 1#1 ++ 7#7 ++ 6#7 ++ 5#7 ++ 0x2C#6, .vredrow 5 6 7 1)] = true := by decide +kernel

theorem test_words_2d : Tests.reads [
  (0#4 ++ 1#1 ++ 14#7 ++ 6#7 ++ 5#7 ++ 0x2D#6, .vcvtf 5 6 14 1),
  (1#4 ++ 1#1 ++ 7#7 ++ 6#7 ++ 5#7 ++ 0x2D#6, .vcvtfi 5 6 7 1),
  (2#4 ++ 1#1 ++ 8#7 ++ 6#7 ++ 5#7 ++ 0x2D#6, .vcvtif 5 6 8 1),
  (3#4 ++ 1#1 ++ 12#7 ++ 6#7 ++ 5#7 ++ 0x2D#6, .vqnt 5 6 12 1),
  (4#4 ++ 1#1 ++ 10#7 ++ 6#7 ++ 5#7 ++ 0x2D#6, .vdqnt 5 6 10 1),
  (5#4 ++ 1#1 ++ 14#7 ++ 6#7 ++ 0#4 ++ 5#3 ++ 0x2D#6, .vbscale 5 6 14 1),
  (6#4 ++ 1#1 ++ 3#7 ++ 6#7 ++ 5#7 ++ 0x2D#6, .vcvti 5 6 3 1)] = true := by decide +kernel

theorem test_words_2e : Tests.reads [
  (12#9 ++ 11#9 ++ 1#1 ++ 5#7 ++ 0x2E#6, .vindex 5 1 11 12)] = true := by decide +kernel

theorem test_words_2f : Tests.reads [
  (0#4 ++ 1#1 ++ 0#1 ++ 3#3 ++ 0#3 ++ 6#7 ++ 5#7 ++ 0x2F#6, .vld 5 6 3 1),
  (1#4 ++ 1#1 ++ 7#7 ++ 6#7 ++ 5#7 ++ 0x2F#6, .vlds 5 6 7 1),
  (2#4 ++ 1#1 ++ 0#1 ++ 3#3 ++ 0#3 ++ 6#7 ++ 5#7 ++ 0x2F#6, .vldff 5 6 3 1),
  (3#4 ++ 1#1 ++ 0#1 ++ 4#3 ++ 3#3 ++ 6#7 ++ 5#7 ++ 0x2F#6, .vldseg 5 6 3 4 1),
  (4#4 ++ 1#1 ++ 7#7 ++ 6#7 ++ 5#7 ++ 0x2F#6, .vldx 5 6 7 1),
  (5#4 ++ 1#1 ++ 7#7 ++ 6#7 ++ 5#7 ++ 0x2F#6, .vldrow 5 6 7 1),
  (6#4 ++ 1#1 ++ 0#1 ++ 3#3 ++ 0#3 ++ 6#7 ++ 5#7 ++ 0x2F#6, .vldbc 5 6 3 1)] = true := by decide +kernel

theorem test_words_30 : Tests.reads [
  (0#4 ++ 1#1 ++ 0#1 ++ 3#3 ++ 0#3 ++ 6#7 ++ 5#7 ++ 0x30#6, .vst 5 6 3 1),
  (1#4 ++ 1#1 ++ 7#7 ++ 6#7 ++ 5#7 ++ 0x30#6, .vsts 5 6 7 1),
  (2#4 ++ 1#1 ++ 0#1 ++ 4#3 ++ 3#3 ++ 6#7 ++ 5#7 ++ 0x30#6, .vstseg 5 6 3 4 1),
  (3#4 ++ 1#1 ++ 7#7 ++ 6#7 ++ 5#7 ++ 0x30#6, .vstx 5 6 7 1),
  (4#4 ++ 1#1 ++ 7#7 ++ 6#7 ++ 5#7 ++ 0x30#6, .vstrow 5 6 7 1),
  (5#4 ++ 1#1 ++ 7#7 ++ 6#7 ++ 5#7 ++ 0x30#6, .vstxaddo 5 6 7 1),
  (6#4 ++ 1#1 ++ 7#7 ++ 6#7 ++ 5#7 ++ 0x30#6, .vstxadd 5 6 7 1)] = true := by decide +kernel

theorem test_words_31 : Tests.reads [
  (0#4 ++ 1#1 ++ 0#1 ++ 3#3 ++ 0#3 ++ 6#7 ++ 5#7 ++ 0x31#6, .vldsh 5 6 3 1),
  (1#4 ++ 1#1 ++ 7#7 ++ 6#7 ++ 5#7 ++ 0x31#6, .vldshs 5 6 7 1),
  (2#4 ++ 1#1 ++ 7#7 ++ 6#7 ++ 5#7 ++ 0x31#6, .vldshrow 5 6 7 1),
  (3#4 ++ 1#1 ++ 0#1 ++ 3#3 ++ 0#3 ++ 6#7 ++ 5#7 ++ 0x31#6, .vstsh 5 6 3 1),
  (4#4 ++ 1#1 ++ 7#7 ++ 6#7 ++ 5#7 ++ 0x31#6, .vstshs 5 6 7 1),
  (5#4 ++ 1#1 ++ 7#7 ++ 6#7 ++ 5#7 ++ 0x31#6, .vstshrow 5 6 7 1),
  (6#4 ++ 1#1 ++ 7#7 ++ 6#7 ++ 5#7 ++ 0x31#6, .vldshx 5 6 7 1),
  (7#4 ++ 1#1 ++ 7#7 ++ 6#7 ++ 5#7 ++ 0x31#6, .vstshx 5 6 7 1),
  (8#4 ++ 1#1 ++ 7#7 ++ 6#7 ++ 5#7 ++ 0x31#6, .vstshxaddo 5 6 7 1),
  (9#4 ++ 1#1 ++ 7#7 ++ 6#7 ++ 5#7 ++ 0x31#6, .vstshxadd 5 6 7 1)] = true := by decide +kernel

theorem test_words_32 : Tests.reads [
  (0#4 ++ 1#1 ++ 0#7 ++ 6#7 ++ 0#3 ++ 9#4 ++ 0x32#6, .vgwin 9 6 1),
  (1#4 ++ 1#1 ++ 0#7 ++ 6#7 ++ 5#7 ++ 0x32#6, .vgwset 5 6 1),
  (2#4 ++ 1#1 ++ 0#7 ++ 6#7 ++ 0#3 ++ 9#4 ++ 0x32#6, .vconf 9 6 1),
  (3#4 ++ 1#1 ++ 7#7 ++ 6#7 ++ 5#7 ++ 0x32#6, .vcomb 5 6 7 1),
  (4#4 ++ 1#1 ++ 0#7 ++ 6#7 ++ 5#7 ++ 0x32#6, .vconfm 5 6 1),
  (5#4 ++ 1#1 ++ 7#7 ++ 6#7 ++ 5#7 ++ 0x32#6, .vpacknz 5 6 7 1)] = true := by decide +kernel

theorem test_words_33 : Tests.reads [
  (0#2 ++ 0#3 ++ 7#7 ++ 6#7 ++ 0#3 ++ 9#4 ++ 0x33#6, .mmac 9 6 7 0),
  (0#2 ++ 1#3 ++ 7#7 ++ 6#7 ++ 0#3 ++ 9#4 ++ 0x33#6, .mmacn 9 6 7 0),
  (0#2 ++ 2#3 ++ 7#7 ++ 6#7 ++ 0#3 ++ 9#4 ++ 0x33#6, .mmaco 9 6 7 0),
  (0#2 ++ 3#3 ++ 7#7 ++ 6#7 ++ 0#3 ++ 9#4 ++ 0x33#6, .mmacs 9 6 7 0)] = true := by decide +kernel

theorem test_words_34 : Tests.reads [
  (0#5 ++ 0#7 ++ 6#7 ++ 0#3 ++ 9#4 ++ 0x34#6, .mzcfg 9 6),
  (1#5 ++ 0#7 ++ 0#7 ++ 0#3 ++ 9#4 ++ 0x34#6, .mzero 9),
  (2#5 ++ 7#7 ++ 6#7 ++ 0#3 ++ 9#4 ++ 0x34#6, .mzld 9 6 7),
  (3#5 ++ 7#7 ++ 6#7 ++ 0#3 ++ 9#4 ++ 0x34#6, .mzst 9 6 7),
  (4#5 ++ 7#7 ++ 0#3 ++ 10#4 ++ 5#7 ++ 0x34#6, .mzrv 5 10 7),
  (5#5 ++ 7#7 ++ 6#7 ++ 0#3 ++ 9#4 ++ 0x34#6, .mzwv 9 6 7),
  (6#5 ++ 0#7 ++ 6#7 ++ 0#3 ++ 9#4 ++ 0x34#6, .manch 9 6),
  (7#5 ++ 0#7 ++ 0#4 ++ 2#3 ++ 0#3 ++ 9#4 ++ 0x34#6, .mscan 9 2),
  (8#5 ++ 0#7 ++ 6#7 ++ 0#4 ++ 1#3 ++ 0x34#6, .mcarry 1 6),
  (9#5 ++ 0#7 ++ 6#7 ++ 0#4 ++ 1#3 ++ 0x34#6, .mcarryst 1 6),
  (10#5 ++ 0#7 ++ 0#7 ++ 0#7 ++ 0x34#6, .mcommit),
  (11#5 ++ 0#7 ++ 9#7 ++ 0#7 ++ 0x34#6, .mwait 9),
  (12#5 ++ 0#7 ++ 6#7 ++ 0#3 ++ 9#4 ++ 0x34#6, .mgain 9 6),
  (13#5 ++ 0#7 ++ 0#3 ++ 10#4 ++ 5#7 ++ 0x34#6, .mstat 5 10)] = true := by decide +kernel

theorem test_words_35 : Tests.reads [
  (0#5 ++ 0#7 ++ 6#7 ++ 0#3 ++ 9#4 ++ 0x35#6, .tdset 9 6),
  (1#5 ++ 0#7 ++ 6#7 ++ 0#3 ++ 9#4 ++ 0x35#6, .tdget 9 6),
  (2#5 ++ 0#7 ++ 0#3 ++ 10#4 ++ 0#4 ++ 1#3 ++ 0x35#6, .scld 1 10),
  (3#5 ++ 0#7 ++ 0#3 ++ 10#4 ++ 0#4 ++ 1#3 ++ 0x35#6, .scst 1 10),
  (4#5 ++ 0#7 ++ 0#7 ++ 0#3 ++ 9#4 ++ 0x35#6, .tdinv 9)] = true := by decide +kernel

theorem test_words_36 : Tests.reads [
  (0#5 ++ 0#7 ++ 6#7 ++ 0#7 ++ 0x36#6, .cpy 6),
  (1#5 ++ 0#7 ++ 6#7 ++ 0#3 ++ 9#4 ++ 0x36#6, .cpyb 9 6),
  (2#5 ++ 0#7 ++ 6#7 ++ 0#7 ++ 0x36#6, .cpyseg 6),
  (3#5 ++ 0#7 ++ 9#7 ++ 0#7 ++ 0x36#6, .cpyw 9),
  (4#5 ++ 0#7 ++ 0#7 ++ 5#7 ++ 0x36#6, .cpyq 5)] = true := by decide +kernel

theorem test_words_37 : Tests.reads [
  (11#9 ++ 0#3 ++ 7#7 ++ 6#7 ++ 0x37#6, .lmark 6 7 11),
  (11#9 ++ 1#3 ++ 7#7 ++ 6#7 ++ 0x37#6, .lmarkSweep 6 7 11)] = true := by decide +kernel

theorem test_words_38 : Tests.reads [
  (0#5 ++ 0#7 ++ 0#7 ++ 0#7 ++ 0x38#6, .lend),
  (1#5 ++ 0#7 ++ 6#7 ++ 0#7 ++ 0x38#6, .loff 6),
  (2#5 ++ 7#7 ++ 6#7 ++ 0#7 ++ 0x38#6, .rsnew 6 7),
  (3#5 ++ 0#7 ++ 6#7 ++ 5#7 ++ 0x38#6, .rsq 5 6),
  (4#5 ++ 7#7 ++ 6#7 ++ 0#7 ++ 0x38#6, .rspol 6 7)] = true := by decide +kernel

theorem test_words_39 : Tests.reads [
  (0#5 ++ 0#7 ++ 6#7 ++ 0#7 ++ 0x39#6, .tmark 6),
  (1#5 ++ 0#7 ++ 9#7 ++ 0#7 ++ 0x39#6, .progpt 9)] = true := by decide +kernel

/-! ## The states of the witnesses -/

/-- One single-mode tandem on core 0, at program counter 0 of a mapped page of 32 MiB, every register zero. -/
def Tests.one : State := { State.reset.loaded with dbg := {} }

/-- The same with these scalar registers. -/
def Tests.regs (r : List (Nat × Word)) : State := { Tests.one with me := { Tests.one.me with s := r } }

/-- The E-side of a paired tandem with these scalar registers, `xs` in the first queue to it and `ys` in the last queue from it. -/
def Tests.pair (r : List (Nat × Word)) (xs ys : List Word) : State :=
  { Tests.regs r with tan := { Tests.one.tan with single := false, sq := sparseSet {} (sparseSet {} [] 0 { items := xs }) 15 { items := ys } } }

/-- The A-side of a paired tandem with these scalar registers. -/
def Tests.aSide (r : List (Nat × Word)) : State := { Tests.pair r [] [] with onA := true }

/-- The hart holding these stores. -/
def Tests.holding (s : State) (l : List HeldStore) : State := { s with me := { s.me with held := l } }

/-- The hart with these values of control registers. -/
def Tests.csr (s : State) (f : Csr → Csr) : State := { s with me := { s.me with csr := f s.me.csr } }

/-- A held store of the byte 0xA5 at the last offset of the shared space, and one at address `a` of the mapped page. -/
def Tests.stores (a : Nat) : List HeldStore :=
  [{ shared := true, eligible := false, bytes := [{ va := 0x3FFFFF, pa := 0, val := 0xA5, mask := 0xFF }] },
   { shared := false, eligible := false, bytes := [{ va := a, pa := a, val := 0x5A, mask := 0xFF }] }]

/-- The translations of an access, where it has them. -/
def Tests.xlats (s : State) (k : AccessKind) (vport : Bool) (a n : Nat) : List Xlat :=
  match translateBytes s s.myCtx s.tan.die vport s.tan.firmware.isSome k a n with
  | .ok xs => xs
  | .error _ => []

/-- Scratch with these bytes written, from these offsets of cluster 0 on. -/
def Tests.scratch (s : State) (l : List (Nat × List Byte)) : State :=
  let cells := l.foldl (fun c e => ((range e.1 e.2.length).zip e.2).foldl (fun c p => insertKey c p.1 p.2) c) s.mem.scratch
  { s with mem := { s.mem with scratch := cells } }

/-- Device memory with these bytes written, from these physical addresses on, in every view. -/
def Tests.memory (s : State) (l : List (Nat × List Byte)) : State :=
  let cells := l.foldl (fun c e => ((range e.1 e.2.length).zip e.2).foldl (fun c p => sparseSet memDefault c p.1 p.2) c) s.mem.cells
  { s with mem := { s.mem with cells := cells } }

/-- Whether an outcome is a next state of which `p` holds. -/
def Tests.next (o : Host.Outcome State Fault Refusal) (p : State → Bool) : Bool :=
  match o with
  | .next t => p t
  | _ => false

/-- A hart's tables are canonical, decided. -/
def Tests.hartTidy (h : Hart) : Bool := sparseWf 0 h.s && sparseWf 0 h.v && sparseWf 0 h.p && sparseWf 0 h.k && sparseWf 0 h.h

theorem tidy_of_checks {s : State}
    (h : (Memory.wf s.mem.cells && Tests.hartTidy s.me && Tests.hartTidy s.peer && sparseWf 0 s.tan.zt && s.away.isEmpty && s.rel.safe.isNone) = true) :
    s.Tidy := by
  simp only [Tests.hartTidy, Bool.and_eq_true, List.isEmpty_iff, Option.isNone_iff_eq_none] at h
  obtain ⟨⟨⟨⟨⟨h1, h2⟩, h3⟩, h4⟩, h5⟩, h6⟩ := h
  refine ⟨h1, ?_, ?_, h4, ?_, ?_⟩
  · exact ⟨h2.1.1.1.1, h2.1.1.1.2, h2.1.1.2, h2.1.2, h2.2⟩
  · exact ⟨h3.1.1.1.1, h3.1.1.1.2, h3.1.1.2, h3.1.2, h3.2⟩
  · intro x hx; rw [h5] at hx; cases hx
  · intro p hp; rw [h6] at hp; cases hp

/-! ## Witnesses: retirement and scalar instructions -/

theorem witness_QuietRetirementOnlyRetires : Tests.one.Quiet := by unfold State.Quiet; decide +kernel

/-- Registers at both ends of the names. -/
theorem witness_two_sources_registers : Tests.one.can2 111 0 111 ∧ Tests.one.can1 0 111 := by
  unfold State.can2 State.can1 State.srcOk State.dstOk State.srcHere State.dstRoom; decide +kernel

/-- The first queue name twice, holding just two entries, and the last, with room for one. -/
theorem witness_two_sources_queues :
    let s := Tests.pair [] [5, 7] (List.replicate 31 1)
    s.can2 127 112 112 ∧ s.can1 127 112 ∧ s.dstOk 127 ∧ s.dstRoom 127 ∧ s.srcOk 112 ∧ s.srcHere 112 := by
  unfold State.can2 State.can1 State.srcOk State.dstOk State.srcHere State.dstRoom; decide +kernel

/-- A fused member, whose D names a register and whose sources are queues. -/
theorem witness_ScalarFloatWritesResultAndFlags_fused : (Tests.pair [] [5, 7] []).can2 111 112 112 := by
  unfold State.can2 State.srcOk State.dstOk State.srcHere State.dstRoom; decide +kernel

/-- The greatest codes that are no NaN. -/
theorem witness_FloatValuesRoundAndOrder :
    (fp64.decode 0xFFEFFFFFFFFFFFFF).isNaN = false ∧ (fp32.decode 0xFF800000).isNaN = false ∧ (e4m3.decode 0xFE).isNaN = false ∧
    (e5m2.decode 0xFC).isNaN = false ∧ (fp32.decode 0xFFFFFFFF).isNaN = true ∧ (fp64.decode 0x7FF0000000000001).isNaN = true := by
  decide +kernel

/-- Jumps to the ends of the active loop stay in it; the word before it and the one behind it leave it, the latter out of a sweep whose header ends a page. -/
theorem witness_BranchesAndJumpsGoWhereTheySay :
    let s (w : Option Sweep) : State := { Tests.one with me := { Tests.one.me with loop := some { start := 4, lend := 8, ra := 5, rb := 6, count := 3, start0 := 0, sweep := w } } }
    let w : Sweep := sweepOf 0x1FFFFC0 (fun _ => 0) []
    leavesLoop Tests.one.me 12 = false ∧ leavesLoop (s none).me 8 = false ∧ leavesLoop (s none).me 4 = false ∧ leavesLoop (s none).me 0 = true ∧
      leavesLoop (s (some w)).me 12 = true ∧ ((abandonSweep (s none).me (s none)) matches .ok _ _) = true ∧
      ((abandonSweep (s (some w)).me (s (some w))) matches .ok _ _) = true := by decide +kernel

/-- A shared load and a shared acquire load that end with the space, and one at its start. -/
theorem witness_ScalarLoadsReadTheirSpace_shared :
    let s := Tests.regs [(6, 0x3FFFF8)]
    s.can1 5 6 ∧ s.me.copies = [] ∧ (s.srcValue 6).toNat + 8 = s.sharedTop + 1 ∧ (s.srcValue 6).toNat % 8 = 0 ∧
      (Tests.one.srcValue 6).toNat + 1 ≤ Tests.one.sharedTop + 1 ∧ s.soundShared 0x3FFFF8 8 ∧ Tests.one.soundShared 0 1 := by
  unfold State.soundShared State.can1 State.srcOk State.dstOk State.srcHere State.dstRoom; decide +kernel

/-- Loads of the last doubleword of a page and of its first byte. -/
theorem witness_ScalarLoadsReadTheirSpace_global :
    let s := Tests.regs [(6, 0x1FFFFF8)]
    s.can1 5 6 ∧ s.unwatched ∧ s.opens .load false 0x1FFFFF8 8 (Tests.xlats s .load false 0x1FFFFF8 8) ∧
      s.sound (Tests.xlats s .load false 0x1FFFFF8 8) ∧ s.opens .load false 0 1 (Tests.xlats s .load false 0 1) := by
  unfold State.can1 State.srcOk State.dstOk State.srcHere State.dstRoom State.unwatched State.opens State.sound; decide +kernel

/-- A shared store that ends with the space, aligned and not. -/
theorem witness_PlainStoresAreHeldAndSeen_shared :
    let s := Tests.regs [(6, 0x3FFFF8), (7, 0x3FFFFD)]
    s.srcOk 6 ∧ s.srcOk 5 ∧ s.srcHere 6 ∧ (s.srcTaken 6).srcHere 5 ∧ s.me.copies = [] ∧ 0x3FFFF8 + 8 ≤ s.sharedTop + 1 ∧
      s.holds true (range 0x3FFFF8 8) ∧ 0x3FFFFD + 2 ≤ s.sharedTop + 1 ∧ s.holds true (range 0x3FFFFD 2) := by
  unfold State.srcOk State.srcHere State.holds; decide +kernel

/-- A store of the last doubleword of a page. -/
theorem witness_PlainStoresAreHeldAndSeen_global :
    let s := Tests.regs [(6, 0x1FFFFF8)]
    let xs := Tests.xlats s .store false 0x1FFFFF8 8
    s.unwatched ∧ s.opens .store false 0x1FFFFF8 8 xs ∧
      (((s.srcTaken 6).srcTaken 5).marked .store xs).holds false ((range 0x1FFFFF8 8).map (fun b => b % 2 ^ 64)) := by
  unfold State.unwatched State.opens State.holds; decide +kernel

theorem witness_PlainStoresAreHeldAndSeen_seen : (range 8 2).Nodup ∧ [8, 9].length = (range 8 2).length := by decide +kernel

/-- Held stores at the top of the shared space and of device memory. -/
theorem witness_HeldStoresArePerformedInOrder :
    let s := Tests.holding Tests.one (Tests.stores (deviceTop - 1))
    s.tan.core < 256 ∧ s.tan.firmware = none ∧ s.isFirmware s.hart = false ∧
      ∀ x ∈ s.me.held, (∀ b ∈ x.bytes, b.pa < deviceTop) ∧ (x.shared = true → ∀ b ∈ x.bytes, b.va < 0x400000) := by decide +kernel

/-- A release store of the last word of the shared space, with stores held. -/
theorem witness_ReleaseStoresLandBehindHeldStores_shared :
    let s := Tests.holding (Tests.regs [(6, 0x3FFFFC)]) (Tests.stores 64)
    s.can2 0 6 7 ∧ s.me.copies = [] ∧ s.Quiet ∧ (s.srcValue 6).toNat % 4 = 0 ∧ (s.srcValue 6).toNat + 4 ≤ s.sharedTop + 1 ∧
      ((s.srcTaken 6).srcTaken 7).endStrip.Quiet := by
  unfold State.can2 State.srcOk State.dstOk State.srcHere State.dstRoom State.Quiet; decide +kernel

/-- A release store of the last doubleword of a page, with stores held. -/
theorem witness_ReleaseStoresLandBehindHeldStores_global :
    let s := Tests.holding (Tests.regs [(6, 0x1FFFFF8)]) (Tests.stores 0x1FFFFF8)
    let xs := Tests.xlats s .store false 0x1FFFFF8 8
    s.can2 0 6 7 ∧ s.unwatched ∧ s.Quiet ∧ s.tan.core < 256 ∧ s.tan.firmware = none ∧ s.isFirmware s.hart = false ∧ s.opens .store false 0x1FFFFF8 8 xs ∧
      xs.map (·.pa) = range 0x1FFFFF8 8 ∧ (((s.srcTaken 6).srcTaken 7).marked .store xs).endStrip.Quiet := by
  unfold State.can2 State.srcOk State.dstOk State.srcHere State.dstRoom State.Quiet State.unwatched State.opens; decide +kernel

/-- An atomic on the last doubleword of the shared space, with stores held; HCTL.DET is 0. -/
theorem witness_AtomicsReadAndWriteOnce_shared :
    let s := Tests.holding (Tests.regs [(6, 0x3FFFF8)]) (Tests.stores 64)
    s.Tidy ∧ Claims.atomicReady s 111 6 7 ∧ s.me.copies = [] ∧ s.Quiet ∧ s.tan.firmware = none ∧ s.me.csr.hctl.getLsbD 0 = false ∧
      (s.srcValue 6).toNat % 8 = 0 ∧ (s.srcValue 6).toNat + 8 ≤ 0x400000 ∧ ((s.srcTaken 6).srcTaken 7).soundShared 0x3FFFF8 8 ∧
      ((s.srcTaken 6).srcTaken 7).endStrip.Quiet := by
  refine ⟨tidy_of_checks (by decide +kernel), ?_⟩
  unfold State.soundShared
  unfold Claims.atomicReady State.can2 State.srcOk State.dstOk State.srcHere State.dstRoom State.Quiet; decide +kernel

/-- An atomic on the last doubleword of a page, with stores held. -/
theorem witness_AtomicsReadAndWriteOnce_global :
    let s := Tests.holding (Tests.regs [(6, 0x1FFFFF8)]) (Tests.stores 0x1FFFFF8)
    let xs := Tests.xlats s .atomic false 0x1FFFFF8 8
    s.Tidy ∧ Claims.atomicReady s 111 6 7 ∧ s.unwatched ∧ s.Quiet ∧ s.tan.core < 256 ∧ s.tan.firmware = none ∧
      s.me.csr.hctl.getLsbD 0 = false ∧ s.opens .atomic false 0x1FFFFF8 8 xs ∧ s.sound xs ∧ xs.map (·.pa) = range 0x1FFFFF8 8 ∧
      (((s.srcTaken 6).srcTaken 7).marked .atomic xs).endStrip.Quiet := by
  refine ⟨tidy_of_checks (by decide +kernel), ?_⟩
  unfold Claims.atomicReady State.can2 State.srcOk State.dstOk State.srcHere State.dstRoom State.Quiet State.unwatched State.opens State.sound
  decide +kernel

/-! ## Witnesses: stops, fences, traps, control registers -/

/-- A queue name in a single-mode tandem; the wrong end of a queue in a paired one. -/
theorem witness_ScalarInstructionsStopWhole_wrongEnd :
    ¬(Tests.one.srcOk 112 ∧ Tests.one.srcOk 6 ∧ Tests.one.dstOk 5) ∧
    ¬((Tests.pair [] [1] []).srcOk 120 ∧ (Tests.pair [] [1] []).srcOk 6 ∧ (Tests.pair [] [1] []).dstOk 5) ∧
    ¬((Tests.pair [] [1] []).srcOk 5 ∧ (Tests.pair [] [1] []).srcOk 6 ∧ (Tests.pair [] [1] []).dstOk 119) := by
  unfold State.srcOk State.dstOk; decide +kernel

/-- An empty queue, with a peer that runs and one that has exited; a full one. -/
theorem witness_ScalarInstructionsStopWhole_queues :
    let s := Tests.pair [] [] (List.replicate 32 1)
    s.srcOk 112 ∧ s.srcOk 6 ∧ s.dstOk 127 ∧ (s.tan.sfifo 0).items = [] ∧ (s.tan.sfifo 0).marker = none ∧ s.peer.exited = false ∧
      ({ s with peer := { s.peer with exited := true } } : State).peer.exited = true ∧ s.srcHere 6 ∧ (s.srcTaken 6).srcHere 7 ∧
      32 ≤ (((s.srcTaken 6).srcTaken 7).tan.sfifo 15).items.length := by
  unfold State.srcOk State.dstOk State.srcHere; decide +kernel

/-- An address one off a word, and one that is a word's but not a doubleword's. -/
theorem witness_ScalarInstructionsStopWhole_misaligned :
    let s := Tests.regs [(6, 0x1001), (7, 0x1004)]
    s.can2 5 6 7 ∧ s.can2 5 7 6 ∧ s.tan.firmware = none ∧ (s.srcValue 6).toNat % 4 ≠ 0 ∧ (s.srcValue 7).toNat % 8 ≠ 0 := by
  unfold State.can2 State.srcOk State.dstOk State.srcHere State.dstRoom; decide +kernel

/-- The first offset above the shared space, and the first and last addresses that are not canonical. -/
theorem witness_ScalarInstructionsStopWhole_bounds :
    let s := Tests.regs [(6, 0x400000), (7, 0x100000000000000), (8, 0xFEFFFFFFFFFFFFFF)]
    s.srcOk 6 ∧ s.srcHere 6 ∧ s.srcOk 5 ∧ s.dstOk 5 ∧ (s.srcTaken 6).srcHere 5 ∧ s.sharedTop < (s.srcValue 6 + 0#64).toNat ∧
      2 ^ 56 ≤ (s.srcValue 7).toNat ∧ (s.srcValue 8).toNat < 0xFF00000000000000 := by
  unfold State.srcOk State.dstOk State.srcHere; decide +kernel

/-- A fence of the least scope that waits for nothing, and one of the greatest that waits for a reply. -/
theorem witness_FencesWaitForTheirScope :
    let s := Tests.holding Tests.one (Tests.stores 64)
    let u : State := { s with me := { s.me with outstanding := [3] } }
    s.me.savedNow = none ∧ s.me.loop = none ∧ Claims.fenceDue 3 0 s.endStrip ∧ u.me.savedNow = none ∧ u.me.loop = none ∧
      ¬Claims.fenceDue 3 5 u.endStrip ∧ Claims.fenceDue 0 4 u.endStrip := by
  unfold Claims.fenceDue; decide +kernel

/-- Trap entry with a handler, at the greatest code; an undeliverable trap without one, and in a handler. -/
theorem witness_TrapsEnterAndReturn_entry :
    let s := Tests.holding (Tests.csr Tests.one (fun c => { c with xvec := 0x100 })) (Tests.stores 64)
    let u := Tests.csr Tests.one (fun c => { c with xvec := 0x100, xcause := 2 ^ 63 })
    (255 < 256 ∧ s.me.loop = none ∧ s.me.csr.xvec ≠ 0 ∧ s.me.tis = false ∧ s.Quiet) ∧
    (Tests.one.me.loop = none ∧ Tests.one.me.held = [] ∧ Tests.one.live = true ∧ Tests.one.me.csr.xvec = 0 ∧ u.me.tis = true ∧
      Tests.one.kernel? 0 0 = some loadedKernel ∧ loadedKernel.live = true ∧ loadedKernel.stop = none ∧ Tests.one.tan.place = .resident 0 0 ∧
      Tests.one.frozen Tests.one.tan = false) ∧
    (u.Quiet ∧ u.me.tis = true ∧ s.me.tis = false) := by
  unfold State.Quiet; decide +kernel

/-- Every register takes a value at an end of its range, and where it has reserved ones refuses the next value. -/
theorem witness_ControlRegistersReadAndWrite :
    let s := Tests.pair [] [5] []
    s.tan.firmware = none ∧ s.srcOk 112 ∧ s.srcHere 112 ∧
    (Claims.plainCsrs.map (fun p => p.2.2.2 (if p.1 = 0x400 ∨ p.1 = 0x300 then 2 else if p.1 = 0x105 then 0x115 else 0))).all (· == true) = true ∧
    (Claims.plainCsrs.filter (fun p => !p.2.2.2 (-1))).length = 10 ∧ (0#64 : Word) &&& 0x7FFFFFFFFFFF0000 = 0 ∧
    (0x021 : BitVec 12).toNat ∉ Claims.plainCsrs.map (·.1) ∧
    (0x602 + 1) ∉ 0x201 :: 0x503 :: 0x602 :: (Claims.plainCsrs.map (·.1) ++ Claims.readOnlyCsrs.map (·.1)) := by
  unfold State.srcOk State.srcHere; decide +kernel

/-! ## Witnesses: barriers and queues -/

/-- A shared object at the last offset, with the greatest counts that each member allows, and each misuse. -/
theorem witness_BarriersStepTheirObjects_shared :
    let s := Tests.regs [(6, 0x3FFFF0), (7, 1), (8, 0xFFFFFFFF)]
    let v := Tests.scratch s [(0x3FFFF0, toBytes 16 (0xFFFFFFFE + 0xFFFFFFFD * 2 ^ 32 + 2 ^ 64 + 2 ^ 66))]
    s.Tidy ∧ v.Tidy ∧ s.me.copies = [] ∧ s.Quiet ∧ s.endStrip.Quiet ∧ v.Quiet ∧ v.endStrip.Quiet ∧ s.tan.firmware = none ∧
      (s.me.readS 6).toNat % 16 = 0 ∧ (s.me.readS 6).toNat < 0x400000 ∧ s.soundShared 0x3FFFF0 16 ∧ v.soundShared 0x3FFFF0 16 ∧ barMet s = none ∧
      barMet v = none ∧ Claims.barrierFits 0 0xFFFFFFFF 0 0 false ∧
      Claims.object (ofBytes (v.endStrip.sharedBytes 0x3FFFF0 16)) 0xFFFFFFFE 0xFFFFFFFD true false true ∧
      Claims.barrierFits 1 1 0xFFFFFFFE 0xFFFFFFFD true ∧ Claims.barrierFits 2 1 0xFFFFFFFE 0xFFFFFFFD true ∧
      Claims.barrierFits 3 0 0xFFFFFFFE 0xFFFFFFFD true ∧ Claims.barrierFits 4 7 0xFFFFFFFE 0xFFFFFFFD true := by
  refine ⟨tidy_of_checks (by decide +kernel), tidy_of_checks (by decide +kernel), ?_⟩
  unfold State.Quiet State.soundShared Claims.object Claims.barrierFits; and_intros <;> decide +kernel

theorem witness_BarriersStepTheirObjects_misuse :
    let s := Tests.regs [(6, 0x3FFFF0), (7, 2), (8, 2 ^ 32)]
    let v := Tests.scratch s [(0x3FFFF0, toBytes 16 (0xFFFFFFFE + 0xFFFFFFFD * 2 ^ 32 + 2 ^ 66))]
    let w := Tests.scratch s [(0x3FFFF0, toBytes 16 0)]
    let m := ofBytes (v.endStrip.sharedBytes 0x3FFFF0 16)
    s.soundShared 0x3FFFF0 16 ∧ v.soundShared 0x3FFFF0 16 ∧ w.soundShared 0x3FFFF0 16 ∧ barMet w ≠ some true ∧ (s.me.readS 0).toNat = 0 ∧ 2 ^ 32 ≤ (s.me.readS 8).toNat ∧ ofBytes (w.endStrip.sharedBytes 0x3FFFF0 16) / 2 ^ 66 % 2 = 0 ∧
      m / 2 ^ 66 % 2 = 1 ∧ m / 2 ^ 32 % 2 ^ 32 < m % 2 ^ 32 ∧ m % 2 ^ 32 < m / 2 ^ 32 % 2 ^ 32 + 2 ∧ 2 ^ 32 ≤ m % 2 ^ 32 + 2 := by
  unfold State.soundShared; decide +kernel

/-- A global object in the last 16 bytes of a page. -/
theorem witness_BarriersStepTheirObjects_global :
    let s := Tests.memory (Tests.regs [(6, 0x1FFFFF0), (7, 1)]) [(0x1FFFFF0, toBytes 16 (2 + 2 ^ 32 + 2 ^ 66))]
    let xs := Tests.xlats s .atomic false 0x1FFFFF0 16
    s.Tidy ∧ s.unwatched ∧ s.Quiet ∧ s.tan.firmware = none ∧ s.tan.core < 256 ∧ s.opens .atomic false 0x1FFFFF0 16 xs ∧ s.sound xs ∧
      xs.map (·.pa) = range 0x1FFFFF0 16 ∧ (s.marked .atomic xs).endStrip.Quiet ∧
      Claims.object (ofBytes ((range 0x1FFFFF0 16).map (s.marked .atomic xs).endStrip.mem.latestByte)) 2 1 false false true ∧
      barMet s ≠ some false ∧ Claims.barrierFits 2 1 2 1 false := by
  refine ⟨tidy_of_checks (by decide +kernel), ?_⟩
  unfold State.unwatched State.Quiet State.opens State.sound Claims.object Claims.barrierFits; decide +kernel

/-- The bit queue with its last free place, kept for a re-run, and with one bit; empty queues of each kind, and the last that a side pops. -/
theorem witness_QueueInstructionsActOnTheirQueues :
    let a : State := { Tests.aSide [] with tan := { (Tests.aSide []).tan with bq := { items := List.replicate 63 true, spent := [true] } } }
    let e : State := { Tests.pair [] [] [] with tan := { (Tests.pair [] [] []).tan with bq := { items := [true] } } }
    (a.tan.firmware = none ∧ a.tan.single = false ∧ a.onA = true ∧ a.srcOk 5 ∧ a.srcHere 5 ∧ a.tan.bq.items.length < 64 ∧
      64 ≤ a.tan.bq.items.length + a.tan.bq.spent.length ∧ decide (7 < 8) = a.onA ∧ (a.tan.vfifo 7).items.length = 0 ∧ (a.tan.sfifo 7).items.length = 0) ∧
    (e.tan.firmware = none ∧ e.tan.single = false ∧ e.onA = false ∧ e.tan.bq.items = true :: [] ∧ e.tan.bq.marker = none ∧ e.tan.bq.bad = false ∧ e.dstOk 127 ∧ e.dstRoom 127 ∧
      (32#7).toNat ≤ 32 ∧ decide ((32#7).toNat = 32) ≠ e.onA) := by
  unfold State.srcOk State.srcHere State.dstOk State.dstRoom; decide +kernel

/-! ## Witnesses: groups and tandems -/

/-- A group of key 0 with members 5 (rank 0) and, where wanted, the tandem in focus, in a pending phase that counts both. -/
def Tests.group (me : Bool) : Group :=
  { ctx := 0, key := 0, members := if me then [(5, 0), (1, 1)] else [(5, 0)], pending := true, counted := if me then [5, 1] else [5], arrived := [5] }

theorem witness_GroupsFormWaitAndDissolve_join :
    let s := Tests.regs [(6, 9)]
    let u : State := { s with groups := [Tests.group false] }
    Claims.actsForTandem s ∧ (s.groups.filter (fun g => g.has s.tan.uid)).length < 4 ∧ s.group? 9 = none ∧
      (s.groups.filter (fun g => g.ctx == s.tan.ctx)).length < 16384 ∧ Claims.actsForTandem u ∧ u.group? 0 = some (Tests.group false) ∧
      (Tests.group false).has u.tan.uid = false ∧ (∀ q ∈ u.groups, q.ctx = u.tan.ctx → q.key = 0 → q = Tests.group false) ∧
      (∀ m ∈ (Tests.group false).members, m.2 ≠ 1) ∧ (∀ q < 1, ∃ m ∈ (Tests.group false).members, m.2 = q) := by
  unfold Claims.actsForTandem; dsimp only; and_intros <;> decide +kernel

theorem witness_GroupsFormWaitAndDissolve_leave_and_read :
    let s : State := { Tests.pair [] [5] [] with groups := [Tests.group true] }
    Claims.actsForTandem s ∧ s.group? 0 = some (Tests.group true) ∧ (Tests.group true).has s.tan.uid = true ∧ s.tan.firmware = none ∧
      s.can1 127 112 ∧ s.dstRoom 127 := by
  unfold Claims.actsForTandem State.can1 State.srcOk State.dstOk State.srcHere State.dstRoom; dsimp only; and_intros <;> decide +kernel

/-- The last counted member arrives; one arrives that is not the last. -/
theorem witness_GroupsFormWaitAndDissolve_barrier :
    let s : State := { Tests.one with groups := [Tests.group true] }
    let g := Tests.group true
    let g2 := { g with arrived := [] }
    let u : State := { Tests.one with groups := [g2] }
    Claims.actsForTandem s ∧ s.Quiet ∧ (Claims.released s).Quiet ∧ s.group? (s.me.readS 6) = some g ∧ g.has s.tan.uid = true ∧ g.returned = [] ∧
      g.pending = true ∧ g.early = [] ∧ s.tan.uid ∈ g.counted ∧ s.tan.uid ∉ g.arrived ∧ (∀ m ∈ g.counted, m = s.tan.uid ∨ m ∈ g.arrived) ∧
      u.Quiet ∧ (Claims.released u).Quiet ∧ u.group? (u.me.readS 6) = some g2 ∧ (∃ m ∈ g2.counted, m ≠ u.tan.uid ∧ m ∉ g2.arrived) := by
  unfold Claims.actsForTandem State.Quiet; dsimp only; and_intros <;> decide +kernel

/-- A SPAWN of one tandem and of as many as it can ask for. -/
theorem witness_TandemsSpawnAndEnd_spawn :
    let s := Tests.regs [(6, 7), (7, 4096)]
    let u := Claims.released s
    Claims.actsForTandem s ∧ 1 ≤ (s.me.readS 7).toNat ∧ (s.me.readS 7).toNat ≤ 4096 ∧ u.kernel? s.tan.ctx s.tan.csn = some loadedKernel ∧
      (freeTids u s.tan.ctx 1).length = 1 ∧ (freeTids u s.tan.ctx 4096).length = 4096 := by
  unfold Claims.actsForTandem; dsimp only; and_intros <;> decide +kernel

theorem lowestFree_of_all_used {used : List Nat} : ∀ f i n, (∀ k, i ≤ k → k < i + f → used.contains k = true) → lowestFree used f i n = []
  | 0, _, _, _ => rfl
  | f + 1, i, n, h => by
    unfold lowestFree
    split
    · rfl
    · rw [if_pos (h i (by omega) (by omega))]
      exact lowestFree_of_all_used f (i + 1) n (fun k h1 h2 => h k (by omega) (by omega))

/-- A context the lowest `n` of whose TIDs are taken. -/
def Tests.crowd (n : Nat) : State :=
  { Tests.regs [(7, 1)] with away := (List.range n).map (fun i => { t := { uid := i + 2, tid := i }, e := {}, a := {} }) }

theorem crowd_away (n : Nat) : (Claims.released (Tests.crowd n)).away = (List.range n).map (fun i => { t := { uid := i + 2, tid := i }, e := {}, a := {} }) := rfl

theorem witness_TandemsSpawnAndEnd_noTid :
    let s := (Tests.crowd 65536)
    let u := Claims.released s
    Claims.actsForTandem s ∧ (s.me.readS 7).toNat = 1 ∧ u.kernel? s.tan.ctx s.tan.csn = some loadedKernel ∧ (freeTids u s.tan.ctx 1).length < 1 := by
  refine ⟨⟨rfl, rfl⟩, by decide +kernel, by decide +kernel, ?_⟩
  have h : freeTids (Claims.released (Tests.crowd 65536)) (Tests.crowd 65536).tan.ctx 1 = [] := by
    apply lowestFree_of_all_used
    intro k _ hk
    rw [List.contains_iff_mem, List.mem_map]
    refine ⟨{ t := { uid := k + 2, tid := k }, e := {}, a := {} }, ?_, rfl⟩
    unfold State.contextTandems State.allTandems
    rw [List.mem_filter]
    refine ⟨List.mem_append_right _ ?_, rfl⟩
    rw [crowd_away]
    exact List.mem_map.mpr ⟨k, List.mem_range.mpr (by omega), rfl⟩
  rw [h]; decide

theorem witness_TandemsSpawnAndEnd_registers : 2 < [7, 8, 65535].length ∧ (0 : Nat) < [7].length := by decide

/-- The only side, the first and the last of two sides to exit. -/
theorem witness_TandemsSpawnAndEnd_exit :
    let s := Tests.one
    let u := Tests.pair [] [] []
    let v : State := { u with peer := { u.peer with exited := true } }
    s.tan.firmware = none ∧ s.Quiet ∧ s.endStrip.Quiet ∧ s.me.copyErrors = [] ∧ s.tan.place = .resident 0 0 ∧
      s.me.strip.openRc * s.me.csr.vl.toNat = 0 ∧ s.tan.single = true ∧ s.tan.matrix = [] ∧
      u.tan.firmware = none ∧ u.Quiet ∧ u.endStrip.Quiet ∧ u.tan.single = false ∧ u.peer.exited = false ∧ v.Quiet ∧ v.endStrip.Quiet ∧ v.peer.exited = true := by
  unfold State.Quiet; dsimp only; and_intros <;> decide +kernel

/-! ## Witnesses: strips, marks, descriptors, copies -/

/-- A strip with elements done, whose entry can be written; a request of VL, and the least and the greatest RC. -/
theorem witness_StripsOpenCloseAndRewind :
    let s := Tests.csr (Tests.regs [(6, 1000), (7, 0x7B2), (8, 16), (9, 1)]) (fun c => { c with vl := 16 })
    s.tan.firmware = none ∧ s.Tidy ∧ s.Quiet ∧ s.me.strip.openRc * s.me.csr.vl.toNat = 16 ∧ Claims.entryServed s := by
  refine ⟨rfl, tidy_of_checks (by decide +kernel), ?_, by decide +kernel, loadedContext, by decide +kernel, ?_⟩
  · unfold State.Quiet; decide +kernel
  · intro bs h
    have stops : (Tests.xlats (Tests.csr (Tests.regs [(6, 1000), (7, 0x7B2), (8, 16), (9, 1)]) (fun c => { c with vl := 16 })) .store false
        (tandemEntryAddr loadedContext 0) 16).findSome? (Tests.csr (Tests.regs [(6, 1000), (7, 0x7B2), (8, 16), (9, 1)])
        (fun c => { c with vl := 16 })).thoudStop = none := by decide +kernel
    have device : (Tests.xlats (Tests.csr (Tests.regs [(6, 1000), (7, 0x7B2), (8, 16), (9, 1)]) (fun c => { c with vl := 16 })) .store false
        (tandemEntryAddr loadedContext 0) 16).all (fun x => regionOf x.pa == .device) = true := by decide +kernel
    unfold sysWrite
    rw [h, show translateBytes (Tests.csr (Tests.regs [(6, 1000), (7, 0x7B2), (8, 16), (9, 1)]) (fun c => { c with vl := 16 })) loadedContext
        (Tests.csr (Tests.regs [(6, 1000), (7, 0x7B2), (8, 16), (9, 1)]) (fun c => { c with vl := 16 })).tan.die false true .store
        (tandemEntryAddr loadedContext (Tests.csr (Tests.regs [(6, 1000), (7, 0x7B2), (8, 16), (9, 1)]) (fun c => { c with vl := 16 })).tan.tid) 16 =
        .ok (Tests.xlats (Tests.csr (Tests.regs [(6, 1000), (7, 0x7B2), (8, 16), (9, 1)]) (fun c => { c with vl := 16 })) .store false
          (tandemEntryAddr loadedContext 0) 16) by decide +kernel]
    dsimp only
    rw [stops, if_pos device]
    exact ⟨_, rfl⟩

theorem witness_StripsOpenCloseAndRewind_operands :
    let s := Tests.regs [(7, 0x1B4), (8, 16), (9, 1)]
    (s.me.readS 7).toNat < 4096 ∧ vtLegal (s.me.readS 7).toNat = true ∧ (s.me.readS 8).toNat ≤ 16 ∧ 1 ≤ (s.me.readS 9).toNat ∧
      (takeCheckpoint s).me.strip.ckpt.isSome = true := by decide +kernel

theorem witness_StripsOpenCloseAndRewind_tidy : Tests.one.me.tidy := (tidy_of_checks (by decide +kernel) : Tests.one.Tidy).2.1

/-- A context traced and not; a trial that runs, at its first and its last counter. -/
theorem witness_WindowsMarksAndPausesRetire :
    let s := Tests.pair [] [5] []
    let u : State := { s with ctxs := [{ loadedContext with traced := true }] }
    let v := Tests.csr s (fun c => { c with trctl := 1 })
    s.tan.firmware = none ∧ s.srcOk 112 ∧ s.srcHere 112 ∧ s.myCtx.traced = false ∧ u.myCtx.traced = true ∧ u.srcOk 112 ∧ u.srcHere 112 ∧
      s.me.csr.trctl.getLsbD 0 = false ∧ v.me.csr.trctl.getLsbD 0 = true ∧ v.me.trial.counters = [] ++ 0 :: List.replicate 7 0 ∧
      v.me.trial.counters = List.replicate 7 0 ++ 0 :: [] ∧ (List.replicate 7 0).length = (7#7).toNat := by
  unfold State.srcOk State.srcHere; dsimp only; and_intros <;> decide +kernel

/-- A descriptor in the last 32 bytes of a page, a valid one; scales in the page. -/
theorem witness_DescriptorsAndScalesMove :
    let s := Tests.memory (Tests.regs [(6, 0x1FFFFE0)]) [(0x1FFFFE0, toBytes 32 0)]
    let l := Tests.xlats s .load false 0x1FFFFE0 32
    let t := Tests.xlats s .store false 0x1FFFFE0 32
    s.tan.firmware = none ∧ s.unwatched ∧ (s.me.readS 6).toNat % 32 = 0 ∧ s.opens .load false 0x1FFFFE0 32 l ∧ s.sound l ∧
      tdValid (BitVec.ofNat 256 (ofBytes ((s.marked .load l).globalBytes 0x1FFFFE0 32 l))) = false ∧ s.opens .store false 0x1FFFFE0 32 t ∧
      (s.marked .store t).holds false (range 0x1FFFFE0 32) ∧ s.me.savedNow = none ∧ s.me.csr.vstart = 0 := by
  unfold State.unwatched State.opens State.sound State.holds; dsimp only; and_intros <;> decide +kernel

/-- A descriptor of 256 scale bytes from address 0x800 on: KIND 0, DEPTH 1. -/
def Tests.desc : Desc := BitVec.ofNat 256 (2 ^ 15 + 2 ^ 40 + 0x800 * 2 ^ 64)

/-- A tandem with that descriptor in td3 whose page is written and cached already. -/
def Tests.scales : State :=
  let s : State := { Tests.one with tan := { Tests.one.tan with td := [(3, Tests.desc)] } }
  s.marked .store (Tests.xlats s .store false 0x800 256)

/-- Accesses that mark nothing anew leave the state as it is, one after the other. -/
theorem after_same {k : AccessKind} {xs : Nat → List Xlat} {s : State} : ∀ ns : List Nat, (∀ n ∈ ns, s.marked k (xs n) = s) → Claims.after k xs ns s = s
  | [], _ => rfl
  | n :: r, h => by
    show Claims.after k xs r (s.marked k (xs n)) = s
    rw [h n List.mem_cons_self]
    exact after_same r (fun m hm => h m (List.mem_cons_of_mem _ hm))

theorem mem_range_of_prefix : ∀ {m e : Nat} (n i : Nat), n ∈ range i m → m ≤ e → n ∈ range i e
  | 0, _, _, _, h, _ => nomatch h
  | m + 1, 0, _, _, _, h => absurd h (Nat.not_succ_le_zero m)
  | m + 1, e + 1, n, i, h, hm => by
    obtain h | h := List.mem_cons.mp h
    · exact List.mem_cons.mpr (.inl h)
    · exact List.mem_cons.mpr (.inr (mem_range_of_prefix n (i + 1) h (Nat.le_of_succ_le_succ hm)))

theorem mem_range_below : ∀ {m e : Nat} (n i : Nat), n ∈ range i m → i + m ≤ e → n < e
  | m + 1, e, n, i, h, hm => by
    obtain h | h := List.mem_cons.mp h
    · omega
    · exact mem_range_below n (i + 1) h (by omega)

/-- A tandem of two sides whose A-side has written a descriptor that the E-side may not have seen, and a single one. -/
theorem witness_DescriptorsAndScalesMove_late :
    let t : Tandem := { Tests.one.tan with td := [(3, Tests.desc)], single := false, tdLate := [(true, 15, 1)] }
    sparseWf 0 t.td = true ∧ (t.single = true → t.tdLate = []) ∧ (∀ x ∈ t.tdLate, x.1 = true) ∧ t.readTd true 15 ≠ t.readTd false 15 ∧
      Tests.one.tan.single = true ∧ Tests.one.tan.tdLate = [] := by decide +kernel

theorem witness_DescriptorsAndScalesMove_scales :
    let s := Tests.scales
    let l (e : Nat) := Tests.xlats s .load false (0x800 + e) 1
    let t (e : Nat) := Tests.xlats s .store false (0x800 + e) 1
    s.seeTds = s ∧ tdLegal (s.tan.readTd s.onA 3) = true ∧ s.unwatched ∧ s.me.savedNow = none ∧ s.me.csr.vstart = 0 ∧ 256 ≤ s.stripShare ∧
      (∀ e < 256, (Claims.after .load l (range 0 e) s).opens .load false (0x800 + e) 1 (l e) ∧ (Claims.after .load l (range 0 e) s).sound (l e)) ∧
      ∀ e < 256, (Claims.after .store t (range 0 e) s).opens .store false (0x800 + e) 1 (t e) := by
  intro s l t
  have hl : ∀ n ∈ range 0 256, s.marked .load (l n) = s := by decide +kernel
  have ht : ∀ n ∈ range 0 256, s.marked .store (t n) = s := by decide +kernel
  refine ⟨by decide +kernel, by decide +kernel, by unfold State.unwatched; decide +kernel, by decide +kernel, by decide +kernel, by decide +kernel, ?_, ?_⟩
  · intro e he
    rw [after_same _ (fun n hn => hl n (mem_range_of_prefix n 0 hn (by omega)))]
    have h : ∀ e < 256, s.opens .load false (0x800 + e) 1 (l e) ∧ s.sound (l e) := by unfold State.opens State.sound; decide +kernel
    exact h e he
  · intro e he
    rw [after_same _ (fun n hn => ht n (mem_range_of_prefix n 0 hn (by omega)))]
    have h : ∀ e < 256, s.opens .store false (0x800 + e) 1 (t e) := by unfold State.opens; decide +kernel
    exact h e he

/-- Copies that the range scoreboard takes, the last of 64; a copy that a CPYW still waits for and one that it does not. -/
theorem witness_CopiesAreAcceptedAndCounted :
    let c := copyOf 63 0x115 0 0x1FFFF00 0x3FFF00 (2 ^ 32 * (2 * 8) + 256) 0
    let b := copyOf 63 0x115 0 0 0x1FFFF00 (2 ^ 32 * (2 * 8 + 1) + 256) 0
    let s := Tests.one
    let f : Copy := { id := 3, toShared := true, src := 0, dst := 0, count := 256, clog := 8, seg := none, bar := none, mask := none, word0 := 0 }
    let u : State := { s with me := { s.me with copies := [f], nextCopy := 5 } }
    s.tan.firmware = none ∧ s.tan.single = true ∧ copyLegal c (2 ^ 32 * (2 * 8) + 256) = true ∧ copyBounds s.myCtx c = none ∧
      copyLegal b (2 ^ 32 * (2 * 8 + 1) + 256) = true ∧ copyBounds s.myCtx b = none ∧ (List.replicate 63 f).length < 64 ∧
      (∀ c ∈ u.me.copies, u.me.nextCopy ≤ c.id + 2) ∧ (∃ c ∈ u.me.copies, c.id + 1 < u.me.nextCopy) ∧ s.dstOk 111 ∧ s.dstRoom 111 := by
  unfold State.dstOk State.dstRoom; dsimp only; and_intros <;> decide +kernel

/-- Four descriptors in a row of 64-bit elements, in the last register name. -/
theorem witness_CopiesAreAcceptedAndCounted_batch :
    let s := Tests.csr Tests.one (fun c => { c with vtype := 3, vl := 16 })
    let c := s.me.csr
    s.tan.firmware = none ∧ s.tan.single = true ∧ s.me.savedNow = none ∧ 111 % c.grp = 0 ∧ 111 + c.rows * c.grp ≤ 112 ∧ c.sew = 64 ∧
      c.len % 4 = 0 ∧ c.len = 16 ∧ c.start = 0 := by
  dsimp only; and_intros <;> decide +kernel

/-! ## Witnesses: marked loops and rate sets -/

/-- LMARKs whose LEND is the next word and the 255th, with a count of 0 and another. -/
theorem witness_MarkedLoopsAndSweepsCount_begin :
    let s := Tests.memory (Tests.regs [(7, 5)]) [(4, [0x38, 0, 0, 0]), (1020, [0x38, 0, 0, 0])]
    Claims.markable s 6 111 ∧ Claims.markable s 7 1 ∧ s.me.readS 6 = 0 ∧ s.me.readS 7 ≠ 0 ∧
      (match fetchAt 4 s with | .ok w u => decide (w = 0x38 ∧ u.me = s.me) | .error _ _ => false) = true ∧
      (match fetchAt 1020 s with | .ok w u => decide (w = 0x38 ∧ u.me = s.me) | .error _ _ => false) = true := by
  unfold Claims.markable; dsimp only; and_intros <;> decide +kernel

/-- A loop at its LEND with iterations left and at its last. -/
theorem witness_MarkedLoopsAndSweepsCount_end :
    let l : Loop := { start := 4, lend := 8, ra := 5, rb := 6, count := 3, start0 := 0 }
    let s : State := { Tests.regs [(5, 2)] with me := { (Tests.regs [(5, 2)]).me with pc := 8, loop := some l } }
    let u : State := { Tests.regs [(5, 1)] with me := { (Tests.regs [(5, 1)]).me with pc := 8, loop := some l } }
    s.me.loop = some l ∧ s.me.pc = l.lend ∧ l.sweep = none ∧ l.recd = none ∧ l.replay = none ∧ l.handed = false ∧
      s.me.readS l.ra ≠ 1 ∧ l.ra ≠ l.rb ∧ u.me.readS l.ra = 1 ∧ (∀ l, Tests.one.me.loop = some l → Tests.one.me.pc ≠ l.lend ∨ l.replay ≠ none) := by
  refine ⟨by decide +kernel, by decide +kernel, by decide, by decide, by decide, by decide, by decide +kernel, by decide, by decide +kernel, ?_⟩
  intro l h; cases h

/-- A rate-classed set of two members at 0x1000, of which member 1 is due; S is 1. -/
def Tests.set : State :=
  let s := Tests.memory { Tests.regs [(7, 5)] with me := { (Tests.regs [(7, 5)]).me with rateSet := some 0x1000 } }
    [(4, [0x38, 0, 0, 0]), (0x1000, toBytes 8 2 ++ toBytes 8 1 ++ toBytes 8 (2 + 0x3F800000 * 2 ^ 32) ++ toBytes 8 0x3F000000 ++ toBytes 8 0x4000 ++ toBytes 8 1),
      (0x1040, toBytes 8 2 ++ toBytes 8 0), (0x1050, toBytes 8 1 ++ toBytes 8 0)]
  s.marked .store (Tests.xlats s .store false 0x1000 64)

theorem witness_MarkedLoopsAndSweepsCount_sweep :
    let s := Tests.set
    Claims.markable s 6 7 ∧
      (match sweepChecks 6 7 1 s with
       | .ok r t => decide (r.1 = s.me.pc + 4 * (1#9).signExtend 64 ∧ r.2.due.map (·.1) = [1]) &&
           (match openSweep r.2.header t with | .ok _ _ => true | .error _ _ => false)
       | .error _ _ => false) = true ∧
      (match readMembers 0x1000 2 0 s with | .ok ms _ => decide (ms.map (·.id) = [0, 1]) | .error _ _ => false) = true := by
  unfold Claims.markable; dsimp only; and_intros <;> decide +kernel

/-- LOFF of 1 and of 2; a header at the last place of a page. -/
theorem witness_RateSetInstructionsAct_select :
    let s := Tests.pair [(6, 2), (7, 0x1FFFFC0)] [1] []
    s.tan.firmware = none ∧ s.srcOk 112 ∧ s.srcHere 112 ∧ (s.srcValue 112).toNat ≤ 1 ∧ s.srcOk 6 ∧ s.srcHere 6 ∧ 1 < (s.srcValue 6).toNat ∧
      (s.srcValue 7).toNat % 64 = 0 ∧ s.opens .load false (s.srcValue 7).toNat 64 (Tests.xlats s .load false 0x1FFFFC0 64) := by
  unfold State.srcOk State.srcHere State.opens; dsimp only; and_intros <;> decide +kernel

/-- RSQ of the set's last member, and RSPOL of thresholds that are equal. -/
theorem witness_RateSetInstructionsAct_members :
    let s := Tests.set
    let x := 3 + 0x3F800000 * 2 ^ 32
    s.tan.firmware = none ∧ s.me.rateSet = some 0x1000 ∧
      (match readMem false 0x1000 8 s with
       | .ok w t => decide (1 < w % 2 ^ 17) && (match readMem false (recordAddr 0x1000 1) 8 t with | .ok _ _ => true | .error _ _ => false)
       | .error _ _ => false) = true ∧
      x / 16 % 2 ^ 28 = 0 ∧ 0x3F800000 < 2 ^ 32 ∧ (fp32.decode (x / 2 ^ 32)).isNaN = false ∧ (fp32.decode 0x3F800000).isNaN = false ∧
      ltVal (fp32.decode (x / 2 ^ 32)) (fp32.decode 0x3F800000) = false ∧
      (match readMem false 0x1008 8 s with
       | .ok w t => decide (w.testBit 63 = false) &&
           (match setWords [(0x1010, x), (0x1018, 0x3F800000)] t.endStrip.spoilStrip with | .ok _ _ => true | .error _ _ => false)
       | .error _ _ => false) = true := by
  dsimp only; and_intros <;> decide +kernel

/-! ## Witnesses: vector instructions -/

/-- The single-mode tandem with a vector type, a length and a row count. -/
def Tests.vec (vt vl rc : Nat) : State :=
  Tests.csr Tests.one (fun c => { c with vtype := BitVec.ofNat 64 vt, vl := BitVec.ofNat 64 vl, rc := BitVec.ofNat 64 rc })

/-- The E-side of a paired tandem with 16 registers in the first vector queue to it. -/
def Tests.vqueue (vt vl rc : Nat) : State :=
  let s := Tests.vec vt vl rc
  { s with tan := { s.tan with single := false, vq := [(0, { items := List.replicate 16 7 })], sq := [(0, { items := [5] })] } }

/-- A tile that can be read, in terms that decide; its queue has no fault marker. -/
theorem tileHere_of_checks {s : State} {n g : Nat}
    (h : s.srcOk n ∧ s.tileFits n g ∧ (n < 112 ∨ (s.me.csr.rows * g ≤ (s.tan.vfifo (n - 112)).items.length ∧ (s.tan.vfifo (n - 112)).bad = false ∧ (s.tan.vfifo (n - 112)).marker = none))) :
    s.tileHere n g := by
  refine ⟨h.1, h.2.1, ?_⟩
  rcases h.2.2 with h | ⟨h1, hb, h2⟩
  · exact Or.inl h
  · refine Or.inr ⟨h1, hb, fun m hm => ?_⟩
    rw [h2] at hm; cases hm

/-- Registers at both ends of the names; D is a source. -/
theorem witness_tiles_registers :
    let s := Tests.vec 2 32 1
    Claims.tiles2 s 111 0 111 ∧ Claims.tileScalar s 0 111 111 ∧ Claims.tiles1 s 0 111 ∧ Claims.formatted s := by
  unfold Claims.tiles2 Claims.tileScalar Claims.tiles1 Claims.formatted State.tileRoom State.dstOk State.srcOk State.srcHere State.tileFits State.apart State.vectorHere
  refine ⟨⟨by decide +kernel, by decide +kernel, tileHere_of_checks ?_, tileHere_of_checks ?_, by decide +kernel⟩,
    ⟨by decide +kernel, by decide +kernel, tileHere_of_checks ?_, by decide +kernel⟩,
    ⟨by decide +kernel, by decide +kernel, tileHere_of_checks ?_, by decide +kernel⟩, by decide +kernel⟩
  all_goals unfold State.srcOk State.tileFits; decide +kernel

/-- A whole queue of 16 rows read, and the same number pushed; a narrow format that is legal. -/
theorem witness_tiles_queues :
    let s := Tests.vqueue 0 128 16
    Claims.tiles1 s 127 112 ∧ Claims.tileScalar s 127 112 112 ∧ Claims.formatted s ∧ Claims.tiles2 s 127 112 96 := by
  unfold Claims.tiles2 Claims.tileScalar Claims.tiles1 Claims.formatted State.tileRoom State.dstOk State.srcOk State.srcHere State.tileFits State.apart State.vectorHere
  refine ⟨⟨by decide +kernel, by decide +kernel, tileHere_of_checks ?_, by decide +kernel⟩,
    ⟨by decide +kernel, by decide +kernel, tileHere_of_checks ?_, by decide +kernel⟩, by decide +kernel,
    ⟨by decide +kernel, by decide +kernel, tileHere_of_checks ?_, tileHere_of_checks ?_, by decide +kernel⟩⟩
  all_goals unfold State.srcOk State.tileFits; decide +kernel

/-- Sources of four registers and a destination of eight, the widest that a widening member takes; VFCLAMP's last pair of scalars. -/
theorem witness_tiles_wide :
    let s := Tests.vec 0x22 128 1
    s.vectorHere ∧ s.me.csr.blk = 0 ∧ s.me.csr.sew ≠ 64 ∧ s.me.csr.grp ≠ 8 ∧ s.tileHere 0 4 ∧ (s.tileTaken 0 4).tileHere 108 4 ∧
      ((s.tileTaken 0 4).tileTaken 108 4).tileRoom 8 8 ∧ s.tileRoom 8 8 ∧ s.apart 8 8 0 4 ∧ s.apart 8 8 108 4 ∧ s.srcOk 111 ∧
      (s.tileTaken 0 4).srcHere 111 ∧ (110#7).toNat ≤ 110 := by
  refine ⟨?_, ?_, ?_, ?_, tileHere_of_checks ?_, tileHere_of_checks ?_, ?_⟩
  all_goals try unfold State.vectorHere
  all_goals try unfold State.tileRoom
  all_goals try unfold State.dstOk
  all_goals try unfold State.srcOk
  all_goals try unfold State.srcHere
  all_goals try unfold State.tileFits
  all_goals try unfold State.apart
  all_goals (and_intros <;> decide +kernel)

/-- Compares with the greatest row count, their first source a queue; predicates into a scalar queue and into a vector queue. -/
theorem witness_ComparesAndPredicatesWriteTheirBits :
    let s := Tests.vqueue 0 128 16
    s.vectorHere ∧ s.me.csr.blk = 0 ∧ s.me.csr.rows ≤ 16 ∧ s.me.csr.len ≤ 1024 ∧ Claims.formatted s ∧ s.tileHere 112 1 ∧ (s.tileTaken 112 1).tileHere 96 1 ∧
      s.srcOk 112 ∧ (s.tileTaken 112 1).srcHere 112 ∧ s.me.csr.vstart = 0 ∧ s.dstOk 127 ∧ s.dstRoom 127 ∧ s.tileRoom 127 s.me.csr.grp ∧ s.me.csr.grp = 1 := by
  refine ⟨?_, ?_, ?_, ?_, ?_, tileHere_of_checks ?_, tileHere_of_checks ?_, ?_⟩

  all_goals try unfold State.vectorHere
  all_goals try unfold Claims.formatted
  all_goals try unfold State.tileRoom
  all_goals try unfold State.dstOk
  all_goals try unfold State.dstRoom
  all_goals try unfold State.srcOk
  all_goals try unfold State.srcHere
  all_goals try unfold State.tileFits
  all_goals (and_intros <;> decide +kernel)

/-- A permute of the last tile into the first, with every kind of second operand; as many elements as rows for a transpose. -/
theorem witness_PermutesMoveElements :
    let s := Tests.vec 2 2 2
    let u := s.tileTaken 110 1
    s.me.csr.grp = 1 ∧ Claims.permutes s 0 110 ∧ s.srcOk 111 ∧ u.srcHere 111 ∧ (u.srcTaken 111).tileRoom 0 1 ∧ ((u.srcTaken 111).srcValue 111).toNat < s.me.csr.rows ∧
      u.tileHere 4 1 ∧ s.apart 0 1 4 1 ∧ (u.tileTaken 4 1).tileRoom 0 1 ∧ s.me.csr.len = s.me.csr.rows ∧ (u.srcTaken 111).dstRoom 0 := by
  refine ⟨?_, ⟨?_, ?_, ?_, tileHere_of_checks ?_, ?_⟩, ?_, ?_, ?_, ?_, tileHere_of_checks ?_, ?_⟩
  all_goals try unfold State.vectorHere
  all_goals try unfold State.tileRoom
  all_goals try unfold State.dstOk
  all_goals try unfold State.dstRoom
  all_goals try unfold State.srcOk
  all_goals try unfold State.srcHere
  all_goals try unfold State.tileFits
  all_goals try unfold State.apart
  all_goals (and_intros <;> decide +kernel)

/-- A reduction over a queue into registers, of rows of the greatest length at SEW 8. -/
theorem witness_ReductionsAndScansCombineElements :
    let s := Tests.vqueue 0x30 1024 2
    Claims.reduces s 96 112 0 ∧ s.me.csr.len ≤ 1024 ∧ s.me.csr.len = 1024 ∧ Claims.formatted s ∧ s.me.csr.hctl.getLsbD 0 = false := by
  refine ⟨⟨?_, ?_, ?_, tileHere_of_checks ?_, tileHere_of_checks ?_, ?_⟩, ?_, ?_, ?_, ?_⟩
  all_goals try unfold State.vectorHere
  all_goals try unfold Claims.formatted
  all_goals try unfold State.tileRoom
  all_goals try unfold State.dstOk
  all_goals try unfold State.srcOk
  all_goals try unfold State.tileFits
  all_goals (and_intros <;> decide +kernel)

/-- A conversion to a format four times as wide, one to the same width in place, and one to a narrower format. -/
theorem witness_ConversionsDeliverTheirFormat :
    let s := Tests.vec 0x10 256 1
    s.vectorHere ∧ s.me.csr.blk = 0 ∧ Claims.codeBits 10 = 32 ∧ s.me.csr.grp * 32 ≤ 8 * s.me.csr.sew ∧ Claims.formatted s ∧ s.tileHere 0 2 ∧
      (s.tileTaken 0 2).tileRoom 8 8 ∧ s.apart 8 8 0 2 ∧ Claims.codeBits 14 = 8 ∧ narrowLegal s.me.csr.nfmt.toNat = true ∧ s.tileRoom 110 s.me.csr.grp := by
  refine ⟨?_, ?_, ?_, ?_, ?_, tileHere_of_checks ?_, ?_⟩
  all_goals try unfold State.vectorHere
  all_goals try unfold Claims.formatted
  all_goals try unfold State.tileRoom
  all_goals try unfold State.dstOk
  all_goals try unfold State.srcOk
  all_goals try unfold State.tileFits
  all_goals try unfold State.apart
  all_goals (and_intros <;> decide +kernel)

/-! ## Witnesses: vector memory -/

/-- A vector state whose page is written and cached already, with bases for the ends of the page and of the shared space. -/
def Tests.cached (vt vl rc : Nat) (r : List (Nat × Word)) : State :=
  let s := Tests.vec vt vl rc
  State.marked { s with me := { s.me with s := r } } .store (Tests.xlats s .store true 0x1FFFFF0 16)

theorem witness_vector_access_registers :
    let s := Tests.cached 2 2 2 [(6, 0x1FFFFF0), (7, 8), (8, 0x3FFFF0)]
    s.Tidy ∧ s.vectorHere ∧ s.unwatched ∧ Claims.fitting s ∧ s.Quiet ∧ Claims.kindLegal s 0 ∧ Claims.kindLegal s 7 ∧ s.me.csr.grp = 1 ∧
      Claims.secondHere s .unit 6 7 ∧ Claims.secondHere s .strided 6 7 ∧ Claims.secondHere s .row 6 7 ∧ Claims.secondHere s .indexed 6 110 ∧
      s.apart 0 1 110 1 ∧ (Claims.secondTaken s .strided 6 7).tileRoom 0 1 ∧ (Claims.secondTaken s .indexed 6 110).tileRoom 0 1 ∧ s.me.csr.blk = 0 ∧
      s.me.csr.rows ≤ 16 ∧ s.tan.core < 256 ∧ Claims.formatted s ∧ s.me.csr.frm.toNat ≤ 5 ∧ s.me.csr.nfmt.toNat < 2 ^ 18 ∧ s.me.csr.hctl.getLsbD 0 = false := by
  refine ⟨tidy_of_checks (by decide +kernel), ?_, ?_, ?_, ?_, ?_, ?_, ?_, ?_, ?_, ?_, ⟨?_, ?_, tileHere_of_checks ?_⟩, ?_⟩
  all_goals try unfold State.vectorHere
  all_goals try unfold State.unwatched
  all_goals try unfold Claims.fitting
  all_goals try unfold State.Quiet
  all_goals try unfold Claims.kindLegal
  all_goals try unfold Claims.formatted
  all_goals try unfold Claims.secondHere
  all_goals try unfold State.tileRoom
  all_goals try unfold State.dstOk
  all_goals try unfold State.srcOk
  all_goals try unfold State.srcHere
  all_goals try unfold State.tileFits
  all_goals try unfold State.apart
  all_goals (and_intros <;> first | exact True.intro | decide +kernel)

/-- Global accesses of every form that end with a page, and shared ones that end with the space. -/
theorem witness_vector_access_places :
    let s := Tests.cached 2 2 2 [(6, 0x1FFFFF0), (7, 8), (8, 0x3FFFF0)]
    let at' (f : Form) (a e : Nat) := Claims.place s f (s.srcValue a) 8 (Claims.second s f a (if f = .indexed then 110 else 7) e) e
    let loads (f : Form) (e : Nat) := Tests.xlats s .load true (at' f 6 e).addr 4
    let stores (f : Form) (e : Nat) := Tests.xlats s .store true (at' f 6 e).addr 4
    let loaded (f : Form) (e : Nat) := Claims.after .load (Claims.pages false (loads f)) (Claims.performedBelow s false e) s
    let stored (f : Form) (e : Nat) := Claims.after .store (Claims.pages false (stores f)) (Claims.performedBelow s false e) s
    (∀ f ∈ [Form.unit, .row, .indexed], ∀ e ∈ Claims.performedBelow s false 4,
      Claims.readable (loaded f e) false (at' f 6 e) (loads f e) ∧ Claims.writable (stored f e) false (at' f 6 e) (stores f e)) ∧
    (∀ e ∈ Claims.performedBelow s false 2, Claims.readable (loaded .strided e) false (at' .strided 6 e) (loads .strided e)) ∧
    (∀ f ∈ [Form.unit, .row, .indexed], ∀ e ∈ Claims.performedBelow s false 4, Claims.readable s true (at' f 8 e) [] ∧ Claims.writable s true (at' f 8 e) []) ∧
    (at' .unit 6 3).addr + 4 = 0x2000000 ∧ (at' .unit 8 3).addr + 4 = 0x400000 ∧ 16 ≤ s.stripShare := by
  unfold Claims.readable Claims.writable State.opens State.sound State.soundShared; dsimp only; and_intros <;> decide +kernel

/-- A load into a queue, masked so that no element is read, and a store from one. -/
theorem witness_vector_access_queues :
    let s := Tests.vqueue 2 32 16
    s.Tidy ∧ s.vectorHere ∧ s.unwatched ∧ Claims.fitting s ∧ Claims.secondHere s .unit 112 0 ∧ (Claims.secondTaken s .unit 112 0).tileRoom 120 s.me.csr.grp ∧
      Claims.performedBelow s true (s.me.csr.rows * s.me.csr.len) = [] ∧ Claims.secondHere s .indexed 6 0 ∧
      (Claims.secondTaken s .indexed 6 0).tileHere 112 s.me.csr.grp ∧ Claims.secondHere s .indexed 6 112 ∧ s.apart 120 s.me.csr.grp 112 s.me.csr.grp := by
  refine ⟨tidy_of_checks (by decide +kernel), ?_, ?_, ?_, ?_, ?_, ?_, ⟨?_, ?_, tileHere_of_checks ?_⟩, tileHere_of_checks ?_, ⟨?_, ?_, tileHere_of_checks ?_⟩, ?_⟩
  all_goals try unfold State.vectorHere
  all_goals try unfold State.unwatched
  all_goals try unfold Claims.fitting
  all_goals try unfold Claims.secondHere
  all_goals try unfold State.tileRoom
  all_goals try unfold State.dstOk
  all_goals try unfold State.srcOk
  all_goals try unfold State.srcHere
  all_goals try unfold State.tileFits
  all_goals try unfold State.apart
  all_goals (and_intros <;> first | exact True.intro | decide +kernel)

/-- VLDFF whose second element lies in the page above the context's only one, VLDBC of one row, VLDSEG of two fields. -/
theorem witness_VectorLoadsFillTheirTiles_special :
    let s := Tests.cached 2 2 1 [(6, 0x1FFFFFC), (7, 0x1FFFFF0)]
    let at' (a q : Nat) := Claims.place s .unit (s.srcValue a) 8 0 q
    let loads (a q : Nat) := Tests.xlats s .load true (at' a q).addr 4
    let stores (q : Nat) := Tests.xlats s .store true (at' 7 q).addr 4
    let fields := Claims.fieldsBelow s false 2 2
    s.Tidy ∧ s.Quiet ∧ s.vectorHere ∧ s.unwatched ∧ Claims.fitting s ∧ (s.srcTaken 6).tileRoom 111 s.me.csr.grp ∧ s.me.csr.rows = 1 ∧ 1 < s.me.csr.len ∧
      (∀ e ∈ Claims.performedBelow s false 1, Claims.readable (Claims.after .load (loads 6) (Claims.performedBelow s false e) s) false (at' 6 e) (loads 6 e)) ∧
      Claims.performed s false 1 = true ∧ Claims.performedBelow s false 1 ≠ [] ∧ s.myCtx.vcount * 2 ^ 25 ≤ (at' 6 1).addr ∧
      (∀ e ∈ Claims.performedBelow s false 2, Claims.readable (Claims.after .load (loads 7) (Claims.performedBelow s false e) s) false (at' 7 e) (loads 7 e)) ∧
      110 % s.me.csr.grp = 0 ∧ 110 + 2 * s.me.csr.rows * s.me.csr.grp ≤ 112 ∧ fields = [0, 1, 2, 3] ∧
      (∀ q ∈ fields, Claims.readable (Claims.after .load (loads 7) (fields.filter (fun x => decide (x < q))) s) false (at' 7 q) (loads 7 q) ∧
        Claims.writable (Claims.after .store stores (fields.filter (fun x => decide (x < q))) s) false (at' 7 q) (stores q)) := by
  refine ⟨tidy_of_checks (by decide +kernel), ?_⟩
  unfold State.Quiet State.vectorHere State.unwatched Claims.fitting State.tileRoom State.dstOk State.tileFits Claims.readable Claims.writable State.opens State.sound State.soundShared
  dsimp only; and_intros <;> decide +kernel

theorem foldr_same {α β : Type} (f g : α → β → β) (z : β) : ∀ l : List α, (∀ b ∈ l, ∀ r, f b r = g b r) → l.foldr f z = l.foldr g z
  | [], _ => rfl
  | x :: r, h => by
    rw [List.foldr_cons, List.foldr_cons, foldr_same f g z r (fun b hb => h b (List.mem_cons_of_mem _ hb)), h x List.mem_cons_self]

theorem translateBytes_vector (s : State) (mem : Mem) (c : Context) (d : Nat) (v y : Bool) (k : AccessKind) (a n : Nat)
    (h : ∀ b ∈ range a n, vectorRegion (b % 2 ^ 64) = true) :
    translateBytes { s with mem := mem } c d v y k a n = translateBytes s c d v y k a n := by
  have key : ∀ b ∈ range a n, Machine.translate { s with mem := mem } c d v y k (b % 2 ^ 64) = Machine.translate s c d v y k (b % 2 ^ 64) := by
    intro b hb; unfold Machine.translate; simp only [h b hb, if_true]
  unfold translateBytes
  cases (range a n).find? (fun b => byteInBounds c v (b % 2 ^ 64) = false) with
  | some b => rfl
  | none => exact foldr_same _ _ _ _ (fun b hb r => by simp only [key b hb])

theorem cacheXlat_vector (mem : Mem) (x : Xlat) (s : State) : cacheXlat { s with mem := mem } x = { cacheXlat s x with mem := mem } := by
  unfold cacheXlat
  cases x.install with
  | none => rfl
  | some e =>
    unfold installXlat
    dsimp only
    split
    · rfl
    · split <;> rfl

theorem marked_vector (mem : Mem) (k : AccessKind) : ∀ (xs : List Xlat) (s : State), (xs.all (fun x => x.mark.isRight)) = true →
    State.marked { s with mem := mem } k xs = { s.marked k xs with mem := mem }
  | [], _, _ => rfl
  | x :: r, s, h => by
    simp only [List.all_cons, Bool.and_eq_true] at h
    have hx : markXlat { s with mem := mem } k x = { markXlat s k x with mem := mem } := by
      unfold markXlat
      rw [cacheXlat_vector]
      unfold setAccessed
      cases hm : x.mark with
      | inl p => rw [hm] at h; simp at h
      | inr i => by_cases hd : x.direct = true <;> simp only [hd, if_true, if_false, Bool.false_eq_true] <;> rfl
    show State.marked (markXlat { s with mem := mem } k x) k r = _
    rw [hx]
    exact marked_vector mem k r _ h.2

theorem opens_vector {s : State} {k : AccessKind} {v : Bool} {a n : Nat} {xs : List Xlat} (mem : Mem)
    (h : ∀ b ∈ range a n, vectorRegion (b % 2 ^ 64) = true) (ho : s.opens k v a n xs) : ({ s with mem := mem } : State).opens k v a n xs :=
  ⟨(translateBytes_vector s mem _ _ _ _ _ _ _ h).trans ho.1, ho.2⟩

/-- A tandem for a scatter-add, with a store held. -/
def Tests.scatter : State :=
  Tests.holding (Tests.scratch (Tests.cached 2 2 1 [(6, 0x1FFFFFC), (8, 0x3FFFFC)]) [(0x3FFFFC, [1, 2, 3, 4])]) (Tests.stores 64)

/-- Ordered and unordered scatter-adds: the last words of a page and of the shared space, with a store held. -/
theorem witness_VectorStoresReachMemory_scatter :
    let s := Tests.scatter
    let w := ((Claims.secondTaken s .indexed 6 110).tileTaken 0 1).endStrip
    s.Tidy ∧ s.Quiet ∧ w.Quiet ∧ (Claims.secondTaken s .indexed 6 110).tileHere 0 1 ∧
      (∀ e ∈ Claims.performedBelow s false 2, (Claims.place s .indexed (s.srcValue 6) 8 (Claims.second s .indexed 6 110 e) e).addr = 0x1FFFFFC ∧
        (Claims.place s .indexed (s.srcValue 8) 8 (Claims.second s .indexed 8 110 e) e).addr = 0x3FFFFC) ∧ 0x1FFFFFC % 4 = 0 ∧ 0x3FFFFC % 4 = 0 ∧
      s.sound (Tests.xlats s .atomic true 0x1FFFFFC 4) ∧ (Tests.xlats s .atomic true 0x1FFFFFC 4).map (·.pa) = range 0x1FFFFFC 4 ∧
      (∀ mem, ({ s with mem := mem } : State).opens .atomic true 0x1FFFFFC 4 (Tests.xlats s .atomic true 0x1FFFFFC 4) ∧
        ({ s with mem := mem } : State).marked .atomic (Tests.xlats s .atomic true 0x1FFFFFC 4) = { s with mem := mem }) ∧
      (∀ i < 4, lookup w.mem.scratch (s.tan.unit * 0x400000 + 0x3FFFFC + i) ≠ none) := by
  refine ⟨tidy_of_checks (by decide +kernel), ?_, ?_, tileHere_of_checks ?_, ?_, ?_, ?_, ?_, ?_, ?_, ?_⟩
  case refine_9 =>
    intro mem
    have h : Tests.scatter.opens .atomic true 0x1FFFFFC 4 (Tests.xlats Tests.scatter .atomic true 0x1FFFFFC 4) := by
      unfold State.opens; decide +kernel
    have hm : Tests.scatter.marked .atomic (Tests.xlats Tests.scatter .atomic true 0x1FFFFFC 4) = Tests.scatter := by decide +kernel
    refine ⟨opens_vector mem (by decide +kernel) h, ?_⟩
    · rw [marked_vector mem _ _ _ (by decide +kernel), hm]
  all_goals try unfold State.Quiet
  all_goals try unfold State.sound
  all_goals try unfold State.srcOk
  all_goals try unfold State.tileFits
  all_goals (and_intros <;> decide +kernel)

/-- The window and conflict members over a queue and over registers; VPACKNZ into the last registers. -/
theorem witness_GatherHelpersFindWindowsAndConflicts :
    let s := Tests.vqueue 0 128 1
    let u := Tests.vec 0 128 1
    s.Tidy ∧ s.vectorHere ∧ s.me.csr.blk = 0 ∧ s.me.csr.rows ≤ 16 ∧ s.me.csr.len ≤ 1024 ∧ s.tileHere 112 s.me.csr.grp ∧ s.me.csr.vstart = 0 ∧ s.dstOk 127 ∧
      (s.tileTaken 112 s.me.csr.grp).dstRoom 127 ∧ (s.tileTaken 112 s.me.csr.grp).tileRoom 127 s.me.csr.grp ∧ Claims.formatted s ∧
      (s.tileTaken 112 s.me.csr.grp).tileHere 112 s.me.csr.grp ∧ ((s.tileTaken 112 s.me.csr.grp).tileTaken 112 s.me.csr.grp).tileRoom 120 s.me.csr.grp ∧
      u.Tidy ∧ u.Quiet ∧ u.tileHere 0 u.me.csr.grp ∧ u.tileRoom 111 u.me.csr.grp ∧ u.tileRoom 110 u.me.csr.grp ∧ u.apart 111 u.me.csr.grp 0 u.me.csr.grp ∧
      u.apart 110 u.me.csr.grp 0 u.me.csr.grp ∧ u.apart 111 u.me.csr.grp 110 u.me.csr.grp ∧ u.me.csr.hctl.getLsbD 4 = false ∧ u.me.csr.len * u.me.csr.sew ≤ 1024 * u.me.csr.grp := by
  refine ⟨tidy_of_checks (by decide +kernel), ?_, ?_, ?_, ?_, tileHere_of_checks ?_, ?_, ?_, ?_, ?_, ?_, tileHere_of_checks ?_, ?_, tidy_of_checks (by decide +kernel),
    ?_, tileHere_of_checks ?_, ?_⟩
  all_goals try unfold State.Quiet
  all_goals try unfold State.vectorHere
  all_goals try unfold Claims.formatted
  all_goals try unfold State.tileRoom
  all_goals try unfold State.dstOk
  all_goals try unfold State.dstRoom
  all_goals try unfold State.srcOk
  all_goals try unfold State.tileFits
  all_goals try unfold State.apart
  all_goals (and_intros <;> decide +kernel)

/-! ## Witnesses: the matrix engine -/

/-- A configuration word: its mode, M − 1, N − 1, operands of descriptor 3, and output format. -/
def Tests.cfg (mode m n of : Nat) : BitVec 64 := BitVec.ofNat 64 (mode + m * 2 ^ 2 + n * 2 ^ 9 + 3 * 2 ^ 16 + 3 * 2 ^ 20 + of * 2 ^ 24)

/-- A tandem with sixteen tiles, tile 15 configured so, and a legal descriptor in td3. -/
def Tests.tile (s : State) (c : BitVec 64) : State :=
  { s with tan := { s.tan with z := 16, zcfg := [(15, c)], td := [(3, Tests.desc)] } }

theorem witness_tileReady (s : State) (c : BitVec 64) (h : s.tan.firmware = none ∧ s.onA = false ∧ s.me.savedNow = none ∧ s.tan.matrix = [] ∧ s.tan.overflows = [])
    (hc : cfgLegal c = true) : Claims.tileReady (Tests.tile s c) 15 := by
  obtain ⟨h1, h2, h3, h4, h5⟩ := h
  refine ⟨⟨⟨h1, h2⟩, (by decide : 15 < 16), hc, ?_, ?_⟩, h3⟩
  · intro p hp; change p ∈ s.tan.matrix at hp; rw [h4] at hp; cases hp
  · intro o ho; change o ∈ s.tan.overflows at ho; rw [h5] at ho; cases ho

/-- Tiles of the three modes at their greatest shapes; the ends of the anchor's range; a batch that MWAIT waits for. -/
theorem witness_TileInstructionsSetTheirTile :
    let r := Tests.pair [(6, BitVec.ofInt 64 (-512)), (7, 511)] [Tests.cfg 1 63 63 7] []
    let s := Tests.tile r (Tests.cfg 1 63 63 7)
    let t := Tests.tile r (Tests.cfg 2 127 63 2)
    let u := Tests.tile r (Tests.cfg 0 127 127 0)
    Claims.tileReady s 15 ∧ Claims.tileReady t 15 ∧ Claims.tileReady u 15 ∧ s.Tidy ∧ t.Tidy ∧ u.Tidy ∧ s.me.csr.vstart = 0 ∧ s.srcOk 112 ∧ s.srcHere 112 ∧
      cfgLegal (s.srcValue 112) = true ∧ cfgMode (s.tan.cfg 15) = 1 ∧ -512 ≤ (s.srcValue 6).toInt ∧ (s.srcValue 6).toInt ≤ 511 ∧ (s.srcValue 7).toInt ≤ 511 ∧
      cfgMode (t.tan.cfg 15) = 2 ∧ s.dstOk 127 ∧ s.dstRoom 127 ∧ s.tan.outstandingBatches ≤ 0 ∧ s.tan.overflows = [] := by
  refine ⟨witness_tileReady _ _ (by decide +kernel) (by decide), witness_tileReady _ _ (by decide +kernel) (by decide),
    witness_tileReady _ _ (by decide +kernel) (by decide), tidy_of_checks (by decide +kernel), tidy_of_checks (by decide +kernel), tidy_of_checks (by decide +kernel), ?_⟩
  unfold State.srcOk State.srcHere State.dstOk State.dstRoom; and_intros <;> decide +kernel

/-- A posted product of tile 2 and batch 0. -/
def Tests.product : Posted :=
  { batch := 0, op := 0, tile := 2, cfg := Tests.cfg 0 0 0 2, anchor := 0, tda := Tests.desc, tdb := Tests.desc, ka := 0, kb := 0, a := .codes [0x3F800000],
    b := .codes [0x40000000], seq := 0 }

/-- A batch that MWAIT waits for; reports that it passes: one made, one of the open batch, one of a batch with work posted. -/
theorem witness_TileInstructionsSetTheirTile_wait :
    let s := Tests.tile Tests.one (Tests.cfg 0 0 0 0)
    let report (b : Nat) (d : Bool) : Overflow := { seq := 0, batch := b, tile := 3, elem := 0, done := d }
    let u : State := { s with tan := { s.tan with matrix := [Tests.product], openBatch := 1, overflows := [report 0 true, report 1 false, report 0 false] } }
    Claims.tileReady u 15 ∧ u.Tidy ∧ u.me.csr.vstart = 0 ∧ (0#7).toNat < u.tan.outstandingBatches ∧ u.tan.outstandingBatches ≤ (1#7).toNat ∧
      (∀ o ∈ u.tan.overflows, o.done = true ∨ u.tan.openBatch ≤ o.batch ∨ ∃ p ∈ u.tan.matrix, p.batch = o.batch) := by
  refine ⟨⟨⟨⟨rfl, rfl⟩, by decide, by decide, by decide +kernel, by decide +kernel⟩, by decide +kernel⟩, tidy_of_checks (by decide +kernel), by decide +kernel,
    by decide +kernel, by decide +kernel, by decide +kernel⟩

/-- A tile of two by two at the end of a page, in FP32; a row of it in a vector tile, and in the affine mode its gains. -/
theorem witness_TilesMoveTheirElements :
    let r := Tests.cached 2 2 2 [(6, 0x1FFFFF0), (7, 8), (8, 128)]
    let s := Tests.tile r (Tests.cfg 0 1 1 2)
    let t := Tests.tile r (Tests.cfg 2 1 1 2)
    let at' := Claims.tilePlace s (s.tan.cfg 15) (s.srcValue 6) ((s.srcTaken 6).srcValue 7)
    let loads (e : Nat) := Tests.xlats s .load true (at' e).addr 4
    let stores (e : Nat) := Tests.xlats s .store true (at' e).addr 4
    s.Tidy ∧ Claims.tileReady s 15 ∧ Claims.tileReady t 15 ∧ t.Tidy ∧ s.unwatched ∧ s.me.csr.hctl.getLsbD 4 = false ∧ s.can2 0 6 7 ∧ s.me.csr.vstart = 0 ∧
      cfgOf (s.tan.cfg 15) ≠ 6 ∧ Claims.tileCount (s.tan.cfg 15) = 4 ∧ (at' 3).addr + 4 = 0x2000000 ∧
      (∀ e < 4, Claims.readable (Claims.after .load loads (range 0 e) s) false (at' e) (loads e) ∧
        Claims.writable (Claims.after .store stores (range 0 e) s) false (at' e) (stores e)) ∧ 16 ≤ s.stripShare ∧
      s.me.csr.sew = 32 ∧ s.me.csr.len ≤ cfgN (s.tan.cfg 15) ∧ s.srcOk 9 ∧ s.srcHere 9 ∧ (s.srcTaken 9).tileRoom 0 s.me.csr.grp ∧
      (s.srcValue 9).toNat % 128 + s.me.csr.rows ≤ cfgM (s.tan.cfg 15) ∧ (t.srcValue 8).toNat / 128 = 1 ∧ cfgMode (t.tan.cfg 15) = 2 ∧
      s.tileHere 0 s.me.csr.grp ∧ s.srcOk 9 ∧ (s.tileTaken 0 s.me.csr.grp).srcHere 9 := by
  refine ⟨tidy_of_checks (by decide +kernel), witness_tileReady _ _ (by decide +kernel) (by decide), witness_tileReady _ _ (by decide +kernel) (by decide),
    tidy_of_checks (by decide +kernel), ?_, ?_, ?_, ?_, ?_, ?_, ?_, ?_, ?_, ?_, ?_, ?_, ?_, ?_, ?_, ?_, ?_, tileHere_of_checks ?_, ?_⟩
  all_goals try unfold State.unwatched
  all_goals try unfold State.tileRoom
  all_goals try unfold State.tileFits
  all_goals try unfold State.can2
  all_goals try unfold State.srcOk
  all_goals try unfold State.srcHere
  all_goals try unfold State.dstOk
  all_goals try unfold State.dstRoom
  all_goals try unfold Claims.readable
  all_goals try unfold Claims.writable
  all_goals try unfold State.opens
  all_goals try unfold State.sound
  all_goals try unfold State.soundShared
  all_goals try simp only [Bool.false_eq_true, if_false]
  all_goals (and_intros <;> decide +kernel)

/-- A scan resumed at its last step, and one resumed after it. -/
theorem witness_AffineScansCarryTheirColumns_resumed :
    let r (v : Word) : State := Tests.csr { Tests.one with me := { Tests.one.me with saved := some { pc := 0, flags := 1 } } } (fun c => { c with vstart := v })
    let s := Tests.tile (r 6) (Tests.cfg 2 127 63 2)
    let u := Tests.tile (r 7) (Tests.cfg 2 127 63 2)
    s.Tidy ∧ u.Tidy ∧ Claims.tileFree s 15 ∧ Claims.tileFree u 15 ∧ s.me.savedNow.isSome = true ∧ (∀ x, s.me.savedNow = some x → x.pc = s.me.pc) ∧
      (∀ x, u.me.savedNow = some x → x.pc = u.me.pc) ∧ cfgMode (s.tan.cfg 15) = 2 ∧ s.me.csr.vstart = BitVec.ofNat 64 6 ∧ u.me.csr.vstart = BitVec.ofNat 64 7 := by
  refine ⟨tidy_of_checks (by decide +kernel), tidy_of_checks (by decide +kernel), ⟨⟨rfl, rfl⟩, by decide, by decide, by decide +kernel, by decide +kernel⟩,
    ⟨⟨rfl, rfl⟩, by decide, by decide, by decide +kernel, by decide +kernel⟩, by decide +kernel, ?_, ?_, by decide +kernel, by decide +kernel, by decide +kernel⟩
  all_goals intro x h; cases h; rfl

/-- An affine tile; a carry register loaded and stored in the last 1,024 bytes of a page. -/
def Tests.carry : State :=
  let r := Tests.regs [(6, 0x1FFFC00)]
  Tests.tile (r.marked .store (Tests.xlats r .store false 0x1FFFC00 16)) (Tests.cfg 2 127 63 2)

theorem witness_AffineScansCarryTheirColumns :
    let s := Tests.carry
    let stores (e : Nat) := Tests.xlats s .store false (0x1FFFC00 + e) 1
    s.Tidy ∧ Claims.tileReady s 15 ∧ s.me.csr.vstart = 0 ∧ cfgMode (s.tan.cfg 15) = 2 ∧ s.srcOk 6 ∧ s.srcHere 6 ∧ s.unwatched ∧
      s.opens .load false 0x1FFFC00 1024 (Tests.xlats s .load false 0x1FFFC00 1024) ∧ s.sound (Tests.xlats s .load false 0x1FFFC00 1024) ∧
      1024 ≤ s.stripShare ∧ ∀ e < 1024, (Claims.after .store stores (range 0 e) s).opens .store false (0x1FFFC00 + e) 1 (stores e) := by
  intro s stores
  have hm : ∀ i < 32, ∀ j < 32, s.marked .store (stores (32 * i + j)) = s := by decide +kernel
  have ht : ∀ i < 32, ∀ j < 32, translateBytes s s.myCtx s.tan.die false s.tan.firmware.isSome .store (0x1FFFC00 + (32 * i + j)) 1 =
      .ok (stores (32 * i + j)) := by decide +kernel
  have hr : ∀ i < 32, ∀ j < 32, ∀ x ∈ stores (32 * i + j), regionOf x.pa = Region.device ∧ x.discarded = false ∧ x.dev = false ∧ s.ready1.getLsbD (homeStation x.pa) = true := by
    decide +kernel
  have ho : ∀ i < 32, ∀ j < 32, s.opens .store false (0x1FFFC00 + (32 * i + j)) 1 (stores (32 * i + j)) := fun i hi j hj => ⟨ht i hi j hj, hr i hi j hj⟩
  have h (e : Nat) (he : e < 1024) : s.marked .store (stores e) = s ∧ s.opens .store false (0x1FFFC00 + e) 1 (stores e) := by
    have h1 := hm (e / 32) (by omega) (e % 32) (by omega)
    have h2 := ho (e / 32) (by omega) (e % 32) (by omega)
    rw [Nat.div_add_mod] at h1 h2
    exact ⟨h1, h2⟩
  refine ⟨tidy_of_checks (by decide +kernel), witness_tileReady _ _ (by decide +kernel) (by decide), by decide +kernel, by decide +kernel, ?_, ?_, ?_, ?_, ?_,
    by decide +kernel, fun e he => ?_⟩
  · unfold State.srcOk; decide +kernel
  · unfold State.srcHere; decide +kernel
  · unfold State.unwatched; decide +kernel
  · unfold State.opens; decide +kernel
  · unfold State.sound; decide +kernel
  · rw [after_same _ (fun n hn => (h n (mem_range_below n 0 hn (by omega))).1)]
    exact (h e he).2

/-- Products of one row and column in an FP mode and an affine one, from a queue, registers and scratch; the last place of the matrix queue, and none. -/
theorem witness_ProductsArePostedInOrder :
    let r := Tests.vqueue 2 1 1
    let s := Tests.tile { r with me := { r.me with s := [(110, 0x3FFFFC), (111, 4)] } } (Tests.cfg 0 0 0 2)
    let w := Tests.tile r (Tests.cfg 2 0 0 2)
    s.tan.firmware = none ∧ s.onA = false ∧ s.me.savedNow = none ∧ s.me.csr.vstart = 0 ∧ (15#4).toNat < s.tan.z ∧ s.seeTds = s ∧ tdLegal (s.tan.readTd s.onA (cfgTda (s.tan.cfg 15))) = true ∧
      tdLegal (s.tan.readTd s.onA (cfgTdb (s.tan.cfg 15))) = true ∧ pairLegal (cfgMode (s.tan.cfg 15)) (cfgM (s.tan.cfg 15)) (cfgN (s.tan.cfg 15)) Tests.desc Tests.desc = true ∧
      Claims.capturable s s false 112 1 Tests.desc ∧ Claims.capturable s (s.tileTaken 112 1) true 110 1 Tests.desc ∧ s.me.csr.hctl.getLsbD 0 = false ∧
      cfgMode (s.tan.cfg 15) ≠ 2 ∧ cfgMode (w.tan.cfg 15) = 2 ∧ tdSplit Tests.desc ≠ 1 ∧ (List.replicate 63 Tests.product).length < 64 ∧
      64 ≤ (List.replicate 64 Tests.product).length := by
  refine ⟨?_, ?_, ?_, ?_, ?_, ?_, ?_, ?_, ?_, ⟨tileHere_of_checks ?_, ?_⟩, ?_⟩
  all_goals try unfold Claims.capturable
  all_goals try unfold State.srcOk
  all_goals try unfold State.tileFits
  all_goals try simp only [if_true]
  all_goals (and_intros <;> decide +kernel)

/-! ## Witnesses: events at a hart -/

theorem onE {s : State} (h : s.onA = false) : ¬(s.onA = true ∧ s.tan.single = true) := fun x => absurd (h.symm.trans x.1) Bool.false_ne_true

/-- The hart waits in its fence, kind `p` of scope system. -/
def Tests.fence (p : Nat × (BitVec 7 → Instr)) : State :=
  let s := Tests.memory Tests.one [(0, bytesOfWord (encode (p.2 5)))]
  { s with me := { s.me with stalled := some 0, stallWord := encode (p.2 5), held := Tests.stores 64 } }

theorem witness_HartEventsActOnTheirHart_fence :
    ∀ p ∈ Claims.fences, let s := Tests.fence p
      Claims.runs s ∧ s.me.stallWord = encode (p.2 5) ∧ wMaj (encode (p.2 5)) = 0x13 ∧ wFn5 (encode (p.2 5)) = p.1 ∧ s.Quiet ∧ s.me.savedNow = none ∧
        s.me.stalled ≠ none ∧
        (let u : State := { s with ir := encode (p.2 5), notes := [], mem := { s.mem with flight := [] } }
         u.me.outstanding = [] ∧ u.me.copies = []) := by
  intro p hp
  refine ⟨⟨rfl, rfl, onE rfl, rfl, 0, 0, rfl⟩, ?_⟩
  simp only [Claims.fences, List.mem_cons, List.not_mem_nil, or_false] at hp
  rcases hp with rfl | rfl | rfl | rfl | rfl | rfl <;> (unfold State.Quiet; and_intros <;> decide +kernel)

/-- Nothing is under way for a fence of scope CORE that no store precedes. -/
theorem witness_HartEventsActOnTheirHart_fence_due :
    ∀ p ∈ Claims.fences, let s := Tests.holding (Tests.fence p) []
      let u : State := { s with ir := encode (p.2 5), notes := [] }
      u.endStrip.Quiet ∧ Claims.fenceDue p.1 (wD (encode (p.2 5))) u.endStrip := by
  intro p hp
  simp only [Claims.fences, List.mem_cons, List.not_mem_nil, or_false] at hp
  rcases hp with rfl | rfl | rfl | rfl | rfl | rfl <;> (unfold State.Quiet Claims.fenceDue; and_intros <;> decide +kernel)

/-- A hart of a paired tandem that waits so. -/
def Tests.waiting (port : Nat) (reason : Word) : State :=
  let s := Tests.pair [] [5] (List.replicate 31 1)
  { s with me := { s.me with stalled := some port, stallNeed := 1, csr := { s.me.csr with waitrsn := reason, xvec := 0x40 } } }

/-- Waits for the last vector queue, the first and the last scalar queue, and the branch queue. -/
theorem witness_HartEventsActOnTheirHart_stall :
    Claims.stallOver (Tests.waiting 16 1) ∧ Claims.stallOver (Tests.waiting 17 2) ∧ Claims.stallOver (Tests.waiting 32 1) ∧ Claims.stallOver (Tests.waiting 33 1) ∧
    Claims.runs (Tests.waiting 33 1) ∧ ¬Claims.stallOver (Tests.waiting 18 2) := by
  unfold Claims.stallOver Claims.runs
  refine ⟨.inl ⟨15, by decide +kernel⟩, .inr (.inl ⟨0, by decide +kernel⟩), .inr (.inl ⟨15, by decide +kernel⟩), .inr (.inr (by decide +kernel)),
    ⟨rfl, rfl, onE rfl, rfl, 0, 0, rfl⟩, ?_⟩
  decide +kernel

/-- Eligible stores of the last byte of the shared space and of device memory, and behind the second one a store of other bytes. -/
theorem witness_HartEventsActOnTheirHart_drain :
    let s := Tests.holding Tests.one ((Tests.stores (deviceTop - 1) ++ Tests.stores 64).map (fun x => { x with eligible := true }))
    Claims.runs s ∧ s.isFirmware s.hart = false ∧ s.Quiet ∧ s.tan.die < 4 ∧ s.endStrip.spoilStrip.Quiet ∧
      (∀ k ∈ [0, 1, 3], ∃ x, s.me.held[k]? = some x ∧ x.eligible = true ∧ (x.shared = false → ∀ b ∈ x.bytes, b.pa < deviceTop) ∧
        (x.shared = true → ∀ b ∈ x.bytes, b.va < 0x400000) ∧
        ∀ y ∈ s.me.held.take k, y.shared = x.shared → ∀ b ∈ y.bytes, ∀ c ∈ x.bytes, b.va ≠ c.va) := by
  refine ⟨⟨rfl, rfl, onE rfl, rfl, 0, 0, rfl⟩, by decide +kernel, ?_, by decide +kernel, ?_, ?_⟩
  · unfold State.Quiet; and_intros <;> decide +kernel
  · unfold State.Quiet; and_intros <;> decide +kernel
  · intro k hk
    simp only [List.mem_cons, List.not_mem_nil, or_false] at hk
    rcases hk with rfl | rfl | rfl
    · exact ⟨{ shared := true, eligible := true, bytes := [{ va := 0x3FFFFF, pa := 0, val := 0xA5, mask := 0xFF }] }, by decide +kernel⟩
    · exact ⟨{ shared := false, eligible := true, bytes := [{ va := deviceTop - 1, pa := deviceTop - 1, val := 0x5A, mask := 0xFF }] }, by decide +kernel⟩
    · exact ⟨{ shared := false, eligible := true, bytes := [{ va := 64, pa := 64, val := 0x5A, mask := 0xFF }] }, by decide +kernel⟩

/-- The progress timer at a queue and in a group barrier; a COPY-ERROR. -/
theorem witness_HartEventsActOnTheirHart_traps :
    let s := Tests.waiting 18 2
    let g := Tests.waiting 1 13
    let c : State := { s with me := { s.me with copyErrors := [{ addr := 9, word0 := 3 }] } }
    Claims.runs s ∧ s.me.stalled ≠ none ∧ s.me.tis = false ∧ s.peer.tis = false ∧ s.me.csr.waitrsn.toNat ∉ [3, 15, 16, 17, 18] ∧ s.me.csr.xvec ≠ 0 ∧
      (∀ c ∈ s.me.copies ++ s.peer.copies, c.waiting = none) ∧ s.me.held = [] ∧ Claims.runs g ∧ g.me.csr.waitrsn.toNat ∉ [3, 15, 16, 17, 18] ∧ barrierHeld g = false ∧ Claims.runs c ∧ c.me.copyErrors ≠ [] ∧
      c.me.saved = none := by
  unfold Claims.runs; dsimp only
  refine ⟨⟨rfl, rfl, onE rfl, rfl, 0, 0, rfl⟩, by decide +kernel, by decide, by decide, by decide +kernel, by decide +kernel, by decide +kernel, by decide +kernel,
    ⟨rfl, rfl, onE rfl, rfl, 0, 0, rfl⟩, by decide +kernel, by decide +kernel, ⟨rfl, rfl, onE rfl, rfl, 0, 0, rfl⟩, ?_, ?_⟩
  · decide +kernel
  · decide +kernel

theorem witness_HartEventsActOnTheirHart_preempt : Claims.runs Tests.one ∧ Claims.alone Tests.one :=
  ⟨⟨rfl, rfl, onE rfl, rfl, 0, 0, rfl⟩, rfl, fun _ h => by cases h⟩

/-- A tandem under a recheck that is pending. -/
def Tests.rechecked (r : Recheck) : State := { Tests.one with me := { Tests.one.me with recheck := r } }

theorem witness_HartEventsActOnTheirHart_recheck :
    (Tests.rechecked (.pending 0)).me.recheck = .pending (Tests.rechecked (.pending 0)).me.pc ∧
    (Tests.rechecked (.forced 0)).me.recheck = .forced (Tests.rechecked (.forced 0)).me.pc ∧ (Tests.rechecked (.forced 0)).me.loop = none ∧
    Claims.runs (Tests.rechecked (.forced 0)) :=
  ⟨rfl, rfl, rfl, rfl, rfl, onE rfl, rfl, 0, 0, rfl⟩

/-- A trial of 5 clocks, its record the last 128 bytes of a page. -/
theorem witness_HartEventsActOnTheirHart_trial :
    let s := Tests.csr Tests.one (fun c => { c with trctl := 1 + 5 * 2 ^ 32, trbase := 0x1FFFF80, cycle := 5 })
    Claims.runs s ∧ s.me.csr.trctl.getLsbD 0 = true ∧ s.me.savedNow = none ∧ field s.me.csr.trctl 32 32 ≤ s.cycles.toNat - s.me.trial.startCycle ∧
      (match trialStores s.me.csr.trbase.toNat ([s.me.csr.trexp.toNat, s.cycles.toNat - s.me.trial.startCycle, s.me.trial.withheld, s.me.trial.inside,
          s.me.trial.outside, 0, 0, 0] ++ s.me.trial.counters) { s with ir := 0, notes := [] } with
        | .ok _ _ => true
        | .error _ _ => false) = true := by
  unfold Claims.runs; dsimp only
  refine ⟨⟨rfl, rfl, onE rfl, rfl, 0, 0, rfl⟩, ?_⟩
  and_intros <;> decide +kernel

/-- A device with another tandem away, number 2, resident on core 255. -/
def Tests.two : State :=
  { Tests.one with away := [{ t := { uid := 2, tid := 1, tix := 1, place := .resident 255 7, core := 255, slot := 7, started := true }, e := {}, a := {} }] }

theorem witness_HartEventsActOnTheirHart_away :
    Tests.two.live = true ∧ Tests.two.tan.uid ≠ 5 / 2 ∧ (Tests.two.away.find? (fun y => y.t.uid == 5 / 2)).isSome = true := by decide +kernel

/-- A first product, in each of the modes. -/
theorem witness_MatrixWorkCompletes :
    ∀ c ∈ [Tests.cfg 0 127 127 2, Tests.cfg 1 63 63 7, Tests.cfg 2 127 63 2], let p := { Tests.product with cfg := c, tile := 15 }
      let r := Tests.tile Tests.one (Tests.cfg 0 0 0 0)
      let s : State := { r with tan := { r.tan with matrix := [Tests.product, p], openBatch := 1 } }
      Claims.runs s ∧ Claims.alone s ∧ s.Tidy ∧ s.tan.matrix[1]? = some p ∧ firstOfTile s.tan.matrix 1 = true ∧ s.tan.zsaved = false ∧ cfgLegal p.cfg = true ∧
        tdSplit p.tda ≠ 1 ∧ tdSplit p.tdb ≠ 1 := by
  intro c hc
  refine ⟨⟨rfl, rfl, onE rfl, rfl, 0, 0, rfl⟩, ⟨rfl, fun _ h => by cases h⟩, ?_, rfl, ?_, rfl, ?_, ?_, ?_⟩ <;>
    (simp only [List.mem_cons, List.not_mem_nil, or_false] at hc; rcases hc with rfl | rfl | rfl) <;>
    first | exact tidy_of_checks (by decide +kernel) | decide +kernel

/-- A copy of two chunks of 16 bytes, from the last 32 bytes of a page to those of scratch, or back, whose first chunk is done. -/
def Tests.copying (toShared : Bool) (seg : Option Segment) : State :=
  let g := 0x1FFFFE0
  let o := 0x3FFFE0
  let c : Copy := { id := 0, toShared := toShared, src := if toShared then g else o, dst := if toShared then o else g, count := 32, clog := 4, seg := seg,
                    bar := none, mask := some (63, 16382), done := [0], word0 := 0 }
  { Tests.one with me := { Tests.one.me with copies := [c] } }

/-- How a byte of a copy translates. -/
def Tests.xlat (s : State) (c : Copy) (kind : AccessKind) (a : Nat) : Xlat :=
  match translate s s.myCtx (coreDie c.core) true false kind a with
  | .ok x => x
  | .error _ => { pa := 0, attr := 0, mark := .inr 0 }

/-- What the chunk's witnesses have in common. -/
def Tests.chunkReady (s : State) (k : Nat) : Bool :=
  match s.me.copies with
  | [c] =>
    let bytes := range (k * 2 ^ c.clog) (c.chunkLen k)
    decide (k < c.chunks ∧ k ∉ c.done ∧ c.core < 256) && (lookup c.stood k).isNone && c.bar.isNone && s.dbg.frozen.isEmpty && s.links.requests.isEmpty &&
    (copyDev s c == false) &&
    (if c.toShared then
      c.regions.all (fun r => r.1 + r.2 ≤ 0x400000) && decide (bytes.map c.dstAddr).Nodup &&
      (Claims.chunkSources c k).all (fun a => match translate s s.myCtx (coreDie c.core) true false .copyRead a with
        | .ok x => decide (regionOf x.pa = .device ∧ x.discarded = false ∧ s.stationReady x = true) && (lookup s.mem.bad x.pa).isNone
        | .error _ => false)
     else
      c.seg.isNone && decide (bytes.map (fun b => (Tests.xlat s c .copyWrite (c.dstAddr b)).pa)).Nodup &&
      bytes.all (fun b => match translate s s.myCtx (coreDie c.core) true false .copyWrite (c.dstAddr b) with
        | .ok x => decide (regionOf x.pa = .device ∧ x.discarded = false ∧ s.stationReady x = true)
        | .error _ => false))
  | _ => false

/-- The last chunk of a copy to scratch, of one from it, and of a segment copy of two fields. -/
theorem witness_CopiesMoveTheirChunksAndRetire :
    Tests.chunkReady (Tests.copying true none) 1 = true ∧ Tests.chunkReady (Tests.copying false none) 1 = true ∧
    Tests.chunkReady (Tests.copying true (some { fields := 1, kind := 0, df := 0, rstr := 1, nfmt := 0x115 })) 1 = true := by
  and_intros <;> decide +kernel

theorem witness_CopiesMoveTheirChunksAndRetire_retire :
    let c : Copy := { id := 5, toShared := true, src := 0, dst := 0, count := 16, clog := 4, seg := none, bar := none, mask := none, done := [0], failed := true,
                      failAddr := 9, flags := 1, word0 := 0 }
    let s : State := { Tests.one with me := { Tests.one.me with copies := [c] } }
    s.live = true ∧ s.me.copies.find? (fun x => x.id == 5) = some c ∧ (∀ k < c.chunks, k ∈ c.done) ∧ ¬(c.failed = true ∧ s.me.exited = true) ∧
      s.tan.place = .resident 0 0 := by
  and_intros <;> decide +kernel

/-- A replay of a loop of three iterations, which counts s6 down and s7 up, at its last iteration: the path is one ADDI. -/
def Tests.replaying (ended : Option ReplayEnd) (word : BitVec 32) : Loop :=
  { start := 4, lend := 8, ra := 6, rb := 7, count := 3, start0 := 10, iter := 2,
    replay := some { j := 2, path := [{ pc := 4, word := word }], ended := ended, inductions := [(5, 40)] } }

/-- One iteration is performed whole; one stops at a load from an address where nothing is mapped; and the three ends of a replay. -/
theorem witness_ReplaysPerformAndHandBack :
    let at' (e : Option ReplayEnd) (w : BitVec 32) : State := { Tests.one with me := { Tests.one.me with loop := some (Tests.replaying e w) } }
    let begins (w : BitVec 32) : State :=
      let s := at' none w
      match (Tests.replaying none w).replay with
      | some r => { s with
          me := replayHart (Tests.replaying none w) r s.me
          tan := { s.tan with core := r.lead / 3 * 64 }
          dbg := { s.dbg with passed := s.hart :: s.dbg.passed } }
      | none => s
    let path (w : BitVec 32) : List RecInstr := [{ pc := 4, word := w }]
    let add := encode (.addi 5 5 1)
    let far := encode (.ldg 5 0 3 0x200)
    (at' none add).live = true ∧ (at' none add).onA = false ∧ (at' none add).tan.page = none ∧ (at' none add).tan.heldRecord = none ∧ (at' none add).me.csr.rck = 0 ∧
      (match replayPath 0 (path add) (begins add) with
        | .ok _ => true
        | .error _ => false) = true ∧
      (match replayPath 0 (path far) (begins far) with
        | .error (some _) => true
        | _ => false) = true ∧
      (∀ e ∈ [ReplayEnd.replayed, .departed, .returned],
        ((at' (some e) add).me.loop.bind (·.replay)).bind (·.ended) = some e ∧ (Tests.replaying (some e) add).sweep = none) := by
  dsimp only; and_intros <;> decide +kernel

/-- Two writes of die 0 in flight; die 3 may apply the first. -/
theorem witness_WritesSpreadAndRepliesArrive :
    let f (n : Nat) (pa : Nat) : Flight := { origin := 0, tag := [n, 0, 0, 0], bytes := [(pa, 7, 0xFF)], seen := [true, false, false, false] }
    let m : Mem := { flight := [f 1 0, f 2 (deviceTop - 1)], clocks := [[2, 0, 0, 0], [0, 0, 0, 0], [0, 0, 0, 0], [0, 0, 0, 0]] }
    let r : Request := { tag := 4, hart := 2, va := 0, pa := 0x8000000000000, op := .read 8, port := some 11, sent := true }
    let s : State := { Tests.one with
      mem := m, links := { requests := [r, { r with tag := 5, posted := true, op := .write [(1, 0xFF)] }], ports := [(11, { state := .quiesced })] } }
    s.mem.mayApply 3 (f 1 0) = true ∧ Memory.wf s.mem.cells = true ∧ (∀ g ∈ s.mem.flight, g.seen.length = 4) ∧ (∀ g ∈ s.mem.flight.drop 1, g.seenBy 3 = false) ∧
      (∀ q ∈ s.links.requests, q.reply = none ∧ ∀ p ∈ s.links.requests, p.tag = q.tag → p = q) ∧ (s.links.port 11).state = .quiesced ∧ s.dbg.frozen = [] ∧ r.hart % 2 ^ 40 = s.hart := by
  dsimp only; and_intros <;> decide +kernel

/-- A fault record. -/
def Tests.record : FaultRecord := { csn := 0, addr := 0, qid := 0, core := 0, slot := 0, side := 0, kind := .load, reason := 1, asid := 0, tid := 0, age := 0 }

/-- A first and a second disagreement, with one record of room; the last lane of the last core. -/
theorem witness_ChecksFenceFailingCores :
    let r := Tests.rechecked (.forced 0)
    let s : State := { r with faults := [(0, { records := List.replicate 1023 Tests.record })] }
    let u : State := { s with me := { s.me with disagreed := some (0, 0) } }
    let v : State := { Tests.two with rel := { Tests.two.rel with sweeps := [(255, true)] } }
    Claims.runs s ∧ s.me.loop = none ∧ s.tan.heldRecord = none ∧ (s.faultBuffer s.tan.die).records.length < 1024 ∧
      s.me.disagreed ≠ some (s.me.pc, s.tan.core) ∧ u.me.disagreed = some (u.me.pc, u.tan.core) ∧ (255 ∉ v.rel.fenced) ∧ ((255, true) ∈ v.rel.sweeps) ∧
      ((255, true) ∉ Tests.two.rel.sweeps) ∧ (v.allTandems.map (·.t.uid)).Nodup := by
  refine ⟨⟨rfl, rfl, onE rfl, rfl, 0, 0, rfl⟩, ?_⟩
  and_intros <;> decide +kernel

/-! ## Witnesses: kernels, contexts, queues -/

/-- A tandem that waits for its first slot, with `z` tiles. -/
def Tests.newcomer (z : Nat) : Away := { t := { uid := 2, tid := 4, tix := 1, z := z }, e := {}, a := {} }

/-- A device on which it may be dispatched to any core, its context's image area at `img`. -/
def Tests.dispatching (z img : Nat) : State :=
  { Tests.one with away := [Tests.newcomer z], ready0 := BitVec.ofNat 64 (2 ^ 64 - 1), ctxs := [{ loadedContext with imgBase := img }] }

/-- The page of these in migration. -/
def Tests.migrating (s : State) : State := { s with paging := { s.paging with vtab := (range 0 4).foldl (fun v d => sparseSet 0 v (131072 * d) 0x3A) [] } }

/-- A tandem that has left slot 0 of core 0 with sixteen tiles there. -/
def Tests.departed : Away := { t := { uid := 2, tid := 4, tix := 1, z := 16, started := true, place := .parked 19 0 }, e := {}, a := {} }

theorem witness_KernelsStartCompleteAndStop_dispatch :
    let s := Tests.dispatching 16 0x1000000
    let u := Tests.dispatching 0 0x2000000
    let c := s.myCtx
    let placed (s : State) (x : Away) : Option (Nat × Bool) := match placeTandem 255 7 s x with
      | .ok _ => none
      | .error e => some e
    s.tandem? 2 = some (Tests.newcomer 16) ∧ s.ctx? 0 = some c ∧ c.state ≠ .reclaimed ∧ c.asid ≠ none ∧ mayDispatch s (Tests.newcomer 16) = true ∧
      slotOpen s (Tests.newcomer 16).t 255 7 = true ∧ hasRoom s (Tests.newcomer 16).t 255 7 = true ∧
      imageFault s c (coreDie 255) (Tests.newcomer 16).t = none ∧ placed s (Tests.newcomer 16) = none ∧ mayDispatch u (Tests.newcomer 0) = true ∧
      slotOpen u (Tests.newcomer 0).t 0 7 = true ∧ hasRoom u (Tests.newcomer 0).t 0 7 = true ∧
      (imageFault u u.myCtx (coreDie 0) (Tests.newcomer 0).t).map (·.2) = some false ∧ (Tests.newcomer 0).t.started = false ∧
      (imageFault (Tests.migrating s) c (coreDie 255) (Tests.newcomer 16).t).map (·.2) = some true := by
  dsimp only; and_intros <;> decide +kernel

/-- A tandem goes to another core, and where it left its tiles cannot be written, or only later; a RECLAIMED context. -/
theorem witness_KernelsStartCompleteAndStop_dispatch_again :
    let s (img : Nat) : State := { Tests.dispatching 0 img with away := [Tests.departed] }
    let r : State := { s 0x1000000 with ctxs := [{ loadedContext with state := .reclaimed, asid := none }] }
    let placed (s : State) : Option Bool := match placeTandem 255 7 s Tests.departed with
      | .ok _ => none
      | .error e => some e.2
    (s 0x1000000).tandem? 2 = some Tests.departed ∧ mayDispatch (s 0x2000000) Tests.departed = true ∧ slotOpen (s 0x2000000) Tests.departed.t 255 7 = true ∧
      hasRoom (s 0x2000000) Tests.departed.t 255 7 = true ∧ Tests.departed.t.started = true ∧ placed (s 0x1000000) = none ∧
      placed (s 0x2000000) = some false ∧ placed (Tests.migrating (s 0x1000000)) = some true ∧ r.myCtx.state = .reclaimed ∧
      (∀ d ∈ r.ctxs, d.num = r.myCtx.num → d = r.myCtx) ∧ slotOpen r Tests.departed.t 255 7 = true ∧ hasRoom r Tests.departed.t 255 7 = true := by
  dsimp only; and_intros <;> decide +kernel

/-- A kernel whose only tandem has ended, DRAINING; the same with its stop under way, and live, and FAULTED; its completion counter is the last
doubleword of a page. -/
theorem witness_KernelsStartCompleteAndStop_end :
    let k : Kernel := { loadedKernel with state := .draining, tend := 1 }
    let s : State := { Tests.one with tan := { loadedTandem with place := .ended }, kernels := [k] }
    let d : Kernel := { k with doneAddr := 0x1FFFFF8 }
    let xs := Tests.xlats s .atomic false 0x1FFFFF8 8
    let result (r : Except XlatErr State) : Option Bool := match r with
      | .ok _ => none
      | .error e => some e.later
    let begun : State := s.modKernel 0 0 (fun j => { j with closing := true })
    let recorded (c : Context) : Option Bool := result (sysWrite { begun with mem := publishAll begun.mem } c 0 (kernelRecordAddr c 0)
      (kernelRecordBytes { k with state := .complete, closing := true }))
    let w : KernelStop := { cancelled := false, fcode := 2, ftid := 0, faddr := 0, finfo := 0 }
    let stopped (s : State) : Option Bool := result (sysWrite s loadedContext 0 (kernelRecordAddr loadedContext 0) (kernelRecordBytes (k.stopped w)))
    s.kernel? 0 0 = some k ∧ k.stop = none ∧ k.closing = false ∧ k.doneAddr = 0 ∧ k.adding = none ∧ (∀ y ∈ s.allTandems, y.t.owed = []) ∧ s.areaWrites = [] ∧
      recorded loadedContext = none ∧ recorded { loadedContext with recBase := 0x2000000 } = some false ∧ stopped s = none ∧
      stopped (Tests.migrating s) = some true ∧ (∀ y ∈ kernelTandems s 0 0, y.t.over = true ∧ s.frozen y.t = false) ∧ ({ k with closing := true } : Kernel).closing = true ∧
      (∀ y ∈ kernelTandems s 0 0, y.e.held = [] ∧ y.a.held = [] ∧ y.enginesIdle = true ∧ y.settled = true) ∧ k.live = true ∧
      ({ k with state := .faulted } : Kernel).state = .faulted ∧ d.doneAddr ≠ 0 ∧ translateBytes s s.myCtx 0 false false .atomic d.doneAddr.toNat 8 = .ok xs ∧
      xs ≠ [] ∧ (∀ z ∈ xs, s.stationReady z = true ∧ lookup s.mem.bad z.pa = none) ∧ regionOf ((xs.map (·.pa)).headD 0) = .device ∧
      Memory.wf s.mem.cells = true := by
  dsimp only; and_intros <;> decide +kernel

/-- 511 contexts that hold all ASIDs but the last, and one of number 600 to bind to the last vector page. -/
def Tests.binding : State :=
  Tests.memory { Tests.one with
    ctxs := (List.range 511).map (fun i => { num := i, block := 0, state := .boundIdle, asid := some i, lastRun := 600 - i }) ++ [{ num := 600, block := 0x40 }] }
    [(0x40, toBytes 8 7 ++ toBytes 8 0x1000 ++ toBytes 8 (131071 + 2 ^ 17))]

/-- The same with the last ASID held too. -/
def Tests.bindingFull : State := { Tests.binding with ctxs := Tests.binding.ctxs ++ [{ num := 602, block := 0, wants := true }, { num := 601, block := 0, state := .boundIdle, asid := some 511 }] }

theorem witness_ContextsAreBoundReclaimedAndDestroyed :
    let own : State := { Tests.binding with ctxs := [{ num := 600, block := 0x40, state := .faulted, asid := some 511 }] }
    Tests.binding.ctx? 602 = none ∧ own.ctxs.head?.map (·.asid) = some (some 511) ∧ bindOk own 600 (fun i => own.mem.viewNat 0 (0x40 + 8 * i) 8) = true ∧
      bindOk own 600 (fun i => own.mem.viewNat 0 i 8) = false ∧ Tests.binding.ctx? 600 = some { num := 600, block := 0x40 } ∧ Tests.binding.tt.on = false ∧
      (Tests.binding.ctxs.all (fun d => d.asid != some 511) && (List.range 511).all (fun b => Tests.binding.ctxs.any (fun d => d.asid == some b))) = true ∧
      bindOk Tests.binding 600 (fun i => Tests.binding.mem.viewNat 0 (0x40 + 8 * i) 8) = true ∧
      ((List.range 512).all (fun b => Tests.bindingFull.ctxs.any (fun d => d.asid == some b)) && Tests.bindingFull.ctxs.any (fun d => d.state == .boundIdle) &&
        Tests.bindingFull.ctxs.any (·.wants)) = true := by
  and_intros <;> decide +kernel

/-- The registers of a parked tandem are written back, to an image that takes them and to one whose page is in migration. -/
theorem witness_ContextsAreBoundReclaimedAndDestroyed_reclaim :
    let s : State := { Tests.one with tan := { Tests.one.tan with place := .parked 19 0, started := true } }
    let done (s : State) : Bool := match writeBackImages s 0 with
      | .ok _ => true
      | .error _ => false
    (∀ y ∈ s.allTandems, leftBehind y.t.core y.t = false) ∧ done s = true ∧ done (Tests.migrating s) = false := by
  dsimp only; and_intros <;> decide +kernel

theorem witness_ContextsAreBoundReclaimedAndDestroyed_destroy :
    Tests.two.ctx? 0 = some loadedContext ∧ loadedContext.state ≠ .destroyed ∧ (Tests.two.allTandems.map (·.t.uid)).Nodup := by decide +kernel

/-- The block of a new queue: ring at 0x1000, 2^16 entries, priority 7, aging. -/
def Tests.block : List Byte := toBytes 8 0x1000 ++ toBytes 8 (16 + 7 * 2 ^ 8 + 2 ^ 16 + 2 ^ 32) ++ toBytes 8 0x40

/-- A queue that waits, and one that holds a slot. -/
def Tests.queue (n : Nat) (st : QState) : Queue := { num := n, ctx := 0, block := 0x80, ring := 0x1000, state := st, eprio := 3, prog := 5, tail := 6 }

theorem witness_QueuesFollowTheirStates :
    let s := Tests.memory { Tests.one with ctxs := [{ loadedContext with block := 0x40 }] } [(0x80, Tests.block)]
    let c := s.myCtx
    let word (i : Nat) : Option Nat := match sysRead s (s.seenCtx c) 0 (0x80 + 8 * i) 8 false with
      | .ok w => some w
      | .error _ => none
    let saved (q : Queue) : Bool := match sysWrite s (s.seenCtx c) 0 (q.block + 24) (toBytes 8 q.tail ++ toBytes 8 q.prog ++ toBytes 8 (q.state.code + q.fcode * 256 + q.eprio * 65536)) false with
      | .ok _ => true
      | .error _ => false
    let u : State := { Tests.one with queues := [Tests.queue 4095 .ready, Tests.queue 7 .switchedOut] }
    let full : State := { u with queues := u.queues ++ (List.range 256).map (fun i => { Tests.queue (i + 8) .active with takes := 16, heldSince := 300 - i }) }
    s.tt.on = false ∧ s.ctx? 0 = some c ∧ c.state ≠ .destroyed ∧ s.areaWrites = [] ∧ saved (Tests.queue 9 .ready) = true ∧
      (Tests.queue 9 .ready).state.holdsSlot = false ∧ (Tests.queue 9 .active).state.holdsSlot = true ∧
      (match imagePages s (s.seenCtx c) 0 .load 0x80 1 with | .ok _ => true | .error _ => false) = true ∧ (range 0 8).all (fun i => (word i).isSome) = true ∧
      (∀ c ∈ full.ctxs, c.state = .reclaimed → waitedFor full c = false) ∧ (∀ q, s.queue? 4095 = some q → q.state = .disabled) ∧
      (queueOfBlock 4095 0 c.block 0x80 (fun i => (word i).getD 0)).isSome = true ∧ (∃ q ∈ u.queues, waitsForSlot u q = true) ∧
      ((slotHolders u).filter (fun z => z.num ≠ 4095)).length < 256 ∧ (∃ q ∈ full.queues, waitsForSlot full q = true) ∧
      256 ≤ ((slotHolders full).filter (fun z => z.num ≠ 4095)).length ∧ (victim full 3).isSome = true ∧
      (6 ≤ (2 ^ 63 - 1) ∧ 5 + 2 ^ 1 = 7) := by
  refine ⟨by decide +kernel, by decide +kernel, by decide +kernel, by decide +kernel, by decide +kernel, by decide +kernel, by decide +kernel, by decide +kernel,
    by decide +kernel, by decide +kernel, ?_, by decide +kernel, by decide +kernel, by decide +kernel, by decide +kernel, by decide +kernel, by decide +kernel, by decide⟩
  intro q h
  have : (Tests.memory { Tests.one with ctxs := [{ loadedContext with block := 0x40 }] } [(0x80, Tests.block)]).queue? 4095 = none := by decide +kernel
  rw [this] at h; cases h

/-- A queue whose head packet is known: 7 items in chunks of 2 for 3 tandems, its argument block the last of a page. -/
def Tests.headed (st : QState) (waitVal : Word) : Queue :=
  { Tests.queue 9 st with head := some [0, 0, BitVec.ofNat 64 (7 + 2 * 2 ^ 40 + 1 * 2 ^ 56), 0x100, waitVal, 0, 0x1FFFFC0, 0] }

/-- A packet that can be taken; a BLOCKED head that passes; a parked tandem that may go on. -/
theorem witness_PacketsBecomeKernels :
    let s : State := { Tests.one with queues := [Tests.headed .active 0], ctxs := [{ loadedContext with nextCsn := 1 }], kernels := [], away := [] }
    let b : State := { s with queues := [Tests.headed .blocked 0], live := false, tan := {} }
    let d : Tandem := { uid := 2, place := .parked 15 3, started := true }
    let p : State := { Tests.dispatching 0 0 with away := [{ t := d, e := {}, a := {} }] }
    leastBy (servedBefore s.lastServed) (servable s) = some (Tests.headed .active 0) ∧ mayTake s (Tests.headed .active 0) = true ∧
      (match examineHead s (Tests.headed .active 0) with
        | (u, .takeable q args) => (u.ctx? 0).isSome && decide (q.t = 3 ∧ q.g = 2 ∧ q.total = 7 ∧ args.length = 8)
        | _ => false) = true ∧
      b.allTandems = [] ∧ b.areaWrites = [] ∧ (∀ c ∈ b.ctxs, c.state ≠ .reclaimed) ∧ b.queues = [Tests.headed .blocked 0] ∧ p.areaWrites = [] ∧
      (∀ c ∈ p.ctxs, c.state = .reclaimed → hasWaiter p c = false) ∧
      (match testHead b (Tests.headed .blocked 0) with
        | (_, .ok _) => true
        | _ => false) = true ∧
      (∀ q ∈ p.queues, q.state ≠ .blocked) ∧ resumable p = [d] ∧ openSlots p d ≠ [] := by
  dsimp only; and_intros <;> decide +kernel

/-- A division into fewer chunks than tandems, and of a range of nothing. -/
theorem witness_PacketsBecomeKernels_split :
    let p : Packet := { eentry := 0, aentry := 0, total := 7, t := 5, g := 4, waitAddr := 0, waitVal := 0, doneAddr := 0, argAddr := 0, ser := false, irq := false,
                        prio := 0, zt := 0, ecls := 0 }
    1 ≤ p.g ∧ 1 ≤ p.t ∧ (range 0 5).map (splitRange p) = [(0, 4), (4, 3), (7, 0), (7, 0), (7, 0)] ∧ splitRange { p with total := 0, t := 1, g := 1 } 0 = (0, 0) := by
  decide

/-- A table row for queue 9. -/
def Tests.row : TtRow := { start := 0, len := 10000, queue := 9, skipNext := false, enabled := true }

theorem witness_TimeAndEnergyTablesAct :
    let s : State := { Tests.one with
      queues := [{ Tests.headed .active 0 with tt := true }], ctxs := [{ loadedContext with nextCsn := 1 }], kernels := []
      tt := { on := true, period := 10000, rows := [{ row := Tests.row, active := true }] } }
    let k : Kernel := { loadedKernel with row := some 0 }
    let r : State := { s with kernels := [{ k with ttParked := true }] }
    let m : State := { s with queues := [{ Tests.queue 9 .active with tt := true, tail := 5 }] }
    let e : State := { s with kernels := [k] }
    let mine (k : Kernel) : Bool := k.row == some 0 && k.ttParked && k.live && k.stop.isNone
    let begun (s : State) : State := s.modRow 0 (fun r => { r with active := true, skip := false })
    s.tt.on = true ∧ Tests.row.enabled = true ∧ tableOk s 10000 [Tests.row] = true ∧ tableOk s 9999 [Tests.row] = false ∧ s.tt.rows[0]? = some { row := Tests.row, active := true } ∧
      r.kernels.find? mine = some { k with ttParked := true } ∧ s.kernels.find? mine = none ∧
      (tryTake (begun s) { Tests.headed .active 0 with tt := true } (some 0)).2 = true ∧
      (tryTake (begun m) { Tests.queue 9 .active with tt := true, tail := 5 } (some 0)).2 = false ∧ kernelOfRow s 0 = none ∧ kernelOfRow e 0 = some k ∧ e.dbg.frozen = [] := by
  dsimp only; and_intros <;> decide +kernel

/-! ## Witnesses: links, the pager, debug, security -/

/-- A port in this state. -/
def Tests.port (p : Nat) (st : PortState) (fails : Nat) : State :=
  { Tests.one with links := { ports := [(p, { state := st, trainFails := fails, retry := 0xFFFFFFFF, fails := 0xFFFF, rejects := (if fails = 0 then 14 else 15), buffer := [{ seq := 0, load := .request 4, fails := if fails = 0 then 14 else 15 }] })] } }

theorem witness_PortsFollowTheirStates :
    ∀ st : PortState, ∀ f ∈ [0, 1, 2], ((Tests.port 11 st f).links.port 11).state = st ∧ ((Tests.port 11 st f).links.port 11).trainFails = f ∧
      ((Tests.port 11 st f).links.port 11).buffer = [{ seq := 0, load := .request 4, fails := if f = 0 then 14 else 15 }] ∧
      ((Tests.port 11 st f).links.port 11).rejects = if f = 0 then 14 else 15 := by
  intro st f hf
  simp only [List.mem_cons, List.not_mem_nil, or_false] at hf
  rcases hf with rfl | rfl | rfl <;> cases st <;> decide +kernel

/-- Accesses that end with device memory, of a port that is up and of the host; one sent again; one past the end; one to a closed granule. -/
theorem witness_OutsideAccessesReachDeviceMemory :
    let s : State := { Tests.port 11 .degraded 0 with ready1 := 0x10000FFF }
    let u : State := { Tests.port 0 .up 0 with links := { (Tests.port 0 .up 0).links with served := [{ tag := (2, 4), port := 1, data := [9] }] } }
    let o : State := { s with dbg := { s.dbg with otherKey := [(deviceTop - 1) / 4096] } }
    let c : State := { s with dbg := { s.dbg with closed := [(deviceTop - 1) / 4096] } }
    let i : State := { s with tan := { s.tan with place := .waiting, started := false } }
    let pa := deviceTop - 8
    (s.links.port 11).state = .degraded ∧ pa + accessLength (.read 8) ≤ deviceTop ∧ (∀ i < 8, s.ready1.getLsbD (homeStation (pa + i)) = true) ∧
      s.links.served = [] ∧ s.hostReady = true ∧ Tests.one.hostReady = false ∧ s.dbg.otherKey = [] ∧ o.dbg.otherKey.contains ((pa + 7) / 4096) = true ∧
      o.dbg.closed = [] ∧ (s.links.port 11).room (flitCount 8) = true ∧ (u.links.port 0).room (flitCount 1) = true ∧
      (∃ r ∈ u.links.served, r.tag = (2, 4) ∧ r.complete u.mem = true ∧ ∀ z ∈ u.links.served, z = r) ∧ (u.links.port 0).state = .up ∧
      deviceTop < pa + accessLength (.write (List.replicate 9 (1, 0xFF))) ∧ (∀ i < 8, s.dbg.closed.contains ((pa + i) / 4096) = false) ∧
      (∀ i < 8, lookup s.mem.bad (pa + i) = none) ∧ (∀ x ∈ s.allTandems, x.imageMeets s pa 8 = false) ∧ (∀ x ∈ i.allTandems, x.t.cached = false) ∧ i.allTandems ≠ [] ∧ c.dbg.closed.contains ((pa + 7) / 4096) = true := by
  dsimp only; and_intros <;> decide +kernel

/-- A tandem that waits for a page, a kernel that can stop, a record that is held while the buffer has room for one, and a shootdown whose range no
replay touches. -/
theorem witness_ThePagerAndTheVectorTableAct :
    let y : Away := { t := { uid := 2, tid := 1, place := .parked 15 0, page := some 0x1000, heldRecord := some Tests.record }, e := {}, a := {} }
    let s : State := { Tests.one with
      away := [y], faults := [(0, { records := List.replicate 1023 Tests.record })], paging := { Tests.one.paging with shoots := [{ ctx := 0, asid := 0, va := 0x1000, len := 0x1000 }] } }
    let f : Copy := { id := 0, toShared := true, src := 0x3000, dst := 0, count := 16, clog := 4, seg := none, bar := none, mask := none, word0 := 0, waiting := some (0x3000, 0) }
    let w : Away := { y with t := { y.t with page := none }, a := { copies := [f] } }
    let q : State := { s with queues := [{ Tests.queue 9 .active with page := some 0x2000 }] }
    let r : State := { s with links := { requests := [{ tag := 1, hart := 2, va := 0x1FFF, pa := 0x4000000000000, op := .read 8, port := some 0 }] } }
    s.links.requests = [] ∧ s.areaWrites = [] ∧ (∀ z ∈ s.allTandems, ∀ h ∈ [z.e, z.a], h.held = []) ∧ requestsIn r 0 0x1000 0x1000 = true ∧
      (∀ z ∈ r.links.requests, z.port ≠ none) ∧ s.ctx? 0 = some loadedContext ∧ loadedContext.asid = some 0 ∧ s.tandem? 2 = some y ∧ awaited y = some 0x1000 ∧ (awaited w).isSome = true ∧ w.t.page = none ∧ (q.queue? 9).map (·.page) = some (some 0x2000) ∧ s.kernel? 0 0 = some loadedKernel ∧ loadedKernel.live = true ∧
      loadedKernel.stop = none ∧ (s.faultBuffer 0).records.length < 1024 ∧ heldRecords s 0 ≠ [] ∧ requestsIn s 0 0x1000 0x1000 = false ∧
      (∀ z ∈ s.allTandems, z.t.ctx = 0 → replayIn 0x1000 0x1000 z.e = false ∧ replayIn 0x1000 0x1000 z.a = false) ∧ sparseWf 0 s.paging.vtab = true ∧
      s.ctxs.find? (fun c => c.bound && decide (c.vbase ≤ 0 ∧ 0 < c.vbase + c.vcount)) = some loadedContext := by
  dsimp only; and_intros <;> decide +kernel

theorem witness_DebugFunctionsAct :
    let c : Context := { loadedContext with debugOpen := true, sampled := true }
    let k : Sink := { base := 0, len := 4, windex := 3, dropped := 7 }
    let s : State := { Tests.one with
      ctxs := [c], queues := [{ Tests.queue 9 .active with hold := true }], dbg := { Tests.one.dbg with frozen := [63], skid := [(63, 1, [])], sinks := [(65536, k)] }
      links := { ports := [(11, { state := .up })] } }
    s.dbg.frozen.contains 63 = true ∧ s.ctx? 0 = some c ∧ s.queues = [{ Tests.queue 9 .active with hold := true }] ∧ s.live = true ∧ s.away = [] ∧ s.onA = false ∧
      s.tan.single = true ∧ s.tan.place = .resident 0 0 ∧ s.me.exited = false ∧ c.sampled = true ∧ lookup s.dbg.sinks 65536 = some k ∧ k.dropped ≠ 0 ∧
      k.windex - k.rindex < k.len ∧ (∃ j < 4, 4 * 63 + j ∉ s.rel.fenced) ∧ (s.links.port 11).carries = true ∧ loadedContext.debugOpen = false ∧
      regionOf 0xFFFF ≠ .doorbell ∧ regionOf (deviceTop + 0xFFC) = .doorbell ∧ (deviceTop + 0xFFC) % 4096 = 0xFFC := by
  dsimp only; and_intros <;> decide +kernel

/-- A token of the wrong length is not good, and may be tried; a context whose own key is loaded; a device that is idle, with a recovery point. -/
theorem witness_SecurityAndRecoveryAct :
    let s : State := { Tests.one with dbg := { Tests.one.dbg with keys := [(0, 5)], unlockFails := 7 } }
    let q : State := { Tests.one with rel := { quiesced := true }, tan := { loadedTandem with place := .parked 19 0 } }
    let r : State := { q with rel := { q.rel with safe := some { cells := [], vtab := [], vtag := [], ctxs := [{ loadedContext with keyed := true }], queues := [], kernels := [loadedKernel], tandems := q.allTandems, groups := [] } } }
    let o : State := { r with ctxs := [{ loadedContext with serial := 9 }] }
    s.dbg.unlockFails < 8 ∧ (∀ l : List Byte, l.length = 231 → tokenGood s l = false) ∧ s.ctx? 0 = some loadedContext ∧ loadedContext.asid ≠ none ∧
      lookup s.dbg.keys loadedContext.key ≠ none ∧ loadedContext.debugOpen = false ∧ loadedContext.key ≠ 255 ∧ s.rel.quiesced = false ∧ s.dbg.frozen = [] ∧
      deviceIdle q = true ∧ deviceIdle r = true ∧ (match r.rel.safe with
        | some p => p.ctxs.all (fun c => c.keyed && r.stillThere c && !o.stillThere c) && Memory.wf p.cells
        | none => false) = true ∧ deviceIdle o = true ∧ Memory.wf r.mem.cells = true ∧ r.mem.flight = [] := by
  dsimp only
  refine ⟨by decide +kernel, ?_, ?_⟩
  · intro l h; unfold tokenGood; simp [h]
  · and_intros <;> decide +kernel

/-! ## Witnesses: words and steps -/

theorem witness_DecodingAndEncodingAgree :
    (Instr.vldseg 127 127 7 7 1).hasWord = true ∧ (Instr.vldseg 127 127 7 7 1).wellFormed = true ∧ decodeWord 0 ≠ .ok (.add 0 0 0) := by decide +kernel

/-- A comparator watches the fetch of the last byte of the first word. -/
def Tests.watched (s : State) : State :=
  { s with ctxs := [{ loadedContext with debugOpen := true }], dbg := { s.dbg with comparators := [(7, { addr := 3, ctl := 1 })] } }

/-- A step of a fetched word, and of one that is none, with a comparator and without. -/
theorem witness_AStepRunsTheFetchedInstruction :
    ∀ w ∈ [encode (.add 5 6 7), 0#32], ∀ c ∈ [false, true],
      let m := Tests.memory Tests.one [(0, bytesOfWord w)]
      let s := if c then Tests.watched m else m
      s.inputs = [] ∧ (tick s).active = true ∧ s.quantum ≠ 0 ∧ boundary (tick s) = none ∧
        (match fetchAt s.me.pc.toNat (beforeFetch (tick s)) with
          | .ok v u => decide (v = w) && decide (fetchMatch { u with ir := w } = if c then some 7 else none) &&
              Tests.next (exec (.add 5 6 7) { u with ir := w }) (fun _ => true)
          | .error _ _ => false) = true := by
  intro w hw c hc
  simp only [List.mem_cons, List.not_mem_nil, or_false] at hw hc
  rcases hw with rfl | rfl <;> rcases hc with rfl | rfl <;> (and_intros <;> decide +kernel)

/-- The states of reset and of a placed program meet what every step keeps, and a step from reset has a next state. -/
theorem witness_EveryStepKeepsTheTablesCanonical : State.reset.Tidy ∧ Tests.one.Tidy ∧ ∃ t, step State.reset = .next t :=
  ⟨tidy_of_checks (by decide +kernel), tidy_of_checks (by decide +kernel), ⟨_, rfl⟩⟩

/-! ## Words and values that the manual works out -/

/-- A tile in blocks of 8 with 256 blocks, and VTYPE's other formats for the same. -/
theorem witness_ConversionsDeliverTheirFormat_scaled :
    let s := Tests.vec 0x180 128 16
    Claims.scaled s ∧ (s.me.csr.rows * s.me.csr.len - 1) / 2 ^ s.me.csr.blk = 255 ∧ s.tileHere 0 4 ∧ (s.tileTaken 0 4).tileRoom 64 1 ∧ s.apart 64 1 0 4 ∧
      s.tileHere 0 1 ∧ (s.tileTaken 0 1).tileRoom 48 4 ∧ s.apart 48 4 0 1 := by
  refine ⟨⟨?_, ?_⟩, ?_, tileHere_of_checks ?_, ?_, ?_, tileHere_of_checks ?_, ?_⟩
  all_goals try unfold State.vectorHere
  all_goals try unfold Claims.formatted
  all_goals try unfold State.tileRoom
  all_goals try unfold State.dstOk
  all_goals try unfold State.srcOk
  all_goals try unfold State.tileFits
  all_goals try unfold State.apart
  all_goals (and_intros <;> decide +kernel)

/-- The worked encodings of the encodings chapter. -/
theorem test_worked_encodings : Tests.reads [
  (0x1000021D, .csrrd 8 0x100), (0x0101501D, .csrset 0 10 0x010), (0x0420A24D, .ldg 9 5 2 16), (0xFFF82088, .bnez 2 0xFFF8), (0x29010226, .vfmul 8 8 16 1),
  (0x00914217, .amgAdd 3 8 10 9 0), (0x43028033, .mmac 0 20 48 1), (0x0301A337, .lmark 12 13 6)] = true := by decide +kernel

/-- The worked words of the scalar, vector and matrix chapters. -/
theorem test_worked_words : Tests.reads [
  (0xFF00A142, .addi 5 5 0x3FC), (0x00E0E183, .srai 6 7 3), (0x00B14247, .fmaS 9 10 11), (0x0000200C, .jlr 0 1 0), (0x0231418F, .stg 6 10 3 8),
  (0x10716012, .stlW 11 7), (0x18000113, .fenceSc 4), (0x98914217, .amgCas 3 8 10 9 1), (0x0050001C, .sysc 5), (0x1800605C, .wbase 1 3),
  (0x03010A2C, .vredo 40 8 48 0), (0x13010A2C, .vredt 40 8 48 0), (0x23010A2C, .vredu 40 8 48 0), (0x83010A2C, .vscano 40 8 48 0), (0x93010A2C, .vscant 40 8 48 0),
  (0x28010074, .mzwv 1 8 0), (0x60012074, .mgain 1 9), (0x30012034, .manch 0 9), (0x68000274, .mstat 9 0)] = true := by decide +kernel

/-- The words that the encodings chapter calls illegal; one of each with a bit of an unused field set, a reserved field value, and an unassigned major. -/
theorem test_illegal_words :
    [0#32, 0xF8000001, 0x30000033, 0x00000193, 0x00101040 + 0x12, 0x3F, 0x0030000E, 0x00006037, 0x1820005C, 0x1803405C].all (fun w => match decodeWord w with
      | .ok _ => false
      | .error _ => true) = true := by decide +kernel

/-- One ill-formed instruction for each check of well-formedness. -/
theorem test_ill_formed :
    [Instr.ldgz 0 0 3 0, .fenceAcq 6, .fenceRel 6, .fenceAr 6, .fenceSc 6, .fenceIo 6, .fenceEng 6, .wbase 2 0, .wbase 0 26, .vsetl 0 0 0x800, .vsetl 0 0 0xC,
      .vsetl 0 0 0x100, .vsetl 0 0 0x181, .vsetl 0 0 0x9, .vcvtf 0 0 15 0, .vcvtf 0 0 7 0, .vcvtfi 0 0 8 0, .vcvtif 0 0 7 0, .vcvtif 0 0 15 0, .vqnt 0 0 11 0,
      .vqnt 0 0 15 0, .vdqnt 0 0 7 0, .vdqnt 0 0 11 0, .vbscale 0 0 11 0, .vbscale 0 0 15 0, .vcvti 0 0 8 0, .vldseg 0 0 0 0 0, .vstseg 0 0 0 0 0, .lmark 0 0 0,
      .lmark 0 0 256, .lmarkSweep 0 0 0, .lmarkSweep 0 0 256].all (fun i => !i.wellFormed) = true := by decide +kernel

/-- R160's table of quotients. -/
theorem test_div : [(-7, 2, -3), (5, 0, 2 ^ 63 - 1), (-5, 0, -2 ^ 63), (-2 ^ 63, -1, 2 ^ 63 - 1)].all (fun e : Int × Int × Int =>
    Tests.next (exec (.div 5 6 7) (Tests.regs [(6, BitVec.ofInt 64 e.1), (7, BitVec.ofInt 64 e.2.1)])) (fun t => t.me.readS 5 == BitVec.ofInt 64 e.2.2)) = true := by
  decide +kernel

theorem test_divn_remn : Tests.next (exec (.divn 5 6 7) (Tests.regs [(6, BitVec.ofInt 64 (-7)), (7, 2)])) (fun t => t.me.readS 5 == 0x7FFFFFFFFFFFFFFC) = true ∧
    Tests.next (exec (.remn 5 6 7) (Tests.regs [(6, 9)])) (fun t => t.me.readS 5 == 9) = true ∧
    Tests.next (exec (.rem 5 6 7) (Tests.regs [(6, BitVec.ofInt 64 (-7)), (7, 2)])) (fun t => t.me.readS 5 == BitVec.ofInt 64 (-1)) = true := by decide +kernel

/-- The worked conversions of the formats chapter: FP32 to E4M3 under RNE and RTZ, and back from E5M2. -/
theorem test_conversions :
    (finish e4m3 0 0 (fp32.decode 0x3E99999A, 0)).1 = 0x2A ∧ (finish e4m3 1 0 (fp32.decode 0x3E99999A, 0)).1 = 0x29 ∧ (finish fp32 0 0 (e5m2.decode 0x03, 0)) = (0x38400000, 0) := by
  decide +kernel

/-- The worked six-bit narrow format: 100.0, −0.05 and 0.03125 under RNE, and 0.03125 under RNA, with the flags OF and NX, and UF and NX. -/
theorem test_narrow_conversions :
    narrowLegal 0x327 = true ∧ (finish (narrowFmt 0x327) 0 0 (fp32.decode 0x42C80000, 0)).1 = 0x1F ∧ (finish (narrowFmt 0x327) 0 0 (fp32.decode 0xBD4CCCCD, 0)).1 = 0x21 ∧
    (finish (narrowFmt 0x327) 0 0 (fp32.decode 0x3D000000, 0)).1 = 0 ∧ (finish (narrowFmt 0x327) 4 0 (fp32.decode 0x3D000000, 0)).1 = 1 := by decide +kernel

/-- The table of R198 for the FP16 row (2048, 1, 1, 1): VREDO, VREDT, VSCANO and VSCANT. -/
theorem test_ordered_sums :
    let s : State := { Tests.vec 1 4 1 with me := { (Tests.vec 1 4 1).me with v := [(8, 0x3C003C003C006800)] } }
    let gives (i : Instr) (n x : Nat) : Bool := Tests.next (exec i s) (fun t => (t.me.readV 40).toNat % 2 ^ n == x)
    gives (.vredo 40 8 48 0) 16 0x6800 = true ∧ gives (.vredt 40 8 48 0) 16 0x6801 = true ∧ gives (.vscano 40 8 48 0) 64 0x6800680068006800 = true ∧
      gives (.vscant 40 8 48 0) 64 0x6801680168006800 = true := by decide +kernel

/-- R21's example: 1,000 elements in chunks of 64 for six tandems. -/
theorem test_split :
    let p : Packet := { eentry := 0, aentry := 0, total := 1000, t := 6, g := 64, waitAddr := 0, waitVal := 0, doneAddr := 0, argAddr := 0, ser := false, irq := false,
                        prio := 0, zt := 0, ecls := 0 }
    (range 0 6).map (splitRange p) = [(0, 192), (192, 192), (384, 192), (576, 192), (768, 128), (896, 104)] := by decide

/-- R83's example: four rows (0.5, 1) and the carry (0.0625, 1.875); the rows' offsets and the new carry
once the seven steps are done. -/
theorem test_scan :
    let s0 := Tests.tile Tests.one (Tests.cfg 2 3 0 2)
    let words (w x : Nat) : List (Nat × BitVec 32) := (range 0 4).map (fun i => (16384 * 15 + w + 64 * i, BitVec.ofNat 32 x))
    let s : State := { s0 with
      tan := { s0.tan with zt := words 0 0x3F000000 ++ words 8192 0x3F800000 }
      me := { s0.me with h := [(0, BitVec.ofNat 8192 (0x3FF00000 * 2 ^ 32 + 0x3D800000))] } }
    let scan (o : Host.Outcome State Fault Refusal) : Host.Outcome State Fault Refusal := match o with
      | .next t => exec (.mscan 15 0) t
      | o => o
    Tests.next ((range 0 7).foldl (fun o _ => scan o) (.next s)) (fun t => t.me.pc == 4 && (range 0 4).map (fun i => (t.tan.word 15 (8192 + 64 * i)).toNat) == [0x3FF80000, 0x3FFC0000, 0x3FFE0000, 0x3FFF0000] &&
      (t.me.readH 0).toNat == 0x3FFF0000 * 2 ^ 32 + 0x3B800000) = true := by decide +kernel

/-- A step of SYSC 5, word 0x0050001C: the handler's address, XPC, XCAUSE and XINFO (R176, R341). -/
theorem test_sysc : Tests.next (step (Tests.csr (Tests.one.withFetchWord 32 0x0050001C) (fun c => { c with xvec := 0x40 })))
    (fun t => t.me.pc == 0x40 && t.me.csr.xpc == 4 && t.me.csr.xcause == 0x8000000000000007 && t.me.csr.xinfo == 0x0050001C) = true := by decide +kernel

/-- A step runs the word at the program counter, and the table's numbering of its bits is that of the word. -/
theorem test_step : Tests.next (step (Tests.one.withFetchWord 32 0x00B14247)) (fun t => t.me.pc == 4) = true ∧
    (decodeTableWord 32 0x00B14247 == some (.fmaS 9 10 11)) = true := by decide +kernel

end Sys2Proof
end

section
/-! PROOFS. The canonical form of the tables (O60). The form speaks of the memory's cells, of the registers of every hart and of the z-tiles of every
tandem. One lemma for each function of the model says that it keeps the form (its name is the function's, with `_tidy`): a table is only written by
setting keys, by dropping entries or as a canonical whole, and all else passes the tables on. The lemmas stand in the order of the model's files, so
that each proof follows the branches of its function and cites those before it. -/

namespace Sys2Proof.Machine
open Sys2Proof

/-! ## The canonical form, part by part -/

/-- The cells that every die view agrees on are in their canonical form. -/
def Mem.tidy (m : Mem) : Prop := Memory.wf m.cells = true

/-- The z-tiles of a tandem are in their canonical form. -/
def Tandem.tidy (t : Tandem) : Prop := sparseWf 0 t.zt = true

/-- Every tandem of a list is in its canonical form. -/
def AllTidy (l : List Away) : Prop := ∀ x ∈ l, x.tidy

/-- The tandems of the recovery point, where there is one, are in their canonical form. -/
def Reliability.tidy (r : Reliability) : Prop := ∀ p, r.safe = some p → AllTidy p.tandems

/-- A hart with nothing written. -/
theorem Hart.empty_tidy : Hart.tidy {} := ⟨rfl, rfl, rfl, rfl, rfl⟩

/-- A tandem with no z-tile written. -/
theorem Tandem.empty_tidy : Tandem.tidy {} := rfl

/-- Memory after writes to cells. -/
theorem Mem.tidy.writeCells {m m' : Mem} {ws : List (Nat × Byte × Byte)} (h : m'.tidy) :
    Mem.tidy { m with cells := Sys2Proof.Machine.writeCells m'.cells ws } := writeCells_wf _ _ h

namespace State.Tidy

variable {s : State}

theorem mem (h : s.Tidy) : s.mem.tidy := h.1
theorem me (h : s.Tidy) : s.me.tidy := h.2.1
theorem peer (h : s.Tidy) : s.peer.tidy := h.2.2.1
theorem tan (h : s.Tidy) : s.tan.tidy := h.2.2.2.1
theorem away (h : s.Tidy) : AllTidy s.away := h.2.2.2.2.1
theorem rel (h : s.Tidy) : s.rel.tidy := h.2.2.2.2.2

/-- A state that differs from a canonical one in nothing the form is about. -/
theorem of_eq {t : State} (hmem : t.mem = s.mem) (hme : t.me = s.me) (hpeer : t.peer = s.peer) (htan : t.tan = s.tan) (haway : t.away = s.away)
    (hrel : t.rel = s.rel) (h : s.Tidy) : t.Tidy := by
  unfold State.Tidy
  rw [hmem, hme, hpeer, htan, haway, hrel]
  exact h

theorem setMem {m : Mem} (h : s.Tidy) (hm : m.tidy) : State.Tidy { s with mem := m } := ⟨hm, h.me, h.peer, h.tan, h.away, h.rel⟩
theorem setMe {x : Hart} (h : s.Tidy) (hx : x.tidy) : State.Tidy { s with me := x } := ⟨h.mem, hx, h.peer, h.tan, h.away, h.rel⟩
theorem setPeer {x : Hart} (h : s.Tidy) (hx : x.tidy) : State.Tidy { s with peer := x } := ⟨h.mem, h.me, hx, h.tan, h.away, h.rel⟩
theorem setTan {t : Tandem} (h : s.Tidy) (ht : t.tidy) : State.Tidy { s with tan := t } := ⟨h.mem, h.me, h.peer, ht, h.away, h.rel⟩
theorem setAway {l : List Away} (h : s.Tidy) (hl : AllTidy l) : State.Tidy { s with away := l } := ⟨h.mem, h.me, h.peer, h.tan, hl, h.rel⟩
theorem setRel {r : Reliability} (h : s.Tidy) (hr : r.tidy) : State.Tidy { s with rel := r } := ⟨h.mem, h.me, h.peer, h.tan, h.away, hr⟩

end State.Tidy

namespace Away.tidy

variable {x : Away}

theorem e (h : x.tidy) : x.e.tidy := h.1
theorem a (h : x.tidy) : x.a.tidy := h.2.1
theorem t (h : x.tidy) : x.t.tidy := h.2.2

end Away.tidy

namespace Hart.tidy

variable {x : Hart}

theorem s (h : x.tidy) : sparseWf 0 x.s = true := h.1
theorem v (h : x.tidy) : sparseWf 0 x.v = true := h.2.1
theorem p (h : x.tidy) : sparseWf 0 x.p = true := h.2.2.1
theorem k (h : x.tidy) : sparseWf 0 x.k = true := h.2.2.2.1
theorem h (h : x.tidy) : sparseWf 0 x.h = true := h.2.2.2.2

end Hart.tidy

/-- A change of a tandem's anchors is none of its z-tiles. -/
theorem Tandem.tidy.setAnchor {t : Tandem} {z : List (Nat × Int)} (h : t.tidy) : Tandem.tidy { t with zanchor := z } := h

/-! ## Predicates on results -/

section
variable {α β ε : Type}

/-- Of any value nothing is asked. -/
def Anything : α → Prop := fun _ => True

/-- Both parts of a pair are as asked. -/
def Both (P : α → Prop) (Q : β → Prop) (r : α × β) : Prop := P r.1 ∧ Q r.2

theorem Both.fst {P : α → Prop} {Q : β → Prop} {r : α × β} (h : Both P Q r) : P r.1 := h.1
theorem Both.snd {P : α → Prop} {Q : β → Prop} {r : α × β} (h : Both P Q r) : Q r.2 := h.2

theorem Both.fst_of {P : α → Prop} {Q : β → Prop} {r : α × β} {a : α} {b : β} (e : r = (a, b)) (h : Both P Q r) : P a := (e ▸ h : Both P Q (a, b)).1
/-- What a result gives, if it gives anything, is as asked. -/
def IfSome (P : α → Prop) (r : Option α) : Prop := ∀ a, r = some a → P a

/-- What a result gives, if it is no error, is as asked. -/
def IfOk (P : α → Prop) (r : Except ε α) : Prop := ∀ a, r = .ok a → P a

/-- The state in which something could not be done is as asked. -/
def IfError (P : ε → Prop) (r : Except ε α) : Prop := ∀ e, r = .error e → P e

/-- The state that a part of an instruction leaves, stopped or not, is in its canonical form. -/
def Ends (r : EStateM.Result Stop State α) : Prop :=
  match r with
  | .ok _ t => t.Tidy
  | .error _ t => t.Tidy

/-- A part of an instruction keeps the canonical form, whether it stops or not. -/
def Exec.Tidies (m : Exec α) : Prop := ∀ s : State, s.Tidy → Ends (m s)

/-- The next state of an outcome, if it has one, is in its canonical form. -/
def Leaves (o : Host.Outcome State Fault Refusal) : Prop := ∀ t, o = .next t → t.Tidy

theorem anything {a : α} : Anything a := trivial

theorem IfSome.of {P : α → Prop} {r : Option α} {a : α} (e : r = some a) (h : IfSome P r) : P a := h a e
theorem IfOk.of {P : α → Prop} {r : Except ε α} {a : α} (e : r = .ok a) (h : IfOk P r) : P a := h a e

theorem ite_holds {P : α → Prop} {c : Prop} [Decidable c] {a b : α} (ha : P a) (hb : P b) : P (if c then a else b) := by
  split
  · exact ha
  · exact hb

theorem foldl_holds {P : α → Prop} {f : α → β → α} {l : List β} {a : α} (hf : ∀ a, P a → ∀ x ∈ l, P (f a x)) (ha : P a) : P (l.foldl f a) := by
  induction l generalizing a with
  | nil => exact ha
  | cons x r ih =>
    exact ih (fun a ha y hy => hf a ha y (List.mem_cons_of_mem x hy)) (hf a ha x List.mem_cons_self)

/-- Keys set one after the other, each kept canonical. -/
theorem foldl_wf [DecidableEq β] {d : β} {f : List (Nat × β) → α → List (Nat × β)} {xs : List α} {l : List (Nat × β)}
    (hf : ∀ l, sparseWf d l = true → ∀ x ∈ xs, sparseWf d (f l x) = true) (hl : sparseWf d l = true) : sparseWf d (xs.foldl f l) = true :=
  foldl_holds (P := fun l => sparseWf d l = true) hf hl

namespace IfSome
variable {P : α → Prop} {Q : β → Prop} {a : α}

theorem some (ha : P a) : IfSome P (some a) := fun _ e => Option.some.inj e ▸ ha
theorem none : IfSome P none := fun _ e => nomatch e

end IfSome

namespace IfOk
variable {P : α → Prop} {Q : β → Prop} {a : α}

theorem ok (ha : P a) : IfOk (ε := ε) P (.ok a) := fun _ e => Except.ok.inj e ▸ ha
theorem error {e : ε} : IfOk P (.error e) := fun _ h => nomatch h
theorem map {r : Except ε β} {f : β → α} (hf : ∀ b, P (f b)) : IfOk P (r.map f) := by
  cases r with
  | error e => exact error
  | ok b => exact ok (hf b)

theorem map_of {r : Except ε β} {f : β → α} (hr : IfOk Q r) (hf : ∀ b, Q b → P (f b)) : IfOk P (r.map f) := by
  cases r with
  | error e => exact error
  | ok b => exact ok (hf b (hr b rfl))

end IfOk

namespace IfError
variable {P : ε → Prop}

theorem ok {a : α} : IfError P (Except.ok a) := fun _ h => nomatch h
theorem error {e : ε} (he : P e) : IfError P (Except.error (α := α) e) := fun _ h => Except.error.inj h ▸ he

end IfError

namespace Ends

theorem ok {a : α} {s : State} (h : s.Tidy) : Ends (EStateM.Result.ok (ε := Stop) a s) := h
theorem error {e : Stop} {s : State} (h : s.Tidy) : Ends (EStateM.Result.error (α := α) e s) := h

end Ends

namespace Leaves

theorem next {s : State} (h : s.Tidy) : Leaves (.next s) := fun _ e => Host.Outcome.next.inj e ▸ h
theorem fault {f : Fault} : Leaves (.fault f) := fun _ e => nomatch e

end Leaves

namespace Exec.Tidies
variable {m : Exec α} {k : α → Exec β} {s t : State} {a : α} {e : Stop}

/-- The state after a part that goes on. -/
theorem ok (hm : Exec.Tidies m) (h : s.Tidy) (hr : m s = .ok a t) : t.Tidy := by
  have := hm s h
  rw [hr] at this
  exact this

/-- The state after a part that stops. -/
theorem error (hm : Exec.Tidies m) (h : s.Tidy) (hr : m s = .error e t) : t.Tidy := by
  have := hm s h
  rw [hr] at this
  exact this

/-- The state after a part, where the run is what says which state it began in. -/
theorem after (hr : m s = .ok a t) (hm : Exec.Tidies m) (h : s.Tidy) : t.Tidy := hm.ok h hr
theorem stopped (hr : m s = .error e t) (hm : Exec.Tidies m) (h : s.Tidy) : t.Tidy := hm.error h hr

theorem pure {a : α} : Exec.Tidies (Pure.pure a : Exec α) := fun _ h => h

theorem bind (hm : Exec.Tidies m) (hk : ∀ a, Exec.Tidies (k a)) : Exec.Tidies (m >>= k) := by
  intro s h
  show Ends (EStateM.bind m k s)
  unfold EStateM.bind
  split
  · next heq => exact hk _ _ (hm.ok h heq)
  · next heq => exact hm.error h heq

/-- What follows a part that is run only in one case, or one of two parts, is looked at once. -/
theorem whenBind {c : Prop} [Decidable c] {m : Exec Unit} {k : Unit → Exec β} (hm : Exec.Tidies m) (hk : ∀ a, Exec.Tidies (k a)) :
    Exec.Tidies (if c then m >>= k else k ()) := ite_holds (bind hm hk) (hk ())

theorem unlessBind {c : Prop} [Decidable c] {m : Exec Unit} {k : Unit → Exec β} (hm : Exec.Tidies m) (hk : ∀ a, Exec.Tidies (k a)) :
    Exec.Tidies (if c then k () else m >>= k) := ite_holds (hk ()) (bind hm hk)

theorem unlessBindBind {c : Prop} [Decidable c] {m : Exec α} {m' : α → Exec Unit} {k : Unit → Exec β} (hm : Exec.Tidies m)
    (hm' : ∀ a, Exec.Tidies (m' a)) (hk : ∀ a, Exec.Tidies (k a)) : Exec.Tidies (if c then k () else m >>= fun a => m' a >>= k) :=
  ite_holds (hk ()) (bind hm (fun a => bind (hm' a) hk))

theorem eitherBind {c : Prop} [Decidable c] {m m' : Exec α} {k : α → Exec β} (hm : Exec.Tidies m) (hm' : Exec.Tidies m')
    (hk : ∀ a, Exec.Tidies (k a)) : Exec.Tidies (if c then m >>= k else m' >>= k) := ite_holds (bind hm hk) (bind hm' hk)

/-- What follows a look at the state may count on its canonical form. -/
theorem getState {k : State → Exec β} (hk : ∀ s, s.Tidy → Exec.Tidies (k s)) : Exec.Tidies (getState >>= k) :=
  fun s h => hk s h s h

theorem map {f : α → β} (hm : Exec.Tidies m) : Exec.Tidies (f <$> m) := by
  intro s h
  show Ends (EStateM.map f m s)
  unfold EStateM.map
  split
  · next heq => exact hm.ok h heq
  · next heq => exact hm.error h heq

end Exec.Tidies
end

/-! ## Lists of tandems -/

namespace AllTidy
variable {l r : List Away} {x : Away}

theorem nil : AllTidy [] := fun _ h => nomatch h
theorem cons (hx : x.tidy) (h : AllTidy l) : AllTidy (x :: l) := List.forall_mem_cons.2 ⟨hx, h⟩
theorem append (h : AllTidy l) (h' : AllTidy r) : AllTidy (l ++ r) := List.forall_mem_append.2 ⟨h, h'⟩
theorem filter {p : Away → Bool} (h : AllTidy l) : AllTidy (l.filter p) := fun x hx => h x (List.mem_filter.1 hx).1
theorem map {α : Type} {f : α → Away} {l : List α} (hf : ∀ x ∈ l, (f x).tidy) : AllTidy (l.map f) := List.forall_mem_map.2 hf

/-- A tandem found in the list. -/
theorem find? {p : Away → Bool} (h : AllTidy l) : IfSome Away.tidy (l.find? p) := fun x e => h x (List.mem_of_find?_eq_some e)

end AllTidy

/-! ## Memory -/

theorem Mem.settled_tidy {m : Mem} (hm : m.tidy) : m.settled.tidy := Mem.settled_wf m hm
theorem Mem.store_tidy {m : Mem} {d : Nat} {bytes : List (Nat × Byte × Byte)} (hm : m.tidy) : (m.store d bytes).tidy := hm
theorem Mem.writeScratch_tidy {m : Mem} {free unit off : Nat} {val mask : Byte} (hm : m.tidy) : (m.writeScratch free unit off val mask).tidy := hm
theorem Mem.apply_tidy {m : Mem} {d k : Nat} (hm : m.tidy) : (m.apply d k).tidy := Mem.apply_wf m d k hm
theorem Mem.pull_tidy {m : Mem} {d e : Nat} (hm : m.tidy) : (m.pull d e).tidy := Mem.pull_wf m d e hm
theorem Mem.publish_tidy {m : Mem} {d : Nat} (hm : m.tidy) : (m.publish d).tidy := Mem.publish_wf m d hm

theorem Mem.absorb_tidy {m : Mem} {tag : List Nat} {d : Nat} (hm : m.tidy) : (m.absorb tag d).tidy := Mem.settled_tidy hm

theorem Mem.catchUp_tidy {m : Mem} {pa n d : Nat} (hm : m.tidy) : (m.catchUp pa n d).tidy := foldl_holds (fun _ h _ _ => Mem.absorb_tidy h) hm

theorem publishAll_tidy {m : Mem} (hm : m.tidy) : (publishAll m).tidy := foldl_holds (fun _ h _ _ => Mem.publish_tidy h) hm

theorem homeStore_tidy {m : Mem} {pa : Nat} {data : List (Byte × Byte)} (hm : m.tidy) : (homeStore m pa data).tidy :=
  foldl_holds (fun _ h _ _ => ite_holds h (Mem.store_tidy h)) hm

/-! ## Translation and the focus -/

theorem installXlat_tidy {s : State} {e : TlbEntry} (h : s.Tidy) : (installXlat s e).Tidy := ite_holds h (ite_holds h h)

theorem cacheXlat_tidy {s : State} {x : Xlat} (h : s.Tidy) : (cacheXlat s x).Tidy := by
  unfold cacheXlat
  split
  · exact installXlat_tidy h
  · exact h

theorem setAccessed_tidy {s : State} {kind : AccessKind} {x : Xlat} (h : s.Tidy) : (setAccessed s kind x).Tidy :=
  ite_holds h (by
    split
    · exact ite_holds h ⟨Mem.store_tidy h.mem, h.me, h.peer, h.tan, h.away, h.rel⟩
    · exact h)

theorem markXlat_tidy {s : State} {kind : AccessKind} {x : Xlat} (h : s.Tidy) : (markXlat s kind x).Tidy := setAccessed_tidy (cacheXlat_tidy h)

theorem State.focusAway_tidy {s : State} (h : s.Tidy) : s.focusAway.tidy := ite_holds ⟨h.peer, h.me, h.tan⟩ ⟨h.me, h.peer, h.tan⟩

theorem State.withFocus_tidy {s : State} {x : Away} (h : s.Tidy) (hx : x.tidy) : (s.withFocus x).Tidy :=
  ite_holds ⟨h.mem, hx.a, hx.e, hx.t, h.away, h.rel⟩ ⟨h.mem, hx.e, hx.a, hx.t, h.away, h.rel⟩

theorem State.allTandems_tidy {s : State} (h : s.Tidy) : AllTidy s.allTandems :=
  AllTidy.append (ite_holds (AllTidy.cons (State.focusAway_tidy h) AllTidy.nil) AllTidy.nil) h.away

theorem State.tandem?_tidy {s : State} {u : Nat} (h : s.Tidy) : IfSome Away.tidy (s.tandem? u) := AllTidy.find? (State.allTandems_tidy h)

theorem State.focus_tidy {s : State} {h : Nat} (hs : s.Tidy) : (s.focus h).Tidy :=
  ite_holds (ite_holds hs ⟨hs.mem, hs.peer, hs.me, hs.tan, hs.away, hs.rel⟩) (by
    split
    · exact hs
    next e =>
      exact State.withFocus_tidy ⟨hs.mem, hs.me, hs.peer, hs.tan,
         ite_holds (AllTidy.append (AllTidy.filter hs.away) (AllTidy.cons (State.focusAway_tidy hs) AllTidy.nil)) (AllTidy.filter hs.away),
         hs.rel⟩ ((AllTidy.find? hs.away) _ e))

/-- A change of every tandem that keeps the canonical form of each, and of the state, keeps it of all (R33). -/
theorem mapAway_tidy {p : Tandem → Bool} {f : State → Away → State × Away} {l : List Away}
    (hf : ∀ s x, s.Tidy → x.tidy → Both State.Tidy Away.tidy (f s x)) : ∀ {s : State}, s.Tidy → AllTidy l → Both State.Tidy AllTidy (mapAway p f s l) := by
  induction l with
  | nil => exact fun h _ => ⟨h, AllTidy.nil⟩
  | cons x r ih =>
    intro s h hl
    obtain ⟨hx, hr⟩ := List.forall_mem_cons.1 hl
    have one : Both State.Tidy Away.tidy (if p x.t then f s x else (s, x)) := ite_holds (hf s x h hx) ⟨h, hx⟩
    have rest := ih one.1 hr
    exact ⟨rest.1, AllTidy.cons one.2 rest.2⟩

theorem mapTandems_tidy {p : Tandem → Bool} {f : State → Away → State × Away} {s : State}
    (hf : ∀ s x, s.Tidy → x.tidy → Both State.Tidy Away.tidy (f s x)) (h : s.Tidy) : (mapTandems p f s).Tidy := by
  have here : (if s.live && p s.tan then (let r := f s s.focusAway; r.1.withFocus r.2) else s).Tidy :=
    ite_holds (State.withFocus_tidy (hf s _ h (State.focusAway_tidy h)).1 (hf s _ h (State.focusAway_tidy h)).2) h
  have all := mapAway_tidy (p := p) hf here here.away
  exact ⟨all.1.mem, all.1.me, all.1.peer, all.1.tan, all.2, all.1.rel⟩

theorem atHart_tidy {i : Nat} {f : State → State} {s : State} (hf : ∀ s, s.Tidy → (f s).Tidy) (h : s.Tidy) : (atHart i f s).Tidy := by
  unfold atHart
  split
  · exact h
  · exact ite_holds (State.focus_tidy (hf _ (State.focus_tidy h))) (hf _ (State.focus_tidy h))

theorem bankCycles_tidy {s : State} {t : Tandem} {h : Hart} (hh : h.tidy) : (bankCycles s t h).tidy := by
  unfold bankCycles
  split <;> exact hh

theorem endStay_tidy {s : State} {t : Tandem} (h : s.Tidy) : (endStay s t).Tidy := by
  unfold endStay
  split
  · exact ite_holds h h
  · exact h

/-! ## The context image -/

theorem Hart.withSaved_tidy {h : Hart} {x : Option Saved} (hh : h.tidy) : (h.withSaved x).tidy := ite_holds hh hh

theorem markPages_tidy {kind : AccessKind} {xs : List Xlat} {s : State} (h : s.Tidy) : (markPages kind xs s).Tidy :=
  foldl_holds (fun _ h1 _ _ => markXlat_tidy h1) h

theorem settledAt_tidy {m : Mem} {frames : List Nat} (hm : m.tidy) : (settledAt m frames).tidy := ite_holds (publishAll_tidy hm) hm

theorem eraseKey_tidy {β : Type} [DecidableEq β] {d : β} {l : List (Nat × β)} {i : Nat} (hl : sparseWf d l = true) :
    sparseWf d (eraseKey l i) = true := sparseWf_filter d _ l hl

theorem cellsTable_tidy {img : List (Nat × Byte)} {off n count w : Nat} : sparseWf 0 (cellsTable img off n count w) = true :=
  foldl_wf (fun l hl _ _ => sparseWf_set 0 l _ _ hl) rfl

theorem replacePages_tidy {cells : List Host.Cell} {frames : List Nat} {img : List (Nat × Byte)} (hc : sparseWf memDefault cells = true) :
    sparseWf memDefault (replacePages cells frames img) = true :=
  foldl_wf (fun l hl _ _ => by
    split
    · exact sparseWf_set memDefault l _ _ hl
    · exact hl) (sparseWf_filter memDefault _ _ hc)

theorem storeImage_tidy {s : State} {t : Tandem} {e a : Hart} (h : s.Tidy) : IfOk State.Tidy (storeImage s t e a) := by
  unfold storeImage
  split
  · exact IfOk.ok h
  · exact IfOk.map (fun _ => (markPages_tidy h).setMem (replacePages_tidy (settledAt_tidy (markPages_tidy h).mem)))

theorem writeImage_tidy {s : State} {t : Tandem} {e a : Hart} (h : s.Tidy) : (writeImage s t e a).Tidy := by
  unfold writeImage
  split
  next e1 => exact (storeImage_tidy h) _ e1
  · exact h

theorem hartFromImage_tidy {img : List (Nat × Byte)} {base stage : Nat} {h : Hart} : (hartFromImage img base stage h).tidy :=
  ⟨eraseKey_tidy cellsTable_tidy, cellsTable_tidy, cellsTable_tidy, cellsTable_tidy, cellsTable_tidy⟩

theorem imageWritten_tidy {s : State} {bs : List (Nat × Byte × Byte)} {x : Away} (hx : x.tidy) : (imageWritten s bs x).tidy := by
  unfold imageWritten
  split
  · exact hx
  · exact ⟨hartFromImage_tidy, ite_holds (P := Hart.tidy) (bankCycles_tidy hx.a) hartFromImage_tidy, hx.t⟩

theorem writeImages_tidy {bs : List (Nat × Byte × Byte)} {s : State} (h : s.Tidy) : (writeImages bs s).Tidy :=
  mapTandems_tidy (fun _ _ h1 h2 => ⟨h1, ite_holds (imageWritten_tidy h2) h2⟩) h

theorem saveTiles_tidy {s : State} {t : Tandem} (h : s.Tidy) (ht : t.tidy) : IfOk (Both State.Tidy Tandem.tidy) (saveTiles s t) := by
  unfold saveTiles
  split
  · exact IfOk.ok ⟨h, ht⟩
  · split
    · exact IfOk.error
    · exact IfOk.ok
          ⟨foldl_holds (fun _ h1 _ _ => (markPages_tidy h1).setMem (replacePages_tidy (settledAt_tidy (markPages_tidy h1).mem))) h, ht⟩

theorem restoreTiles_tidy {s : State} {t : Tandem} (h : s.Tidy) (ht : t.tidy) : IfOk (Both State.Tidy Tandem.tidy) (restoreTiles s t) :=
  ite_holds (IfOk.ok ⟨h, ht⟩) (by
    split
    · exact IfOk.ok ⟨h, ht⟩
    · split
      · exact IfOk.error
      · exact IfOk.ok ⟨foldl_holds (fun _ h1 _ _ => markPages_tidy h1) h,
           foldl_wf (fun _ h1 _ _ => foldl_wf (fun _ h3 _ _ => sparseWf_set _ _ _ _ h3) h1) rfl⟩)

theorem sendRequest_tidy {s : State} {hart va pa : Nat} {op : PeerOp} {port : Option Nat} {posted : Bool} {strip : Nat}
    {owner : Option (Word × Bool × Nat)} (h : s.Tidy) : Both State.Tidy Anything (sendRequest s hart va pa op port posted strip owner) :=
  ⟨h, anything⟩

theorem landBytes_tidy {s : State} {d hart va : Nat} {posted : Bool} {strip : Nat} {bs : List (Nat × Byte × Byte)} (h : s.Tidy) :
    Both State.Tidy Anything (landBytes s d hart va posted strip bs) := by
  unfold landBytes
  split
  · exact ⟨h, anything⟩
  · split
    · exact ⟨ite_holds (writeImages_tidy ⟨Mem.store_tidy h.mem, h.me, h.peer, h.tan, h.away, h.rel⟩)
           ⟨Mem.store_tidy h.mem, h.me, h.peer, h.tan, h.away, h.rel⟩, anything⟩
    · exact ite_holds (by
          split <;> exact ⟨h, anything⟩)
          ⟨h, anything⟩
    · exact ite_holds ⟨⟨writeCells_wf _ _ h.mem, h.me, h.peer, h.tan, h.away, h.rel⟩, anything⟩ ⟨(sendRequest_tidy h).1, anything⟩
    · exact ⟨(sendRequest_tidy h).1, anything⟩
    · exact ⟨h, anything⟩

theorem State.hostSeen_tidy {s : State} {pas : List Nat} (h : s.Tidy) : (s.hostSeen pas).Tidy :=
  ⟨foldl_wf (fun _ h1 _ _ => sparseWf_set _ _ _ _ h1) h.mem, h.me, h.peer, h.tan, h.away, h.rel⟩

theorem sysSeen_tidy {s : State} {c : Context} {d a n : Nat} {view : Bool} (h : s.Tidy) : (sysSeen s c d a n view).Tidy := by
  unfold sysSeen
  split
  · exact ite_holds (foldl_holds (fun _ h1 _ _ => markXlat_tidy h1) h)
        (State.hostSeen_tidy (foldl_holds (fun _ h1 _ _ => markXlat_tidy h1) h))
  · exact h

theorem sysWrite_tidy {s : State} {c : Context} {d a : Nat} {bs : List Byte} {view : Bool} (h : s.Tidy) :
    IfOk State.Tidy (sysWrite s c d a bs view) := by
  unfold sysWrite
  split
  next xs _ =>
    have hm : State.Tidy (xs.foldl (fun s x => markXlat s .store x) s) := foldl_holds (fun _ h1 _ _ => markXlat_tidy h1) h
    split
    · exact IfOk.error
    · refine ite_holds (IfOk.ok (hm.setMem (Mem.store_tidy hm.mem))) ?_
      split
      · exact ite_holds IfOk.error (IfOk.ok (landBytes_tidy hm).1)
      · exact IfOk.ok (landBytes_tidy hm).1
  · exact IfOk.error

theorem faultContext_tidy {s : State} {n : Nat} (h : s.Tidy) : (faultContext s n).Tidy := ite_holds h h

theorem recSeen_tidy {s : State} {c : Context} {d n : Nat} (h : s.Tidy) : (recSeen s c d n).Tidy :=
  foldl_holds (fun _ h1 _ _ => ite_holds (sysSeen_tidy h1) h1) (sysSeen_tidy h)

theorem enterRecord_tidy {s : State} {c : Context} {d a n target port : Nat} (h : s.Tidy) : IfOk State.Tidy (enterRecord s c d a n target port) :=
  ite_holds IfOk.error (by
    split
    · exact IfOk.error
    · dsimp only
      split
      · exact IfOk.error
      · exact sysWrite_tidy (recSeen_tidy h)
      · exact ite_holds (sysWrite_tidy (recSeen_tidy h)) (by
            split
            · exact IfOk.error
            next e2 => exact sysWrite_tidy ((sysWrite_tidy (recSeen_tidy h)) _ e2)))

theorem blockSeen_tidy {s : State} {q : Queue} (h : s.Tidy) : (blockSeen s q).Tidy := by
  unfold blockSeen
  split
  · exact h
  · exact sysSeen_tidy h

theorem doorbellSeen_tidy {s : State} {pa : Nat} (h : s.Tidy) : (doorbellSeen s pa).Tidy := by
  unfold doorbellSeen
  split
  · exact ite_holds (blockSeen_tidy h) h
  · exact h

theorem landShared_tidy {s : State} {unit : Nat} {bs : List HeldByte} (h : s.Tidy) : (landShared s unit bs).Tidy :=
  foldl_holds (fun _ h1 _ _ => ⟨Mem.writeScratch_tidy h1.mem, h1.me, h1.peer, h1.tan, h1.away, h1.rel⟩) h

theorem performOne_tidy {s : State} {d unit hart : Nat} {x : HeldStore} (h : s.Tidy) : Both State.Tidy Anything (performOne s d unit hart x) :=
  ite_holds ⟨landShared_tidy h, anything⟩ (landBytes_tidy h)

theorem performAll_tidy {d unit hart : Nat} {l : List HeldStore} : ∀ {s : State}, s.Tidy → Both State.Tidy Anything (performAll s d unit hart l) := by
  induction l with
  | nil => exact fun h => ⟨h, anything⟩
  | cons x r ih => exact fun h => ⟨(ih (performOne_tidy h).1).1, anything⟩

theorem performHeldOf_tidy {s : State} {t : Tandem} {onA : Bool} {h : Hart} (hs : s.Tidy) (hh : h.tidy) :
    Both State.Tidy Hart.tidy (performHeldOf s t onA h) := ite_holds ⟨hs, hh⟩ ⟨(performAll_tidy hs).1, hh⟩

theorem freeSpent_tidy {t : Tandem} {onA : Bool} (ht : t.tidy) : (freeSpent t onA).tidy := ht

theorem State.spoilStrip_tidy {s : State} (h : s.Tidy) : s.spoilStrip.Tidy := ⟨h.mem, h.me, h.peer, h.tan, h.away, h.rel⟩

theorem testBarrier_tidy {s : State} {t : Tandem} {h : Hart} (hh : h.tidy) : (testBarrier s t h).tidy := by
  unfold testBarrier
  split
  · exact hh
  · split <;> exact hh

theorem testBarriers_tidy {s : State} (h : s.Tidy) : (testBarriers s).Tidy :=
  ⟨h.mem, testBarrier_tidy h.me, testBarrier_tidy h.peer, h.tan,
   AllTidy.map (fun _ h1 => ⟨testBarrier_tidy (h.away _ h1).e, testBarrier_tidy (h.away _ h1).a, (h.away _ h1).t⟩),
   h.rel⟩

theorem State.endStrip_tidy {s : State} (h : s.Tidy) : s.endStrip.Tidy :=
  ite_holds h (testBarriers_tidy (((performHeldOf_tidy h h.me).1.setMe (performHeldOf_tidy h h.me).2).setTan
    (ite_holds (performHeldOf_tidy h h.me).1.tan (performHeldOf_tidy h h.me).1.tan)))

/-! ## Shared operations -/

theorem modState_tidy {f : State → State} (hf : ∀ a, a.Tidy → (f a).Tidy) : Exec.Tidies (modState f) := fun _ h => hf _ h

theorem modMe_tidy {f : Hart → Hart} (hf : ∀ a, a.tidy → (f a).tidy) : Exec.Tidies (modMe f) :=
  fun _ h => ⟨h.mem, hf _ h.me, h.peer, h.tan, h.away, h.rel⟩

theorem modTan_tidy {f : Tandem → Tandem} (hf : ∀ a, a.tidy → (f a).tidy) : Exec.Tidies (modTan f) :=
  fun _ h => ⟨h.mem, h.me, h.peer, hf _ h.tan, h.away, h.rel⟩

theorem stopWith_tidy {α : Type} {e : Stop} : Exec.Tidies (stopWith (α := α) e) := fun _ h => h

theorem undone_tidy {s s' : State} (h : s.Tidy) : (undone s s').Tidy :=
  ite_holds (State.spoilStrip_tidy (ite_holds (State.endStrip_tidy h) h)) (ite_holds (State.endStrip_tidy h) h)

theorem atomically_tidy {α : Type} {m : Exec α} (hm : Exec.Tidies m) : Exec.Tidies (atomically m) := by
  intro _ h
  unfold atomically
  split
  next e => exact hm.ok h e
  · exact undone_tidy h

theorem nextFree_tidy : Exec.Tidies (nextFree) := fun _ h => h

theorem illegalInstr_tidy {α : Type} : Exec.Tidies (illegalInstr (α := α)) := fun _ h => h

theorem illegalOperand_tidy {α : Type} : Exec.Tidies (illegalOperand (α := α)) := fun _ h => h

theorem spaceBound_tidy {α : Type} {addr : Word} : Exec.Tidies (spaceBound (α := α) addr) := fun _ h => h

theorem detViolation_tidy {α : Type} : Exec.Tidies (detViolation (α := α)) := fun _ h => h

theorem require_tidy {b : Bool} : Exec.Tidies (require b) := ite_holds .pure illegalOperand_tidy

theorem Hart.writeS_tidy {h : Hart} {n : Nat} {x : Word} (hh : h.tidy) : (h.writeS n x).tidy :=
  ite_holds hh ⟨sparseWf_set _ _ _ _ hh.s, hh.v, hh.p, hh.k, hh.h⟩

theorem Hart.writeV_tidy {h : Hart} {n : Nat} {x : VReg} (hh : h.tidy) : (h.writeV n x).tidy :=
  ⟨hh.s, sparseWf_set _ _ _ _ hh.v, hh.p, hh.k, hh.h⟩

theorem Hart.writeP_tidy {h : Hart} {n : Nat} {x : PReg} (hh : h.tidy) : (h.writeP n x).tidy :=
  ⟨hh.s, hh.v, sparseWf_set _ _ _ _ hh.p, hh.k, hh.h⟩

theorem Hart.writeK_tidy {h : Hart} {n : Nat} {x : KReg} (hh : h.tidy) : (h.writeK n x).tidy :=
  ⟨hh.s, hh.v, hh.p, sparseWf_set _ _ _ _ hh.k, hh.h⟩

theorem Hart.writeH_tidy {h : Hart} {n : Nat} {x : HReg} (hh : h.tidy) : (h.writeH n x).tidy :=
  ⟨hh.s, hh.v, hh.p, hh.k, sparseWf_set _ _ _ _ hh.h⟩

theorem Tandem.writeTd_tidy {t : Tandem} {onA : Bool} {n : Nat} {v : Desc} (ht : t.tidy) : (t.writeTd onA n v).tidy := ite_holds ht ht

theorem State.seeTds_tidy {s : State} (h : s.Tidy) : s.seeTds.Tidy := ite_holds h ⟨h.mem, h.me, h.peer, h.tan, h.away, h.rel⟩

theorem Hart.raise_tidy {h : Hart} {f : Word} (hh : h.tidy) : (h.raise f).tidy := hh

theorem checkSrc_tidy {n : Nat} : Exec.Tidies (checkSrc n) := fun _ h => ite_holds h h

theorem checkDst_tidy {n : Nat} : Exec.Tidies (checkDst n) := fun _ h => ite_holds h h

theorem checkRmw_tidy {n : Nat} : Exec.Tidies (checkRmw n) := fun _ h => ite_holds h h

theorem popReady_tidy {α : Type} {f : Fifo α} {n port xinfo : Nat} {err : ErrorAt} : Exec.Tidies (popReady f n port xinfo err) :=
  fun _ h => ite_holds h (ite_holds (ite_holds h h) (ite_holds h h))

theorem popScalar_tidy {n : Nat} : Exec.Tidies (popScalar n) :=
  .getState (fun _ _ => .bind popReady_tidy (fun _ => .bind (modTan_tidy (fun _ h1 => h1)) (fun _ => .pure)))

theorem popVector_tidy {name n : Nat} : Exec.Tidies (popVector name n) :=
  .getState (fun _ _ => .bind popReady_tidy (fun _ => .bind (modTan_tidy (fun _ h1 => h1)) (fun _ => .pure)))

theorem State.spoilPeer_tidy {s : State} (h : s.Tidy) : s.spoilPeer.Tidy := ⟨h.mem, h.me, h.peer, h.tan, h.away, h.rel⟩

theorem pushScalar_tidy {n : Nat} {x : Word} : Exec.Tidies (pushScalar n x) :=
  fun _ h => ite_holds h (State.spoilStrip_tidy (ite_holds (State.spoilPeer_tidy h) h))

theorem pushVector_tidy {name : Nat} {xs : List VReg} : Exec.Tidies (pushVector name xs) :=
  fun _ h => ite_holds h (State.spoilStrip_tidy (ite_holds (State.spoilPeer_tidy h) h))

theorem readS_tidy {n : Nat} : Exec.Tidies (readS n) := fun _ h => ite_holds h (popScalar_tidy _ h)

theorem writeS_tidy {n : Nat} {x : Word} : Exec.Tidies (writeS n x) :=
  fun _ h => ite_holds ⟨h.mem, Hart.writeS_tidy h.me, h.peer, h.tan, h.away, h.rel⟩ (pushScalar_tidy _ h)

theorem Hart.enterAnew_tidy {h : Hart} (hh : h.tidy) : h.enterAnew.tidy := hh

theorem declineLoop_tidy {code : Nat} {h : Hart} (hh : h.tidy) : (declineLoop code h).tidy := by
  unfold declineLoop
  split
  · exact ite_holds hh hh
  · exact hh

theorem State.interruptRecordings_tidy {s : State} (h : s.Tidy) : s.interruptRecordings.Tidy :=
  ⟨h.mem, declineLoop_tidy h.me, declineLoop_tidy h.peer, h.tan, h.away, h.rel⟩

/-- A tandem that leaves its slot: its stores are performed and its image written, and its tables stay (R33, R43). -/
theorem leaveSlot_tidy {reason : Nat} {s : State} {x : Away} (h : s.Tidy) (hx : x.tidy) : Both State.Tidy Away.tidy (leaveSlot reason s x) := by
  unfold leaveSlot
  split
  · have he := performHeldOf_tidy (t := x.t) (onA := false) h hx.e
    have ha := performHeldOf_tidy (t := x.t) (onA := true) he.1 hx.a
    have hf : Tandem.tidy (if x.e.held = [] then x.t else freeSpent x.t false) := ite_holds hx.t (freeSpent_tidy hx.t)
    have ht : Tandem.tidy (if x.a.held = [] then _ else freeSpent _ true) := ite_holds hf (freeSpent_tidy hf)
    exact ⟨writeImage_tidy (endStay_tidy (ha.1.setMem (Mem.publish_tidy ha.1.mem))),
      Hart.enterAnew_tidy (declineLoop_tidy (bankCycles_tidy he.2)), Hart.enterAnew_tidy (declineLoop_tidy (bankCycles_tidy ha.2)), ht⟩
  · exact ⟨h, hx⟩

theorem Away.waitFor_tidy {reason : Nat} {x : Away} (hx : x.tidy) : (Away.waitFor reason x).tidy := by
  unfold Away.waitFor
  dsimp only
  split <;> exact hx

theorem parkFocus_tidy {reason : Nat} {s : State} (h : s.Tidy) : (parkFocus reason s).Tidy :=
  State.withFocus_tidy (leaveSlot_tidy h (State.focusAway_tidy h)).1 (leaveSlot_tidy h (State.focusAway_tidy h)).2

theorem faultContextAll_tidy {s : State} {n : Nat} (h : s.Tidy) : (faultContextAll s n).Tidy :=
  mapTandems_tidy (fun _ _ h1 h2 => leaveSlot_tidy h1 h2) (faultContext_tidy h)

theorem thoudWrite_tidy {faults : Bool} {s : State} {c : Context} {d a : Nat} {bs : List Byte} (h : s.Tidy) : (thoudWrite faults s c d a bs).Tidy :=
  ite_holds h (ite_holds h (by
    split
    next e => exact (sysWrite_tidy h) _ e
    · exact ite_holds h (ite_holds (faultContextAll_tidy h) h)))

theorem areaWrite_tidy {s : State} {c : Context} {d a : Nat} {bs : List Byte} (h : s.Tidy) : (areaWrite s c d a bs).Tidy := thoudWrite_tidy h

theorem flushArea_tidy {s : State} (h : s.Tidy) : (flushArea s).Tidy :=
  foldl_holds (fun _ h1 _ _ => by
    split
    · exact h1
    · exact ite_holds (by
          split
          next e1 => exact (sysWrite_tidy h1) _ e1
          · exact ite_holds h1 h1)
          (thoudWrite_tidy h1)) h

theorem writeTandemEntry_tidy {s : State} {t : Tandem} (h : s.Tidy) : (writeTandemEntry s t).Tidy := by
  unfold writeTandemEntry
  split
  · exact areaWrite_tidy h
  · exact h

theorem settleOwed_tidy {s : State} {x : Away} (h : s.Tidy) (hx : x.tidy) : Both State.Tidy Tandem.tidy (settleOwed s x) := by
  unfold settleOwed
  dsimp only
  split
  · exact ⟨h, hx.t⟩
  · exact ⟨writeTandemEntry_tidy h, hx.t⟩

theorem settleAllOwed_tidy {s : State} (h : s.Tidy) : (settleAllOwed s).Tidy :=
  ite_holds h (mapTandems_tidy (fun _ _ h1 h2 => ⟨(settleOwed_tidy h1 h2).1, ⟨h2.e, h2.a, (settleOwed_tidy h1 h2).2⟩⟩) h)

theorem flushHistory_tidy {s : State} {t : Tandem} {onA : Bool} {h : Hart} (hs : s.Tidy) (hh : h.tidy) :
    Both State.Tidy Hart.tidy (flushHistory s t onA h) := by
  unfold flushHistory
  dsimp only
  split
  · exact ⟨hs, hh⟩
  · exact ⟨foldl_holds (fun _ h1 _ _ => areaWrite_tidy h1) hs, hh⟩

theorem settleHistory_tidy {s : State} (h : s.Tidy) : (settleHistory s).Tidy :=
  ite_holds h (mapTandems_tidy (fun _ _ h1 h2 =>
    ⟨(flushHistory_tidy (flushHistory_tidy h1 h2.e).1 h2.a).1,
     ⟨(flushHistory_tidy h1 h2.e).2, (flushHistory_tidy (flushHistory_tidy h1 h2.e).1 h2.a).2, h2.t⟩⟩) h)

theorem clearAct_tidy {s : State} {t : Tandem} {header : Nat} (h : s.Tidy) : (clearAct s t header).Tidy := by
  unfold clearAct
  split
  · exact h
  · exact thoudWrite_tidy h

theorem dropLoop_tidy {s : State} {t : Tandem} {h : Hart} (hs : s.Tidy) (hh : h.tidy) : Both State.Tidy Hart.tidy (dropLoop s t h) := by
  unfold dropLoop
  exact ⟨by
       split
       · exact clearAct_tidy hs
       · exact hs, hh⟩

theorem Hart.leaveLoop_tidy {h : Hart} (hh : h.tidy) : h.leaveLoop.tidy := by
  unfold Hart.leaveLoop
  split <;> exact hh

theorem State.modKernel_tidy {s : State} {ctx csn : Nat} {f : Kernel → Kernel} (h : s.Tidy) : (s.modKernel ctx csn f).Tidy := h

theorem leaveAll_tidy {s : State} {t : Tandem} (h : s.Tidy) : (leaveAll s t).Tidy :=
  ite_holds ⟨Mem.publish_tidy h.mem, h.me, h.peer, h.tan, h.away, h.rel⟩ h

/-- A tandem that stops performs the stores it does not discard, and its loops go (R288, R332). -/
theorem stopTandem_tidy {discard : Nat → Bool} {s : State} {x : Away} (h : s.Tidy) (hx : x.tidy) :
    Both State.Tidy Away.tidy (stopTandem discard s x) := by
  unfold stopTandem
  split
  · exact ⟨h, hx⟩
  · exact ⟨h, hx⟩
  · exact ⟨h, hx⟩
  · refine ite_holds ⟨h, hx⟩ ?_
    have kept {y : Hart} (hy : y.tidy) : Hart.tidy (if discard x.t.uid then { y with held := y.held.filter (·.eligible) } else y) := ite_holds hy hy
    have he := performHeldOf_tidy (t := x.t) (onA := false) h (kept hx.e)
    have ha := performHeldOf_tidy (t := x.t) (onA := true) he.1 (kept hx.a)
    have le := dropLoop_tidy (t := x.t) ha.1 he.2
    have la := dropLoop_tidy (t := x.t) le.1 ha.2
    exact ⟨leaveAll_tidy (endStay_tidy la.1), bankCycles_tidy le.2, bankCycles_tidy la.2, hx.t⟩

theorem stopKernel_tidy {s : State} {ctx csn : Nat} {why : KernelStop} {discard : Nat → Bool} (h : s.Tidy) :
    (stopKernel s ctx csn why discard).Tidy := by
  unfold stopKernel
  split
  · exact h
  · exact ite_holds h (foldl_holds (fun _ h1 _ _ => writeTandemEntry_tidy h1)
        (mapTandems_tidy (fun _ _ h1 h2 => stopTandem_tidy h1 h2) (State.modKernel_tidy h)))

theorem stopKernelOpen_tidy {s : State} {ctx csn ftid : Nat} {faddr : Word} {discard : Nat → Bool} (h : s.Tidy) :
    (stopKernelOpen s ctx csn ftid faddr discard).Tidy := stopKernel_tidy h

theorem faultMyKernel_tidy {s : State} {addr : Word} {info : Nat} (h : s.Tidy) : (faultMyKernel s addr info).Tidy := stopKernel_tidy h

theorem enterBuffer_tidy {s : State} {d : Nat} {r : FaultRecord} (h : s.Tidy) : (enterBuffer s d r).Tidy := ite_holds h h

theorem postRecord_tidy {s : State} {d : Nat} {r : FaultRecord} (h : s.Tidy) : Both State.Tidy Anything (postRecord s d r) :=
  ite_holds ⟨enterBuffer_tidy h, anything⟩ ⟨h, anything⟩

theorem postMine_tidy {s : State} {d : Nat} {r : FaultRecord} (h : s.Tidy) : (postMine s d r).Tidy :=
  ite_holds (postRecord_tidy h).1 (postRecord_tidy h).1

theorem putRecord_tidy {s : State} {sink : Nat} {t : Tandem} {side typ data cmp : Nat} (h : s.Tidy) : (putRecord s sink t side typ data cmp).Tidy := by
  unfold putRecord
  split
  · exact h
  · exact ite_holds h ⟨Mem.store_tidy h.mem, h.me, h.peer, h.tan, h.away, h.rel⟩

theorem placeMarker_tidy {s : State} (h : s.Tidy) : (placeMarker s).Tidy :=
  ite_holds h (by
    split <;> exact ite_holds h h)

theorem takeTrap_tidy {code sub : Nat} {xpc xaddr xinfo : Word} {s : State} (h : s.Tidy) : (takeTrap code sub xpc xaddr xinfo s).Tidy := by
  have he := State.endStrip_tidy h
  have hs {c : Prop} [Decidable c] := State.interruptRecordings_tidy (ite_holds (c := c) he (placeMarker_tidy he))
  exact ite_holds (faultMyKernel_tidy hs) (hs.setMe (Hart.enterAnew_tidy hs.me))

theorem returnFromTrap_tidy {s : State} (h : s.Tidy) : (returnFromTrap s).Tidy := State.endStrip_tidy h

theorem takePageFault_tidy {reason : Nat} {kind : AccessKind} {addr : Word} {s : State} (h : s.Tidy) : (takePageFault reason kind addr s).Tidy :=
  parkFocus_tidy (postMine_tidy (placeMarker_tidy h))

theorem dropTranslations_tidy {s : State} {asid : Option Nat} {a n : Nat} (h : s.Tidy) : (dropTranslations s asid a n).Tidy := by
  unfold dropTranslations
  split <;> exact h

theorem returnReplay_tidy {a n : Nat} {h : Hart} (hh : h.tidy) : (returnReplay a n h).tidy := by
  unfold returnReplay
  split
  · exact hh
  · split
    · exact hh
    · exact ite_holds hh hh

theorem startShootdown_tidy {c : Context} {va len : Nat} {s : State} (h : s.Tidy) : (startShootdown c va len s).Tidy :=
  mapTandems_tidy (fun _ _ h1 h2 => ⟨h1, ⟨returnReplay_tidy h2.e, returnReplay_tidy h2.a, h2.t⟩⟩) (dropTranslations_tidy h)

theorem poisonPage_tidy {s : State} {c : Context} {va : Nat} (h : s.Tidy) : (poisonPage s c va).Tidy := by
  unfold poisonPage
  split
  · exact h
  · exact ite_holds h (startShootdown_tidy (by
        split
        · exact ⟨Mem.store_tidy h.mem, h.me, h.peer, h.tan, h.away, h.rel⟩
        · exact h))

theorem scrub_tidy {s : State} {e : ErrorAt} (h : s.Tidy) : (scrub s e).Tidy := by
  unfold scrub
  split
  · exact ite_holds (poisonPage_tidy h) h
  · exact h
  · exact h
  · exact h
  · exact h
  · exact h

theorem rewindTo_tidy {k : Checkpoint} {s : State} (h : s.Tidy) : (rewindTo k s).Tidy := by
  unfold rewindTo
  have hs := State.interruptRecordings_tidy h
  exact ⟨hs.mem, ⟨foldl_wf (fun _ h1 _ _ => sparseWf_set _ _ _ _ h1) hs.me.s, hs.me.v, hs.me.p, hs.me.k, hs.me.h⟩, hs.peer, hs.tan,
     hs.away, hs.rel⟩

theorem noRewind_tidy {addr : Word} {s : State} (h : s.Tidy) : (noRewind addr s).Tidy := stopKernelOpen_tidy h

theorem consumeError_tidy {e : ErrorAt} {s : State} (h : s.Tidy) : (consumeError e s).Tidy := by
  unfold consumeError
  split
  · exact noRewind_tidy h
  · exact ite_holds (noRewind_tidy h) (rewindTo_tidy (scrub_tidy h))

theorem freezeCluster_tidy {cmp : Nat} {addr : Word} {s : State} (h : s.Tidy) : (freezeCluster cmp addr s).Tidy :=
  putRecord_tidy (putRecord_tidy h)

theorem waitHere_tidy {reason port : Nat} {addr : Word} {s : State} {need : Nat} (h : s.Tidy) : (waitHere reason port addr s need).Tidy := h

theorem enterRemote_tidy {s : State} {va : Nat} {op : PeerOp} {port : Nat} (h : s.Tidy) : IfOk State.Tidy (enterRemote s va op port) :=
  ite_holds (IfOk.ok h) (ite_holds (enterRecord_tidy h) (IfOk.ok h))

theorem sendAndWait_tidy {va pa : Nat} {op : PeerOp} {kind : AccessKind} {s : State} (h : s.Tidy) : (sendAndWait va pa op kind s).Tidy := by
  unfold sendAndWait
  split
  · split
    · exact takePageFault_tidy h
    · split
      · exact waitHere_tidy h
      · split
        · exact waitHere_tidy h
        · exact waitHere_tidy h
        · exact faultContextAll_tidy h
        next e3 =>
          exact waitHere_tidy (sendRequest_tidy (by
              split
              · exact ((enterRemote_tidy h) _ e3).setMem (Mem.publish_tidy ((enterRemote_tidy h) _ e3).mem)
              · exact (enterRemote_tidy h) _ e3)).1
  · exact h

theorem applyStop_tidy {e : Stop} {s : State} (h : s.Tidy) : (applyStop e s).Tidy := by
  unfold applyStop
  split
  · exact takeTrap_tidy h
  · exact takePageFault_tidy h
  · exact waitHere_tidy h
  · exact consumeError_tidy h
  · exact takeTrap_tidy h
  · exact freezeCluster_tidy h
  · exact faultContextAll_tidy h
  · exact sendAndWait_tidy h

/-! ### Accesses to memory -/

theorem scoreboard_tidy {store shared masked : Bool} {a n : Nat} : Exec.Tidies (scoreboard store shared masked a n) := fun _ h => ite_holds h h

theorem comparators_tidy {k : AccessKind} {a n : Nat} : Exec.Tidies (comparators k a n) :=
  fun _ h =>
    ite_holds h (by
      split <;> exact h)

theorem resolve_tidy {vport : Bool} {k : AccessKind} {a n : Nat} : Exec.Tidies (resolve vport k a n) := by
  intro _ h
  unfold resolve
  split
  · exact ite_holds h (ite_holds h (foldl_holds (fun _ h1 _ _ => markXlat_tidy h1) h))
  · exact h
  · exact h
  · exact h
  · exact h
  · exact h

theorem checkErrors_tidy {xs : List (Nat × Xlat)} : Exec.Tidies (checkErrors xs) := by
  intro _ h
  unfold checkErrors
  split <;> exact h

theorem takeReply_tidy {va pa : Nat} {op : PeerOp} {kind : AccessKind} : Exec.Tidies (takeReply va pa op kind) := by
  intro _ h
  unfold takeReply
  split
  · split
    · exact h
    · exact ite_holds h h
  · exact h

theorem readRun_tidy {run : List (Nat × Xlat)} {kind : AccessKind} : Exec.Tidies (readRun run kind) := by
  intro _ h
  unfold readRun
  split
  · exact h
  · exact ite_holds h (by
        split
        · exact h
        · exact ite_holds (doorbellSeen_tidy h) h
        · exact State.hostSeen_tidy h
        · exact takeReply_tidy _ h
        · exact h)

theorem enterRuns_tidy {runs : List (List (Nat × Xlat))} : Exec.Tidies (enterRuns runs) :=
  fun _ h =>
    ite_holds h (by
      split
      next e =>
        exact (foldl_holds (fun _ h1 _ _ => by
            split
            · exact h1
            · exact h1
            · split
              · exact enterRecord_tidy (h1 _ rfl)
              · exact enterRecord_tidy (h1 _ rfl)
              · exact h1) (IfOk.ok h)) _ e
      · exact h
      · exact h
      · exact h)

theorem readRuns_tidy {runs : List (List (Nat × Xlat))} {kind : AccessKind} : Exec.Tidies (readRuns runs kind) := by
  induction runs with
  | nil => exact .pure
  | cons r rest ih => exact .bind readRun_tidy (fun _ => .bind ih (fun _ => .pure))

theorem note_tidy {x : Note} : Exec.Tidies (note x) := modState_tidy (fun _ h => h)

theorem plainRead_tidy {vport : Bool} {a n : Nat} : Exec.Tidies (plainRead vport a n) :=
  .bind resolve_tidy
    (fun _ => .bind checkErrors_tidy (fun _ => .bind readRuns_tidy (fun _ => .bind note_tidy (fun _ => .getState (fun _ _ => .pure)))))

/-- The constant is unfolded alone: beside the body it is compared with, the kernel would evaluate the body's discriminant. -/
theorem sweptByte_tidy {w : Sweep} {vport : Bool} {a : Nat} {b : Byte} : Exec.Tidies (sweptByte w vport a b) := by
  suffices h : ∀ f, f = sweptByte → Exec.Tidies (f w vport a b) from h _ rfl
  intro f hf
  delta sweptByte at hf
  subst hf
  beta_reduce
  split
  · exact .pure
  · exact ite_holds .pure (.bind plainRead_tidy (fun _ => .bind plainRead_tidy (fun _ => .pure)))

theorem sweptBytes_tidy {w : Sweep} {vport : Bool} {l : List (Nat × Byte)} : Exec.Tidies (sweptBytes w vport l) := by
  induction l with
  | nil => exact .pure
  | cons e r ih => exact .bind sweptByte_tidy (fun _ => .bind ih (fun _ => .pure))

theorem beforeDev_tidy {xs : List Xlat} : Exec.Tidies (beforeDev xs) := fun _ h => ite_holds (State.spoilStrip_tidy (State.endStrip_tidy h)) h

theorem loadGlobal_tidy {vport masked : Bool} {a n : Nat} : Exec.Tidies (loadGlobal vport masked a n) :=
  .bind resolve_tidy (fun _ =>
    .bind comparators_tidy (fun _ =>
      .bind scoreboard_tidy (fun _ =>
        .bind beforeDev_tidy (fun _ =>
          .bind checkErrors_tidy (fun _ =>
            .bind readRuns_tidy (fun _ =>
              .getState (fun _ _ => by
                dsimp only
                split
                · exact .bind sweptBytes_tidy (fun _ => .bind note_tidy (fun _ => .pure))
                · exact .bind .pure (fun _ => .bind note_tidy (fun _ => .pure)))))))))

theorem sharedBounds_tidy {a n : Nat} : Exec.Tidies (sharedBounds a n) := fun _ h => ite_holds h h

theorem scratchRead_tidy {a n : Nat} : Exec.Tidies (scratchRead a n) := by
  intro _ h
  unfold scratchRead
  split <;> exact h

theorem loadShared_tidy {masked : Bool} {a n : Nat} : Exec.Tidies (loadShared masked a n) :=
  .bind sharedBounds_tidy (fun _ => .bind scoreboard_tidy (fun _ => .bind note_tidy (fun _ => scratchRead_tidy)))

theorem loadBytes_tidy {shared vport masked : Bool} {a n : Nat} : Exec.Tidies (loadBytes shared vport masked a n) :=
  ite_holds loadShared_tidy loadGlobal_tidy

theorem makeRoom_tidy {shared : Bool} {vs : List Nat} {s : State} (h : s.Tidy) : (makeRoom shared vs s).Tidy :=
  ite_holds h (ite_holds (State.spoilStrip_tidy (State.endStrip_tidy h)) h)

theorem hold_tidy {shared aligned : Bool} {bs : List HeldByte} {s : State} (h : s.Tidy) : (hold shared aligned bs s).Tidy := makeRoom_tidy h

theorem addOutstanding_tidy {t : Option Nat} {s : State} (h : s.Tidy) : (addOutstanding t s).Tidy := by
  unfold addOutstanding
  split <;> exact h

theorem landRuns_tidy {posted : Bool} {l : List (List (Nat × Nat × Byte × Byte))} : ∀ {s : State}, s.Tidy → (landRuns posted l s).Tidy := by
  induction l with
  | nil => exact fun h => h
  | cons r rest ih => exact fun h => ih (addOutstanding_tidy (landBytes_tidy h).1)

theorem storeGlobal_tidy {vport : Bool} {a : Nat} {bs : List (Byte × Byte)} : Exec.Tidies (storeGlobal vport a bs) :=
  .bind resolve_tidy (fun _ =>
    .bind comparators_tidy (fun _ =>
      .bind scoreboard_tidy (fun _ =>
        .getState (fun _ _ =>
          .bind enterRuns_tidy (fun _ =>
            .bind beforeDev_tidy (fun _ =>
              ite_holds (.bind (modState_tidy (fun _ h1 => landRuns_tidy h1)) (fun _ => note_tidy))
                (.bind (modState_tidy (fun _ h1 => hold_tidy h1)) (fun _ => note_tidy))))))))

theorem storeShared_tidy {a : Nat} {bs : List (Byte × Byte)} : Exec.Tidies (storeShared a bs) :=
  .bind sharedBounds_tidy
    (fun _ => .bind scoreboard_tidy (fun _ => .bind note_tidy (fun _ => modState_tidy (fun _ h => hold_tidy h))))

theorem storeMasked_tidy {shared vport : Bool} {a : Nat} {bs : List (Byte × Byte)} : Exec.Tidies (storeMasked shared vport a bs) :=
  ite_holds storeShared_tidy storeGlobal_tidy

theorem storeBytes_tidy {shared vport : Bool} {a : Nat} {bs : List Byte} : Exec.Tidies (storeBytes shared vport a bs) := storeMasked_tidy

theorem readMem_tidy {shared : Bool} {a n : Nat} : Exec.Tidies (readMem shared a n) := .bind loadBytes_tidy (fun _ => .pure)

theorem writeMem_tidy {shared : Bool} {a n x : Nat} : Exec.Tidies (writeMem shared a n x) := storeBytes_tidy

theorem requireAligned_tidy {a n : Nat} : Exec.Tidies (requireAligned a n) := fun _ h => ite_holds h h

theorem writeScratchNow_tidy {a : Nat} {bs : List (Byte × Byte)} {s : State} (h : s.Tidy) : (writeScratchNow a bs s).Tidy :=
  foldl_holds (fun _ h1 _ _ => ⟨Mem.writeScratch_tidy h1.mem, h1.me, h1.peer, h1.tan, h1.away, h1.rel⟩) h

theorem publishFor_tidy {pa : Nat} {s : State} (h : s.Tidy) : (publishFor pa s).Tidy :=
  ite_holds h ⟨Mem.publish_tidy h.mem, h.me, h.peer, h.tan, h.away, h.rel⟩

theorem releaseStore_tidy {shared : Bool} {a n x : Nat} : Exec.Tidies (releaseStore shared a n x) :=
  ite_holds (.bind sharedBounds_tidy (fun _ =>
    .bind scoreboard_tidy
      (fun _ => .bind (modState_tidy (fun _ h => writeScratchNow_tidy (State.spoilStrip_tidy (State.endStrip_tidy h)))) (fun _ => note_tidy))))
    (.bind resolve_tidy (fun _ =>
      .bind comparators_tidy (fun _ =>
        .bind scoreboard_tidy (fun _ =>
          .getState (fun _ _ =>
            .bind enterRuns_tidy (fun _ =>
              .bind (modState_tidy (fun _ h1 => landRuns_tidy (publishFor_tidy (State.spoilStrip_tidy (State.endStrip_tidy h1)))))
                (fun _ => note_tidy)))))))

theorem atomicDevice_tidy {d pa n : Nat} {f : Nat → Option Nat × Nat} {s : State} (h : s.Tidy) :
    Both State.Tidy Anything (atomicDevice d pa n f s) := by
  unfold atomicDevice
  dsimp only
  split
  · exact ⟨⟨Mem.catchUp_tidy (Mem.catchUp_tidy (Mem.pull_tidy (Mem.pull_tidy h.mem))), h.me, h.peer, h.tan, h.away, h.rel⟩, anything⟩
  · exact ⟨⟨Mem.pull_tidy (Mem.store_tidy (Mem.catchUp_tidy (Mem.catchUp_tidy (Mem.pull_tidy (Mem.pull_tidy h.mem))))),
        h.me, h.peer, h.tan, h.away, h.rel⟩, anything⟩

theorem atomicImage_tidy {d pa n : Nat} {f : Nat → Option Nat × Nat} {s : State} (h : s.Tidy) : Both State.Tidy Anything (atomicImage d pa n f s) :=
  ⟨writeImages_tidy (Both.fst (atomicDevice_tidy (ite_holds h ⟨homeStore_tidy h.mem, h.me, h.peer, h.tan, h.away, h.rel⟩))),
   anything⟩

theorem atomicAt_tidy {va pa : Nat} {xs : List Xlat} {n op x e : Nat} {f : Nat → Option Nat × Nat} : Exec.Tidies (atomicAt va pa xs n op x e f) :=
  .getState (fun _ _ => by
    split
    · exact fun _ h1 => (ite_holds (atomicImage_tidy h1) (atomicDevice_tidy h1)).1
    · exact ite_holds (.bind (modState_tidy (fun _ h1 => doorbellSeen_tidy h1)) (fun _ => by
          split
          · exact .bind (modState_tidy (fun _ h1 => publishFor_tidy h1)) (fun _ => .pure)
          · exact .pure)) .pure
    · exact .whenBind enterRuns_tidy (fun _ =>
          .getState (fun _ _ =>
            .bind (modState_tidy (fun _ h2 => State.hostSeen_tidy h2)) (fun _ => by
              split
              · exact .pure
              · exact .bind (modState_tidy (fun _ h2 => (publishFor_tidy h2).setMem (writeCells_wf _ _ (publishFor_tidy h2).mem))) (fun _ => .pure))))
    · exact .bind takeReply_tidy (fun _ => .pure)
    · exact .pure)

theorem atomicMem_tidy {shared vport : Bool} {a n op x e : Nat} {f : Nat → Option Nat × Nat} : Exec.Tidies (atomicMem shared vport a n op x e f) :=
  ite_holds (.bind sharedBounds_tidy (fun _ =>
    .bind scoreboard_tidy (fun _ =>
      .bind (modState_tidy (fun _ h => State.spoilStrip_tidy (State.endStrip_tidy h))) (fun _ =>
        .bind note_tidy (fun _ =>
          .bind scratchRead_tidy (fun _ => by
            dsimp only
            split
            · exact .pure
            · exact .bind (modState_tidy (fun _ h => writeScratchNow_tidy h)) (fun _ => .pure)))))))
    (.bind resolve_tidy (fun _ =>
      .bind comparators_tidy (fun _ =>
        .bind scoreboard_tidy (fun _ =>
          .bind (modState_tidy (fun _ h => State.spoilStrip_tidy (State.endStrip_tidy h))) (fun _ =>
            .bind checkErrors_tidy (fun _ => by
              split
              · exact .pure
              · exact .bind atomicAt_tidy (fun _ => .bind note_tidy (fun _ => .pure))))))))

/-! ### Kernel areas -/

theorem writeKernel_tidy {s : State} {d ctx csn : Nat} (h : s.Tidy) : (writeKernel s d ctx csn).Tidy := by
  unfold writeKernel
  split
  · exact areaWrite_tidy h
  · exact h

theorem settleCidx_tidy {s : State} (h : s.Tidy) : (settleCidx s).Tidy :=
  (settleOwed_tidy h (State.focusAway_tidy h)).1.setTan (settleOwed_tidy h (State.focusAway_tidy h)).2

theorem closeStrip_tidy {s : State} (h : s.Tidy) : (closeStrip s).Tidy := ⟨h.mem, h.me, h.peer, h.tan, h.away, h.rel⟩

theorem takeCheckpoint_tidy {s : State} (h : s.Tidy) : (takeCheckpoint s).Tidy := h

/-! ### Recovery records -/

theorem recordHook_tidy {s0 : State} {taken : Option Bool} {s : State} (hs : s.Tidy) : (recordHook s0 taken s).Tidy := by
  unfold recordHook
  split
  · split
    · split
      · exact hs
      · exact ⟨hs.mem, declineLoop_tidy hs.me, hs.peer, hs.tan, hs.away, hs.rel⟩
    · exact hs
  · exact hs

theorem recordPartial_tidy {s0 s : State} (hs : s.Tidy) : (recordPartial s0 s).Tidy := by
  unfold recordPartial
  split
  · exact ite_holds (by
        split
        · exact hs
        · exact ⟨hs.mem, declineLoop_tidy hs.me, hs.peer, hs.tan, hs.away, hs.rel⟩) hs
  · exact hs

theorem measureHook_tidy {done : Bool} {s : State} (h : s.Tidy) : (measureHook done s).Tidy := by
  unfold measureHook
  split
  · exact h
  · split
    · exact h
    · dsimp only
      split
      · exact h
      · exact ite_holds h h

theorem historyHook_tidy {s0 s : State} (hs : s.Tidy) : (historyHook s0 s).Tidy :=
  ite_holds hs (by
    dsimp only
    split <;> exact hs)

theorem trialHook_tidy {s0 s : State} (hs : s.Tidy) : (trialHook s0 s).Tidy := ite_holds hs (ite_holds hs hs)

/-! ### How an instruction is run -/

theorem modSaved_tidy {f : Saved → Saved} : Exec.Tidies (modSaved f) := modMe_tidy (fun _ h => Hart.withSaved_tidy h)

theorem raiseSaved_tidy {f : Nat} : Exec.Tidies (raiseSaved f) := ite_holds .pure modSaved_tidy

theorem beginVector_tidy {s : State} (h : s.Tidy) : (beginVector s).Tidy := by
  unfold beginVector
  split
  · exact ite_holds ⟨h.mem, Hart.withSaved_tidy h.me, h.peer, h.tan, h.away, h.rel⟩
        ⟨h.mem, Hart.withSaved_tidy h.me, h.peer, h.tan, h.away, h.rel⟩
  · exact h

theorem vecScalar_tidy {n : Nat} : Exec.Tidies (vecScalar n) :=
  .getState (fun _ _ =>
    ite_holds .pure (by
      dsimp only
      split
      · exact .bind modSaved_tidy (fun _ => .pure)
      · exact .bind popScalar_tidy (fun _ => .bind modSaved_tidy (fun _ => .pure))))

theorem vecValue_tidy {n : Nat} : Exec.Tidies (vecValue n) := .getState (fun _ _ => ite_holds .pure vecScalar_tidy)

theorem vecPop_tidy {name n : Nat} : Exec.Tidies (vecPop name n) :=
  .getState (fun _ _ => by
    dsimp only
    split
    · exact .bind modSaved_tidy (fun _ => .pure)
    · exact .bind popVector_tidy (fun _ => .bind modSaved_tidy (fun _ => .pure)))

theorem failPosted_tidy {s : State} (h : s.Tidy) : (failPosted s).Tidy := by
  unfold failPosted
  split
  · exact h
  · dsimp only
    split
    · exact h
    · exact stopKernelOpen_tidy (atHart_tidy (fun _ h1 => postMine_tidy h1) (mapTandems_tidy (fun _ _ h1 h2 => ⟨h1, h2⟩) h))

theorem retireWith_tidy {recorded : Bool} {s0 : State} {npc : Word} {taken : Option Bool} {s : State} (hs : s.Tidy) :
    (retireWith recorded s0 npc taken s).Tidy := by
  have hr : State.Tidy (if recorded then recordHook s0 taken s else s) := ite_holds (recordHook_tidy hs) hs
  have hh := trialHook_tidy (s0 := s0) (historyHook_tidy (s0 := s0) (measureHook_tidy (done := true) hr))
  exact failPosted_tidy (settleCidx_tidy (hh.setMe (Hart.withSaved_tidy hh.me)))

theorem retire_tidy {s0 : State} {npc : Word} {s : State} (hs : s.Tidy) : (retire s0 npc s).Tidy := retireWith_tidy hs

theorem runScalar_tidy {b : Exec Unit} {s : State} (hb : Exec.Tidies b) (h : s.Tidy) : Leaves (runScalar b s) := by
  unfold runScalar
  split
  next e => exact Leaves.next (retire_tidy (hb.ok h e))
  · exact Leaves.next (applyStop_tidy (undone_tidy h))

theorem abandonSweep_tidy {h : Hart} : Exec.Tidies (abandonSweep h) := by
  unfold abandonSweep
  split
  · exact .pure
  · exact .bind resolve_tidy
        (fun _ => .bind scoreboard_tidy (fun _ => .bind enterRuns_tidy (fun _ => modState_tidy (fun _ h1 => landRuns_tidy (publishFor_tidy h1)))))

theorem runBranch_tidy {b : Exec (Option Word)} {s : State} (hb : Exec.Tidies b) (h : s.Tidy) : Leaves (runBranch b s) := by
  unfold runBranch
  split
  next e =>
    exact ite_holds (by
        split
        next e1 =>
          exact Leaves.next ((retireWith_tidy (abandonSweep_tidy.ok (hb.ok h e) e1)).setMe
              (Hart.leaveLoop_tidy (retireWith_tidy (abandonSweep_tidy.ok (hb.ok h e) e1)).me))
        · exact Leaves.next (applyStop_tidy (undone_tidy h)))
        (Leaves.next (retireWith_tidy (hb.ok h e)))
  next e => exact Leaves.next (retireWith_tidy (hb.ok h e))
  · exact Leaves.next (applyStop_tidy h)

theorem keepSpan_tidy {s : State} (h : s.Tidy) : (keepSpan s).Tidy := by
  unfold keepSpan
  split
  · exact ⟨h.mem, Hart.withSaved_tidy h.me, h.peer, h.tan, h.away, h.rel⟩
  · exact h

theorem keepIssue_tidy {e : Stop} {s s' : State} (hs' : s'.Tidy) : (keepIssue e s s').Tidy :=
  ite_holds ⟨hs'.mem, Hart.withSaved_tidy hs'.me, hs'.peer, hs'.tan, hs'.away, hs'.rel⟩ hs'

theorem stopped_tidy {e : Stop} {s s' : State} (h : s.Tidy) (hs' : s'.Tidy) : (stopped e s s').Tidy :=
  ite_holds (applyStop_tidy (undone_tidy (beginVector_tidy h)))
    (applyStop_tidy (recordPartial_tidy (measureHook_tidy (keepIssue_tidy (keepSpan_tidy hs')))))

theorem runKeep_tidy {b : Exec Unit} {s : State} (hb : Exec.Tidies b) (h : s.Tidy) : Leaves (runKeep b s) := by
  unfold runKeep
  split
  next e => exact Leaves.next (retire_tidy (hb.ok (beginVector_tidy h) e))
  next e => exact Leaves.next (stopped_tidy h (hb.error (beginVector_tidy h) e))

theorem countCovered_tidy {s : State} (h : s.Tidy) : (countCovered s).Tidy := ite_holds h h

theorem recheckWait_tidy {s : State} (h : s.Tidy) : IfSome State.Tidy (recheckWait s) :=
  ite_holds IfSome.none (by
    split
    · exact ite_holds IfSome.none (ite_holds (IfSome.some h) IfSome.none)
    · exact ite_holds (IfSome.some h) (ite_holds (IfSome.some h) IfSome.none)
    · exact ite_holds (IfSome.some h) (ite_holds (IfSome.some h) IfSome.none)
    · exact ite_holds (IfSome.some h) IfSome.none)

theorem runVector_tidy {b : Exec Unit} {s : State} (hb : Exec.Tidies b) (h : s.Tidy) : Leaves (runVector b s) := by
  unfold runVector
  dsimp only
  split
  next e => exact Leaves.next ((recheckWait_tidy (countCovered_tidy h)) _ e)
  · exact runKeep_tidy hb (countCovered_tidy h)

theorem raise_tidy {f : Nat} : Exec.Tidies (raise f) := ite_holds .pure (modMe_tidy (fun _ h => Hart.raise_tidy h))

/-! ### Scalar integer instructions -/

theorem alu2_tidy {f : Word → Word → Word} {d a b : BitVec 7} : Exec.Tidies (alu2 f d a b) :=
  .bind checkSrc_tidy
    (fun _ => .bind checkSrc_tidy (fun _ => .bind checkDst_tidy (fun _ => .bind readS_tidy (fun _ => .bind readS_tidy (fun _ => writeS_tidy)))))

theorem alu1_tidy {f : Word → Word} {d a : BitVec 7} : Exec.Tidies (alu1 f d a) :=
  .bind checkSrc_tidy (fun _ => .bind checkDst_tidy (fun _ => .bind readS_tidy (fun _ => writeS_tidy)))

theorem aluConst_tidy {f : State → Word} {d : BitVec 7} : Exec.Tidies (aluConst f d) :=
  .bind checkDst_tidy (fun _ => .getState (fun _ _ => writeS_tidy))

/-! ### Operands of vector instructions -/

theorem checkTileSrc_tidy {n g : Nat} : Exec.Tidies (checkTileSrc n g) := .getState (fun _ _ => .bind checkSrc_tidy (fun _ => require_tidy))

theorem checkTileDst_tidy {n g : Nat} : Exec.Tidies (checkTileDst n g) := .getState (fun _ _ => .bind checkDst_tidy (fun _ => require_tidy))

theorem checkOverlap_tidy {d gd a ga : Nat} : Exec.Tidies (checkOverlap d gd a ga) := .getState (fun _ _ => require_tidy)

theorem checkDisjoint_tidy {d gd a ga : Nat} : Exec.Tidies (checkDisjoint d gd a ga) := .getState (fun _ _ => require_tidy)

theorem checkUnscaled_tidy : Exec.Tidies (checkUnscaled) := .getState (fun _ _ => require_tidy)

theorem checkStart0_tidy : Exec.Tidies (checkStart0) := .getState (fun _ _ => require_tidy)

theorem checkFmt_tidy : Exec.Tidies (checkFmt) := .getState (fun _ _ => require_tidy)

theorem readTile_tidy {n g : Nat} : Exec.Tidies (readTile n g) := .getState (fun _ _ => ite_holds .pure vecPop_tidy)

theorem readIndices_tidy {n g : Nat} : Exec.Tidies (readIndices n g) := .getState (fun _ _ => ite_holds .pure vecPop_tidy)

theorem drainedFirst_tidy {α : Type} {pops : Exec α} : Exec.Tidies (drainedFirst pops) := by
  intro _ h
  unfold drainedFirst
  split <;> exact h

theorem writeTile_tidy {n : Nat} {regs : List VReg} {h : Hart} (hh : h.tidy) : (writeTile n regs h).tidy :=
  foldl_holds (fun _ h1 _ _ => Hart.writeV_tidy h1) hh

theorem setVstart_tidy {n : Nat} : Exec.Tidies (setVstart n) := modMe_tidy (fun _ h => h)

theorem pushRows_tidy {name vl : Nat} {l : List (List VReg × Nat)} : ∀ {j : Nat}, Exec.Tidies (pushRows name vl j l) := by
  induction l with
  | nil => exact .pure
  | cons r rest ih =>
    exact .bind raiseSaved_tidy (fun _ => .bind modSaved_tidy (fun _ => .bind setVstart_tidy (fun _ => .bind pushVector_tidy (fun _ =>
      .bind modSaved_tidy (fun _ => ih)))))

theorem pushStaged_tidy {name : Nat} : Exec.Tidies (pushStaged name) :=
  .getState (fun _ _ => ite_holds (.bind pushVector_tidy (fun _ => modSaved_tidy)) .pure)

theorem putRows_tidy {d gd w : Nat} {f : Nat → Nat → Elem} : Exec.Tidies (putRows d gd w f) :=
  .getState (fun _ _ =>
    ite_holds (ite_holds setVstart_tidy
      (.bind (modMe_tidy (fun _ h1 => writeTile_tidy h1)) (fun _ => .bind raiseSaved_tidy (fun _ => setVstart_tidy))))
      (.bind pushStaged_tidy (fun _ => .getState (fun _ _ => .bind pushRows_tidy (fun _ => setVstart_tidy)))))

theorem elementwise_tidy {d gd w : Nat} {m : Bool} {op : Nat → Nat × Nat} : Exec.Tidies (elementwise d gd w m op) :=
  .getState (fun _ _ => putRows_tidy)

theorem coreOnly_tidy : Exec.Tidies (coreOnly) := .getState (fun _ _ => ite_holds illegalInstr_tidy .pure)

theorem putPred_tidy {d : Nat} {f : Nat → Nat → Option Bool} : Exec.Tidies (putPred d f) := modMe_tidy (fun _ h => Hart.writeP_tidy h)

/-! ### Atomics -/

theorem checkDet_tidy : Exec.Tidies (checkDet) := .getState (fun _ _ => ite_holds detViolation_tidy .pure)

theorem atomicBody_tidy {shared : Bool} {op : Nat} {w : BitVec 2} {d a b : BitVec 7} {z : BitVec 1} :
    Exec.Tidies (atomicBody shared op w d a b z) := by
  unfold atomicBody
  exact .whenBind coreOnly_tidy (fun _ =>
      .bind checkSrc_tidy (fun _ =>
        .bind checkSrc_tidy (fun _ =>
          .bind checkRmw_tidy (fun _ =>
            .bind readS_tidy (fun _ =>
              .bind readS_tidy (fun _ =>
                .bind readS_tidy (fun _ =>
                  .bind requireAligned_tidy
                    (fun _ => .whenBind checkDet_tidy (fun _ => .bind atomicMem_tidy (fun _ => .bind raise_tidy (fun _ => writeS_tidy)))))))))))

/-! ### Barrier objects -/

theorem barTrap_tidy {α : Type} {addr case : Nat} : Exec.Tidies (barTrap (α := α) addr case) := fun _ h => h

theorem barEnds_tidy {op : Nat} {s : State} (h : s.Tidy) : (barEnds op s).Tidy :=
  ite_holds (State.spoilStrip_tidy (State.endStrip_tidy h)) (State.endStrip_tidy h)

theorem barAccess_tidy {global : Bool} {op addr u : Nat} : Exec.Tidies (barAccess global op addr u) :=
  .bind requireAligned_tidy (fun _ =>
    ite_holds (.bind resolve_tidy (fun _ =>
      .whenBind barTrap_tidy (fun _ =>
        .whenBind barTrap_tidy (fun _ =>
          .bind comparators_tidy (fun _ =>
            .bind scoreboard_tidy (fun _ =>
              .bind (modState_tidy (fun _ h => barEnds_tidy h)) (fun _ =>
                .bind checkErrors_tidy (fun _ => by
                  split
                  · exact .pure
                  · exact .bind atomicAt_tidy (fun _ => .bind note_tidy (fun _ => .pure))))))))))
      (.bind sharedBounds_tidy (fun _ =>
        .whenBind barTrap_tidy (fun _ =>
          .bind scoreboard_tidy (fun _ =>
            .bind (modState_tidy (fun _ h => barEnds_tidy h)) (fun _ =>
              .bind note_tidy (fun _ =>
                .bind scratchRead_tidy (fun _ => by
                  split
                  · exact .pure
                  · exact .bind (modState_tidy (fun _ h => writeScratchNow_tidy h)) (fun _ => .pure)))))))))

theorem roomFor_tidy {d : Nat} : Exec.Tidies (roomFor d) := by
  intro _ h
  unfold roomFor
  split <;> exact h

theorem barWaits_tidy {global : Bool} {addr : Nat} {parity : Bool} : Exec.Tidies (barWaits global addr parity) :=
  .bind (modState_tidy (fun _ h => h)) (fun _ => stopWith_tidy)

theorem barBody_tidy {global : Bool} {op : Nat} {d : Option (BitVec 7)} {a b : BitVec 7} : Exec.Tidies (barBody global op d a b) :=
  .bind coreOnly_tidy (fun _ =>
    .bind checkSrc_tidy (fun _ =>
      .bind checkSrc_tidy (fun _ => by
        dsimp only
        split
        · exact .bind checkDst_tidy (fun _ =>
              .bind readS_tidy (fun _ =>
                .bind readS_tidy (fun _ =>
                  .bind roomFor_tidy (fun _ =>
                    .getState (fun _ _ =>
                      .bind barAccess_tidy (fun _ => by
                        dsimp only
                        split
                        · exact writeS_tidy
                        · exact .bind barTrap_tidy (fun _ => writeS_tidy)
                        · exact .whenBind barTrap_tidy (fun _ => ite_holds (.bind barWaits_tidy (fun _ => writeS_tidy)) writeS_tidy)))))))
        · exact .bind readS_tidy (fun _ =>
              .bind readS_tidy (fun _ =>
                .getState (fun _ _ =>
                  .bind barAccess_tidy (fun _ => by
                    dsimp only
                    split
                    · exact .pure
                    · exact .bind barTrap_tidy (fun _ => .pure)
                    · exact .whenBind barTrap_tidy (fun _ => ite_holds (.bind barWaits_tidy (fun _ => .pure)) .pure))))))))

theorem runBarrier_tidy {b : Exec Unit} {s : State} (hb : Exec.Tidies b) (h : s.Tidy) : Leaves (runBarrier b s) := by
  unfold runBarrier
  split
  next e => exact Leaves.next (retire_tidy (hb.ok h e))
  · exact Leaves.next (applyStop_tidy (undone_tidy h))

/-! ### Branches -/

theorem branchZ_tidy {c : Nat} {a : BitVec 7} {o : BitVec 16} : Exec.Tidies (branchZ c a o) :=
  .bind checkSrc_tidy (fun _ => .bind readS_tidy (fun _ => .getState (fun _ _ => .pure)))

theorem branch2_tidy {c : Nat} {a b : BitVec 7} {o : BitVec 9} : Exec.Tidies (branch2 c a b o) :=
  .bind checkSrc_tidy
    (fun _ => .bind checkSrc_tidy (fun _ => .bind readS_tidy (fun _ => .bind readS_tidy (fun _ => .getState (fun _ _ => .pure)))))

theorem jumpBody_tidy {o : BitVec 26} : Exec.Tidies (jumpBody o) := .getState (fun _ _ => .pure)

theorem jumpLinkBody_tidy {o : BitVec 26} : Exec.Tidies (jumpLinkBody o) := .getState (fun _ _ => .bind writeS_tidy (fun _ => .pure))

theorem jumpLinkRegBody_tidy {d a : BitVec 7} {i : BitVec 12} : Exec.Tidies (jumpLinkRegBody d a i) :=
  .bind checkSrc_tidy
    (fun _ => .bind checkDst_tidy (fun _ => .bind readS_tidy (fun _ => .getState (fun _ _ => .bind writeS_tidy (fun _ => .pure)))))

/-! ### Tandems that come and go -/

theorem startHart_tidy {pc : Word} {regs : List Word} : (startHart pc regs).tidy :=
  ⟨foldl_wf (fun _ h _ _ => sparseWf_set _ _ _ _ h) rfl, rfl, rfl, rfl, rfl⟩

theorem newTandem_tidy {k : Kernel} {uid tid tix : Nat} {regs : List Word} : (newTandem k uid tid tix regs).tidy :=
  ⟨startHart_tidy, startHart_tidy, rfl⟩

theorem addTandems_tidy {s : State} {xs : List Away} (h : s.Tidy) (hxs : AllTidy xs) : (addTandems s xs).Tidy :=
  foldl_holds (fun _ h1 _ _ => writeTandemEntry_tidy h1) ⟨h.mem, h.me, h.peer, h.tan, AllTidy.append h.away hxs, h.rel⟩

theorem endTandem_tidy {s : State} (h : s.Tidy) : (endTandem s).Tidy :=
  writeKernel_tidy (State.modKernel_tidy (writeTandemEntry_tidy ((leaveAll_tidy (endStay_tidy h)).setTan h.tan)))

theorem clearTandemEntry_tidy {s : State} {t : Tandem} (h : s.Tidy) : (clearTandemEntry s t).Tidy := by
  unfold clearTandemEntry
  split
  · exact areaWrite_tidy h
  · exact h

theorem dropTandems_tidy {p : Tandem → Bool} {s : State} (h : s.Tidy) : (dropTandems p s).Tidy := by
  have hs : State.Tidy ((s.allTandems.filter (fun x => p x.t)).foldl (fun s x => clearTandemEntry s x.t) s) :=
    foldl_holds (fun _ h1 _ _ => clearTandemEntry_tidy h1) h
  have hd := hs.setAway (AllTidy.filter (p := fun x => !p x.t) hs.away)
  exact ite_holds (((hd.setMe Hart.empty_tidy).setPeer Hart.empty_tidy).setTan Tandem.empty_tidy) hd

theorem settleContexts_tidy {s : State} (h : s.Tidy) : (settleContexts s).Tidy := h

/-! ### Vector conversions -/

theorem checkConvert_tidy {d gd a ga : Nat} {same : Bool} : Exec.Tidies (checkConvert d gd a ga same) :=
  ite_holds checkOverlap_tidy checkDisjoint_tidy

theorem convertBody_tidy {fn : Nat} {d a c : BitVec 7} {m : BitVec 1} : Exec.Tidies (convertBody fn d a c m) :=
  .getState (fun _ _ =>
    .bind coreOnly_tidy (fun _ =>
      .bind checkTileSrc_tidy (fun _ =>
        .bind require_tidy (fun _ =>
          .bind checkTileDst_tidy (fun _ =>
            .bind checkUnscaled_tidy (fun _ =>
              .bind checkConvert_tidy (fun _ =>
                .whenBind checkFmt_tidy
                  (fun _ => .bind require_tidy (fun _ => .bind readTile_tidy (fun _ => .getState (fun _ _ => elementwise_tidy)))))))))))

theorem checkScaled_tidy : Exec.Tidies (checkScaled) :=
  .getState (fun _ _ => .bind coreOnly_tidy (fun _ => .bind require_tidy (fun _ => checkFmt_tidy)))

theorem vqntBody_tidy {d a c : BitVec 7} {m : BitVec 1} : Exec.Tidies (vqntBody d a c m) :=
  .bind checkScaled_tidy (fun _ =>
    .getState (fun _ _ =>
      .bind require_tidy (fun _ =>
        .bind checkTileSrc_tidy (fun _ =>
          .bind checkTileDst_tidy
            (fun _ => .bind checkDisjoint_tidy (fun _ => .bind readTile_tidy (fun _ => .getState (fun _ _ => elementwise_tidy))))))))

theorem vdqntBody_tidy {d a c : BitVec 7} {m : BitVec 1} : Exec.Tidies (vdqntBody d a c m) :=
  .bind checkScaled_tidy (fun _ =>
    .getState (fun _ _ =>
      .bind checkTileSrc_tidy (fun _ =>
        .bind checkTileDst_tidy
          (fun _ => .bind checkDisjoint_tidy (fun _ => .bind readTile_tidy (fun _ => .getState (fun _ _ => elementwise_tidy)))))))

theorem vbscaleBody_tidy {d : BitVec 3} {a c : BitVec 7} {m : BitVec 1} : Exec.Tidies (vbscaleBody d a c m) :=
  .bind checkScaled_tidy (fun _ =>
    .getState (fun _ _ =>
      .bind require_tidy (fun _ =>
        .bind checkStart0_tidy (fun _ =>
          .bind checkTileSrc_tidy (fun _ =>
            .bind readTile_tidy
              (fun _ => .getState (fun _ _ => .bind (modMe_tidy (fun _ h2 => Hart.writeK_tidy h2)) (fun _ => raiseSaved_tidy))))))))

theorem vindexBody_tidy {d : BitVec 7} {m : BitVec 1} {s9 p9 : BitVec 9} : Exec.Tidies (vindexBody d m s9 p9) :=
  .getState
    (fun _ _ => .bind coreOnly_tidy (fun _ => .bind checkTileDst_tidy (fun _ => .bind checkUnscaled_tidy (fun _ => elementwise_tidy))))

/-! ### Vector loads and stores -/

theorem loadField_tidy {shared masked : Bool} {k : Nat} {c : Csr} {p : Place1} : Exec.Tidies (loadField shared masked k c p) :=
  .bind loadBytes_tidy (fun _ => .pure)

theorem storeField_tidy {shared : Bool} {k : Nat} {c : Csr} {p : Place1} {x : Nat} : Exec.Tidies (storeField shared k c p x) :=
  .bind storeMasked_tidy (fun _ => .pure)

theorem putElem_tidy {d g w j i v : Nat} : Exec.Tidies (putElem d g w j i v) :=
  ite_holds (modMe_tidy (fun _ h => Hart.writeV_tidy h)) modSaved_tidy

theorem finishRow_tidy {d g next : Nat} : Exec.Tidies (finishRow d g next) :=
  ite_holds .pure (.bind modSaved_tidy
    (fun _ => .bind setVstart_tidy (fun _ => .getState (fun _ _ => .bind pushVector_tidy (fun _ => modSaved_tidy)))))

theorem catchUp_tidy {d g rows vl start n : Nat} : Exec.Tidies (catchUp d g rows vl start n) := by
  induction n with
  | zero => exact .pure
  | succ _ ih => exact .getState (fun _ _ => ite_holds (.bind finishRow_tidy (fun _ => ih)) .pure)

theorem elementsFrom_tidy {act : Nat → Exec Unit} {n n1 : Nat} (hact : ∀ a, Exec.Tidies (act a)) : Exec.Tidies (elementsFrom act n n1) := by
  induction n generalizing n1 with
  | zero => exact .pure
  | succ _ ih => exact .bind setVstart_tidy (fun _ => .bind (hact _) (fun _ => ih))

theorem zeroTail_tidy {d g w : Nat} : Exec.Tidies (zeroTail d g w) :=
  .getState
    (fun _ _ => ite_holds (modMe_tidy (fun _ h1 => foldl_holds (fun _ h2 _ _ => foldl_holds (fun _ h4 _ _ => Hart.writeV_tidy h4) h2) h1)) .pure)

theorem checkKind_tidy {k : Nat} : Exec.Tidies (checkKind k) :=
  .getState (fun _ _ => ite_holds (.bind checkFmt_tidy (fun _ => require_tidy)) require_tidy)

theorem checkSecond_tidy {f : Form} {b : Nat} : Exec.Tidies (checkSecond f b) :=
  .getState (fun _ _ => by
    split
    · exact .pure
    · exact checkSrc_tidy
    · exact checkSrc_tidy
    · exact checkTileSrc_tidy)

theorem readSecond_tidy {f : Form} {b : Nat} : Exec.Tidies (readSecond f b) :=
  .getState (fun _ _ => by
    dsimp only
    split
    · exact .pure
    · exact .bind vecScalar_tidy (fun _ => .pure)
    · exact .bind vecScalar_tidy (fun _ => .pure)
    · exact .bind readIndices_tidy (fun _ => .pure))

theorem atElement_tidy {α : Type} {n : Nat} {place : Nat → Nat} {b : Exec α} (hb : Exec.Tidies b) : Exec.Tidies (atElement n place b) := by
  intro _ h
  unfold atElement
  split
  next e => exact hb.ok h e
  next e => exact ite_holds (hb.error h e) (hb.error h e)
  next e => exact hb.error h e

theorem loadStep_tidy {one : Nat → Exec (Nat × Nat)} {d : Nat} {m : Bool} {e : Nat} (hone : ∀ a, Exec.Tidies (one a)) :
    Exec.Tidies (loadStep one d m e) :=
  .getState (fun _ _ =>
    ite_holds (.bind (atomically_tidy (hone _))
      (fun _ => .bind raiseSaved_tidy (fun _ => .bind putElem_tidy (fun _ => ite_holds finishRow_tidy .pure))))
      (ite_holds (.bind putElem_tidy (fun _ => ite_holds finishRow_tidy .pure)) (ite_holds finishRow_tidy .pure)))

theorem runLoad_tidy {one : Nat → Exec (Nat × Nat)} {d : Nat} {m : Bool} (hone : ∀ a, Exec.Tidies (one a)) : Exec.Tidies (runLoad one d m) :=
  .getState (fun _ _ =>
    .whenBind pushStaged_tidy (fun _ =>
      .bind catchUp_tidy
        (fun _ => .bind (elementsFrom_tidy (fun _ => loadStep_tidy (fun _ => hone _))) (fun _ => .bind zeroTail_tidy (fun _ => setVstart_tidy)))))

theorem unlessBeyond_tidy {n d : Nat} {fresh : Bool} {b : Exec Unit} (hb : Exec.Tidies b) : Exec.Tidies (unlessBeyond n d fresh b) :=
  .getState (fun _ _ => ite_holds setVstart_tidy hb)

theorem loadBody_tidy {shared : Bool} {f : Form} {k : Nat} {d a b : BitVec 7} {m : BitVec 1} : Exec.Tidies (loadBody shared f k d a b m) :=
  .getState (fun _ _ =>
    .bind coreOnly_tidy (fun _ =>
      .bind checkSrc_tidy (fun _ =>
        .bind checkSecond_tidy (fun _ =>
          .bind checkTileDst_tidy (fun _ =>
            .whenBind checkDisjoint_tidy (fun _ =>
              .bind checkKind_tidy (fun _ =>
                .bind vecScalar_tidy
                  (fun _ => .bind readSecond_tidy (fun _ => unlessBeyond_tidy (atElement_tidy (runLoad_tidy (fun _ => loadField_tidy))))))))))))

theorem firstFaultFrom_tidy {one : Nat → Exec (Nat × Nat)} {d : Nat} {m : Bool} {n e : Nat} (hone : ∀ a, Exec.Tidies (one a)) :
    Exec.Tidies (firstFaultFrom one d m n e) := by
  induction n generalizing e with
  | zero => exact .pure
  | succ n ih =>
    have hstep : Exec.Tidies (setVstart e >>= fun _ => loadStep one d m e) := .bind setVstart_tidy (fun _ => loadStep_tidy hone)
    intro s h
    unfold firstFaultFrom
    dsimp only
    split
    next heq =>
      have ht := hstep.ok h heq
      exact ih _ (ite_holds (ht.setMe (Hart.withSaved_tidy ht.me)) ht)
    next heq =>
      have ht := hstep.error h heq
      exact ite_holds (ht.setMe ht.me) ht

theorem runFirstFault_tidy {k : Nat} {d : BitVec 7} {m : BitVec 1} {base : Word} : Exec.Tidies (runFirstFault k d m base) :=
  .getState (fun _ _ =>
    .whenBind pushStaged_tidy (fun _ =>
      .bind catchUp_tidy (fun _ =>
        .bind (firstFaultFrom_tidy (fun _ => loadField_tidy)) (fun _ =>
          .getState (fun _ _ =>
            ite_holds (.bind finishRow_tidy (fun _ => .bind zeroTail_tidy (fun _ => setVstart_tidy)))
              (.bind zeroTail_tidy (fun _ => setVstart_tidy)))))))

theorem vldffBody_tidy {k : Nat} {d a : BitVec 7} {m : BitVec 1} : Exec.Tidies (vldffBody k d a m) :=
  .getState (fun _ _ =>
    .bind coreOnly_tidy (fun _ =>
      .bind checkSrc_tidy (fun _ =>
        .bind checkTileDst_tidy (fun _ =>
          .bind require_tidy
            (fun _ => .bind checkKind_tidy (fun _ => .bind vecScalar_tidy (fun _ => unlessBeyond_tidy (atElement_tidy runFirstFault_tidy))))))))

theorem segmentLoad_tidy {k : Nat} {m : Bool} {c : Csr} {base nib nf e n : Nat} : Exec.Tidies (segmentLoad k m c base nib nf e n) := by
  induction n with
  | zero => exact .pure
  | succ _ ih => exact .bind loadField_tidy (fun _ => .bind ih (fun _ => .pure))

theorem putFields_tidy {d step g w j i n : Nat} {l : List (Nat × Nat)} : Exec.Tidies (putFields d step g w j i n l) := by
  induction l generalizing n with
  | nil => exact .pure
  | cons _ _ ih => exact .bind raiseSaved_tidy (fun _ => .bind putElem_tidy (fun _ => ih))

theorem checkSegment_tidy {nf : Nat} {d a : BitVec 7} {k : Nat} : Exec.Tidies (checkSegment nf d a k) :=
  .getState (fun _ _ => .bind coreOnly_tidy (fun _ => .bind checkSrc_tidy (fun _ => .bind require_tidy (fun _ => checkKind_tidy))))

theorem runSegments_tidy {nf k d : Nat} {m : Bool} {base : Word} : Exec.Tidies (runSegments nf k d m base) :=
  .getState (fun _ _ =>
    .bind (elementsFrom_tidy (fun _ =>
      .getState
        (fun _ _ => ite_holds (.bind (atomically_tidy segmentLoad_tidy) (fun _ => putFields_tidy)) (ite_holds putFields_tidy .pure))))
      (fun _ => .bind (foldl_holds (fun _ h1 _ _ => .bind h1 (fun _ => zeroTail_tidy)) .pure) (fun _ => setVstart_tidy)))

theorem vldsegBody_tidy {f k : BitVec 3} {d a : BitVec 7} {m : BitVec 1} : Exec.Tidies (vldsegBody f k d a m) :=
  .bind checkSegment_tidy (fun _ => .getState (fun _ _ => .bind vecScalar_tidy (fun _ => unlessBeyond_tidy runSegments_tidy)))

theorem broadcastStep_tidy {one : Nat → Exec (Nat × Nat)} {d : Nat} {m : Bool} {e : Nat} (hone : ∀ a, Exec.Tidies (one a)) :
    Exec.Tidies (broadcastStep one d m e) := loadStep_tidy (fun _ => .bind (hone _) (fun _ => .bind modSaved_tidy (fun _ => .pure)))

theorem runBroadcast_tidy {k : Nat} {d : BitVec 7} {m : BitVec 1} {base : Word} : Exec.Tidies (runBroadcast k d m base) :=
  .getState (fun _ _ =>
    .whenBind pushStaged_tidy (fun _ =>
      .bind catchUp_tidy (fun _ =>
        .bind (elementsFrom_tidy (fun _ => broadcastStep_tidy (fun _ => loadField_tidy))) (fun _ =>
          .getState (fun _ _ =>
            ite_holds (ite_holds (.bind zeroTail_tidy (fun _ => setVstart_tidy))
              (.bind (modMe_tidy (fun _ h2 => writeTile_tidy h2)) (fun _ => .bind zeroTail_tidy (fun _ => setVstart_tidy))))
              (.bind pushRows_tidy (fun _ => setVstart_tidy)))))))

theorem vldbcBody_tidy {k : Nat} {d a : BitVec 7} {m : BitVec 1} : Exec.Tidies (vldbcBody k d a m) :=
  .getState (fun _ _ =>
    .bind coreOnly_tidy (fun _ =>
      .bind checkSrc_tidy (fun _ =>
        .bind checkTileDst_tidy
          (fun _ => .bind checkKind_tidy (fun _ => .bind vecScalar_tidy (fun _ => unlessBeyond_tidy (atElement_tidy runBroadcast_tidy)))))))

theorem storeBody_tidy {shared : Bool} {f : Form} {k : Nat} {d a b : BitVec 7} {m : BitVec 1} : Exec.Tidies (storeBody shared f k d a b m) :=
  .getState (fun _ _ =>
    .bind coreOnly_tidy (fun _ =>
      .bind checkSrc_tidy (fun _ =>
        .bind checkSecond_tidy (fun _ =>
          .bind checkTileSrc_tidy (fun _ =>
            .bind checkKind_tidy (fun _ =>
              .bind vecScalar_tidy (fun _ =>
                .bind readSecond_tidy (fun _ =>
                  .bind (atElement_tidy readTile_tidy) (fun _ =>
                    .bind (elementsFrom_tidy
                      (fun _ => .getState (fun _ _ => ite_holds (.bind (atomically_tidy storeField_tidy) (fun _ => raiseSaved_tidy)) .pure)))
                      (fun _ => setVstart_tidy))))))))))

theorem segmentStore_tidy {k : Nat} {c : Csr} {base nib nf e : Nat} {l : List Nat} {n : Nat} : Exec.Tidies (segmentStore k c base nib nf e l n) := by
  induction l generalizing n with
  | nil => exact .pure
  | cons _ _ ih => exact .bind storeField_tidy (fun _ => .bind ih (fun _ => .pure))

theorem vstsegBody_tidy {f k : BitVec 3} {d a : BitVec 7} {m : BitVec 1} : Exec.Tidies (vstsegBody f k d a m) :=
  .bind checkSegment_tidy (fun _ =>
    .getState (fun _ _ =>
      .bind vecScalar_tidy (fun _ =>
        .bind (elementsFrom_tidy
          (fun _ => .getState (fun _ _ => ite_holds (.bind (atomically_tidy segmentStore_tidy) (fun _ => raiseSaved_tidy)) .pure)))
          (fun _ => setVstart_tidy))))

theorem scatterOne_tidy {shared : Bool} {sz : Nat} {p : Place1} {rule x : Nat} : Exec.Tidies (scatterOne shared sz p rule x) :=
  .bind requireAligned_tidy (fun _ => .bind atomicMem_tidy (fun _ => .pure))

theorem scatterAll_tidy {one : Nat → Exec Nat} {l : List Nat} (hone : ∀ a, Exec.Tidies (one a)) : Exec.Tidies (scatterAll one l) := by
  induction l with
  | nil => exact .pure
  | cons _ _ ih => exact .bind (atomically_tidy (hone _)) (fun _ => .bind raiseSaved_tidy (fun _ => ih))

theorem scatterBody_tidy {shared ordered : Bool} {d a b : BitVec 7} {m : BitVec 1} : Exec.Tidies (scatterBody shared ordered d a b m) :=
  .getState (fun _ _ =>
    .bind coreOnly_tidy (fun _ =>
      .bind checkSrc_tidy (fun _ =>
        .bind checkTileSrc_tidy (fun _ =>
          .bind checkTileSrc_tidy (fun _ =>
            .bind checkFmt_tidy (fun _ =>
              .unlessBindBind drainedFirst_tidy (fun _ => checkDet_tidy) (fun _ =>
                .bind vecScalar_tidy (fun _ =>
                  .bind readIndices_tidy (fun _ =>
                    .bind (atElement_tidy readTile_tidy) (fun _ =>
                      .getState (fun _ _ =>
                        .bind (modState_tidy (fun _ h2 => State.spoilStrip_tidy (State.endStrip_tidy h2))) (fun _ =>
                          .getState (fun _ _ =>
                            ite_holds (.bind (elementsFrom_tidy (fun _ => ite_holds (.bind (atomically_tidy scatterOne_tidy) (fun _ => raiseSaved_tidy)) .pure))
                              (fun _ => setVstart_tidy)) (.bind nextFree_tidy (fun _ =>
                              .bind (modState_tidy (fun _ h3 => h3)) (fun _ =>
                                .bind (scatterAll_tidy (fun _ => scatterOne_tidy)) (fun _ => by
                                  split
                                  · exact setVstart_tidy
                                  · exact .bind setVstart_tidy (fun _ => .bind stopWith_tidy (fun _ => setVstart_tidy)))))))))))))))))))

/-! ### Copies -/

theorem copySide_tidy : Exec.Tidies (copySide) := .getState (fun _ _ => ite_holds illegalInstr_tidy .pure)

theorem acceptCopy_tidy {c : Copy} {h : Hart} (hh : h.tidy) : (acceptCopy c h).tidy := hh

theorem beforeCopy_tidy : Exec.Tidies (beforeCopy) := modState_tidy (fun _ h => State.spoilStrip_tidy (State.endStrip_tidy h))

theorem cpyBody_tidy {seg : Bool} {a : BitVec 7} : Exec.Tidies (cpyBody seg a) :=
  .bind copySide_tidy (fun _ =>
    .bind require_tidy (fun _ =>
      .getState (fun _ _ =>
        .bind require_tidy (fun _ => by
          dsimp only
          split
          · exact .bind spaceBound_tidy
                (fun _ => .whenBind stopWith_tidy (fun _ => .bind beforeCopy_tidy (fun _ => modMe_tidy (fun _ h1 => acceptCopy_tidy h1))))
          · exact .whenBind stopWith_tidy (fun _ => .bind beforeCopy_tidy (fun _ => modMe_tidy (fun _ h1 => acceptCopy_tidy h1)))))))

theorem batchOne_tidy {x : Context} {core : Nat} {tile : List VReg} {r : Hart × List (Nat × Bool) × Bool} {d : Nat}
    (hr : Both Hart.tidy Anything r) : Both Hart.tidy Anything (batchOne x core tile r d) := ⟨ite_holds (acceptCopy_tidy hr.1) hr.1, anything⟩

theorem cpybBody_tidy {p : BitVec 4} {a : BitVec 7} : Exec.Tidies (cpybBody p a) :=
  .bind copySide_tidy (fun _ =>
    .getState (fun _ _ =>
      .bind checkTileSrc_tidy (fun _ =>
        .bind require_tidy (fun _ =>
          .bind readTile_tidy (fun _ =>
            .bind beforeCopy_tidy (fun _ =>
              modState_tidy (fun _ h1 =>
                ⟨h1.mem, Hart.writeP_tidy (foldl_holds (fun _ h2 _ _ => batchOne_tidy h2) ⟨h1.me, anything⟩).1, h1.peer, h1.tan, h1.away,
                 h1.rel⟩)))))))

theorem cpywBody_tidy {n : BitVec 7} : Exec.Tidies (cpywBody n) :=
  .bind copySide_tidy (fun _ => .getState (fun _ _ => ite_holds stopWith_tidy .pure))

theorem cpyqBody_tidy {d : BitVec 7} : Exec.Tidies (cpyqBody d) :=
  .bind copySide_tidy (fun _ => .bind checkDst_tidy (fun _ => .getState (fun _ _ => writeS_tidy)))

theorem recordStops_tidy {s : State} {e : XlatErr} (h : s.Tidy) : (recordStops s e).Tidy := ite_holds h (faultContextAll_tidy h)

theorem enterRequest_tidy {s : State} {q : Nat × Nat × PeerOp} {port : Nat} (h : s.Tidy) : IfOk State.Tidy (enterRequest s q port) := by
  unfold enterRequest
  split
  · exact IfOk.ok h
  · exact enterRecord_tidy h
  · exact enterRecord_tidy h

theorem sendChunk_tidy {s : State} {key : Nat} {reqs : List (Nat × Nat × PeerOp)} (h : s.Tidy) : (sendChunk s key reqs).Tidy :=
  foldl_holds (fun _ h1 _ _ =>
    ite_holds h1 (by
      split
      · split
        · exact (sendRequest_tidy h1).1
        · split
          next e2 => exact (sendRequest_tidy ((enterRequest_tidy h1) _ e2)).1
          · exact recordStops_tidy h1
      · exact h1)) h

theorem enterRanges_tidy {l : List (Nat × Nat)} {s : State} (h : s.Tidy) : IfOk State.Tidy (enterRanges l s) := by
  induction l generalizing s with
  | nil => exact IfOk.ok h
  | cons _ _ ih =>
    unfold enterRanges
    split
    next e => exact ih ((enterRecord_tidy h) _ e)
    · exact IfOk.error

theorem putChunk_tidy {s : State} {c : Copy} {xs : List (Nat × Xlat)} {bs : List (Nat × Byte × Byte)} (h : s.Tidy) :
    IfOk State.Tidy (putChunk s c xs bs) := by
  refine ite_holds (IfOk.ok (foldl_holds (fun _ h1 _ _ => ⟨Mem.writeScratch_tidy h1.mem, h1.me, h1.peer, h1.tan, h1.away, h1.rel⟩) h)) ?_
  dsimp only
  split
  · exact IfOk.error
  next e =>
    have hs := enterRanges_tidy h _ e
    have host {c : Prop} [Decidable c] {u : State} {ws : List (Nat × Byte × Byte)} (hu : u.Tidy) :
        State.Tidy (if c then u else { u with mem := { u.mem with cells := writeCells u.mem.cells ws } }) :=
      ite_holds hu (hu.setMem (writeCells_wf _ _ hu.mem))
    exact IfOk.ok (host (ite_holds hs (hs.setMem (Mem.store_tidy hs.mem))))

theorem State.modCopy_tidy {s : State} {id : Nat} {f : Copy → Copy} (h : s.Tidy) : (s.modCopy id f).Tidy := h

theorem copyArrive_tidy {s : State} {c : Copy} {u : Nat} {reply : Option Nat} (h : s.Tidy) : IfOk State.Tidy (copyArrive s c u reply) := by
  have hbad (a : Nat) : IfOk State.Tidy (.ok (s.modCopy c.id (fun c => c.fail a)) : Except XlatErr State) := IfOk.ok (State.modCopy_tidy h)
  unfold copyArrive
  dsimp only
  split
  · exact IfOk.ok h
  · refine ite_holds (hbad _) (IfOk.ok (foldl_holds (fun _ h1 _ _ => ?_) h))
    exact h1.setMem (Mem.writeScratch_tidy h1.mem)
  · split
    · exact hbad _
    · refine ite_holds (hbad _) ?_
      split
      · split
        · apply IfOk.ok
          exact Both.fst (atomicDevice_tidy (markXlat_tidy h))
        · exact hbad _
      · split
        · exact hbad _
        · refine IfOk.map_of (enterRecord_tidy (State.hostSeen_tidy (markXlat_tidy h))) (fun _ h1 => ?_)
          exact h1.setMem (Mem.tidy.writeCells (Mem.publish_tidy h1.mem))
      · split
        · exact ite_holds (IfOk.ok (markXlat_tidy h)) (hbad _)
        · exact hbad _
      · exact hbad _

theorem syncImage_tidy {s : State} (h : s.Tidy) : (syncImage s).Tidy := by
  unfold syncImage
  split
  · exact writeImage_tidy h
  · exact h

theorem chunkStands_tidy {k : Nat} {ok : Bool} {flags : Nat} {c : Copy} {s : State} (h : s.Tidy) : (chunkStands k ok flags c s).Tidy :=
  State.modCopy_tidy h

theorem setMaskBits_tidy {bs : List (Nat × Nat)} {h : Hart} (hh : h.tidy) : (setMaskBits bs h).tidy :=
  foldl_holds (fun _ h1 _ _ => Hart.writeP_tidy h1) hh

theorem chunkDone_tidy {key k : Nat} {ok : Bool} {c : Copy} {s : State} (h : s.Tidy) : (chunkDone key k ok c s).Tidy := by
  unfold chunkDone
  dsimp only
  split
  · exact ite_holds h (ite_holds h (syncImage_tidy ⟨h.mem, setMaskBits_tidy h.me, h.peer, h.tan, h.away, h.rel⟩))
  · exact h

theorem chunkFinish_tidy {key k : Nat} {c : Copy} {s : State} (h : s.Tidy) : (chunkFinish key k c s).Tidy := by
  unfold chunkFinish
  dsimp only
  split
  · exact sendChunk_tidy (ite_holds h ⟨Mem.publish_tidy h.mem, h.me, h.peer, h.tan, h.away, h.rel⟩)
  · split
    next e1 => exact chunkDone_tidy ((copyArrive_tidy h) _ e1)
    · exact recordStops_tidy h

theorem chunkFault_tidy {s : State} {c : Copy} {a reason : Nat} {kind : AccessKind} (h : s.Tidy) : (chunkFault s c a reason kind).Tidy :=
  State.modCopy_tidy (postRecord_tidy h).1

theorem sourceSeen_tidy {xs : List (Nat × Xlat)} {s : State} (h : s.Tidy) : (sourceSeen xs s).Tidy := ite_holds h (State.hostSeen_tidy h)

theorem scatterFailed_tidy {s : State} {c : Copy} {key : Nat} {bytes : List Nat} {sx dx : List (Nat × Xlat)} (h : s.Tidy) :
    IfOk State.Tidy (scatterFailed s c key bytes sx dx) := IfOk.map_of (putChunk_tidy (sourceSeen_tidy h)) (fun _ h1 => h1)

theorem chunkPut_tidy {key k : Nat} {c : Copy} {vals : List (Nat × Byte × Byte × Nat)} {s : State} (h : s.Tidy) : (chunkPut key k c vals s).Tidy :=
  chunkFinish_tidy (chunkStands_tidy h)

theorem keepInOrder_tidy {key : Nat} {c : Copy} {l : List (List (Nat × Xlat))} {s : State} (h : s.Tidy) :
    Both State.Tidy Anything (keepInOrder key c l s) := by
  induction l generalizing s with
  | nil => exact ⟨h, anything⟩
  | cons _ _ ih =>
    unfold keepInOrder
    dsimp only
    split
    · split
      · exact ih (State.modCopy_tidy h)
      · exact ⟨sendChunk_tidy h, anything⟩
    · exact ih (State.modCopy_tidy (sourceSeen_tidy h))

theorem putInOrder_tidy {key : Nat} {c : Copy} {vals : List (Nat × Byte × Byte × Nat)} {l : List (List (Nat × Xlat))} {s : State}
    (h : s.Tidy) : Both State.Tidy Anything (putInOrder key c vals l s) := by
  induction l generalizing s with
  | nil => exact ⟨h, anything⟩
  | cons _ _ ih =>
    unfold putInOrder
    dsimp only
    split
    · exact ite_holds (ih (State.modCopy_tidy h)) ⟨sendChunk_tidy h, anything⟩
    · split
      next e1 => exact ih (State.modCopy_tidy ((putChunk_tidy h) _ e1))
      · exact ⟨recordStops_tidy h, anything⟩

theorem chunkOrdered_tidy {key k : Nat} {c : Copy} {bytes : List Nat} {sk dk : List (Nat × Xlat)} {s : State} (h : s.Tidy) :
    (chunkOrdered key k c bytes sk dk s).Tidy := by
  have hk := Both.fst (keepInOrder_tidy (key := key) (c := c) (l := runsOf (sk.filter (fun e => (lookup c.kept e.1).isNone))) h)
  refine ite_holds hk (ite_holds ?_ ?_)
  · split
    next e => exact chunkPut_tidy (IfOk.of e (putChunk_tidy hk))
    · exact recordStops_tidy hk
  · have put {q : State × Bool} {d : Copy} {vals : List (Nat × Byte × Byte × Nat)} (hq : q.1.Tidy) :
        State.Tidy (if q.2 then chunkPut key k d vals q.1 else q.1) := ite_holds (chunkPut_tidy hq) hq
    exact put (Both.fst (putInOrder_tidy hk))

theorem chunkData_tidy {key k : Nat} {c : Copy} {bytes : List Nat} {sk dk : List (Nat × Xlat)} {s : State} (h : s.Tidy) :
    (chunkData key k c bytes sk dk s).Tidy := by
  have hmark {kind : AccessKind} {xs : List (Nat × Xlat)} {s : State} (h : s.Tidy) : (xs.foldl (fun s e => markXlat s kind e.2) s).Tidy :=
    foldl_holds (fun _ h1 _ _ => markXlat_tidy h1) h
  refine ite_holds (chunkOrdered_tidy (hmark (hmark h))) ?_
  split
  · exact sendChunk_tidy (hmark (hmark h))
  · have hseen := sourceSeen_tidy (xs := sk) (hmark (kind := .copyWrite) (xs := dk) (hmark (kind := .copyRead) (xs := sk) h))
    dsimp only
    split
    · exact sendChunk_tidy hseen
    · split
      next e => exact chunkPut_tidy (IfOk.of e (putChunk_tidy hseen))
      · exact recordStops_tidy hseen

theorem chunkWritten_tidy {id k : Nat} {s : State} (h : s.Tidy) : (chunkWritten id k s).Tidy := by
  unfold chunkWritten
  split
  · exact h
  · refine ite_holds h (ite_holds h ?_)
    dsimp only
    split
    · exact faultContextAll_tidy h
    · exact h
    · exact ite_holds h (chunkFault_tidy h)
    · split
      · split
        next e => exact chunkDone_tidy (copyArrive_tidy h _ e)
        · exact recordStops_tidy h
      · split
        · exact recordStops_tidy h
        next e =>
          have ht := scatterFailed_tidy h _ e
          exact chunkFinish_tidy (chunkStands_tidy ht)
    · exact ite_holds (chunkFinish_tidy h) (chunkData_tidy h)

theorem execCopyChunkWritten_tidy {h c k : Nat} {s : State} (hs : s.Tidy) : Leaves (execCopyChunkWritten h c k s) :=
  Leaves.next (atHart_tidy (fun _ h1 => chunkWritten_tidy h1) hs)

theorem retireCopy_tidy {id : Nat} {s : State} (h : s.Tidy) : (retireCopy id s).Tidy := by
  unfold retireCopy
  split
  · exact h
  · have stopped {c : Prop} [Decidable c] {u : State} {ctx csn : Nat} {why : KernelStop} {discard : Nat → Bool} (hu : u.Tidy) :
        State.Tidy (if c then stopKernel u ctx csn why discard else u) := ite_holds (stopKernel_tidy hu) hu
    exact ite_holds h (stopped (syncImage_tidy ⟨ite_holds h.mem (Mem.pull_tidy h.mem), h.me, h.peer, h.tan, h.away, h.rel⟩))

theorem execCopyRetire_tidy {h c : Nat} {s : State} (hs : s.Tidy) : Leaves (execCopyRetire h c s) :=
  Leaves.next (atHart_tidy (fun _ h1 => retireCopy_tidy h1) hs)

theorem takeCopyError_tidy {s : State} (h : s.Tidy) : (takeCopyError s).Tidy := by
  unfold takeCopyError
  split
  · exact h
  · exact takeTrap_tidy h

theorem execCopyErrorTrap_tidy {h : Nat} {s : State} (hs : s.Tidy) : Leaves (execCopyErrorTrap h s) :=
  Leaves.next (atHart_tidy (fun _ h1 => ite_holds (takeCopyError_tidy h1) h1) hs)

/-! ### Fences -/

theorem fenceBody_tidy {kind sc : Nat} : Exec.Tidies (fenceBody kind sc) := by
  intro _ h
  unfold fenceBody
  dsimp only
  split <;> exact State.endStrip_tidy h

theorem execFenceAcq_tidy {sc : BitVec 7} {s : State} (h : s.Tidy) : Leaves (execFenceAcq sc s) := runKeep_tidy fenceBody_tidy h

theorem execFenceRel_tidy {sc : BitVec 7} {s : State} (h : s.Tidy) : Leaves (execFenceRel sc s) := runKeep_tidy fenceBody_tidy h

theorem execFenceAr_tidy {sc : BitVec 7} {s : State} (h : s.Tidy) : Leaves (execFenceAr sc s) := runKeep_tidy fenceBody_tidy h

theorem execFenceSc_tidy {sc : BitVec 7} {s : State} (h : s.Tidy) : Leaves (execFenceSc sc s) := runKeep_tidy fenceBody_tidy h

theorem execFenceIo_tidy {sc : BitVec 7} {s : State} (h : s.Tidy) : Leaves (execFenceIo sc s) := runKeep_tidy fenceBody_tidy h

theorem execFenceEng_tidy {sc : BitVec 7} {s : State} (h : s.Tidy) : Leaves (execFenceEng sc s) := runKeep_tidy fenceBody_tidy h

/-! ### Fetch -/

theorem fetchAt_tidy {a : Nat} : Exec.Tidies (fetchAt a) :=
  .bind requireAligned_tidy (fun _ =>
    .bind resolve_tidy
      (fun _ => .bind beforeDev_tidy (fun _ => .bind checkErrors_tidy (fun _ => .bind readRuns_tidy (fun _ => .getState (fun _ _ => .pure))))))

/-! ### Matrix work -/

theorem Tandem.setWord_tidy {t : Tandem} {j w x : Nat} (ht : t.tidy) : (t.setWord j w x).tidy := sparseWf_set _ _ _ _ ht

theorem Tandem.setExact_tidy {t : Tandem} {j k : Nat} {x : Int} (ht : t.tidy) : (t.setExact j k x).tidy :=
  foldl_holds (fun _ h _ _ => Tandem.setWord_tidy h) ht

theorem matrixRow_tidy {p : Posted} {as bs : List Nat} {free i : Nat} {t : Tandem} (ht : t.tidy) :
    Both Tandem.tidy Anything (matrixRow p as bs free i t) :=
  foldl_holds (fun _ h _ _ => ite_holds ⟨Tandem.setExact_tidy h.1, anything⟩ ⟨Tandem.setWord_tidy h.1, anything⟩) ⟨ht, anything⟩

theorem sampleTandem_tidy {s : State} {x : Away} (hx : x.tidy) : (sampleTandem s x).tidy := ite_holds hx hx

theorem sampleSources_tidy {s : State} (h : s.Tidy) : (sampleSources s).Tidy := mapTandems_tidy (fun _ _ h1 h2 => ⟨h1, sampleTandem_tidy h2⟩) h

theorem performRows_tidy {s : State} {x : Away} {i upTo : Nat} (h : s.Tidy) (hx : x.tidy) : Both State.Tidy Away.tidy (performRows s x i upTo) := by
  unfold performRows
  split
  · exact ⟨h, hx⟩
  · refine ⟨h, hx.e, hx.a, ?_⟩
    show Tandem.tidy (List.foldl _ (x.t, _) _).1
    refine Both.fst (foldl_holds (P := Both Tandem.tidy Anything) (fun r hr i _ => ?_) ⟨hx.t, anything⟩)
    obtain ⟨t, flags, spill⟩ := r
    dsimp only
    exact ⟨(matrixRow_tidy (t := t) hr.1).1, anything⟩

theorem completePosted_tidy {s : State} {x : Away} {i : Nat} (h : s.Tidy) (hx : x.tidy) : Both State.Tidy Away.tidy (completePosted s x i) := by
  obtain ⟨hs, hy⟩ := performRows_tidy (i := i) (upTo := 128) h hx
  unfold completePosted
  split
  · exact ⟨h, hx⟩
  · dsimp only
    split
    · exact ⟨h, hx⟩
    · split
      · exact ⟨writeImage_tidy hs, Hart.raise_tidy hy.e, hy.a, hy.t⟩
      · exact ⟨hs, Hart.raise_tidy hy.e, hy.a, hy.t⟩

theorem engineSide_tidy : Exec.Tidies (engineSide) := .getState (fun _ _ => ite_holds illegalInstr_tidy .pure)

theorem checkTile_tidy {j : Nat} : Exec.Tidies (checkTile j) := .getState (fun _ _ => require_tidy)

theorem checkOperand_tidy {pair : Bool} {n rows : Nat} {d : Desc} : Exec.Tidies (checkOperand pair n rows d) :=
  .getState (fun _ _ => ite_holds require_tidy (.bind checkTileSrc_tidy (fun _ => require_tidy)))

theorem checkScratch_tidy {pair : Bool} {n rows : Nat} {d : Desc} : Exec.Tidies (checkScratch pair n rows d) :=
  .getState (fun _ _ =>
    ite_holds (by
      split
      · exact spaceBound_tidy
      · exact .pure) .pure)

theorem soundScratch_tidy {d : Desc} {o p rows : Nat} : Exec.Tidies (soundScratch d o p rows) := by
  intro _ h
  unfold soundScratch
  dsimp only
  split <;> exact h

theorem captureOperand_tidy {pair : Bool} {n rows : Nat} {d : Desc} : Exec.Tidies (captureOperand pair n rows d) :=
  .getState (fun _ _ =>
    ite_holds (.bind soundScratch_tidy (fun _ => .bind (modState_tidy (fun _ h1 => h1)) (fun _ => .pure)))
      (.bind readTile_tidy (fun _ => .pure)))

theorem mmaBody_tidy {op : Nat} {z : BitVec 4} {a b : BitVec 7} {sel : BitVec 2} : Exec.Tidies (mmaBody op z a b sel) :=
  .bind engineSide_tidy (fun _ =>
    .bind (modState_tidy (fun _ h => State.seeTds_tidy h)) (fun _ =>
      .getState (fun _ _ =>
        .bind checkTile_tidy (fun _ =>
          .bind require_tidy (fun _ =>
            .bind checkOperand_tidy (fun _ =>
              .bind checkOperand_tidy (fun _ =>
                .bind require_tidy (fun _ =>
                  .bind drainedFirst_tidy (fun _ =>
                    .whenBind detViolation_tidy (fun _ =>
                      .bind checkScratch_tidy (fun _ =>
                        .bind checkScratch_tidy (fun _ =>
                          .whenBind stopWith_tidy
                            (fun _ => .bind captureOperand_tidy (fun _ => .bind captureOperand_tidy (fun _ => modState_tidy (fun _ h1 => State.spoilStrip_tidy h1))))))))))))))))

/-! ### Slots, tile stores and the saving of tandems -/

theorem State.modCtx_tidy {s : State} {n : Nat} {f : Context → Context} (h : s.Tidy) : (s.modCtx n f).Tidy := h

theorem bindContext_tidy {s : State} {n : Nat} (h : s.Tidy) : (bindContext s n).Tidy := by
  unfold bindContext
  split
  · exact h
  · dsimp only
    split
    · exact ite_holds h (by
          split <;> exact h)
    · exact ite_holds h (by
          split <;> exact h)
    · exact ite_holds h (by
          split <;> exact h)
    · exact h

theorem settleBinds_tidy {s : State} (h : s.Tidy) : (settleBinds s).Tidy := foldl_holds (fun _ h1 _ _ => ite_holds (bindContext_tidy h1) h1) h

theorem rebind_tidy {p : Context → Bool} {s : State} (h : s.Tidy) : (rebind p s).Tidy := foldl_holds (fun _ h1 _ _ => bindContext_tidy h1) h

theorem stopMatrix_tidy {n n1 : Nat} {s : State} {y : Away} (h : s.Tidy) (hy : y.tidy) : Both State.Tidy Away.tidy (stopMatrix n n1 s y) := by
  induction n generalizing n1 s y with
  | zero => exact ⟨h, hy⟩
  | succ _ ih => exact ih (Both.fst (performRows_tidy h hy)) (Both.snd (performRows_tidy h hy))

theorem saveArea_tidy {s : State} {t : Tandem} (h : s.Tidy) (ht : t.tidy) : IfOk (Both State.Tidy Tandem.tidy) (saveArea s t) := by
  unfold saveArea
  split
  · exact IfOk.ok ⟨h, ht⟩
  · exact ite_holds (IfOk.ok ⟨h, ht⟩)
        (IfOk.map (fun _ => ⟨(markPages_tidy h).setMem (replacePages_tidy (settledAt_tidy (markPages_tidy h).mem)), ht⟩))

theorem spoilWork_tidy {n : Nat} {t : Tandem} (ht : t.tidy) : (spoilWork n t).tidy :=
  foldl_holds (fun _ h _ _ => foldl_holds (fun _ h2 _ _ => Tandem.setWord_tidy h2) h) ht

theorem takeArea_tidy {s : State} {t : Tandem} (h : s.Tidy) : IfOk (Both State.Tidy Anything) (takeArea s t) := by
  unfold takeArea
  split
  · exact IfOk.ok ⟨h, anything⟩
  · exact ite_holds (IfOk.ok ⟨h, anything⟩) (IfOk.map (fun _ => ⟨markPages_tidy h, anything⟩))

theorem saveWork_tidy {s : State} {x : Away} (h : s.Tidy) (hx : x.tidy) : IfOk (Both State.Tidy Away.tidy) (saveWork s x) := by
  obtain ⟨hs, hy⟩ := stopMatrix_tidy (n := x.t.matrix.length) (n1 := 0) h hx
  refine ite_holds (IfOk.ok ⟨h, hx⟩) ?_
  dsimp only
  split
  next e _ =>
    obtain ⟨ha, ht⟩ := saveArea_tidy hs hy.t _ e
    split
    next e2 =>
      obtain ⟨hq, hz⟩ := saveTiles_tidy ha ht _ e2
      exact IfOk.ok ⟨hq, hy.e, hy.a, hz⟩
    · exact IfOk.error
  · exact IfOk.error
  · exact IfOk.error
  · exact IfOk.error

theorem restoreWork_tidy {s : State} {t : Tandem} (h : s.Tidy) (ht : t.tidy) : IfOk (Both State.Tidy Tandem.tidy) (restoreWork s t) :=
  ite_holds (IfOk.ok ⟨h, ht⟩) (by
    split
    · exact IfOk.error
    next e =>
      split
      · exact IfOk.error
      next e1 =>
        exact ite_holds (IfOk.ok ⟨((restoreTiles_tidy ((takeArea_tidy h) _ e).1 ht) _ e1).1,
           spoilWork_tidy ((restoreTiles_tidy ((takeArea_tidy h) _ e).1 ht) _ e1).2⟩)
            (IfOk.ok ⟨((restoreTiles_tidy ((takeArea_tidy h) _ e).1 ht) _ e1).1, ((restoreTiles_tidy ((takeArea_tidy h) _ e).1 ht) _ e1).2⟩))

theorem failArea_tidy {s : State} {t : Tandem} {a : Nat} (h : s.Tidy) : (failArea s t a).Tidy := stopKernel_tidy h

theorem State.putTandem_tidy {s : State} {x : Away} (h : s.Tidy) (hx : x.tidy) : (s.putTandem x).Tidy :=
  mapTandems_tidy (fun _ _ h1 _ => ⟨h1, hx⟩) h

theorem saveTandem_tidy {u : Nat} {s : State} (h : s.Tidy) : Both State.Tidy Anything (saveTandem u s) := by
  unfold saveTandem
  split
  · exact ⟨h, anything⟩
  next e =>
    split
    next e1 =>
      exact ⟨State.putTandem_tidy ((saveWork_tidy h ((State.tandem?_tidy h) _ e)) _ e1).1
           ((saveWork_tidy h ((State.tandem?_tidy h) _ e)) _ e1).2, anything⟩
    · exact ⟨h, anything⟩
    · exact ⟨failArea_tidy h, anything⟩

theorem saveAll_tidy {p : Tandem → Bool} {s : State} (h : s.Tidy) : (saveAll p s).Tidy := foldl_holds (fun _ h1 _ _ => (saveTandem_tidy h1).1) h

theorem makeTileRoom_tidy {core u z n : Nat} {l : List Nat} {s : State} (h : s.Tidy) : (makeTileRoom core u z n l s).Tidy := by
  induction n generalizing l s with
  | zero => exact h
  | succ _ ih =>
    exact ite_holds h (by
        split
        · exact ih (saveTandem_tidy h).1
        · exact h)

theorem makeRoomFor_tidy {t : Tandem} {core slot : Nat} {s : State} (h : s.Tidy) : (makeRoomFor t core slot s).Tidy :=
  makeTileRoom_tidy (saveAll_tidy h)

theorem settleStarting_tidy {s : State} {ctx csn die : Nat} (h : s.Tidy) : (settleStarting s ctx csn die).Tidy := by
  unfold settleStarting
  split
  · exact h
  · exact ite_holds (writeKernel_tidy (State.modKernel_tidy h)) h

theorem placeTandem_tidy {core slot : Nat} {s : State} {x : Away} (h : s.Tidy) (hx : x.tidy) :
    IfOk (Both State.Tidy Away.tidy) (placeTandem core slot s x) := by
  unfold placeTandem
  dsimp only
  split
  · exact IfOk.error
  next e =>
    obtain ⟨hs, hy⟩ := IfOk.of e (ite_holds (saveWork_tidy h hx) (IfOk.ok ⟨h, hx⟩))
    split
    · exact IfOk.error
    next e1 =>
      obtain ⟨hr, ht⟩ := IfOk.of e1 (restoreWork_tidy hs hy.t)
      exact IfOk.ok ⟨hr.setMem (ite_holds (Mem.pull_tidy hr.mem) hr.mem), hy.e, hy.a, ht⟩

theorem placeOpen_tidy {x : Away} {c : Context} {core slot : Nat} {s : State} (h : s.Tidy) : (placeOpen x c core slot s).Tidy := by
  have hr := makeRoomFor_tidy (t := x.t) (core := core) (slot := slot) h
  unfold placeOpen
  split
  · exact h
  · exact failArea_tidy h
  · dsimp only
    split
    · exact hr
    next e1 =>
      refine ite_holds hr ?_
      split
      · exact hr
      · exact failArea_tidy hr
      next e2 =>
        obtain ⟨hs, hy⟩ := placeTandem_tidy hr (State.tandem?_tidy hr _ e1) _ e2
        exact settleStarting_tidy (State.modCtx_tidy (State.putTandem_tidy hs hy))

theorem dispatchTandem_tidy {u core slot : Nat} {s : State} (h : s.Tidy) : (dispatchTandem u core slot s).Tidy := by
  unfold dispatchTandem
  split
  · exact h
  · exact ite_holds (rebind_tidy h) (by
        split
        · exact rebind_tidy h
        · exact ite_holds (placeOpen_tidy (rebind_tidy h)) (rebind_tidy h))

theorem execTandemDispatch_tidy {t core slot : Nat} {s : State} (h : s.Tidy) : Leaves (execTandemDispatch t core slot s) :=
  Leaves.next (dispatchTandem_tidy h)

/-! ### Traps, windows and CSRs -/

theorem trapAfter_tidy {code : Nat} {s : State} (h : s.Tidy) : (trapAfter code s).Tidy := takeTrap_tidy (retire_tidy (State.spoilStrip_tidy h))

theorem execSysc_tidy {w : BitVec 7} {s : State} (h : s.Tidy) : Leaves (execSysc w s) := Leaves.next (trapAfter_tidy h)

theorem execBrk_tidy {w : BitVec 7} {s : State} (h : s.Tidy) : Leaves (execBrk w s) := Leaves.next (trapAfter_tidy h)

theorem execTret_tidy {s : State} (h : s.Tidy) : Leaves (execTret s) :=
  ite_holds (Leaves.next (returnFromTrap_tidy (retire_tidy h))) (Leaves.next (takeTrap_tidy h))

theorem wbaseBody_tidy {c k : Nat} : Exec.Tidies (wbaseBody c k) :=
  .getState (fun _ _ => ite_holds illegalInstr_tidy (modMe_tidy (fun _ h1 => ite_holds h1 h1)))

theorem execPause_tidy {s : State} (h : s.Tidy) : Leaves (execPause s) := runScalar_tidy (modState_tidy (fun _ h1 => h1)) h

theorem writeCsr_tidy {n : Nat} {v : Word} {s : State} (h : s.Tidy) : (writeCsr n v s).Tidy := by
  unfold writeCsr
  dsimp only
  split
  · exact h
  · exact ite_holds h h
  · exact h

theorem refreshEnergy_tidy {n : Nat} : Exec.Tidies (refreshEnergy n) :=
  ite_holds (.bind nextFree_tidy (fun _ => modState_tidy (fun _ h => h))) .pure

theorem csrReadBody_tidy {d : BitVec 5} {n : Nat} : Exec.Tidies (csrReadBody d n) :=
  .getState (fun _ _ =>
    ite_holds illegalInstr_tidy
      (.bind refreshEnergy_tidy (fun _ => .getState (fun _ _ => modMe_tidy (fun _ h2 => Hart.writeS_tidy h2)))))

theorem csrWriteBody_tidy {f : Word → Word → Word} {d : BitVec 5} {a : BitVec 7} {n : Nat} : Exec.Tidies (csrWriteBody f d a n) :=
  .getState (fun _ _ =>
    ite_holds illegalInstr_tidy (.bind checkSrc_tidy (fun _ =>
      .bind readS_tidy (fun _ =>
        ite_holds illegalInstr_tidy
          (.bind (modState_tidy (fun _ h1 => writeCsr_tidy h1)) (fun _ => modMe_tidy (fun _ h1 => Hart.writeS_tidy h1)))))))

/-! ### Events of a core -/

theorem nextOr_tidy {s : State} {o : Host.Outcome State Fault Refusal} (h : s.Tidy) (ho : Leaves o) : (nextOr s o).Tidy := by
  unfold nextOr
  split
  · exact ho _ rfl
  · exact h

theorem execFenceRetire_tidy {h : Nat} {s : State} (hs : s.Tidy) : Leaves (execFenceRetire h s) :=
  Leaves.next (atHart_tidy (fun _ h1 => ite_holds h1 (ite_holds (nextOr_tidy h1 (runKeep_tidy fenceBody_tidy h1)) h1)) hs)

theorem execQueueStallEnd_tidy {h : Nat} {s : State} (hs : s.Tidy) : Leaves (execQueueStallEnd h s) :=
  Leaves.next (atHart_tidy (fun _ h1 => ite_holds h1 h1) hs)

theorem settleDraining_tidy {t : Tandem} (ht : t.tidy) : (settleDraining t).tidy := by
  unfold settleDraining
  split
  · exact ite_holds ht ht
  · exact ht

theorem completeSaved_tidy {s : State} {x : Away} {i : Nat} (h : s.Tidy) (hx : x.tidy) : Both State.Tidy Away.tidy (completeSaved s x i) := by
  unfold completeSaved
  split
  · exact ⟨h, hx⟩
  · exact ⟨h, hx⟩
  next s1 t1 e =>
    obtain ⟨hs, ht⟩ := restoreWork_tidy h hx.t _ e
    obtain ⟨hr, hy⟩ := completePosted_tidy (s := s1) (x := { x with t := t1 }) (i := i) hs ⟨hx.e, hx.a, ht⟩
    dsimp only
    split
    next e1 => exact saveWork_tidy hr hy _ e1
    · exact ⟨h, hx⟩
    · exact ⟨hr, hy⟩

theorem execMatrixComplete_tidy {t i : Nat} {s : State} (h : s.Tidy) : Leaves (execMatrixComplete t i s) :=
  have drained {r : State × Away} (hr : Both State.Tidy Away.tidy r) : Both State.Tidy Away.tidy (r.1, { r.2 with t := settleDraining r.2.t }) :=
    ⟨hr.1, hr.2.e, hr.2.a, settleDraining_tidy hr.2.t⟩
  Leaves.next (mapTandems_tidy (fun _ _ h1 h2 =>
    ite_holds ⟨h1, h2⟩ (ite_holds (drained (completeSaved_tidy h1 h2)) (drained (completePosted_tidy h1 h2)))) h)

theorem execStripBufferDrain_tidy {h k : Nat} {s : State} (hs : s.Tidy) : Leaves (execStripBufferDrain h k s) :=
  Leaves.next (atHart_tidy (fun _ h1 => by
    split
    · exact h1
    · exact ite_holds h1 (failPosted_tidy (settleCidx_tidy (addOutstanding_tidy (performOne_tidy h1).1)))) hs)

theorem execStripTimeout_tidy {h : Nat} {s : State} (hs : s.Tidy) : Leaves (execStripTimeout h s) :=
  Leaves.next
    (atHart_tidy (fun _ h1 => ite_holds (failPosted_tidy (settleCidx_tidy (State.spoilStrip_tidy (State.endStrip_tidy h1)))) h1) hs)

theorem execWriteApply_tidy {die k : Nat} {s : State} (h : s.Tidy) : Leaves (execWriteApply die k s) :=
  Leaves.next (ite_holds ⟨Mem.apply_tidy h.mem, h.me, h.peer, h.tan, h.away, h.rel⟩ h)

theorem execPreempt_tidy {t : Nat} {s : State} (h : s.Tidy) : Leaves (execPreempt t s) :=
  Leaves.next (mapTandems_tidy (fun _ _ h1 h2 => leaveSlot_tidy h1 h2) h)

theorem execProgressExpiry_tidy {h : Nat} {s : State} (hs : s.Tidy) : Leaves (execProgressExpiry h s) :=
  Leaves.next
    (atHart_tidy (fun _ h1 => ite_holds (takeTrap_tidy ⟨h1.mem, ite_holds h1.me h1.me, h1.peer, h1.tan, h1.away, h1.rel⟩) h1) hs)

theorem execIllegalInstruction_tidy {w : BitVec 32} {s : State} (h : s.Tidy) : Leaves (execIllegalInstruction w s) :=
  Leaves.next (takeTrap_tidy h)

theorem deliverReply_tidy {tag : Nat} {data : List Byte} {s : State} (h : s.Tidy) : (deliverReply tag data s).Tidy := by
  unfold deliverReply
  split
  · exact h
  · exact ite_holds h (atHart_tidy (fun _ h1 => h1) h)

theorem execMemoryReply_tidy {tag : Nat} {data : List Byte} {s : State} (h : s.Tidy) : Leaves (execMemoryReply tag data s) :=
  Leaves.next (by
    split
    · exact h
    · split
      · exact ite_holds (ite_holds h h) (deliverReply_tidy h)
      · exact deliverReply_tidy h)

theorem stopTrial_tidy {err : Bool} {h : Hart} (hh : h.tidy) : (stopTrial err h).tidy := hh

theorem trialStores_tidy {a : Nat} {l : List Nat} : Exec.Tidies (trialStores a l) := by
  induction l generalizing a with
  | nil => exact .pure
  | cons _ _ ih => exact .bind storeBytes_tidy (fun _ => ih)

theorem endTrial_tidy {s : State} (h : s.Tidy) : (endTrial s).Tidy := by
  unfold endTrial
  dsimp only
  split
  next e => exact (Exec.Tidies.after e trialStores_tidy h).setMe (stopTrial_tidy (Exec.Tidies.after e trialStores_tidy h).me)
  · exact takePageFault_tidy h
  · exact waitHere_tidy h
  · exact freezeCluster_tidy h
  · exact ⟨h.mem, stopTrial_tidy h.me, h.peer, h.tan, h.away, h.rel⟩

theorem execTrialEnd_tidy {h : Nat} {s : State} (hs : s.Tidy) : Leaves (execTrialEnd h s) :=
  Leaves.next (atHart_tidy (fun _ h1 => ite_holds (endTrial_tidy h1) h1) hs)

/-! ### Launch queues -/

theorem State.modQueue_tidy {s : State} {n : Nat} {f : Queue → Queue} (h : s.Tidy) : (s.modQueue n f).Tidy := h

theorem saveQueue_tidy {s : State} {n : Nat} (h : s.Tidy) : (saveQueue s n).Tidy := by
  unfold saveQueue
  split
  · exact h
  · split
    · exact h
    · exact ite_holds h (thoudWrite_tidy h)

theorem changeQueue_tidy {s : State} {n : Nat} {f : Queue → Queue} (h : s.Tidy) : (changeQueue s n f).Tidy :=
  saveQueue_tidy (State.modQueue_tidy h)

theorem switchIn_tidy {s : State} {n : Nat} (h : s.Tidy) : (switchIn s n).Tidy := by
  unfold switchIn
  split
  · exact blockSeen_tidy h
  · exact h

theorem settleTt_tidy {s : State} (h : s.Tidy) : (settleTt s).Tidy := foldl_holds (fun _ h1 _ _ => switchIn_tidy h1) h

theorem readBack_tidy {s : State} {n : Nat} (h : s.Tidy) : (readBack s n).Tidy := by
  unfold readBack
  split
  · exact ite_holds (blockSeen_tidy h) h
  · exact h

theorem execQtailWrite_tidy {q : Nat} {v : Word} {s : State} (h : s.Tidy) : Leaves (execQtailWrite q v s) :=
  Leaves.next (settleTt_tidy (changeQueue_tidy (readBack_tidy h)))

theorem execEnable_tidy {q : Nat} {s : State} (h : s.Tidy) : Leaves (execEnable q s) :=
  Leaves.next (settleTt_tidy (changeQueue_tidy (readBack_tidy h)))

theorem execDisable_tidy {q : Nat} {s : State} (h : s.Tidy) : Leaves (execDisable q s) := Leaves.next (changeQueue_tidy h)

theorem execClrfault_tidy {q : Nat} {s : State} (h : s.Tidy) : Leaves (execClrfault q s) := Leaves.next (settleTt_tidy (changeQueue_tidy h))

theorem execQueueCreate_tidy {q block x : Nat} {s : State} (h : s.Tidy) : Leaves (execQueueCreate q block x s) :=
  Leaves.next (by
    split
    · exact h
    · exact ite_holds h (by
          dsimp only
          split
          · exact saveQueue_tidy (sysSeen_tidy h)
          · exact h))

theorem switchOut_tidy {s : State} {n : Nat} (h : s.Tidy) : (switchOut s n).Tidy := changeQueue_tidy h

theorem execQueueSwitchIn_tidy {s : State} (h : s.Tidy) : Leaves (execQueueSwitchIn s) :=
  Leaves.next (by
    dsimp only
    split
    · exact settleTt_tidy (rebind_tidy h)
    · exact ite_holds (switchIn_tidy (settleTt_tidy (rebind_tidy h))) (by
          split
          · exact switchIn_tidy (switchOut_tidy (settleTt_tidy (rebind_tidy h)))
          · exact settleTt_tidy (rebind_tidy h)))

theorem execQueueAging_tidy {q : Nat} {s : State} (h : s.Tidy) : Leaves (execQueueAging q s) := Leaves.next (changeQueue_tidy h)

theorem queuePageFault_tidy {s : State} {q : Queue} {reason : Nat} {a : Word} (h : s.Tidy) : (queuePageFault s q reason a).Tidy :=
  State.modQueue_tidy (Both.fst (postRecord_tidy h))

theorem thoudRun_tidy {s : State} {run : List (Nat × Xlat)} (h : s.Tidy) : Both State.Tidy Anything (thoudRun s run) := by
  unfold thoudRun
  split
  · exact ⟨h, anything⟩
  · exact ite_holds ⟨h, anything⟩ (ite_holds ⟨h, anything⟩ (by
        split
        · exact ⟨h, anything⟩
        · exact ⟨doorbellSeen_tidy h, anything⟩
        · exact ite_holds ⟨State.hostSeen_tidy h, anything⟩ ⟨h, anything⟩
        · split
          · split
            · exact ⟨h, anything⟩
            · exact ite_holds ⟨h, anything⟩ ⟨h, anything⟩
          · split
            · exact ⟨(sendRequest_tidy h).1, anything⟩
            · exact ⟨h, anything⟩
        · exact ⟨h, anything⟩))

theorem thoudRuns_tidy {s : State} {l : List (List (Nat × Xlat))} (h : s.Tidy) : Both State.Tidy Anything (thoudRuns s l) := by
  induction l generalizing s with
  | nil => exact ⟨h, anything⟩
  | cons _ _ ih =>
    unfold thoudRuns
    split
    next e =>
      split
      next e1 => exact ⟨Both.fst_of e1 (ih (Both.fst_of e (thoudRun_tidy h))), anything⟩
      · exact ih (Both.fst_of e (thoudRun_tidy h))
    · exact thoudRun_tidy h

theorem schedRead_tidy {s : State} {q : Queue} {a n : Nat} (h : s.Tidy) : Both State.Tidy Anything (schedRead s q a n) := by
  unfold schedRead
  split
  · exact ⟨h, anything⟩
  · split
    · exact ⟨h, anything⟩
    · exact ite_holds ⟨h, anything⟩ ⟨queuePageFault_tidy h, anything⟩
    · exact ⟨h, anything⟩
    · exact ⟨h, anything⟩
    · exact ⟨faultContextAll_tidy h, anything⟩
    next xs _ =>
      have hm : State.Tidy (xs.foldl (fun s x => markXlat s .load x) s) := foldl_holds (fun _ h1 _ _ => markXlat_tidy h1) h
      refine ite_holds ?_ ⟨h, anything⟩
      dsimp only
      split
      next e2 => exact ⟨Both.fst_of e2 (thoudRuns_tidy hm), anything⟩
      next e2 => exact ⟨Both.fst_of e2 (thoudRuns_tidy hm), anything⟩
      next e2 => exact ⟨Both.fst_of e2 (thoudRuns_tidy hm), anything⟩

theorem readHead_tidy {s : State} {q : Queue} (h : s.Tidy) : Both State.Tidy Anything (readHead s q) := by
  unfold readHead
  split
  · exact ⟨h, anything⟩
  · split
    next e1 => exact ⟨State.modQueue_tidy (Both.fst_of e1 (schedRead_tidy h)), anything⟩
    next e1 => exact ⟨Both.fst_of e1 (schedRead_tidy h), anything⟩
    next e1 => exact ⟨Both.fst_of e1 (schedRead_tidy h), anything⟩

theorem waitMet_tidy {s : State} {q : Queue} {p : Packet} (h : s.Tidy) : Both State.Tidy Anything (waitMet s q p) :=
  ite_holds ⟨h, anything⟩ (by
    split
    next e => exact ite_holds ⟨Both.fst_of e (schedRead_tidy h), anything⟩ ⟨Both.fst_of e (schedRead_tidy h), anything⟩
    next e => exact ⟨Both.fst_of e (schedRead_tidy h), anything⟩
    next e => exact ⟨Both.fst_of e (schedRead_tidy h), anything⟩)

theorem testHead_tidy {s : State} {q : Queue} (h : s.Tidy) : Both State.Tidy Anything (testHead s q) := by
  unfold testHead
  split
  next e => exact ⟨Both.fst_of e (readHead_tidy h), anything⟩
  next e =>
    split
    · exact ⟨Both.fst_of e (readHead_tidy h), anything⟩
    · split
      next e2 => exact ⟨Both.fst_of e2 (waitMet_tidy (Both.fst_of e (readHead_tidy h))), anything⟩
      next e2 =>
        exact ite_holds ⟨Both.fst_of e2 (waitMet_tidy (Both.fst_of e (readHead_tidy h))), anything⟩
            ⟨Both.fst_of e2 (waitMet_tidy (Both.fst_of e (readHead_tidy h))), anything⟩

theorem examineHead_tidy {s : State} {q : Queue} (h : s.Tidy) : Both State.Tidy Anything (examineHead s q) := by
  unfold examineHead
  split
  next e => exact ⟨Both.fst_of e (testHead_tidy h), anything⟩
  next e =>
    split
    next e1 => exact ⟨Both.fst_of e1 (schedRead_tidy (Both.fst_of e (testHead_tidy h))), anything⟩
    next e1 => exact ⟨Both.fst_of e1 (schedRead_tidy (Both.fst_of e (testHead_tidy h))), anything⟩
    next e1 => exact ⟨Both.fst_of e1 (schedRead_tidy (Both.fst_of e (testHead_tidy h))), anything⟩

theorem startKernel_tidy {s : State} {q : Queue} {p : Packet} {args : List Word} {row : Option Nat} (h : s.Tidy) :
    (startKernel s q p args row).Tidy := by
  unfold startKernel
  split
  · exact h
  · exact addTandems_tidy (writeKernel_tidy (State.modCtx_tidy h)) (AllTidy.map (fun _ _ => newTandem_tidy))

theorem takePacket_tidy {s : State} {q : Queue} {p : Packet} {args : List Word} {row : Option Nat} (h : s.Tidy) :
    (takePacket s q p args row).Tidy := changeQueue_tidy (startKernel_tidy h)

theorem tryTake_tidy {s : State} {q : Queue} {row : Option Nat} (h : s.Tidy) : Both State.Tidy Anything (tryTake s q row) :=
  ite_holds (by
    split
    next e => exact ⟨takePacket_tidy (Both.fst_of e (examineHead_tidy h)), anything⟩
    next e => exact ⟨State.modQueue_tidy (Both.fst_of e (examineHead_tidy h)), anything⟩
    next e => exact ⟨Both.fst_of e (examineHead_tidy h), anything⟩
    next e => exact ⟨changeQueue_tidy (Both.fst_of e (examineHead_tidy h)), anything⟩)
    ⟨h, anything⟩

theorem takeFirst_tidy {n : Nat} {l : List Queue} {s : State} (h : s.Tidy) : (takeFirst n l s).Tidy := by
  induction n generalizing l s with
  | zero => exact h
  | succ _ ih =>
    unfold takeFirst
    split
    · exact h
    · split
      next e1 => exact Both.fst_of e1 (tryTake_tidy h)
      next e1 => exact ih (Both.fst_of e1 (tryTake_tidy h))

theorem execPacketTake_tidy {s : State} (h : s.Tidy) : Leaves (execPacketTake s) := Leaves.next (takeFirst_tidy h)

theorem retest_tidy {s : State} {q : Queue} (h : s.Tidy) : (retest s q).Tidy := by
  unfold retest
  split
  · exact ite_holds h (by
        split
        next e1 => exact State.modQueue_tidy (Both.fst_of e1 (testHead_tidy h))
        next e1 => exact changeQueue_tidy (Both.fst_of e1 (testHead_tidy h))
        next e1 => exact Both.fst_of e1 (testHead_tidy h))
  · exact h

theorem retestAll_tidy {p : Queue → Bool} {s : State} (h : s.Tidy) : (retestAll p s).Tidy := foldl_holds (fun _ h1 _ _ => retest_tidy h1) h

theorem resumeParked_tidy {n : Nat} {l : List Tandem} {s : State} (h : s.Tidy) : (resumeParked n l s).Tidy := by
  induction n generalizing l s with
  | zero => exact h
  | succ _ ih =>
    unfold resumeParked
    split
    · exact h
    · dsimp only
      split
      · exact ih (dispatchTandem_tidy h)
      · exact ih h

theorem execSchedulerScan_tidy {s : State} (h : s.Tidy) : Leaves (execSchedulerScan s) :=
  Leaves.next (resumeParked_tidy (retestAll_tidy (rebind_tidy (flushArea_tidy h))))

theorem trimSlots_tidy {n : Nat} {s : State} (h : s.Tidy) : (trimSlots n s).Tidy := by
  induction n generalizing s with
  | zero => exact h
  | succ _ ih =>
    exact ite_holds h (by
        split
        · exact ih (switchOut_tidy h)
        · exact h)

theorem installTable_tidy {s : State} {period epoch : Nat} {rows : List TtSlot} (h : s.Tidy) : (installTable s period epoch rows).Tidy :=
  settleTt_tidy (trimSlots_tidy h)

theorem execTtModeEnable_tidy {period epoch : Nat} {rows : List TtRow} {s : State} (h : s.Tidy) : Leaves (execTtModeEnable period epoch rows s) :=
  Leaves.next (ite_holds (installTable_tidy h) h)

theorem State.modRow_tidy {s : State} {i : Nat} {f : TtSlot → TtSlot} (h : s.Tidy) : (s.modRow i f).Tidy := h

theorem execTtSlotStart_tidy {row : Nat} {s : State} (h : s.Tidy) : Leaves (execTtSlotStart row s) :=
  Leaves.next (by
    split
    · exact h
    · exact ite_holds h (by
          dsimp only
          split
          · exact State.modKernel_tidy (State.modRow_tidy h)
          · exact ite_holds (State.modRow_tidy (State.modRow_tidy h)) (by
                split
                · exact State.modRow_tidy (State.modRow_tidy h)
                · exact ite_holds (by
                      split
                      next e3 => exact Both.fst_of e3 (tryTake_tidy (State.modRow_tidy h))
                      next e3 => exact State.modRow_tidy (Both.fst_of e3 (tryTake_tidy (State.modRow_tidy h))))
                      (State.modRow_tidy (State.modRow_tidy h)))))

theorem execTtSlotEnd_tidy {row : Nat} {s : State} (h : s.Tidy) : Leaves (execTtSlotEnd row s) :=
  Leaves.next (by
    split
    · exact h
    · exact ite_holds h (by
          dsimp only
          split
          · exact State.modRow_tidy h
          · exact ite_holds (State.modRow_tidy (State.modRow_tidy h))
                (mapTandems_tidy (fun _ _ h1 h2 => leaveSlot_tidy h1 h2) (State.modKernel_tidy (State.modRow_tidy (State.modRow_tidy h))))))

theorem execMissClear_tidy {row : Nat} {s : State} (h : s.Tidy) : Leaves (execMissClear row s) := Leaves.next (State.modRow_tidy h)

theorem execPpsInput_tidy {s : State} (h : s.Tidy) : Leaves (execPpsInput s) := Leaves.next h

theorem execTimeOfDay_tidy {ns : Nat} {s : State} (h : s.Tidy) : Leaves (execTimeOfDay ns s) := Leaves.next h

theorem execRegisterWrite_tidy {a : Nat} {v : Word} {s : State} (h : s.Tidy) : Leaves (execRegisterWrite a v s) := by
  unfold execRegisterWrite
  dsimp only
  split
  · exact Leaves.next h
  · exact Leaves.next h
  · exact Leaves.next h
  · exact Leaves.next (ite_holds (State.modRow_tidy h) (ite_holds (installTable_tidy (State.modRow_tidy h)) h))
  · exact Leaves.next h
  · exact Leaves.next (by
        split <;> exact h)
  · exact Leaves.next h

/-! ### Kernels and contexts -/

theorem addWaits_tidy {s : State} {k : Kernel} {e : XlatErr} (h : s.Tidy) : (addWaits s k e).Tidy := ite_holds h (faultContextAll_tidy h)

theorem addAt_tidy {s : State} {c : Context} {k : Kernel} {pa : Nat} (h : s.Tidy) : Both State.Tidy Anything (addAt s c k pa) := by
  unfold addAt
  dsimp only
  split
  · exact ⟨(atomicDevice_tidy h).1, anything⟩
  · split <;> exact ⟨doorbellSeen_tidy h, anything⟩
  · exact ite_holds ⟨h, anything⟩ (by
        split
        · exact ⟨addWaits_tidy h, anything⟩
        next e1 =>
          exact ⟨(State.hostSeen_tidy ((enterRecord_tidy h) _ e1)).setMem (writeCells_wf _ _ (State.hostSeen_tidy ((enterRecord_tidy h) _ e1)).mem),
             anything⟩)
  · split
    · exact ⟨h, anything⟩
    · split
      · exact ⟨addWaits_tidy h, anything⟩
      next e2 => exact ⟨State.modKernel_tidy (sendRequest_tidy ((enterRecord_tidy h) _ e2)).1, anything⟩
  · exact ⟨h, anything⟩

theorem addDone_tidy {s : State} {k : Kernel} (h : s.Tidy) : Both State.Tidy Anything (addDone s k) :=
  ite_holds ⟨h, anything⟩ (by
    split
    · split
      · exact ite_holds ⟨h, anything⟩ (ite_holds ⟨h, anything⟩ ⟨h, anything⟩)
      · exact ⟨h, anything⟩
    · split
      · exact ⟨h, anything⟩
      · split
        · exact ⟨h, anything⟩
        · exact ⟨h, anything⟩
        · exact ⟨faultContextAll_tidy h, anything⟩
        · exact ⟨h, anything⟩
        · exact ite_holds ⟨h, anything⟩ (ite_holds ⟨h, anything⟩ (by
              split
              · exact ⟨h, anything⟩
              · exact addAt_tidy (foldl_holds (fun _ h1 _ _ => markXlat_tidy h1) h))))

theorem retestAfter_tidy {s : State} {ctx : Nat} (h : s.Tidy) : (retestAfter s ctx).Tidy := retestAll_tidy h

theorem recordKernel_tidy {s : State} {k : Kernel} (h : s.Tidy) : IfOk State.Tidy (recordKernel s k) := by
  unfold recordKernel
  split
  · exact IfOk.error
  · exact ite_holds IfOk.error (by
        split
        next e1 => exact IfOk.ok ((sysWrite_tidy h) _ e1)
        · exact IfOk.error)

theorem recordKernel_error_tidy {s : State} {k : Kernel} (h : s.Tidy) : IfError State.Tidy (recordKernel s k) := by
  unfold recordKernel
  split
  · exact .error h
  · split
    · exact .error h
    · split
      · exact .ok
      · exact .error (ite_holds h (faultContextAll_tidy h))

theorem recordStopped_tidy {s : State} {k : Kernel} (h : s.Tidy) : (recordStopped s k).Tidy := by
  unfold recordStopped
  split
  next e => exact recordKernel_error_tidy h _ e
  next e =>
    have ht := recordKernel_tidy h _ e
    exact retestAfter_tidy ht

theorem finishCompletion_tidy {s : State} {ctx csn : Nat} (h : s.Tidy) : (finishCompletion s ctx csn).Tidy := by
  unfold finishCompletion
  split
  · exact h
  next k _ =>
    have hadd := addDone_tidy (k := k) h
    split
    next e => exact Both.fst_of e hadd
    next e =>
      have ht := Both.fst_of e hadd
      exact retestAfter_tidy (ite_holds ht ht)
    next e => exact recordStopped_tidy (State.modKernel_tidy (Both.fst_of e hadd))

theorem performKernel_tidy {s : State} {ctx csn : Nat} (h : s.Tidy) : (performKernel s ctx csn).Tidy :=
  mapTandems_tidy (fun _ _ h1 h2 =>
    ⟨(performHeldOf_tidy (performHeldOf_tidy h1 h2.e).1 h2.a).1,
     ⟨(performHeldOf_tidy h1 h2.e).2, (performHeldOf_tidy (performHeldOf_tidy h1 h2.e).1 h2.a).2, h2.t⟩⟩) h

/-- All that any die has written stands in memory. -/
theorem State.Tidy.publish {s : State} (h : s.Tidy) : State.Tidy { s with mem := publishAll s.mem } := h.setMem (publishAll_tidy h.mem)

theorem closeKernel_tidy {s : State} {k : Kernel} (h : s.Tidy) : (closeKernel s k).Tidy := by
  unfold closeKernel
  split
  next e => exact recordKernel_error_tidy h.publish _ e
  next e =>
    exact finishCompletion_tidy (retestAfter_tidy (dropTandems_tidy (State.modKernel_tidy (recordKernel_tidy h.publish _ e))).publish)

theorem execKernelComplete_tidy {x csn : Nat} {s : State} (h : s.Tidy) : Leaves (execKernelComplete x csn s) := by
  refine Leaves.next ?_
  split
  · exact h
  · have hs := settleAllOwed_tidy (performKernel_tidy (ctx := x) (csn := csn) (State.modKernel_tidy (ctx := x) (csn := csn) (f := fun k => { k with closing := true }) h))
    exact ite_holds (finishCompletion_tidy h) (ite_holds (recordStopped_tidy h) (ite_holds h (ite_holds (closeKernel_tidy hs) hs)))

theorem execKernelFaultRecord_tidy {x csn : Nat} {s : State} (h : s.Tidy) : Leaves (execKernelFaultRecord x csn s) :=
  Leaves.next (by
    split
    · exact h
    · split
      · exact h
      · exact ite_holds (recordStopped_tidy h) h)

theorem execCancel_tidy {x csn : Nat} {s : State} (h : s.Tidy) : Leaves (execCancel x csn s) := Leaves.next (stopKernel_tidy h)

theorem execRelease_tidy {x csn : Nat} {s : State} (h : s.Tidy) : Leaves (execRelease x csn s) :=
  Leaves.next (by
    split
    · exact h
    · exact ite_holds h (by
          split
          · exact retestAfter_tidy (dropTandems_tidy (writeKernel_tidy (State.modKernel_tidy h)))
          · exact retestAfter_tidy (dropTandems_tidy (writeKernel_tidy (State.modKernel_tidy h)))
          · exact h))

theorem execContextCreate_tidy {x block : Nat} {s : State} (h : s.Tidy) : Leaves (execContextCreate x block s) :=
  Leaves.next (ite_holds h ⟨h.mem, h.me, h.peer, h.tan, AllTidy.filter h.away, h.rel⟩)

theorem execBind_tidy {x : Nat} {s : State} (h : s.Tidy) : Leaves (execBind x s) := Leaves.next (settleTt_tidy (bindContext_tidy h))

theorem writeBackImages_tidy {s : State} {ctx : Nat} (h : s.Tidy) : IfOk State.Tidy (writeBackImages s ctx) :=
  foldl_holds (fun _ h1 _ _ => by
    split
    · exact h1
    · split
      next e => exact IfOk.ok ((storeImage_tidy (h1 _ rfl)) _ e)
      · exact IfOk.error
      · exact IfOk.ok (failArea_tidy (h1 _ rfl))) (IfOk.ok h)

theorem writeBackImages_error_tidy {s : State} {ctx : Nat} (h : s.Tidy) : IfError State.Tidy (writeBackImages s ctx) := by
  have hstep : IfOk State.Tidy (writeBackImages s ctx) ∧ IfError State.Tidy (writeBackImages s ctx) :=
    foldl_holds (P := fun r => IfOk State.Tidy r ∧ IfError State.Tidy r) (fun r hr _ _ => by
      obtain ⟨hok, herr⟩ := hr
      split
      · exact ⟨.error, .error (herr _ rfl)⟩
      · have ht := hok _ rfl
        split
        next e => exact ⟨.ok (storeImage_tidy ht _ e), .ok⟩
        · exact ⟨.error, .error ht⟩
        · exact ⟨.ok (failArea_tidy ht), .ok⟩) ⟨.ok h, .ok⟩
  exact hstep.2

theorem execContextReclaim_tidy {s : State} (h : s.Tidy) : Leaves (execContextReclaim s) := by
  refine Leaves.next ?_
  split
  next c _ _ =>
    refine ite_holds h ?_
    have hs := saveAll_tidy (p := fun t => t.ctx == c.num && leftBehind t.core t) h
    refine ite_holds hs ?_
    split
    next e => exact writeBackImages_error_tidy hs _ e
    next e =>
      have ht := writeBackImages_tidy hs _ e
      exact foldl_holds (fun _ h1 _ _ => switchOut_tidy h1) (State.modCtx_tidy ht)
  · exact h

theorem cancelCopy_tidy {s : State} {c : Copy} (h : s.Tidy) : (cancelCopy s c).Tidy :=
  foldl_holds (fun _ h1 _ _ => by
    dsimp only
    split
    next e => exact (scatterFailed_tidy h1) _ e
    · exact h1) h

theorem cancelCopies_tidy {s : State} (h : s.Tidy) : (cancelCopies s).Tidy := foldl_holds (fun _ h1 _ _ => cancelCopy_tidy h1) h

theorem discardTandem_tidy {x : Away} (hx : x.tidy) : (discardTandem x).tidy := ⟨hx.e, hx.a, rfl⟩

theorem leaveTandem_tidy {s : State} {x : Away} (h : s.Tidy) (hx : x.tidy) : Both State.Tidy Away.tidy (leaveTandem s x) := by
  obtain ⟨h1, he⟩ := dropLoop_tidy (t := x.t) h hx.e
  obtain ⟨h2, ha⟩ := dropLoop_tidy (t := x.t) h1 hx.a
  exact ⟨endStay_tidy h2, he, ha, hx.t⟩

theorem recordDestroyed_tidy {s : State} {c : Context} {ks : List Kernel} (h : s.Tidy) : (recordDestroyed s c ks).Tidy :=
  foldl_holds (fun _ h1 _ _ => areaWrite_tidy h1) (foldl_holds (fun _ h1 _ _ => areaWrite_tidy h1) h)

theorem destroyContext_tidy {x : Nat} {s : State} (h : s.Tidy) : (destroyContext x s).Tidy := by
  unfold destroyContext
  split
  · exact h
  · refine ite_holds h ?_
    have hcopies : State.Tidy (((s.contextTandems x).map (·.t.uid)).foldl
        (fun s u => atHart (2 * u + 1) cancelCopies (atHart (2 * u) cancelCopies s)) s) :=
      foldl_holds (fun _ h1 _ _ => atHart_tidy (fun _ h2 => cancelCopies_tidy h2) (atHart_tidy (fun _ h2 => cancelCopies_tidy h2) h1)) h
    have hgone := mapTandems_tidy (p := fun t => t.ctx == x && t.firmware.isNone) (f := fun s y => (s, discardTandem y))
      (fun _ _ h1 h2 => ⟨h1, discardTandem_tidy h2⟩)
      (mapTandems_tidy (p := fun t => t.ctx == x && t.firmware.isNone) (fun _ _ h1 h2 => leaveTandem_tidy h1 h2) hcopies)
    dsimp only
    generalize hr : recordDestroyed _ _ _ = r
    have hs : r.Tidy := hr ▸ recordDestroyed_tidy (State.modCtx_tidy (foldl_holds (fun _ h1 _ _ => changeQueue_tidy h1) hgone))
    exact ⟨hs.mem, hs.me, hs.peer, hs.tan, hs.away, hs.rel⟩

theorem execDestroy_tidy {x : Nat} {s : State} (h : s.Tidy) : Leaves (execDestroy x s) := Leaves.next (destroyContext_tidy h)

theorem execBudgetTableWrite_tidy {i v : Nat} {s : State} (h : s.Tidy) : Leaves (execBudgetTableWrite i v s) := Leaves.next (ite_holds h h)

theorem execClassTableWrite_tidy {i v : Nat} {s : State} (h : s.Tidy) : Leaves (execClassTableWrite i v s) := Leaves.next (ite_holds h h)

theorem execEnergyWindow_tidy {part used : Nat} {s : State} (h : s.Tidy) : Leaves (execEnergyWindow part used s) :=
  Leaves.next ⟨h.mem, h.me, h.peer, h.tan, h.away, h.rel⟩

/-! ### Debugging and attestation -/

theorem overdue_tidy {cl : Nat} {s : State} (h : s.Tidy) : (overdue cl s).Tidy :=
  have saved {c : Prop} [Decidable c] {p : Tandem → Bool} {u : State} (hu : u.Tidy) : State.Tidy (if c then saveAll p u else u) :=
    ite_holds (saveAll_tidy hu) hu
  saved (mapTandems_tidy (fun _ _ h1 h2 => leaveSlot_tidy h1 h2)
    (foldl_holds (fun _ h1 _ _ => writeTandemEntry_tidy h1) (mapTandems_tidy (fun _ _ h1 h2 => stopTandem_tidy h1 h2) h)))

theorem runClocks_tidy {cl : Nat} {s : State} (h : s.Tidy) : (runClocks cl s).Tidy := mapTandems_tidy (fun _ _ h1 h2 => ⟨h1, h2⟩) h

theorem execResume_tidy {cluster : Nat} {s : State} (h : s.Tidy) : Leaves (execResume cluster s) :=
  Leaves.next (ite_holds (overdue_tidy
    (foldl_holds (fun _ h1 _ _ => putRecord_tidy h1) (foldl_holds (fun _ h1 _ _ => deliverReply_tidy h1) (runClocks_tidy h)))) h)

theorem execHold_tidy {q : Nat} {s : State} (h : s.Tidy) : Leaves (execHold q s) := Leaves.next (State.modQueue_tidy h)

theorem execDebugRelease_tidy {q : Nat} {s : State} (h : s.Tidy) : Leaves (execDebugRelease q s) := Leaves.next (State.modQueue_tidy h)

theorem settleHolds_tidy {s : State} (h : s.Tidy) : (settleHolds s).Tidy := h

theorem execHistoryEnable_tidy {x : Nat} {base : Word} {s : State} (h : s.Tidy) : Leaves (execHistoryEnable x base s) :=
  Leaves.next (State.modCtx_tidy h)

theorem execTraceEnable_tidy {x base len : Nat} {trace sample : Bool} {period : Nat} {s : State} (h : s.Tidy) :
    Leaves (execTraceEnable x base len trace sample period s) :=
  Leaves.next (ite_holds h (ite_holds (ite_holds h h) (ite_holds (State.modCtx_tidy h) h)))

theorem samplePcs_tidy {s : State} {x : Away} (h : s.Tidy) : (samplePcs s x).Tidy := by
  unfold samplePcs
  dsimp only
  split
  · exact ite_holds (ite_holds h (putRecord_tidy h))
        (ite_holds (ite_holds h (putRecord_tidy h)) (putRecord_tidy (ite_holds h (putRecord_tidy h))))
  · exact h

theorem execPcSample_tidy {s : State} (h : s.Tidy) : Leaves (execPcSample s) :=
  Leaves.next (foldl_holds (fun _ h1 _ _ => ite_holds (samplePcs_tidy h1) h1) h)

theorem execDropRecord_tidy {x : Nat} {s : State} (h : s.Tidy) : Leaves (execDropRecord x s) :=
  Leaves.next (by
    split
    · exact h
    · exact ite_holds h (putRecord_tidy h))

theorem extendDsm_tidy {s : State} {kind x : Nat} (h : s.Tidy) : (extendDsm s kind x).Tidy := h

theorem State.reset_tidy : State.reset.Tidy := ⟨rfl, Hart.empty_tidy, Hart.empty_tidy, Tandem.empty_tidy, AllTidy.nil, fun _ e => nomatch e⟩

theorem execDeviceReset_tidy {images : List FwImage} {s : State} : Leaves (execDeviceReset images s) :=
  Leaves.next ⟨State.reset_tidy.mem, State.reset_tidy.me, State.reset_tidy.peer, State.reset_tidy.tan, State.reset_tidy.away, State.reset_tidy.rel⟩

theorem execChallenge_tidy {s : State} (h : s.Tidy) : Leaves (execChallenge s) := Leaves.next h

theorem execAttestationReport_tidy {nonce : Nat} {s : State} (h : s.Tidy) : Leaves (execAttestationReport nonce s) := Leaves.next h

theorem execKeyLoad_tidy {slot wrapped : Nat} {s : State} (h : s.Tidy) : Leaves (execKeyLoad slot wrapped s) := Leaves.next (ite_holds h h)

theorem execFirmwareDebugUnlock_tidy {token : List Byte} {s : State} (h : s.Tidy) : Leaves (execFirmwareDebugUnlock token s) :=
  Leaves.next (ite_holds h (ite_holds (extendDsm_tidy (foldl_holds (fun _ h1 _ _ => destroyContext_tidy h1) h)) h))

theorem execKernelDebugUnlock_tidy {x slot : Nat} {s : State} (h : s.Tidy) : Leaves (execKernelDebugUnlock x slot s) :=
  Leaves.next (by
    split
    · exact h
    · exact ite_holds (extendDsm_tidy (State.modCtx_tidy h)) h)

theorem execDebugRelock_tidy {firmware : Bool} {x : Nat} {s : State} (h : s.Tidy) : Leaves (execDebugRelock firmware x s) :=
  Leaves.next (ite_holds (ite_holds (extendDsm_tidy h) h) (by
    split
    · exact h
    · exact ite_holds (extendDsm_tidy (State.modCtx_tidy h)) h))

/-! ### Debug instructions -/

theorem tmarkBody_tidy {a : BitVec 7} : Exec.Tidies (tmarkBody a) :=
  .bind coreOnly_tidy
    (fun _ => .bind checkSrc_tidy (fun _ => .bind readS_tidy (fun _ => modState_tidy (fun _ h => ite_holds (putRecord_tidy h) h))))

theorem progptBody_tidy {c : Nat} : Exec.Tidies (progptBody c) :=
  .bind coreOnly_tidy (fun _ => .bind require_tidy (fun _ => modMe_tidy (fun _ h => ite_holds h h)))

/-! ### Scalar floating point -/

theorem falu2_tidy {f : Nat → Nat → Nat → Nat → Nat × Nat} {src : Fmt} {d a b : BitVec 7} : Exec.Tidies (falu2 f src d a b) :=
  .bind checkSrc_tidy (fun _ =>
    .bind checkSrc_tidy (fun _ =>
      .bind checkDst_tidy
        (fun _ => .bind readS_tidy (fun _ => .bind readS_tidy (fun _ => .getState (fun _ _ => .bind raise_tidy (fun _ => writeS_tidy)))))))

theorem falu1_tidy {f : Nat → Nat → Nat → Nat × Nat} {w : Nat} {d a : BitVec 7} : Exec.Tidies (falu1 f w d a) :=
  .bind checkSrc_tidy
    (fun _ => .bind checkDst_tidy (fun _ => .bind readS_tidy (fun _ => .getState (fun _ _ => .bind raise_tidy (fun _ => writeS_tidy)))))

theorem fmaScalar_tidy {f : Fmt} {negP negD : Bool} {d a b : BitVec 7} : Exec.Tidies (fmaScalar f negP negD d a b) :=
  .bind checkSrc_tidy (fun _ =>
    .bind checkSrc_tidy (fun _ =>
      .bind checkRmw_tidy (fun _ =>
        .bind readS_tidy
          (fun _ => .bind readS_tidy (fun _ => .bind readS_tidy (fun _ => .getState (fun _ _ => .bind raise_tidy (fun _ => writeS_tidy))))))))

/-! ### Groups -/

theorem tandemSide_tidy : Exec.Tidies (tandemSide) := .bind coreOnly_tidy (fun _ => .getState (fun _ _ => require_tidy))

theorem releaseStrip_tidy {s : State} (h : s.Tidy) : (releaseStrip s).Tidy :=
  (State.spoilStrip_tidy (State.endStrip_tidy h)).setMem (Mem.publish_tidy (State.spoilStrip_tidy (State.endStrip_tidy h)).mem)

theorem State.modGroup_tidy {s : State} {key : Word} {f : Group → Group} (h : s.Tidy) : (s.modGroup key f).Tidy := h

theorem spawned_tidy {k : Kernel} {uid : Nat} {tids : List Nat} {x : Word} {n : Nat} : AllTidy (spawned k uid tids x n) :=
  AllTidy.map (fun _ _ => newTandem_tidy)

theorem spawnBody_tidy {d a b : BitVec 7} : Exec.Tidies (spawnBody d a b) :=
  .bind tandemSide_tidy (fun _ =>
    .bind checkSrc_tidy (fun _ =>
      .bind checkSrc_tidy (fun _ =>
        .bind checkDst_tidy (fun _ =>
          .bind readS_tidy (fun _ =>
            .bind readS_tidy (fun _ =>
              .bind require_tidy (fun _ =>
                .bind (modState_tidy (fun _ h => releaseStrip_tidy h)) (fun _ =>
                  .getState (fun _ _ => by
                    dsimp only
                    split
                    · exact writeS_tidy
                    · exact ite_holds writeS_tidy (.bind (modState_tidy (fun _ h1 => writeKernel_tidy (State.modKernel_tidy (addTandems_tidy h1 spawned_tidy))))
                          (fun _ => writeS_tidy)))))))))))

theorem clearMarkers_tidy {onA : Bool} {t : Tandem} (ht : t.tidy) : (clearMarkers onA t).tidy := ht

theorem exitBody_tidy : Exec.Tidies (exitBody) :=
  .bind coreOnly_tidy (fun _ =>
    .getState (fun _ _ =>
      .bind abandonSweep_tidy (fun _ =>
        .bind (modState_tidy (fun _ h1 =>
          State.spoilStrip_tidy
            (State.endStrip_tidy (closeStrip_tidy ⟨h1.mem, Hart.leaveLoop_tidy h1.me, h1.peer, h1.tan, h1.away, h1.rel⟩))))
          (fun _ => modState_tidy (fun _ h1 => ⟨h1.mem, h1.me, h1.peer, clearMarkers_tidy h1.tan, h1.away, h1.rel⟩)))))

theorem finishExit_tidy {s : State} (h : s.Tidy) : (finishExit s).Tidy := by
  unfold finishExit
  dsimp only
  split
  · exact ite_holds (endTandem_tidy h) h
  · exact stopKernel_tidy (ite_holds (endTandem_tidy h) h)

theorem execExit_tidy {s : State} (h : s.Tidy) : Leaves (execExit s) := by
  unfold execExit
  split
  next e => exact Leaves.next (finishExit_tidy (retire_tidy (exitBody_tidy.ok h e)))
  · exact Leaves.next (applyStop_tidy (undone_tidy h))

theorem joinBody_tidy {d a : BitVec 7} : Exec.Tidies (joinBody d a) :=
  .bind tandemSide_tidy (fun _ =>
    .bind checkSrc_tidy (fun _ =>
      .bind checkDst_tidy (fun _ =>
        .bind readS_tidy (fun _ =>
          .getState (fun _ _ =>
            .bind require_tidy (fun _ => by
              split
              · exact .bind require_tidy (fun _ =>
                    .bind (modState_tidy (fun _ h1 => releaseStrip_tidy h1))
                      (fun _ => .bind (modState_tidy (fun _ h1 => State.modGroup_tidy h1)) (fun _ => writeS_tidy)))
              · exact .bind require_tidy
                    (fun _ => .bind (modState_tidy (fun _ h1 => releaseStrip_tidy h1)) (fun _ => .bind (modState_tidy (fun _ h1 => h1)) (fun _ => writeS_tidy)))))))))

theorem leaveBody_tidy {a : BitVec 7} : Exec.Tidies (leaveBody a) :=
  .bind tandemSide_tidy (fun _ =>
    .bind checkSrc_tidy (fun _ =>
      .bind readS_tidy (fun _ =>
        .getState (fun _ _ => by
          dsimp only
          split
          · exact .bind require_tidy
                (fun _ => .bind (modState_tidy (fun _ h1 => releaseStrip_tidy h1)) (fun _ => modState_tidy (fun _ h1 => State.modGroup_tidy h1)))
          · exact illegalOperand_tidy))))

theorem groupValue_tidy {d : BitVec 7} {a : Option (BitVec 7)} {f : State → Word → Word} : Exec.Tidies (groupValue d a f) :=
  .bind coreOnly_tidy (fun _ => by
    dsimp only
    split
    · exact .bind checkSrc_tidy (fun _ =>
          .bind checkDst_tidy (fun _ =>
            .bind readS_tidy
              (fun _ => .bind (modState_tidy (fun _ h => State.spoilStrip_tidy h)) (fun _ => .getState (fun _ _ => writeS_tidy)))))
    · exact .bind checkDst_tidy
          (fun _ => .bind .pure (fun _ => .bind (modState_tidy (fun _ h => State.spoilStrip_tidy h)) (fun _ => .getState (fun _ _ => writeS_tidy)))))

theorem gbarBody_tidy {a : BitVec 7} : Exec.Tidies (gbarBody a) :=
  .bind tandemSide_tidy (fun _ =>
    .bind checkSrc_tidy (fun _ =>
      .bind readS_tidy (fun _ =>
        .getState (fun _ _ => by
          dsimp only
          split
          · exact illegalOperand_tidy
          · exact .bind require_tidy (fun _ =>
                .bind (modState_tidy (fun _ h1 => releaseStrip_tidy h1)) (fun _ =>
                  .bind (modState_tidy (fun _ h1 => ite_holds h1 (State.modGroup_tidy h1)))
                    (fun _ => .getState (fun _ _ => ite_holds (.bind (modState_tidy (fun _ h2 => State.modGroup_tidy h2)) (fun _ => .pure)) .pure))))))))

theorem execGbar_tidy {a : BitVec 7} {s : State} (h : s.Tidy) : Leaves (execGbar a s) := by
  unfold execGbar
  split
  next e => exact Leaves.next (retire_tidy (gbarBody_tidy.ok h e))
  · exact Leaves.next (waitHere_tidy (releaseStrip_tidy h))
  · exact Leaves.next (applyStop_tidy h)

/-! ### Links and ports -/

theorem changePort_tidy {s : State} {p : Nat} {f : Port → Port} (h : s.Tidy) : (changePort s p f).Tidy := ite_holds h h

theorem execPartnerDetected_tidy {p : Nat} {s : State} (h : s.Tidy) : Leaves (execPartnerDetected p s) := Leaves.next (changePort_tidy h)

theorem execLaneFailure_tidy {p : Nat} {s : State} (h : s.Tidy) : Leaves (execLaneFailure p s) := Leaves.next (changePort_tidy h)

theorem execQuiesce_tidy {p : Nat} {s : State} (h : s.Tidy) : Leaves (execQuiesce p s) := Leaves.next (changePort_tidy h)

theorem execPortResume_tidy {p : Nat} {s : State} (h : s.Tidy) : Leaves (execPortResume p s) := Leaves.next (changePort_tidy h)

theorem execPortReset_tidy {p : Nat} {s : State} (h : s.Tidy) : Leaves (execPortReset p s) := Leaves.next (changePort_tidy h)

theorem execPartnerLost_tidy {p : Nat} {s : State} (h : s.Tidy) : Leaves (execPartnerLost p s) := Leaves.next (changePort_tidy h)

theorem execPeerRouteWrite_tidy {n : Nat} {valid : Bool} {mask : BitVec 12} {s : State} (h : s.Tidy) : Leaves (execPeerRouteWrite n valid mask s) :=
  Leaves.next (ite_holds h h)

theorem rerouteAll_tidy {s : State} {p : Nat} (h : s.Tidy) : (rerouteAll s p).Tidy :=
  foldl_holds (fun _ h1 _ _ => by
    split
    · split <;> exact h1
    · exact h1) h

theorem failAllPosted_tidy {n : Nat} {s : State} (h : s.Tidy) : (failAllPosted n s).Tidy := by
  induction n generalizing s with
  | zero => exact h
  | succ _ ih => exact ih (failPosted_tidy h)

theorem faultPort_tidy {s : State} {p : Nat} (h : s.Tidy) : (faultPort s p).Tidy := failAllPosted_tidy (rerouteAll_tidy (changePort_tidy h))

theorem execTrainingDone_tidy {p : Nat} {r : TrainResult} {s : State} (h : s.Tidy) : Leaves (execTrainingDone p r s) :=
  Leaves.next (ite_holds (faultPort_tidy h) (changePort_tidy h))

theorem execFlitAckTimeout_tidy {p : Nat} {s : State} (h : s.Tidy) : Leaves (execFlitAckTimeout p s) :=
  Leaves.next (by
    dsimp only
    split
    · exact h
    · exact ite_holds h (ite_holds (faultPort_tidy h) (changePort_tidy h)))

theorem outsideAccess_tidy {op : PeerOp} {pa : Nat} {s : State} (h : s.Tidy) : Both State.Tidy Anything (outsideAccess op pa s) := by
  unfold outsideAccess
  split
  · exact ⟨h, anything⟩
  · exact ⟨writeImages_tidy ⟨homeStore_tidy h.mem, h.me, h.peer, h.tan, h.away, h.rel⟩, anything⟩
  · exact ⟨(atomicImage_tidy h).1, anything⟩

theorem otherKeyAccess_tidy {op : PeerOp} {pa : Nat} {s : State} (h : s.Tidy) : Both State.Tidy Anything (otherKeyAccess op pa s) := by
  unfold otherKeyAccess
  dsimp only
  split
  · exact ⟨h, anything⟩
  · exact ⟨(outsideAccess_tidy h).1, anything⟩
  · exact ⟨(outsideAccess_tidy h).1, anything⟩

theorem answerOne_tidy {s : State} {r : Served} (h : s.Tidy) : (answerOne s r).Tidy := ite_holds h h

theorem answerPeers_tidy {s : State} (h : s.Tidy) : (answerPeers s).Tidy := foldl_holds (fun _ h1 _ _ => answerOne_tidy h1) h

theorem execFlitReceive_tidy {p sq : Nat} {intact : Bool} {s : State} (h : s.Tidy) : Leaves (execFlitReceive p sq intact s) :=
  Leaves.next (ite_holds (ite_holds (answerPeers_tidy (changePort_tidy h)) (ite_holds (faultPort_tidy h) (changePort_tidy h))) h)

theorem execPeerRequest_tidy {port : Nat} {tag : Nat × Nat} {op : PeerOp} {pa : Nat} {s : State} (h : s.Tidy) :
    Leaves (execPeerRequest port tag op pa s) :=
  ite_holds Leaves.fault
    (Leaves.next (ite_holds h (ite_holds (answerPeers_tidy h) (ite_holds (answerPeers_tidy (outsideAccess_tidy h).1) h))))

theorem execHostMemAccess_tidy {op : PeerOp} {pa : Nat} {s : State} (h : s.Tidy) : Leaves (execHostMemAccess op pa s) :=
  ite_holds Leaves.fault
    (Leaves.next (ite_holds h (ite_holds h (ite_holds (ite_holds (otherKeyAccess_tidy h) (outsideAccess_tidy h)).1 h))))

theorem firmwareCore_tidy {uid i : Nat} : (firmwareCore uid i).tidy := ⟨Hart.empty_tidy, Hart.empty_tidy, rfl⟩

theorem startFirmware_tidy {s : State} {i : Nat} (h : s.Tidy) : (startFirmware s i).Tidy :=
  ite_holds h ⟨h.mem, h.me, h.peer, h.tan, AllTidy.append h.away (AllTidy.cons firmwareCore_tidy AllTidy.nil), h.rel⟩

theorem execFunctionReady_tidy {f : Function} {s : State} (h : s.Tidy) : Leaves (execFunctionReady f s) :=
  Leaves.next (by
    split
    · exact ite_holds h h
    · exact ite_holds h h
    · exact ite_holds h h
    · exact h
    · exact ite_holds (startFirmware_tidy h) h)

/-! ### Scalar loads and stores -/

theorem dispAddr_tidy {a : BitVec 7} {i : BitVec 10} : Exec.Tidies (dispAddr a i) := .bind readS_tidy (fun _ => .pure)

theorem scalarLoad_tidy {shared signed : Bool} {d a : BitVec 7} {z : BitVec 2} {i : BitVec 10} : Exec.Tidies (scalarLoad shared signed d a z i) :=
  .bind checkSrc_tidy
    (fun _ => .bind checkDst_tidy (fun _ => .bind dispAddr_tidy (fun _ => .bind readMem_tidy (fun _ => writeS_tidy))))

theorem scalarStore_tidy {shared : Bool} {d a : BitVec 7} {z : BitVec 2} {i : BitVec 10} : Exec.Tidies (scalarStore shared d a z i) :=
  .bind checkSrc_tidy
    (fun _ => .bind checkSrc_tidy (fun _ => .bind dispAddr_tidy (fun _ => .bind readS_tidy (fun _ => writeMem_tidy))))

theorem acquireLoad_tidy {shared : Bool} {n : Nat} {d a : BitVec 7} : Exec.Tidies (acquireLoad shared n d a) :=
  .bind checkSrc_tidy (fun _ =>
    .bind checkDst_tidy
      (fun _ => .bind readS_tidy (fun _ => .bind requireAligned_tidy (fun _ => .bind readMem_tidy (fun _ => writeS_tidy)))))

theorem releaseBody_tidy {shared : Bool} {n : Nat} {a b : BitVec 7} : Exec.Tidies (releaseBody shared n a b) :=
  .bind checkSrc_tidy (fun _ =>
    .bind checkSrc_tidy
      (fun _ => .bind readS_tidy (fun _ => .bind readS_tidy (fun _ => .bind requireAligned_tidy (fun _ => releaseStore_tidy)))))

/-! ### Rate sets -/

theorem setWrite_tidy {release : Bool} {a : Nat} {bs : List (Byte × Byte)} : Exec.Tidies (setWrite release a bs) :=
  .bind resolve_tidy (fun _ =>
    .bind comparators_tidy (fun _ =>
      .bind scoreboard_tidy
        (fun _ => .bind enterRuns_tidy (fun _ => modState_tidy (fun _ h => landRuns_tidy (ite_holds (publishFor_tidy h) h))))))

theorem setWords_tidy {l : List (Nat × Nat)} : Exec.Tidies (setWords l) := by
  induction l with
  | nil => exact .pure
  | cons _ _ ih => exact .bind setWrite_tidy (fun _ => ih)

theorem readMembers_tidy {header n n1 : Nat} : Exec.Tidies (readMembers header n n1) := by
  induction n generalizing n1 with
  | zero => exact .pure
  | succ _ ih => exact .bind loadGlobal_tidy (fun _ => .bind ih (fun _ => .pure))

theorem readSweep_tidy {header : Nat} : Exec.Tidies (readSweep header) :=
  .bind loadGlobal_tidy
    (fun _ => .bind require_tidy (fun _ => .bind require_tidy (fun _ => .bind readMembers_tidy (fun _ => .pure))))

theorem openSweep_tidy {header : Nat} : Exec.Tidies (openSweep header) := .bind atomicMem_tidy (fun _ => .pure)

theorem writeSlopes_tidy {w : Sweep} {id last : Nat} {ms : List Measure} {n n1 : Nat} : Exec.Tidies (writeSlopes w id last ms n n1) := by
  induction n generalizing n1 with
  | zero => exact .pure
  | succ _ ih => exact .bind setWrite_tidy (fun _ => ih)

theorem closeMembers_tidy {w : Sweep} {l : List (Nat × Nat × Nat)} : Exec.Tidies (closeMembers w l) := by
  induction l with
  | nil => exact .pure
  | cons _ _ ih => exact ite_holds (.bind writeSlopes_tidy (fun _ => .bind setWrite_tidy (fun _ => ih))) (.bind setWrite_tidy (fun _ => ih))

theorem closeSweep_tidy {w : Sweep} {n : Nat} : Exec.Tidies (closeSweep w n) := .bind closeMembers_tidy (fun _ => setWrite_tidy)

theorem rsnewBody_tidy {a b : BitVec 7} : Exec.Tidies (rsnewBody a b) :=
  .bind coreOnly_tidy (fun _ =>
    .bind checkSrc_tidy (fun _ =>
      .bind checkSrc_tidy (fun _ =>
        .bind readS_tidy (fun _ =>
          .eitherBind .pure readS_tidy (fun _ =>
            .bind require_tidy (fun _ =>
              .bind resolve_tidy (fun _ =>
                .bind require_tidy (fun _ =>
                  ite_holds (modMe_tidy (fun _ h1 => h1)) (.bind (modState_tidy (fun _ h1 => State.spoilStrip_tidy (State.endStrip_tidy h1)))
                    (fun _ => .bind setWords_tidy (fun _ => modMe_tidy (fun _ h1 => h1))))))))))))

theorem currentSet_tidy : Exec.Tidies (currentSet) :=
  .getState (fun _ _ => by
    split
    · exact .pure
    · exact illegalOperand_tidy)

theorem rsqBody_tidy {d a : BitVec 7} : Exec.Tidies (rsqBody d a) :=
  .bind coreOnly_tidy (fun _ =>
    .bind checkSrc_tidy (fun _ =>
      .bind checkDst_tidy (fun _ =>
        .bind currentSet_tidy
          (fun _ => .bind readS_tidy (fun _ => .bind readMem_tidy (fun _ => .bind require_tidy (fun _ => .bind readMem_tidy (fun _ => writeS_tidy))))))))

theorem rspolBody_tidy {a b : BitVec 7} : Exec.Tidies (rspolBody a b) :=
  .bind coreOnly_tidy (fun _ =>
    .bind checkSrc_tidy (fun _ =>
      .bind checkSrc_tidy (fun _ =>
        .bind currentSet_tidy (fun _ =>
          .bind readS_tidy (fun _ =>
            .bind readS_tidy (fun _ =>
              .bind require_tidy (fun _ =>
                .bind require_tidy (fun _ =>
                  .bind readMem_tidy (fun _ =>
                    .bind require_tidy
                      (fun _ => .bind (modState_tidy (fun _ h1 => State.spoilStrip_tidy (State.endStrip_tidy h1))) (fun _ => setWords_tidy)))))))))))

/-! ### Recorded loops -/

theorem lmarkChecks_tidy {a b : BitVec 7} {o : BitVec 9} : Exec.Tidies (lmarkChecks a b o) :=
  .bind coreOnly_tidy
    (fun _ => .getState (fun _ _ => .bind fetchAt_tidy (fun _ => ite_holds illegalInstr_tidy (.bind require_tidy (fun _ => .pure)))))

theorem emptyLoop_tidy {h : Hart} (hh : h.tidy) : (emptyLoop h).tidy := hh

theorem activateLoop_tidy {a b : BitVec 7} {lend : Word} {count : Nat} {start : Word} {w : Option Sweep} {h : Hart} (hh : h.tidy) :
    (activateLoop a b lend count start w h).tidy := hh

theorem lmarkBody_tidy {a b : BitVec 7} {o : BitVec 9} : Exec.Tidies (lmarkBody a b o) :=
  .bind lmarkChecks_tidy (fun _ =>
    .getState (fun _ _ =>
      ite_holds (.bind (modMe_tidy (fun _ h1 => emptyLoop_tidy h1)) (fun _ => .pure))
        (.bind (modMe_tidy (fun _ h1 => activateLoop_tidy h1)) (fun _ => .pure))))

theorem execLmark_tidy {a b : BitVec 7} {o : BitVec 9} {s : State} (h : s.Tidy) : Leaves (execLmark a b o s) := by
  unfold execLmark
  split
  next e => exact Leaves.next (retireWith_tidy (lmarkBody_tidy.ok h e))
  · exact Leaves.next (applyStop_tidy h)

theorem sweepChecks_tidy {a b : BitVec 7} {o : BitVec 9} : Exec.Tidies (sweepChecks a b o) :=
  .bind lmarkChecks_tidy (fun _ => .bind currentSet_tidy (fun _ => .bind readSweep_tidy (fun _ => .pure)))

theorem sweepStart_tidy {a b : BitVec 7} {lend : Word} {w : Sweep} : Exec.Tidies (sweepStart a b lend w) :=
  .bind openSweep_tidy (fun _ =>
    .getState (fun _ _ =>
      .bind (modMe_tidy (fun _ h1 => Hart.writeS_tidy (Hart.writeS_tidy h1)))
        (fun _ => .bind (modMe_tidy (fun _ h1 => activateLoop_tidy h1)) (fun _ => .bind (modState_tidy (fun _ h1 => h1)) (fun _ => .pure)))))

theorem sweepEmpty_tidy {a b : BitVec 7} {lend : Word} {w : Sweep} : Exec.Tidies (sweepEmpty a b lend w) :=
  .bind openSweep_tidy (fun _ =>
    .bind closeSweep_tidy (fun _ =>
      .bind (modMe_tidy (fun _ h => emptyLoop_tidy (Hart.writeS_tidy (Hart.writeS_tidy h))))
        (fun _ => .bind (modState_tidy (fun _ h => h)) (fun _ => .pure))))

theorem execLmarkSweep_tidy {a b : BitVec 7} {o : BitVec 9} {s : State} (h : s.Tidy) : Leaves (execLmarkSweep a b o s) := by
  unfold execLmarkSweep
  split
  · exact Leaves.next (applyStop_tidy h)
  next e =>
    exact ite_holds (ite_holds (Leaves.next (waitHere_tidy (State.spoilStrip_tidy (State.endStrip_tidy h)))) (by
        split
        next e1 =>
          exact Leaves.next (retireWith_tidy (sweepEmpty_tidy.ok (State.spoilStrip_tidy (State.endStrip_tidy (sweepChecks_tidy.ok h e))) e1))
        · exact Leaves.next (applyStop_tidy (State.spoilStrip_tidy (State.endStrip_tidy h)))))
        (by
          split
          next e1 => exact Leaves.next (retireWith_tidy (sweepStart_tidy.ok (sweepChecks_tidy.ok h e) e1))
          · exact Leaves.next (applyStop_tidy h))

theorem stepCounters_tidy {l : Loop} {h : Hart} (hh : h.tidy) : (stepCounters l h).tidy := Hart.writeS_tidy (Hart.writeS_tidy hh)

theorem finishLoop_tidy {l : Loop} {s : State} (h : s.Tidy) : (finishLoop l s).Tidy :=
  ⟨h.mem, stepCounters_tidy h.me, h.peer, h.tan, h.away, h.rel⟩

theorem startReplay_tidy {l : Loop} {rc : Recording} {path : List RecInstr} {regs : List RegRef} {s : State} (h : s.Tidy) :
    (startReplay l rc path regs s).Tidy := State.spoilStrip_tidy h

theorem loopAgain_tidy {s : State} {l : Loop} (h : s.Tidy) : (loopAgain s l).Tidy := by
  unfold loopAgain
  dsimp only
  split
  · exact retireWith_tidy ⟨h.mem, stepCounters_tidy h.me, h.peer, h.tan, h.away, h.rel⟩
  · split
    · exact retireWith_tidy ⟨h.mem, stepCounters_tidy h.me, h.peer, h.tan, h.away, h.rel⟩
    · exact retireWith_tidy ⟨h.mem, stepCounters_tidy h.me, h.peer, h.tan, h.away, h.rel⟩
    · exact parkFocus_tidy (retireWith_tidy (startReplay_tidy ⟨h.mem, stepCounters_tidy h.me, h.peer, h.tan, h.away, h.rel⟩))

theorem loopEnd_tidy {s : State} {l : Loop} (h : s.Tidy) : (loopEnd s l).Tidy := by
  unfold loopEnd
  split
  · exact retireWith_tidy (finishLoop_tidy h)
  · exact ite_holds (waitHere_tidy (State.spoilStrip_tidy (State.endStrip_tidy h))) (by
        split
        next e1 => exact retireWith_tidy (finishLoop_tidy (closeSweep_tidy.ok (State.spoilStrip_tidy (State.endStrip_tidy h)) e1))
        · exact applyStop_tidy (State.spoilStrip_tidy (State.endStrip_tidy h)))

theorem execLend_tidy {s : State} (h : s.Tidy) : Leaves (execLend s) := by
  unfold execLend
  split
  · exact Leaves.next (takeTrap_tidy h)
  · exact ite_holds (Leaves.next (takeTrap_tidy h)) (ite_holds (Leaves.next (loopEnd_tidy h)) (Leaves.next (loopAgain_tidy h)))

theorem loffBody_tidy {a : BitVec 7} : Exec.Tidies (loffBody a) :=
  .bind coreOnly_tidy
    (fun _ => .bind checkSrc_tidy (fun _ => .bind readS_tidy (fun _ => .bind require_tidy (fun _ => modMe_tidy (fun _ h => h)))))

/-! ### Moves to and from tiles -/

theorem reportOverflow_tidy {p : Overflow → Bool} : Exec.Tidies (reportOverflow p) := by
  intro _ h
  unfold reportOverflow
  dsimp only
  split
  · exact h
  · exact ite_holds h h

theorem awaitTile_tidy {j : Nat} : Exec.Tidies (awaitTile j) := .getState (fun _ _ => ite_holds stopWith_tidy reportOverflow_tidy)

theorem mzBegin_tidy {resumes : Bool} {tile : Option Nat} : Exec.Tidies (mzBegin resumes tile) :=
  .bind engineSide_tidy (fun _ =>
    ite_holds (by
      split
      · exact checkTile_tidy
      · exact .pure)
      (.bind checkStart0_tidy (fun _ => by
        split
        · exact checkTile_tidy
        · exact .pure)))

theorem modTile_tidy {f : Tandem → Tandem} (hf : ∀ a, a.tidy → (f a).tidy) : Exec.Tidies (modTile f) := modTan_tidy (fun _ h => hf _ h)

theorem spoils_tidy : Exec.Tidies (spoils) := modState_tidy (fun _ h => State.spoilStrip_tidy h)

theorem requireMode_tidy {j mode : Nat} : Exec.Tidies (requireMode j mode) := .getState (fun _ _ => require_tidy)

/-- Two canonical pieces, the second above the first, make one. -/
theorem sparseWfFrom_append {β : Type} [DecidableEq β] {d : β} {l r : List (Nat × β)} {lo hi : Nat} (hl : sparseWfFrom d lo l = true)
    (hb : ∀ e ∈ l, e.1 < hi) (hle : lo ≤ hi) (hr : sparseWfFrom d hi r = true) : sparseWfFrom d lo (l ++ r) = true := by
  induction l generalizing lo with
  | nil => exact sparseWfFrom_mono d hle r hr
  | cons e l ih =>
    obtain ⟨k, v⟩ := e
    simp only [sparseWfFrom, Bool.and_eq_true, List.cons_append] at hl ⊢
    exact ⟨hl.1, ih hl.2 (fun e he => hb e (List.mem_cons_of_mem _ he)) (hb (k, v) List.mem_cons_self)⟩

/-- A canonical piece begins no lower than its lowest key. -/
theorem sparseWfFrom_above {β : Type} [DecidableEq β] {d : β} {l : List (Nat × β)} {lo b : Nat} (hl : sparseWfFrom d lo l = true)
    (hb : ∀ e ∈ l, b ≤ e.1) : sparseWfFrom d b l = true := by
  cases l with
  | nil => rfl
  | cons e l =>
    obtain ⟨k, v⟩ := e
    simp only [sparseWfFrom, Bool.and_eq_true, decide_eq_true_eq] at hl ⊢
    exact ⟨⟨hb (k, v) List.mem_cons_self, hl.1.2⟩, hl.2⟩

/-- One value, not the default, at every key of a range. -/
theorem sparseWfFrom_range {β : Type} [DecidableEq β] {d v : β} (hv : v ≠ d) (lo n : Nat) :
    sparseWfFrom d lo ((range lo n).map (fun k => (k, v))) = true := by
  induction n generalizing lo with
  | zero => rfl
  | succ n ih =>
    simp only [range, List.map_cons, sparseWfFrom, Bool.and_eq_true, decide_eq_true_eq]
    exact ⟨⟨Nat.le_refl lo, hv⟩, ih (lo + 1)⟩

theorem range_lt {lo n k : Nat} (h : k ∈ range lo n) : k < lo + n := by
  induction n generalizing lo with
  | zero => exact nomatch h
  | succ n ih =>
    rcases List.mem_cons.1 h with rfl | h
    · omega
    · have := ih h
      omega

theorem zeroTile_tidy {j mode : Nat} {t : Tandem} (ht : t.tidy) : (zeroTile j mode t).tidy := by
  have hown : sparseWfFrom 0 (16384 * j) (if mode = 2 then (range (16384 * j) 8192).map (fun k => (k, (0x3F800000 : BitVec 32))) else []) = true := by
    split
    · exact sparseWfFrom_range (by decide) _ _
    · rfl
  have hlt (e : Nat × BitVec 32) (he : e ∈ if mode = 2 then (range (16384 * j) 8192).map (fun k => (k, (0x3F800000 : BitVec 32))) else []) :
      e.1 < 16384 * (j + 1) := by
    split at he
    · obtain ⟨k, hk, rfl⟩ := List.mem_map.1 he
      have := range_lt hk
      show k < _
      omega
    · exact nomatch he
  have habove := sparseWfFrom_above (b := 16384 * (j + 1)) (sparseWfFrom_filter 0 (fun e => decide (16384 * (j + 1) ≤ e.1)) t.zt 0 ht)
    (fun e he => of_decide_eq_true (List.mem_filter.1 he).2)
  have hbelow := sparseWfFrom_filter 0 (fun e => decide (e.1 < 16384 * j)) t.zt 0 ht
  show sparseWfFrom 0 0 (_ ++ _ ++ _) = true
  rw [List.append_assoc]
  exact sparseWfFrom_append hbelow (fun e he => of_decide_eq_true (List.mem_filter.1 he).2) (Nat.zero_le _)
    (sparseWfFrom_append hown hlt (by omega) habove)

theorem configureTile_tidy {j : Nat} {c : BitVec 64} {t : Tandem} (ht : t.tidy) : (configureTile j c t).tidy :=
  ite_holds ht (ite_holds (zeroTile_tidy ht) (zeroTile_tidy ht))

theorem mzcfgBody_tidy {z : BitVec 4} {a : BitVec 7} : Exec.Tidies (mzcfgBody z a) :=
  .bind mzBegin_tidy (fun _ =>
    .bind checkSrc_tidy (fun _ =>
      .bind awaitTile_tidy (fun _ =>
        .bind vecScalar_tidy (fun _ =>
          .bind require_tidy (fun _ =>
            .bind spoils_tidy
              (fun _ => .bind (modState_tidy (fun _ h => State.seeTds_tidy h)) (fun _ => modTile_tidy (fun _ h => configureTile_tidy h))))))))

theorem mzeroBody_tidy {z : BitVec 4} : Exec.Tidies (mzeroBody z) :=
  .bind mzBegin_tidy
    (fun _ => .bind awaitTile_tidy (fun _ => .bind spoils_tidy (fun _ => .getState (fun _ _ => modTile_tidy (fun _ h1 => zeroTile_tidy h1)))))

theorem manchBody_tidy {z : BitVec 4} {a : BitVec 7} : Exec.Tidies (manchBody z a) :=
  .bind mzBegin_tidy (fun _ =>
    .bind checkSrc_tidy (fun _ =>
      .bind requireMode_tidy (fun _ =>
        .bind awaitTile_tidy (fun _ =>
          .bind vecScalar_tidy (fun _ =>
            .bind require_tidy (fun _ =>
              .bind spoils_tidy (fun _ =>
                .getState (fun _ _ =>
                  .bind (modTile_tidy (fun _ h => Tandem.tidy.setAnchor (foldl_holds (fun _ h1 _ _ => Tandem.setExact_tidy h1) h)))
                    (fun _ => raiseSaved_tidy)))))))))

theorem mstatBody_tidy {d : BitVec 7} {z : BitVec 4} : Exec.Tidies (mstatBody d z) :=
  .bind mzBegin_tidy (fun _ => .bind checkDst_tidy (fun _ => .bind awaitTile_tidy (fun _ => .getState (fun _ _ => writeS_tidy))))

theorem tileIn_tidy {copies : Bool} {s : State} {z : Nat} {f : Option Fmt} {plane i j x : Nat} {t : Tandem} (ht : t.tidy) :
    Both Tandem.tidy Anything (tileIn copies s z f plane i j x t) :=
  ite_holds (by
    split <;> exact ⟨Tandem.setExact_tidy ht, anything⟩)
    (ite_holds (ite_holds ⟨Tandem.setWord_tidy ht, anything⟩ ⟨Tandem.setWord_tidy ht, anything⟩) (by
      split
      · exact ite_holds ⟨Tandem.setWord_tidy ht, anything⟩ ⟨Tandem.setWord_tidy ht, anything⟩
      · exact ⟨Tandem.setWord_tidy ht, anything⟩))

theorem checkTransfer_tidy {z : BitVec 4} {a b : BitVec 7} : Exec.Tidies (checkTransfer z a b) :=
  .bind mzBegin_tidy
    (fun _ => .bind checkSrc_tidy (fun _ => .bind checkSrc_tidy (fun _ => .getState (fun _ _ => .bind require_tidy (fun _ => awaitTile_tidy)))))

theorem readPlace_tidy {p : Place1} : Exec.Tidies (readPlace p) := .bind loadBytes_tidy (fun _ => .pure)

theorem noteSpill_tidy {fl elem : Nat} : Exec.Tidies (noteSpill fl elem) := ite_holds .pure modSaved_tidy

theorem mzldBody_tidy {z : BitVec 4} {a b : BitVec 7} : Exec.Tidies (mzldBody z a b) :=
  .bind checkTransfer_tidy (fun _ =>
    .bind vecScalar_tidy (fun _ =>
      .bind vecScalar_tidy (fun _ =>
        .bind spoils_tidy (fun _ =>
          .getState (fun _ _ =>
            .bind (elementsFrom_tidy (fun _ =>
              .bind (atomically_tidy readPlace_tidy) (fun _ =>
                .getState
                  (fun _ h1 => .bind (modTan_tidy (fun _ _ => (tileIn_tidy h1.tan).1)) (fun _ => .bind raiseSaved_tidy (fun _ => noteSpill_tidy))))))
              (fun _ => setVstart_tidy))))))

theorem mzstBody_tidy {z : BitVec 4} {a b : BitVec 7} : Exec.Tidies (mzstBody z a b) :=
  .bind checkTransfer_tidy (fun _ =>
    .bind vecScalar_tidy (fun _ =>
      .bind vecScalar_tidy (fun _ =>
        .getState (fun _ _ =>
          .bind (elementsFrom_tidy (fun _ => .getState (fun _ _ => .bind (atomically_tidy storeMasked_tidy) (fun _ => raiseSaved_tidy))))
            (fun _ => setVstart_tidy)))))

theorem checkBlock_tidy {z : Nat} : Exec.Tidies (checkBlock z) := .getState (fun _ _ => require_tidy)

theorem mzrvBody_tidy {d : BitVec 7} {z : BitVec 4} {b : BitVec 7} : Exec.Tidies (mzrvBody d z b) :=
  .bind mzBegin_tidy (fun _ =>
    .getState (fun _ _ =>
      .bind checkSrc_tidy (fun _ =>
        .bind checkTileDst_tidy (fun _ =>
          .bind checkBlock_tidy (fun _ =>
            .bind awaitTile_tidy (fun _ =>
              .bind vecValue_tidy (fun _ => by
                split
                · exact illegalOperand_tidy
                · exact .getState (fun _ _ => putRows_tidy))))))))

theorem mzwvBody_tidy {z : BitVec 4} {a b : BitVec 7} : Exec.Tidies (mzwvBody z a b) :=
  .bind mzBegin_tidy (fun _ =>
    .getState (fun _ _ =>
      .bind checkTileSrc_tidy (fun _ =>
        .bind checkSrc_tidy (fun _ =>
          .bind checkBlock_tidy (fun _ =>
            .bind awaitTile_tidy (fun _ =>
              .bind readTile_tidy (fun _ =>
                .bind vecValue_tidy (fun _ => by
                  split
                  · exact illegalOperand_tidy
                  · refine .bind spoils_tidy (fun _ => .getState (fun _ h => .bind (modTan_tidy (fun _ _ => ?_)) (fun _ => .bind raiseSaved_tidy (fun _ => ?_))))
                    · exact Both.fst (foldl_holds (P := Both Tandem.tidy Anything) (fun _ h1 _ _ => ⟨(tileIn_tidy h1.1).1, anything⟩) ⟨h.tan, anything⟩)
                    · split
                      · exact noteSpill_tidy
                      · exact .pure))))))))

theorem mscanBody_tidy {z : BitVec 4} {k : BitVec 3} : Exec.Tidies (mscanBody z k) :=
  .bind mzBegin_tidy (fun _ =>
    .getState (fun _ _ =>
      .bind requireMode_tidy (fun _ =>
        .bind require_tidy (fun _ =>
          .bind awaitTile_tidy (fun _ =>
            .bind spoils_tidy (fun _ =>
              .getState (fun _ _ =>
                ite_holds setVstart_tidy (.bind (foldl_holds (fun _ h2 _ _ =>
                  .bind h2 (fun _ =>
                    .getState (fun _ _ =>
                      .bind (modTile_tidy (fun _ h5 => foldl_holds (fun _ h6 _ _ => Tandem.setWord_tidy (Tandem.setWord_tidy h6)) h5))
                        (fun _ => .bind (modMe_tidy (fun _ h5 => Hart.writeH_tidy h5)) (fun _ => raiseSaved_tidy))))) .pure)
                  (fun _ => setVstart_tidy)))))))))

theorem mgainBody_tidy {z : BitVec 4} {a : BitVec 7} : Exec.Tidies (mgainBody z a) :=
  .bind mzBegin_tidy (fun _ =>
    .bind checkSrc_tidy (fun _ =>
      .bind requireMode_tidy (fun _ =>
        .bind awaitTile_tidy (fun _ =>
          .bind vecScalar_tidy (fun _ =>
            .bind spoils_tidy (fun _ =>
              .getState
                (fun _ _ => .bind (modTile_tidy (fun _ h1 => foldl_holds (fun _ h2 _ _ => Tandem.setWord_tidy h2) h1)) (fun _ => raiseSaved_tidy))))))))

theorem mcarryBody_tidy {k : BitVec 3} {a : BitVec 7} : Exec.Tidies (mcarryBody k a) :=
  .bind mzBegin_tidy (fun _ =>
    .bind checkSrc_tidy (fun _ =>
      ite_holds (modMe_tidy (fun _ h => Hart.writeH_tidy h)) (.bind vecScalar_tidy
        (fun _ => .bind loadBytes_tidy (fun _ => .bind (modMe_tidy (fun _ h => Hart.writeH_tidy h)) (fun _ => raiseSaved_tidy))))))

theorem storeFromVstart_tidy {base : Nat} {bs : List Byte} : Exec.Tidies (storeFromVstart base bs) :=
  .getState (fun _ _ => .bind (elementsFrom_tidy (fun _ => atomically_tidy storeBytes_tidy)) (fun _ => setVstart_tidy))

theorem mcarrystBody_tidy {k : BitVec 3} {a : BitVec 7} : Exec.Tidies (mcarrystBody k a) :=
  .bind mzBegin_tidy
    (fun _ => .bind checkSrc_tidy (fun _ => .bind vecScalar_tidy (fun _ => .getState (fun _ _ => storeFromVstart_tidy))))

theorem mcommitBody_tidy : Exec.Tidies (mcommitBody) := .bind mzBegin_tidy (fun _ => modTan_tidy (fun _ h => h))

theorem mwaitBody_tidy {n : BitVec 7} : Exec.Tidies (mwaitBody n) :=
  .bind mzBegin_tidy (fun _ => .getState (fun _ _ => ite_holds stopWith_tidy reportOverflow_tidy))

theorem runTileWrite_tidy {z : BitVec 4} {b : Exec Unit} {s : State} (hb : Exec.Tidies b) (h : s.Tidy) : Leaves (runTileWrite z b s) := by
  unfold runTileWrite
  split
  next e =>
    dsimp only
    split
    · exact Leaves.next (takeTrap_tidy (retire_tidy (hb.ok (beginVector_tidy h) e)))
    · exact Leaves.next (retire_tidy (hb.ok (beginVector_tidy h) e))
  next e => exact Leaves.next (stopped_tidy h (hb.error (beginVector_tidy h) e))

theorem runStep_tidy {b : Exec Unit} {s : State} (hb : Exec.Tidies b) (h : s.Tidy) : Leaves (runStep b s) := by
  unfold runStep
  split
  next e =>
    have ht := hb.ok (beginVector_tidy h) e
    exact ite_holds (Leaves.next (retire_tidy ht)) (Leaves.next (ht.setMe ht.me))
  next e => exact Leaves.next (stopped_tidy h (hb.error (beginVector_tidy h) e))

/-! ### The pager and the vector table -/

theorem dropRecords_tidy {s : State} {p : FaultRecord → Bool} (h : s.Tidy) : (dropRecords s p).Tidy := h

theorem Hart.mapCopies_tidy {h : Hart} {f : Copy → Copy} (hh : h.tidy) : (h.mapCopies f).tidy := hh

theorem execPagerResume_tidy {x : Nat} {va : Word} {s : State} (h : s.Tidy) : Leaves (execPagerResume x va s) := by
  refine Leaves.next ?_
  split
  · exact h
  · refine mapTandems_tidy (fun _ _ h1 h2 => ⟨h1, h2.e, h2.a, ?_⟩) (dropRecords_tidy (dropTranslations_tidy h))
    dsimp only
    split
    · exact ite_holds (P := Tandem.tidy) h2.t h2.t
    · exact h2.t

theorem execPagerUnservable_tidy {t : Nat} {queue : Bool} {s : State} (h : s.Tidy) : Leaves (execPagerUnservable t queue s) :=
  Leaves.next (ite_holds (by
    split
    · exact ite_holds (changeQueue_tidy h) h
    · exact h)
    (by
      split
      · exact h
      · split
        · exact stopKernelOpen_tidy
              (mapTandems_tidy (fun _ _ h1 h2 => ⟨h1, ⟨Hart.mapCopies_tidy h2.e, Hart.mapCopies_tidy h2.a, h2.t⟩⟩) (dropRecords_tidy h))
        · exact h))

theorem execFaultRecordPost_tidy {die : Nat} {s : State} (h : s.Tidy) : Leaves (execFaultRecordPost die s) :=
  Leaves.next (ite_holds h (by
    split
    · exact h
    · exact mapTandems_tidy (fun _ _ h1 h2 =>
          ite_holds ⟨h1, Away.waitFor_tidy ⟨Hart.mapCopies_tidy h2.e, Hart.mapCopies_tidy h2.a, h2.t⟩⟩
            ⟨h1, ⟨Hart.mapCopies_tidy h2.e, Hart.mapCopies_tidy h2.a, h2.t⟩⟩)
          (enterBuffer_tidy h)))

theorem execShootdown_tidy {x va len : Nat} {s : State} (h : s.Tidy) : Leaves (execShootdown x va len s) :=
  Leaves.next (by
    split
    · exact startShootdown_tidy h
    · exact h)

theorem performIn_tidy {a n : Nat} {onA : Bool} {s : State} {t : Tandem} {h : Hart} (hs : s.Tidy) (ht : t.tidy) (hh : h.tidy) :
    Both State.Tidy (Both Tandem.tidy Hart.tidy) (performIn a n onA s t h) :=
  ite_holds ⟨(performHeldOf_tidy hs hh).1, ⟨ht, (performHeldOf_tidy hs hh).2⟩⟩ ⟨hs, ⟨ht, hh⟩⟩

theorem execShootdownComplete_tidy {k : Nat} {s : State} (h : s.Tidy) : Leaves (execShootdownComplete k s) := by
  refine Leaves.next ?_
  split
  · exact h
  next x _ =>
    have hperform := fun (s : State) (y : Away) (h1 : s.Tidy) (h2 : y.tidy) => by
      obtain ⟨hs, ht, he⟩ := performIn_tidy (a := x.va) (n := x.len) (onA := false) h1 h2.t h2.e
      obtain ⟨hs', ht', ha⟩ := performIn_tidy (a := x.va) (n := x.len) (onA := true) hs ht h2.a
      exact (⟨hs', he, ha, ht'⟩ : Both State.Tidy Away.tidy (_, { t := _, e := _, a := _ }))
    have hs := failPosted_tidy (mapTandems_tidy (p := fun t => t.ctx == x.ctx) hperform h)
    refine ite_holds hs ?_
    exact flushArea_tidy (State.Tidy.of_eq rfl rfl rfl rfl rfl rfl (dropTranslations_tidy hs).publish)

theorem execVectorEntryWrite_tidy {idx : Nat} {v : Word} {s : State} (h : s.Tidy) : Leaves (execVectorEntryWrite idx v s) :=
  Leaves.next (ite_holds h (by
    dsimp only
    split
    · exact startShootdown_tidy h
    · exact h))

theorem execVectorEntryRead_tidy {idx : Nat} {s : State} (h : s.Tidy) : Leaves (execVectorEntryRead idx s) := Leaves.next (ite_holds h h)

/-! ### Predicates -/

theorem pmaskLogic_tidy {fn : Nat} {d a b : BitVec 4} : Exec.Tidies (pmaskLogic fn d a b) :=
  .bind coreOnly_tidy
    (fun _ => .bind checkUnscaled_tidy (fun _ => .getState (fun _ _ => .bind putPred_tidy (fun _ => setVstart_tidy))))

theorem pmaskAll_tidy {v : Bool} {d : BitVec 4} : Exec.Tidies (pmaskAll v d) :=
  .bind coreOnly_tidy
    (fun _ => .bind checkUnscaled_tidy (fun _ => .bind (modMe_tidy (fun _ h => Hart.writeP_tidy h)) (fun _ => setVstart_tidy)))

theorem pcutBody_tidy {inclusive : Bool} {d a b : BitVec 4} : Exec.Tidies (pcutBody inclusive d a b) :=
  .bind coreOnly_tidy
    (fun _ => .bind checkUnscaled_tidy (fun _ => .bind checkStart0_tidy (fun _ => .getState (fun _ _ => putPred_tidy))))

theorem pcountBody_tidy {f : List Nat → Word} {d : BitVec 7} {a : BitVec 4} : Exec.Tidies (pcountBody f d a) :=
  .bind coreOnly_tidy (fun _ =>
    .bind checkDst_tidy
      (fun _ => .bind checkUnscaled_tidy (fun _ => .bind checkStart0_tidy (fun _ => .getState (fun _ _ => writeS_tidy)))))

theorem pfromvBody_tidy {d : BitVec 4} {a : BitVec 7} : Exec.Tidies (pfromvBody d a) :=
  .getState (fun _ _ =>
    .bind coreOnly_tidy (fun _ =>
      .bind checkTileSrc_tidy (fun _ =>
        .bind checkUnscaled_tidy
          (fun _ => .bind readTile_tidy (fun _ => .getState (fun _ _ => .bind putPred_tidy (fun _ => setVstart_tidy)))))))

theorem ptovBody_tidy {d : BitVec 7} {a : BitVec 4} : Exec.Tidies (ptovBody d a) :=
  .getState
    (fun _ _ => .bind coreOnly_tidy (fun _ => .bind checkTileDst_tidy (fun _ => .bind checkUnscaled_tidy (fun _ => elementwise_tidy))))

/-! ### Queue instructions -/

theorem pairedOnly_tidy : Exec.Tidies (pairedOnly) := .bind coreOnly_tidy (fun _ => .getState (fun _ _ => require_tidy))

theorem bqpushBody_tidy {a : BitVec 7} : Exec.Tidies (bqpushBody a) :=
  .bind pairedOnly_tidy (fun _ =>
    .getState (fun _ _ =>
      .bind require_tidy (fun _ =>
        .bind checkSrc_tidy (fun _ =>
          .bind readS_tidy (fun _ =>
            .getState
              (fun _ _ => ite_holds stopWith_tidy (modState_tidy (fun _ h2 => State.spoilStrip_tidy (ite_holds (State.spoilPeer_tidy h2) h2)))))))))

theorem bqBranch_tidy {want : Bool} {o : BitVec 16} : Exec.Tidies (bqBranch want o) :=
  .bind pairedOnly_tidy (fun _ =>
    .getState
      (fun _ _ => .bind require_tidy (fun _ => .bind popReady_tidy (fun _ => .bind (modTan_tidy (fun _ h1 => h1)) (fun _ => .pure)))))

theorem qstatBody_tidy {d q : BitVec 7} : Exec.Tidies (qstatBody d q) :=
  .bind pairedOnly_tidy (fun _ => .bind require_tidy (fun _ => .bind checkDst_tidy (fun _ => .getState (fun _ _ => writeS_tidy))))

theorem drainWait_tidy {left port : Nat} : Exec.Tidies (drainWait left port) := fun _ h => ite_holds h (ite_holds (illegalOperand_tidy _ h) h)

theorem qdrainBody_tidy {q : BitVec 7} : Exec.Tidies (qdrainBody q) :=
  .bind pairedOnly_tidy (fun _ =>
    .bind require_tidy
      (fun _ => .getState (fun _ _ => ite_holds drainWait_tidy (modTan_tidy (fun _ h1 => ite_holds h1 (ite_holds h1 h1))))))

/-! ### Second runs and known answers -/

theorem backToCheckpoint_tidy {s : State} (h : s.Tidy) : (backToCheckpoint s).Tidy := by
  unfold backToCheckpoint
  split
  · exact ite_holds (rewindTo_tidy h) (State.endStrip_tidy h)
  · exact State.endStrip_tidy h

theorem vacate_tidy {u : Nat} {s : State} (h : s.Tidy) : (vacate u s).Tidy :=
  (saveTandem_tidy (mapTandems_tidy (fun _ _ h1 h2 => leaveSlot_tidy h1 h2)
    (atHart_tidy (fun _ h1 => backToCheckpoint_tidy h1) (atHart_tidy (fun _ h1 => backToCheckpoint_tidy h1) h)))).1

theorem faultCluster_tidy {cl : Nat} {s : State} (h : s.Tidy) : (faultCluster cl s).Tidy :=
  ite_holds (foldl_holds (fun _ h1 _ _ => stopKernelOpen_tidy h1) h) h

theorem fenceCore_tidy {core lane : Nat} {s : State} (h : s.Tidy) : (fenceCore core lane s).Tidy :=
  ite_holds h (faultCluster_tidy (saveAll_tidy (foldl_holds (fun _ h1 _ _ => vacate_tidy h1) h)))

theorem execKnownAnswerOp_tidy {core lane : Nat} {pass : Bool} {s : State} (h : s.Tidy) : Leaves (execKnownAnswerOp core lane pass s) :=
  Leaves.next (ite_holds h (ite_holds h (fenceCore_tidy h)))

theorem execKnownAnswerSweep_tidy {core : Nat} {pass : Bool} {s : State} (h : s.Tidy) : Leaves (execKnownAnswerSweep core pass s) := by
  refine Leaves.next (ite_holds h ?_)
  dsimp only
  split
  · exact ite_holds h h
  · refine fenceCore_tidy ?_
    split <;> exact h

theorem disagree_tidy {s : State} (h : s.Tidy) : (disagree s).Tidy := parkFocus_tidy (postMine_tidy h)

theorem replayDisagrees_tidy {l : Loop} {r : Replay} {s : State} (h : s.Tidy) : (replayDisagrees l r s).Tidy :=
  ite_holds (syncImage_tidy (State.withFocus_tidy (postMine_tidy h) (Away.waitFor_tidy (State.focusAway_tidy (postMine_tidy h)))))
    (postMine_tidy h)

theorem execRecheckSecondRun_tidy {h : Nat} {agree : Bool} {s : State} (hs : s.Tidy) : Leaves (execRecheckSecondRun h agree s) :=
  Leaves.next (atHart_tidy (fun _ h1 => by
    split
    · exact ite_holds h1 (replayDisagrees_tidy h1)
    · exact ite_holds h1 (ite_holds h1 (disagree_tidy h1))) hs)

theorem execRecheckForce_tidy {h : Nat} {s : State} (hs : s.Tidy) : Leaves (execRecheckForce h s) :=
  Leaves.next (atHart_tidy (fun _ h1 => by
    split
    · exact ite_holds h1 h1
    · exact h1) hs)

/-! ### Checkpoints and returns -/

theorem haltReplay_tidy {h : Hart} (hh : h.tidy) : (haltReplay h).tidy := by
  unfold haltReplay
  split
  · split
    · exact ite_holds hh hh
    · exact hh
  · exact hh

theorem execCheckpoint_tidy {s : State} (h : s.Tidy) : Leaves (execCheckpoint s) :=
  Leaves.next (ite_holds h (mapTandems_tidy (fun _ _ h1 h2 => ⟨h1, ⟨haltReplay_tidy h2.e, haltReplay_tidy h2.a, h2.t⟩⟩)
    (saveAll_tidy (mapTandems_tidy (fun _ _ h1 h2 => leaveSlot_tidy h1 h2) h))))

theorem takePoint_tidy {s : State} {c : Context} (h : s.Tidy) : (takePoint s c).Tidy := by
  unfold takePoint
  split
  · exact faultContextAll_tidy h
  · exact areaWrite_tidy (sysSeen_tidy h)

theorem safeCopy_tidy {s : State} (h : s.Tidy) : AllTidy (safeCopy s).tandems := by
  unfold safeCopy
  exact AllTidy.filter (State.allTandems_tidy h)

/-- The point in which the device now stands is taken. -/
theorem State.Tidy.takeSafe {s : State} (h : s.Tidy) : State.Tidy { s with rel := { s.rel with safe := some (safeCopy s) } } :=
  h.setRel (fun _ e => Option.some.inj e ▸ safeCopy_tidy h)

theorem execCheckpointDone_tidy {ok : Bool} {s : State} (h : s.Tidy) : Leaves (execCheckpointDone ok s) := by
  have hpoint : State.Tidy ((s.ctxs.filter (·.pointable)).foldl takePoint
      { s with mem := publishAll s.mem, rel := { s.rel with safe := some (safeCopy { s with mem := publishAll s.mem }) } }) :=
    foldl_holds (fun _ h1 _ _ => takePoint_tidy h1) h.publish.takeSafe
  unfold execCheckpointDone
  refine Leaves.next (ite_holds h (ite_holds ?_ h))
  exact hpoint.publish

theorem returnedMem_tidy {m : Mem} {p : Safe} {kept : List (Nat × Nat)} (hm : m.tidy) : (returnedMem m p kept).tidy :=
  foldl_wf (fun _ h _ _ => sparseWf_set _ _ _ _ h) (sparseWf_filter _ _ _ (publishAll_tidy hm))

theorem execRecoveryReturn_tidy {s : State} (h : s.Tidy) : Leaves (execRecoveryReturn s) := by
  refine Leaves.next ?_
  split
  · exact h
  next p hp =>
    exact ite_holds h ⟨returnedMem_tidy h.mem, Hart.empty_tidy, Hart.empty_tidy, Tandem.empty_tidy,
      AllTidy.append (AllTidy.filter (h.rel p hp)) (AllTidy.filter (State.allTandems_tidy h)), h.rel⟩

/-! ### Vector compares -/

theorem putCompare_tidy {p : Nat} {m : Bool} {rel : Nat → Bool × Nat} : Exec.Tidies (putCompare p m rel) :=
  .getState (fun _ _ =>
    ite_holds (.bind raiseSaved_tidy (fun _ => setVstart_tidy))
      (.bind (modMe_tidy (fun _ h1 => Hart.writeP_tidy h1)) (fun _ => .bind raiseSaved_tidy (fun _ => setVstart_tidy))))

theorem checkCompare_tidy {fn : Nat} {a b : BitVec 7} : Exec.Tidies (checkCompare fn a b) :=
  .getState (fun _ _ =>
    .bind coreOnly_tidy (fun _ =>
      .bind checkTileSrc_tidy
        (fun _ => .eitherBind checkSrc_tidy checkTileSrc_tidy (fun _ => .bind checkUnscaled_tidy (fun _ => ite_holds checkFmt_tidy .pure)))))

theorem vcmpVV_tidy {fn : Nat} {p : BitVec 4} {a b : BitVec 7} {m : BitVec 1} : Exec.Tidies (vcmpVV fn p a b m) :=
  .bind checkCompare_tidy
    (fun _ => .getState (fun _ _ => .bind readTile_tidy (fun _ => .bind readTile_tidy (fun _ => putCompare_tidy))))

theorem vcmpVS_tidy {fn : Nat} {p : BitVec 4} {a b : BitVec 7} {m : BitVec 1} : Exec.Tidies (vcmpVS fn p a b m) :=
  .bind checkCompare_tidy
    (fun _ => .getState (fun _ _ => .bind readTile_tidy (fun _ => .bind vecValue_tidy (fun _ => putCompare_tidy))))

/-! ### Vector integer arithmetic -/

theorem checkTwo_tidy {d a b : BitVec 7} : Exec.Tidies (checkTwo d a b) :=
  .getState (fun _ _ =>
    .bind coreOnly_tidy (fun _ =>
      .bind checkTileSrc_tidy (fun _ =>
        .bind checkTileSrc_tidy
          (fun _ => .bind checkTileDst_tidy (fun _ => .bind checkUnscaled_tidy (fun _ => .bind checkOverlap_tidy (fun _ => checkOverlap_tidy)))))))

theorem checkOne_tidy {d a : BitVec 7} : Exec.Tidies (checkOne d a) :=
  .getState (fun _ _ =>
    .bind coreOnly_tidy
      (fun _ => .bind checkTileSrc_tidy (fun _ => .bind checkTileDst_tidy (fun _ => .bind checkUnscaled_tidy (fun _ => checkOverlap_tidy)))))

theorem vecVV_tidy {f : State → Nat → Nat → Nat → Nat × Nat} {d a b : BitVec 7} {m : BitVec 1} : Exec.Tidies (vecVV f d a b m) :=
  .bind (.getState (fun _ _ => readTile_tidy))
    (fun _ => .bind (.getState (fun _ _ => readTile_tidy)) (fun _ => .getState (fun _ _ => elementwise_tidy)))

theorem vecVS_tidy {f : State → Nat → Nat → Nat → Nat × Nat} {d a b : BitVec 7} {m : BitVec 1} : Exec.Tidies (vecVS f d a b m) :=
  .bind (.getState (fun _ _ => readTile_tidy)) (fun _ => .bind vecValue_tidy (fun _ => .getState (fun _ _ => elementwise_tidy)))

theorem vintVV_tidy {fn : Nat} {d a b : BitVec 7} {m : BitVec 1} : Exec.Tidies (vintVV fn d a b m) := .bind checkTwo_tidy (fun _ => vecVV_tidy)

theorem vintVS_tidy {fn : Nat} {d a b : BitVec 7} {m : BitVec 1} : Exec.Tidies (vintVS fn d a b m) :=
  .bind checkOne_tidy (fun _ => .bind checkSrc_tidy (fun _ => vecVS_tidy))

/-! ### Vector floating point -/

theorem checkFloat_tidy {fn : Nat} : Exec.Tidies (checkFloat fn) := .getState (fun _ _ => .bind checkFmt_tidy (fun _ => require_tidy))

theorem vfpVV_tidy {fn : Nat} {d a b : BitVec 7} {m : BitVec 1} : Exec.Tidies (vfpVV fn d a b m) :=
  .bind checkTwo_tidy (fun _ => .bind checkFloat_tidy (fun _ => vecVV_tidy))

theorem vfpVS_tidy {fn : Nat} {d a b : BitVec 7} {m : BitVec 1} : Exec.Tidies (vfpVS fn d a b m) :=
  .bind checkOne_tidy (fun _ => .bind checkSrc_tidy (fun _ => .bind checkFloat_tidy (fun _ => vecVS_tidy)))

theorem vfpV_tidy {fn : Nat} {d a : BitVec 7} {m : BitVec 1} : Exec.Tidies (vfpV fn d a m) :=
  .bind checkOne_tidy
    (fun _ => .bind checkFloat_tidy (fun _ => .bind (.getState (fun _ _ => readTile_tidy)) (fun _ => .getState (fun _ _ => elementwise_tidy))))

theorem vfpS_tidy {fn : Nat} {d b : BitVec 7} {m : BitVec 1} : Exec.Tidies (vfpS fn d b m) :=
  .getState (fun _ _ =>
    .bind coreOnly_tidy (fun _ =>
      .bind checkSrc_tidy (fun _ =>
        .bind checkTileDst_tidy (fun _ =>
          .bind checkUnscaled_tidy
            (fun _ => .bind checkFloat_tidy (fun _ => .bind vecValue_tidy (fun _ => .getState (fun _ _ => elementwise_tidy))))))))

theorem checkWide_tidy {d : BitVec 7} : Exec.Tidies (checkWide d) := .getState (fun _ _ => .bind require_tidy (fun _ => checkTileDst_tidy))

theorem vfpWide_tidy {f : Nat → Val → Val → Val × Nat} {d a b : BitVec 7} {m : BitVec 1} : Exec.Tidies (vfpWide f d a b m) :=
  .getState (fun _ _ =>
    .bind coreOnly_tidy (fun _ =>
      .bind checkTileSrc_tidy (fun _ =>
        .bind checkTileSrc_tidy (fun _ =>
          .bind checkUnscaled_tidy (fun _ =>
            .bind checkWide_tidy (fun _ =>
              .bind checkDisjoint_tidy (fun _ =>
                .bind checkDisjoint_tidy (fun _ =>
                  .bind checkFmt_tidy
                    (fun _ => .bind readTile_tidy (fun _ => .bind readTile_tidy (fun _ => .getState (fun _ _ => elementwise_tidy))))))))))))

theorem vfclampBody_tidy {d a b : BitVec 7} {m : BitVec 1} : Exec.Tidies (vfclampBody d a b m) :=
  .bind checkOne_tidy (fun _ =>
    .bind require_tidy
      (fun _ => .bind checkFmt_tidy (fun _ => .bind (.getState (fun _ _ => readTile_tidy)) (fun _ => .getState (fun _ _ => elementwise_tidy)))))

theorem vfmaBody_tidy {scalar negP negD : Bool} {d a b : BitVec 7} {m : BitVec 1} : Exec.Tidies (vfmaBody scalar negP negD d a b m) :=
  .bind coreOnly_tidy (fun _ =>
    .bind checkRmw_tidy (fun _ =>
      ite_holds (.bind checkOne_tidy (fun _ =>
        .bind checkSrc_tidy
          (fun _ => .bind checkFmt_tidy (fun _ => .getState (fun _ _ => .bind readTile_tidy (fun _ => ite_holds vecVS_tidy vecVV_tidy))))))
        (.bind checkTwo_tidy
          (fun _ => .bind checkFmt_tidy (fun _ => .getState (fun _ _ => .bind readTile_tidy (fun _ => ite_holds vecVS_tidy vecVV_tidy)))))))

theorem vfmawBody_tidy {scalar : Bool} {d a b : BitVec 7} {m : BitVec 1} : Exec.Tidies (vfmawBody scalar d a b m) :=
  .getState (fun _ _ =>
    .bind coreOnly_tidy (fun _ =>
      .bind checkRmw_tidy (fun _ =>
        .bind checkTileSrc_tidy (fun _ =>
          .eitherBind checkSrc_tidy checkTileSrc_tidy (fun _ =>
            .bind checkUnscaled_tidy (fun _ =>
              .bind checkWide_tidy (fun _ =>
                .bind checkDisjoint_tidy (fun _ =>
                  .unlessBind checkDisjoint_tidy (fun _ =>
                    .bind checkFmt_tidy (fun _ =>
                      .bind readTile_tidy (fun _ =>
                        .bind readTile_tidy (fun _ =>
                          .eitherBind .pure readTile_tidy (fun _ =>
                            ite_holds (.bind vecValue_tidy (fun _ => .getState (fun _ _ => elementwise_tidy)))
                              (.bind .pure (fun _ => .getState (fun _ _ => elementwise_tidy))))))))))))))))

theorem vmaccBody_tidy {scalar : Bool} {d a b : BitVec 7} {m : BitVec 1} : Exec.Tidies (vmaccBody scalar d a b m) :=
  .bind coreOnly_tidy (fun _ =>
    .bind checkRmw_tidy (fun _ =>
      ite_holds (.bind checkOne_tidy
        (fun _ => .bind checkSrc_tidy (fun _ => .getState (fun _ _ => .bind readTile_tidy (fun _ => ite_holds vecVS_tidy vecVV_tidy)))))
        (.bind checkTwo_tidy (fun _ => .getState (fun _ _ => .bind readTile_tidy (fun _ => ite_holds vecVS_tidy vecVV_tidy))))))

/-! ### Permutes and moves -/

theorem checkPermute_tidy {d a : BitVec 7} : Exec.Tidies (checkPermute d a) :=
  .getState (fun _ _ =>
    .bind coreOnly_tidy (fun _ =>
      .bind checkTileSrc_tidy
        (fun _ => .bind checkTileDst_tidy (fun _ => .bind checkUnscaled_tidy (fun _ => .bind checkStart0_tidy (fun _ => checkDisjoint_tidy))))))

theorem slideBody_tidy {fn : Nat} {d a b : BitVec 7} {m : BitVec 1} : Exec.Tidies (slideBody fn d a b m) :=
  .bind checkPermute_tidy (fun _ =>
    .bind checkSrc_tidy
      (fun _ => .getState (fun _ _ => .bind readTile_tidy (fun _ => .bind vecValue_tidy (fun _ => .getState (fun _ _ => putRows_tidy))))))

theorem vpermiBody_tidy {d a b : BitVec 7} {m : BitVec 1} : Exec.Tidies (vpermiBody d a b m) :=
  .bind checkPermute_tidy (fun _ =>
    .getState (fun _ _ =>
      .bind checkTileSrc_tidy (fun _ =>
        .bind checkDisjoint_tidy
          (fun _ => .bind readTile_tidy (fun _ => .bind readTile_tidy (fun _ => .getState (fun _ _ => putRows_tidy)))))))

theorem vcompressBody_tidy {d a : BitVec 7} {b : BitVec 4} : Exec.Tidies (vcompressBody d a b) :=
  .bind checkPermute_tidy (fun _ => .getState (fun _ _ => .bind readTile_tidy (fun _ => putRows_tidy)))

theorem vexpandBody_tidy {d a : BitVec 7} {b : BitVec 4} : Exec.Tidies (vexpandBody d a b) :=
  .bind checkPermute_tidy (fun _ => .getState (fun _ _ => .bind readTile_tidy (fun _ => putRows_tidy)))

theorem vmergeBody_tidy {d a b : BitVec 7} : Exec.Tidies (vmergeBody d a b) :=
  .bind checkTwo_tidy
    (fun _ => .getState (fun _ _ => .bind readTile_tidy (fun _ => .bind readTile_tidy (fun _ => elementwise_tidy))))

theorem vsplatBody_tidy {d a : BitVec 7} {m : BitVec 1} : Exec.Tidies (vsplatBody d a m) :=
  .getState (fun _ _ =>
    .bind coreOnly_tidy (fun _ =>
      .bind checkSrc_tidy
        (fun _ => .bind checkTileDst_tidy (fun _ => .bind checkUnscaled_tidy (fun _ => .bind vecValue_tidy (fun _ => elementwise_tidy))))))

theorem vmvxsBody_tidy {d a b : BitVec 7} : Exec.Tidies (vmvxsBody d a b) :=
  .getState (fun _ _ =>
    .bind coreOnly_tidy (fun _ =>
      .bind checkTileSrc_tidy (fun _ =>
        .bind checkSrc_tidy (fun _ =>
          .bind checkDst_tidy (fun _ =>
            .bind checkUnscaled_tidy
              (fun _ => .bind checkStart0_tidy (fun _ => .bind readTile_tidy (fun _ => .bind vecValue_tidy (fun _ => writeS_tidy)))))))))

theorem vrowbcBody_tidy {d a b : BitVec 7} : Exec.Tidies (vrowbcBody d a b) :=
  .bind checkPermute_tidy (fun _ =>
    .bind checkSrc_tidy
      (fun _ => .getState (fun _ _ => .bind readTile_tidy (fun _ => .bind vecValue_tidy (fun _ => .bind require_tidy (fun _ => putRows_tidy))))))

theorem vtransBody_tidy {d a : BitVec 7} : Exec.Tidies (vtransBody d a) :=
  .bind checkPermute_tidy
    (fun _ => .getState (fun _ _ => .bind require_tidy (fun _ => .bind readTile_tidy (fun _ => putRows_tidy))))

/-! ### Replays -/

theorem replayFloat_tidy {fn : Nat} {d a b : BitVec 7} : Exec.Tidies (replayFloat fn d a b) := by
  unfold replayFloat
  split
  · exact falu2_tidy
  · exact falu2_tidy
  · exact falu2_tidy
  · exact falu2_tidy
  · exact falu2_tidy
  · exact falu2_tidy
  · exact falu2_tidy
  · exact falu2_tidy
  · exact falu1_tidy
  · exact falu1_tidy
  · exact falu2_tidy

theorem replayBody_tidy {w : BitVec 32} : Exec.Tidies (replayBody w) := by
  unfold replayBody
  dsimp only
  split
  · exact alu2_tidy
  · exact alu1_tidy
  · exact alu1_tidy
  · exact replayFloat_tidy
  · exact fmaScalar_tidy
  · exact scalarLoad_tidy
  · exact scalarLoad_tidy
  · exact scalarStore_tidy
  · exact vintVV_tidy
  · exact vintVS_tidy
  · exact ite_holds vfpV_tidy vfpVV_tidy
  · exact ite_holds vfclampBody_tidy (ite_holds vfpS_tidy vfpVS_tidy)
  · exact ite_holds vmaccBody_tidy vfmaBody_tidy
  · exact ite_holds vcmpVS_tidy vcmpVV_tidy
  · exact ite_holds pcountBody_tidy (ite_holds pcountBody_tidy (ite_holds pmaskLogic_tidy pmaskLogic_tidy))
  · exact vmergeBody_tidy
  · exact convertBody_tidy
  · exact loadBody_tidy
  · exact storeBody_tidy
  · exact illegalInstr_tidy

theorem replayInstr_tidy {lead : Nat} {x : RecInstr} {s : State} (h : s.Tidy) : IfOk State.Tidy (replayInstr lead x s) := by
  refine ite_holds (ite_holds (IfOk.ok h) IfOk.error) ?_
  split
  · exact IfOk.error
  · exact IfOk.error
  · exact IfOk.error
  next e =>
    have hs := measureHook_tidy (done := true) (Exec.Tidies.after e replayBody_tidy (ite_holds (beginVector_tidy h) h))
    exact ite_holds IfOk.error (IfOk.ok (hs.setMe (Hart.raise_tidy (Hart.withSaved_tidy hs.me))))

theorem replayPath_tidy {lead : Nat} {l : List RecInstr} {s : State} (h : s.Tidy) : IfOk State.Tidy (replayPath lead l s) := by
  induction l generalizing s with
  | nil => exact IfOk.ok h
  | cons _ _ ih =>
    unfold replayPath
    split
    next e => exact ih ((replayInstr_tidy h) _ e)
    · exact IfOk.error

theorem setCounters_tidy {l : Loop} {j : Nat} {h : Hart} (hh : h.tidy) : (setCounters l j h).tidy := Hart.writeS_tidy (Hart.writeS_tidy hh)

theorem putInductions_tidy {xs : List (Nat × Word)} {h : Hart} (hh : h.tidy) : (putInductions xs h).tidy :=
  ⟨foldl_wf (fun _ h1 _ _ => sparseWf_set _ _ _ _ h1) hh.s, hh.v, hh.p, hh.k, hh.h⟩

theorem replayHart_tidy {l : Loop} {r : Replay} {h : Hart} (hh : h.tidy) : (replayHart l r h).tidy := putInductions_tidy (setCounters_tidy hh)

theorem replayOne_tidy {l : Loop} {r : Replay} {s : State} (h : s.Tidy) : (replayOne l r s).Tidy := by
  unfold replayOne
  dsimp only
  split
  · exact h
  · exact h
  next e =>
    have hs := IfOk.of e (replayPath_tidy ⟨h.mem, replayHart_tidy h.me, h.peer, h.tan, h.away, h.rel⟩)
    exact ⟨(performHeldOf_tidy hs hs.me).1.mem, h.me, h.peer, h.tan, h.away, h.rel⟩

theorem execReplayIteration_tidy {t : Nat} {s : State} (h : s.Tidy) : Leaves (execReplayIteration t s) :=
  Leaves.next (by
    split
    · exact h
    · exact atHart_tidy (fun _ h1 => by
          split
          · split
            · exact ite_holds (replayOne_tidy h1) h1
            · exact h1
          · exact h1) h)

theorem closeFaults_tidy {die reason : Nat} {addr : Word} {s : State} (h : s.Tidy) : (closeFaults die reason addr s).Tidy :=
  ite_holds (syncImage_tidy (State.withFocus_tidy (postMine_tidy h) (Away.waitFor_tidy (State.focusAway_tidy (postMine_tidy h)))))
    (postMine_tidy h)

theorem handBackAt_tidy {l : Loop} {r : Replay} {e : ReplayEnd} {s : State} (h : s.Tidy) : (handBackAt l r e s).Tidy :=
  ite_holds (syncImage_tidy ⟨Mem.publish_tidy h.mem, putInductions_tidy (setCounters_tidy h.me), h.peer, h.tan, h.away, h.rel⟩) (by
    split
    · exact syncImage_tidy ⟨Mem.publish_tidy h.mem, putInductions_tidy (setCounters_tidy h.me), h.peer, h.tan, h.away, h.rel⟩
    · exact ite_holds h (by
          split
          next e2 =>
            exact syncImage_tidy ((Exec.Tidies.after e2 closeSweep_tidy ⟨Mem.publish_tidy h.mem, h.me, h.peer, h.tan, h.away, h.rel⟩).setMe
                (putInductions_tidy (setCounters_tidy h.me)))
          · exact h
          · exact closeFaults_tidy h
          · exact faultContextAll_tidy h
          · exact faultMyKernel_tidy h
          · exact h))

theorem execHandBack_tidy {t : Nat} {s : State} (h : s.Tidy) : Leaves (execHandBack t s) :=
  Leaves.next (by
    split
    · exact h
    · exact atHart_tidy (fun _ h1 =>
          ite_holds h1 (by
            split
            · split
              · split
                · exact handBackAt_tidy h1
                · exact h1
              · exact h1
            · exact h1)) h)

/-! ### Tile descriptors -/

theorem descAddress_tidy {a : BitVec 7} : Exec.Tidies (descAddress a) :=
  .bind coreOnly_tidy
    (fun _ => .bind checkSrc_tidy (fun _ => .bind readS_tidy (fun _ => .bind requireAligned_tidy (fun _ => .pure))))

theorem tdsetBody_tidy {t : BitVec 4} {a : BitVec 7} : Exec.Tidies (tdsetBody t a) :=
  .bind descAddress_tidy (fun _ =>
    .bind readMem_tidy
      (fun _ => .bind require_tidy (fun _ => modState_tidy (fun _ h => ⟨h.mem, h.me, h.peer, Tandem.writeTd_tidy h.tan, h.away, h.rel⟩))))

theorem tdgetBody_tidy {t : BitVec 4} {a : BitVec 7} : Exec.Tidies (tdgetBody t a) :=
  .bind descAddress_tidy
    (fun _ => .bind (modState_tidy (fun _ h => State.seeTds_tidy h)) (fun _ => .getState (fun _ _ => writeMem_tidy)))

theorem validDesc_tidy {t : BitVec 4} : Exec.Tidies (validDesc t) :=
  .bind coreOnly_tidy
    (fun _ => .bind (modState_tidy (fun _ h => State.seeTds_tidy h)) (fun _ => .getState (fun _ _ => .bind require_tidy (fun _ => .pure))))

theorem readEach_tidy {base n n1 : Nat} : Exec.Tidies (readEach base n n1) := by
  induction n generalizing n1 with
  | zero => exact .pure
  | succ _ ih => exact .bind loadBytes_tidy (fun _ => .bind ih (fun _ => .pure))

theorem scldBody_tidy {k : BitVec 3} {t : BitVec 4} : Exec.Tidies (scldBody k t) :=
  .bind validDesc_tidy (fun _ => .bind readEach_tidy (fun _ => modMe_tidy (fun _ h => Hart.writeK_tidy h)))

theorem scstBody_tidy {k : BitVec 3} {t : BitVec 4} : Exec.Tidies (scstBody k t) :=
  .bind coreOnly_tidy
    (fun _ => .bind (modState_tidy (fun _ h => State.seeTds_tidy h)) (fun _ => .getState (fun _ _ => storeFromVstart_tidy)))

theorem tdinvBody_tidy {t : BitVec 4} : Exec.Tidies (tdinvBody t) :=
  .bind coreOnly_tidy (fun _ => modState_tidy (fun _ h => ⟨h.mem, h.me, h.peer, Tandem.writeTd_tidy h.tan, h.away, h.rel⟩))

/-! ### Vector configuration -/

theorem setLength_tidy {d : BitVec 7} {vt req : Nat} : Exec.Tidies (setLength d vt req) :=
  .bind (modState_tidy (fun _ h => closeStrip_tidy h))
    (fun _ => .bind (modMe_tidy (fun _ h => h)) (fun _ => .bind writeS_tidy (fun _ => modState_tidy (fun _ h => takeCheckpoint_tidy h))))

theorem requestedLength_tidy {a : BitVec 7} : Exec.Tidies (requestedLength a) :=
  ite_holds (.getState (fun _ _ => .pure)) (.bind readS_tidy (fun _ => .pure))

theorem vsetlBody_tidy {d a : BitVec 7} {v : BitVec 12} : Exec.Tidies (vsetlBody d a v) :=
  .bind coreOnly_tidy
    (fun _ => .bind checkSrc_tidy (fun _ => .bind checkDst_tidy (fun _ => .bind requestedLength_tidy (fun _ => setLength_tidy))))

theorem vsetrBody_tidy {a : BitVec 7} : Exec.Tidies (vsetrBody a) :=
  .bind coreOnly_tidy
    (fun _ => .bind checkSrc_tidy (fun _ => .bind readS_tidy (fun _ => .bind require_tidy (fun _ => modMe_tidy (fun _ h => h)))))

theorem checkType_tidy {a b : BitVec 7} : Exec.Tidies (checkType a b) :=
  fun _ h =>
    ite_holds (ite_holds (illegalInstr_tidy _ h) h) (ite_holds (by
      split
      · exact ite_holds (illegalInstr_tidy _ h) h
      · exact h) h)

theorem vsetlxBody_tidy {d a b : BitVec 7} : Exec.Tidies (vsetlxBody d a b) :=
  .bind coreOnly_tidy (fun _ =>
    .bind checkType_tidy (fun _ =>
      .bind checkSrc_tidy (fun _ =>
        .bind checkSrc_tidy (fun _ =>
          .bind checkDst_tidy
            (fun _ => .bind requestedLength_tidy (fun _ => .bind readS_tidy (fun _ => ite_holds setLength_tidy illegalInstr_tidy)))))))

theorem vstripBody_tidy : Exec.Tidies (vstripBody) :=
  .bind coreOnly_tidy
    (fun _ => .bind (modState_tidy (fun _ h => closeStrip_tidy h)) (fun _ => modState_tidy (fun _ h => takeCheckpoint_tidy h)))

/-! ### Gather windows -/

theorem checkGather_tidy {a : BitVec 7} : Exec.Tidies (checkGather a) :=
  .getState (fun _ _ => .bind coreOnly_tidy (fun _ => .bind checkTileSrc_tidy (fun _ => checkUnscaled_tidy)))

theorem vgwinBody_tidy {p : BitVec 4} {a : BitVec 7} {m : BitVec 1} : Exec.Tidies (vgwinBody p a m) :=
  .bind checkGather_tidy
    (fun _ => .getState (fun _ _ => .bind readTile_tidy (fun _ => .getState (fun _ _ => .bind putPred_tidy (fun _ => setVstart_tidy)))))

theorem vgwsetBody_tidy {d a : BitVec 7} {m : BitVec 1} : Exec.Tidies (vgwsetBody d a m) :=
  .bind checkGather_tidy (fun _ =>
    .bind checkDst_tidy (fun _ =>
      .bind checkStart0_tidy (fun _ =>
        .getState (fun _ _ =>
          .bind readTile_tidy (fun _ =>
            .getState (fun _ _ => by
              dsimp only
              split
              · exact writeS_tidy
              · exact .bind (modMe_tidy (fun _ h2 => h2)) (fun _ => writeS_tidy)))))))

theorem vconfBody_tidy {p : BitVec 4} {a : BitVec 7} {m : BitVec 1} : Exec.Tidies (vconfBody p a m) :=
  .bind checkGather_tidy
    (fun _ => .bind checkStart0_tidy (fun _ => .getState (fun _ _ => .bind readTile_tidy (fun _ => .getState (fun _ _ => putPred_tidy)))))

theorem vcombBody_tidy {d a b : BitVec 7} {m : BitVec 1} : Exec.Tidies (vcombBody d a b m) :=
  .getState (fun _ _ =>
    .bind checkGather_tidy (fun _ =>
      .bind checkTileSrc_tidy (fun _ =>
        .bind checkTileDst_tidy (fun _ =>
          .bind checkStart0_tidy (fun _ =>
            .bind checkFmt_tidy
              (fun _ => .bind readTile_tidy (fun _ => .bind readTile_tidy (fun _ => .getState (fun _ _ => elementwise_tidy)))))))))

theorem vconfmBody_tidy {d a : BitVec 7} {m : BitVec 1} : Exec.Tidies (vconfmBody d a m) :=
  .getState (fun _ _ =>
    .bind checkGather_tidy (fun _ =>
      .bind checkTileDst_tidy
        (fun _ => .bind checkStart0_tidy (fun _ => .bind readTile_tidy (fun _ => .getState (fun _ _ => elementwise_tidy))))))

theorem vpacknzBody_tidy {d a b : BitVec 7} {m : BitVec 1} : Exec.Tidies (vpacknzBody d a b m) :=
  .getState (fun _ _ =>
    .bind checkGather_tidy (fun _ =>
      .bind checkTileDst_tidy (fun _ =>
        .bind require_tidy (fun _ =>
          .bind checkTileDst_tidy (fun _ =>
            .bind checkStart0_tidy (fun _ =>
              .bind checkDisjoint_tidy (fun _ =>
                .bind checkDisjoint_tidy (fun _ =>
                  .bind checkDisjoint_tidy (fun _ =>
                    .bind readTile_tidy (fun _ =>
                      .getState (fun _ _ =>
                        .bind putRows_tidy (fun _ =>
                          .bind putRows_tidy (fun _ => by
                            split
                            · exact .pure
                            · exact .bind setVstart_tidy (fun _ => raiseSaved_tidy))))))))))))))

theorem execVpacknz_tidy {d a b : BitVec 7} {m : BitVec 1} {s : State} (h : s.Tidy) : Leaves (execVpacknz d a b m s) := by
  have hc := countCovered_tidy h
  unfold execVpacknz
  dsimp only
  split
  next e => exact Leaves.next (recheckWait_tidy hc _ e)
  · split
    next e =>
      have ht := vpacknzBody_tidy.ok (beginVector_tidy hc) e
      split
      · exact Leaves.next (takeTrap_tidy (retire_tidy ht))
      · exact Leaves.next (retire_tidy ht)
    next e => exact Leaves.next (stopped_tidy hc (vpacknzBody_tidy.error (beginVector_tidy hc) e))

/-! ### Reductions and scans -/

theorem checkReduce_tidy {fn : Nat} {d a b : BitVec 7} : Exec.Tidies (checkReduce fn d a b) :=
  .getState (fun _ _ =>
    .bind coreOnly_tidy (fun _ =>
      .bind checkTileSrc_tidy (fun _ =>
        .bind checkTileSrc_tidy (fun _ =>
          .bind checkTileDst_tidy (fun _ =>
            .bind checkUnscaled_tidy (fun _ =>
              .bind checkStart0_tidy
                (fun _ => .whenBind checkFmt_tidy (fun _ => ite_holds (.bind drainedFirst_tidy (fun _ => detViolation_tidy)) .pure))))))))

theorem reduceBody_tidy {fn : Nat} {d a b : BitVec 7} {m : BitVec 1} : Exec.Tidies (reduceBody fn d a b m) :=
  .bind checkReduce_tidy (fun _ =>
    .getState (fun _ _ =>
      .bind readTile_tidy (fun _ =>
        .bind readTile_tidy
          (fun _ => .getState (fun _ _ => ite_holds (.bind (modState_tidy (fun _ h2 => h2)) (fun _ => putRows_tidy)) putRows_tidy)))))

theorem scanBody_tidy {fn : Nat} {d a b : BitVec 7} {m : BitVec 1} : Exec.Tidies (scanBody fn d a b m) :=
  .bind checkReduce_tidy (fun _ =>
    .getState (fun _ _ =>
      .bind readTile_tidy (fun _ =>
        .bind readTile_tidy
          (fun _ => .getState (fun _ _ => ite_holds (.bind (modState_tidy (fun _ h2 => h2)) (fun _ => putRows_tidy)) putRows_tidy)))))

theorem vredrowBody_tidy {d a b : BitVec 7} {m : BitVec 1} : Exec.Tidies (vredrowBody d a b m) :=
  .bind checkReduce_tidy
    (fun _ => .getState (fun _ _ => .bind readTile_tidy (fun _ => .bind readTile_tidy (fun _ => .getState (fun _ _ => putRows_tidy)))))

/-! ### Every instruction and event -/

/-- Arms of one kind are settled by the rule for what runs them. -/
theorem exec_tidy {i : Instr} {s : State} (hs : s.Tidy) : Leaves (exec i s) := by
  cases i with
  | fenceRetire => exact execFenceRetire_tidy hs
  | queueStallEnd => exact execQueueStallEnd_tidy hs
  | matrixComplete => exact execMatrixComplete_tidy hs
  | copyChunkWritten => exact execCopyChunkWritten_tidy hs
  | copyRetire => exact execCopyRetire_tidy hs
  | copyErrorTrap => exact execCopyErrorTrap_tidy hs
  | replayIteration => exact execReplayIteration_tidy hs
  | handBack => exact execHandBack_tidy hs
  | pagerResume => exact execPagerResume_tidy hs
  | pagerUnservable => exact execPagerUnservable_tidy hs
  | faultRecordPost => exact execFaultRecordPost_tidy hs
  | progressExpiry => exact execProgressExpiry_tidy hs
  | preempt => exact execPreempt_tidy hs
  | stripBufferDrain => exact execStripBufferDrain_tidy hs
  | stripTimeout => exact execStripTimeout_tidy hs
  | writeApply => exact execWriteApply_tidy hs
  | recheckSecondRun => exact execRecheckSecondRun_tidy hs
  | recheckForce => exact execRecheckForce_tidy hs
  | knownAnswerOp => exact execKnownAnswerOp_tidy hs
  | knownAnswerSweep => exact execKnownAnswerSweep_tidy hs
  | qtailWrite => exact execQtailWrite_tidy hs
  | enable => exact execEnable_tidy hs
  | disable => exact execDisable_tidy hs
  | clrfault => exact execClrfault_tidy hs
  | missClear => exact execMissClear_tidy hs
  | registerWrite => exact execRegisterWrite_tidy hs
  | schedulerScan => exact execSchedulerScan_tidy hs
  | queueSwitchIn => exact execQueueSwitchIn_tidy hs
  | queueAging => exact execQueueAging_tidy hs
  | packetTake => exact execPacketTake_tidy hs
  | tandemDispatch => exact execTandemDispatch_tidy hs
  | kernelComplete => exact execKernelComplete_tidy hs
  | kernelFaultRecord => exact execKernelFaultRecord_tidy hs
  | cancel => exact execCancel_tidy hs
  | release => exact execRelease_tidy hs
  | queueCreate => exact execQueueCreate_tidy hs
  | bind => exact execBind_tidy hs
  | destroy => exact execDestroy_tidy hs
  | contextReclaim => exact execContextReclaim_tidy hs
  | shootdown => exact execShootdown_tidy hs
  | shootdownComplete => exact execShootdownComplete_tidy hs
  | vectorEntryWrite => exact execVectorEntryWrite_tidy hs
  | vectorEntryRead => exact execVectorEntryRead_tidy hs
  | ttModeEnable => exact execTtModeEnable_tidy hs
  | ttSlotStart => exact execTtSlotStart_tidy hs
  | ttSlotEnd => exact execTtSlotEnd_tidy hs
  | ppsInput => exact execPpsInput_tidy hs
  | timeOfDay => exact execTimeOfDay_tidy hs
  | energyWindow => exact execEnergyWindow_tidy hs
  | budgetTableWrite => exact execBudgetTableWrite_tidy hs
  | classTableWrite => exact execClassTableWrite_tidy hs
  | peerRouteWrite => exact execPeerRouteWrite_tidy hs
  | peerRequest => exact execPeerRequest_tidy hs
  | quiesce => exact execQuiesce_tidy hs
  | portResume => exact execPortResume_tidy hs
  | portReset => exact execPortReset_tidy hs
  | partnerDetected => exact execPartnerDetected_tidy hs
  | partnerLost => exact execPartnerLost_tidy hs
  | trainingDone => exact execTrainingDone_tidy hs
  | laneFailure => exact execLaneFailure_tidy hs
  | flitReceive => exact execFlitReceive_tidy hs
  | flitAckTimeout => exact execFlitAckTimeout_tidy hs
  | hostMemAccess => exact execHostMemAccess_tidy hs
  | resume => exact execResume_tidy hs
  | hold => exact execHold_tidy hs
  | debugRelease => exact execDebugRelease_tidy hs
  | historyEnable => exact execHistoryEnable_tidy hs
  | pcSample => exact execPcSample_tidy hs
  | dropRecord => exact execDropRecord_tidy hs
  | trialEnd => exact execTrialEnd_tidy hs
  | deviceReset => exact execDeviceReset_tidy
  | challenge => exact execChallenge_tidy hs
  | firmwareDebugUnlock => exact execFirmwareDebugUnlock_tidy hs
  | kernelDebugUnlock => exact execKernelDebugUnlock_tidy hs
  | attestationReport => exact execAttestationReport_tidy hs
  | keyLoad => exact execKeyLoad_tidy hs
  | checkpoint => exact execCheckpoint_tidy hs
  | checkpointDone => exact execCheckpointDone_tidy hs
  | recoveryReturn => exact execRecoveryReturn_tidy hs
  | functionReady => exact execFunctionReady_tidy hs
  | illegalInstruction => exact execIllegalInstruction_tidy hs
  | memoryReply => exact execMemoryReply_tidy hs
  | debugRelock => exact execDebugRelock_tidy hs
  | traceEnable => exact execTraceEnable_tidy hs
  | contextCreate => exact execContextCreate_tidy hs
  | add | sub | and | or | xor | andn | sll | srl | sra | slt | sltn | min | max | minn | maxn | mul | mulh | mulhn | div | divn | rem
  | remn | addw | subw | sllw | srlw | sraw => exact runScalar_tidy alu2_tidy hs
  | clz | ctz | popc | addi | andi | ori | xori | slli | srli | srai | slti => exact runScalar_tidy alu1_tidy hs
  | lui | addpc => exact runScalar_tidy aluConst_tidy hs
  | faddS | fsubS | fmulS | fdivS | fminS | fmaxS | feqS | fltS | fleS | faddD | fsubD | fmulD | fdivD | fminD | fmaxD | feqD | fltD | fleD
  | fsgcS | fsgiS | fsgxS => exact runScalar_tidy falu2_tidy hs
  | fsqrtS | fclassS | fcvtSI | fcvtIS | fsqrtD | fcvtDS | fcvtSD | fcvtDI | fcvtID | fcvtHS | fcvtSH => exact runScalar_tidy falu1_tidy hs
  | fmaS | fmsS | fnmaS | fmaD | fmsD | fnmaD => exact runScalar_tidy fmaScalar_tidy hs
  | beqz | bnez | bltz | bgez | bgtz | blez => exact runBranch_tidy branchZ_tidy hs
  | beq | bne | blt | bge | bltn | bgen => exact runBranch_tidy branch2_tidy hs
  | j => exact runBranch_tidy jumpBody_tidy hs
  | jl => exact runBranch_tidy jumpLinkBody_tidy hs
  | jlr => exact runBranch_tidy jumpLinkRegBody_tidy hs
  | ldg | ldgz | lds => exact runScalar_tidy scalarLoad_tidy hs
  | stg | sts => exact runScalar_tidy scalarStore_tidy hs
  | ldaW | ldaD | ldasW | ldasD => exact runScalar_tidy acquireLoad_tidy hs
  | stlW | stlD | stlsW | stlsD => exact runScalar_tidy releaseBody_tidy hs
  | fenceAcq => exact execFenceAcq_tidy hs
  | fenceRel => exact execFenceRel_tidy hs
  | fenceAr => exact execFenceAr_tidy hs
  | fenceSc => exact execFenceSc_tidy hs
  | fenceIo => exact execFenceIo_tidy hs
  | fenceEng => exact execFenceEng_tidy hs
  | amgAdd | amgAnd | amgOr | amgXor | amgMin | amgMax | amgMinn | amgMaxn | amgSwp | amgCas | amgFadd | amgInc | amsAdd | amsAnd | amsOr
  | amsXor | amsMin | amsMax | amsMinn | amsMaxn | amsSwp | amsCas | amsFadd | amsInc => exact runScalar_tidy atomicBody_tidy hs
  | sysc c => exact execSysc_tidy (w := c) hs
  | tret => exact execTret_tidy hs
  | brk c => exact execBrk_tidy (w := c) hs
  | wbase => exact runScalar_tidy wbaseBody_tidy hs
  | pause => exact execPause_tidy hs
  | csrrd => exact runScalar_tidy csrReadBody_tidy hs
  | csrwr | csrset | csrclr => exact runScalar_tidy csrWriteBody_tidy hs
  | spawn => exact runScalar_tidy spawnBody_tidy hs
  | exit => exact execExit_tidy hs
  | join => exact runScalar_tidy joinBody_tidy hs
  | leave => exact runScalar_tidy leaveBody_tidy hs
  | gsize | grank | tidg => exact runScalar_tidy groupValue_tidy hs
  | gbar => exact execGbar_tidy hs
  | binit | bexp | barv | bwait | btest | binitG | bexpG | barvG | bwaitG | btestG => exact runBarrier_tidy barBody_tidy hs
  | bqpush => exact runScalar_tidy bqpushBody_tidy hs
  | qstat => exact runScalar_tidy qstatBody_tidy hs
  | qdrain => exact runScalar_tidy qdrainBody_tidy hs
  | bqt | bqf => exact runBranch_tidy bqBranch_tidy hs
  | vsetl => exact runScalar_tidy vsetlBody_tidy hs
  | vsetr => exact runScalar_tidy vsetrBody_tidy hs
  | vsetlx => exact runScalar_tidy vsetlxBody_tidy hs
  | vstrip => exact runScalar_tidy vstripBody_tidy hs
  | vadd | vsub | vmul | vmulh | vmulhn | vand | vor | vxor | vsll | vsrl | vsra | vmin | vmax | vminn | vmaxn | vsadd =>
    exact runVector_tidy vintVV_tidy hs
  | vaddVs | vsubVs | vmulVs | vmulhVs | vmulhnVs | vandVs | vorVs | vxorVs | vsllVs | vsrlVs | vsraVs | vminVs | vmaxVs | vminnVs
  | vmaxnVs | vsaddVs => exact runVector_tidy vintVS_tidy hs
  | vfadd | vfsub | vfmul | vfdiv | vfmin | vfmax | vfsgc => exact runVector_tidy vfpVV_tidy hs
  | vfsqrt | vfabs | vfneg | vfrece | vfrsqe | vfexp2e | vfclass => exact runVector_tidy vfpV_tidy hs
  | vfaddw | vfmulw => exact runVector_tidy vfpWide_tidy hs
  | vfaddVs | vfsubVs | vfmulVs | vfdivVs | vfminVs | vfmaxVs | vfsgcVs => exact runVector_tidy vfpVS_tidy hs
  | vfsqrtVs | vfabsVs | vfnegVs | vfreceVs | vfrsqeVs | vfexp2eVs | vfclassVs => exact runVector_tidy vfpS_tidy hs
  | vfclamp => exact runVector_tidy vfclampBody_tidy hs
  | vfma | vfms | vfnma | vfnms | vfmaX | vfmsX | vfnmaX | vfnmsX => exact runVector_tidy vfmaBody_tidy hs
  | vfmaw | vfmawX => exact runVector_tidy vfmawBody_tidy hs
  | vmacc | vmaccX => exact runVector_tidy vmaccBody_tidy hs
  | vseq | vsne | vslt | vsle | vsltn | vslen | vfeq | vfne | vflt | vfle | vfunord => exact runVector_tidy vcmpVV_tidy hs
  | vsltX | vsgtX | vfltX | vfgtX | vseqX => exact runVector_tidy vcmpVS_tidy hs
  | pand | por | pxor | pandn | pnot => exact runVector_tidy pmaskLogic_tidy hs
  | pset | pclr => exact runVector_tidy pmaskAll_tidy hs
  | pcut | pcuti => exact runVector_tidy pcutBody_tidy hs
  | ppop | pfirst => exact runVector_tidy pcountBody_tidy hs
  | pfromv => exact runVector_tidy pfromvBody_tidy hs
  | ptov => exact runVector_tidy ptovBody_tidy hs
  | vslideup | vslidedn | vslide1up | vslide1dn => exact runVector_tidy slideBody_tidy hs
  | vpermi => exact runVector_tidy vpermiBody_tidy hs
  | vcompress => exact runVector_tidy vcompressBody_tidy hs
  | vexpand => exact runVector_tidy vexpandBody_tidy hs
  | vmerge => exact runVector_tidy vmergeBody_tidy hs
  | vsplat => exact runVector_tidy vsplatBody_tidy hs
  | vmvxs => exact runVector_tidy vmvxsBody_tidy hs
  | vrowbc => exact runVector_tidy vrowbcBody_tidy hs
  | vtrans => exact runVector_tidy vtransBody_tidy hs
  | vredo | vredt | vredu | vfredmin | vfredmax | vredsum | vredmin | vredmax | vredand | vredor => exact runVector_tidy reduceBody_tidy hs
  | vscano | vscant | vscanu | viscan => exact runVector_tidy scanBody_tidy hs
  | vredrow => exact runVector_tidy vredrowBody_tidy hs
  | vcvtf | vcvtfi | vcvtif | vcvti => exact runVector_tidy convertBody_tidy hs
  | vqnt => exact runVector_tidy vqntBody_tidy hs
  | vdqnt => exact runVector_tidy vdqntBody_tidy hs
  | vbscale => exact runVector_tidy vbscaleBody_tidy hs
  | vindex => exact runVector_tidy vindexBody_tidy hs
  | vld | vlds | vldx | vldrow | vldsh | vldshs | vldshrow | vldshx => exact runVector_tidy loadBody_tidy hs
  | vldff => exact runVector_tidy vldffBody_tidy hs
  | vldseg => exact runVector_tidy vldsegBody_tidy hs
  | vldbc => exact runVector_tidy vldbcBody_tidy hs
  | vst | vsts | vstx | vstrow | vstsh | vstshs | vstshrow | vstshx => exact runVector_tidy storeBody_tidy hs
  | vstseg => exact runVector_tidy vstsegBody_tidy hs
  | vstxaddo | vstxadd | vstshxaddo | vstshxadd => exact runVector_tidy scatterBody_tidy hs
  | vgwin => exact runVector_tidy vgwinBody_tidy hs
  | vgwset => exact runVector_tidy vgwsetBody_tidy hs
  | vconf => exact runVector_tidy vconfBody_tidy hs
  | vcomb => exact runVector_tidy vcombBody_tidy hs
  | vconfm => exact runVector_tidy vconfmBody_tidy hs
  | vpacknz => exact execVpacknz_tidy hs
  | mmac | mmacn | mmaco | mmacs => exact runKeep_tidy mmaBody_tidy hs
  | mzcfg => exact runKeep_tidy mzcfgBody_tidy hs
  | mzero => exact runKeep_tidy mzeroBody_tidy hs
  | mzld => exact runTileWrite_tidy mzldBody_tidy hs
  | mzst => exact runKeep_tidy mzstBody_tidy hs
  | mzrv => exact runKeep_tidy mzrvBody_tidy hs
  | mzwv => exact runTileWrite_tidy mzwvBody_tidy hs
  | manch => exact runKeep_tidy manchBody_tidy hs
  | mscan => exact runStep_tidy mscanBody_tidy hs
  | mcarry => exact runKeep_tidy mcarryBody_tidy hs
  | mcarryst => exact runKeep_tidy mcarrystBody_tidy hs
  | mcommit => exact runKeep_tidy mcommitBody_tidy hs
  | mwait => exact runKeep_tidy mwaitBody_tidy hs
  | mgain => exact runKeep_tidy mgainBody_tidy hs
  | mstat => exact runKeep_tidy mstatBody_tidy hs
  | tdset => exact runScalar_tidy tdsetBody_tidy hs
  | tdget => exact runScalar_tidy tdgetBody_tidy hs
  | scld => exact runScalar_tidy scldBody_tidy hs
  | scst => exact runKeep_tidy scstBody_tidy hs
  | tdinv => exact runScalar_tidy tdinvBody_tidy hs
  | cpy | cpyseg => exact runScalar_tidy cpyBody_tidy hs
  | cpyb => exact runKeep_tidy cpybBody_tidy hs
  | cpyw => exact runScalar_tidy cpywBody_tidy hs
  | cpyq => exact runScalar_tidy cpyqBody_tidy hs
  | lmark => exact execLmark_tidy hs
  | lmarkSweep => exact execLmarkSweep_tidy hs
  | lend => exact execLend_tidy hs
  | loff => exact runScalar_tidy loffBody_tidy hs
  | rsnew => exact runScalar_tidy rsnewBody_tidy hs
  | rsq => exact runScalar_tidy rsqBody_tidy hs
  | rspol => exact runScalar_tidy rspolBody_tidy hs
  | tmark => exact runScalar_tidy tmarkBody_tidy hs
  | progpt => exact runScalar_tidy progptBody_tidy hs

/-! ### Turns and instruction boundaries -/

theorem tick_tidy {s : State} (h : s.Tidy) : (tick s).Tidy := h

theorem settleAfter_tidy {s : State} (h : s.Tidy) : (settleAfter s).Tidy :=
  answerPeers_tidy (settleHolds_tidy (settleContexts_tidy (settleTt_tidy
    (settleBinds_tidy (flushArea_tidy (settleHistory_tidy (settleAllOwed_tidy (testBarriers_tidy (sampleSources_tidy h)))))))))

theorem thenSettle_tidy {f : State → State} {o : Host.Outcome State Fault Refusal} (hf : ∀ s, s.Tidy → (f s).Tidy) (ho : Leaves o) :
    Leaves (thenSettle f o) := by
  cases o with
  | next t => exact Leaves.next (hf t (ho t rfl))
  | fault => exact Leaves.fault
  | refused => exact fun _ e => nomatch e

theorem passTurn_tidy {s : State} (h : s.Tidy) : (passTurn s).Tidy := by
  unfold passTurn
  split
  · exact State.focus_tidy h
  · exact h

theorem spendTurn_tidy {s : State} (h : s.Tidy) : (spendTurn s).Tidy := h

theorem takeUpset_tidy {s : State} (h : s.Tidy) : IfSome State.Tidy (takeUpset s) := by
  have hcalm : State.Tidy { s with me := { s.me with upset := none } } := h.setMe h.me
  unfold takeUpset
  dsimp only
  split
  · exact .none
  · exact .some (consumeError_tidy hcalm)
  · exact .some (noRewind_tidy hcalm)

theorem boundary_tidy {s : State} (h : s.Tidy) : IfSome State.Tidy (boundary s) :=
  ite_holds (IfSome.some (takeCopyError_tidy h)) (ite_holds (IfSome.some (endTrial_tidy h)) (takeUpset_tidy h))

theorem beforeFetch_tidy {s : State} (h : s.Tidy) : (beforeFetch s).Tidy :=
  ⟨h.mem, ite_holds h.me (setMaskBits_tidy h.me), h.peer, h.tan, h.away, h.rel⟩

theorem atCommit_tidy {s : State} {o : Host.Outcome State Fault Refusal} (h : s.Tidy) (ho : Leaves o) : Leaves (atCommit s o) := by
  unfold atCommit
  split
  · exact ite_holds ho (Leaves.next (freezeCluster_tidy h))
  · exact ho

/-! ### A step -/

theorem runInstr_tidy {s : State} (h : s.Tidy) : Leaves (runInstr s) := by
  unfold runInstr
  split
  next e => exact Leaves.next (applyStop_tidy (fetchAt_tidy.error (beforeFetch_tidy h) e))
  next e =>
    have ht := fetchAt_tidy.ok (beforeFetch_tidy h) e
    exact atCommit_tidy ht (exec_tidy ht)

theorem runTurn_tidy {s : State} (h : s.Tidy) : Leaves (runTurn s) :=
  ite_holds (Leaves.next (passTurn_tidy h)) (by
    split
    next e => exact Leaves.next (spendTurn_tidy ((boundary_tidy h) _ e))
    · exact thenSettle_tidy (fun _ h1 => spendTurn_tidy h1) (runInstr_tidy h))

theorem act_tidy {s : State} (h : s.Tidy) : Leaves (act s) := by
  unfold act
  split
  · exact ite_holds (Leaves.next (tick_tidy h)) (exec_tidy (tick_tidy h))
  · exact ite_holds (Leaves.next (tick_tidy h)) (exec_tidy (tick_tidy h))
  · exact Leaves.next (State.focus_tidy (tick_tidy h))
  · exact runTurn_tidy (tick_tidy h)

theorem step_tidy {s : State} (h : s.Tidy) : Leaves (step s) := thenSettle_tidy (fun _ h1 => settleAfter_tidy h1) (act_tidy h)

/-- Settles O60: what `step` leaves of a canonical state is canonical, as every part of it keeps the form. -/
theorem everyStepKeepsTheTablesCanonical : Obligations.EveryStepKeepsTheTablesCanonical := by
  unfold Obligations.EveryStepKeepsTheTablesCanonical
  exact fun _ _ h e => step_tidy h _ e

end Sys2Proof.Machine
end

section
/-! PROOFS. The pager's answers, shootdowns and the vector table (O52). A change of single tandems is a map over them, read off in one lemma; that no store of a
range is held once its shootdown is complete is an invariant (`State.Steady`) that every function called on the way keeps. -/

namespace Sys2Proof.Machine

open Sys2Proof

/-! ## A change of tandems alone -/

theorem State.focusAway_withFocus (s : State) (x : Away) : (s.withFocus x).focusAway = x := by
  cases h : s.onA <;> simp [State.withFocus, State.focusAway, h]

theorem State.withFocus_focusAway (s : State) : s.withFocus s.focusAway = s := by
  unfold State.withFocus State.focusAway
  split <;> rfl

theorem State.focusAway_t (s : State) : s.focusAway.t = s.tan := by
  unfold State.focusAway
  split <;> rfl

theorem State.allTandems_setAway (s : State) (l : List Away) :
    State.allTandems { s with away := l } = (if s.live then [s.focusAway] else []) ++ l := rfl

@[simp] theorem State.withFocus_live (s : State) (x : Away) : (s.withFocus x).live = s.live := by unfold State.withFocus; split <;> rfl
@[simp] theorem State.withFocus_away (s : State) (x : Away) : (s.withFocus x).away = s.away := by unfold State.withFocus; split <;> rfl
@[simp] theorem State.withFocus_mem (s : State) (x : Away) : (s.withFocus x).mem = s.mem := by unfold State.withFocus; split <;> rfl
@[simp] theorem State.withFocus_paging (s : State) (x : Away) : (s.withFocus x).paging = s.paging := by unfold State.withFocus; split <;> rfl
@[simp] theorem State.withFocus_faults (s : State) (x : Away) : (s.withFocus x).faults = s.faults := by unfold State.withFocus; split <;> rfl
@[simp] theorem State.withFocus_queues (s : State) (x : Away) : (s.withFocus x).queues = s.queues := by unfold State.withFocus; split <;> rfl
@[simp] theorem State.withFocus_kernels (s : State) (x : Away) : (s.withFocus x).kernels = s.kernels := by unfold State.withFocus; split <;> rfl

section
variable {p : Tandem → Bool} {g : Away → Away} {s : State}

theorem mapAway_pure {l : List Away} : mapAway p (fun s x => (s, g x)) s l = (s, l.map (fun x => if p x.t then g x else x)) := by
  induction l with
  | nil => rfl
  | cons x r ih =>
    unfold mapAway
    cases hp : p x.t <;> simp [hp, ih]

/-- A change that looks at nothing but the tandem itself. -/
theorem mapTandems_pure : mapTandems p (fun s x => (s, g x)) s =
    { (if s.live && p s.tan then s.withFocus (g s.focusAway) else s) with away := s.away.map (fun x => if p x.t then g x else x) } := by
  unfold mapTandems
  simp only [mapAway_pure]
  split <;> simp

theorem mapTandems_pure_allTandems :
    (mapTandems p (fun s x => (s, g x)) s).allTandems = s.allTandems.map (fun x => if p x.t then g x else x) := by
  rw [mapTandems_pure, State.allTandems_setAway]
  unfold State.allTandems
  cases hl : s.live <;> cases hp : p s.tan <;> simp [hl, hp, State.focusAway_withFocus, State.focusAway_t]

@[simp] theorem mapTandems_pure_mem : (mapTandems p (fun s x => (s, g x)) s).mem = s.mem := by
  rw [mapTandems_pure]
  dsimp only
  split <;> simp

@[simp] theorem mapTandems_pure_paging : (mapTandems p (fun s x => (s, g x)) s).paging = s.paging := by
  rw [mapTandems_pure]
  dsimp only
  split <;> simp

@[simp] theorem mapTandems_pure_faults : (mapTandems p (fun s x => (s, g x)) s).faults = s.faults := by
  rw [mapTandems_pure]
  dsimp only
  split <;> simp

@[simp] theorem mapTandems_pure_queues : (mapTandems p (fun s x => (s, g x)) s).queues = s.queues := by
  rw [mapTandems_pure]
  dsimp only
  split <;> simp

@[simp] theorem mapTandems_pure_kernels : (mapTandems p (fun s x => (s, g x)) s).kernels = s.kernels := by
  rw [mapTandems_pure]
  dsimp only
  split <;> simp

/-- What holds of a tandem changed, and of one that is not selected, holds of every tandem after the change. -/
theorem mapTandems_pure_forall {Q : Away → Prop} (hg : ∀ x ∈ s.allTandems, p x.t = true → Q (g x))
    (hs : ∀ x ∈ s.allTandems, p x.t = false → Q x) :
    ∀ y ∈ (mapTandems p (fun s x => (s, g x)) s).allTandems, Q y := by
  rw [mapTandems_pure_allTandems]
  refine List.forall_mem_map.2 (fun x hx => ?_)
  split
  next h => exact hg x hx h
  next h => exact hs x hx (Bool.not_eq_true _ ▸ h)

end

section
variable {p : Tandem → Bool} {f : State → Away → State × Away} {s : State}

theorem mapAway_eq_self {l : List Away} (hf : ∀ x ∈ l, p x.t = true → f s x = (s, x)) : mapAway p f s l = (s, l) := by
  induction l with
  | nil => rfl
  | cons x r ih =>
    have hr := ih (fun y hy => hf y (List.mem_cons_of_mem x hy))
    unfold mapAway
    cases hp : p x.t with
    | false => simp [hr]
    | true => simp [hf x List.mem_cons_self hp, hr]

/-- What holds of every tandem changed, and of one that is not selected, holds of every tandem of the list after the change. -/
theorem mapAway_forall {Q : Away → Prop} {l : List Away} (hf : ∀ s x, p x.t = true → Q (f s x).2) (hs : ∀ x : Away, p x.t = false → Q x) :
    ∀ y ∈ (mapAway p f s l).2, Q y := by
  induction l generalizing s with
  | nil => exact fun _ h => nomatch h
  | cons x r ih =>
    unfold mapAway
    cases hp : p x.t with
    | false => exact List.forall_mem_cons.2 ⟨hs x hp, ih⟩
    | true => exact List.forall_mem_cons.2 ⟨hf s x hp, ih⟩

/-- A change that leaves every tandem it selects as it is leaves the state as it is. -/
theorem mapTandems_eq_self (hf : ∀ x ∈ s.allTandems, p x.t = true → f s x = (s, x)) : mapTandems p f s = s := by
  have hmem (x : Away) (hx : x ∈ s.away) : x ∈ s.allTandems := List.mem_append_right _ hx
  have hfocus : (if (s.live && p s.tan) = true then (f s s.focusAway).1.withFocus (f s s.focusAway).2 else s) = s := by
    split
    next h =>
      obtain ⟨hl, hp⟩ := Bool.and_eq_true_iff.1 h
      rw [hf s.focusAway (List.mem_append_left _ (by simp [hl])) (by rw [State.focusAway_t]; exact hp)]
      exact s.withFocus_focusAway
    · rfl
  unfold mapTandems
  dsimp only
  rw [hfocus, mapAway_eq_self (fun x hx => hf x (hmem x hx))]

end

/-! ## What the Thoud's own work leaves alone

Stores performed, writes of kernel areas, stops and faults start no shootdown, and no store is held after them that was not held before. -/

/-- What is watched: the shootdowns, the kernels where they are asked for, and the stores that the harts of a context hold to a range. Where `away` is false,
only the tandem in focus is asked for its stores. -/
structure Watch where
  shoots : List Shootdown
  kernels : Option (List Kernel)
  ctx : Nat
  va : Nat
  len : Nat
  away : Bool

/-- A tandem of the context holds no store to the range. -/
def Away.Clear (w : Watch) (x : Away) : Prop := x.t.ctx = w.ctx → holdsIn w.va w.len x.e = false ∧ holdsIn w.va w.len x.a = false

/-- The state is as the watch has it. -/
def State.Steady (w : Watch) (s : State) : Prop :=
  s.paging.shoots = w.shoots ∧ (∀ l, w.kernels = some l → s.kernels = l) ∧ (s.live = true → s.focusAway.Clear w) ∧
    (w.away = true → ∀ x ∈ s.away, x.Clear w)

theorem holdsIn_of_held {a n : Nat} {g h : Hart} (e : g.held = h.held) : holdsIn a n g = holdsIn a n h := by
  unfold holdsIn
  rw [e]

theorem holdsIn_of_nil {a n : Nat} {h : Hart} (e : h.held = []) : holdsIn a n h = false := by
  unfold holdsIn
  rw [e]
  rfl

/-- Nothing lies in an empty range. -/
theorem holdsIn_empty {a : Nat} {h : Hart} : holdsIn a 0 h = false := by
  unfold holdsIn
  rw [List.any_eq_false]
  intro x _ hx
  obtain ⟨_, hb⟩ := Bool.and_eq_true_iff.1 hx
  obtain ⟨b, _, hb⟩ := List.any_eq_true.1 hb
  have := of_decide_eq_true hb
  omega

section
variable {w : Watch} {s : State}

namespace Away.Clear

/-- A tandem of the same context whose harts hold what they held. -/
theorem of_held {x y : Away} (h : x.Clear w) (hc : y.t.ctx = x.t.ctx) (he : y.e.held = x.e.held) (ha : y.a.held = x.a.held) : y.Clear w := by
  intro hy
  rw [holdsIn_of_held he, holdsIn_of_held ha]
  exact h (hc ▸ hy)

theorem of_nil {x : Away} (he : x.e.held = []) (ha : x.a.held = []) : x.Clear w := fun _ => ⟨holdsIn_of_nil he, holdsIn_of_nil ha⟩

end Away.Clear

namespace State.Steady

theorem withFocus {x : Away} (h : s.Steady w) (hx : x.Clear w) : (s.withFocus x).Steady w := by
  obtain ⟨hs, hk, _, ha⟩ := h
  refine ⟨by simpa using hs, by simpa using hk, fun _ => ?_, by simpa using ha⟩
  rw [State.focusAway_withFocus]
  exact hx

/-- A watch of an empty range sees no store. -/
theorem of_empty {l : List Shootdown} {ks : Option (List Kernel)} {c a : Nat} {b : Bool} (hs : s.paging.shoots = l)
    (hk : ∀ l, ks = some l → s.kernels = l) : s.Steady ⟨l, ks, c, a, 0, b⟩ :=
  ⟨hs, hk, fun _ _ => ⟨holdsIn_empty, holdsIn_empty⟩, fun _ _ _ _ => ⟨holdsIn_empty, holdsIn_empty⟩⟩

/-- Every tandem is clear where all are asked. -/
theorem allClear (h : s.Steady w) (hw : w.away = true) : ∀ x ∈ s.allTandems, x.Clear w := by
  obtain ⟨_, _, hf, ha⟩ := h
  refine List.forall_mem_append.2 ⟨?_, ha hw⟩
  intro x hx
  split at hx
  next hl => exact List.mem_singleton.1 hx ▸ hf hl
  · exact nomatch hx

end State.Steady

/-! ### Maps over tandems -/

/-- What a step of a map over tandems has to keep. -/
def KeepsSteady (w : Watch) (f : State → Away → State × Away) : Prop :=
  ∀ s x, s.Steady w → (f s x).1.Steady w ∧ (x.Clear w → (f s x).2.Clear w)

variable {p : Tandem → Bool} {f : State → Away → State × Away}

theorem mapAway_steady {l : List Away} (hf : KeepsSteady w f) (h : s.Steady w) :
    (mapAway p f s l).1.Steady w ∧ ((∀ x ∈ l, x.Clear w) → ∀ x ∈ (mapAway p f s l).2, x.Clear w) := by
  induction l generalizing s with
  | nil => exact ⟨h, fun h => h⟩
  | cons x r ih =>
    unfold mapAway
    cases hp : p x.t with
    | false =>
      obtain ⟨hs, hr⟩ := ih h
      exact ⟨hs, fun hl => List.forall_mem_cons.2 ⟨(List.forall_mem_cons.1 hl).1, hr (List.forall_mem_cons.1 hl).2⟩⟩
    | true =>
      obtain ⟨h1, hx⟩ := hf s x h
      obtain ⟨hs, hr⟩ := ih h1
      exact ⟨hs, fun hl => List.forall_mem_cons.2 ⟨hx (List.forall_mem_cons.1 hl).1, hr (List.forall_mem_cons.1 hl).2⟩⟩

theorem mapTandems_steady (hf : KeepsSteady w f) (h : s.Steady w) : (mapTandems p f s).Steady w := by
  have hfocus : State.Steady w (if (s.live && p s.tan) = true then (f s s.focusAway).1.withFocus (f s s.focusAway).2 else s) := by
    split
    next hl =>
      obtain ⟨hs, hx⟩ := hf s s.focusAway h
      exact hs.withFocus (hx (h.2.2.1 (Bool.and_eq_true_iff.1 hl).1))
    · exact h
  obtain ⟨⟨hs, hk, hf', _⟩, hr⟩ := mapAway_steady (p := p) (l := _) hf hfocus
  exact ⟨hs, hk, hf', fun hw => hr (hfocus.2.2.2 hw)⟩

/-- A map that clears every tandem it selects, where those that it does not select are no concern of the watch. -/
theorem mapTandems_clears {l : List Shootdown} {ks : Option (List Kernel)} {c a n : Nat} (hf : ∀ w, KeepsSteady w f)
    (hsel : ∀ s x, (f s x).2.Clear ⟨l, ks, c, a, n, true⟩) (hout : ∀ t : Tandem, p t = false → t.ctx ≠ c)
    (hs : s.paging.shoots = l) (hk : ∀ l, ks = some l → s.kernels = l) : (mapTandems p f s).Steady ⟨l, ks, c, a, n, true⟩ := by
  have h0 : s.Steady ⟨l, ks, c, a, 0, false⟩ := .of_empty hs hk
  have hfocus : State.Steady ⟨l, ks, c, a, n, false⟩
      (if (s.live && p s.tan) = true then (f s s.focusAway).1.withFocus (f s s.focusAway).2 else s) := by
    split
    · obtain ⟨⟨hs1, hk1, _, _⟩, _⟩ := hf _ s s.focusAway h0
      refine ⟨by simpa using hs1, by simpa using hk1, fun _ => ?_, fun h => nomatch h⟩
      rw [State.focusAway_withFocus]
      exact hsel s s.focusAway
    next hnot =>
      refine ⟨hs, hk, fun hl hc => ?_, fun h => nomatch h⟩
      rw [State.focusAway_t] at hc
      exact absurd hc (hout s.tan (by simpa [hl] using hnot))
  obtain ⟨⟨hs, hk, hf', _⟩, _⟩ := mapAway_steady (p := p) (l := _) (hf _) hfocus
  refine ⟨hs, hk, hf', fun _ => ?_⟩
  exact mapAway_forall (Q := Away.Clear ⟨l, ks, c, a, n, true⟩) (fun s x _ => hsel s x) (fun x hx hc => absurd hc (hout x.t hx))

/-! ### Stores performed -/

theorem bankCycles_held {t : Tandem} {h : Hart} : (bankCycles s t h).held = h.held := by
  unfold bankCycles
  split <;> rfl

theorem Hart.withShown_held {h : Hart} {x : Option Saved} : (h.withShown x).held = h.held := by
  unfold Hart.withShown
  split <;> rfl

theorem hartFromImage_held {img : List (Nat × Byte)} {base stage : Nat} {h : Hart} : (hartFromImage img base stage h).held = h.held :=
  Hart.withShown_held

theorem imageWritten_clear {bs : List (Nat × Byte × Byte)} {x : Away} (hx : x.Clear w) : (imageWritten s bs x).Clear w := by
  unfold imageWritten
  split
  · exact hx
  · refine hx.of_held rfl hartFromImage_held ?_
    dsimp only
    split
    · exact bankCycles_held
    · exact hartFromImage_held

theorem writeImages_steady {bs : List (Nat × Byte × Byte)} (h : s.Steady w) : (writeImages bs s).Steady w :=
  mapTandems_steady (fun _ _ h1 => ⟨h1, fun hx => ite_holds (P := Away.Clear w) (imageWritten_clear hx) hx⟩) h

theorem landShared_steady {unit : Nat} {bs : List HeldByte} (h : s.Steady w) : (landShared s unit bs).Steady w :=
  foldl_holds (P := State.Steady w) (fun _ h1 _ _ => h1) h

theorem landBytes_steady {d hart va strip : Nat} {posted : Bool} {bs : List (Nat × Byte × Byte)} (h : s.Steady w) :
    (landBytes s d hart va posted strip bs).1.Steady w := by
  unfold landBytes
  split
  · exact h
  · split
    · exact ite_holds (P := State.Steady w) (writeImages_steady h) h
    · split
      · split <;> exact h
      · exact h
    · split <;> exact h
    · exact h
    · exact h

theorem performOne_steady {d unit hart : Nat} {x : HeldStore} (h : s.Steady w) : (performOne s d unit hart x).1.Steady w := by
  unfold performOne
  split
  · exact landShared_steady h
  · exact landBytes_steady h

theorem performAll_steady {d unit hart : Nat} {l : List HeldStore} (h : s.Steady w) : (performAll s d unit hart l).1.Steady w := by
  induction l generalizing s with
  | nil => exact h
  | cons x r ih => exact ih (performOne_steady h)

theorem performHeldOf_steady {t : Tandem} {onA : Bool} {h : Hart} (hs : s.Steady w) : (performHeldOf s t onA h).1.Steady w := by
  unfold performHeldOf
  split
  · exact hs
  · exact performAll_steady hs

theorem performHeldOf_held {t : Tandem} {onA : Bool} {h : Hart} : (performHeldOf s t onA h).2.held = [] := by
  unfold performHeldOf
  split
  next e => exact e
  · rfl

/-! ### Writes of the Thoud -/

theorem setAccessed_steady {kind : AccessKind} {x : Xlat} (h : s.Steady w) : (setAccessed s kind x).Steady w := by
  unfold setAccessed
  dsimp only
  split
  · exact h
  · split
    · exact ite_holds (P := State.Steady w) h h
    · exact h

theorem installXlat_steady {e : TlbEntry} (h : s.Steady w) : (installXlat s e).Steady w :=
  ite_holds (P := State.Steady w) h (ite_holds (P := State.Steady w) h h)

theorem markXlat_steady {kind : AccessKind} {x : Xlat} (h : s.Steady w) : (markXlat s kind x).Steady w := by
  refine setAccessed_steady ?_
  unfold cacheXlat
  split
  · exact installXlat_steady h
  · exact h

theorem sysWrite_steady {c : Context} {d a : Nat} {bs : List Byte} {view : Bool} (h : s.Steady w) :
    IfOk (State.Steady w) (sysWrite s c d a bs view) := by
  unfold sysWrite
  split
  next xs _ =>
    have hmark : State.Steady w (xs.foldl (fun s x => markXlat s .store x) s) := foldl_holds (P := State.Steady w) (fun _ h1 _ _ => markXlat_steady h1) h
    split
    · exact .error
    · dsimp only
      split
      · exact .ok hmark
      · split
        · split
          · exact .error
          · exact .ok (landBytes_steady hmark)
        · exact .ok (landBytes_steady hmark)
  · exact .error

theorem storeImage_steady {t : Tandem} {e a : Hart} (h : s.Steady w) : IfOk (State.Steady w) (storeImage s t e a) := by
  unfold storeImage
  split
  · exact .ok h
  · exact .map (fun _ => foldl_holds (P := State.Steady w) (fun _ h1 _ _ => markXlat_steady h1) h)

theorem writeImage_steady {t : Tandem} {e a : Hart} (h : s.Steady w) : (writeImage s t e a).Steady w := by
  unfold writeImage
  split
  next e => exact storeImage_steady h _ e
  · exact h

theorem endStay_steady {t : Tandem} (h : s.Steady w) : (endStay s t).Steady w := by
  unfold endStay
  split
  · exact ite_holds (P := State.Steady w) h h
  · exact h

theorem declineLoop_held {code : Nat} {h : Hart} : (declineLoop code h).held = h.held := by
  unfold declineLoop
  split
  · split <;> rfl
  · rfl

theorem leaveSlot_keeps {reason : Nat} : KeepsSteady w (leaveSlot reason) := by
  intro s x h
  unfold leaveSlot
  split
  · refine ⟨writeImage_steady (endStay_steady (performHeldOf_steady (performHeldOf_steady h))), fun _ => .of_nil ?_ ?_⟩
    · exact declineLoop_held.trans (bankCycles_held.trans performHeldOf_held)
    · exact declineLoop_held.trans (bankCycles_held.trans performHeldOf_held)
  · exact ⟨h, fun hx => hx⟩

theorem faultContextAll_steady {n : Nat} (h : s.Steady w) : (faultContextAll s n).Steady w :=
  mapTandems_steady leaveSlot_keeps (ite_holds (P := State.Steady w) h h)

theorem thoudWrite_steady {faults : Bool} {c : Context} {d a : Nat} {bs : List Byte} (h : s.Steady w) : (thoudWrite faults s c d a bs).Steady w := by
  unfold thoudWrite
  dsimp only
  split
  · exact h
  · split
    · exact h
    · split
      next e => exact sysWrite_steady h _ e
      · exact ite_holds (P := State.Steady w) h (ite_holds (P := State.Steady w) (faultContextAll_steady h) h)

theorem writeTandemEntry_steady {t : Tandem} (h : s.Steady w) : (writeTandemEntry s t).Steady w := by
  unfold writeTandemEntry
  split
  · exact thoudWrite_steady h
  · exact h

theorem flushArea_steady (h : s.Steady w) : (flushArea s).Steady w := by
  refine foldl_holds (P := State.Steady w) (fun t ht x _ => ?_) h
  split
  · exact ht
  · split
    · split
      next e => exact sysWrite_steady ht _ e
      · exact ite_holds (P := State.Steady w) ht ht
    · exact thoudWrite_steady ht

/-! ### Stops -/

theorem dropLoop_steady {t : Tandem} {h : Hart} (hs : s.Steady w) : (dropLoop s t h).1.Steady w := by
  unfold dropLoop clearAct
  split
  · split
    · exact hs
    · exact thoudWrite_steady hs
  · exact hs

theorem dropLoop_held {t : Tandem} {h : Hart} : (dropLoop s t h).2.held = h.held := rfl

theorem leaveAll_steady {t : Tandem} (h : s.Steady w) : (leaveAll s t).Steady w := ite_holds (P := State.Steady w) h h

theorem stopTandem_keeps {discard : Nat → Bool} : KeepsSteady w (stopTandem discard) := by
  intro s x h
  unfold stopTandem
  split
  · exact ⟨h, fun hx => hx⟩
  · exact ⟨h, fun hx => hx⟩
  · exact ⟨h, fun hx => hx⟩
  · refine ite_holds (P := fun r : State × Away => r.1.Steady w ∧ (x.Clear w → r.2.Clear w)) ⟨h, fun hx => hx⟩ ?_
    exact ⟨leaveAll_steady (endStay_steady (dropLoop_steady (dropLoop_steady (performHeldOf_steady (performHeldOf_steady h))))),
      fun _ => .of_nil (bankCycles_held.trans (dropLoop_held.trans performHeldOf_held)) (bankCycles_held.trans (dropLoop_held.trans performHeldOf_held))⟩

/-- The tandems of a kernel stop and their entries are written. -/
theorem stopTandems_steady {discard : Nat → Bool} {q : Away → Bool} (h : s.Steady w) :
    (((mapTandems p (stopTandem discard) s).allTandems.filter q).foldl (fun s x => writeTandemEntry s x.t) (mapTandems p (stopTandem discard) s)).Steady w :=
  foldl_holds (P := State.Steady w) (fun _ h1 _ _ => writeTandemEntry_steady h1) (mapTandems_steady stopTandem_keeps h)

theorem stopKernel_steady {ctx csn : Nat} {why : KernelStop} {discard : Nat → Bool} (hw : w.kernels = none) (h : s.Steady w) :
    (stopKernel s ctx csn why discard).Steady w := by
  obtain ⟨hs, _, hc⟩ := h
  unfold stopKernel
  split
  · exact ⟨hs, by simp [hw], hc⟩
  · split
    · exact ⟨hs, by simp [hw], hc⟩
    · exact stopTandems_steady ⟨hs, by simp [hw], hc⟩

/-! ### A store without a port -/

/-- The tandem in focus is the same from its other hart. -/
theorem State.focusAway_other {b : Bool} (hb : s.onA ≠ b) : State.focusAway { s with onA := b, me := s.peer, peer := s.me } = s.focusAway := by
  unfold State.focusAway
  cases h : s.onA <;> cases b <;> simp_all

theorem focus_steady {n : Nat} (hw : w.away = true) (h : s.Steady w) : (s.focus n).Steady w := by
  obtain ⟨hs, hk, hf, ha⟩ := id h
  unfold State.focus
  dsimp only
  split
  · split
    · exact h
    next hon =>
      refine ⟨hs, hk, fun hl => ?_, ha⟩
      rw [State.focusAway_other (by simpa using hon)]
      exact hf hl
  · split
    · exact h
    next x hx =>
      have hrest : ∀ y ∈ s.away.filter (fun y => y.t.uid ≠ n / 2), y.Clear w := fun y hy => ha hw y (List.mem_filter.1 hy).1
      have haway {l : List Away} (hl : ∀ y ∈ l, y.Clear w) : ∀ y ∈ (if s.live then l ++ [s.focusAway] else l), y.Clear w := by
        split
        next hlive => exact List.forall_mem_append.2 ⟨hl, List.forall_mem_singleton.2 (hf hlive)⟩
        · exact hl
      have hxc : x.Clear w := ha hw x (List.mem_of_find?_eq_some hx)
      refine ⟨by simpa using hs, by simpa using hk, fun _ => ?_, fun _ => by simpa using haway hrest⟩
      rw [State.focusAway_withFocus]
      exact hxc

theorem atHart_steady {n : Nat} {f : State → State} (hw : w.away = true) (hf : ∀ s : State, s.Steady w → (f s).Steady w) (h : s.Steady w) :
    (atHart n f s).Steady w := by
  unfold atHart
  split
  · exact h
  · have hd := hf _ (focus_steady (n := n) hw h)
    exact ite_holds (focus_steady hw hd) hd

theorem State.Steady.withTan {t : Tandem} (h : s.Steady w) (ht : t.ctx = s.tan.ctx) : State.Steady w { s with tan := t } := by
  obtain ⟨hs, hk, hf, ha⟩ := h
  refine ⟨hs, hk, fun hl => ?_, ha⟩
  have hx := hf hl
  unfold State.focusAway at hx ⊢
  dsimp only
  split
  next ho =>
    rw [if_pos ho] at hx
    exact hx.of_held ht rfl rfl
  next ho =>
    rw [if_neg ho] at hx
    exact hx.of_held ht rfl rfl

theorem enterBuffer_steady {d : Nat} {r : FaultRecord} (h : s.Steady w) : (enterBuffer s d r).Steady w := ite_holds (P := State.Steady w) h h

theorem postMine_steady {d : Nat} {r : FaultRecord} (h : s.Steady w) : (postMine s d r).Steady w := by
  have hq : (postRecord s d r).1.Steady w := ite_holds (P := fun q : State × Bool => q.1.Steady w) (enterBuffer_steady h) h
  refine ite_holds hq (State.Steady.withTan hq rfl)

theorem stopKernelOpen_steady {ctx csn ftid : Nat} {faddr : Word} {discard : Nat → Bool} (hw : w.kernels = none) (h : s.Steady w) :
    (stopKernelOpen s ctx csn ftid faddr discard).Steady w := stopKernel_steady (s := { s with free := s.free + 1 }) hw h

theorem failPosted_steady (hw : w.kernels = none) (ha : w.away = true) (h : s.Steady w) : (failPosted s).Steady w := by
  unfold failPosted
  split
  · exact h
  next r _ =>
    have hdrop : State.Steady w { s with links := { s.links with requests := s.links.requests.filter (fun q => q.tag ≠ r.tag) } } := h
    dsimp only
    split
    · exact hdrop
    · refine stopKernelOpen_steady hw (atHart_steady ha (fun _ h1 => postMine_steady h1) (mapTandems_steady ?_ hdrop))
      exact fun _ _ h1 => ⟨h1, fun hx => hx⟩

end

/-! ## The pager's answers, shootdowns and the vector table -/

theorem exec_pagerResume {x : Nat} {va : Word} {s : State} : exec (.pagerResume x va) s = execPagerResume x va s := rfl
theorem exec_pagerUnservable {t : Nat} {queue : Bool} {s : State} : exec (.pagerUnservable t queue) s = execPagerUnservable t queue s := rfl
theorem exec_faultRecordPost {die : Nat} {s : State} : exec (.faultRecordPost die) s = execFaultRecordPost die s := rfl
theorem exec_shootdown {x va len : Nat} {s : State} : exec (.shootdown x va len) s = execShootdown x va len s := rfl
theorem exec_shootdownComplete {k : Nat} {s : State} : exec (.shootdownComplete k) s = execShootdownComplete k s := rfl
theorem exec_vectorEntryWrite {idx : Nat} {v : Word} {s : State} : exec (.vectorEntryWrite idx v) s = execVectorEntryWrite idx v s := rfl
theorem exec_vectorEntryRead {idx : Nat} {s : State} : exec (.vectorEntryRead idx) s = execVectorEntryRead idx s := rfl

/-! ### Cached translations -/

theorem dropTranslations_mem {s : State} {asid : Option Nat} {a n : Nat} : (dropTranslations s asid a n).mem = s.mem := by
  cases asid <;> rfl

theorem dropTranslations_shoots {s : State} {asid : Option Nat} {a n : Nat} : (dropTranslations s asid a n).paging.shoots = s.paging.shoots := by
  cases asid <;> rfl

theorem dropTranslations_vtab {s : State} {asid : Option Nat} {a n : Nat} : (dropTranslations s asid a n).paging.vtab = s.paging.vtab := by
  cases asid <;> rfl

theorem dropTranslations_tlb {s : State} {k a n : Nat} :
    (dropTranslations s (some k) a n).paging.tlb = s.paging.tlb.filter (fun e => !e.touches k a n) := rfl

theorem dropTranslations_touches {s : State} {k a n : Nat} : ∀ e ∈ (dropTranslations s (some k) a n).paging.tlb, e.touches k a n = false := by
  intro e he
  rw [dropTranslations_tlb] at he
  simpa using (List.mem_filter.1 he).2

/-! ### A page served -/

/-- A copy that waits for a page served goes on. -/
def Copy.woken (here : Nat → Bool) (p : Copy) : Copy :=
  match p.waiting with
  | some (b, _) => if here b then { p with waiting := none, heldRecord := none } else p
  | none => p

/-- A tandem that waits for a page served goes on, with its copies. -/
def Away.woken (here : Nat → Bool) (y : Away) : Away :=
  let t := match y.t.page with
    | some b => if here b.toNat then { y.t with page := none, heldRecord := none } else y.t
    | none => y.t
  { t := t, e := y.e.mapCopies (Copy.woken here), a := y.a.mapCopies (Copy.woken here) }

/-- A queue of the context that waits for a page served goes on. -/
def Queue.woken (here : Nat → Bool) (x : Nat) (q : Queue) : Queue :=
  match q.page with
  | some b => if q.ctx = x ∧ here b.toNat = true then { q with page := none, heldRecord := none } else q
  | none => q

theorem execPagerResume_of_ctx {s : State} {x : Nat} {va : Word} {c : Context} (hc : s.ctx? x = some c) :
    execPagerResume x va s =
      let k := pageShift s c va.toNat
      let here := samePage s c va.toNat
      let u := mapTandems (fun t => t.ctx == x) (fun s y => (s, y.woken here))
        (dropRecords (dropTranslations s c.asid (va.toNat / 2 ^ k * 2 ^ k) (2 ^ k)) (fun r => c.asid == some r.asid && here r.addr.toNat))
      .next { u with queues := u.queues.map (Queue.woken here x) } := by
  unfold execPagerResume
  rw [hc]
  rfl

section
variable {here : Nat → Bool} {b : Nat}

theorem Copy.woken_waiting {p : Copy} (hb : here b = true) (r : Nat) : (p.woken here).waiting ≠ some (b, r) := by
  unfold Copy.woken
  split
  next b' _ hw =>
    split
    · exact fun h => nomatch h
    next hn =>
      intro h
      rw [hw] at h
      obtain ⟨rfl, _⟩ := Prod.mk.inj (Option.some.inj h)
      exact hn hb
  next hw => exact fun h => nomatch hw ▸ h

theorem Away.woken_page {y : Away} (hb : here b = true) : (y.woken here).t.page.map (·.toNat) ≠ some b := by
  unfold Away.woken
  dsimp only
  split
  next b' hw =>
    split
    · exact fun h => nomatch h
    next hn =>
      intro h
      rw [hw] at h
      obtain rfl : b'.toNat = b := Option.some.inj h
      exact hn hb
  next hw => simp [hw]

theorem Away.woken_copies {y : Away} (hb : here b = true) : ∀ p ∈ (y.woken here).e.copies ++ (y.woken here).a.copies, ∀ r, p.waiting ≠ some (b, r) :=
  List.forall_mem_append.2 ⟨List.forall_mem_map.2 (fun _ _ => Copy.woken_waiting hb), List.forall_mem_map.2 (fun _ _ => Copy.woken_waiting hb)⟩

theorem Queue.woken_page {x : Nat} {q : Queue} (hb : here b = true) : (q.woken here x).ctx = x → (q.woken here x).page.map (·.toNat) ≠ some b := by
  unfold Queue.woken
  split
  next b' hw =>
    split
    · exact fun _ h => nomatch h
    next hn =>
      intro hx h
      rw [hw] at h
      obtain rfl : b'.toNat = b := Option.some.inj h
      exact hn ⟨hx, hb⟩
  next hw => simp [hw]

end

theorem pagerResume_serves {s : State} {x : Nat} {va : Word} {c : Context} (hc : s.ctx? x = some c) :
    ∃ t, exec (.pagerResume x va) s = .next t ∧ t.mem = s.mem ∧
      (∀ b, samePage s c va.toNat b = true →
        (∀ y ∈ t.allTandems, y.t.ctx = x → (y.t.page.map (·.toNat)) ≠ some b ∧ ∀ p ∈ y.e.copies ++ y.a.copies, ∀ r, p.waiting ≠ some (b, r)) ∧
        ∀ q ∈ t.queues, q.ctx = x → (q.page.map (·.toNat)) ≠ some b) ∧
      ∀ a, c.asid = some a → ∀ e ∈ t.paging.tlb, e.touches a (va.toNat / 2 ^ pageShift s c va.toNat * 2 ^ pageShift s c va.toNat)
        (2 ^ pageShift s c va.toNat) = false := by
  rw [exec_pagerResume, execPagerResume_of_ctx hc]
  refine ⟨_, rfl, ?_, fun b hb => ⟨?_, ?_⟩, fun a ha e he => ?_⟩
  · exact mapTandems_pure_mem.trans dropTranslations_mem
  · refine mapTandems_pure_forall (fun y _ _ _ => ⟨Away.woken_page hb, Away.woken_copies hb⟩) (fun y _ hy hx => ?_)
    simp [hx] at hy
  · exact List.forall_mem_map.2 (fun q _ => Queue.woken_page hb)
  · dsimp only at he
    rw [mapTandems_pure_paging, ha] at he
    exact dropTranslations_touches e he

/-! ### A page that cannot be served -/

theorem find?_map_if {α : Type} {p : α → Bool} {f : α → α} (hf : ∀ x, p x = true → p (f x) = true) (l : List α) :
    (l.map (fun x => if p x then f x else x)).find? p = (l.find? p).map f := by
  induction l with
  | nil => rfl
  | cons x r ih =>
    cases hx : p x with
    | false => simpa [hx] using ih
    | true => simp [hx, hf x hx]

/-- A kernel that has no cause yet stops, with the cause in its record. -/
theorem stopKernel_holds {s : State} {ctx csn : Nat} {why : KernelStop} {discard : Nat → Bool} {k : Kernel} (hk : s.kernel? ctx csn = some k)
    (hl : k.live = true) (hs : k.stop = none) (hw : why.cancelled = false) :
    Claims.kernelHolds (stopKernel s ctx csn why discard) ctx csn (fun j => j.stop = some why) := by
  refine ⟨{ k with stop := some why, closing := false }, ?_, rfl⟩
  have hgo : ¬(k.live = false ∨ k.stop ≠ none ∨ (why.cancelled = true ∧ k.closing = true)) := by simp [hl, hs, hw]
  have hkernels : (stopKernel s ctx csn why discard).kernels = (s.modKernel ctx csn (fun k => { k with stop := some why, closing := false })).kernels := by
    unfold stopKernel
    rw [hk]
    dsimp only
    rw [if_neg hgo]
    exact (stopTandems_steady (w := ⟨_, some _, 0, 0, 0, false⟩) (State.Steady.of_empty rfl (fun _ h => Option.some.inj h))).2.1 _ rfl
  have hfind := find?_map_if (p := fun k : Kernel => k.ctx == ctx && k.csn == csn) (f := fun k => { k with stop := some why, closing := false })
    (fun _ h => h) s.kernels
  unfold State.kernel? at hk ⊢
  rw [hkernels]
  exact hfind.trans (by rw [hk]; rfl)

theorem pagerUnservable_stops {s : State} {y : Away} {k : Kernel} {a : Word} (hy : s.tandem? y.t.uid = some y) (hc : s.ctx? y.t.ctx ≠ none)
    (ha : awaited y = some a) (hk : s.kernel? y.t.ctx y.t.csn = some k) (hl : k.live = true) (hs : k.stop = none) :
    ∃ t w, exec (.pagerUnservable y.t.uid false) s = .next t ∧ Claims.kernelHolds t y.t.ctx y.t.csn (fun j => j.stop = some w) ∧
      w.cancelled = false ∧ w.fcode = 2 ∧ w.ftid = y.t.tid ∧ w.faddr = a := by
  obtain ⟨c, hc⟩ := Option.ne_none_iff_exists'.1 hc
  rw [exec_pagerUnservable]
  unfold execPagerUnservable
  simp only [Bool.false_eq_true, if_false, hy, ha, hc]
  refine ⟨_, _, rfl, stopKernel_holds ?_ hl hs rfl, rfl, rfl, rfl, rfl⟩
  unfold State.kernel?
  rw [mapTandems_pure_kernels]
  exact hk

theorem Queue.fault_withoutPage {q : Queue} {code : Nat} : { q.fault code with page := none, heldRecord := none } =
    if q.state = .disabled then { q with page := none, heldRecord := none }
    else { q with state := .faulted, fcode := code, page := none, heldRecord := none } := by
  unfold Queue.fault
  split
  next h => rw [if_pos h]
  next h => rw [if_neg h]

theorem pagerUnservable_queue {s : State} {n : Nat} {q : Queue} (hq : s.queue? n = some q) (hp : q.page ≠ none) :
    exec (.pagerUnservable n true) s = .next (saveQueue { s with queues := s.queues.map (fun q =>
      if q.num == n then
        (if q.state = .disabled then { q with page := none, heldRecord := none }
         else { q with state := .faulted, fcode := 3, page := none, heldRecord := none })
      else q) } n) := by
  rw [exec_pagerUnservable]
  unfold execPagerUnservable
  simp only [if_true, hq, Option.isSome_iff_ne_none.2 hp, changeQueue, State.modQueue, Queue.fault_withoutPage]

/-! ### A held record posted -/

theorem leastBy_ne_none {α : Type} {before : α → α → Bool} {l : List α} (h : l ≠ []) : ∃ x, leastBy before l = some x := by
  cases l with
  | nil => exact absurd rfl h
  | cons x r =>
    unfold leastBy
    split
    · exact ⟨x, rfl⟩
    next y _ => cases before y x <;> simp

/-- The least member by a number is a member, and none has a lower one. -/
theorem leastBy_lt {α : Type} {f : α → Nat} {l : List α} {x : α} (h : leastBy (fun p q => decide (f p < f q)) l = some x) :
    x ∈ l ∧ ∀ z ∈ l, f x ≤ f z := by
  induction l generalizing x with
  | nil => exact nomatch h
  | cons y r ih =>
    unfold leastBy at h
    split at h
    next hr =>
      obtain rfl : y = x := Option.some.inj h
      have : r = [] := by
        by_contra hne
        obtain ⟨z, hz⟩ := leastBy_ne_none (before := fun p q => decide (f p < f q)) hne
        exact nomatch hr.symm.trans hz
      simp [this]
    next z hr =>
      obtain ⟨hz, hmin⟩ := ih hr
      split at h
      next hlt =>
        obtain rfl : z = x := Option.some.inj h
        exact ⟨List.mem_cons_of_mem y hz, List.forall_mem_cons.2 ⟨Nat.le_of_lt (of_decide_eq_true hlt), hmin⟩⟩
      next hge =>
        obtain rfl : y = x := Option.some.inj h
        have hyz : f y ≤ f z := Nat.le_of_not_lt (by simpa using hge)
        exact ⟨List.mem_cons_self, List.forall_mem_cons.2 ⟨Nat.le_refl _, fun v hv => Nat.le_trans hyz (hmin v hv)⟩⟩

theorem enterBuffer_faults {s : State} {d : Nat} {r : FaultRecord} :
    (enterBuffer s d r).faults = sparseSet {} s.faults d { s.faultBuffer d with records := (s.faultBuffer d).records ++ [r] } := by
  unfold enterBuffer
  dsimp only
  split <;> rfl

theorem Away.waitFor_heldRecord {reason : Nat} {x : Away} : (x.waitFor reason).t.heldRecord = x.t.heldRecord := by
  unfold Away.waitFor
  split <;> rfl

/-- A tandem, with its copies, after one record has been posted. -/
def Away.posted (r : FaultRecord) (y : Away) : Away :=
  let why (y : Away) : Nat := if y.replay?.isSome then 18 else if r.reason = 10 then 19 else 15
  let drop (p : Copy) : Copy := if p.heldRecord = some r then { p with heldRecord := none } else p
  let y := { y with e := y.e.mapCopies drop, a := y.a.mapCopies drop }
  if y.t.heldRecord = some r then { y with t := { y.t with heldRecord := none } }.waitFor (why y) else y

theorem Away.posted_heldRecord {r : FaultRecord} {y : Away} : (y.posted r).t.heldRecord ≠ some r := by
  unfold Away.posted
  dsimp only
  split
  · rw [Away.waitFor_heldRecord]
    exact fun h => nomatch h
  next h => exact h

theorem execFaultRecordPost_of_least {s : State} {die : Nat} {r : FaultRecord} (hroom : (s.faultBuffer die).records.length < 1024)
    (hr : leastBy (fun (p q : FaultRecord) => decide (p.age < q.age)) (heldRecords s die) = some r) :
    execFaultRecordPost die s = .next (mapTandems (fun _ => true) (fun s y => (s, y.posted r)) { enterBuffer s die r with
      queues := (enterBuffer s die r).queues.map (fun q => if q.heldRecord = some r then { q with heldRecord := none } else q) }) := by
  unfold execFaultRecordPost
  rw [hr]
  dsimp only
  rw [if_neg (Nat.not_le.2 hroom)]
  congr 2
  funext s y
  unfold Away.posted
  dsimp only
  split <;> rfl

theorem faultRecordPost_posts {s : State} {die : Nat} (hroom : (s.faultBuffer die).records.length < 1024) (hheld : heldRecords s die ≠ []) :
    ∃ r ∈ heldRecords s die, ∃ t, exec (.faultRecordPost die) s = .next t ∧ (∀ z ∈ heldRecords s die, r.age ≤ z.age) ∧
      t.faults = sparseSet {} s.faults die { s.faultBuffer die with records := (s.faultBuffer die).records ++ [r] } ∧
      (∀ y ∈ t.allTandems, y.t.heldRecord ≠ some r) ∧ ∀ q ∈ t.queues, q.heldRecord ≠ some r := by
  obtain ⟨r, hr⟩ := leastBy_ne_none (before := fun (p q : FaultRecord) => decide (p.age < q.age)) hheld
  obtain ⟨hmem, hmin⟩ := leastBy_lt hr
  refine ⟨r, hmem, _, exec_faultRecordPost.trans (execFaultRecordPost_of_least hroom hr), hmin, ?_, ?_, ?_⟩
  · exact mapTandems_pure_faults.trans enterBuffer_faults
  · exact mapTandems_pure_forall (fun y _ _ => Away.posted_heldRecord) (fun _ _ h => nomatch h)
  · rw [mapTandems_pure_queues]
    refine List.forall_mem_map.2 (fun q _ => ?_)
    split
    · exact fun h => nomatch h
    next h => exact h

/-! ### A shootdown begins -/

theorem returnReplay_ended {a n : Nat} {h : Hart} {l : Loop} {r : Replay} (hl : (returnReplay a n h).loop = some l) (hr : l.replay = some r)
    (ht : replayTouches l r a n = true) : r.ended ≠ none := by
  unfold returnReplay at hl
  split at hl
  next hn => exact nomatch hn.symm.trans hl
  next l₀ h₀ =>
    split at hl
    next hn =>
      obtain rfl : l₀ = l := Option.some.inj (h₀.symm.trans hl)
      exact nomatch hn.symm.trans hr
    next r₀ hr₀ =>
      split at hl
      · obtain rfl := Option.some.inj hl
        obtain rfl := Option.some.inj hr
        exact fun h => nomatch h
      next hnot =>
        obtain rfl : l₀ = l := Option.some.inj (h₀.symm.trans hl)
        obtain rfl : r₀ = r := Option.some.inj (hr₀.symm.trans hr)
        intro hnone
        exact hnot (by simp [hnone, ht])

theorem startShootdown_shoots {s : State} {c : Context} {va len : Nat} :
    (startShootdown c va len s).paging.shoots = s.paging.shoots ++ [{ ctx := c.num, asid := c.asid.getD 512, va := va, len := len }] := by
  unfold startShootdown
  dsimp only
  rw [mapTandems_pure_paging, dropTranslations_shoots]

theorem startShootdown_vtab {s : State} {c : Context} {va len : Nat} : (startShootdown c va len s).paging.vtab = s.paging.vtab := by
  unfold startShootdown
  dsimp only
  rw [mapTandems_pure_paging, dropTranslations_vtab]

theorem shootdown_begins {s : State} {x va len a : Nat} {c : Context} (hc : s.ctx? x = some c) (ha : c.asid = some a) :
    ∃ t, exec (.shootdown x va len) s = .next t ∧ t.paging.shoots = s.paging.shoots ++ [{ ctx := c.num, asid := a, va := va, len := len }] ∧
      t.paging.tlb = s.paging.tlb.filter (fun e => !e.touches a va len) ∧ t.mem = s.mem ∧
      ∀ y ∈ t.allTandems, y.t.ctx = c.num → ∀ h ∈ [y.e, y.a], ∀ l r, h.loop = some l → l.replay = some r → replayTouches l r va len = true →
        r.ended ≠ none := by
  rw [exec_shootdown]
  unfold execShootdown
  rw [hc]
  refine ⟨_, rfl, startShootdown_shoots.trans (by rw [ha]; rfl), ?_, ?_, ?_⟩
  · unfold startShootdown
    dsimp only
    rw [mapTandems_pure_paging, ha, dropTranslations_tlb]
  · exact mapTandems_pure_mem.trans dropTranslations_mem
  · refine mapTandems_pure_forall (fun y _ _ _ => ?_) (fun y _ hy hx => ?_)
    · exact List.forall_mem_cons.2 ⟨fun _ _ => returnReplay_ended, List.forall_mem_singleton.2 (fun _ _ => returnReplay_ended)⟩
    · simp [hx] at hy

/-! ### A shootdown completes -/

theorem dropNth_eq_eraseIdx {α : Type} (l : List α) (i : Nat) : dropNth l i = l.eraseIdx i := by
  induction l generalizing i with
  | nil => rfl
  | cons x r ih =>
    cases i with
    | zero => rfl
    | succ i => exact congrArg (x :: ·) (ih i)

theorem holdsIn_iff {a n : Nat} {h : Hart} :
    holdsIn a n h = true ↔ ∃ st ∈ h.held, st.shared = false ∧ ∃ b ∈ st.bytes, a ≤ b.va ∧ b.va < a + n := by
  simp [holdsIn, List.any_eq_true]

/-- A hart of the shootdown's context holds a store to its range. -/
def Shootdown.Holds (x : Shootdown) (u : State) : Prop :=
  ∃ y ∈ u.allTandems, y.t.ctx = x.ctx ∧ ∃ h ∈ [y.e, y.a], ∃ st ∈ h.held, st.shared = false ∧ ∃ b ∈ st.bytes, x.va ≤ b.va ∧ b.va < x.va + x.len

/-- A replay of the shootdown's context has a stream in its range. -/
def Shootdown.Streams (x : Shootdown) (u : State) : Prop :=
  ∃ y ∈ u.allTandems, y.t.ctx = x.ctx ∧ (replayIn x.va x.len y.e = true ∨ replayIn x.va x.len y.a = true)

theorem Shootdown.not_holds_of_clear {s : State} {x : Shootdown} {l : List Shootdown} {ks : Option (List Kernel)} {b : Bool}
    (h : ∀ y ∈ s.allTandems, y.Clear ⟨l, ks, x.ctx, x.va, x.len, b⟩) : ¬x.Holds s := by
  rintro ⟨y, hy, hc, g, hg, hst⟩
  obtain ⟨he, ha⟩ := h y hy hc
  have hfalse : ∀ g ∈ [y.e, y.a], holdsIn x.va x.len g = false := List.forall_mem_cons.2 ⟨he, List.forall_mem_singleton.2 ha⟩
  exact absurd (holdsIn_iff.2 hst) (Bool.not_eq_true _ ▸ hfalse g hg)

section
variable {a n : Nat} {s : State}

theorem performIn_of_clear {onA : Bool} {t : Tandem} {h : Hart} (hh : holdsIn a n h = false) : performIn a n onA s t h = (s, t, h) := by
  simp [performIn, hh]

theorem performIn_clears {onA : Bool} {t : Tandem} {h : Hart} : holdsIn a n (performIn a n onA s t h).2.2 = false := by
  unfold performIn
  split
  · exact holdsIn_of_nil performHeldOf_held
  next hh => exact Bool.not_eq_true _ ▸ hh

/-- Nothing new is held after the stores of a hart are performed. -/
theorem performIn_keeps {b m : Nat} {onA : Bool} {t : Tandem} {h : Hart} (hh : holdsIn b m h = false) :
    holdsIn b m (performIn a n onA s t h).2.2 = false := by
  unfold performIn
  split
  · exact holdsIn_of_nil performHeldOf_held
  · exact hh

theorem performIn_ctx {onA : Bool} {t : Tandem} {h : Hart} : (performIn a n onA s t h).2.1.ctx = t.ctx := by
  unfold performIn
  split <;> rfl

theorem performIn_steady {w : Watch} {onA : Bool} {t : Tandem} {h : Hart} (hs : s.Steady w) : (performIn a n onA s t h).1.Steady w :=
  ite_holds (P := fun r : State × Tandem × Hart => r.1.Steady w) (performHeldOf_steady hs) hs

/-- The held stores of both harts of a tandem are performed where one lies in the range. -/
def performInBoth (a n : Nat) (s : State) (y : Away) : State × Away :=
  let (s, t, e) := performIn a n false s y.t y.e
  let (s, t, h) := performIn a n true s t y.a
  (s, { t := t, e := e, a := h })

theorem performInBoth_ctx {y : Away} : (performInBoth a n s y).2.t.ctx = y.t.ctx := performIn_ctx.trans performIn_ctx

theorem performInBoth_keeps {w : Watch} : KeepsSteady w (performInBoth a n) := by
  intro s y h
  refine ⟨performIn_steady (performIn_steady h), fun hy hc => ?_⟩
  obtain ⟨he, ha⟩ := hy (performInBoth_ctx.symm.trans hc)
  exact ⟨performIn_keeps he, performIn_keeps ha⟩

theorem performInBoth_clears {l : List Shootdown} {ks : Option (List Kernel)} {c : Nat} {b : Bool} {y : Away} :
    (performInBoth a n s y).2.Clear ⟨l, ks, c, a, n, b⟩ := fun _ => ⟨performIn_clears, performIn_clears⟩

theorem performInBoth_of_clear {y : Away} (he : holdsIn a n y.e = false) (ha : holdsIn a n y.a = false) : performInBoth a n s y = (s, y) := by
  unfold performInBoth
  rw [performIn_of_clear he]
  dsimp only
  rw [performIn_of_clear ha]

end

/-- No request has lost its port, so no store performed has. -/
theorem failPosted_of_ports {s : State} (h : ∀ r ∈ s.links.requests, r.port ≠ none) : failPosted s = s := by
  have hnone : s.links.requests.find? (fun r => r.posted && r.port.isNone && r.reply.isNone) = none := by
    refine List.find?_eq_none.2 (fun r hr hp => ?_)
    simp only [Bool.and_eq_true, Option.isNone_iff_eq_none] at hp
    exact h r hr hp.1.2
  unfold failPosted
  rw [hnone]

/-- No write of a kernel area waits. -/
theorem flushArea_of_nil {s : State} (h : s.areaWrites = []) : flushArea s = { s with areaWrites := [] } := by
  unfold flushArea
  rw [h]
  rfl

/-- The state in which a shootdown is complete. -/
def completeShootdown (k : Nat) (x : Shootdown) (u : State) : State :=
  let s := dropTranslations u (some x.asid) x.va x.len
  flushArea { s with mem := publishAll s.mem, paging := { s.paging with shoots := dropNth s.paging.shoots k } }

section
variable {s : State} {k : Nat} {x : Shootdown}

theorem exec_shootdownComplete_of_some (hx : s.paging.shoots[k]? = some x) :
    exec (.shootdownComplete k) s =
      let u := failPosted (mapTandems (fun t => t.ctx == x.ctx) (performInBoth x.va x.len) s)
      .next (if x.waits u = true then u else completeShootdown k x u) := by
  rw [exec_shootdownComplete]
  unfold execShootdownComplete
  rw [hx]
  rfl

theorem performed_steady : State.Steady ⟨s.paging.shoots, none, x.ctx, x.va, x.len, true⟩
    (failPosted (mapTandems (fun t => t.ctx == x.ctx) (performInBoth x.va x.len) s)) := by
  have hout (t : Tandem) (ht : (t.ctx == x.ctx) = false) : t.ctx ≠ x.ctx := by simpa using ht
  exact failPosted_steady rfl rfl
    (mapTandems_clears (fun _ => performInBoth_keeps) (fun _ _ => performInBoth_clears) hout rfl (fun _ h => nomatch h))

theorem dropTranslations_steady {w : Watch} {u : State} {asid : Option Nat} {a n : Nat} (h : u.Steady w) : (dropTranslations u asid a n).Steady w := by
  cases asid <;> exact h

theorem State.Steady.withPaging {w : Watch} {u : State} {m : Mem} {p : Paging} (h : u.Steady w) :
    State.Steady { w with shoots := p.shoots } { u with mem := m, paging := p } := by
  obtain ⟨_, hk, hc⟩ := h
  exact ⟨rfl, hk, hc⟩

theorem completeShootdown_steady {u : State} {w : Watch} (h : u.Steady w) :
    (completeShootdown k x u).Steady { w with shoots := w.shoots.eraseIdx k } := by
  have hd := dropTranslations_steady (asid := some x.asid) (a := x.va) (n := x.len) h
  have hshoots : dropNth (dropTranslations u (some x.asid) x.va x.len).paging.shoots k = w.shoots.eraseIdx k := by rw [dropNth_eq_eraseIdx, hd.1]
  rw [← hshoots]
  exact flushArea_steady hd.withPaging

theorem shootdownComplete_clears (hx : s.paging.shoots[k]? = some x) :
    ∃ t, exec (.shootdownComplete k) s = .next t ∧
      ¬x.Holds t ∧
      (t.paging.shoots = s.paging.shoots ∨ t.paging.shoots = s.paging.shoots.eraseIdx k) := by
  refine ⟨_, exec_shootdownComplete_of_some hx, ?_⟩
  have hu := performed_steady (s := s) (x := x)
  split
  · exact ⟨Shootdown.not_holds_of_clear (hu.allClear rfl), .inl hu.1⟩
  · have ht := completeShootdown_steady (k := k) (x := x) hu
    exact ⟨Shootdown.not_holds_of_clear (ht.allClear rfl), .inr ht.1⟩

/-- Where no store of the range is held and no request has lost its port, the state stays as it is until the shootdown is complete. -/
theorem performed_eq_self (hports : ∀ r ∈ s.links.requests, r.port ≠ none)
    (hheld : ¬x.Holds s) :
    failPosted (mapTandems (fun t => t.ctx == x.ctx) (performInBoth x.va x.len) s) = s := by
  rw [mapTandems_eq_self]
  · exact failPosted_of_ports hports
  · intro y hy hc
    have hclear (h : Hart) (hh : h ∈ [y.e, y.a]) : holdsIn x.va x.len h = false :=
      Bool.eq_false_iff.2 (fun ht => hheld ⟨y, hy, of_decide_eq_true hc, h, hh, holdsIn_iff.1 ht⟩)
    exact performInBoth_of_clear (hclear y.e (by simp)) (hclear y.a (by simp))

theorem Shootdown.waits_iff {u : State} : x.waits u = true ↔
    requestsIn u x.ctx x.va x.len = true ∨ x.Streams u := by
  simp [Shootdown.waits, Shootdown.Streams, List.any_eq_true]

end

/-! ### The vector table -/

theorem sparseGet_setAll {d v : Word} {f : Nat → Nat} {ks : List Nat} {l : List (Nat × Word)} {i : Nat} (hl : sparseWf d l = true) :
    sparseGet d (ks.foldl (fun t k => sparseSet d t (f k) v) l) i = if i ∈ ks.map f then v else sparseGet d l i := by
  induction ks generalizing l with
  | nil => rfl
  | cons k r ih =>
    rw [List.foldl_cons, ih (sparseWf_set d l _ _ hl)]
    by_cases hr : i ∈ r.map f
    · simp [hr]
    · by_cases hk : i = f k
      · subst hk
        simp [hr, sparseGet_set_same d l _ v hl]
      · simp only [hr, if_false, sparseGet_set_other d l _ i v hk, List.map_cons, List.mem_cons, hk, false_or]

/-- The vector table with an entry written on all four dies. -/
def vectorWritten (s : State) (idx : Nat) (v : Word) : List (Nat × Word) :=
  (range 0 4).foldl (fun t d => sparseSet 0 t (131072 * d + idx) (v &&& vectorFields)) s.paging.vtab

theorem vectorWritten_same {s : State} {idx d : Nat} {v : Word} (hw : sparseWf 0 s.paging.vtab = true) (hd : d < 4) :
    sparseGet 0 (vectorWritten s idx v) (131072 * d + idx) = v &&& vectorFields := by
  unfold vectorWritten
  rw [sparseGet_setAll hw, if_pos]
  have : d ∈ [0, 1, 2, 3] := by simp; omega
  exact List.mem_map_of_mem this

theorem vectorWritten_other {s : State} {idx i : Nat} {v : Word} (hw : sparseWf 0 s.paging.vtab = true) (hidx : idx < 131072) (hi : i % 131072 ≠ idx) :
    sparseGet 0 (vectorWritten s idx v) i = sparseGet 0 s.paging.vtab i := by
  unfold vectorWritten
  rw [sparseGet_setAll hw, if_neg]
  intro hm
  obtain ⟨d, _, rfl⟩ := List.mem_map.1 hm
  omega

theorem vectorEntryWrite_writes {s : State} {idx : Nat} {v : Word} (hidx : idx < 131072) (hw : sparseWf 0 s.paging.vtab = true) :
    ∃ t, exec (.vectorEntryWrite idx v) s = .next t ∧ (∀ d < 4, sparseGet 0 t.paging.vtab (131072 * d + idx) = v &&& 0x000FFFFFFE00FFFF) ∧
      (∀ i, i % 131072 ≠ idx → sparseGet 0 t.paging.vtab i = sparseGet 0 s.paging.vtab i) ∧
      (∀ c, s.ctxs.find? (fun c => c.bound && decide (c.vbase ≤ idx ∧ idx < c.vbase + c.vcount)) = some c →
        t.paging.shoots = s.paging.shoots ++ [{ ctx := c.num, asid := c.asid.getD 512, va := (idx - c.vbase) * 2 ^ 25, len := 2 ^ 25 }]) ∧
      (s.ctxs.find? (fun c => c.bound && decide (c.vbase ≤ idx ∧ idx < c.vbase + c.vcount)) = none → t.paging.shoots = s.paging.shoots) := by
  rw [exec_vectorEntryWrite]
  unfold execVectorEntryWrite
  rw [if_neg (Nat.not_le.2 hidx)]
  refine ⟨_, rfl, ?_⟩
  have hd : ∀ d < 4, sparseGet 0 (vectorWritten s idx v) (131072 * d + idx) = v &&& 0x000FFFFFFE00FFFF := fun _ hd => vectorWritten_same hw hd
  have hi : ∀ i, i % 131072 ≠ idx → sparseGet 0 (vectorWritten s idx v) i = sparseGet 0 s.paging.vtab i := fun _ hi => vectorWritten_other hw hidx hi
  cases howner : s.ctxs.find? (fun c => c.bound && decide (c.vbase ≤ idx ∧ idx < c.vbase + c.vcount)) with
  | none => exact ⟨hd, hi, fun _ h => (nomatch h), fun _ => rfl⟩
  | some c =>
    dsimp only
    rw [startShootdown_vtab, startShootdown_shoots]
    refine ⟨hd, hi, fun c' h => ?_, fun h => nomatch h⟩
    obtain rfl := Option.some.inj h
    rfl

theorem vectorEntryRead_reads {s : State} {idx : Nat} (hidx : idx < 131072) :
    let e (d : Nat) : Word := sparseGet 0 s.paging.vtab (131072 * d + idx)
    exec (.vectorEntryRead idx) s = .next { s with reports := s.reports ++ [.vectorEntry idx (e 0 ||| ((e 0 ||| e 1 ||| e 2 ||| e 3) &&& 0x600))] } := by
  rw [exec_vectorEntryRead]
  unfold execVectorEntryRead
  rw [if_neg (Nat.not_le.2 hidx)]

section
variable {s : State} {k : Nat} {x : Shootdown}

theorem shootdownComplete_waits (hx : s.paging.shoots[k]? = some x) (hports : ∀ r ∈ s.links.requests, r.port ≠ none)
    (hheld : ¬x.Holds s)
    (hw : x.Streams s ∨ requestsIn s x.ctx x.va x.len = true) :
    exec (.shootdownComplete k) s = .next s := by
  rw [exec_shootdownComplete_of_some hx, performed_eq_self hports hheld]
  dsimp only
  rw [if_pos (Shootdown.waits_iff.2 hw.symm)]

theorem requestsIn_of_nil {c a n : Nat} (h : s.links.requests = []) : requestsIn s c a n = false := by
  unfold requestsIn
  rw [h]
  rfl

theorem completeShootdown_of_nil {u : State} (h : u.areaWrites = []) : completeShootdown k x u =
    { dropTranslations u (some x.asid) x.va x.len with
      mem := publishAll u.mem
      paging := { (dropTranslations u (some x.asid) x.va x.len).paging with shoots := dropNth u.paging.shoots k }
      areaWrites := [] } := flushArea_of_nil h

theorem shootdownComplete_completes (hx : s.paging.shoots[k]? = some x) (hreq : s.links.requests = []) (harea : s.areaWrites = [])
    (hheld : ¬x.Holds s)
    (hstreams : ¬x.Streams s) :
    ∃ t, exec (.shootdownComplete k) s = .next t ∧ t.paging.shoots = s.paging.shoots.eraseIdx k ∧ t.mem = publishAll s.mem ∧
      ∀ e ∈ t.paging.tlb, e.touches x.asid x.va x.len = false := by
  have hports : ∀ r ∈ s.links.requests, r.port ≠ none := by simp [hreq]
  have hdone : ¬x.waits s = true := by simp [Shootdown.waits_iff, requestsIn_of_nil hreq, hstreams]
  rw [exec_shootdownComplete_of_some hx, performed_eq_self hports hheld]
  dsimp only
  rw [if_neg hdone, completeShootdown_of_nil harea]
  refine ⟨_, rfl, dropNth_eq_eraseIdx _ _, rfl, fun e he => ?_⟩
  dsimp only at he
  exact dropTranslations_touches e he

end

/-- Settles O52, clause by clause: the pager's answers and the beginning of a shootdown are changes of single tandems and queues; that no store of the range is
held after SHOOTDOWN_COMPLETE rests on `State.Steady`, which every store performed, area write and stop keeps. -/
theorem thePagerAndTheVectorTableAct : Obligations.ThePagerAndTheVectorTableAct := by
  unfold Obligations.ThePagerAndTheVectorTableAct
  intro s
  have hcomplete (k : Nat) (x : Shootdown) (hx : s.paging.shoots[k]? = some x) :=
    And.intro (shootdownComplete_clears hx)
      (And.intro (fun hheld hports hw => shootdownComplete_waits hx hports hheld hw)
        (fun hheld hreq harea hstreams => shootdownComplete_completes hx hreq harea hheld hstreams))
  exact ⟨fun _ _ _ => pagerResume_serves, fun _ _ _ => pagerUnservable_stops, fun _ _ => pagerUnservable_queue, fun _ => faultRecordPost_posts,
    fun _ _ _ _ _ => shootdown_begins, hcomplete, fun _ _ => vectorEntryWrite_writes, fun _ => vectorEntryRead_reads⟩

end Sys2Proof.Machine

end

section
/-! PROOFS. Scalar instructions that stop (O12). Each body checks its operand fields first, then reads its sources, and only then accesses anything: what stops it on
that way has touched neither the held stores nor the strip, and so leaves the state as it was (R158). The instructions are told by the body they run. -/

namespace Sys2Proof.Machine

open Sys2Proof

/-! ## The bodies of scalar instructions -/

/-- Each two-source member of ALU runs the body of R159 with a function of its own. -/
theorem exec_aluPairs {i : BitVec 7 → BitVec 7 → BitVec 7 → Instr} (hi : i ∈ Claims.aluPairs.map (·.1)) :
    ∃ f, ∀ d a b s, exec (i d a b) s = runScalar (alu2 f d a b) s := by
  simp only [Claims.aluPairs, List.map_cons, List.map_nil, List.mem_cons, List.not_mem_nil, or_false] at hi
  rcases hi with rfl | rfl | rfl | rfl | rfl | rfl | rfl | rfl | rfl | rfl | rfl | rfl | rfl | rfl | rfl | rfl | rfl | rfl | rfl | rfl | rfl | rfl | rfl <;>
    exact ⟨_, fun _ _ _ _ => rfl⟩

/-- Each two-source member of FALU runs the body of R163 with a function of its own. -/
theorem exec_fpPairs {i : BitVec 7 → BitVec 7 → BitVec 7 → Instr} (hi : i ∈ Claims.fpPairs.map (·.1)) :
    ∃ f src, ∀ d a b s, exec (i d a b) s = runScalar (falu2 f src d a b) s := by
  simp only [Claims.fpPairs, List.map_cons, List.map_nil, List.mem_cons, List.not_mem_nil, or_false] at hi
  rcases hi with rfl | rfl | rfl | rfl | rfl | rfl | rfl | rfl | rfl | rfl | rfl | rfl | rfl | rfl | rfl | rfl | rfl | rfl | rfl | rfl | rfl <;>
    exact ⟨_, _, fun _ _ _ _ => rfl⟩

/-- Each atomic runs the body of R173 with an operation of its own, in global memory or in the shared space. -/
theorem exec_atomics {p} (hp : p ∈ Claims.atomics) : ∃ op, ∀ r d a b z s,
    exec (p.1 r d a b z) s = runScalar (atomicBody false op r d a b z) s ∧ exec (p.2.1 r d a b z) s = runScalar (atomicBody true op r d a b z) s := by
  simp only [Claims.atomics, List.mem_cons, List.not_mem_nil, or_false] at hp
  rcases hp with rfl | rfl | rfl | rfl | rfl | rfl | rfl | rfl | rfl | rfl | rfl | rfl <;> exact ⟨_, fun _ _ _ _ _ _ => ⟨rfl, rfl⟩⟩

/-! ## Stops -/

section
variable {s t : State} {a b d n : Nat}

/-- A body that stops with its hart as it found it leaves the state as it was (R158). -/
theorem runScalar_stop {m : Exec Unit} {e : Stop} (h : m s = .error e t) (hme : t.me = s.me) : runScalar m s = .next (applyStop e s) := by
  rw [runScalar_error h, undone_same (by rw [hme]) (by rw [hme])]

@[simp] theorem applyStop_trap {code sub : Nat} {xpc xaddr xinfo : Word} :
    applyStop (.trap code sub xpc xaddr xinfo) s = takeTrap code sub xpc xaddr xinfo s := rfl
@[simp] theorem applyStop_wait {reason port need : Nat} {addr : Word} : applyStop (.wait reason port addr need) s = waitHere reason port addr s need := rfl
@[simp] theorem applyStop_drained : applyStop (.drained n) s = takeTrap 2 0 s.me.pc 0 (BitVec.ofNat 64 n) s := rfl

@[simp] theorem srcTaken_irWord : (s.srcTaken n).irWord = s.irWord := by unfold State.srcTaken; split <;> rfl
@[simp] theorem srcTaken_sharedTop : (s.srcTaken n).sharedTop = s.sharedTop := by unfold State.srcTaken; split <;> rfl

/-- The checks of three operand fields stop the instruction before anything is popped, whichever field is wrong (R14, R16). -/
theorem operandChecks_bad {m : Exec Unit} (h : ¬(s.srcOk a ∧ s.srcOk b ∧ s.dstOk d)) :
    (do checkSrc a; checkSrc b; checkDst d; m) s = .error (.trap 2 0 s.me.pc 0 s.irWord) s := by
  by_cases ha : s.srcOk a
  · rw [exec_bind_ok (checkSrc_ok ha)]
    by_cases hb : s.srcOk b
    · rw [exec_bind_ok (checkSrc_ok hb)]
      exact exec_bind_error (checkDst_bad fun hd => h ⟨ha, hb, hd⟩)
    · exact exec_bind_error (checkSrc_bad hb)
  · exact exec_bind_error (checkSrc_bad ha)

/-- A pop of an empty queue without a fault marker waits for the pusher, or traps once that has exited (R17, R19). -/
theorem readS_empty (hn : ¬n < 112) (hi : (s.tan.sfifo (n - 112)).items = []) (hm : (s.tan.sfifo (n - 112)).marker = none) :
    readS n s = .error (if s.peer.exited then .drained n else .wait 2 (n - 112 + 17)) s := by
  have h : popReady (s.tan.sfifo (n - 112)) 1 (n - 112 + 17) n (.scalarQueue (n - 112)) s =
      .error (if s.peer.exited then .drained n else .wait 2 (n - 112 + 17)) s := by
    unfold popReady
    rw [hm, hi]
    cases s.peer.exited <;> rfl
  simp only [readS, if_neg hn, popScalar]
  rw [exec_getState_bind]
  exact exec_bind_error h

/-- A push to a full queue waits (R17). -/
theorem writeS_full {x : Word} (hn : ¬n < 112) (h : 32 ≤ (s.tan.sfifo (n - 112)).items.length) :
    writeS n x s = .error (.wait 1 (n - 112 + 17)) s := by
  simp only [writeS, if_neg hn, pushScalar, if_pos h]

/-- A misaligned address stops the instruction (R87). -/
theorem requireAligned_bad {x : Word} (h : x.toNat % n ≠ 0) : requireAligned x.toNat n s = .error (.trap 2 0 s.me.pc x s.irWord) s := by
  simp only [requireAligned, if_neg h, addrWord, BitVec.ofNat_toNat, BitVec.setWidth_eq]

end

section
variable {s : State} {a b d : BitVec 7}

theorem alu2_bad {f : Word → Word → Word} (h : ¬(s.srcOk a.toNat ∧ s.srcOk b.toNat ∧ s.dstOk d.toNat)) :
    runScalar (alu2 f d a b) s = .next (takeTrap 2 0 s.me.pc 0 s.irWord s) := runScalar_stop (operandChecks_bad h) rfl

theorem falu2_bad {f : Nat → Nat → Nat → Nat → Nat × Nat} {src : Fmt} (h : ¬(s.srcOk a.toNat ∧ s.srcOk b.toNat ∧ s.dstOk d.toNat)) :
    runScalar (falu2 f src d a b) s = .next (takeTrap 2 0 s.me.pc 0 s.irWord s) := runScalar_stop (operandChecks_bad h) rfl

/-- Where the fields are legal, a two-source member goes on to read its sources. -/
theorem alu2_checked {f : Word → Word → Word} (ha : s.srcOk a.toNat) (hb : s.srcOk b.toNat) (hd : s.dstOk d.toNat) :
    alu2 f d a b s = (do let x ← readS a.toNat; let y ← readS b.toNat; writeS d.toNat (f x y)) s := by
  unfold alu2
  rw [exec_bind_ok (checkSrc_ok ha), exec_bind_ok (checkSrc_ok hb), exec_bind_ok (checkDst_ok hd)]

theorem alu2_sourceEmpty {f : Word → Word → Word} (ha : s.srcOk a.toNat) (hb : s.srcOk b.toNat) (hd : s.dstOk d.toNat) (hn : ¬a.toNat < 112)
    (hi : (s.tan.sfifo (a.toNat - 112)).items = []) (hm : (s.tan.sfifo (a.toNat - 112)).marker = none) :
    runScalar (alu2 f d a b) s = .next (if s.peer.exited then takeTrap 2 0 s.me.pc 0 (BitVec.ofNat 64 a.toNat) s
      else waitHere 2 (a.toNat - 112 + 17) 0 s) := by
  rw [runScalar_stop ((alu2_checked ha hb hd).trans (exec_bind_error (readS_empty hn hi hm))) rfl]
  cases s.peer.exited <;> rfl

theorem alu2_destinationFull {f : Word → Word → Word} (ha : s.srcOk a.toNat) (hb : s.srcOk b.toNat) (hd : s.dstOk d.toNat)
    (hha : s.srcHere a.toNat) (hhb : (s.srcTaken a.toNat).srcHere b.toNat) (hn : ¬d.toNat < 112)
    (hl : 32 ≤ (((s.srcTaken a.toNat).srcTaken b.toNat).tan.sfifo (d.toNat - 112)).items.length) :
    runScalar (alu2 f d a b) s = .next (waitHere 1 (d.toNat - 112 + 17) 0 s) := by
  have h : alu2 f d a b s = .error (.wait 1 (d.toNat - 112 + 17)) ((s.srcTaken a.toNat).srcTaken b.toNat) := by
    rw [alu2_checked ha hb hd, exec_bind_ok (readS_here hha), exec_bind_ok (readS_here hhb)]
    exact writeS_full hn hl
  exact runScalar_stop h (by rw [srcTaken_me, srcTaken_me])

/-! ## Misaligned accesses (R87) -/

theorem acquireLoad_misaligned {shared : Bool} {n : Nat} (ha : s.srcOk a.toNat) (hd : s.dstOk d.toNat) (hh : s.srcHere a.toNat)
    (hm : (s.srcValue a.toNat).toNat % n ≠ 0) :
    runScalar (acquireLoad shared n d a) s = .next (takeTrap 2 0 s.me.pc (s.srcValue a.toNat) s.irWord s) := by
  have h : acquireLoad shared n d a s = .error (.trap 2 0 s.me.pc (s.srcValue a.toNat) s.irWord) (s.srcTaken a.toNat) := by
    unfold acquireLoad
    rw [exec_bind_ok (checkSrc_ok ha), exec_bind_ok (checkDst_ok hd), exec_bind_ok (readS_here hh), exec_bind_error (requireAligned_bad hm),
      srcTaken_me, srcTaken_irWord]
  exact runScalar_stop h (srcTaken_me _ _)

theorem releaseBody_misaligned {shared : Bool} {n : Nat} (ha : s.srcOk a.toNat) (hb : s.srcOk b.toNat) (hha : s.srcHere a.toNat)
    (hhb : (s.srcTaken a.toNat).srcHere b.toNat) (hm : (s.srcValue a.toNat).toNat % n ≠ 0) :
    runScalar (releaseBody shared n a b) s = .next (takeTrap 2 0 s.me.pc (s.srcValue a.toNat) s.irWord s) := by
  have h : releaseBody shared n a b s = .error (.trap 2 0 s.me.pc (s.srcValue a.toNat) s.irWord) ((s.srcTaken a.toNat).srcTaken b.toNat) := by
    unfold releaseBody
    rw [exec_bind_ok (checkSrc_ok ha), exec_bind_ok (checkSrc_ok hb), exec_bind_ok (readS_here hha), exec_bind_ok (readS_here hhb),
      exec_bind_error (requireAligned_bad hm), srcTaken_me, srcTaken_me, srcTaken_irWord, srcTaken_irWord]
  exact runScalar_stop h (by rw [srcTaken_me, srcTaken_me])

theorem coreOnly_ok (h : s.tan.firmware = none) : coreOnly s = .ok () s := by
  unfold coreOnly
  rw [exec_getState_bind, h]
  rfl

/-- A member that a firmware core lacks in one of its spaces goes on at every other core (R151). -/
theorem coreOnlyIf_bind {β : Type} {c : Prop} [Decidable c] {k : Unit → Exec β} (h : s.tan.firmware = none) :
    (if c then coreOnly >>= k else k ()) s = k () s := by
  split
  · exact exec_bind_ok (coreOnly_ok h)
  · rfl

theorem atomicBody_misaligned {shared : Bool} {op : Nat} {r : BitVec 2} {z : BitVec 1} (hf : s.tan.firmware = none) (ha : s.srcOk a.toNat)
    (hb : s.srcOk b.toNat) (hd : d.toNat < 112) (hha : s.srcHere a.toNat) (hhb : (s.srcTaken a.toNat).srcHere b.toNat)
    (hm : (s.srcValue a.toNat).toNat % (if z = 0 then 4 else 8) ≠ 0) :
    runScalar (atomicBody shared op r d a b z) s = .next (takeTrap 2 0 s.me.pc (s.srcValue a.toNat) s.irWord s) := by
  have hD : ((s.srcTaken a.toNat).srcTaken b.toNat).srcHere d.toNat := .inl hd
  have hT : ((s.srcTaken a.toNat).srcTaken b.toNat).srcTaken d.toNat = (s.srcTaken a.toNat).srcTaken b.toNat := if_pos hd
  have h : atomicBody shared op r d a b z s =
      .error (.trap 2 0 s.me.pc (s.srcValue a.toNat) s.irWord) ((s.srcTaken a.toNat).srcTaken b.toNat) := by
    unfold atomicBody
    rw [coreOnlyIf_bind hf]
    beta_reduce
    rw [exec_bind_ok (checkSrc_ok ha), exec_bind_ok (checkSrc_ok hb), exec_bind_ok (checkRmw_ok hd),
      exec_bind_ok (readS_here hha), exec_bind_ok (readS_here hhb), exec_bind_ok (readS_here hD), hT,
      exec_bind_error (requireAligned_bad hm), srcTaken_me, srcTaken_me, srcTaken_irWord, srcTaken_irWord]
  exact runScalar_stop h (by rw [srcTaken_me, srcTaken_me])

/-- Every instruction that needs natural alignment traps at a misaligned address, and changes nothing else (R87, R171, R173). -/
theorem aligned_misaligned {r : BitVec 2} (hc : s.can2 d.toNat a.toNat b.toNat) (hd : d.toNat < 112) (hf : s.tan.firmware = none) :
    ∀ p ∈ Claims.aligned d a b r, (s.srcValue a.toNat).toNat % p.2 ≠ 0 →
      exec p.1 s = .next (takeTrap 2 0 s.me.pc (s.srcValue a.toNat) s.irWord s) := by
  obtain ⟨⟨ha, hb, hD⟩, hha, hhb, -⟩ := hc
  intro p hp hm
  rcases List.mem_append.mp hp with hp | hp
  · simp only [List.mem_cons, List.not_mem_nil, or_false] at hp
    rcases hp with rfl | rfl | rfl | rfl | rfl | rfl | rfl | rfl
    · exact acquireLoad_misaligned ha hD hha hm
    · exact acquireLoad_misaligned ha hD hha hm
    · exact acquireLoad_misaligned ha hD hha hm
    · exact acquireLoad_misaligned ha hD hha hm
    · exact releaseBody_misaligned ha hb hha hhb hm
    · exact releaseBody_misaligned ha hb hha hhb hm
    · exact releaseBody_misaligned ha hb hha hhb hm
    · exact releaseBody_misaligned ha hb hha hhb hm
  · obtain ⟨q, hq, hp⟩ := List.mem_flatMap.mp hp
    obtain ⟨op, h⟩ := exec_atomics hq
    simp only [List.mem_cons, List.not_mem_nil, or_false] at hp
    rcases hp with rfl | rfl | rfl | rfl
    · exact (h r d a b 0 s).1.trans (atomicBody_misaligned hf ha hb hd hha hhb hm)
    · exact (h r d a b 1 s).1.trans (atomicBody_misaligned hf ha hb hd hha hhb hm)
    · exact (h r d a b 0 s).2.trans (atomicBody_misaligned hf ha hb hd hha hhb hm)
    · exact (h r d a b 1 s).2.trans (atomicBody_misaligned hf ha hb hd hha hhb hm)

/-! ## Accesses out of bounds (R85, R86) -/

@[simp] theorem toBytes_length (n x : Nat) : (toBytes n x).length = n := by
  induction n generalizing x with
  | zero => rfl
  | succ n ih => exact congrArg (· + 1) (ih _)

theorem sharedBounds_bad {q : Word} {n : Nat} (hn : 0 < n) (h : s.sharedTop < q.toNat) :
    sharedBounds q.toNat n s = .error (.trap 3 0 s.me.pc q s.irWord) s := by
  have hnot : ¬(n = 0 ∨ q.toNat + n - 1 ≤ s.sharedTop) := by omega
  simp only [sharedBounds, if_neg hnot, addrWord, BitVec.ofNat_toNat, BitVec.setWidth_eq]

/-- A value between the two halves of the address space is no canonical address (R85). -/
theorem canonical_between {q : Nat} (hlo : 2 ^ 56 ≤ q) (hhi : q < 0xFF00000000000000) : canonical q = false := by
  unfold canonical
  simp only [Bool.or_eq_false_iff, beq_eq_false_iff_ne]
  omega

theorem resolve_notCanonical {v : Bool} {k : AccessKind} {q : Word} {n : Nat} (hn : 0 < n) (h : canonical q.toNat = false) :
    resolve v k q.toNat n s = .error (.trap 3 0 s.me.pc q s.irWord) s := by
  have hq : q.toNat % 2 ^ 64 = q.toNat := Nat.mod_eq_of_lt q.isLt
  have hx : translateBytes s s.myCtx s.tan.die v s.tan.firmware.isSome k q.toNat n = .error (.spaceBound, q.toNat) := by
    obtain ⟨m, rfl⟩ := Nat.exists_eq_succ_of_ne_zero hn.ne'
    have hb : byteInBounds s.myCtx v (q.toNat % 2 ^ 64) = false := by rw [hq, byteInBounds, h, Bool.false_and]
    unfold translateBytes
    rw [range, List.find?_cons_of_pos (by rw [hb]; rfl)]
    simp only [hq]
  unfold resolve
  rw [hx]
  simp only [addrWord, BitVec.ofNat_toNat, BitVec.setWidth_eq]

/-- Loads and stores of one space stop with SPACE-BOUND at this address, whatever their length. -/
def State.outOf (s : State) (shared : Bool) (q : Word) : Prop :=
  (shared = true ∧ s.sharedTop < q.toNat) ∨ (shared = false ∧ canonical q.toNat = false)

theorem readMem_outOf {shared : Bool} {q : Word} {n : Nat} (hn : 0 < n) (h : s.outOf shared q) :
    readMem shared q.toNat n s = .error (.trap 3 0 s.me.pc q s.irWord) s := by
  refine exec_bind_error ?_
  rcases h with ⟨rfl, h⟩ | ⟨rfl, h⟩
  · exact exec_bind_error (sharedBounds_bad hn h)
  · exact exec_bind_error (resolve_notCanonical hn h)

theorem writeMem_outOf {shared : Bool} {q : Word} {n x : Nat} (hn : 0 < n) (h : s.outOf shared q) :
    writeMem shared q.toNat n x s = .error (.trap 3 0 s.me.pc q s.irWord) s := by
  have hl : 0 < ((toBytes n x).map (fun b => (b, (0xFF : Byte)))).length := by rwa [List.length_map, toBytes_length]
  rcases h with ⟨rfl, h⟩ | ⟨rfl, h⟩
  · exact exec_bind_error (sharedBounds_bad hl h)
  · exact exec_bind_error (resolve_notCanonical hl h)

theorem srcTaken_outOf {shared : Bool} {q : Word} {n : Nat} (h : s.outOf shared q) : (s.srcTaken n).outOf shared q := by
  unfold State.outOf
  rwa [srcTaken_sharedTop]

theorem dispAddr_here {i : BitVec 10} (hh : s.srcHere a.toNat) :
    dispAddr a i s = .ok (s.srcValue a.toNat + i.signExtend 64).toNat (s.srcTaken a.toNat) := exec_bind_ok (readS_here hh)

theorem scalarLoad_outOf {shared signed : Bool} {z : BitVec 2} {i : BitVec 10} (ha : s.srcOk a.toNat) (hd : s.dstOk d.toNat)
    (hh : s.srcHere a.toNat) (h : s.outOf shared (s.srcValue a.toNat + i.signExtend 64)) :
    runScalar (scalarLoad shared signed d a z i) s = .next (takeTrap 3 0 s.me.pc (s.srcValue a.toNat + i.signExtend 64) s.irWord s) := by
  have hs : scalarLoad shared signed d a z i s =
      .error (.trap 3 0 s.me.pc (s.srcValue a.toNat + i.signExtend 64) s.irWord) (s.srcTaken a.toNat) := by
    unfold scalarLoad
    rw [exec_bind_ok (checkSrc_ok ha), exec_bind_ok (checkDst_ok hd), exec_bind_ok (dispAddr_here hh),
      exec_bind_error (readMem_outOf (Nat.two_pow_pos _) (srcTaken_outOf h)), srcTaken_me, srcTaken_irWord]
  exact runScalar_stop hs (srcTaken_me _ _)

theorem scalarStore_outOf {shared : Bool} {z : BitVec 2} {i : BitVec 10} (ha : s.srcOk a.toNat) (hd : s.srcOk d.toNat)
    (hh : s.srcHere a.toNat) (hhd : (s.srcTaken a.toNat).srcHere d.toNat) (h : s.outOf shared (s.srcValue a.toNat + i.signExtend 64)) :
    runScalar (scalarStore shared d a z i) s = .next (takeTrap 3 0 s.me.pc (s.srcValue a.toNat + i.signExtend 64) s.irWord s) := by
  have hs : scalarStore shared d a z i s =
      .error (.trap 3 0 s.me.pc (s.srcValue a.toNat + i.signExtend 64) s.irWord) ((s.srcTaken a.toNat).srcTaken d.toNat) := by
    unfold scalarStore
    rw [exec_bind_ok (checkSrc_ok ha), exec_bind_ok (checkSrc_ok hd), exec_bind_ok (dispAddr_here hh), exec_bind_ok (readS_here hhd),
      writeMem_outOf (Nat.two_pow_pos _) (srcTaken_outOf (srcTaken_outOf h)), srcTaken_me, srcTaken_me, srcTaken_irWord, srcTaken_irWord]
  exact runScalar_stop hs (by rw [srcTaken_me, srcTaken_me])

end

/-- Settles O12: the operand checks, the reads of the sources and the checks of the address each stop the body with the hart untouched. -/
theorem scalarInstructionsStopWhole : Obligations.ScalarInstructionsStopWhole := by
  unfold Obligations.ScalarInstructionsStopWhole
  refine ⟨fun i hi d a b s h => ?_, fun i hi d a b s ha hb hd => ?_, fun d a b r s hc hd hf => aligned_misaligned hc hd hf,
    fun d a z i s ha hh => ⟨fun hd => ?_, fun hd hhd => ?_⟩⟩
  · rcases List.mem_append.mp hi with hi | hi
    · obtain ⟨f, hf⟩ := exec_aluPairs hi
      exact (hf d a b s).trans (alu2_bad h)
    · obtain ⟨f, src, hf⟩ := exec_fpPairs hi
      exact (hf d a b s).trans (falu2_bad h)
  · obtain ⟨f, hf⟩ := exec_aluPairs hi
    rw [hf d a b s]
    exact ⟨alu2_sourceEmpty ha hb hd, alu2_destinationFull ha hb hd⟩
  · have hglobal (signed : Bool) (h : canonical (s.srcValue a.toNat + i.signExtend 64).toNat = false) :=
      scalarLoad_outOf (signed := signed) (z := z) ha hd hh (.inr ⟨rfl, h⟩)
    exact ⟨fun h => scalarLoad_outOf ha hd hh (.inl ⟨rfl, h⟩), fun hlo hhi => ⟨hglobal true (canonical_between hlo hhi), hglobal false (canonical_between hlo hhi)⟩⟩
  · exact ⟨fun h => scalarStore_outOf ha hd hh hhd (.inl ⟨rfl, h⟩),
      fun hlo hhi => scalarStore_outOf ha hd hh hhd (.inr ⟨rfl, canonical_between hlo hhi⟩)⟩

end Sys2Proof.Machine

end

section
/-! PROOFS. The branch queue, QSTAT and QDRAIN (O17): each body runs through its checks, and what is left is one change of a queue, one write of a register or
one branch. -/

namespace Sys2Proof.Machine

open Sys2Proof

/-! ## Branches -/

section
variable {b : Exec (Option Word)} {s t : State} {x : Word}

/-- A branch that is taken goes to its target (R167, R259). -/
theorem runBranch_goes (h : b s = .ok (some x) t) : Claims.goes s t x (runBranch b s) := by
  unfold runBranch
  rw [h]
  refine ⟨fun hl => ?_, fun hl u hu => ?_⟩
  · simp only [hl, Bool.false_eq_true, if_false]
  · simp only [hl, if_true, hu]

/-- A branch that is not taken retires at the next word (R167). -/
theorem runBranch_past (h : b s = .ok none t) : runBranch b s = .next (retireWith true s (s.me.pc + 4) (some false) t) := by
  unfold runBranch
  rw [h]

end

section
variable {s : State} {a d q : BitVec 7}

theorem pairedOnly_ok (hf : s.tan.firmware = none) (h1 : s.tan.single = false) : pairedOnly s = .ok () s := by
  unfold pairedOnly
  rw [exec_bind_ok (coreOnly_ok hf), exec_getState_bind]
  exact require_of (by rw [h1]; rfl)

/-! ## BQPUSH -/

@[simp] theorem srcTaken_bq {n : Nat} : (s.srcTaken n).tan.bq = s.tan.bq := by unfold State.srcTaken; split <;> rfl

/-- The state in which BQPUSH pushes its bit: its own strip, and the peer's where only slots kept for it are free, can no longer be run again (R183). -/
def bqSpoiled (s : State) : State := (if 64 ≤ s.tan.bq.items.length + s.tan.bq.spent.length then s.spoilPeer else s).spoilStrip

/-- At its pushing side the branch queue keeps its entries and markers when strips are spoiled, and the hart keeps its place. -/
theorem bqSpoiled_frame (hA : s.onA = true) :
    (bqSpoiled s).tan.bq.items = s.tan.bq.items ∧ (bqSpoiled s).tan.bq.marker = s.tan.bq.marker ∧
      (bqSpoiled s).tan.bq.owner = s.tan.bq.owner ∧ (bqSpoiled s).tan.bq.others = s.tan.bq.others ∧
      (bqSpoiled s).me.pc = s.me.pc ∧ (bqSpoiled s).me.tis = s.me.tis := by
  unfold bqSpoiled
  split <;> simp [State.spoilStrip, State.spoilPeer, freeSpent, Fifo.freed, Hart.tis, hA]

/-- BQPUSH runs through its checks, pops its operand and pushes one bit (R255). -/
theorem bqpushBody_ok (hf : s.tan.firmware = none) (h1 : s.tan.single = false) (hA : s.onA = true) (ha : s.srcOk a.toNat)
    (hh : s.srcHere a.toNat) (hl : s.tan.bq.items.length < 64) :
    bqpushBody a s =
      let t := bqSpoiled (s.srcTaken a.toNat)
      .ok () { t with tan := { t.tan with bq := t.tan.bq.push t.me.pc t.me.tis [s.srcValue a.toNat != 0] } } := by
  unfold bqpushBody
  rw [exec_bind_ok (pairedOnly_ok hf h1), exec_getState_bind, exec_bind_ok (require_of hA), exec_bind_ok (checkSrc_ok ha),
    exec_bind_ok (readS_here hh), exec_getState_bind, srcTaken_bq, if_neg (by omega)]
  rfl

/-- A push removes the marker of its own instruction, and of no other (R345). -/
theorem Fifo.push_eq {α : Type} (f : Fifo α) (pc : Word) (inTrap : Bool) (xs : List α) :
    f.push pc inTrap xs = { f with
      items := f.items ++ xs
      marker := if f.owner = some (pc, inTrap) then f.others.head?.map (·.1) else f.marker
      owner := if f.owner = some (pc, inTrap) then f.others.head?.map (·.2) else f.owner
      others := if f.owner = some (pc, inTrap) then f.others.tail else f.others.filter (fun m => m.2 != (pc, inTrap)) } := by
  unfold Fifo.push
  by_cases h : f.owner = some (pc, inTrap)
  · simp [h]
  · simp [h]

theorem exec_bqpush (hf : s.tan.firmware = none) (h1 : s.tan.single = false) (hA : s.onA = true) (ha : s.srcOk a.toNat)
    (hh : s.srcHere a.toNat) (hl : s.tan.bq.items.length < 64) :
    let t := bqSpoiled (s.srcTaken a.toNat)
    let resumed := s.tan.bq.owner = some (s.me.pc, s.me.tis)
    exec (.bqpush a) s = .next (retire s (s.me.pc + 4)
      { t with tan := { t.tan with bq := { t.tan.bq with
          items := t.tan.bq.items ++ [s.srcValue a.toNat != 0]
          marker := if resumed then s.tan.bq.others.head?.map (·.1) else s.tan.bq.marker
          owner := if resumed then s.tan.bq.others.head?.map (·.2) else s.tan.bq.owner
          others := if resumed then s.tan.bq.others.tail else s.tan.bq.others.filter (fun m => m.2 != (s.me.pc, s.me.tis)) } } }) := by
  have hA' : (s.srcTaken a.toNat).onA = true := by unfold State.srcTaken; split <;> exact hA
  obtain ⟨-, hm, ho, hs, hpc, htis⟩ := bqSpoiled_frame hA'
  rw [srcTaken_bq] at hm ho hs
  rw [srcTaken_me] at hpc htis
  refine (runScalar_ok (bqpushBody_ok hf h1 hA ha hh hl)).trans ?_
  rw [Fifo.push_eq, hm, ho, hs, hpc, htis]

/-! ## BQT and BQF -/

/-- A branch on the branch queue pops the oldest bit, and is taken where it is the one wanted (R255). -/
theorem bqBranch_ok {want x : Bool} {o : BitVec 16} {r : List Bool} (hf : s.tan.firmware = none) (h1 : s.tan.single = false)
    (hE : s.onA = false) (hi : s.tan.bq.items = x :: r) (hm : s.tan.bq.marker = none) (hb : s.tan.bq.bad = false) :
    bqBranch want o s = .ok (if x == want then some (s.me.pc + 4 * o.signExtend 64) else none)
      { s with tan := { s.tan with bq := s.tan.bq.pop 1 64 s.me.keepsPops } } := by
  have hp : popReady s.tan.bq 1 33 128 .branchQueue s = .ok () s := popReady_ok (by simp [hi]) hb (.inl (by simp [hm]))
  unfold bqBranch
  rw [exec_bind_ok (pairedOnly_ok hf h1), exec_getState_bind, exec_bind_ok (require_of (by rw [hE]; rfl)), exec_bind_ok hp, hi]
  rfl

/-! ## QSTAT and QDRAIN -/

/-- QSTAT writes the word of its queue (R256). -/
theorem qstatBody_ok (hf : s.tan.firmware = none) (h1 : s.tan.single = false) (hd : s.dstOk d.toNat) (hr : s.dstRoom d.toNat)
    (hq : q.toNat ≤ 32) :
    qstatBody d q s = .ok () (s.dstPut d.toNat
      (if q.toNat < 16 then qstatWord (s.tan.vfifo q.toNat) 16 (s.pusherGone q.toNat)
       else if q.toNat < 32 then qstatWord (s.tan.sfifo (q.toNat - 16)) 32 (s.pusherGone q.toNat)
       else qstatWord s.tan.bq 64 (s.pusherGone q.toNat))) := by
  unfold qstatBody
  rw [exec_bind_ok (pairedOnly_ok hf h1), exec_bind_ok (require_of (decide_eq_true hq)), exec_bind_ok (checkDst_ok hd), exec_getState_bind]
  exact writeS_room _ hr

/-- QDRAIN runs through its checks, and then waits or discards as its side is the pushing or the popping one (R256). -/
theorem qdrainBody_checked (hf : s.tan.firmware = none) (h1 : s.tan.single = false) (hq : q.toNat ≤ 32) :
    qdrainBody q s =
      (if pushedByA q.toNat = s.onA then
        drainWait (if q.toNat < 16 then (s.tan.vfifo q.toNat).items.length else if q.toNat < 32 then (s.tan.sfifo (q.toNat - 16)).items.length
          else s.tan.bq.items.length) (q.toNat + 1)
      else modTan (fun t =>
        if q.toNat < 16 then { t with vq := sparseSet {} t.vq q.toNat ((t.vfifo q.toNat).drain 16 s.me.keepsPops) }
        else if q.toNat < 32 then { t with sq := sparseSet {} t.sq (q.toNat - 16) ((t.sfifo (q.toNat - 16)).drain 32 s.me.keepsPops) }
        else { t with bq := t.bq.drain 64 s.me.keepsPops })) s := by
  unfold qdrainBody
  rw [exec_bind_ok (pairedOnly_ok hf h1), exec_bind_ok (require_of (decide_eq_true hq)), exec_getState_bind]

/-- On the pushing side an empty queue lets QDRAIN retire (R256). -/
theorem exec_qdrain_pusher (hf : s.tan.firmware = none) (h1 : s.tan.single = false) (hq : q.toNat ≤ 32) (hside : pushedByA q.toNat = s.onA)
    (he : (if q.toNat < 16 then (s.tan.vfifo q.toNat).items.length else if q.toNat < 32 then (s.tan.sfifo (q.toNat - 16)).items.length
      else s.tan.bq.items.length) = 0) : exec (.qdrain q) s = .next (retire s (s.me.pc + 4) s) := by
  refine runScalar_ok ?_
  rw [qdrainBody_checked hf h1 hq, if_pos hside, he]
  rfl

/-- On the popping side QDRAIN discards what stands before the marker (R256). -/
theorem exec_qdrain_popper (hf : s.tan.firmware = none) (h1 : s.tan.single = false) (hq : q.toNat ≤ 32) (hside : pushedByA q.toNat ≠ s.onA) :
    exec (.qdrain q) s = .next (retire s (s.me.pc + 4) { s with tan :=
      if q.toNat < 16 then { s.tan with vq := sparseSet {} s.tan.vq q.toNat ((s.tan.vfifo q.toNat).drain 16 s.me.keepsPops) }
      else if q.toNat < 32 then { s.tan with sq := sparseSet {} s.tan.sq (q.toNat - 16) ((s.tan.sfifo (q.toNat - 16)).drain 32 s.me.keepsPops) }
      else { s.tan with bq := s.tan.bq.drain 64 s.me.keepsPops } }) := by
  refine runScalar_ok ?_
  rw [qdrainBody_checked hf h1 hq, if_neg hside]
  rfl

end

/-- Settles O17: one statement for each instruction, and for QSTAT and QDRAIN one case for each kind of queue. -/
theorem queueInstructionsActOnTheirQueues : Obligations.QueueInstructionsActOnTheirQueues := by
  unfold Obligations.QueueInstructionsActOnTheirQueues
  intro s hf h1
  refine ⟨fun a hA ha hh hl => ?_, fun o x r hE hi hm hb => ?_, fun d q hd hr hq => ?_, fun q hq => ⟨fun hside he => ?_, fun hside => ?_⟩⟩
  · have h := exec_bqpush hf h1 hA ha hh hl
    unfold bqSpoiled at h
    rw [srcTaken_bq] at h
    exact h
  · have h (want : Bool) := bqBranch_ok (want := want) (o := o) hf h1 hE hi hm hb
    refine ⟨?_, ?_⟩
    · rintro rfl
      exact ⟨runBranch_goes (h true), runBranch_past (h false)⟩
    · rintro rfl
      exact ⟨runBranch_past (h true), runBranch_goes (h false)⟩
  · refine (runScalar_ok (qstatBody_ok hf h1 hd hr hq)).trans ?_
    by_cases hv : q.toNat < 16
    · simp only [hv, if_true]
      rfl
    · by_cases hs : q.toNat < 32
      · simp only [hv, hs, if_true, if_false]
        rfl
      · simp only [hv, hs, if_false]
        rfl
  · exact exec_qdrain_pusher hf h1 hq hside he
  · refine (exec_qdrain_popper hf h1 hq hside).trans ?_
    dsimp only
    by_cases hv : q.toNat < 16
    · simp only [hv, if_true]
      rfl
    · by_cases hs : q.toNat < 32
      · simp only [hv, hs, if_true, if_false]
        rfl
      · simp only [hv, hs, if_false]
        rfl

end Sys2Proof.Machine

end

section
/-! PROOFS. Why an EXIT can leave a queue with an entry (O19). The Thoud writes the tandem's entry in its kernel area after the queues were emptied. Where that
write reaches the image of a firmware core, `landBytes` takes the queues of the tandem in focus from the image again. -/

namespace Sys2Proof.Machine

open Sys2Proof

/-- A state in which the entry that EXIT writes straddles two pages: 8 bytes lie in device memory, on the control word of queue 0 in the queue image of the
tandem itself (its CSN, 256, then counts one entry), and 8 lie outside. The hart to which the access is put down, number 0, is a firmware core's. -/
def exitWritesItsQueueImage : State :=
  { State.reset with
    live := true
    tan := { uid := 1, csn := 256, place := .resident 0 0, started := true }
    away := [{ t := { firmware := some 0 }, e := {}, a := {} }]
    ctxs := [{ num := 0, block := 0, state := .running, vcount := 2, imgBase := 2 ^ 25 - 0x40308, recBase := 2 ^ 25 - 8 - 0x51000 }]
    paging := { vtab := [(0, 9), (1, 9 + 0x9000000000)] }
    ready1 := 1 }

/-- The vector queues of the tandem in focus are empty after the step. -/
def endsWithQueuesEmpty : Host.Outcome State Fault Refusal → Bool
  | .next t => t.tan.vq.isEmpty
  | _ => false

theorem exit_leaves_queue_entry : endsWithQueuesEmpty (exec .exit exitWritesItsQueueImage) = false := by decide +kernel

theorem exitWritesItsQueueImage_quiet : exitWritesItsQueueImage.Quiet ∧ exitWritesItsQueueImage.endStrip.Quiet := by
  unfold State.Quiet
  decide +kernel

/-- Refutes O19: the clause for EXIT says that an ended tandem's queues are empty, but the write of its entry in the kernel area, which comes after, can fill them
again from the queue image. -/
theorem not_tandemsSpawnAndEnd : ¬ Obligations.TandemsSpawnAndEnd := by
  unfold Obligations.TandemsSpawnAndEnd
  rintro ⟨-, -, hexit⟩
  obtain ⟨hq, hq'⟩ := exitWritesItsQueueImage_quiet
  obtain ⟨t, ht, -, -, -, hends⟩ := hexit exitWritesItsQueueImage rfl hq hq' rfl ⟨0, 0, rfl⟩
  obtain ⟨-, hvq, -⟩ := (hends rfl).2 (.inl rfl) rfl
  have h := exit_leaves_queue_entry
  rw [ht] at h
  simp [endsWithQueuesEmpty, hvq] at h

end Sys2Proof.Machine

end

section
/-! PROOFS. What the device's own work leaves in its place (O39, O48). Stores performed, writes of kernel areas, stops, faults and retirements do not move the
focus, rename a tandem, touch a tandem that has never started, change a launch queue or reclaim a context. -/

namespace Sys2Proof.Machine

open Sys2Proof

/-- What is watched: the hart in focus, and, where they are asked for, the clock, the numbers of the tandems away from the focus, the launch queues and whether
every context stays bound. The tandems in `fresh` are away and have never started. -/
structure Roster where
  live : Bool
  onA : Bool
  uid : Nat
  now : Option Nat
  uids : Option (List Nat)
  queues : Option (List Queue)
  bound : Bool
  fresh : List Away

/-- A tandem that has been created and never been dispatched. -/
def Away.Fresh (x : Away) : Prop := x.t.place = .waiting ∧ x.t.started = false

/-- The state is as the roster has it. -/
def State.Has (w : Roster) (s : State) : Prop :=
  s.live = w.live ∧ s.onA = w.onA ∧ s.tan.uid = w.uid ∧ (∀ n, w.now = some n → s.now = n) ∧ (∀ l, w.uids = some l → s.away.map (·.t.uid) = l) ∧
    (∀ l, w.queues = some l → s.queues = l) ∧ (w.bound = true → ∀ c ∈ s.ctxs, c.state ≠ .reclaimed) ∧ ∀ y ∈ w.fresh, y.Fresh ∧ y ∈ s.away

section
variable {w : Roster} {s : State} {α β : Type}

@[simp] theorem State.withFocus_onA {x : Away} : (s.withFocus x).onA = s.onA := by unfold State.withFocus; split <;> rfl
@[simp] theorem State.withFocus_now {x : Away} : (s.withFocus x).now = s.now := by unfold State.withFocus; split <;> rfl
@[simp] theorem State.withFocus_ctxs {x : Away} : (s.withFocus x).ctxs = s.ctxs := by unfold State.withFocus; split <;> rfl
@[simp] theorem State.withFocus_tan {x : Away} : (s.withFocus x).tan = x.t := by unfold State.withFocus; split <;> rfl

namespace State.Has

theorem live_eq (h : s.Has w) : s.live = w.live := h.1
theorem onA_eq (h : s.Has w) : s.onA = w.onA := h.2.1
theorem uid_eq (h : s.Has w) : s.tan.uid = w.uid := h.2.2.1
theorem now_eq (h : s.Has w) {n : Nat} (e : w.now = some n) : s.now = n := h.2.2.2.1 n e
theorem uids_eq (h : s.Has w) {l : List Nat} (e : w.uids = some l) : s.away.map (·.t.uid) = l := h.2.2.2.2.1 l e
theorem queues_eq (h : s.Has w) {l : List Queue} (e : w.queues = some l) : s.queues = l := h.2.2.2.2.2.1 l e
theorem not_reclaimed (h : s.Has w) (e : w.bound = true) : ∀ c ∈ s.ctxs, c.state ≠ .reclaimed := h.2.2.2.2.2.2.1 e
theorem fresh (h : s.Has w) {y : Away} (hy : y ∈ w.fresh) : y.Fresh := (h.2.2.2.2.2.2.2 y hy).1
theorem fresh_away (h : s.Has w) {y : Away} (hy : y ∈ w.fresh) : y ∈ s.away := (h.2.2.2.2.2.2.2 y hy).2

theorem focusAway_uid (h : s.Has w) : s.focusAway.t.uid = w.uid := by
  rw [State.focusAway_t]
  exact h.uid_eq

theorem withFocus {x : Away} (h : s.Has w) (hx : x.t.uid = w.uid) : (s.withFocus x).Has w := by
  obtain ⟨hl, ho, _, hn, hu, hq, hb, hf⟩ := h
  exact ⟨by simpa using hl, by simpa using ho, by simpa using hx, by simpa using hn, by simpa using hu, by simpa using hq, by simpa using hb,
    by simpa using hf⟩

theorem withAway {l : List Away} (h : s.Has w) (hl : l.map (·.t.uid) = s.away.map (·.t.uid)) (hm : ∀ y ∈ w.fresh, y ∈ l) :
    State.Has w { s with away := l } := by
  obtain ⟨hlive, ho, hu, hn, ha, hq, hb, hf⟩ := h
  exact ⟨hlive, ho, hu, hn, fun r e => hl.trans (ha r e), hq, hb, fun y hy => ⟨(hf y hy).1, hm y hy⟩⟩

end State.Has

/-! ## Maps over tandems -/

/-- What a step of a map over tandems has to keep. -/
def KeepsRoster (w : Roster) (f : State → Away → State × Away) : Prop :=
  ∀ s x, s.Has w → (f s x).1.Has w ∧ (f s x).2.t.uid = x.t.uid ∧ (x ∈ w.fresh → (f s x).2 = x)

section
variable {p : Tandem → Bool} {f : State → Away → State × Away}

theorem mapAway_has {l : List Away} (hf : KeepsRoster w f) (h : s.Has w) :
    (mapAway p f s l).1.Has w ∧ (mapAway p f s l).2.map (·.t.uid) = l.map (·.t.uid) ∧ ∀ y ∈ w.fresh, y ∈ l → y ∈ (mapAway p f s l).2 := by
  induction l generalizing s with
  | nil => exact ⟨h, rfl, fun _ _ hy => hy⟩
  | cons x r ih =>
    unfold mapAway
    cases hp : p x.t with
    | false =>
      obtain ⟨hs, hu, hm⟩ := ih h
      refine ⟨hs, congrArg (x.t.uid :: ·) hu, fun y hy hyl => ?_⟩
      rcases List.mem_cons.1 hyl with rfl | hyr
      · exact List.mem_cons_self
      · exact List.mem_cons_of_mem _ (hm y hy hyr)
    | true =>
      obtain ⟨h1, hx, hfresh⟩ := hf s x h
      obtain ⟨hs, hu, hm⟩ := ih h1
      refine ⟨hs, congrArg₂ List.cons hx hu, fun y hy hyl => ?_⟩
      rcases List.mem_cons.1 hyl with rfl | hyr
      · exact List.mem_cons.2 (.inl (hfresh hy).symm)
      · exact List.mem_cons_of_mem _ (hm y hy hyr)

theorem mapTandems_has (hf : KeepsRoster w f) (h : s.Has w) : (mapTandems p f s).Has w := by
  have hfocus : State.Has w (if (s.live && p s.tan) = true then (f s s.focusAway).1.withFocus (f s s.focusAway).2 else s) := by
    split
    · obtain ⟨hs, hx, _⟩ := hf s s.focusAway h
      exact hs.withFocus (hx.trans h.focusAway_uid)
    · exact h
  obtain ⟨hs, hu, hm⟩ := mapAway_has (p := p) (l := _) hf hfocus
  obtain ⟨hl, ho, hui, hn, _, hq, hb, hfr⟩ := hs
  exact ⟨hl, ho, hui, hn, fun l e => hu.trans (hfocus.uids_eq e), hq, hb, fun y hy => ⟨(hfr y hy).1, hm y hy (hfocus.fresh_away hy)⟩⟩

/-- A change of the tandems alone that keeps their numbers, where no fresh one is watched. -/
theorem keepsRoster_of_uid {g : State → Away → Away} (hw : w.fresh = []) (hg : ∀ s x, (g s x).t.uid = x.t.uid) : KeepsRoster w (fun s x => (s, g s x)) :=
  fun s x h => ⟨h, hg s x, fun hx => nomatch hw ▸ hx⟩

end

/-! ## Stores performed -/

theorem imageWritten_uid {bs : List (Nat × Byte × Byte)} {x : Away} : (imageWritten s bs x).t.uid = x.t.uid := by
  unfold imageWritten
  split <;> rfl

/-- The registers of a tandem that never started are not in memory. -/
theorem Away.Fresh.imageMeets {x : Away} {pa n : Nat} (hx : x.Fresh) : x.imageMeets s pa n = false := by
  unfold Away.imageMeets Tandem.cached
  rw [hx.2]
  simp

theorem writeImages_has {bs : List (Nat × Byte × Byte)} (h : s.Has w) : (writeImages bs s).Has w := by
  refine mapTandems_has (fun t x ht => ⟨ht, ?_, fun hx => ?_⟩) h
  · exact ite_holds (P := fun y : Away => y.t.uid = x.t.uid) imageWritten_uid rfl
  · have hmeets (b : Nat × Byte × Byte) : x.imageMeets t b.1 1 = false := (ht.fresh hx).imageMeets
    simp [hmeets]

theorem landShared_has {unit : Nat} {bs : List HeldByte} (h : s.Has w) : (landShared s unit bs).Has w :=
  foldl_holds (P := State.Has w) (fun _ h1 _ _ => h1) h

theorem landBytes_has {d hart va strip : Nat} {posted : Bool} {bs : List (Nat × Byte × Byte)} (h : s.Has w) :
    (landBytes s d hart va posted strip bs).1.Has w := by
  unfold landBytes
  split
  · exact h
  · split
    · exact ite_holds (P := State.Has w) (writeImages_has h) h
    · split
      · split <;> exact h
      · exact h
    · split <;> exact h
    · exact h
    · exact h

theorem performOne_has {d unit hart : Nat} {x : HeldStore} (h : s.Has w) : (performOne s d unit hart x).1.Has w := by
  unfold performOne
  split
  · exact landShared_has h
  · exact landBytes_has h

theorem performAll_has {d unit hart : Nat} {l : List HeldStore} (h : s.Has w) : (performAll s d unit hart l).1.Has w := by
  induction l generalizing s with
  | nil => exact h
  | cons x r ih => exact ih (performOne_has h)

theorem performHeldOf_has {t : Tandem} {onA : Bool} {h : Hart} (hs : s.Has w) : (performHeldOf s t onA h).1.Has w := by
  unfold performHeldOf
  split
  · exact hs
  · exact performAll_has hs

/-! ## Writes of the Thoud -/

theorem setAccessed_has {kind : AccessKind} {x : Xlat} (h : s.Has w) : (setAccessed s kind x).Has w := by
  unfold setAccessed
  dsimp only
  split
  · exact h
  · split
    · exact ite_holds (P := State.Has w) h h
    · exact h

theorem installXlat_has {e : TlbEntry} (h : s.Has w) : (installXlat s e).Has w := ite_holds (P := State.Has w) h (ite_holds (P := State.Has w) h h)

theorem markXlat_has {kind : AccessKind} {x : Xlat} (h : s.Has w) : (markXlat s kind x).Has w := by
  refine setAccessed_has ?_
  unfold cacheXlat
  split
  · exact installXlat_has h
  · exact h

theorem markPages_has {kind : AccessKind} {xs : List Xlat} (h : s.Has w) : (markPages kind xs s).Has w :=
  foldl_holds (P := State.Has w) (fun _ h1 _ _ => markXlat_has h1) h

theorem sysWrite_has {c : Context} {d a : Nat} {bs : List Byte} {view : Bool} (h : s.Has w) : IfOk (State.Has w) (sysWrite s c d a bs view) := by
  unfold sysWrite
  split
  next xs _ =>
    have hmark : State.Has w (xs.foldl (fun s x => markXlat s .store x) s) := foldl_holds (P := State.Has w) (fun _ h1 _ _ => markXlat_has h1) h
    split
    · exact .error
    · dsimp only
      split
      · exact .ok hmark
      · split
        · split
          · exact .error
          · exact .ok (landBytes_has hmark)
        · exact .ok (landBytes_has hmark)
  · exact .error

theorem storeImage_has {t : Tandem} {e a : Hart} (h : s.Has w) : IfOk (State.Has w) (storeImage s t e a) := by
  unfold storeImage
  split
  · exact .ok h
  · exact .map (fun _ => markPages_has h)

theorem writeImage_has {t : Tandem} {e a : Hart} (h : s.Has w) : (writeImage s t e a).Has w := by
  unfold writeImage
  split
  next e => exact storeImage_has h _ e
  · exact h

theorem endStay_has {t : Tandem} (h : s.Has w) : (endStay s t).Has w := by
  unfold endStay
  split
  · exact ite_holds (P := State.Has w) h h
  · exact h

/-- Slots that are freed, or not, leave a tandem its number. -/
theorem freeSpent_ite_uid {c : Prop} [Decidable c] {t t' : Tandem} {onA : Bool} (h : t'.uid = t.uid) : (if c then t' else freeSpent t' onA).uid = t.uid :=
  ite_holds (P := fun y : Tandem => y.uid = t.uid) h h

theorem leaveSlot_uid {reason : Nat} {x : Away} : (leaveSlot reason s x).2.t.uid = x.t.uid := by
  unfold leaveSlot
  split
  · exact freeSpent_ite_uid (freeSpent_ite_uid rfl)
  · rfl

theorem leaveSlot_keepsRoster {reason : Nat} : KeepsRoster w (leaveSlot reason) := by
  refine fun t x h => ⟨?_, leaveSlot_uid, fun hx => ?_⟩
  · unfold leaveSlot
    split
    · exact writeImage_has (endStay_has (performHeldOf_has (performHeldOf_has h)))
    · exact h
  · unfold leaveSlot
    rw [(h.fresh hx).1]

theorem faultContext_has {n : Nat} (h : s.Has w) : (faultContext s n).Has w := by
  unfold faultContext
  dsimp only
  split
  · obtain ⟨hl, ho, hu, hn, ha, hq, hb, hf⟩ := h
    refine ⟨hl, ho, hu, hn, ha, hq, fun e => List.forall_mem_map.2 (fun c hc => ?_), hf⟩
    exact ite_holds (P := fun c : Context => c.state ≠ .reclaimed) (fun h => nomatch h) (hb e c hc)
  · exact h

theorem faultContextAll_has {n : Nat} (h : s.Has w) : (faultContextAll s n).Has w := mapTandems_has leaveSlot_keepsRoster (faultContext_has h)

theorem thoudWrite_has {faults : Bool} {c : Context} {d a : Nat} {bs : List Byte} (h : s.Has w) : (thoudWrite faults s c d a bs).Has w := by
  unfold thoudWrite
  dsimp only
  split
  · exact h
  · split
    · exact h
    · split
      next e => exact sysWrite_has h _ e
      · exact ite_holds (P := State.Has w) h (ite_holds (P := State.Has w) (faultContextAll_has h) h)

theorem writeTandemEntry_has {t : Tandem} (h : s.Has w) : (writeTandemEntry s t).Has w := by
  unfold writeTandemEntry
  split
  · exact thoudWrite_has h
  · exact h

theorem writeKernel_has {d ctx csn : Nat} (h : s.Has w) : (writeKernel s d ctx csn).Has w := by
  unfold writeKernel
  split
  · exact thoudWrite_has h
  · exact h

theorem flushArea_has (h : s.Has w) : (flushArea s).Has w := by
  refine foldl_holds (P := State.Has w) (fun t ht x _ => ?_) h
  split
  · exact ht
  · split
    · split
      next e => exact sysWrite_has ht _ e
      · exact ite_holds (P := State.Has w) ht ht
    · exact thoudWrite_has ht

theorem saveQueue_has {n : Nat} (h : s.Has w) : (saveQueue s n).Has w := by
  unfold saveQueue
  split
  · exact h
  · split
    · exact h
    · exact ite_holds (P := State.Has w) h (thoudWrite_has h)

end

end Sys2Proof.Machine

end

section
/-! PROOFS. Packets become kernels (O48): what the reads of a packet leave alone, the kernel and the tandems that a taken packet makes, the scans, and R21's
division of a range. -/

namespace Sys2Proof.Machine

open Sys2Proof

/-! ## Reads of the scheduler leave the tandems alone -/

section
variable {s u : State} {l : List Away}

theorem setAccessed_allTandems {kind : AccessKind} {x : Xlat} (h : s.allTandems = l) : (setAccessed s kind x).allTandems = l := by
  unfold setAccessed
  dsimp only
  split
  · exact h
  · split
    · exact ite_holds (P := fun t : State => t.allTandems = l) h h
    · exact h

theorem installXlat_allTandems {e : TlbEntry} (h : s.allTandems = l) : (installXlat s e).allTandems = l :=
  ite_holds (P := fun t : State => t.allTandems = l) h (ite_holds (P := fun t : State => t.allTandems = l) h h)

theorem markXlat_allTandems {kind : AccessKind} {x : Xlat} (h : s.allTandems = l) : (markXlat s kind x).allTandems = l := by
  refine setAccessed_allTandems ?_
  unfold cacheXlat
  split
  · exact installXlat_allTandems h
  · exact h

theorem markAll_allTandems {kind : AccessKind} {xs : List Xlat} (h : s.allTandems = l) :
    (xs.foldl (fun s x => markXlat s kind x) s).allTandems = l :=
  foldl_holds (P := fun t : State => t.allTandems = l) (fun _ h1 _ _ => markXlat_allTandems h1) h

theorem sysSeen_allTandems {c : Context} {d a n : Nat} {view : Bool} (h : s.allTandems = l) : (sysSeen s c d a n view).allTandems = l := by
  unfold sysSeen
  split
  · exact ite_holds (P := fun t : State => t.allTandems = l) (markAll_allTandems h) (markAll_allTandems h)
  · exact h

theorem doorbellSeen_allTandems {pa : Nat} (h : s.allTandems = l) : (doorbellSeen s pa).allTandems = l := by
  unfold doorbellSeen blockSeen
  split
  · split
    · split
      · exact h
      · exact sysSeen_allTandems h
    · exact h
  · exact h

theorem thoudRun_allTandems {run : List (Nat × Xlat)} (h : s.allTandems = l) : (thoudRun s run).1.allTandems = l := by
  unfold thoudRun
  split
  · exact h
  · split
    · exact h
    · split
      · exact h
      · split
        · exact h
        · exact doorbellSeen_allTandems h
        · split <;> exact h
        · split
          · split
            · exact h
            · split <;> exact h
          · split <;> exact h
        · exact h

theorem thoudRuns_allTandems {runs : List (List (Nat × Xlat))} (h : s.allTandems = l) : (thoudRuns s runs).1.allTandems = l := by
  induction runs generalizing s with
  | nil => exact h
  | cons r rest ih =>
    have hr := thoudRun_allTandems (run := r) h
    unfold thoudRuns
    split
    next e =>
      rw [e] at hr
      have hrest := ih hr
      split
      next e' =>
        rw [e'] at hrest
        exact hrest
      · exact hrest
    · exact hr

/-- A read of the scheduler that brings a value leaves every tandem as it was. -/
theorem schedRead_allTandems {q : Queue} {a n v : Nat} (h : schedRead s q a n = (u, .ok v)) : u.allTandems = s.allTandems := by
  unfold schedRead at h
  split at h
  · cases h
  · split at h
    · cases h
    · split at h <;> cases h
    · cases h
    · cases h
    · cases h
    next xs _ =>
      split at h
      · have hr := thoudRuns_allTandems (runs := runsOf (((range a n).map (fun b => b % 2 ^ 64)).zip xs))
          (markAll_allTandems (kind := .load) (xs := xs) (rfl : s.allTandems = s.allTandems))
        dsimp only at h
        split at h
        next e =>
          cases h
          rw [e] at hr
          exact hr
        · cases h
        · cases h
      · cases h

theorem readHead_allTandems {q : Queue} {ws : List Word} (h : readHead s q = (u, .ok ws)) : u.allTandems = s.allTandems := by
  unfold readHead at h
  split at h
  · cases h
    rfl
  · split at h
    next e =>
      cases h
      have hr := schedRead_allTandems e
      exact hr
    · cases h
    · cases h

theorem waitMet_allTandems {q : Queue} {p : Packet} (h : waitMet s q p = (u, .ok ())) : u.allTandems = s.allTandems := by
  unfold waitMet at h
  split at h
  · cases h
    rfl
  · split at h
    next e =>
      split at h
      · cases h
        exact schedRead_allTandems e
      · cases h
    · cases h
    · cases h

/-- A head packet that passes its tests: no tandem has changed, and the counts allow the packet. -/
theorem testHead_passed {q : Queue} {p : Packet} (h : testHead s q = (u, .ok p)) : u.allTandems = s.allTandems ∧ countsAllow u q p = true := by
  unfold testHead at h
  split at h
  · cases h
  next e =>
    split at h
    · cases h
    · split at h
      · cases h
      next e' =>
        split at h
        next hc =>
          cases h
          exact ⟨(waitMet_allTandems e').trans (readHead_allTandems e), hc⟩
        · cases h

theorem readHead_error {q : Queue} {e : HeadTest} (h : readHead s q = (u, .error e)) : e = .waits ∨ e = .faulted 3 := by
  unfold readHead at h
  split at h
  · cases h
  · split at h
    · cases h
    · cases h
      exact .inl rfl
    · cases h
      exact .inr rfl

theorem waitMet_error {q : Queue} {p : Packet} {e : HeadTest} (h : waitMet s q p = (u, .error e)) : e = .blocked ∨ e = .waits ∨ e = .faulted 3 := by
  unfold waitMet at h
  split at h
  · cases h
  · split at h
    · split at h
      · cases h
      · cases h
        exact .inl rfl
    · cases h
      exact .inr (.inl rfl)
    · cases h
      exact .inr (.inr rfl)

/-- A head packet that fails a test cannot be taken. -/
theorem testHead_error {q : Queue} {e : HeadTest} (h : testHead s q = (u, .error e)) (p : Packet) (args : List Word) : e ≠ .takeable p args := by
  rintro rfl
  unfold testHead at h
  split at h
  next e' =>
    cases h
    rcases readHead_error e' with hc | hc <;> cases hc
  · split at h
    · cases h
    · split at h
      next e' =>
        cases h
        rcases waitMet_error e' with hc | hc | hc <;> cases hc
      · split at h <;> cases h

/-- A packet that can be taken finds the TIDs for its tandems free in its context (R268, R281). -/
theorem examineHead_takeable {q : Queue} {p : Packet} {args : List Word} (h : examineHead s q = (u, .takeable p args)) :
    (freeTids u q.ctx p.t).length = p.t := by
  unfold examineHead at h
  split at h
  next e =>
    cases h
    exact absurd rfl (testHead_error e p args)
  next e =>
    have hc := (testHead_passed e).2
    split at h
    next e' =>
      cases h
      unfold countsAllow at hc
      simp only [Bool.and_eq_true, decide_eq_true_eq] at hc
      obtain ⟨⟨⟨_, htids⟩, _⟩, _⟩ := hc
      unfold freeTids State.contextTandems at htids ⊢
      rw [schedRead_allTandems e']
      exact htids
    · cases h
    · cases h

end

/-! ## The registers of a new tandem -/

theorem range_eq_range' {lo n : Nat} : range lo n = List.range' lo n := by
  induction n generalizing lo with
  | zero => rfl
  | succ n ih => exact congrArg (lo :: ·) ih

/-- Registers set one after the other from a number on. -/
theorem sparseGet_setRange {regs : List Word} {lo j : Nat} {l : List (Nat × Word)} (hl : sparseWf 0 l = true) :
    sparseGet 0 (((range lo regs.length).zip regs).foldl (fun t e => sparseSet 0 t e.1 e.2) l) j =
      if lo ≤ j ∧ j < lo + regs.length then regs.getD (j - lo) 0 else sparseGet 0 l j := by
  induction regs generalizing lo l with
  | nil =>
    rw [if_neg (by simp only [List.length_nil]; omega)]
    rfl
  | cons x r ih =>
    refine (ih (sparseWf_set 0 l lo x hl)).trans ?_
    rw [List.length_cons]
    rcases Nat.lt_trichotomy j lo with h | rfl | h
    · rw [if_neg (by omega), if_neg (by omega), sparseGet_set_other 0 l lo j x (by omega)]
    · rw [if_neg (by omega), if_pos (by omega), sparseGet_set_same 0 l j x hl, Nat.sub_self]
      rfl
    · obtain ⟨k, rfl⟩ : ∃ k, j = lo + 1 + k := ⟨j - (lo + 1), by omega⟩
      rw [sparseGet_set_other 0 l lo _ x (by omega), show lo + 1 + k - lo = k + 1 by omega, Nat.add_sub_cancel_left, List.getD_cons_succ]
      exact if_congr (by omega) rfl rfl

/-- s1 and those after it hold what a tandem starts with (R22). -/
theorem startHart_readS {pc : Word} {regs : List Word} {j : Nat} (hj : j < regs.length) : (startHart pc regs).readS (j + 1) = regs.getD j 0 := by
  show sparseGet 0 (startHart pc regs).s (archReg 0 (j + 1)) = _
  have h := sparseGet_setRange (regs := regs) (lo := 1) (j := j + 1) (l := []) rfl
  rw [if_pos (by omega), Nat.add_sub_cancel] at h
  rw [show archReg 0 (j + 1) = j + 1 by unfold archReg; omega]
  exact h

/-! ## A taken packet -/

section
variable {q : Queue} {c : Context} {p : Packet} {args : List Word} {u : State}

/-- The kernel that a packet becomes. -/
def packetKernel (q : Queue) (c : Context) (p : Packet) (args : List Word) : Kernel :=
  { ctx := q.ctx, csn := c.nextCsn, state := .starting, qid := q.num, tcnt := p.t, t0 := p.t, argAddr := p.argAddr, args := args, total := p.total
    doneAddr := p.doneAddr, eentry := p.eentry, aentry := p.aentry, z := p.zt, prio := p.prio, ecls := p.ecls, irq := p.irq }

/-- What tandem `i` of a packet finds in s1 and those after it: its range, its index, their number and the argument words. -/
def packetRegs (p : Packet) (args : List Word) (i : Nat) : List Word :=
  [BitVec.ofNat 64 (splitRange p i).1, BitVec.ofNat 64 (splitRange p i).2, BitVec.ofNat 64 i, BitVec.ofNat 64 p.t] ++ args

/-- The tandems that a packet makes, with their TIDs. -/
def packetTandems (k : Kernel) (uid : Nat) (p : Packet) (args : List Word) (tids : List Nat) : List Away :=
  ((range 0 p.t).zip tids).map (fun e => newTandem k (uid + e.1) e.2 e.1 (packetRegs p args e.1))

/-- The kernels once a packet has been taken: the new one takes the place of the record with its slot. -/
def kernelsWith (u : State) (q : Queue) (c : Context) (p : Packet) (args : List Word) : List Kernel :=
  u.kernels.filter (fun j => j.ctx ≠ q.ctx ∨ j.csn % 4096 ≠ c.nextCsn % 4096) ++ [packetKernel q c p args]

/-- The state in which a packet's kernel has its record, and has no tandem yet. -/
def kernelAdded (u : State) (q : Queue) (c : Context) (p : Packet) (args : List Word) : State :=
  writeKernel (State.modCtx { u with kernels := kernelsWith u q c p args } q.ctx (fun c => { c with nextCsn := c.nextCsn + 1 })) 0 q.ctx c.nextCsn

theorem startKernel_eq (hc : u.ctx? q.ctx = some c) :
    startKernel u q p args none =
      addTandems (kernelAdded u q c p args)
        (packetTandems (packetKernel q c p args) (kernelAdded u q c p args).nextUid p args (freeTids u q.ctx p.t)) := by
  unfold startKernel
  rw [hc]
  rfl

theorem packetTandems_length {k : Kernel} {uid : Nat} {tids : List Nat} (h : tids.length = p.t) : (packetTandems k uid p args tids).length = p.t := by
  simp [packetTandems, range_eq_range', h]

/-- Tandem `i` of a packet is among those that it makes. -/
theorem packetTandems_mem {k : Kernel} {uid : Nat} {tids : List Nat} (h : tids.length = p.t) {i : Nat} (hi : i < p.t) :
    ∃ tid, newTandem k (uid + i) tid i (packetRegs p args i) ∈ packetTandems k uid p args tids := by
  have hz : i < ((range 0 p.t).zip tids).length := by simp [range_eq_range', h, hi]
  have he : ((range 0 p.t).zip tids)[i] = (i, tids[i]'(h ▸ hi)) := by simp [range_eq_range']
  exact ⟨tids[i]'(h ▸ hi), List.mem_map.2 ⟨_, List.getElem_mem hz, by rw [he]⟩⟩

theorem packetTandems_fresh {k : Kernel} {uid : Nat} {tids : List Nat} : ∀ x ∈ packetTandems k uid p args tids, x.Fresh :=
  List.forall_mem_map.2 (fun _ _ => ⟨rfl, rfl⟩)

/-! ### What a packet that is taken leaves in its place -/

/-- The roster of a state as it stands, of its launch queues and the numbers of its tandems. -/
def State.roster (s : State) (bound : Bool) : Roster :=
  { live := s.live, onA := s.onA, uid := s.tan.uid, now := none, uids := some (s.away.map (·.t.uid)), queues := some s.queues, bound := bound, fresh := [] }

theorem State.has_roster {s : State} {b : Bool} (hb : b = true → ∀ c ∈ s.ctxs, c.state ≠ .reclaimed) : s.Has (s.roster b) :=
  ⟨rfl, rfl, rfl, fun _ h => (nomatch h), fun _ e => Option.some.inj e, fun _ e => Option.some.inj e, hb, fun _ h => nomatch h⟩

theorem kernelAdded_has : (kernelAdded u q c p args).Has (u.roster false) :=
  writeKernel_has (s := State.modCtx { u with kernels := kernelsWith u q c p args } q.ctx (fun c => { c with nextCsn := c.nextCsn + 1 }))
    (State.has_roster (fun h => nomatch h))

/-- Tandems that are added stand away from the focus, and none of the others is lost. -/
theorem addTandems_has {s : State} {xs : List Away} (hx : ∀ x ∈ xs, x.Fresh) :
    (addTandems s xs).Has { s.roster false with uids := some ((s.away ++ xs).map (·.t.uid)), fresh := xs } := by
  refine foldl_holds (P := State.Has _) (fun _ h _ _ => writeTandemEntry_has h) ?_
  exact ⟨rfl, rfl, rfl, fun _ h => (nomatch h), fun _ e => Option.some.inj e, fun _ e => Option.some.inj e, fun h => (nomatch h),
    fun y hy => ⟨hx y hy, List.mem_append_right _ hy⟩⟩

theorem modQueue_has {w : Roster} {s : State} {n : Nat} {f : Queue → Queue} (h : s.Has w) :
    (s.modQueue n f).Has { w with queues := some (s.queues.map (fun z => if z.num == n then f z else z)) } := by
  obtain ⟨hl, ho, hu, hn, ha, _, hb, hf⟩ := h
  exact ⟨hl, ho, hu, hn, ha, fun _ e => Option.some.inj e, hb, hf⟩

/-- What stands when a packet has been taken: the queues with its head taken, and the tandems with those that it made. -/
theorem takePacket_has (hc : u.ctx? q.ctx = some c) :
    let v := kernelAdded u q c p args
    let made := packetTandems (packetKernel q c p args) v.nextUid p args (freeTids u q.ctx p.t)
    (takePacket u q p args none).queues = u.queues.map (fun z => if z.num == q.num then z.took else z) ∧
      (takePacket u q p args none).away.length = u.away.length + made.length ∧ ∀ y ∈ made, y ∈ (takePacket u q p args none).away := by
  intro v made
  have hadded := kernelAdded_has (u := u) (q := q) (c := c) (p := p) (args := args)
  have hstart := addTandems_has (s := v) (xs := made) packetTandems_fresh
  rw [← startKernel_eq hc] at hstart
  have hsq : (startKernel u q p args none).queues = u.queues := (hstart.queues_eq rfl).trans (hadded.queues_eq rfl)
  have htaken := saveQueue_has (n := q.num) (modQueue_has (n := q.num) (f := Queue.took) hstart)
  have hlen := congrArg List.length (htaken.uids_eq rfl)
  have hv := congrArg List.length (hadded.uids_eq rfl)
  simp only [List.length_map, List.length_append] at hlen hv
  exact ⟨(htaken.queues_eq rfl).trans (by rw [hsq]), hlen.trans (by rw [hv]), fun y hy => htaken.fresh_away hy⟩

theorem writeKernel_steady {w : Watch} {s : State} {d ctx csn : Nat} (h : s.Steady w) : (writeKernel s d ctx csn).Steady w := by
  unfold writeKernel
  split
  · exact thoudWrite_steady h
  · exact h

theorem saveQueue_steady {w : Watch} {s : State} {n : Nat} (h : s.Steady w) : (saveQueue s n).Steady w := by
  unfold saveQueue
  split
  · exact h
  · split
    · exact h
    · exact ite_holds (P := State.Steady w) h (thoudWrite_steady h)

/-- A watch of the kernels alone. -/
def kernelWatch (u : State) (l : List Kernel) : Watch := { shoots := u.paging.shoots, kernels := some l, ctx := 0, va := 0, len := 0, away := false }

theorem steady_kernelWatch {s : State} {l : List Kernel} (hs : s.paging.shoots = u.paging.shoots) (hk : s.kernels = l) : s.Steady (kernelWatch u l) :=
  .of_empty hs (fun _ e => hk.trans (Option.some.inj e))

theorem takePacket_kernels (hc : u.ctx? q.ctx = some c) : (takePacket u q p args none).kernels = kernelsWith u q c p args := by
  have hadded : (kernelAdded u q c p args).Steady (kernelWatch u (kernelsWith u q c p args)) := writeKernel_steady (steady_kernelWatch rfl rfl)
  have hstart : (startKernel u q p args none).Steady (kernelWatch u (kernelsWith u q c p args)) := by
    rw [startKernel_eq hc]
    exact foldl_holds (P := State.Steady _) (fun _ h _ _ => writeTandemEntry_steady h) (steady_kernelWatch hadded.1 (hadded.2.1 _ rfl))
  have htaken : (takePacket u q p args none).Steady (kernelWatch u (kernelsWith u q c p args)) :=
    saveQueue_steady (n := q.num) (steady_kernelWatch (s := (startKernel u q p args none).modQueue q.num Queue.took) hstart.1 (hstart.2.1 _ rfl))
  exact htaken.2.1 _ rfl

end

/-! ## The queue whose turn it is -/

theorem leastBy_length {α : Type} {before : α → α → Bool} {l : List α} {x : α} (h : leastBy before l = some x) : ∃ n, l.length = n + 1 := by
  cases l with
  | nil => cases h
  | cons y r => exact ⟨r.length, rfl⟩

/-- Where the queue whose turn it is has a packet that can be taken, it is taken (R280, R281). -/
theorem exec_packetTake {s u : State} {q : Queue} {p : Packet} {args : List Word} (hturn : leastBy (servedBefore s.lastServed) (servable s) = some q)
    (hmay : mayTake s q = true) (hhead : examineHead s q = (u, .takeable p args)) : exec .packetTake s = .next (takePacket u q p args none) := by
  obtain ⟨n, hn⟩ := leastBy_length hturn
  have htry : tryTake s q none = (takePacket u q p args none, true) := by
    unfold tryTake
    rw [if_pos hmay, hhead]
  show Host.Outcome.next (takeFirst (servable s).length (servable s) s) = _
  rw [hn]
  unfold takeFirst
  rw [hturn]
  dsimp only
  rw [htry]

/-! ## Scans -/

section
variable {s u : State}

/-- Where no write of a kernel area waits, a scan's first part does nothing. -/
theorem flushArea_of_none_waiting (h : s.areaWrites = []) : flushArea s = s := by
  rw [flushArea_of_nil h]
  show { s with areaWrites := [] } = s
  rw [← h]

theorem rebind_of_none {f : Context → Bool} (h : ∀ c ∈ s.ctxs, c.state = .reclaimed → f c = false) : rebind f s = s := by
  unfold rebind
  rw [List.filter_eq_nil_iff.2]
  · rfl
  · intro c hc
    cases hs : c.state with
    | reclaimed => simp [h c hc hs]
    | _ => simp

theorem retest_of_not_blocked {q : Queue} (h : q.state ≠ .blocked) : retest s q = s := by
  unfold retest
  split
  next e => exact absurd e h
  · rfl

theorem retestAll_of_none {f : Queue → Bool} (h : ∀ q ∈ s.queues, q.state ≠ .blocked) : retestAll f s = s :=
  foldl_holds (P := (· = s)) (fun _ e q hq => (congrArg (retest · q) e).trans (retest_of_not_blocked (h q (List.mem_filter.1 hq).1))) rfl

theorem resumeParked_of_no_tandem (h : s.allTandems = []) : resumeParked (resumable s).length (resumable s) s = s := by
  unfold resumable
  rw [h]
  rfl

theorem resumeParked_single {d : Tandem} (ho : openSlots s d ≠ []) :
    ∃ x ∈ openSlots s d, resumeParked 1 [d] s = dispatchTandem d.uid x.1 x.2 { s with free := s.free + 1 } := by
  have hn : nextResumed [d] = some d := by
    unfold nextResumed
    cases h : d.onReplay <;> simp [h, leastBy]
  have hi : Config.choice s.free % (openSlots s d).length < (openSlots s d).length := Nat.mod_lt _ (List.length_pos_of_ne_nil ho)
  refine ⟨_, List.getElem_mem hi, ?_⟩
  unfold resumeParked
  rw [hn]
  dsimp only
  rw [List.getElem?_eq_getElem hi]
  rfl

theorem exec_schedulerScan : exec .schedulerScan s =
    .next (let u := retestAll (fun _ => true) (rebind (hasWaiter (flushArea s)) (flushArea s))
      resumeParked (resumable u).length (resumable u) u) := rfl

/-- With no context to bind, no queue to test and no tandem, a scan does no more than try the writes of kernel areas again. -/
theorem scan_flushes (hc : ∀ c ∈ s.ctxs, c.state ≠ .reclaimed) (ht : s.allTandems = []) (hq : ∀ q ∈ s.queues, q.state ≠ .blocked) :
    exec .schedulerScan s = .next (flushArea s) := by
  have hflush := flushArea_has (State.has_roster (s := s) (b := true) (fun _ => hc))
  have hnone : s.live = false ∧ s.away = [] := by simpa [State.allTandems] using ht
  have ht' : (flushArea s).allTandems = [] := by
    have ha : (flushArea s).away.map (·.t.uid) = s.away.map (·.t.uid) := hflush.uids_eq rfl
    rw [hnone.2] at ha
    rw [State.allTandems, show (flushArea s).live = false from hflush.live_eq.trans hnone.1, List.map_eq_nil_iff.1 ha]
    rfl
  rw [exec_schedulerScan, rebind_of_none (fun c hc h => absurd h (hflush.not_reclaimed rfl c hc)),
    retestAll_of_none (fun q h => hq q ((hflush.queues_eq rfl : (flushArea s).queues = s.queues) ▸ h))]
  exact congrArg _ (resumeParked_of_no_tandem ht')

/-- The head of the one queue, BLOCKED, is tested again (R279, R281). -/
theorem scan_unblocks {q : Queue} {p : Packet} (hw : s.areaWrites = []) (hc : ∀ c ∈ s.ctxs, c.state ≠ .reclaimed) (hqs : s.queues = [q])
    (hq : q.state = .blocked) (hp : q.page = none) (ht : s.allTandems = []) (hh : testHead s q = (u, .ok p)) :
    exec .schedulerScan s = .next (u.modQueue q.num (fun z => { z with state := .active })) := by
  have hr : retestAll (fun _ => true) s = u.modQueue q.num (fun z => { z with state := .active }) := by
    unfold retestAll
    rw [hqs]
    show retest s q = _
    unfold retest
    rw [hq, hp, hh]
    rfl
  rw [exec_schedulerScan, flushArea_of_none_waiting hw, rebind_of_none (fun c h e => absurd e (hc c h)), hr]
  exact congrArg _ (resumeParked_of_no_tandem ((testHead_passed hh).1.trans ht))

/-- The one tandem that may go on gets one of the slots open to it (R31). -/
theorem scan_dispatches {d : Tandem} (hw : s.areaWrites = []) (hc : ∀ c ∈ s.ctxs, c.state = .reclaimed → hasWaiter s c = false)
    (hq : ∀ q ∈ s.queues, q.state ≠ .blocked) (hr : resumable s = [d]) (ho : openSlots s d ≠ []) :
    ∃ x ∈ openSlots s d, exec .schedulerScan s = .next (dispatchTandem d.uid x.1 x.2 { s with free := s.free + 1 }) := by
  obtain ⟨x, hx, hd⟩ := resumeParked_single ho
  refine ⟨x, hx, ?_⟩
  rw [exec_schedulerScan, flushArea_of_none_waiting hw, rebind_of_none hc, retestAll_of_none hq]
  dsimp only
  rw [hr]
  exact congrArg _ hd

end

/-! ## R21's division -/

section
variable {p : Packet} {i : Nat}

/-- The number of chunks of a packet's range (R21). -/
def rangeChunks (p : Packet) : Nat := (p.total + p.g - 1) / p.g

/-- The chunks in front of tandem `i`. -/
def chunksBefore (p : Packet) (i : Nat) : Nat := i * (rangeChunks p / p.t) + min i (rangeChunks p % p.t)

/-- The chunks of tandem `i`. -/
def chunksOfTandem (p : Packet) (i : Nat) : Nat := rangeChunks p / p.t + if i < rangeChunks p % p.t then 1 else 0

theorem splitRange_base : (splitRange p i).1 = min (chunksBefore p i * p.g) p.total := rfl

theorem splitRange_count : (splitRange p i).2 = min ((chunksBefore p i + chunksOfTandem p i) * p.g) p.total - (splitRange p i).1 := rfl

theorem chunksBefore_succ : chunksBefore p (i + 1) = chunksBefore p i + chunksOfTandem p i := by
  unfold chunksBefore chunksOfTandem
  rw [Nat.succ_mul]
  split <;> omega

/-- A tandem's range ends where R21 has it. -/
theorem splitRange_end : (splitRange p i).1 + (splitRange p i).2 = min (chunksBefore p (i + 1) * p.g) p.total := by
  have h : chunksBefore p i * p.g ≤ chunksBefore p (i + 1) * p.g := Nat.mul_le_mul_right _ (chunksBefore_succ ▸ Nat.le_add_right _ _)
  rw [splitRange_count, splitRange_base, ← chunksBefore_succ]
  omega

/-- All chunks are given out. -/
theorem chunksBefore_all (ht : 1 ≤ p.t) : chunksBefore p p.t = rangeChunks p := by
  have hlt : rangeChunks p % p.t < p.t := Nat.mod_lt _ ht
  unfold chunksBefore
  rw [Nat.min_eq_right hlt.le]
  exact Nat.div_add_mod _ _

/-- The chunks cover the range. -/
theorem total_le_chunks (hg : 1 ≤ p.g) : p.total ≤ rangeChunks p * p.g := by
  have h := Nat.div_add_mod (p.total + p.g - 1) p.g
  have hlt : (p.total + p.g - 1) % p.g < p.g := Nat.mod_lt _ hg
  rw [Nat.mul_comm] at h
  unfold rangeChunks
  omega

/-- The first range begins at 0 (R21). -/
theorem splitRange_first : (splitRange p 0).1 = 0 := by
  rw [splitRange_base]
  unfold chunksBefore
  simp

/-- The last range ends at the total (R21). -/
theorem splitRange_last (hg : 1 ≤ p.g) (ht : 1 ≤ p.t) : (splitRange p (p.t - 1)).1 + (splitRange p (p.t - 1)).2 = p.total := by
  rw [splitRange_end, Nat.sub_add_cancel ht, chunksBefore_all ht]
  exact Nat.min_eq_right (total_le_chunks hg)

/-- A range begins at a multiple of the grain or at the total (R21). -/
theorem splitRange_aligned : (splitRange p i).1 % p.g = 0 ∨ (splitRange p i).1 = p.total := by
  rw [splitRange_base]
  rcases Nat.le_total (chunksBefore p i * p.g) p.total with h | h
  · exact .inl (by rw [Nat.min_eq_left h, Nat.mul_mod_left])
  · exact .inr (Nat.min_eq_right h)

end

/-- Settles O48: the taken packet by what `takePacket` leaves in its place, the scans one by one, and R21 by the chunks in front of each tandem. -/
theorem packetsBecomeKernels : Obligations.PacketsBecomeKernels := by
  unfold Obligations.PacketsBecomeKernels
  refine ⟨fun s => ⟨fun q c p args u hturn hmay hhead hc => ?_, scan_flushes, fun q p u hw hc hqs hq hp ht hh => scan_unblocks hw hc hqs hq hp ht hh,
    fun d hw hc hq hr ho => scan_dispatches hw hc hq hr ho⟩, fun p hg ht => ?_⟩
  · have htids := examineHead_takeable hhead
    obtain ⟨hqueues, hlen, hmade⟩ := takePacket_has (p := p) (args := args) hc
    rw [packetTandems_length htids] at hlen
    have hk : packetKernel q c p args ∈ (takePacket u q p args none).kernels := by
      rw [takePacket_kernels hc]
      exact List.mem_append_right _ (List.mem_singleton.2 rfl)
    refine ⟨_, exec_packetTake hturn hmay hhead, rfl, hqueues, ⟨_, hk, rfl, rfl, rfl, rfl, rfl, rfl, rfl, rfl, rfl⟩, hlen, fun i hi => ?_⟩
    obtain ⟨tid, hmem⟩ := packetTandems_mem (args := args) (k := packetKernel q c p args) (uid := (kernelAdded u q c p args).nextUid) htids hi
    refine ⟨_, hmade _ hmem, rfl, rfl, rfl, rfl, rfl, rfl, beq_iff_eq, rfl, fun j hj => startHart_readS (by rw [packetRegs, List.length_append]; exact hj)⟩
  · exact ⟨fun i _ => ⟨splitRange_base, splitRange_count⟩, splitRange_first, splitRange_last hg ht,
      fun i _ => ⟨splitRange_aligned, fun _ => splitRange_base.trans splitRange_end.symm⟩⟩

end Sys2Proof.Machine

end

section
/-! PROOFS. What the steps of a hart leave in its place (O39): stops, traps, records, retirements and the stores of an instruction keep the focus on the hart that
they are made at. -/

namespace Sys2Proof.Machine

open Sys2Proof

section
variable {w : Roster} {s : State}

/-! ## Strips -/

theorem spoilStrip_has (h : s.Has w) : s.spoilStrip.Has w := h

theorem testBarrier_away_uid {t : State} : (t.away.map (fun x => { x with e := testBarrier t x.t x.e, a := testBarrier t x.t x.a })).map (·.t.uid) =
    t.away.map (·.t.uid) := by
  rw [List.map_map]
  rfl

theorem testBarriers_has (hw : w.fresh = []) (h : s.Has w) : (testBarriers s).Has w := by
  obtain ⟨hl, ho, hu, hn, ha, hq, hb, _⟩ := h
  exact ⟨hl, ho, hu, hn, fun l e => testBarrier_away_uid.trans (ha l e), hq, hb, fun y hy => nomatch hw ▸ hy⟩

theorem endStrip_has (hw : w.fresh = []) (h : s.Has w) : s.endStrip.Has w := by
  unfold State.endStrip
  split
  · exact h
  · refine testBarriers_has hw ?_
    have hp := performHeldOf_has (t := s.tan) (onA := s.onA) (h := s.me) h
    dsimp only
    split <;> exact hp

/-! ## Stops -/

theorem dropLoop_has {t : Tandem} {h : Hart} (hs : s.Has w) : (dropLoop s t h).1.Has w := by
  unfold dropLoop clearAct
  split
  · split
    · exact hs
    · exact thoudWrite_has hs
  · exact hs

theorem leaveAll_has {t : Tandem} (h : s.Has w) : (leaveAll s t).Has w := ite_holds (P := State.Has w) h h

theorem stopTandem_uid {discard : Nat → Bool} {x : Away} : (stopTandem discard s x).2.t.uid = x.t.uid := by
  unfold stopTandem
  split
  · rfl
  · rfl
  · rfl
  · exact ite_holds (P := fun r : State × Away => r.2.t.uid = x.t.uid) rfl rfl

theorem stopTandem_keepsRoster {discard : Nat → Bool} (hw : w.fresh = []) : KeepsRoster w (stopTandem discard) := by
  refine fun t x h => ⟨?_, stopTandem_uid, fun hx => nomatch hw ▸ hx⟩
  unfold stopTandem
  split
  · exact h
  · exact h
  · exact h
  · exact ite_holds (P := fun r : State × Away => r.1.Has w) h
      (leaveAll_has (endStay_has (dropLoop_has (dropLoop_has (performHeldOf_has (performHeldOf_has h))))))

theorem stopKernel_has {ctx csn : Nat} {why : KernelStop} {discard : Nat → Bool} (hw : w.fresh = []) (h : s.Has w) :
    (stopKernel s ctx csn why discard).Has w := by
  unfold stopKernel
  split
  · exact h
  · exact ite_holds (P := State.Has w) h (foldl_holds (P := State.Has w) (fun _ h1 _ _ => writeTandemEntry_has h1)
      (mapTandems_has (stopTandem_keepsRoster hw) (s := s.modKernel ctx csn _) h))

theorem stopKernelOpen_has {ctx csn ftid : Nat} {faddr : Word} {discard : Nat → Bool} (hw : w.fresh = []) (h : s.Has w) :
    (stopKernelOpen s ctx csn ftid faddr discard).Has w := stopKernel_has hw (s := { s with free := s.free + 1 }) h

/-! ## Records and traps -/

theorem enterBuffer_has {d : Nat} {r : FaultRecord} (h : s.Has w) : (enterBuffer s d r).Has w := ite_holds (P := State.Has w) h h

theorem postRecord_has {d : Nat} {r : FaultRecord} (h : s.Has w) : (postRecord s d r).1.Has w :=
  ite_holds (P := fun q : State × Bool => q.1.Has w) (enterBuffer_has h) h

theorem postMine_has {d : Nat} {r : FaultRecord} (h : s.Has w) : (postMine s d r).Has w := by
  have hq := postRecord_has (d := d) (r := r) h
  unfold postMine
  dsimp only
  split
  · exact hq
  · exact hq

theorem putRecord_has {sink : Nat} {t : Tandem} {side typ data cmp : Nat} (h : s.Has w) : (putRecord s sink t side typ data cmp).Has w := by
  unfold putRecord
  split
  · exact h
  · exact ite_holds (P := State.Has w) h h

theorem placeMarker_has (h : s.Has w) : (placeMarker s).Has w := by
  unfold placeMarker
  split
  · exact h
  · split
    · exact ite_holds (P := State.Has w) h h
    · exact ite_holds (P := State.Has w) h h
    · exact ite_holds (P := State.Has w) h h

theorem takeTrap_has {code sub : Nat} {xpc xaddr xinfo : Word} (hw : w.fresh = []) (h : s.Has w) : (takeTrap code sub xpc xaddr xinfo s).Has w := by
  have he := endStrip_has hw h
  have hm {c : Prop} [Decidable c] : State.Has w (if c then s.endStrip else placeMarker s.endStrip) := ite_holds he (placeMarker_has he)
  exact ite_holds (P := State.Has w) (stopKernel_has hw hm) hm

theorem parkFocus_has {reason : Nat} (h : s.Has w) : (parkFocus reason s).Has w := by
  obtain ⟨hs, hu, _⟩ := leaveSlot_keepsRoster (reason := reason) s s.focusAway h
  exact hs.withFocus (hu.trans h.focusAway_uid)

theorem takePageFault_has {reason : Nat} {kind : AccessKind} {addr : Word} (h : s.Has w) : (takePageFault reason kind addr s).Has w := by
  have hpage {t : State} (ht : t.Has w) : State.Has w { t with tan := { t.tan with page := some addr } } := ht
  exact hpage (parkFocus_has (postMine_has (placeMarker_has h)))

theorem freezeCluster_has {cmp : Nat} {addr : Word} (h : s.Has w) : (freezeCluster cmp addr s).Has w := putRecord_has (putRecord_has h)

theorem waitHere_has {reason port need : Nat} {addr : Word} (h : s.Has w) : (waitHere reason port addr s need).Has w := h

/-! ## The index and the hooks of a retirement -/

theorem settleOwed_uid {x : Away} : (settleOwed s x).2.uid = x.t.uid := by
  unfold settleOwed
  dsimp only
  split <;> rfl

theorem settleOwed_has {x : Away} (h : s.Has w) : (settleOwed s x).1.Has w := by
  unfold settleOwed
  dsimp only
  split
  · exact h
  · exact writeTandemEntry_has h

theorem settleCidx_has (h : s.Has w) : (settleCidx s).Has w := by
  obtain ⟨hl, ho, _, hrest⟩ := settleOwed_has (x := s.focusAway) h
  exact ⟨hl, ho, settleOwed_uid.trans h.focusAway_uid, hrest⟩

theorem recordHook_has {s0 : State} {taken : Option Bool} (h : s.Has w) : (recordHook s0 taken s).Has w := by
  unfold recordHook
  split
  · split
    · split <;> exact h
    · exact h
  · exact h

theorem recordPartial_has {s0 : State} (h : s.Has w) : (recordPartial s0 s).Has w := by
  unfold recordPartial
  split
  · split
    · split <;> exact h
    · exact h
  · exact h

theorem measureHook_has {done : Bool} (h : s.Has w) : (measureHook done s).Has w := by
  unfold measureHook
  split
  · exact h
  · split
    · exact h
    · dsimp only
      split
      · exact h
      · exact ite_holds (P := State.Has w) h h

theorem historyHook_has {s0 : State} (h : s.Has w) : (historyHook s0 s).Has w := by
  unfold historyHook
  split
  · exact h
  · dsimp only
    split <;> exact h

/-- A trial withholds clocks, so it keeps the roster only where the clock is not asked for. -/
theorem trialHook_has {s0 : State} (hn : w.now = none) (h : s.Has w) : (trialHook s0 s).Has w := by
  obtain ⟨hl, ho, hu, hnow, hrest⟩ := h
  refine ite_holds (P := State.Has w) ⟨hl, ho, hu, hnow, hrest⟩ (ite_holds (P := State.Has w) ⟨hl, ho, hu, hnow, hrest⟩ ?_)
  exact ⟨hl, ho, hu, fun n e => (nomatch hn ▸ e), hrest⟩

theorem keepSpan_has (h : s.Has w) : (keepSpan s).Has w := by
  unfold keepSpan
  split <;> exact h

theorem keepIssue_has {e : Stop} {s0 : State} (h : s.Has w) : (keepIssue e s0 s).Has w := ite_holds (P := State.Has w) h h

theorem beginVector_has (h : s.Has w) : (beginVector s).Has w := by
  unfold beginVector
  split
  · exact ite_holds (P := State.Has w) h h
  · exact h

end

/-! ## The focus comes back -/

/-- The hart in focus, and nothing else, is asked for. -/
def Roster.hart (onA : Bool) (uid : Nat) : Roster :=
  { live := true, onA := onA, uid := uid, now := none, uids := none, queues := none, bound := false, fresh := [] }

section
variable {s : State} {b : Bool} {u n : Nat}

theorem State.has_hart_iff : s.Has (.hart b u) ↔ s.live = true ∧ s.onA = b ∧ s.tan.uid = u := by
  unfold State.Has Roster.hart
  simp

theorem State.hart_half : s.hart / 2 = s.tan.uid := by unfold State.hart hartNumber; split <;> omega

theorem State.hart_side : decide (s.hart % 2 = 1) = s.onA := by unfold State.hart hartNumber; cases s.onA <;> simp

/-- The hart in focus is found where it is. -/
theorem State.focus_self (h : s.live = true) : s.focus s.hart = s := by
  unfold State.focus
  dsimp only
  rw [State.hart_half, State.hart_side]
  simp [h]

/-- A hart of a tandem that is on the device comes into focus. -/
theorem State.focus_has (hl : s.live = true) (hx : s.tan.uid = n / 2 ∨ ∃ x ∈ s.away, x.t.uid = n / 2) :
    (s.focus n).Has (.hart (decide (n % 2 = 1)) (n / 2)) := by
  rw [State.has_hart_iff]
  unfold State.focus
  by_cases hu : s.tan.uid = n / 2
  · by_cases ho : s.onA = decide (n % 2 = 1)
    · simp [hl, hu, ho]
    · simp [hl, hu, ho]
  · obtain ⟨x, hxm, hxu⟩ := hx.resolve_left hu
    obtain ⟨y, hy⟩ := Option.isSome_iff_exists.1 (List.find?_isSome.2 ⟨x, hxm, beq_iff_eq.2 hxu⟩ :
      (s.away.find? (fun x => x.t.uid == n / 2)).isSome = true)
    have hyu : y.t.uid = n / 2 := by simpa using List.find?_some hy
    simp [hl, hu, hy, hyu]

/-- The tandem that was in focus is still on the device. -/
theorem State.focus_keeps (hl : s.live = true) :
    (s.focus n).live = true ∧ ((s.focus n).tan.uid = s.tan.uid ∨ ∃ x ∈ (s.focus n).away, x.t.uid = s.tan.uid) := by
  unfold State.focus
  dsimp only
  split
  · split
    · exact ⟨hl, .inl rfl⟩
    · exact ⟨hl, .inl rfl⟩
  · split
    · exact ⟨hl, .inl rfl⟩
    · refine ⟨by simp, .inr ⟨s.focusAway, by simp, by rw [State.focusAway_t]⟩⟩

/-- What is done at another hart, and neither moves the focus there nor touches the other tandems, leaves the focus where it was. -/
theorem atHart_has {f : State → State} (hf : ∀ t : State, (f t).live = t.live ∧ (f t).tan.uid = t.tan.uid ∧ (f t).away = t.away)
    (h : s.Has (.hart b u)) : (atHart n f s).Has (.hart b u) := by
  obtain ⟨hl, rfl, rfl⟩ := State.has_hart_iff.1 h
  unfold atHart
  split
  · exact h
  · dsimp only
    rw [if_pos hl]
    obtain ⟨hfl, hfu, hfa⟩ := hf (s.focus n)
    obtain ⟨hl', hin⟩ := State.focus_keeps (n := n) hl
    have := State.focus_has (s := f (s.focus n)) (n := s.hart) (hfl.trans hl') (by rw [hfu, hfa, State.hart_half]; exact hin)
    rwa [State.hart_half, State.hart_side] at this

theorem postMine_stays {t : State} {d : Nat} {r : FaultRecord} :
    (postMine t d r).live = t.live ∧ (postMine t d r).tan.uid = t.tan.uid ∧ (postMine t d r).away = t.away := by
  have hb {v : State} : (enterBuffer v d r).live = v.live ∧ (enterBuffer v d r).tan.uid = v.tan.uid ∧ (enterBuffer v d r).away = v.away :=
    ite_holds (P := fun z : State => z.live = v.live ∧ z.tan.uid = v.tan.uid ∧ z.away = v.away) ⟨rfl, rfl, rfl⟩ ⟨rfl, rfl, rfl⟩
  have hq : (postRecord t d r).1.live = t.live ∧ (postRecord t d r).1.tan.uid = t.tan.uid ∧ (postRecord t d r).1.away = t.away :=
    ite_holds (P := fun q : State × Bool => q.1.live = t.live ∧ q.1.tan.uid = t.tan.uid ∧ q.1.away = t.away) hb ⟨rfl, rfl, rfl⟩
  exact ite_holds (P := fun z : State => z.live = t.live ∧ z.tan.uid = t.tan.uid ∧ z.away = t.away) hq hq

theorem failPosted_has (h : s.Has (.hart b u)) : (failPosted s).Has (.hart b u) := by
  unfold failPosted
  split
  · exact h
  · dsimp only
    split
    · exact h
    · refine stopKernelOpen_has rfl (atHart_has (fun _ => postMine_stays) (mapTandems_has ?_ h))
      exact keepsRoster_of_uid rfl (fun _ _ => rfl)

theorem retireWith_has {recorded : Bool} {s0 : State} {npc : Word} {taken : Option Bool} (h : s.Has (.hart b u)) :
    (retireWith recorded s0 npc taken s).Has (.hart b u) := by
  have hr : State.Has (.hart b u) (if recorded then recordHook s0 taken s else s) := ite_holds (recordHook_has h) h
  have hh := trialHook_has (s0 := s0) rfl (historyHook_has (s0 := s0) (measureHook_has (done := true) hr))
  exact failPosted_has (settleCidx_has hh)

end

/-! ## Parts of an instruction -/

section
variable {w : Roster} {α β : Type}

/-- The state that a part of an instruction leaves, stopped or not, is as the roster has it. -/
def EndsAs (w : Roster) (r : EStateM.Result Stop State α) : Prop :=
  match r with
  | .ok _ t => t.Has w
  | .error _ t => t.Has w

/-- A part of an instruction keeps the roster, whether it stops or not. -/
def Exec.Keeps (w : Roster) (m : Exec α) : Prop := ∀ s : State, s.Has w → EndsAs w (m s)

namespace Exec.Keeps
variable {m : Exec α} {k : α → Exec β} {s t : State} {a : α} {e : Stop}

theorem ok (hm : Exec.Keeps w m) (h : s.Has w) (hr : m s = .ok a t) : t.Has w := by
  have := hm s h
  rwa [hr] at this

theorem error (hm : Exec.Keeps w m) (h : s.Has w) (hr : m s = .error e t) : t.Has w := by
  have := hm s h
  rwa [hr] at this

theorem bind (hm : Exec.Keeps w m) (hk : ∀ a, Exec.Keeps w (k a)) : Exec.Keeps w (m >>= k) := by
  intro s h
  show EndsAs w (EStateM.bind m k s)
  unfold EStateM.bind
  split
  next e => exact hk _ _ (hm.ok h e)
  next e => exact hm.error h e

theorem getState {k : State → Exec β} (hk : ∀ s, Exec.Keeps w (k s)) : Exec.Keeps w (getState >>= k) := fun s h => hk s s h

theorem modState {f : State → State} (hf : ∀ s, s.Has w → (f s).Has w) : Exec.Keeps w (modState f) := fun s h => hf s h

end Exec.Keeps

variable {s : State}

theorem resolve_keeps {vport : Bool} {k : AccessKind} {a n : Nat} : Exec.Keeps w (resolve vport k a n) := by
  intro s h
  unfold resolve
  split
  · exact ite_holds (P := EndsAs w) h (ite_holds (P := EndsAs w) h (markPages_has h))
  · exact h
  · exact h
  · exact h
  · exact h
  · exact h

theorem comparators_keeps {k : AccessKind} {a n : Nat} : Exec.Keeps w (comparators k a n) := by
  intro s h
  unfold comparators
  split
  · exact h
  · split <;> exact h

theorem scoreboard_keeps {store shared masked : Bool} {a n : Nat} : Exec.Keeps w (scoreboard store shared masked a n) :=
  fun _ h => ite_holds (P := EndsAs w) h h

theorem sysSeen_has {c : Context} {d a n : Nat} {view : Bool} (h : s.Has w) : (sysSeen s c d a n view).Has w := by
  unfold sysSeen
  split
  · exact ite_holds (P := State.Has w) (markPages_has h) (markPages_has h)
  · exact h

theorem recSeen_has {c : Context} {d n : Nat} (h : s.Has w) : (recSeen s c d n).Has w :=
  foldl_holds (P := State.Has w) (fun _ h1 _ _ => ite_holds (P := State.Has w) (sysSeen_has h1) h1) (sysSeen_has h)

theorem enterRecord_has {c : Context} {d a n target port : Nat} (h : s.Has w) : IfOk (State.Has w) (enterRecord s c d a n target port) := by
  unfold enterRecord
  split
  · exact .error
  · split
    · exact .error
    · dsimp only
      split
      · exact .error
      · exact sysWrite_has (recSeen_has h)
      · split
        · exact sysWrite_has (recSeen_has h)
        · split
          · exact .error
          next e => exact sysWrite_has ((sysWrite_has (recSeen_has h)) _ e)

theorem enterRuns_keeps {runs : List (List (Nat × Xlat))} : Exec.Keeps w (enterRuns runs) := by
  intro s h
  refine ite_holds (P := EndsAs w) h ?_
  split
  next e =>
    refine (foldl_holds (P := IfOk (State.Has w)) (fun r hr run _ => ?_) (IfOk.ok h)) _ e
    split
    · exact hr
    · exact hr
    · split
      · exact enterRecord_has (hr _ rfl)
      · exact enterRecord_has (hr _ rfl)
      · exact hr
  · exact h
  · exact h
  · exact h

theorem beforeDev_keeps {xs : List Xlat} (hw : w.fresh = []) : Exec.Keeps w (beforeDev xs) :=
  fun _ h => ite_holds (P := EndsAs w) (endStrip_has hw h) h

theorem addOutstanding_has {t : Option Nat} (h : s.Has w) : (addOutstanding t s).Has w := by
  unfold addOutstanding
  split <;> exact h

theorem landRuns_has {posted : Bool} {l : List (List (Nat × Nat × Byte × Byte))} (h : s.Has w) : (landRuns posted l s).Has w := by
  induction l generalizing s with
  | nil => exact h
  | cons r rest ih => exact ih (addOutstanding_has (landBytes_has h))

theorem makeRoom_has {shared : Bool} {vs : List Nat} (hw : w.fresh = []) (h : s.Has w) : (makeRoom shared vs s).Has w :=
  ite_holds (P := State.Has w) h (ite_holds (P := State.Has w) (endStrip_has hw h) h)

theorem hold_has {shared aligned : Bool} {bs : List HeldByte} (hw : w.fresh = []) (h : s.Has w) : (hold shared aligned bs s).Has w := makeRoom_has hw h

theorem storeGlobal_keeps {vport : Bool} {a : Nat} {bs : List (Byte × Byte)} (hw : w.fresh = []) : Exec.Keeps w (storeGlobal vport a bs) := by
  unfold storeGlobal
  refine .bind resolve_keeps (fun _ => .bind comparators_keeps (fun _ => .bind scoreboard_keeps (fun _ => .getState (fun _ =>
    .bind enterRuns_keeps (fun _ => .bind (beforeDev_keeps hw) (fun _ => ite_holds ?_ ?_))))))
  · exact .bind (.modState (fun _ h => landRuns_has h)) (fun _ => .modState (fun _ h => h))
  · exact .bind (.modState (fun _ h => hold_has hw h)) (fun _ => .modState (fun _ h => h))

/-- The stores of a trial's record are plain stores of the hart (R382). -/
theorem trialStores_keeps {l : List Nat} {a : Nat} (hw : w.fresh = []) : Exec.Keeps w (trialStores a l) := by
  induction l generalizing a with
  | nil => exact fun _ h => h
  | cons x r ih => exact .bind (storeGlobal_keeps hw) (fun _ => ih)

theorem endTrial_has (hw : w.fresh = []) (h : s.Has w) : (endTrial s).Has w := by
  have h0 : State.Has w { s with ir := 0, notes := [] } := h
  unfold endTrial
  dsimp only
  split
  next e =>
    have ht := (trialStores_keeps hw).ok h0 e
    exact ht
  · exact takePageFault_has h0
  · exact waitHere_has h0
  · exact freezeCluster_has h0
  · exact h0

/-- A fence that still waits leaves its hart where it is. -/
theorem stopped_wait_has {s0 : State} {reason port need : Nat} {addr : Word} (hw : w.fresh = []) (h0 : s0.Has w) (h : s.Has w) :
    (stopped (.wait reason port addr need) s0 s).Has w := by
  unfold stopped
  split
  · refine waitHere_has ?_
    have hb := beginVector_has h0
    have he {c : Prop} [Decidable c] : State.Has w (if c then (beginVector s0).endStrip else beginVector s0) := ite_holds (endStrip_has hw hb) hb
    exact ite_holds (P := State.Has w) he he
  · exact waitHere_has (recordPartial_has (measureHook_has (keepIssue_has (keepSpan_has h))))

end

end Sys2Proof.Machine

end

section
/-! PROOFS. The events of a hart (O39): what each does at the hart in focus, and that it does the same at a hart that is away. -/

namespace Sys2Proof.Machine

open Sys2Proof

/-! ## An event at a named hart -/

section
variable {s : State} {f : State → State}

/-- At the hart in focus an event does what it says, and the focus stays. -/
theorem atHart_self (hl : s.live = true) (hf : (f s).Has (.hart s.onA s.tan.uid)) : atHart s.hart f s = f s := by
  obtain ⟨hfl, hfo, hfu⟩ := State.has_hart_iff.1 hf
  have hback : (f s).hart = s.hart := by unfold State.hart hartNumber; rw [hfo, hfu]
  have hfound : s.tandem? (s.hart / 2) = some s.focusAway := by
    unfold State.tandem? State.allTandems
    rw [if_pos hl, State.hart_half]
    exact List.find?_cons_of_pos (by rw [State.focusAway_t]; exact beq_self_eq_true _)
  unfold atHart
  rw [hfound]
  dsimp only
  rw [if_pos hl, State.focus_self hl, ← hback]
  exact State.focus_self hfl

/-- An event that names the hart in focus, where its effect there is known and keeps the focus. -/
theorem exec_at_focus {i : Instr} {t : State} (he : exec i s = .next (atHart s.hart f s)) (hl : s.live = true) (ht : f s = t)
    (hf : t.Has (.hart s.onA s.tan.uid)) : exec i s = .next t := he.trans (congrArg Host.Outcome.next ((atHart_self hl (ht ▸ hf)).trans ht))

/-- What is done at the hart in focus is done in the same way at a hart that is away, and the focus comes back. -/
theorem atHart_away {h : Nat} {x : Away} (hf : ∀ (b : Bool) (u : Nat) (t : State), t.Has (.hart b u) → (f t).Has (.hart b u)) (hl : s.live = true)
    (hu : s.tan.uid ≠ h / 2) (hx : s.away.find? (fun y => y.t.uid == h / 2) = some x) :
    ∃ t, atHart h f (s.focus h) = t ∧ atHart h f s = t.focus s.hart := by
  have hxu : x.t.uid = h / 2 := by simpa using List.find?_some hx
  have hv := State.focus_has (s := s) (n := h) hl (.inr ⟨x, List.mem_of_find?_eq_some hx, hxu⟩)
  obtain ⟨hvl, hvo, hvu⟩ := State.has_hart_iff.1 hv
  have hback : (s.focus h).hart = h := by
    unfold State.hart hartNumber
    rw [hvo, hvu]
    by_cases ho : h % 2 = 1
    · simp [ho]; omega
    · simp [ho]; omega
  refine ⟨f (s.focus h), ?_, ?_⟩
  · have := atHart_self (s := s.focus h) (f := f) hvl (hf _ _ _ (by rw [hvo, hvu]; exact hv))
    rwa [hback] at this
  · have hfound : s.tandem? (h / 2) = some x := by
      unfold State.tandem? State.allTandems
      rw [if_pos hl]
      exact (List.find?_cons_of_neg (by rw [State.focusAway_t]; simpa using hu)).trans hx
    unfold atHart
    rw [hfound]
    dsimp only
    rw [if_pos hl]

end

section
variable {s : State} {b : Bool} {u : Nat}

theorem State.has_hart (h : s.live = true) : s.Has (.hart s.onA s.tan.uid) := State.has_hart_iff.2 ⟨h, rfl, rfl⟩

/-! ## A hart that runs -/

theorem frozen_of_nil (h : s.dbg.frozen = []) (t : Tandem) : s.frozen t = false := by
  unfold State.frozen
  rw [h]
  simp

theorem not_frozen_of_runs (h : Claims.runs s) (t : Tandem) : s.frozen t = false := by
  obtain ⟨_, _, _, hf, _⟩ := h
  exact frozen_of_nil hf t

theorem running_of_runs (h : Claims.runs s) : s.running = true := by
  obtain ⟨_, _, _, hfr, c, k, hp⟩ := h
  unfold State.running
  rw [hp, frozen_of_nil hfr]
  rfl

theorem active_of_runs (h : Claims.runs s) : s.active = true := by
  have hr := running_of_runs h
  obtain ⟨_, he, ha, _⟩ := h
  unfold State.active
  rw [hr, he]
  cases h1 : s.onA <;> cases h2 : s.tan.single <;> simp_all

theorem owed_nil_settles (h : s.tan.owed = []) : settleCidx s = s := by
  have ho : s.focusAway.t.owed = [] := by rw [State.focusAway_t, h]
  have hs : settleOwed s s.focusAway = (s, s.focusAway.t) := by
    unfold settleOwed
    rw [ho]
    rfl
  unfold settleCidx
  rw [hs, State.focusAway_t]

/-- With no store performed after its instruction, none can have failed. -/
theorem failPosted_of_none (h : ∀ r ∈ s.links.requests, r.posted = false) : failPosted s = s := by
  unfold failPosted
  rw [List.find?_eq_none.2 (fun r hr => by simp [h r hr])]

theorem settled_of_quiet (h : s.Quiet) : failPosted (settleCidx s) = s := by
  obtain ⟨_, _, _, _, ho, hr⟩ := h
  rw [owed_nil_settles ho, failPosted_of_none (fun r hm => (hr r hm).1)]

/-! ## FENCE_RETIRE -/

/-- What the event does at the hart in focus. -/
def fenceRetireHere (s : State) : State :=
  if s.active = false ∨ s.me.stalled.isNone = true then s
  else if wMaj s.me.stallWord = 0x13 ∧ wFn5 s.me.stallWord ≤ 5 then
    nextOr s (runKeep (fenceBody (wFn5 s.me.stallWord) (wD s.me.stallWord)) { s with ir := s.me.stallWord, notes := [] })
  else s

theorem exec_fenceRetire {h : Nat} : exec (.fenceRetire h) s = .next (atHart h fenceRetireHere s) := rfl

theorem fenceRetireHere_has (h : s.Has (.hart b u)) : (fenceRetireHere s).Has (.hart b u) := by
  refine ite_holds (P := State.Has _) h (ite_holds (P := State.Has _) ?_ h)
  have h0 : State.Has (.hart b u) { s with ir := s.me.stallWord, notes := [] } := h
  have he := endStrip_has rfl (beginVector_has h0)
  unfold runKeep fenceBody
  dsimp only
  split
  next heq =>
    split at heq <;> cases heq
    exact retireWith_has he
  next heq =>
    split at heq <;> cases heq
    exact stopped_wait_has rfl h0 he

theorem fenceWaits_of_due {kind sc : Nat} (h : Claims.fenceDue kind sc s) : fenceWaits kind sc s = none := by
  obtain ⟨hcopies, hstores⟩ := h
  have hdone : fenceDone (kind != 0) sc s = true := by
    unfold fenceDone
    by_cases hk : kind = 0
    · simp [hk]
    · obtain ⟨ho, hp⟩ := hstores hk
      rcases Nat.lt_or_ge sc 4 with hs | hs
      · simp [ho, hs]
      · simp [ho, hp hs]
  unfold fenceWaits
  rw [if_neg (fun h => h.2 (hcopies h.1)), if_pos hdone]

theorem fence_kind_le {p : Nat × (BitVec 7 → Instr)} (h : p ∈ Claims.fences) : p.1 ≤ 5 := by
  unfold Claims.fences at h
  simp only [List.mem_cons, List.not_mem_nil, or_false] at h
  rcases h with rfl | rfl | rfl | rfl | rfl | rfl <;> decide

/-- The fence that the hart waits in retires once what it waits for is complete (R172). -/
theorem fenceRetireHere_due {kind : Nat} (hr : Claims.runs s) (hk : kind ≤ 5) (hm : wMaj s.me.stallWord = 0x13) (hf : wFn5 s.me.stallWord = kind)
    (hs : s.me.savedNow = none) (hst : s.me.stalled ≠ none)
    (hd : Claims.fenceDue kind (wD s.me.stallWord) (State.endStrip { s with ir := s.me.stallWord, notes := [] })) :
    let v : State := { s with ir := s.me.stallWord, notes := [] }
    fenceRetireHere s = retire v (s.me.pc + 4) v.endStrip := by
  intro v
  have hb : beginVector v = v := by
    unfold beginVector
    rw [show v.me.savedNow = none from hs]
  have hn : ¬(s.active = false ∨ s.me.stalled.isNone = true) := by
    rw [active_of_runs hr]
    simpa using hst
  unfold fenceRetireHere
  rw [if_neg hn, if_pos ⟨hm, hf ▸ hk⟩, hf]
  unfold runKeep fenceBody
  rw [show beginVector { s with ir := s.me.stallWord, notes := [] } = v from hb]
  dsimp only
  rw [fenceWaits_of_due hd]
  rfl

/-! ## QUEUE_STALL_END -/

/-- What the event of hart `h` does at the hart in focus. -/
def queueStallEndHere (h : Nat) (s : State) : State :=
  if s.active && queueStallOver s then { s with me := { s.me with stalled := none }, inputs := .turn h :: s.inputs } else s

theorem exec_queueStallEnd {h : Nat} : exec (.queueStallEnd h) s = .next (atHart h (queueStallEndHere h) s) := rfl

theorem queueStallEndHere_has {n : Nat} (h : s.Has (.hart b u)) : (queueStallEndHere n s).Has (.hart b u) := ite_holds (P := State.Has _) h h

/-- The wait is over where its queue has the entries or the room (R17, R19, R345). -/
theorem queueWaitOver_of {t : Tandem} {code : Word} {gone : Bool} {port need : Nat}
    (h : (code = 1 ∧ (portQueue t port).1 + need ≤ (portQueue t port).2.1) ∨
      (code = 2 ∧ ((need ≤ (portQueue t port).1 ∧ ∀ m, (portQueue t port).2.2 = some m → need ≤ m) ∨ gone = true))) :
    queueWaitOver t gone code.toNat port need = true := by
  unfold queueWaitOver
  rcases h with ⟨rfl, h⟩ | ⟨rfl, h⟩
  · exact decide_eq_true h
  · show ((decide _ && _) || gone) = true
    rcases h with ⟨hn, hm⟩ | hg
    · have hall : (portQueue t port).2.2.all (fun m => decide (need ≤ m)) = true := by
        cases hq : (portQueue t port).2.2 with
        | none => rfl
        | some m => exact decide_eq_true (hm m hq)
      rw [hall, decide_eq_true hn]
      rfl
    · rw [hg, Bool.or_true]

theorem queueStallOver_of {port : Nat} (hs : s.me.stalled = some port) (hp : 1 ≤ port ∧ port ≤ 33)
    (h : (s.me.csr.waitrsn = 1 ∧ (portQueue s.tan port).1 + s.me.stallNeed ≤ (portQueue s.tan port).2.1) ∨
      (s.me.csr.waitrsn = 2 ∧ ((s.me.stallNeed ≤ (portQueue s.tan port).1 ∧ ∀ m, (portQueue s.tan port).2.2 = some m → s.me.stallNeed ≤ m) ∨
        s.peer.exited = true))) : queueStallOver s = true := by
  unfold queueStallOver
  rw [hs]
  exact Bool.and_eq_true_iff.2 ⟨decide_eq_true ⟨hp.1, hp.2, h.imp And.left And.left⟩, queueWaitOver_of h⟩

theorem portQueue_vector {t : Tandem} {q : Nat} (h : q < 16) : portQueue t (q + 1) = ((t.vfifo q).items.length, 16, (t.vfifo q).marker) := by
  unfold portQueue
  rw [if_pos (by omega)]
  rfl

theorem portQueue_scalar {t : Tandem} {q : Nat} (h : q < 16) : portQueue t (q + 17) = ((t.sfifo q).items.length, 32, (t.sfifo q).marker) := by
  unfold portQueue
  rw [if_neg (by omega), if_pos (by omega)]
  rfl

theorem stallOver_ends (h : Claims.stallOver s) : queueStallOver s = true := by
  rcases h with ⟨q, hq, hs, h⟩ | ⟨q, hq, hs, h⟩ | ⟨hs, h⟩
  · exact queueStallOver_of hs (by omega) (by rw [portQueue_vector hq]; exact h)
  · exact queueStallOver_of hs (by omega) (by rw [portQueue_scalar hq]; exact h)
  · exact queueStallOver_of hs (by omega) h

/-! ## STRIP_BUFFER_DRAIN -/

/-- What the event does at the hart in focus with its held store `k`. -/
def stripBufferDrainHere (k : Nat) (s : State) : State :=
  match s.me.held[k]? with
  | none => s
  | some x =>
    if x.eligible = false ∨ (s.me.held.take k).any (fun y => y.shared == x.shared && y.bytes.any (fun b => x.bytes.any (fun c => c.va == b.va))) = true ∨
        s.frozen s.tan = true then s
    else
      let r := performOne s s.tan.die s.tan.unit s.hart x
      failPosted (settleCidx (addOutstanding r.2 { r.1 with me := { r.1.me with held := dropNth r.1.me.held k } }))

theorem exec_stripBufferDrain {h k : Nat} : exec (.stripBufferDrain h k) s = .next (atHart h (stripBufferDrainHere k) s) := rfl

/-- The memory after one held store: a store to the shared space reaches scratch, and one to device memory the view of its die (R108). -/
def drained (s : State) (x : HeldStore) : Mem :=
  if x.shared then (landShared s s.tan.unit x.bytes).mem
  else if x.bytes = [] then s.mem
  else s.mem.store s.tan.die (x.bytes.map (fun b => (b.pa, b.val, b.mask)))

theorem landShared_eq {unit : Nat} {bs : List HeldByte} : landShared s unit bs = { s with mem := (landShared s unit bs).mem } := by
  induction bs generalizing s with
  | nil => rfl
  | cons x r ih => exact ih (s := { s with mem := s.mem.writeScratch s.free unit x.va x.val x.mask })

theorem performOne_device {x : HeldStore} (hf : s.isFirmware s.hart = false) (hx : x.shared = false → ∀ b ∈ x.bytes, b.pa < deviceTop) :
    performOne s s.tan.die s.tan.unit s.hart x = ({ s with mem := drained s x }, none) := by
  unfold performOne drained
  split
  · rw [landShared_eq]
  next hsh =>
    cases hb : x.bytes with
    | nil => rfl
    | cons c r =>
      have hdev : regionOf c.pa = .device := by
        unfold regionOf
        rw [if_pos (hx (by simpa using hsh) c (by rw [hb]; exact List.mem_cons_self))]
      unfold landBytes
      simp [hdev, hf]

theorem stripBufferDrainHere_eq {k : Nat} {x : HeldStore} (hr : Claims.runs s) (hk : s.me.held[k]? = some x) (he : x.eligible = true)
    (hf : s.isFirmware s.hart = false) (hq : s.Quiet) (hx : x.shared = false → ∀ b ∈ x.bytes, b.pa < deviceTop)
    (hfree : ∀ y ∈ s.me.held.take k, y.shared = x.shared → ∀ b ∈ y.bytes, ∀ c ∈ x.bytes, b.va ≠ c.va) :
    stripBufferDrainHere k s = { s with mem := drained s x, me := { s.me with held := s.me.held.eraseIdx k } } := by
  have hblocked : (s.me.held.take k).any (fun y => y.shared == x.shared && y.bytes.any (fun b => x.bytes.any (fun c => c.va == b.va))) = false := by
    rw [List.any_eq_false]
    intro y hy hc
    obtain ⟨hsh, hb⟩ := Bool.and_eq_true_iff.1 hc
    obtain ⟨b, hb, hc⟩ := List.any_eq_true.1 hb
    obtain ⟨c, hc, hv⟩ := List.any_eq_true.1 hc
    exact hfree y hy (beq_iff_eq.1 hsh) b hb c hc (beq_iff_eq.1 hv).symm
  unfold stripBufferDrainHere
  rw [hk]
  dsimp only
  rw [if_neg (by rw [hblocked, he, not_frozen_of_runs hr]; simp), performOne_device hf hx, dropNth_eq_eraseIdx]
  exact settled_of_quiet (s := { s with mem := drained s x, me := { s.me with held := s.me.held.eraseIdx k } }) hq

/-! ### What the store makes of memory -/

theorem flightByte_append {keep : Flight → Bool} {pa : Nat} {v : Byte} {l : List Flight} {f : Flight} :
    flightByte keep pa v (l ++ [f]) = if keep f then overlay pa (flightByte keep pa v l) f.bytes else flightByte keep pa v l := by
  induction l generalizing v with
  | nil => rfl
  | cons g r ih => exact ih

/-- A store is seen at once by the die that makes it, and by no other (R119). -/
theorem Mem.viewByte_store {m : Mem} {d e pa : Nat} {bs : List (Nat × Byte × Byte)} (hd : d < 4) :
    (m.store d bs).viewByte e pa = if e = d then overlay pa (m.viewByte d pa) bs else m.viewByte e pa := by
  have hseen : ((range 0 4).map (fun i => i == d)).getD e false = decide (e = d) := by
    rcases Nat.lt_or_ge e 4 with he | he
    · rcases e with _ | _ | _ | _ | e
      · rfl
      · rfl
      · rfl
      · rfl
      · omega
    · rw [List.getD_eq_default _ _ (by simp [range, he])]
      exact (decide_eq_false (by omega)).symm
  unfold Mem.viewByte Mem.store
  rw [flightByte_append]
  simp only [Flight.seenBy, hseen]
  by_cases h : e = d
  · subst h
    simp
  · simp [h]

theorem lookup_insertKey {β : Type} {l : List (Nat × β)} {i j : Nat} {x : β} : lookup (insertKey l i x) j = if j = i then some x else lookup l j := by
  induction l with
  | nil => rfl
  | cons e r ih =>
    obtain ⟨k, v⟩ := e
    unfold insertKey
    split
    · rfl
    · split
      next hik =>
        subst hik
        unfold lookup
        split <;> rfl
      next hik =>
        unfold lookup
        rw [ih]
        by_cases hjk : j = k
        · rw [if_pos hjk, if_pos hjk, if_neg (by omega)]
        · rw [if_neg hjk, if_neg hjk]

theorem scratchByte_writeScratch {m : Mem} {free unit off o : Nat} {val mask : Byte} :
    (m.writeScratch free unit off val mask).scratchByte free unit o =
      if off = o then (val &&& mask) ||| (m.scratchByte free unit o &&& ~~~mask) else m.scratchByte free unit o := by
  unfold Mem.writeScratch
  conv_lhs => unfold Mem.scratchByte
  dsimp only
  rw [lookup_insertKey]
  by_cases h : off = o
  · subst h
    rw [if_pos rfl, if_pos rfl]
    rfl
  · rw [if_neg (by omega), if_neg h]
    rfl

theorem landShared_scratchByte {unit o : Nat} {bs : List HeldByte} :
    (landShared s unit bs).mem.scratchByte s.free unit o =
      overlay o (s.mem.scratchByte s.free unit o) (bs.map (fun b => (b.va, b.val, b.mask))) := by
  induction bs generalizing s with
  | nil => rfl
  | cons x r ih =>
    refine (ih (s := { s with mem := s.mem.writeScratch s.free unit x.va x.val x.mask })).trans ?_
    exact congrArg (overlay o · _) scratchByte_writeScratch

theorem landShared_mem {unit : Nat} {bs : List HeldByte} :
    (landShared s unit bs).mem.cells = s.mem.cells ∧ (landShared s unit bs).mem.flight = s.mem.flight :=
  foldl_holds (P := fun t : State => t.mem.cells = s.mem.cells ∧ t.mem.flight = s.mem.flight) (fun _ h _ _ => h) ⟨rfl, rfl⟩

theorem drained_global {x : HeldStore} (hx : x.shared = false) (hd : s.tan.die < 4) :
    (∀ pa, (drained s x).viewByte s.tan.die pa = overlay pa (s.mem.viewByte s.tan.die pa) (x.bytes.map (fun b => (b.pa, b.val, b.mask)))) ∧
      (∀ d pa, d ≠ s.tan.die → (drained s x).viewByte d pa = s.mem.viewByte d pa) ∧ (drained s x).scratch = s.mem.scratch := by
  unfold drained
  rw [hx, if_neg Bool.false_ne_true]
  split
  next hb =>
    rw [hb]
    exact ⟨fun _ => rfl, fun _ _ _ => rfl, rfl⟩
  · exact ⟨fun _ => by rw [Mem.viewByte_store hd, if_pos rfl], fun _ _ hne => by rw [Mem.viewByte_store hd, if_neg hne], rfl⟩

theorem drained_shared {x : HeldStore} (hx : x.shared = true) :
    (∀ o, (drained s x).scratchByte s.free s.tan.unit o =
      overlay o (s.mem.scratchByte s.free s.tan.unit o) (x.bytes.map (fun b => (b.va, b.val, b.mask)))) ∧
      (drained s x).cells = s.mem.cells ∧ (drained s x).flight = s.mem.flight := by
  unfold drained
  rw [if_pos hx]
  exact ⟨fun _ => landShared_scratchByte, landShared_mem⟩

/-! ## STRIP_TIMEOUT -/

/-- What the event does at the hart in focus. -/
def stripTimeoutHere (s : State) : State := if s.active then failPosted (settleCidx s.endStrip.spoilStrip) else s

theorem exec_stripTimeout {h : Nat} : exec (.stripTimeout h) s = .next (atHart h stripTimeoutHere s) := rfl

theorem stripTimeoutHere_has (h : s.Has (.hart b u)) : (stripTimeoutHere s).Has (.hart b u) :=
  ite_holds (P := State.Has _) (failPosted_has (settleCidx_has (spoilStrip_has (endStrip_has rfl h)))) h

theorem stripTimeoutHere_eq (hr : Claims.runs s) (hq : s.endStrip.spoilStrip.Quiet) : stripTimeoutHere s = s.endStrip.spoilStrip := by
  unfold stripTimeoutHere
  rw [if_pos (active_of_runs hr), settled_of_quiet hq]

/-! ## Traps -/

/-- A test of a barrier object changes no more of a hart than its wait. -/
theorem testBarrier_eq {t : Tandem} {h : Hart} : ∃ x, testBarrier s t h = { h with barWait := x } := by
  unfold testBarrier
  split
  · exact ⟨h.barWait, rfl⟩
  · split
    · exact ⟨h.barWait, rfl⟩
    · exact ⟨_, rfl⟩

/-- The end of a strip without held stores changes no memory, and of its hart no more than its wait at a barrier object. -/
theorem endStrip_of_no_store (h : s.me.held = []) : (∃ x, s.endStrip.me = { s.me with barWait := x }) ∧ s.endStrip.mem = s.mem := by
  unfold State.endStrip
  split
  · exact ⟨⟨s.me.barWait, rfl⟩, rfl⟩
  · have hp : performHeldOf s s.tan s.onA s.me = (s, s.me) := by unfold performHeldOf; rw [if_pos h]
    rw [hp]
    exact ⟨testBarrier_eq, rfl⟩

theorem placeMarker_frame : (placeMarker s).me = s.me ∧ (placeMarker s).mem = s.mem := by
  unfold placeMarker
  split
  · exact ⟨rfl, rfl⟩
  · split <;> split <;> exact ⟨rfl, rfl⟩

/-- A recording that ends changes no more of a hart than its loop and LSTAT. -/
theorem declineLoop_eq {code : Nat} {h : Hart} : ∃ l x, declineLoop code h = { h with loop := l, csr := { h.csr with lstat := x } } := by
  unfold declineLoop
  split
  · split
    · exact ⟨_, _, rfl⟩
    · exact ⟨h.loop, h.csr.lstat, rfl⟩
  · exact ⟨h.loop, h.csr.lstat, rfl⟩

/-- A trap is taken at a hart that has a trap handler, serves no trap and holds no store (R341). -/
theorem takeTrap_trapped {code sub : Nat} {xpc xaddr xinfo : Word} (hv : s.me.csr.xvec ≠ 0) (ht : s.me.tis = false) (hh : s.me.held = []) :
    let t := takeTrap code sub xpc xaddr xinfo s
    (∃ l x sv si, t.me = { s.me with
        pc := s.me.csr.xvec, loop := l, saved := sv, savedInTrap := si, stalled := none, barWait := none
        csr := { s.me.csr with lstat := x, xpc := xpc, xcause := causeWord code sub, xaddr := xaddr, xinfo := xinfo } }) ∧ t.mem = s.mem := by
  obtain ⟨⟨wait, hme⟩, hmem⟩ := endStrip_of_no_store hh
  obtain ⟨hpme, hpmem⟩ := placeMarker_frame (s := s.endStrip)
  have hbefore {c : Prop} [Decidable c] : (if c then s.endStrip else placeMarker s.endStrip).me = { s.me with barWait := wait } ∧
      (if c then s.endStrip else placeMarker s.endStrip).mem = s.mem :=
    ite_holds (P := fun z : State => z.me = { s.me with barWait := wait } ∧ z.mem = s.mem) ⟨hme, hmem⟩ ⟨hpme.trans hme, hpmem.trans hmem⟩
  obtain ⟨hbme, hbmem⟩ := hbefore (c := code = 10 ∨ xpc ≠ s.endStrip.me.pc)
  obtain ⟨l, x, hd⟩ := declineLoop_eq (code := 10) (h := { s.me with barWait := wait })
  have hno : ¬({ s.me with barWait := wait, loop := l, csr := { s.me.csr with lstat := x } }.csr.xvec = 0 ∨
      Hart.tis { s.me with barWait := wait, loop := l, csr := { s.me.csr with lstat := x } } = true) := fun h => h.elim hv (fun h => nomatch ht ▸ h)
  unfold takeTrap State.interruptRecordings
  dsimp only
  rw [hbme, hd, if_neg hno]
  exact ⟨⟨l, x, _, _, rfl⟩, hbmem⟩

theorem trapped_of {t v : State} {code : Nat} {xpc xaddr xinfo : Word} {l x sv si}
    (hme : t.me = { v.me with
        pc := v.me.csr.xvec, loop := l, saved := sv, savedInTrap := si, stalled := none, barWait := none
        csr := { v.me.csr with lstat := x, xpc := xpc, xcause := causeWord code 0, xaddr := xaddr, xinfo := xinfo } })
    (hc : code < 256) (hmem : t.mem = v.mem) (hpc : xpc = s.me.pc) (hvec : v.me.csr.xvec = s.me.csr.xvec) (hs : v.me.s = s.me.s) (hv : v.me.v = s.me.v)
    (hm : v.mem = s.mem) : Claims.trapped s t code xaddr xinfo := by
  have hcause : causeWord code 0 = BitVec.ofNat 64 (2 ^ 63 + code) := by
    unfold causeWord
    rw [Nat.zero_mod, Nat.zero_mul, Nat.add_zero, Nat.mod_eq_of_lt hc]
  unfold Claims.trapped
  rw [hme]
  exact ⟨hvec, hpc, hcause, rfl, rfl, rfl, hs, hv, hmem.trans hm⟩

/-! ## PROGRESS_EXPIRY -/

/-- The state in which the progress trap is taken: VSTART counts only for an instruction that counts its elements (R351). -/
def progressStart (s : State) : State :=
  { s with
    ir := s.me.stallWord
    me := if countsElements s.me.stallWord then s.me else { s.me with csr := { s.me.csr with vstart := 0 } } }

/-- What the event does at the hart in focus. -/
def progressExpiryHere (s : State) : State :=
  if timerRuns s then takeTrap 8 0 s.me.pc (stalledAddr s.me.stallWord s) (progressInfo s.me) (progressStart s) else s

theorem exec_progressExpiry {h : Nat} : exec (.progressExpiry h) s = .next (atHart h progressExpiryHere s) := rfl

theorem progressExpiryHere_has (h : s.Has (.hart b u)) : (progressExpiryHere s).Has (.hart b u) :=
  ite_holds (P := State.Has _) (takeTrap_has (s := progressStart s) rfl h) h

/-- The timer of a stalled hart runs where no trap or page fault of its tandem is in service and its wait is none of those that stop it (R350). -/
theorem timerRuns_of (hr : Claims.runs s) (hst : s.me.stalled ≠ none) (ht : s.me.tis = false) (hpt : s.peer.tis = false)
    (hw : s.me.csr.waitrsn.toNat ∉ [3, 15, 16, 17, 18]) (hc : ∀ c ∈ s.me.copies ++ s.peer.copies, c.waiting = none)
    (hbar : s.me.csr.waitrsn = 13 → barrierHeld s = false) : timerRuns s = true := by
  have hin {h : Hart} (ht : h.tis = false) (hc : ∀ c ∈ h.copies, c.waiting = none) : h.inService = false := by
    unfold Hart.inService
    rw [ht, Bool.false_or, List.any_eq_false]
    intro c hm
    simp [hc c hm]
  have hme := hin ht (fun c hm => hc c (List.mem_append_left _ hm))
  have hpeer := hin hpt (fun c hm => hc c (List.mem_append_right _ hm))
  have hcf : contextFrozen s = false := by
    unfold contextFrozen
    rw [List.any_eq_false]
    intro x _
    rw [not_frozen_of_runs hr]
    simp
  have hno (n : Nat) (hn : n ∈ [3, 15, 16, 17, 18]) : (s.me.csr.waitrsn == BitVec.ofNat 64 n) = false := by
    rw [beq_eq_false_iff_ne]
    intro h
    refine hw ?_
    rw [h]
    simp only [List.mem_cons, List.not_mem_nil, or_false] at hn
    rcases hn with rfl | rfl | rfl | rfl | rfl <;> decide
  have hbarrier : (s.me.csr.waitrsn == 13 && barrierHeld s) = false := by
    cases h : s.me.csr.waitrsn == 13 with
    | false => rfl
    | true => rw [hbar (beq_iff_eq.1 h)]; rfl
  unfold timerRuns
  rw [active_of_runs hr, Option.isSome_iff_ne_none.2 hst, hme, hpeer, hcf, hbarrier, show (s.me.csr.waitrsn == 3) = false from hno 3 (by decide),
    show (s.me.csr.waitrsn == 15) = false from hno 15 (by decide), show (s.me.csr.waitrsn == 16) = false from hno 16 (by decide),
    show (s.me.csr.waitrsn == 17) = false from hno 17 (by decide), show (s.me.csr.waitrsn == 18) = false from hno 18 (by decide)]
  rfl

/-- An instruction below the vector majors counts no elements. -/
theorem countsElements_of_lt {w : BitVec 32} (h : wMaj w < 0x24) : countsElements w = false :=
  decide_eq_false (by rintro (⟨h1, _⟩ | ⟨h1, _⟩ | ⟨h1, _⟩) <;> omega)

theorem progressExpiryHere_traps (hr : timerRuns s = true) (ht : s.me.tis = false) (hv : s.me.csr.xvec ≠ 0) (hh : s.me.held = []) :
    Claims.trapped s (progressExpiryHere s) 8 (stalledAddr s.me.stallWord s) (progressInfo s.me) ∧
      (wMaj s.me.stallWord < 0x24 → (progressExpiryHere s).me.csr.vstart = 0) := by
  have hstart : (progressStart s).me.csr.xvec = s.me.csr.xvec ∧ (progressStart s).me.tis = s.me.tis ∧ (progressStart s).me.held = s.me.held ∧
      (progressStart s).me.s = s.me.s ∧ (progressStart s).me.v = s.me.v := by
    unfold progressStart
    dsimp only
    split <;> exact ⟨rfl, rfl, rfl, rfl, rfl⟩
  obtain ⟨hvec, htis, hheld, hs, hvr⟩ := hstart
  obtain ⟨⟨l, x, sv, si, hme⟩, hmem⟩ := takeTrap_trapped (s := progressStart s) (code := 8) (sub := 0) (xpc := s.me.pc)
    (xaddr := stalledAddr s.me.stallWord s) (xinfo := progressInfo s.me) (hvec ▸ hv) (htis ▸ ht) (hheld.trans hh)
  unfold progressExpiryHere
  rw [if_pos hr]
  refine ⟨trapped_of hme (by decide) hmem rfl hvec hs hvr rfl, fun hlow => ?_⟩
  rw [hme]
  show (progressStart s).me.csr.vstart = 0
  unfold progressStart
  rw [countsElements_of_lt hlow]
  rfl

/-! ## COPY_ERROR_TRAP -/

/-- What the event does at the hart in focus. -/
def copyErrorTrapHere (s : State) : State := if copyErrorDue s then takeCopyError s else s

theorem exec_copyErrorTrap {h : Nat} : exec (.copyErrorTrap h) s = .next (atHart h copyErrorTrapHere s) := rfl

theorem copyErrorTrapHere_has (h : s.Has (.hart b u)) : (copyErrorTrapHere s).Has (.hart b u) := by
  refine ite_holds (P := State.Has _) ?_ h
  unfold takeCopyError
  split
  · exact h
  next e r _ => exact takeTrap_has (s := { s with me := { s.me with copyErrors := r }, ir := 0 }) rfl h

theorem copyErrorTrapHere_traps {e : CopyError} {r : List CopyError} (hr : Claims.runs s) (he : s.me.copyErrors = e :: r) (ht : s.me.tis = false)
    (hs : s.me.saved = none) (hv : s.me.csr.xvec ≠ 0) (hh : s.me.held = []) :
    (copyErrorTrapHere s).me.copyErrors = r ∧ Claims.trapped s (copyErrorTrapHere s) 10 e.addr e.word0 := by
  have hdue : copyErrorDue s = true := by
    obtain ⟨_, hx, _⟩ := id hr
    unfold copyErrorDue
    rw [he, running_of_runs hr, hx, ht, hs]
    rfl
  obtain ⟨⟨l, x, sv, si, hme⟩, hmem⟩ := takeTrap_trapped (s := { s with me := { s.me with copyErrors := r }, ir := 0 }) (code := 10) (sub := 0)
    (xpc := s.me.pc) (xaddr := e.addr) (xinfo := e.word0) hv ht hh
  unfold copyErrorTrapHere takeCopyError
  rw [if_pos hdue, he]
  refine ⟨?_, trapped_of hme (by decide) hmem rfl rfl rfl rfl rfl⟩
  rw [hme]

/-! ## PREEMPT -/

/-- What a hart keeps when its tandem leaves its slot, and what it no longer has. -/
structure Hart.LeftAs (h h' : Hart) : Prop where
  held : h'.held = []
  stalled : h'.stalled = none
  s : h'.s = h.s
  v : h'.v = h.v
  pc : h'.pc = h.pc

theorem performHeldOf_hart {t : Tandem} {onA : Bool} {h : Hart} :
    (performHeldOf s t onA h).2.s = h.s ∧ (performHeldOf s t onA h).2.v = h.v ∧ (performHeldOf s t onA h).2.pc = h.pc := by
  unfold performHeldOf
  split <;> exact ⟨rfl, rfl, rfl⟩

theorem bankCycles_hart {t : Tandem} {h : Hart} : ∃ c, bankCycles s t h = { h with csr := c } := by
  unfold bankCycles
  split
  · exact ⟨_, rfl⟩
  · exact ⟨h.csr, rfl⟩

/-- The steps by which a hart leaves its slot. -/
theorem leftAs_steps {v : State} {t t' : Tandem} {onA : Bool} {h : Hart} {x : Option (Nat × Nat)} {c : Csr} :
    let h' := (declineLoop 10 (bankCycles v t' (performHeldOf s t onA h).2)).enterAnew
    h.LeftAs { h' with stalled := none, leftIn := x, csr := c } := by
  obtain ⟨hs, hv, hpc⟩ := performHeldOf_hart (s := s) (t := t) (onA := onA) (h := h)
  have hheld := performHeldOf_held (s := s) (t := t) (onA := onA) (h := h)
  obtain ⟨c', hc⟩ := bankCycles_hart (s := v) (t := t') (h := (performHeldOf s t onA h).2)
  obtain ⟨l, y, hd⟩ := declineLoop_eq (code := 10) (h := bankCycles v t' (performHeldOf s t onA h).2)
  rw [hd, hc]
  exact ⟨hheld, rfl, hs, hv, hpc⟩

/-- A resident tandem that leaves its slot: it is parked with its reason, and of its harts the registers and the program counters stay (R33, R348). -/
theorem leaveSlot_parks {reason c k : Nat} {x : Away} (hp : x.t.place = .resident c k) :
    (leaveSlot reason s x).2.t.place = .parked reason s.now ∧ x.e.LeftAs (leaveSlot reason s x).2.e ∧ x.a.LeftAs (leaveSlot reason s x).2.a := by
  have hnow : (performHeldOf (performHeldOf s x.t false x.e).1 x.t true x.a).1.now = s.now := by
    have h0 : s.Has { (Roster.hart s.onA s.tan.uid) with live := s.live, now := some s.now } :=
      ⟨rfl, rfl, rfl, fun _ e => Option.some.inj e, fun _ h => (nomatch h), fun _ h => (nomatch h), fun h => (nomatch h), fun _ h => nomatch h⟩
    exact (performHeldOf_has (performHeldOf_has h0)).now_eq rfl
  unfold leaveSlot
  rw [hp]
  exact ⟨congrArg _ hnow, leftAs_steps, leftAs_steps⟩

theorem exec_preempt {t : Nat} : exec (.preempt t) s = .next (mapTandems (fun x => x.uid == t && !s.frozen x) (leaveSlot 19) s) := rfl

/-- Where no other tandem has its number, a pre-emption of the tandem in focus is its leaving its slot, and the others stay as they are. -/
theorem preempt_focus (hr : Claims.runs s) (ha : ∀ x ∈ s.away, x.t.uid ≠ s.tan.uid) :
    mapTandems (fun x => x.uid == s.tan.uid && !s.frozen x) (leaveSlot 19) s =
      (leaveSlot 19 s s.focusAway).1.withFocus (leaveSlot 19 s s.focusAway).2 := by
  obtain ⟨hl, _, _, hfr, _⟩ := hr
  have h0 : s.Has { (Roster.hart s.onA s.tan.uid) with uids := some (s.away.map (·.t.uid)) } :=
    ⟨hl, rfl, rfl, fun _ h => (nomatch h), fun _ e => Option.some.inj e, fun _ h => (nomatch h), fun h => (nomatch h), fun _ h => nomatch h⟩
  have huids : (leaveSlot 19 s s.focusAway).1.away.map (·.t.uid) = s.away.map (·.t.uid) := (leaveSlot_keepsRoster s s.focusAway h0).1.uids_eq rfl
  have hother : ∀ x ∈ ((leaveSlot 19 s s.focusAway).1.withFocus (leaveSlot 19 s s.focusAway).2).away, x.t.uid ≠ s.tan.uid := by
    rw [State.withFocus_away]
    intro x hx
    have hm : x.t.uid ∈ s.away.map (·.t.uid) := huids ▸ List.mem_map_of_mem hx
    obtain ⟨y, hy, he⟩ := List.mem_map.1 hm
    exact he ▸ ha y hy
  unfold mapTandems
  rw [if_pos (by simp [hl, frozen_of_nil hfr])]
  dsimp only
  rw [mapAway_eq_self (fun x hx hsel => absurd (beq_iff_eq.1 (Bool.and_eq_true_iff.1 hsel).1) (hother x hx))]

/-! ## Rechecks -/

/-- What the event does at the hart in focus. -/
def recheckSecondRunHere (agree : Bool) (s : State) : State :=
  match recheckedReplay s with
  | some (l, r) =>
    if agree then { s with me := { s.me with loop := some { l with replay := some { r with checked := true } } } } else replayDisagrees l r s
  | none =>
    if recheckUnderWay s = false then s
    else if agree then { s with me := { s.me with recheck := .agreed s.me.pc, stalled := none } }
    else disagree s

theorem exec_recheckSecondRun {h : Nat} {agree : Bool} : exec (.recheckSecondRun h agree) s = .next (atHart h (recheckSecondRunHere agree) s) := rfl

theorem recheckSecondRunHere_agrees (hr : Claims.runs s) (hl : s.me.loop = none) (hp : s.me.recheck = .pending s.me.pc ∨ s.me.recheck = .forced s.me.pc) :
    recheckSecondRunHere true s = { s with me := { s.me with recheck := .agreed s.me.pc, stalled := none } } := by
  have hno : recheckedReplay s = none := by
    unfold recheckedReplay
    rw [hl]
  have hunder : recheckUnderWay s = true := by
    unfold recheckUnderWay
    rw [active_of_runs hr]
    rcases hp with h | h <;> rw [h] <;> exact beq_self_eq_true _
  unfold recheckSecondRunHere
  rw [hno]
  dsimp only
  rw [if_neg (by rw [hunder]; exact Bool.noConfusion)]
  rfl

/-- What the event does at the hart in focus. -/
def recheckForceHere (s : State) : State :=
  match s.me.recheck with
  | .pending p => if s.active then { s with me := { s.me with recheck := .forced p } } else s
  | _ => s

theorem exec_recheckForce {h : Nat} : exec (.recheckForce h) s = .next (atHart h recheckForceHere s) := rfl

theorem recheckForceHere_has (h : s.Has (.hart b u)) : (recheckForceHere s).Has (.hart b u) := by
  unfold recheckForceHere
  split
  · exact ite_holds (P := State.Has _) h h
  · exact h

theorem recheckForceHere_pending {pc : Word} (hr : Claims.runs s) (hp : s.me.recheck = .pending pc) :
    recheckForceHere s = { s with me := { s.me with recheck := .forced pc } } := by
  unfold recheckForceHere
  rw [hp]
  exact if_pos (active_of_runs hr)

/-! ## TRIAL_END -/

/-- What the event does at the hart in focus. -/
def trialEndHere (s : State) : State := if trialDue s then endTrial s else s

theorem exec_trialEnd {h : Nat} : exec (.trialEnd h) s = .next (atHart h trialEndHere s) := rfl

theorem trialEndHere_has (h : s.Has (.hart b u)) : (trialEndHere s).Has (.hart b u) := ite_holds (P := State.Has _) (endTrial_has rfl h) h

/-- A trial that is over, and whose record can be written, writes it and stops (R382). -/
theorem trialEndHere_writes {v : State} (hr : Claims.runs s) (ht : s.me.csr.trctl.getLsbD 0 = true) (hs : s.me.savedNow = none)
    (hw : field s.me.csr.trctl 32 32 ≤ s.cycles.toNat - s.me.trial.startCycle)
    (hv : trialStores s.me.csr.trbase.toNat (trialWords s) { s with ir := 0, notes := [] } = .ok () v) :
    trialEndHere s = { v with me := stopTrial false v.me, notes := [], dbg := v.dbg.goneOn s.hart } := by
  have hdue : trialDue s = true := by
    unfold trialDue
    rw [active_of_runs hr, ht, hs, decide_eq_true hw]
    rfl
  unfold trialEndHere endTrial
  rw [if_pos hdue]
  dsimp only
  rw [hv]

end

/-- Settles O39: each event by what it does at the hart in focus, and the events at another hart by the focus that comes back. -/
theorem hartEventsActOnTheirHart : Obligations.HartEventsActOnTheirHart := by
  unfold Obligations.HartEventsActOnTheirHart
  refine ⟨fun s hr => ?_, fun e he h s x hl hu hx => ?_⟩
  · have hl : s.live = true := hr.1
    have hs := State.has_hart hl
    refine ⟨fun p hp w hw hm hf _ _ hsaved hst hd => ?_, fun ho => ?_, fun k x hk he hf hd hq hg _ hfree => ?_, fun hq => ?_,
      fun hst ht hpt hw hc hbar hv hh => ?_, fun e r he ht hsaved hv hh => ?_, fun ha => ?_, fun hloop hp => ?_, fun pc hp => ?_,
      fun v ht hsaved hwin hv => ?_⟩
    · subst hw
      have hdue := fenceRetireHere_due hr (fence_kind_le hp) hm hf hsaved hst hd
      exact exec_at_focus exec_fenceRetire hl hdue (hdue ▸ fenceRetireHere_has hs)
    · exact exec_at_focus exec_queueStallEnd hl (if_pos (by rw [active_of_runs hr, stallOver_ends ho]; rfl)) hs
    · exact ⟨_, exec_at_focus exec_stripBufferDrain hl (stripBufferDrainHere_eq hr hk he hf hq hg hfree) hs, rfl, rfl, rfl, fun hx => drained_global hx hd,
        fun hx => ⟨fun o _ => (drained_shared hx).1 o, (drained_shared hx).2⟩⟩
    · have htimeout := stripTimeoutHere_eq hr hq
      exact exec_at_focus exec_stripTimeout hl htimeout (htimeout ▸ stripTimeoutHere_has hs)
    · exact ⟨_, exec_at_focus exec_progressExpiry hl rfl (progressExpiryHere_has hs),
        progressExpiryHere_traps (timerRuns_of hr hst ht hpt hw hc hbar) ht hv hh⟩
    · exact ⟨_, exec_at_focus exec_copyErrorTrap hl rfl (copyErrorTrapHere_has hs), copyErrorTrapHere_traps hr he ht hsaved hv hh⟩
    · obtain ⟨_, _, _, _, c, k, hp⟩ := id hr
      obtain ⟨hplace, hE, hA⟩ := leaveSlot_parks (s := s) (reason := 19) (x := s.focusAway) (by rw [State.focusAway_t]; exact hp)
      have hon : (leaveSlot 19 s s.focusAway).1.onA = s.onA := (leaveSlot_keepsRoster s s.focusAway hs).1.onA_eq
      refine ⟨_, exec_preempt.trans (congrArg Host.Outcome.next (preempt_focus hr ha.2)), by rw [State.withFocus_tan]; exact hplace, ?_⟩
      unfold State.withFocus
      rw [hon]
      unfold State.focusAway at hE hA ⊢
      cases ho : s.onA with
      | false =>
        rw [ho] at hE hA
        exact ⟨hE.held, hA.held, hE.stalled, hE.s, hA.s, hE.v, hE.pc, hA.pc⟩
      | true =>
        rw [ho] at hE hA
        exact ⟨hA.held, hE.held, hA.stalled, hA.s, hE.s, hA.v, hA.pc, hE.pc⟩
    · exact exec_at_focus exec_recheckSecondRun hl (recheckSecondRunHere_agrees hr hloop hp) hs
    · exact exec_at_focus exec_recheckForce hl (recheckForceHere_pending hr hp) hs
    · have hwrites := trialEndHere_writes hr ht hsaved hwin hv
      exact exec_at_focus exec_trialEnd hl hwrites (hwrites ▸ trialEndHere_has hs)
  · have away {f : State → State} (hf : ∀ (b : Bool) (u : Nat) (t : State), t.Has (.hart b u) → (f t).Has (.hart b u)) :
        ∃ t, Host.Outcome.next (φ := Fault) (ρ := Refusal) (atHart h f (s.focus h)) = .next t ∧
          Host.Outcome.next (φ := Fault) (ρ := Refusal) (atHart h f s) = .next (t.focus s.hart) := by
      obtain ⟨t, h1, h2⟩ := atHart_away hf hl hu hx
      exact ⟨t, congrArg _ h1, congrArg _ h2⟩
    simp only [List.mem_cons, List.not_mem_nil, or_false] at he
    rcases he with rfl | rfl | rfl | rfl | rfl | rfl | rfl
    · exact away (f := fenceRetireHere) (fun _ _ _ => fenceRetireHere_has)
    · exact away (f := queueStallEndHere h) (fun _ _ _ => queueStallEndHere_has)
    · exact away (f := stripTimeoutHere) (fun _ _ _ => stripTimeoutHere_has)
    · exact away (f := progressExpiryHere) (fun _ _ _ => progressExpiryHere_has)
    · exact away (f := copyErrorTrapHere) (fun _ _ _ => copyErrorTrapHere_has)
    · exact away (f := recheckForceHere) (fun _ _ _ => recheckForceHere_has)
    · exact away (f := trialEndHere) (fun _ _ _ => trialEndHere_has)

end Sys2Proof.Machine

end

section
/-! PROOFS. Values that a format represents (O5). A code that is no NaN decodes to an infinity or to a number of quanta of its own binade, so that nothing is
left below the last bit and no rounding mode moves it (R61); FMIN and FMAX pick an operand by a chain of tests that the decoded operands settle (R165). -/

namespace Sys2Proof.Machine

open Sys2Proof

/-! ## Codes -/

section
variable {f : Fmt} {c : Nat}

theorem Fmt.mag_lt : f.mag c < 2 ^ (f.ew + f.mw) := Nat.mod_lt _ (Nat.two_pow_pos _)

/-- A code is its sign with its magnitude. -/
theorem Fmt.code_neg_mag (hc : c < 2 ^ f.width) : f.code (f.neg c) (f.mag c) = c := by
  unfold Fmt.code Fmt.neg Fmt.mag bit
  unfold Fmt.width at hc
  rw [Nat.add_assoc, Nat.pow_add] at hc
  cases hs : f.sgn with
  | false => simpa using Nat.mod_eq_of_lt (by simpa [hs] using hc)
  | true =>
    have hlt : c / 2 ^ (f.ew + f.mw) < 2 := Nat.div_lt_of_lt_mul (by simpa [hs, Nat.mul_comm] using hc)
    have hdiv := Nat.mod_add_div c (2 ^ (f.ew + f.mw))
    have hbit : c.testBit (f.ew + f.mw) = decide (c / 2 ^ (f.ew + f.mw) = 1) := by
      rw [Nat.testBit_eq_decide_div_mod_eq, Nat.mod_eq_of_lt hlt]
    rw [hbit]
    rcases Nat.le_one_iff_eq_zero_or_eq_one.1 (Nat.le_of_lt_succ hlt) with h | h <;> rw [h] at hdiv ⊢ <;> simpa using hdiv

/-- A magnitude that is neither a NaN nor an infinity does not exceed the largest finite one. -/
theorem Fmt.le_maxMag {m : Nat} (hm : m < 2 ^ (f.ew + f.mw)) (hn : f.magNaN m = false) (hi : f.magInf m = false) : m ≤ f.maxMag := by
  unfold Fmt.magNaN at hn
  unfold Fmt.magInf at hi
  unfold Fmt.maxMag
  by_cases h2 : f.spec = 2
  · simp [h2] at hn hi ⊢; omega
  · by_cases h1 : f.spec = 1
    · simp [h1] at hn ⊢; omega
    · simp [h1, h2]; omega

/-- What a code decodes to, where it is no NaN: an infinity, a subnormal magnitude, or a normal one. -/
theorem Fmt.decode_cases (hn : (f.decode c).isNaN = false) :
    (f.spec = 2 ∧ f.mag c = f.top * 2 ^ f.mw ∧ f.decode c = .inf (f.neg c)) ∨
    (f.mag c ≤ f.maxMag ∧ f.mag c < 2 ^ f.mw ∧ f.decode c = .num (f.neg c) (f.mag c) f.minExp false) ∨
    (f.mag c ≤ f.maxMag ∧ ∃ e, f.mag c / 2 ^ f.mw = e + 1 ∧
      f.decode c = .num (f.neg c) (2 ^ f.mw + f.mag c % 2 ^ f.mw) (f.minExp + (e : Int)) false) := by
  unfold Fmt.decode at hn ⊢
  dsimp only at hn ⊢
  cases hnan : f.magNaN (f.mag c) with
  | true => simp [hnan, Val.isNaN] at hn
  | false =>
    cases hinf : f.magInf (f.mag c) with
    | true =>
      unfold Fmt.magInf at hinf
      exact .inl (by simpa using hinf)
    | false =>
      have hle := Fmt.le_maxMag Fmt.mag_lt hnan hinf
      cases he : f.mag c / 2 ^ f.mw with
      | zero => exact .inr (.inl ⟨hle, (Nat.div_eq_zero_iff_lt (Nat.two_pow_pos _)).1 he, by simp⟩)
      | succ e => exact .inr (.inr ⟨hle, e, rfl, by simp; omega⟩)

end

/-! ## Rounding what is exact -/

/-- A magnitude at its own exponent is a whole number of quanta. -/
theorem splitAt_self (m : Nat) (q : Int) : splitAt m q q false = (m, 0, false) := by
  have h64 : (q - (q - 64)).toNat = 64 := by omega
  unfold splitAt alignTo
  rw [if_pos (by omega), h64]
  simp

theorem roundUp_exact (mode r k : Nat) (neg : Bool) : roundUp mode r k 0 false neg = false := by simp [roundUp]

/-- A magnitude whose last bit stands at the quantum of its binade, or of the subnormals, is delivered as it is (R61). -/
theorem Fmt.deliverNum_exact {f : Fmt} {mode r m e : Nat} {neg : Bool}
    (hq : max ((m.log2 : Int) - f.mw + e) 0 = e) (hle : e * 2 ^ f.mw + m ≤ f.maxMag) :
    f.deliverNum mode r neg m (f.minExp + (e : Int)) false = (f.code neg (e * 2 ^ f.mw + m), 0) := by
  have hquantum : max ((m.log2 : Int) + (f.minExp + (e : Int)) - f.mw) f.minExp = f.minExp + (e : Int) := by omega
  have hbase : (f.minExp + (e : Int) - f.minExp).toNat = e := by omega
  unfold Fmt.deliverNum
  dsimp only
  rw [hquantum, splitAt_self]
  dsimp only
  rw [roundUp_exact, hbase]
  simp only [Bool.false_eq_true, if_false, Nat.add_zero]
  rw [if_neg (Nat.not_lt.2 hle)]
  rfl

/-- Rounding the value of a code gives the code back, exactly (R61, R62). -/
theorem Fmt.deliver_decode {f : Fmt} {mode r c : Nat} (hc : c < 2 ^ f.width) (hn : (f.decode c).isNaN = false) :
    f.deliver mode r (f.decode c) = (c, 0) := by
  have hcode := Fmt.code_neg_mag hc
  have hsign : ¬(f.sgn = false ∧ f.neg c = true) := by
    rintro ⟨h, h'⟩
    simp [Fmt.neg, h] at h'
  rcases Fmt.decode_cases hn with ⟨hspec, hmag, hv⟩ | ⟨hle, hlt, hv⟩ | ⟨hle, e, he, hv⟩ <;> rw [hv] <;> unfold Fmt.deliver <;> dsimp only
  · rw [if_neg hsign, if_pos hspec, ← hmag, hcode]
  · by_cases h0 : f.mag c = 0
    · rw [if_pos ⟨h0, rfl⟩, ← h0, hcode]
    · rw [if_neg (by simp [h0]), if_neg hsign]
      have hlog : (f.mag c).log2 < f.mw := (Nat.log2_lt h0).2 hlt
      have hexact := Fmt.deliverNum_exact (f := f) (mode := mode) (r := r) (m := f.mag c) (e := 0) (neg := f.neg c) (by omega) (by omega)
      simpa [hcode] using hexact
  · have hpos := Nat.two_pow_pos f.mw
    have hlow := Nat.mod_lt (f.mag c) hpos
    have hlog : (2 ^ f.mw + f.mag c % 2 ^ f.mw).log2 = f.mw := (Nat.log2_eq_iff (by omega)).2 ⟨by omega, by rw [Nat.pow_succ]; omega⟩
    have hmag : e * 2 ^ f.mw + (2 ^ f.mw + f.mag c % 2 ^ f.mw) = f.mag c := by
      have hdiv := Nat.div_add_mod (f.mag c) (2 ^ f.mw)
      rw [he, Nat.mul_succ, Nat.mul_comm] at hdiv
      omega
    rw [if_neg (by omega), if_neg hsign, Fmt.deliverNum_exact (by rw [hlog]; omega) (by omega), hmag, hcode]

/-! ## FMIN and FMAX -/

section
variable {f : Fmt} {big : Bool} {x y : Nat}

/-- With one NaN, the other operand is the result (R165). -/
theorem minMax_oneNaN (hy : y < 2 ^ f.width) (hx : (f.decode x).isNaN = true) (hy' : (f.decode y).isNaN = false) :
    (minMax f big x y).1 = y ∧ (minMax f big y x).1 = y := by
  unfold minMax
  simp [hx, hy', Nat.mod_eq_of_lt hy]

/-- With two NaNs, the canonical NaN is the result (R165). -/
theorem minMax_twoNaNs (hx : (f.decode x).isNaN = true) (hy : (f.decode y).isNaN = true) : (minMax f big x y).1 = f.canonical.getD 0 := by
  unfold minMax
  simp [hx, hy]

/-- NV is raised for a signalling operand, and no other flag is (R165). -/
theorem minMax_flags : (minMax f big x y).2 = nvIf ((f.decode x).signals || (f.decode y).signals) := by
  unfold minMax
  dsimp only
  split_ifs <;> rfl

end

/-- −0 is below +0 in the two formats of FALU (R165). -/
theorem minMax_zeros {f : Fmt} (hf : f ∈ [fp64, fp32]) :
    minMax f true 0 (2 ^ (f.width - 1)) = (0, 0) ∧ minMax f true (2 ^ (f.width - 1)) 0 = (0, 0) ∧
      minMax f false 0 (2 ^ (f.width - 1)) = (2 ^ (f.width - 1), 0) ∧ minMax f false (2 ^ (f.width - 1)) 0 = (2 ^ (f.width - 1), 0) := by
  simp only [List.mem_cons, List.not_mem_nil, or_false] at hf
  rcases hf with rfl | rfl <;> decide

/-- Settles O5: what a format represents is delivered exactly, and the tests of FMIN and FMAX settle each of their cases. -/
theorem floatValuesRoundAndOrder : Obligations.FloatValuesRoundAndOrder := by
  unfold Obligations.FloatValuesRoundAndOrder
  refine ⟨fun f _ mode r c hc hn => Fmt.deliver_decode hc hn, fun f hf big x y hx hy =>
    ⟨fun hx' hy' => minMax_oneNaN hy hx' hy', fun hx' hy' => ?_, minMax_zeros hf, minMax_flags⟩⟩
  have hcanonical : f.canonical = some (f.canonical.getD 0) := by
    simp only [List.mem_cons, List.not_mem_nil, or_false] at hf
    rcases hf with rfl | rfl <;> rfl
  rw [minMax_twoNaNs hx' hy']
  exact hcanonical

end Sys2Proof.Machine

end

section
/-! PROOFS. How a vector instruction that starts anew runs (R16–R18, R38, R39, R185, R186): its checks pass, it takes its operands, and its rows go to a tile or
to a queue. On the way it differs from what its operands leave only in its saved operand state and in VSTART (`State.midway`); each part of a body is one
lemma about such states, and `State.retiresTile` is assembled from them. -/

namespace Sys2Proof.Machine

open Sys2Proof

/-! ## An instruction under way -/

/-- The hart with `o` as the saved operand state in force and `n` in VSTART. -/
def Hart.midway (h : Hart) (o : Option Saved) (n : Word) : Hart :=
  { h with saved := if h.tis then h.saved else o, savedInTrap := if h.tis then o else h.savedInTrap, csr := { h.csr with vstart := n } }

/-- The state of an instruction under way: `s` but for its saved operand state and VSTART. -/
def State.midway (s : State) (o : Option Saved) (n : Word) : State := { s with me := s.me.midway o n }

/-- The saved operand state holds popped operands only, each of which has been taken: no row is pushed or staged, and no flag is raised (R18). -/
def OperandsOnly (o : Option Saved) : Prop :=
  ∀ x, o = some x → x.issue = none ∧ x.curV = x.vops.length ∧ x.curS = x.sops.length ∧ x.rows = 0 ∧ x.full = false ∧ x.flags = 0

/-- The flags that a saved operand state brings to retirement (R186). -/
def savedFlags (o : Option Saved) : Word := (o.map (·.flags)).getD 0

section
variable {h : Hart} {s t : State} {o p : Option Saved} {n k : Word} {pc : Word}

@[simp] theorem Hart.midway_savedNow : (h.midway o n).savedNow = o := by
  show (if h.tis then (if h.tis then o else h.savedInTrap) else (if h.tis then h.saved else o)) = o
  split <;> rfl

theorem Hart.midway_withSaved : (h.midway o n).withSaved p = h.midway p n := by
  show (if h.tis = true then _ else _) = _
  unfold Hart.midway
  split <;> simp_all

theorem Hart.midway_self : h.midway h.savedNow h.csr.vstart = h := by
  unfold Hart.midway Hart.savedNow Hart.tis
  split <;> simp_all

theorem Hart.withSaved_eq_midway : h.withSaved p = h.midway p h.csr.vstart := by
  unfold Hart.withSaved Hart.midway Hart.tis
  split <;> simp_all

@[simp] theorem Hart.midway_savedOr : (h.midway o n).savedOr = o.getD { pc := h.pc } := by
  unfold Hart.savedOr
  rw [Hart.midway_savedNow]
  rfl

theorem State.midway_self (hs : s.me.savedNow = none) : s.midway none s.me.csr.vstart = s := by
  unfold State.midway
  rw [← hs, Hart.midway_self]

theorem operandsOnly_none : OperandsOnly none := nofun

/-- An absent state counts as an empty one. -/
theorem OperandsOnly.getD (ho : OperandsOnly o) : OperandsOnly (some (o.getD { pc := pc })) := by
  rintro _ ⟨⟩
  cases o with
  | none => exact ⟨rfl, rfl, rfl, rfl, rfl, rfl⟩
  | some x => exact ho x rfl

/-- A popped tile is one more operand that has been taken. -/
theorem OperandsOnly.tile {x : Saved} (hx : OperandsOnly (some x)) (v : List VReg) :
    OperandsOnly (some { x with vops := x.vops ++ [v], curV := x.curV + 1 }) := by
  rintro _ ⟨⟩
  obtain ⟨hissue, hv, hs, hrest⟩ := hx x rfl
  exact ⟨hissue, by rw [List.length_append, ← hv]; rfl, hs, hrest⟩

/-- So is a popped scalar. -/
theorem OperandsOnly.scalar {x : Saved} (hx : OperandsOnly (some x)) (v : Word) :
    OperandsOnly (some { x with sops := x.sops ++ [v], curS := x.curS + 1 }) := by
  rintro _ ⟨⟩
  obtain ⟨hissue, hv, hs, hrest⟩ := hx x rfl
  exact ⟨hissue, hv, by rw [List.length_append, ← hs]; rfl, hrest⟩

theorem OperandsOnly.savedFlags (ho : OperandsOnly o) : savedFlags o = 0 := by
  cases o with
  | none => rfl
  | some x => exact (ho x rfl).2.2.2.2.2

/-- Operands only, no registers of a first issue: the registers as they stand are the operands (R344). -/
theorem OperandsOnly.issued (ho : OperandsOnly o) : (h.midway o n).issued = h.midway o n := by
  unfold Hart.issued
  rw [Hart.midway_savedNow]
  cases o with
  | none => rfl
  | some x =>
    dsimp only
    rw [(ho x rfl).1]
    exact ite_self _

/-- So they are those of the state whose hart it left as it was. -/
theorem OperandsOnly.issued_of_me (ho : OperandsOnly o) (hme : t.me = s.me) : (t.midway o n).me.issued = s.me.midway o n :=
  ho.issued.trans (congrArg (Hart.midway · o n) hme)

theorem Hart.issued_of_none (hs : h.savedNow = none) : h.issued = h := by
  unfold Hart.issued
  rw [hs]

/-- The draws of an instruction under way are those of the state it started in (R64). -/
theorem OperandsOnly.rounding (ho : OperandsOnly o) (hs : t.me.savedNow = none) (e : Nat) : (t.midway o n).rounding e = t.rounding e := by
  unfold State.rounding
  rw [ho.issued_of_me rfl, Hart.issued_of_none hs]
  rfl

/-! ### Its saved operand state, its flags, VSTART -/

theorem modSaved_midway (f : Saved → Saved) : modSaved f (t.midway o n) = .ok () (t.midway (some (f (o.getD { pc := t.me.pc }))) n) := by
  show EStateM.Result.ok () { t with me := (t.me.midway o n).withSaved (some (f (t.me.midway o n).savedOr)) } = _
  rw [Hart.midway_withSaved, Hart.midway_savedOr]
  rfl

theorem setVstart_midway (m : Nat) : setVstart m (t.midway o n) = .ok () (t.midway o (BitVec.ofNat 64 m)) := rfl

theorem raiseSaved_midway (m : Nat) :
    ∃ p, raiseSaved m (t.midway o n) = .ok () (t.midway p n) ∧ savedFlags p = savedFlags o ||| BitVec.ofNat 64 m := by
  unfold raiseSaved
  split
  next h0 => exact ⟨o, rfl, by subst h0; exact (BitVec.or_zero).symm⟩
  · refine ⟨_, modSaved_midway _, ?_⟩
    cases o <;> rfl

end

/-! ## Checks -/

section
variable {s t u : State} {a b d n g ga gd : Nat}

theorem State.vectorHere.coreOnly_ok (h : s.vectorHere) : coreOnly s = .ok () s := by
  show (if s.tan.firmware.isSome then illegalInstr else pure ()) s = _
  rw [h.2.1]
  rfl

theorem State.tileFits.test (h : s.tileFits n g) :
    (if n < 112 then decide (n % g = 0 ∧ n + s.me.csr.rows * g ≤ 112) else decide (s.me.csr.rows * g ≤ 16)) = true := by
  unfold State.tileFits at h
  split at h <;> simp_all

theorem checkTileSrc_ok (h : s.srcOk n) (hf : s.tileFits n g) : checkTileSrc n g s = .ok () s := by
  unfold checkTileSrc
  rw [exec_getState_bind, exec_bind_ok (checkSrc_ok h)]
  exact require_of hf.test

theorem checkTileDst_ok (h : s.dstOk n) (hf : s.tileFits n g) : checkTileDst n g s = .ok () s := by
  unfold checkTileDst
  rw [exec_getState_bind, exec_bind_ok (checkDst_ok h)]
  exact require_of hf.test

theorem checkUnscaled_ok (h : s.me.csr.blk = 0) : checkUnscaled s = .ok () s := require_of (beq_iff_eq.2 h)

theorem checkFmt_ok (h : Claims.formatted s) : checkFmt s = .ok () s := by
  refine require_of ?_
  by_cases h8 : s.me.csr.sew = 8 ∧ s.me.csr.fk = 0
  · simp [h h8.1 h8.2]
  · rcases not_and_or.1 h8 with h8 | h8 <;> simp [h8]

theorem mem_tileRegs {h : Hart} {r : Nat} (hr : r ∈ tileRegs h n g) : n < 112 ∧ ∃ k < h.csr.rows * g, h.archV (n + k) = r := by
  unfold tileRegs at hr
  split at hr
  · simp at hr
  · obtain ⟨k, hk, rfl⟩ := List.mem_map.1 hr
    exact ⟨by omega, k, by simpa using range_lt hk, rfl⟩

theorem State.apart.not_meet (h : s.apart d gd a ga) : tilesMeet s.me d gd a ga = false := by
  refine List.any_eq_false.2 fun r hr => ?_
  obtain ⟨hd, k, hk, rfl⟩ := mem_tileRegs hr
  rw [List.contains_iff_mem]
  intro hr'
  obtain ⟨ha, l, hl, heq⟩ := mem_tileRegs hr'
  exact h hd ha k hk l hl heq.symm

theorem checkDisjoint_ok (h : s.apart d gd a ga) : checkDisjoint d gd a ga s = .ok () s := by
  refine require_of ?_
  rw [h.not_meet]
  rfl

theorem checkOverlap_ok (h : (d = a ∧ gd = ga) ∨ s.apart d gd a ga) : checkOverlap d gd a ga s = .ok () s := by
  refine require_of ?_
  rcases h with ⟨rfl, rfl⟩ | h
  · simp
  · rw [h.not_meet]
    rfl

/-! ## Operands leave the hart alone -/

@[simp] theorem State.tileTaken_me : (s.tileTaken n g).me = s.me := by unfold State.tileTaken; split <;> rfl

theorem tileTaken_srcOk : (s.tileTaken a ga).srcOk n ↔ s.srcOk n := by unfold State.srcOk State.tileTaken; split <;> simp
theorem tileTaken_dstOk : (s.tileTaken a ga).dstOk n ↔ s.dstOk n := by unfold State.dstOk State.tileTaken; split <;> simp
theorem srcTaken_dstOk : (s.srcTaken a).dstOk n ↔ s.dstOk n := by unfold State.dstOk State.srcTaken; split <;> simp
theorem tileFits_congr (h : t.me = s.me) : t.tileFits n g ↔ s.tileFits n g := by unfold State.tileFits; rw [h]
theorem tileTaken_rounding (e : Nat) : (s.tileTaken n g).rounding e = s.rounding e := by unfold State.rounding State.tileTaken; split <;> rfl
theorem srcTaken_rounding (e : Nat) : (s.srcTaken n).rounding e = s.rounding e := by unfold State.rounding State.srcTaken; split <;> rfl

end

/-! ## Operands -/

section
variable {s t : State} {o : Option Saved} {k : Word} {n g : Nat}

/-- A pop of entries that are here, in front of every fault marker, can be made (R17, R345). -/
theorem popReady_entries {α : Type} {f : Fifo α} {port x : Nat} {e : ErrorAt} (hl : n ≤ f.items.length) (hb : f.bad = false)
    (hm : ∀ m, f.marker = some m → n ≤ m ∨ s.peer.exited = true) : popReady f n port x e s = .ok () s := by
  unfold popReady
  dsimp only
  rw [if_neg, if_pos hl, hb]
  · rfl
  · cases hf : f.marker with
    | none => simp
    | some m =>
      rcases hm m hf with h | h
      · simp [Nat.not_lt.2 h]
      · simp [h]

/-- A source tile that is here is read (R16, R38). -/
theorem readTile_here (ho : OperandsOnly o) (h : t.tileHere n g) :
    ∃ p, OperandsOnly p ∧ readTile n g (t.midway o k) = .ok (t.tileValue n g) ((t.tileTaken n g).midway p k) := by
  obtain ⟨-, -, hhere⟩ := h
  unfold readTile State.tileValue State.tileTaken
  rw [exec_getState_bind]
  by_cases hn : n < 112
  · simp only [hn, if_true]
    refine ⟨o, ho, ?_⟩
    rw [ho.issued_of_me rfl]
    rfl
  · obtain ⟨hl, hb, hm⟩ := hhere.resolve_left hn
    simp only [hn, if_false]
    unfold vecPop
    rw [exec_getState_bind]
    have hnext : (t.midway o k).me.savedOr = o.getD { pc := t.me.pc } := Hart.midway_savedOr
    obtain ⟨-, hv, -⟩ := ho.getD (pc := t.me.pc) _ rfl
    rw [hnext, hv, List.getElem?_length]
    dsimp only
    have hpop : popVector n ((t.midway o k).me.csr.rows * g) (t.midway o k) =
        .ok ((t.tan.vfifo (n - 112)).items.take (t.me.csr.rows * g))
          (State.midway { t with tan := { t.tan with vq := sparseSet {} t.tan.vq (n - 112) ((t.tan.vfifo (n - 112)).pop (t.me.csr.rows * g) 16 t.me.keepsPops) } } o k) := by
      unfold popVector
      rw [exec_getState_bind]
      exact exec_bind_ok (popReady_entries (s := t.midway o k) hl hb hm)
    rw [exec_bind_ok hpop, exec_bind_ok (modSaved_midway _)]
    exact ⟨_, ho.getD.tile _, rfl⟩

/-- A scalar operand that is here is read (R16, R185). -/
theorem vecValue_here (ho : OperandsOnly o) (h : t.srcHere n) :
    ∃ p, OperandsOnly p ∧ vecValue n (t.midway o k) = .ok (t.srcValue n) ((t.srcTaken n).midway p k) := by
  unfold vecValue
  rw [exec_getState_bind]
  by_cases hn : n < 112
  · unfold State.srcValue State.srcTaken
    simp only [hn, if_true]
    refine ⟨o, ho, ?_⟩
    rw [ho.issued_of_me rfl]
    rfl
  · simp only [hn, if_false]
    unfold vecScalar
    rw [exec_getState_bind, if_neg hn]
    have hnext : (t.midway o k).me.savedOr = o.getD { pc := t.me.pc } := Hart.midway_savedOr
    obtain ⟨-, -, hs, -⟩ := ho.getD (pc := t.me.pc) _ rfl
    rw [hnext, hs, List.getElem?_length]
    dsimp only
    have hpop : popScalar n (t.midway o k) = .ok (t.srcValue n) ((t.srcTaken n).midway o k) := by
      have hread := readS_here (s := t.midway o k) h
      unfold readS State.srcValue State.srcTaken at hread
      unfold State.srcValue State.srcTaken
      simp only [hn, if_false] at hread ⊢
      exact hread
    rw [exec_bind_ok hpop, exec_bind_ok (modSaved_midway _)]
    exact ⟨_, ho.getD.scalar _, by rw [srcTaken_me]; rfl⟩

end

end Sys2Proof.Machine

end

section
/-! PROOFS. Rows of elements and the registers that hold them (R38): packing and unpacking go register by register. -/

namespace Sys2Proof.Machine

open Sys2Proof

/-! ## Blocks of a list -/

section
variable {α β : Type} {f : α → List β} {g : Nat}

/-- Lists of one length, one after the other: block `j` is the `j`th of them. -/
theorem flatMap_block (hf : ∀ x, (f x).length = g) {l : List α} {j : Nat} (hj : j < l.length) : ((l.flatMap f).drop (j * g)).take g = f l[j] := by
  induction l generalizing j with
  | nil => simp at hj
  | cons x l ih =>
    cases j with
    | zero => simp [← hf x]
    | succ j =>
      have hskip : (j + 1) * g = (f x).length + j * g := by rw [hf, Nat.succ_mul, Nat.add_comm]
      rw [List.flatMap_cons, hskip, ← List.drop_drop, List.drop_left, ih (Nat.lt_of_succ_lt_succ hj)]
      rfl

theorem block_getD {l : List β} {j i : Nat} {x : β} (hi : i < g) : ((l.drop (j * g)).take g).getD i x = l.getD (j * g + i) x := by
  simp [List.getD_eq_getElem?_getD, hi]

theorem flatMap_getD (hf : ∀ x, (f x).length = g) {l : List α} {j i : Nat} {y : β} (hj : j < l.length) (hi : i < g) :
    (l.flatMap f).getD (j * g + i) y = (f l[j]).getD i y := by
  rw [← flatMap_block hf hj, block_getD hi]

end

@[simp] theorem range_length {lo n : Nat} : (range lo n).length = n := by rw [range_eq_range', List.length_range']

theorem range_getElem {lo n i : Nat} (hi : i < (range lo n).length) : (range lo n)[i] = lo + i := by
  simp [range_eq_range']

theorem range_map_getD {α : Type} {f : Nat → α} {n i : Nat} {x : α} (hi : i < n) : ((range 0 n).map f).getD i x = f i := by
  rw [List.getD_eq_getElem _ _ (by simpa using hi)]
  simp [range_getElem]

/-! ## Registers of a row -/

theorem field_lt {n : Nat} (x : BitVec n) (lo len : Nat) : field x lo len < 2 ^ len := BitVec.isLt _

theorem elemAt_lt {regs : List VReg} {g w j i : Nat} : elemAt regs g w j i < 2 ^ w := field_lt _ _ _

/-- The number that elements make holds element `i` from bit `i × w` on. -/
theorem packNat_elem {w : Nat} {xs : List Nat} {i : Nat} : packNat w xs / 2 ^ (i * w) % 2 ^ w = xs.getD i 0 % 2 ^ w := by
  induction xs generalizing i with
  | nil => simp [packNat]
  | cons x xs ih =>
    cases i with
    | zero => simp [packNat]
    | succ i =>
      have hnext : (x % 2 ^ w + 2 ^ w * packNat w xs) / 2 ^ w = packNat w xs := by
        rw [Nat.add_mul_div_left _ _ (Nat.two_pow_pos w), Nat.div_eq_of_lt (Nat.mod_lt _ (Nat.two_pow_pos w)), Nat.zero_add]
      rw [packNat, Nat.succ_mul, Nat.add_comm (i * w), Nat.pow_add, ← Nat.div_div_eq_div_mul, hnext, ih]
      rfl

theorem field_ofNat {n x lo len : Nat} (h : lo + len ≤ n) : field (BitVec.ofNat n x) lo len = x / 2 ^ lo % 2 ^ len := by
  unfold field
  rw [BitVec.extractLsb'_toNat, BitVec.toNat_ofNat, ← Nat.shiftRight_eq_div_pow]
  refine Nat.eq_of_testBit_eq fun i => ?_
  simp only [Nat.testBit_mod_two_pow, Nat.testBit_shiftRight]
  by_cases hi : i < len
  · simp [hi, (by omega : lo + i < n)]
  · simp [hi]

theorem packRow_length {w n : Nat} {xs : List Nat} : (packRow w n xs).length = n := by
  induction n generalizing xs with
  | zero => rfl
  | succ n ih => simp [packRow, ih]

theorem packRow_getD {w n k : Nat} {xs : List Nat} (hk : k < n) :
    (packRow w n xs).getD k 0 = BitVec.ofNat 1024 (packNat w ((xs.drop (k * (1024 / w))).take (1024 / w))) := by
  induction n generalizing k xs with
  | zero => omega
  | succ n ih =>
    cases k with
    | zero => simp [packRow]
    | succ k =>
      rw [packRow, List.getD_cons_succ, ih (by omega), List.drop_drop, Nat.succ_mul, Nat.add_comm]

section
variable {w g : Nat} (hw : 0 < w) (hd : w ∣ 1024)
include hw hd

/-- Element `i` of a row lies in register `i / (1024 / w)`, as its element `i mod (1024 / w)`. -/
theorem elem_place (i : Nat) : i * w / 1024 = i / (1024 / w) ∧ i * w % 1024 = i % (1024 / w) * w := by
  obtain ⟨l, hl⟩ := hd
  have hdiv : 1024 / w = l := by rw [hl, Nat.mul_div_cancel_left _ hw]
  rw [hdiv, hl, Nat.mul_comm w l, Nat.mul_div_mul_right _ _ hw, Nat.mul_mod_mul_right]
  exact ⟨rfl, rfl⟩

theorem lanes_pos : 0 < 1024 / w := Nat.div_pos (Nat.le_of_dvd (by omega) hd) hw

theorem elem_reg_lt {i : Nat} (hi : i < g * (1024 / w)) : i * w / 1024 < g := by
  rw [(elem_place hw hd i).1]
  exact Nat.div_lt_of_lt_mul (by rwa [Nat.mul_comm])

/-- The element that a row's registers hold. -/
theorem elemAt_rowRegs {regs : List VReg} {j i : Nat} (hi : i < g * (1024 / w)) :
    elemAt regs g w j i = field ((rowRegs regs g j).getD (i * w / 1024) 0) (i * w % 1024) w := by
  unfold elemAt rowRegs
  rw [block_getD (elem_reg_lt hw hd hi)]

theorem unpackRow_getD {regs : List VReg} {i : Nat} (hi : i < regs.length * (1024 / w)) :
    (unpackRow w regs).getD i 0 = field (regs.getD (i * w / 1024) 0) (i * w % 1024) w := by
  have hreg := elem_reg_lt hw hd hi
  have hsplit : i = i * w / 1024 * (1024 / w) + i % (1024 / w) := by
    rw [(elem_place hw hd i).1, Nat.mul_comm, Nat.div_add_mod]
  have hlow := Nat.mod_lt i (lanes_pos hw hd)
  unfold unpackRow
  rw [show (List.flatMap _ regs).getD i 0 = (List.flatMap _ regs).getD (i * w / 1024 * (1024 / w) + i % (1024 / w)) 0 from congrArg (List.getD _ · 0) hsplit,
    flatMap_getD (fun r => by simp) hreg hlow, range_map_getD hlow, (elem_place hw hd i).2, List.getD_eq_getElem _ _ hreg]

/-- A packed row holds its elements, cut to their width. -/
theorem packRow_elem {xs : List Nat} {i : Nat} (hi : i < g * (1024 / w)) :
    field ((packRow w g xs).getD (i * w / 1024) 0) (i * w % 1024) w = xs.getD i 0 % 2 ^ w := by
  have hlow := Nat.mod_lt i (lanes_pos hw hd)
  have hfits : i * w % 1024 + w ≤ 1024 := by
    rw [(elem_place hw hd i).2, ← Nat.succ_mul]
    calc (i % (1024 / w) + 1) * w ≤ 1024 / w * w := Nat.mul_le_mul_right _ hlow
      _ = 1024 := Nat.div_mul_cancel hd
  rw [packRow_getD (elem_reg_lt hw hd hi), field_ofNat hfits, (elem_place hw hd i).1, (elem_place hw hd i).2, packNat_elem, block_getD hlow,
    Nat.mul_comm (i / _), Nat.div_add_mod]

end

/-! ## Rows of a result -/

/-- The registers of a result: row after row, each element as `f` has it, over what D holds (R186). -/
def State.resultTile (s : State) (d gd w : Nat) (f : Nat → Nat → Elem) : List VReg :=
  (range 0 s.me.csr.rows).flatMap (fun j => (resultRow s.me (decide (112 ≤ d)) gd w (s.tileValue d gd) f j).1)

section
variable {s : State} {h : Hart} {d gd w : Nat} {f : Nat → Nat → Elem} {q : Bool} {old : List VReg}

theorem resultRow_length {j : Nat} : (resultRow h q gd w old f j).1.length = gd := packRow_length

theorem resultTile_length : (s.resultTile d gd w f).length = s.me.csr.rows * gd := by
  unfold State.resultTile
  simp [List.length_flatMap, resultRow_length]

theorem rowRegs_resultTile {j : Nat} (hj : j < s.me.csr.rows) :
    rowRegs (s.resultTile d gd w f) gd j = (resultRow s.me (decide (112 ≤ d)) gd w (s.tileValue d gd) f j).1 := by
  unfold rowRegs State.resultTile
  rw [flatMap_block (fun _ => resultRow_length) (by simpa using hj), range_getElem, Nat.zero_add]

variable (hw : 0 < w) (hd : w ∣ 1024)

include hd in
theorem lanes_eq : gd * 1024 / w = gd * (1024 / w) := Nat.mul_div_assoc _ hd

include hd in
/-- The flags of a row are those of its elements. -/
theorem resultRow_flags {j : Nat} :
    (resultRow h q gd w old f j).2 = (range 0 (gd * (1024 / w))).foldl (fun b i => b ||| (f j i).flags) 0 := by
  unfold resultRow
  dsimp only
  rw [List.foldl_map, lanes_eq hd]
  congr 1
  funext b i
  cases f j i <;> rfl

include hw hd in
/-- An element of a result row, over the old value `o` of its place. -/
theorem resultRow_elem {j i o : Nat} (hi : i < gd * (1024 / w)) (ho : (if q then [] else unpackRow w (rowRegs old gd j)).getD i 0 = o) (hlt : o < 2 ^ w) :
    field ((resultRow s.me q gd w old f j).1.getD (i * w / 1024) 0) (i * w % 1024) w = s.elemAfter w f j i o := by
  unfold resultRow State.elemAfter
  dsimp only
  rw [packRow_elem hw hd hi, List.map_map, lanes_eq hd, range_map_getD hi]
  dsimp only [Function.comp]
  rw [ho]
  cases f j i with
  | value v fl => rfl
  | inactive => dsimp only; split <;> simp [Nat.mod_eq_of_lt hlt]
  | kept => exact Nat.mod_eq_of_lt hlt

include hw hd in
/-- An element of a result (R186). -/
theorem elemAt_resultTile {j i : Nat} (hj : j < s.me.csr.rows) (hi : i < gd * (1024 / w)) :
    elemAt (s.resultTile d gd w f) gd w j i = s.elemAfter w f j i (if d < 112 then elemAt (s.tileValue d gd) gd w j i else 0) := by
  rw [elemAt_rowRegs hw hd hi, rowRegs_resultTile hj, resultRow_elem hw hd hi _ _]
  · by_cases hn : d < 112
    · have hlen : (s.tileValue d gd).length = s.me.csr.rows * gd := by simp [State.tileValue, hn]
      have hrow : (rowRegs (s.tileValue d gd) gd j).length = gd := by
        have : (j + 1) * gd ≤ s.me.csr.rows * gd := Nat.mul_le_mul_right _ hj
        rw [Nat.succ_mul] at this
        simp [rowRegs, hlen]
        omega
      simp only [hn, Nat.not_le.2 hn, decide_false, Bool.false_eq_true, if_false, if_true]
      rw [unpackRow_getD hw hd (by rwa [hrow]), ← elemAt_rowRegs hw hd hi]
    · simp [hn, Nat.le_of_not_lt hn]
  · split
    · exact elemAt_lt
    · exact Nat.two_pow_pos w

end

end Sys2Proof.Machine

end

section
/-! PROOFS. Where the rows of a result go (R18, R186): into the registers of a tile, or row by row onto a queue; VSTART becomes 0, and the flags of the elements
wait in the saved operand state for retirement. -/

namespace Sys2Proof.Machine

open Sys2Proof

/-! ## A row pushed -/

theorem foldl_or {α : Type} {g : α → Nat} {l : List α} {a : Nat} : l.foldl (fun a x => a ||| g x) a = a ||| l.foldl (fun a x => a ||| g x) 0 := by
  induction l generalizing a with
  | nil => simp
  | cons x l ih => rw [List.foldl_cons, List.foldl_cons, ih, ih (a := 0 ||| g x), Nat.zero_or, Nat.or_assoc]

theorem sparseGet_set_listed {β : Type} [DecidableEq β] {d x : β} (hx : x ≠ d) (l : List (Nat × β)) (i : Nat) : sparseGet d (sparseSet d l i x) i = x := by
  induction l with
  | nil => simp [sparseSet, sparseGet, hx]
  | cons e r ih =>
    obtain ⟨k, v⟩ := e
    unfold sparseSet
    rw [if_neg hx]
    split_ifs with h1 h2
    · simp [sparseGet]
    · simp [sparseGet]
    · simp [sparseGet, h2, ih]

/-- Values changed under some keys, none of them in its entries, leave the entries under every key. -/
theorem sparseGet_map_items {α : Type} {p : Nat → Bool} {f : Fifo α → Fifo α} (hf : ∀ x, (f x).items = x.items) {l : List (Nat × Fifo α)} {q : Nat} :
    (sparseGet {} (l.map (fun e => if p e.1 then (e.1, f e.2) else e)) q).items = (sparseGet {} l q).items := by
  induction l with
  | nil => rfl
  | cons e l ih =>
    obtain ⟨k, v⟩ := e
    by_cases hp : p k = true <;> by_cases hk : q = k <;> simp_all [sparseGet]

/-- Slots that are freed change no entry of a queue (R183). -/
theorem freeSpent_items {t : Tandem} {b : Bool} {q : Nat} : ((freeSpent t b).vfifo q).items = (t.vfifo q).items :=
  sparseGet_map_items (p := fun q => if b then decide (8 ≤ q) else decide (q < 8)) (f := fun x => x.freed 16) (fun _ => rfl)

theorem Fifo.push_items {α : Type} {f : Fifo α} {pc : Word} {b : Bool} {xs : List α} : (f.push pc b xs).items = f.items ++ xs := by
  unfold Fifo.push
  split <;> rfl

section
variable {s t : State} {d gd : Nat} {o : Option Saved} {n : Word} {xs : List VReg}

theorem rowPut_items (hx : xs ≠ []) : ((t.rowPut d xs).tan.vfifo (d - 112)).items = (t.tan.vfifo (d - 112)).items ++ xs := by
  have hne : ∀ (u : Fifo VReg) (pc : Word) (b : Bool), u.push pc b xs ≠ ({} : Fifo VReg) := fun u pc b h => by
    have hitems := congrArg Fifo.items h
    rw [Fifo.push_items] at hitems
    simp [hx] at hitems
  unfold State.rowPut
  dsimp only
  show (sparseGet ({} : Fifo VReg) (sparseSet {} _ _ _) _).items = _
  rw [sparseGet_set_listed (hne _ _ _), Fifo.push_items]
  unfold State.spoilStrip
  dsimp only
  rw [freeSpent_items]
  split
  · unfold State.spoilPeer
    dsimp only
    rw [freeSpent_items]
  · rfl

/-- A row for which the queue has room is pushed (R18). -/
theorem pushVector_midway (hroom : (t.tan.vfifo (d - 112)).items.length + xs.length ≤ 16) :
    pushVector d xs (t.midway o n) = .ok () ((t.rowPut d xs).midway o n) := by
  unfold pushVector State.rowPut
  dsimp only
  rw [if_neg (show ¬ 16 < ((t.midway o n).tan.vfifo (d - 112)).items.length + xs.length from Nat.not_lt.2 hroom)]
  by_cases hslots : 16 < (t.tan.vfifo (d - 112)).items.length + (t.tan.vfifo (d - 112)).spent.length + xs.length
  · rw [if_pos hslots, if_pos (show 16 < ((t.midway o n).tan.vfifo (d - 112)).items.length + ((t.midway o n).tan.vfifo (d - 112)).spent.length + xs.length from hslots)]
    rfl
  · rw [if_neg hslots, if_neg (show ¬ 16 < ((t.midway o n).tan.vfifo (d - 112)).items.length + ((t.midway o n).tan.vfifo (d - 112)).spent.length + xs.length from hslots)]
    rfl

/-- Rows for all of which the queue has room are pushed in order, each with its flags kept (R18, R186). -/
theorem pushRows_midway (hg : 0 < gd) {vl : Nat} : ∀ {l : List (List VReg × Nat)} {t : State} {o : Option Saved} {n : Word} {j : Nat},
    (∀ r ∈ l, r.1.length = gd) → (t.tan.vfifo (d - 112)).items.length + l.length * gd ≤ 16 →
    ∃ p m, pushRows d vl j l (t.midway o n) = .ok () (((l.map (·.1)).foldl (State.rowPut d) t).midway p m) ∧
      savedFlags p = savedFlags o ||| BitVec.ofNat 64 (l.foldl (fun a r => a ||| r.2) 0) := by
  intro l
  induction l with
  | nil => exact fun _ _ => ⟨_, _, rfl, by simp⟩
  | cons r l ih =>
    obtain ⟨regs, fl⟩ := r
    intro t o n j hlen hroom
    have hregs : regs.length = gd := hlen (regs, fl) (by simp)
    have hroom' : (t.tan.vfifo (d - 112)).items.length + gd + l.length * gd ≤ 16 := by
      rw [List.length_cons, Nat.succ_mul] at hroom
      omega
    have hitems := rowPut_items (t := t) (d := d) (xs := regs) (by rintro rfl; simp at hregs; omega)
    have hnext := fun o n => ih (t := t.rowPut d regs) (o := o) (n := n) (j := j + 1) (fun r hr => hlen r (by simp [hr])) (by rw [hitems]; simp [hregs]; omega)
    obtain ⟨o1, hraise, hflags⟩ := raiseSaved_midway (t := t) (o := o) (n := n) fl
    unfold pushRows
    rw [exec_bind_ok hraise, exec_bind_ok (modSaved_midway _), exec_bind_ok (setVstart_midway _),
      exec_bind_ok (pushVector_midway (by rw [hregs]; omega)), exec_bind_ok (modSaved_midway _)]
    obtain ⟨p, m, hpush, hp⟩ := hnext _ _
    refine ⟨p, m, hpush, hp.trans ?_⟩
    rw [List.foldl_cons, Nat.zero_or, foldl_or (a := fl), BitVec.ofNat_or, ← BitVec.or_assoc, ← hflags]
    cases o1 <;> rfl

end

section
variable {s t : State} {d gd w : Nat} {o : Option Saved} {n : Word} {f : Nat → Nat → Elem}

/-! ## A tile written -/

theorem writeTile_midway {h : Hart} {xs : List VReg} : writeTile d xs (h.midway o n) = (writeTile d xs h).midway o n := by
  unfold writeTile
  generalize (range 0 xs.length).zip xs = l
  induction l generalizing h with
  | nil => rfl
  | cons e l ih => exact ih (h := h.writeV (d + e.1) e.2)

/-- What stands once the rows of a result are where they go: VSTART is 0. -/
theorem tilePut_midway {p : Option Saved} {xs : List VReg} :
    { t.tilePut d gd xs with me := (t.tilePut d gd xs).me.withSaved p } =
      (if d < 112 then (if t.me.csr.len = 0 then t else { t with me := writeTile d xs t.me })
        else ((range 0 t.me.csr.rows).map (rowRegs xs gd)).foldl (State.rowPut d) t).midway p 0 := by
  rw [Hart.withSaved_eq_midway]
  rfl

/-- The flags of a result are those of its rows. -/
theorem flagsOf_rows (hd : w ∣ 1024) {q : Bool} {old : List VReg} :
    t.flagsOf (gd * (1024 / w)) f = ((range 0 t.me.csr.rows).map (resultRow t.me q gd w old f)).foldl (fun a r => a ||| r.2) 0 := by
  unfold State.flagsOf
  rw [List.foldl_map]
  simp only [resultRow_flags hd]

/-- A row of a result looks at IP only. -/
theorem resultRow_midway {q : Bool} {old : List VReg} : resultRow (t.me.midway o n) q gd w old f = resultRow t.me q gd w old f := rfl

/-- The rows of a result are written to the registers of a tile, unless VL is 0 (R186). -/
theorem putRows_tile (ho : OperandsOnly o) (hn : d < 112) (hd : w ∣ 1024) (hz : t.me.csr.len = 0 → t.flagsOf (gd * (1024 / w)) f = 0) :
    ∃ p, savedFlags p = BitVec.ofNat 64 (t.flagsOf (gd * (1024 / w)) f) ∧ putRows d gd w f (t.midway o n) =
      .ok () ((if t.me.csr.len = 0 then t else { t with me := writeTile d (t.resultTile d gd w f) t.me }).midway p 0) := by
  unfold putRows
  rw [exec_getState_bind]
  simp only [hn, if_true]
  by_cases hlen : t.me.csr.len = 0
  · rw [if_pos (show (t.midway o n).me.csr.len = 0 from hlen), hz hlen, if_pos hlen]
    exact ⟨o, ho.savedFlags, rfl⟩
  · rw [if_neg (show ¬(t.midway o n).me.csr.len = 0 from hlen), if_neg hlen]
    have hres : t.resultTile d gd w f = ((range 0 t.me.csr.rows).map (resultRow t.me false gd w (t.tileValue d gd) f)).flatMap (·.1) := by
      unfold State.resultTile
      rw [decide_eq_false (Nat.not_le.2 hn), List.flatMap_map]
    have hold : t.tileValue d gd = (range 0 (t.me.csr.rows * gd)).map (fun k => t.me.readV (d + k)) := if_pos hn
    obtain ⟨p, hraise, hp⟩ := raiseSaved_midway (t := { t with me := writeTile d (t.resultTile d gd w f) t.me }) (o := o) (n := n)
      (t.flagsOf (gd * (1024 / w)) f)
    have hwrite : modMe (writeTile d (t.resultTile d gd w f)) (t.midway o n) =
        .ok () (State.midway { t with me := writeTile d (t.resultTile d gd w f) t.me } o n) := by
      rw [modMe_run]
      exact congrArg (fun h => EStateM.Result.ok () { t with me := h }) writeTile_midway
    rw [flagsOf_rows hd (q := false) (old := t.tileValue d gd)] at hraise hp ⊢
    rw [hres, hold] at hwrite hraise ⊢
    rw [hold, ho.savedFlags] at hp
    exact ⟨p, hp.trans BitVec.zero_or, (exec_bind_ok hwrite).trans ((exec_bind_ok hraise).trans rfl)⟩

/-- The rows of a result are pushed to a queue that has room for all of them (R18). -/
theorem putRows_queue (ho : OperandsOnly o) (hn : ¬d < 112) (hg : 0 < gd) (hd : w ∣ 1024) (hroom : (t.tan.vfifo (d - 112)).items.length + t.me.csr.rows * gd ≤ 16) :
    ∃ p, savedFlags p = BitVec.ofNat 64 (t.flagsOf (gd * (1024 / w)) f) ∧ putRows d gd w f (t.midway o n) =
      .ok () ((((range 0 t.me.csr.rows).map (rowRegs (t.resultTile d gd w f) gd)).foldl (State.rowPut d) t).midway p 0) := by
  have hsaved : (t.midway o n).me.savedOr = o.getD { pc := t.me.pc } := Hart.midway_savedOr
  obtain ⟨-, -, -, hrows, hfull, -⟩ := ho.getD (pc := t.me.pc) _ rfl
  have hstaged : pushStaged d (t.midway o n) = .ok () (t.midway o n) := by
    unfold pushStaged
    rw [exec_getState_bind, hsaved, hfull]
    rfl
  obtain ⟨p, m, hpush, hp⟩ := pushRows_midway (d := d) hg (vl := t.me.csr.len) (l := (range 0 t.me.csr.rows).map (resultRow t.me true gd w [] f)) (t := t) (o := o) (n := n)
    (j := 0) (fun r hr => by obtain ⟨j, -, rfl⟩ := List.mem_map.1 hr; exact resultRow_length) (by simpa using hroom)
  rw [← flagsOf_rows hd, ho.savedFlags] at hp
  have hrowsOf : ((range 0 t.me.csr.rows).map (resultRow t.me true gd w [] f)).map (·.1) = (range 0 t.me.csr.rows).map (rowRegs (t.resultTile d gd w f) gd) := by
    rw [List.map_map]
    refine List.map_congr_left fun j hj => ?_
    have hj' : j < t.me.csr.rows := by simpa using range_lt hj
    rw [rowRegs_resultTile hj', decide_eq_true (Nat.le_of_not_lt hn)]
    rfl
  rw [hrowsOf] at hpush
  refine ⟨p, hp.trans BitVec.zero_or, ?_⟩
  unfold putRows
  rw [exec_getState_bind]
  simp only [hn, if_false]
  rw [exec_bind_ok hstaged, exec_getState_bind, hsaved, hrows]
  exact (exec_bind_ok hpush).trans rfl

/-- A result for which D has room: its tile stands in D, and its flags wait for retirement (R18, R186). -/
theorem putRows_room (ho : OperandsOnly o) (hr : t.tileRoom d gd) (hg : 0 < gd) (hd : w ∣ 1024) (hz : t.me.csr.len = 0 → t.flagsOf (gd * (1024 / w)) f = 0) :
    ∃ p, savedFlags p = BitVec.ofNat 64 (t.flagsOf (gd * (1024 / w)) f) ∧
      putRows d gd w f (t.midway o n) = .ok () { t.tilePut d gd (t.resultTile d gd w f) with me := (t.tilePut d gd (t.resultTile d gd w f)).me.withSaved p } := by
  obtain ⟨-, -, hroom⟩ := hr
  simp only [tilePut_midway]
  by_cases hn : d < 112
  · simpa only [hn, if_true] using putRows_tile ho hn hd hz
  · simpa only [hn, if_false] using putRows_queue ho hn hg hd (hroom.resolve_left hn)

end

end Sys2Proof.Machine

end

section
/-! PROOFS. An instruction that gives a tile retires with it (R180, R186): what its body leaves is what `State.retiresTile` says. -/

namespace Sys2Proof.Machine

open Sys2Proof

section
variable {s t u : State} {d a b gd g w : Nat} {m : Bool} {o : Option Saved} {i : Instr} {body : Exec Unit} {f : Nat → Nat → Elem} {op : Nat → Nat × Nat}
  {val : Nat → Nat → Nat × Nat}

/-! ## Retirement -/

/-- A vector instruction that starts here runs its body once, from the state as it is. -/
theorem State.vectorHere.runVector_eq (hv : s.vectorHere) (hb : body s = .ok () u) : runVector body s = .next (retire s (s.me.pc + 4) u) := by
  obtain ⟨hrck, -, hsaved⟩ := hv
  have hcount : countCovered s = s := if_neg (by rw [hrck]; rintro ⟨⟨⟩, -⟩)
  have hwait : recheckWait s = none := if_pos hrck
  have hbegin : beginVector s = s := by unfold beginVector; rw [hsaved]
  unfold runVector
  dsimp only
  rw [hcount, hwait]
  dsimp only [runKeep]
  rw [hbegin, hb]

theorem elemAfter_congr (h : t.me = s.me) {j k x : Nat} : t.elemAfter w f j k x = s.elemAfter w f j k x := by unfold State.elemAfter; rw [h]
theorem flagsOf_congr (h : t.me = s.me) {n : Nat} : t.flagsOf n f = s.flagsOf n f := by unfold State.flagsOf; rw [h]
theorem tileValue_congr (h : t.me = s.me) (hd : d < 112) : t.tileValue d g = s.tileValue d g := by unfold State.tileValue; rw [if_pos hd, if_pos hd, h]
theorem each_congr (h : t.me = s.me) : t.each m val = s.each m val := by unfold State.each; rw [h]

theorem foldl_or_zero {α : Type} {g : α → Nat} (h : ∀ x, g x = 0) (l : List α) : l.foldl (fun a x => a ||| g x) 0 = 0 := by
  induction l with
  | nil => rfl
  | cons x l ih => rw [List.foldl_cons, h]; exact ih

theorem flagsOf_zero {n : Nat} (h : ∀ j k, (f j k).flags = 0) : s.flagsOf n f = 0 := foldl_or_zero (fun j => foldl_or_zero (h j) _) _

/-- A body that puts a result retires with its tile. -/
theorem retiresTile_of_putRows (hi : exec i s = runVector body s) (hv : s.vectorHere) (hme : t.me = s.me) (ho : OperandsOnly o) (hr : t.tileRoom d gd) (hg : 0 < gd)
    (hw : 0 < w) (hd : w ∣ 1024) (hz : s.me.csr.len = 0 → ∀ j k, (f j k).flags = 0) (hb : body s = putRows d gd w f (t.midway o s.me.csr.vstart)) :
    s.retiresTile i t d gd w f := by
  obtain ⟨p, hp, hput⟩ := putRows_room (n := s.me.csr.vstart) ho hr hg hd (fun h => flagsOf_zero (hz (hme ▸ h)))
  refine ⟨t.resultTile d gd w f, by rw [resultTile_length, hme], fun j hj k hk => ?_, p, by rw [← flagsOf_congr hme]; exact hp,
    hi.trans (hv.runVector_eq (hb.trans hput))⟩
  rw [elemAt_resultTile hw hd (by rwa [hme]) hk, elemAfter_congr hme]
  split
  next hn => rw [tileValue_congr hme hn]
  · rfl

/-! ## Elementwise results -/

theorem index_div_mod {vl j k : Nat} (hk : k < vl) : (j * vl + k) / vl = j ∧ (j * vl + k) % vl = k := by
  rw [Nat.add_comm, Nat.add_mul_div_right _ _ (by omega), Nat.div_eq_of_lt hk, Nat.add_mul_mod_self_right, Nat.mod_eq_of_lt hk, Nat.zero_add]
  exact ⟨rfl, rfl⟩

/-- Element k of row j stands at its linear index (R12). -/
theorem elemLin_index {regs : List VReg} {vl j k : Nat} (hk : k < vl) : elemLin regs g w vl (j * vl + k) = elemAt regs g w j k := by
  unfold elemLin
  rw [(index_div_mod hk).1, (index_div_mod hk).2]

theorem predBit_index {q : PReg} {vl j k : Nat} (hk : k < vl) : predBit q vl (j * vl + k) = q.getLsbD (1024 * j + k) := by
  unfold predBit
  rw [(index_div_mod hk).1, (index_div_mod hk).2, Nat.mul_comm]

theorem each_flags_zero (h : s.me.csr.len = 0) (j k : Nat) : (s.each m val j k).flags = 0 := by
  unfold State.each
  rw [if_pos (by omega)]
  rfl

/-- The scheme of R186 by linear index is that by rows and lanes. -/
theorem elementwiseAt_eq_each (ho : OperandsOnly o) {n : Word} (hn : n = t.me.csr.vstart) (hop : ∀ j, ∀ k < t.me.csr.len, op (j * t.me.csr.len + k) = val j k) :
    withTail t.me.csr.len (elementwiseAt (t.me.midway o n) m op) = t.each m val := by
  subst hn
  funext j k
  unfold withTail State.each
  by_cases hk : k < t.me.csr.len
  · rw [if_pos hk, if_neg (Nat.not_le.2 hk)]
    unfold elementwiseAt
    have hactive : (t.me.midway o t.me.csr.vstart).active m (j * t.me.csr.len + k) = (!m || (t.me.readP 0).getLsbD (1024 * j + k)) := by
      unfold Hart.active
      rw [ho.issued, ← predBit_index hk]
      rfl
    rw [hactive, hop j k hk]
    show (if j * t.me.csr.len + k < t.me.csr.start then _ else _) = _
    cases m <;> simp
  · rw [if_neg hk, if_pos (Nat.le_of_not_lt hk)]

/-- An elementwise member retires with its tile (R186). -/
theorem retiresTile_of_elementwise (hi : exec i s = runVector body s) (hv : s.vectorHere) (hme : t.me = s.me) (ho : OperandsOnly o) (hr : t.tileRoom d gd) (hg : 0 < gd)
    (hw : 0 < w) (hd : w ∣ 1024) (hop : ∀ j, ∀ k < s.me.csr.len, op (j * s.me.csr.len + k) = val j k)
    (hb : body s = elementwise d gd w m op (t.midway o s.me.csr.vstart)) : s.retiresTile i t d gd w (s.each m val) := by
  have heach := elementwiseAt_eq_each (t := t) (m := m) ho (congrArg (fun h => h.csr.vstart) hme.symm) (by rwa [hme])
  refine retiresTile_of_putRows hi hv hme ho hr hg hw hd each_flags_zero (hb.trans ?_)
  rw [← each_congr hme, ← heach]
  rfl

end

/-! ## Bodies with two operands -/

/-- The CSRs and the draws of `u` are those of `s`: what an element becomes does not depend on which of them computes it. -/
def State.computesAs (u s : State) : Prop := u.me.csr = s.me.csr ∧ ∀ e, u.rounding e = s.rounding e

theorem midway_computesAs {s t : State} {o : Option Saved} (hme : t.me = s.me) (hs : s.me.savedNow = none) (ho : OperandsOnly o) (hr : ∀ e, t.rounding e = s.rounding e) :
    (t.midway o s.me.csr.vstart).computesAs s := by
  refine ⟨?_, fun e => (ho.rounding (hme ▸ hs) e).trans (hr e)⟩
  show { t.me.csr with vstart := s.me.csr.vstart } = s.me.csr
  rw [hme]

theorem Csr.grp_pos {c : Csr} : 0 < c.grp := Nat.two_pow_pos _
theorem Csr.sew_pos {c : Csr} : 0 < c.sew := Nat.mul_pos (by omega) (Nat.two_pow_pos _)

/-- SEW is 8, 16, 32 or 64. -/
theorem Csr.sew_cases (c : Csr) : c.sew = 8 ∨ c.sew = 16 ∨ c.sew = 32 ∨ c.sew = 64 := by
  have hlt : field c.vtype 0 2 < 2 ^ 2 := field_lt _ _ _
  unfold Csr.sew
  interval_cases field c.vtype 0 2 <;> simp

theorem Csr.sew_dvd {c : Csr} : c.sew ∣ 1024 := by
  rcases c.sew_cases with h | h | h | h <;> rw [h] <;> decide

section
variable {s : State} {d a b : BitVec 7} {m : BitVec 1} {f : State → Nat → Nat → Nat → Nat × Nat} {i : Instr} {body : Exec Unit} {val : Nat → Nat → Nat → Nat → Nat × Nat}

theorem checkTwo_ok (h : Claims.tiles2 s d.toNat a.toNat b.toNat) : checkTwo d a b s = .ok () s := by
  obtain ⟨hv, hblk, ⟨ha, hfa, -⟩, ⟨hb, hfb, -⟩, ⟨hd, hfd, -⟩, hda, hdb⟩ := h
  rw [tileTaken_srcOk] at hb
  rw [tileTaken_dstOk, tileTaken_dstOk] at hd
  rw [tileFits_congr State.tileTaken_me] at hfb
  rw [tileFits_congr (State.tileTaken_me.trans State.tileTaken_me)] at hfd
  unfold checkTwo
  rw [exec_getState_bind, exec_bind_ok hv.coreOnly_ok, exec_bind_ok (checkTileSrc_ok ha hfa), exec_bind_ok (checkTileSrc_ok hb hfb), exec_bind_ok (checkTileDst_ok hd hfd),
    exec_bind_ok (checkUnscaled_ok hblk), exec_bind_ok (checkOverlap_ok (hda.imp_left (⟨·, rfl⟩)))]
  exact checkOverlap_ok (hdb.imp_left (⟨·, rfl⟩))

theorem checkOne_of (hv : s.vectorHere) (hblk : s.me.csr.blk = 0) (ha : s.srcOk a.toNat) (hfa : s.tileFits a.toNat s.me.csr.grp) (hd : s.dstOk d.toNat)
    (hfd : s.tileFits d.toNat s.me.csr.grp) (hda : d.toNat = a.toNat ∨ s.apart d.toNat s.me.csr.grp a.toNat s.me.csr.grp) : checkOne d a s = .ok () s := by
  unfold checkOne
  rw [exec_getState_bind, exec_bind_ok hv.coreOnly_ok, exec_bind_ok (checkTileSrc_ok ha hfa), exec_bind_ok (checkTileDst_ok hd hfd), exec_bind_ok (checkUnscaled_ok hblk)]
  exact checkOverlap_ok (hda.imp_left (⟨·, rfl⟩))

theorem checkOne_scalar (h : Claims.tileScalar s d.toNat a.toNat b.toNat) : checkOne d a s = .ok () s := by
  obtain ⟨hv, hblk, ⟨ha, hfa, -⟩, -, -, ⟨hd, hfd, -⟩, hda⟩ := h
  rw [srcTaken_dstOk, tileTaken_dstOk] at hd
  rw [tileFits_congr ((srcTaken_me _ _).trans State.tileTaken_me)] at hfd
  exact checkOne_of hv hblk ha hfa hd hfd hda

theorem checkOne_ok (h : Claims.tiles1 s d.toNat a.toNat) : checkOne d a s = .ok () s := by
  obtain ⟨hv, hblk, ⟨ha, hfa, -⟩, ⟨hd, hfd, -⟩, hda⟩ := h
  rw [tileTaken_dstOk] at hd
  rw [tileFits_congr State.tileTaken_me] at hfd
  exact checkOne_of hv hblk ha hfa hd hfd hda

/-- The first tile that an instruction reads. -/
theorem readTile_first {c g : Nat} (hs : s.me.savedNow = none) (h : s.tileHere c g) :
    ∃ p, OperandsOnly p ∧ readTile c g s = .ok (s.tileValue c g) ((s.tileTaken c g).midway p s.me.csr.vstart) ∧
      ((s.tileTaken c g).midway p s.me.csr.vstart).computesAs s := by
  obtain ⟨p, hp, hread⟩ := readTile_here (k := s.me.csr.vstart) operandsOnly_none h
  rw [State.midway_self hs] at hread
  exact ⟨p, hp, hread, midway_computesAs State.tileTaken_me hs hp tileTaken_rounding⟩

/-- A tile read in the width in force. -/
theorem readTile_inForce {u v : State} {c g : Nat} {x : List VReg} (hg : u.me.csr.grp = g) (h : readTile c g u = .ok x v) :
    (do let s ← getState; readTile c s.me.csr.grp : Exec (List VReg)) u = .ok x v := by
  subst hg
  exact h

/-- What an instruction with two operands does once it has them, and that it retires with its tile (R186). -/
theorem retiresTile_of_pair {t : State} {o : Option Saved} {x : List VReg} {y : Nat → Nat} {v : Nat → Nat → Nat} (hi : exec i s = runVector body s) (hv : s.vectorHere)
    (hme : t.me = s.me) (hround : ∀ e, t.rounding e = s.rounding e) (ho : OperandsOnly o) (hr : t.tileRoom d.toNat s.me.csr.grp)
    (hy : ∀ j, ∀ k < s.me.csr.len, y (Claims.index s j k) = v j k) (hlt : ∀ j k, v j k < 2 ^ s.me.csr.sew)
    (hf : ∀ u : State, u.computesAs s → ∀ j k, ∀ x < 2 ^ s.me.csr.sew, ∀ y < 2 ^ s.me.csr.sew, f u (Claims.index s j k) x y = val j k x y)
    (hb : body s = elementwise d.toNat s.me.csr.grp s.me.csr.sew (m == 1)
      (fun e => f (t.midway o s.me.csr.vstart) e (elemLin x s.me.csr.grp s.me.csr.sew s.me.csr.len e) (y e)) (t.midway o s.me.csr.vstart)) :
    s.retiresTile i t d.toNat s.me.csr.grp s.me.csr.sew (s.each (m == 1) (fun j k => val j k (elemAt x s.me.csr.grp s.me.csr.sew j k) (v j k))) := by
  refine retiresTile_of_elementwise hi hv hme ho hr Csr.grp_pos Csr.sew_pos Csr.sew_dvd (fun j k hk => ?_) hb
  show f _ (Claims.index s j k) _ (y (Claims.index s j k)) = _
  rw [hy j k hk, elemLin_index hk]
  exact hf _ (midway_computesAs hme hv.2.2 ho hround) j k _ elemAt_lt _ (hlt j k)

theorem elem2_eq {a b j k : Nat} :
    Claims.elem2 s a b j k = elemAt ((s.tileTaken a s.me.csr.grp).tileValue b s.me.csr.grp) s.me.csr.grp s.me.csr.sew j k := by
  unfold Claims.elem2 Claims.elem
  rw [State.tileTaken_me]

/-- A member with two tiles retires with its tile (R186, R188, R189). -/
theorem vecVV_retires (h : Claims.tiles2 s d.toNat a.toNat b.toNat) (hi : exec i s = runVector body s) (hb : body s = vecVV f d a b m s)
    (hf : ∀ u : State, u.computesAs s → ∀ j k, ∀ x < 2 ^ s.me.csr.sew, ∀ y < 2 ^ s.me.csr.sew, f u (Claims.index s j k) x y = val j k x y) :
    s.retiresTile i ((s.tileTaken a.toNat s.me.csr.grp).tileTaken b.toNat s.me.csr.grp) d.toNat s.me.csr.grp s.me.csr.sew
      (s.each (m == 1) (fun j k => val j k (Claims.elem s a.toNat j k) (Claims.elem2 s a.toNat b.toNat j k))) := by
  obtain ⟨hv, -, ha, hb', hd, -⟩ := h
  have hme : (s.tileTaken a.toNat s.me.csr.grp).me = s.me := State.tileTaken_me
  have hme2 : ((s.tileTaken a.toNat s.me.csr.grp).tileTaken b.toNat s.me.csr.grp).me = s.me := State.tileTaken_me.trans hme
  obtain ⟨p, hp, hfirst, -⟩ := readTile_first hv.2.2 ha
  obtain ⟨q, hq, hsecond⟩ := readTile_here (k := s.me.csr.vstart) hp hb'
  have hround := fun e => (tileTaken_rounding (s := s.tileTaken a.toNat s.me.csr.grp) (n := b.toNat) (g := s.me.csr.grp) e).trans (tileTaken_rounding e)
  have hcsr := (midway_computesAs hme2 hv.2.2 hq hround).1
  refine retiresTile_of_pair hi hv hme2 hround hq hd (fun j k hk => ?_) (fun j k => ?_) hf (hb.trans ?_)
    (y := fun e => elemLin ((s.tileTaken a.toNat s.me.csr.grp).tileValue b.toNat s.me.csr.grp) s.me.csr.grp s.me.csr.sew s.me.csr.len e)
  · rw [elem2_eq]
    exact elemLin_index hk
  · rw [elem2_eq]
    exact elemAt_lt
  · unfold vecVV
    rw [exec_bind_ok (readTile_inForce rfl hfirst), exec_bind_ok (readTile_inForce (congrArg (fun h => h.csr.grp) hme) hsecond), exec_getState_bind, hcsr]

/-- A member with a tile and a scalar retires with its tile (R185, R186, R188, R189). -/
theorem vecVS_retires (h : Claims.tileScalar s d.toNat a.toNat b.toNat) (hi : exec i s = runVector body s) (hb : body s = vecVS f d a b m s)
    (hf : ∀ u : State, u.computesAs s → ∀ j k, ∀ x < 2 ^ s.me.csr.sew, ∀ y < 2 ^ s.me.csr.sew, f u (Claims.index s j k) x y = val j k x y) :
    s.retiresTile i ((s.tileTaken a.toNat s.me.csr.grp).srcTaken b.toNat) d.toNat s.me.csr.grp s.me.csr.sew
      (s.each (m == 1) (fun j k => val j k (Claims.elem s a.toNat j k) (Claims.scalar2 s a.toNat b.toNat))) := by
  obtain ⟨hv, -, ha, -, hb', hd, -⟩ := h
  have hme2 : ((s.tileTaken a.toNat s.me.csr.grp).srcTaken b.toNat).me = s.me := (srcTaken_me _ _).trans State.tileTaken_me
  obtain ⟨p, hp, hfirst, -⟩ := readTile_first hv.2.2 ha
  obtain ⟨q, hq, hsecond⟩ := vecValue_here (k := s.me.csr.vstart) hp hb'
  have hround := fun e => (srcTaken_rounding (s := s.tileTaken a.toNat s.me.csr.grp) (n := b.toNat) e).trans (tileTaken_rounding e)
  have hcsr := (midway_computesAs hme2 hv.2.2 hq hround).1
  refine retiresTile_of_pair hi hv hme2 hround hq hd (fun _ _ _ => rfl) (fun _ _ => Nat.mod_lt _ (Nat.two_pow_pos _)) hf (hb.trans ?_)
    (y := fun _ => Claims.scalar2 s a.toNat b.toNat)
  unfold vecVS
  rw [exec_bind_ok (readTile_inForce rfl hfirst), exec_bind_ok hsecond, exec_getState_bind, hcsr]
  rfl

end
end Sys2Proof.Machine
end

section
/-! PROOFS. Integer and floating vector members (O26): what each computes for one element is the value of its table (R188–R192), and its body checks, reads and puts
as the members of its form do. -/

namespace Sys2Proof.Machine

open Sys2Proof

/-! ## Values of integer elements (R188) -/

section
variable {w : Nat} {x y : BitVec w}

theorem toSigned_toNat (hw : 0 < w) : toSigned w x.toNat = x.toInt := by
  have hpow : 2 ^ w = 2 * 2 ^ (w - 1) := by rw [← Nat.pow_succ', Nat.succ_eq_add_one, Nat.sub_add_cancel hw]
  unfold toSigned
  rw [BitVec.toInt_eq_toNat_cond, Nat.mod_eq_of_lt x.isLt]
  by_cases h : x.toNat < 2 ^ (w - 1)
  · exact (if_pos h).trans (if_pos (by omega)).symm
  · refine (if_neg h).trans (Eq.trans ?_ (if_neg (by omega)).symm)
    norm_cast

theorem ofSigned_eq (i : Int) : ofSigned w i = (BitVec.ofInt w i).toNat := by
  rw [BitVec.toNat_ofInt]
  unfold ofSigned
  norm_cast

/-- The upper half of a signed product. -/
theorem ofSigned_mulh : ofSigned w (x.toInt * y.toInt / 2 ^ w) = ((x.signExtend (2 * w) * y.signExtend (2 * w)).extractLsb' w w).toNat := by
  have hpos : (0 : Int) < 2 ^ w := by positivity
  have hprod : x.signExtend (2 * w) * y.signExtend (2 * w) = BitVec.ofInt (2 * w) (x.toInt * y.toInt) := (BitVec.ofInt_mul _ _).symm
  have hhalf (i : Int) : i % (2 ^ w * 2 ^ w) / 2 ^ w % 2 ^ w = i / 2 ^ w % 2 ^ w := by
    rw [Int.emod_def i, mul_assoc, Int.sub_mul_ediv_left _ _ hpos.ne', Int.sub_mul_emod_self_left]
  rw [hprod, BitVec.extractLsb'_toNat, BitVec.toNat_ofInt, Nat.shiftRight_eq_div_pow, ofSigned, ← hhalf]
  zify
  rw [Int.toNat_of_nonneg (Int.emod_nonneg _ hpos.ne'), Int.toNat_of_nonneg (Int.emod_nonneg _ (by positivity)), two_mul, pow_add]

/-- The upper half of an unsigned product. -/
theorem toNat_mulhn : x.toNat * y.toNat / 2 ^ w = ((x.setWidth (2 * w) * y.setWidth (2 * w)).extractLsb' w w).toNat := by
  have hle : w ≤ 2 * w := by omega
  have hlt : x.toNat * y.toNat < 2 ^ w * 2 ^ w := Nat.mul_lt_mul'' x.isLt y.isLt
  rw [BitVec.extractLsb'_toNat, BitVec.toNat_mul, BitVec.toNat_setWidth_of_le hle, BitVec.toNat_setWidth_of_le hle, Nat.shiftRight_eq_div_pow, two_mul, Nat.pow_add,
    Nat.mod_eq_of_lt hlt, Nat.mod_eq_of_lt (Nat.div_lt_of_lt_mul hlt)]

/-- An arithmetic shift. -/
theorem ofSigned_sra {n : Nat} : ofSigned w (x.toInt / 2 ^ n) = (x.sshiftRight n).toNat := by
  rw [ofSigned_eq, BitVec.sshiftRight, Int.shiftRight_eq_div_pow]
  norm_cast

/-- Each member of VINT and VINTX runs the body of R188 with a function of its own, whose value is that of the table. -/
theorem exec_vints {p : _} (hp : p ∈ Claims.vints) : ∃ fn, (∀ d a b m s, exec (p.1 d a b m) s = runVector (vintVV fn d a b m) s ∧ exec (p.2.1 d a b m) s = runVector (vintVS fn d a b m) s) ∧
      ∀ w, 0 < w → ∀ x y : BitVec w, vintFn fn w x.toNat y.toNat = (p.2.2 w x y).toNat := by
  simp only [Claims.vints, List.mem_cons, List.not_mem_nil, or_false] at hp
  rcases hp with rfl | rfl | rfl | rfl | rfl | rfl | rfl | rfl | rfl | rfl | rfl | rfl | rfl | rfl | rfl | rfl
  · exact ⟨0, fun _ _ _ _ _ => ⟨rfl, rfl⟩, fun w _ x y => (BitVec.toNat_add x y).symm⟩
  · exact ⟨1, fun _ _ _ _ _ => ⟨rfl, rfl⟩, fun w _ x y => by
      rw [BitVec.toNat_sub, vintFn, Nat.mod_eq_of_lt y.isLt]
      congr 1
      have := y.isLt
      omega⟩
  · exact ⟨2, fun _ _ _ _ _ => ⟨rfl, rfl⟩, fun w _ x y => (BitVec.toNat_mul x y).symm⟩
  · exact ⟨3, fun _ _ _ _ _ => ⟨rfl, rfl⟩, fun w hw x y => by rw [vintFn, toSigned_toNat hw, toSigned_toNat hw, ofSigned_mulh]⟩
  · exact ⟨4, fun _ _ _ _ _ => ⟨rfl, rfl⟩, fun w _ x y => toNat_mulhn⟩
  · exact ⟨5, fun _ _ _ _ _ => ⟨rfl, rfl⟩, fun w _ x y => (BitVec.toNat_and x y).symm⟩
  · exact ⟨6, fun _ _ _ _ _ => ⟨rfl, rfl⟩, fun w _ x y => (BitVec.toNat_or x y).symm⟩
  · exact ⟨7, fun _ _ _ _ _ => ⟨rfl, rfl⟩, fun w _ x y => (BitVec.toNat_xor x y).symm⟩
  · exact ⟨8, fun _ _ _ _ _ => ⟨rfl, rfl⟩, fun w _ x y => by rw [BitVec.toNat_shiftLeft, Nat.shiftLeft_eq]; rfl⟩
  · exact ⟨9, fun _ _ _ _ _ => ⟨rfl, rfl⟩, fun w _ x y => by rw [BitVec.toNat_ushiftRight, Nat.shiftRight_eq_div_pow]; rfl⟩
  · exact ⟨10, fun _ _ _ _ _ => ⟨rfl, rfl⟩, fun w hw x y => by rw [vintFn, toSigned_toNat hw, ofSigned_sra]⟩
  · exact ⟨11, fun _ _ _ _ _ => ⟨rfl, rfl⟩, fun w hw x y => by simp [vintFn, toSigned_toNat hw, BitVec.slt, apply_ite BitVec.toNat]⟩
  · exact ⟨12, fun _ _ _ _ _ => ⟨rfl, rfl⟩, fun w hw x y => by simp [vintFn, toSigned_toNat hw, BitVec.slt, apply_ite BitVec.toNat]⟩
  · exact ⟨13, fun _ _ _ _ _ => ⟨rfl, rfl⟩, fun w _ x y => by
      simp only [vintFn, BitVec.ult, decide_eq_true_eq, apply_ite BitVec.toNat]
      split <;> omega⟩
  · exact ⟨14, fun _ _ _ _ _ => ⟨rfl, rfl⟩, fun w _ x y => by
      simp only [vintFn, BitVec.ult, decide_eq_true_eq, apply_ite BitVec.toNat]
      split <;> omega⟩
  · exact ⟨15, fun _ _ _ _ _ => ⟨rfl, rfl⟩, fun w hw x y => by
      rw [← ofSigned_eq, ← toSigned_toNat hw, ← toSigned_toNat hw]
      rfl⟩

end

/-! ## Bodies -/

section
variable {s : State} {d a b : BitVec 7} {m : BitVec 1}

/-- An instruction in its two forms, by the bodies that it runs and by what they compute for one element. -/
theorem pairForms_of {vv vs : BitVec 7 → BitVec 7 → BitVec 7 → BitVec 1 → Instr} {bvv bvs : Exec Unit} {val : Nat → Nat → Nat → Nat → Nat × Nat}
    (f : State → Nat → Nat → Nat → Nat × Nat) (hexec : exec (vv d a b m) s = runVector bvv s ∧ exec (vs d a b m) s = runVector bvs s)
    (hvv : Claims.tiles2 s d.toNat a.toNat b.toNat → bvv s = vecVV f d a b m s) (hvs : Claims.tileScalar s d.toNat a.toNat b.toNat → bvs s = vecVS f d a b m s)
    (hf : ∀ u : State, u.computesAs s → ∀ j k, ∀ x < 2 ^ s.me.csr.sew, ∀ y < 2 ^ s.me.csr.sew, f u (Claims.index s j k) x y = val j k x y) :
    Claims.pairForms s vv vs d a b m val :=
  ⟨fun h => vecVV_retires h hexec.1 (hvv h) hf, fun h => vecVS_retires h hexec.2 (hvs h) hf⟩

theorem checkSrc_scalar (h : Claims.tileScalar s d.toNat a.toNat b.toNat) : checkSrc b.toNat s = .ok () s := by
  obtain ⟨-, -, -, hb, -⟩ := h
  exact checkSrc_ok hb

/-- The members of VINT and VINTX write the value of their table (R188). -/
theorem vints_retire {p : _} (hp : p ∈ Claims.vints) :
    Claims.pairForms s p.1 p.2.1 d a b m (fun _ _ x y => ((p.2.2 s.me.csr.sew (BitVec.ofNat s.me.csr.sew x) (BitVec.ofNat s.me.csr.sew y)).toNat, 0)) := by
  obtain ⟨fn, hexec, hval⟩ := exec_vints hp
  refine pairForms_of _ (hexec d a b m s) (fun h => exec_bind_ok (checkTwo_ok h))
    (fun h => (exec_bind_ok (checkOne_scalar h)).trans (exec_bind_ok (checkSrc_scalar h))) (fun u hu _ _ x hx y hy => ?_)
  rw [← hval _ Csr.sew_pos, BitVec.toNat_ofNat, BitVec.toNat_ofNat, Nat.mod_eq_of_lt hx, Nat.mod_eq_of_lt hy, hu.1]

/-- A floating member is legal here: NFMT is, and SEW is not 8 where it has no form for it (R56, R185, R192). -/
theorem checkFloat_ok {fn : Nat} (h : Claims.formatted s) (h8 : s.me.csr.sew = 8 → fn ∉ [10, 11, 12, 13]) : checkFloat fn s = .ok () s := by
  unfold checkFloat
  rw [exec_getState_bind, exec_bind_ok (checkFmt_ok h)]
  refine require_of ?_
  by_cases h' : s.me.csr.sew = 8
  · simp [h8 h']
  · simp [h']

/-- Each two-operand member of VFP and VFPX runs the body of R189 with a function of its own. -/
theorem exec_vfpPairs {p : _} (hp : p ∈ Claims.vfpPairs) : ∃ fn, fn ∉ [10, 11, 12, 13] ∧ vfpFn2 fn = p.2.2 ∧
      ∀ d a b m s, exec (p.1 d a b m) s = runVector (vfpVV fn d a b m) s ∧ exec (p.2.1 d a b m) s = runVector (vfpVS fn d a b m) s := by
  simp only [Claims.vfpPairs, List.mem_cons, List.not_mem_nil, or_false] at hp
  rcases hp with rfl | rfl | rfl | rfl | rfl | rfl | rfl
  · exact ⟨0, by decide, rfl, fun _ _ _ _ _ => ⟨rfl, rfl⟩⟩
  · exact ⟨1, by decide, rfl, fun _ _ _ _ _ => ⟨rfl, rfl⟩⟩
  · exact ⟨2, by decide, rfl, fun _ _ _ _ _ => ⟨rfl, rfl⟩⟩
  · exact ⟨3, by decide, rfl, fun _ _ _ _ _ => ⟨rfl, rfl⟩⟩
  · exact ⟨4, by decide, rfl, fun _ _ _ _ _ => ⟨rfl, rfl⟩⟩
  · exact ⟨5, by decide, rfl, fun _ _ _ _ _ => ⟨rfl, rfl⟩⟩
  · exact ⟨9, by decide, rfl, fun _ _ _ _ _ => ⟨rfl, rfl⟩⟩

/-- The two-operand members of VFP and VFPX write their rounded value and raise the flags of the elements performed (R189). -/
theorem vfpPairs_retire {p : _} (hp : p ∈ Claims.vfpPairs) (hfmt : Claims.formatted s) :
    Claims.pairForms s p.1 p.2.1 d a b m (fun j i => p.2.2 s.me.csr.fmt (s.rounding (Claims.index s j i)).1 (s.rounding (Claims.index s j i)).2) := by
  obtain ⟨fn, hfn, hval, hexec⟩ := exec_vfpPairs hp
  refine pairForms_of _ (hexec d a b m s) (fun h => (exec_bind_ok (checkTwo_ok h)).trans (exec_bind_ok (checkFloat_ok hfmt fun _ => hfn)))
    (fun h => (exec_bind_ok (checkOne_scalar h)).trans ((exec_bind_ok (checkSrc_scalar h)).trans (exec_bind_ok (checkFloat_ok hfmt fun _ => hfn))))
    (fun u hu _ _ _ _ _ _ => ?_)
  rw [hval, hu.1, hu.2]

/-- A one-operand member with a tile writes its value (R189, R192). -/
theorem vfpV_retires {fn : Nat} {i : Instr} (h : Claims.tiles1 s d.toNat a.toNat) (hfmt : Claims.formatted s) (h8 : s.me.csr.sew = 8 → fn ∉ [10, 11, 12, 13])
    (hi : exec i s = runVector (vfpV fn d a m) s) :
    s.retiresTile i (s.tileTaken a.toNat s.me.csr.grp) d.toNat s.me.csr.grp s.me.csr.sew (s.each (m == 1) (fun j k =>
      vfpFn1 fn s.me.csr.fmt (s.rounding (Claims.index s j k)).1 (s.rounding (Claims.index s j k)).2 (Claims.elem s a.toNat j k))) := by
  obtain ⟨hv, -, ha, hd, -⟩ := id h
  obtain ⟨p, hp, hread, hu⟩ := readTile_first hv.2.2 ha
  refine retiresTile_of_elementwise hi hv State.tileTaken_me hp hd Csr.grp_pos Csr.sew_pos Csr.sew_dvd (fun j k hk => ?_)
    (op := fun e => vfpFn1 fn s.me.csr.fmt (s.rounding e).1 (s.rounding e).2 (elemLin (s.tileValue a.toNat s.me.csr.grp) s.me.csr.grp s.me.csr.sew s.me.csr.len e)) ?_
  · exact congrArg (vfpFn1 fn _ _ _) (elemLin_index hk)
  · unfold vfpV
    rw [exec_bind_ok (checkOne_ok h), exec_bind_ok (checkFloat_ok hfmt h8), exec_bind_ok (readTile_inForce rfl hread), exec_getState_bind, hu.1]
    simp only [hu.2]

/-- A one-operand member with a scalar, broadcast, writes its value (R147, R189). -/
theorem vfpS_retires {fn : Nat} {i : Instr} (hv : s.vectorHere) (hblk : s.me.csr.blk = 0) (hb : s.srcOk b.toNat) (hhere : s.srcHere b.toNat)
    (hd : (s.srcTaken b.toNat).tileRoom d.toNat s.me.csr.grp) (hfmt : Claims.formatted s) (h8 : s.me.csr.sew = 8 → fn ∉ [10, 11, 12, 13])
    (hi : exec i s = runVector (vfpS fn d b m) s) :
    s.retiresTile i (s.srcTaken b.toNat) d.toNat s.me.csr.grp s.me.csr.sew (s.each (m == 1) (fun j k =>
      vfpFn1 fn s.me.csr.fmt (s.rounding (Claims.index s j k)).1 (s.rounding (Claims.index s j k)).2 ((s.srcValue b.toNat).toNat % 2 ^ s.me.csr.sew))) := by
  have hme : (s.srcTaken b.toNat).me = s.me := srcTaken_me _ _
  obtain ⟨hdst, hfits, -⟩ := id hd
  rw [srcTaken_dstOk] at hdst
  rw [tileFits_congr hme] at hfits
  obtain ⟨p, hp, hread⟩ := vecValue_here (k := s.me.csr.vstart) operandsOnly_none hhere
  rw [State.midway_self hv.2.2] at hread
  have hu := midway_computesAs hme hv.2.2 hp srcTaken_rounding
  refine retiresTile_of_elementwise hi hv hme hp hd Csr.grp_pos Csr.sew_pos Csr.sew_dvd (fun _ _ _ => rfl)
    (op := fun e => vfpFn1 fn s.me.csr.fmt (s.rounding e).1 (s.rounding e).2 ((s.srcValue b.toNat).toNat % 2 ^ s.me.csr.sew)) ?_
  unfold vfpS
  rw [exec_getState_bind, exec_bind_ok hv.coreOnly_ok, exec_bind_ok (checkSrc_ok hb), exec_bind_ok (checkTileDst_ok hdst hfits), exec_bind_ok (checkUnscaled_ok hblk),
    exec_bind_ok (checkFloat_ok hfmt h8), exec_bind_ok hread, exec_getState_bind, hu.1]
  simp only [hu.2]

/-- Each one-operand member of VFP and VFPX runs the bodies of R189 with a function of its own; SEW 8 has the members other than the estimates and VFCLASS. -/
theorem exec_vfpUnary {p : _} (hp : p ∈ Claims.vfpUnary) : ∃ fn, (p.2.2.1 = true → fn ∉ [10, 11, 12, 13]) ∧ vfpFn1 fn = p.2.2.2 ∧
    ∀ d a m s, exec (p.1 d a m) s = runVector (vfpV fn d a m) s ∧ exec (p.2.1 d a m) s = runVector (vfpS fn d a m) s := by
  simp only [Claims.vfpUnary, List.mem_cons, List.not_mem_nil, or_false] at hp
  rcases hp with rfl | rfl | rfl | rfl | rfl | rfl | rfl
  · exact ⟨6, by decide, rfl, fun _ _ _ _ => ⟨rfl, rfl⟩⟩
  · exact ⟨7, by decide, rfl, fun _ _ _ _ => ⟨rfl, rfl⟩⟩
  · exact ⟨8, by decide, rfl, fun _ _ _ _ => ⟨rfl, rfl⟩⟩
  · exact ⟨10, by decide, rfl, fun _ _ _ _ => ⟨rfl, rfl⟩⟩
  · exact ⟨11, by decide, rfl, fun _ _ _ _ => ⟨rfl, rfl⟩⟩
  · exact ⟨12, by decide, rfl, fun _ _ _ _ => ⟨rfl, rfl⟩⟩
  · exact ⟨13, by decide, rfl, fun _ _ _ _ => ⟨rfl, rfl⟩⟩

/-- Each widening member runs the body of R190 with what it rounds. -/
theorem exec_vfpWides {p : _} (hp : p ∈ Claims.vfpWides) : ∀ d a b m s, exec (p.1 d a b m) s = runVector (vfpWide p.2 d a b m) s := by
  simp only [Claims.vfpWides, List.mem_cons, List.not_mem_nil, or_false] at hp
  rcases hp with rfl | rfl <;> exact fun _ _ _ _ _ => rfl

/-- A widening member delivers to the format twice as wide (R190). -/
theorem vfpWide_retires {f : Nat → Val → Val → Val × Nat} {i : Instr} (hv : s.vectorHere) (hblk : s.me.csr.blk = 0) (h64 : s.me.csr.sew ≠ 64) (h8 : s.me.csr.grp ≠ 8)
    (ha : s.tileHere a.toNat s.me.csr.grp) (hb : (s.tileTaken a.toNat s.me.csr.grp).tileHere b.toNat s.me.csr.grp)
    (hd : ((s.tileTaken a.toNat s.me.csr.grp).tileTaken b.toNat s.me.csr.grp).tileRoom d.toNat (2 * s.me.csr.grp))
    (hda : s.apart d.toNat (2 * s.me.csr.grp) a.toNat s.me.csr.grp) (hdb : s.apart d.toNat (2 * s.me.csr.grp) b.toNat s.me.csr.grp) (hfmt : Claims.formatted s)
    (hi : exec i s = runVector (vfpWide f d a b m) s) :
    s.retiresTile i ((s.tileTaken a.toNat s.me.csr.grp).tileTaken b.toNat s.me.csr.grp) d.toNat (2 * s.me.csr.grp) (2 * s.me.csr.sew) (s.each (m == 1) (fun j k =>
      finish s.me.csr.wideFmt (s.rounding (Claims.index s j k)).1 (s.rounding (Claims.index s j k)).2
        (f (s.rounding (Claims.index s j k)).1 (s.me.csr.fmt.decode (Claims.elem s a.toNat j k)) (s.me.csr.fmt.decode (Claims.elem2 s a.toNat b.toNat j k))))) := by
  have hme : ((s.tileTaken a.toNat s.me.csr.grp).tileTaken b.toNat s.me.csr.grp).me = s.me := State.tileTaken_me.trans State.tileTaken_me
  have hround := fun e => (tileTaken_rounding (s := s.tileTaken a.toNat s.me.csr.grp) (n := b.toNat) (g := s.me.csr.grp) e).trans (tileTaken_rounding e)
  have hwide : 2 * s.me.csr.sew ∣ 1024 := by
    rcases s.me.csr.sew_cases with h | h | h | h
    · rw [h]; decide
    · rw [h]; decide
    · rw [h]; decide
    · exact absurd h h64
  obtain ⟨hasrc, hafits, -⟩ := id ha
  obtain ⟨hbsrc, hbfits, -⟩ := id hb
  rw [tileTaken_srcOk] at hbsrc
  rw [tileFits_congr State.tileTaken_me] at hbfits
  obtain ⟨hdst, hdfits, -⟩ := id hd
  rw [tileTaken_dstOk, tileTaken_dstOk] at hdst
  rw [tileFits_congr hme] at hdfits
  obtain ⟨p, hp, hfirst, -⟩ := readTile_first hv.2.2 ha
  obtain ⟨q, hq, hsecond⟩ := readTile_here (k := s.me.csr.vstart) hp hb
  have hu := midway_computesAs hme hv.2.2 hq hround
  have hcheck : checkWide d s = .ok () s := by
    unfold checkWide
    rw [exec_getState_bind, exec_bind_ok (require_of (decide_eq_true ⟨h64, h8⟩))]
    exact checkTileDst_ok hdst hdfits
  refine retiresTile_of_elementwise hi hv hme hq hd (Nat.mul_pos (by omega) Csr.grp_pos) (Nat.mul_pos (by omega) Csr.sew_pos) hwide (fun j k hk => ?_)
    (op := fun e => finish s.me.csr.wideFmt (s.rounding e).1 (s.rounding e).2 (f (s.rounding e).1
      (s.me.csr.fmt.decode (elemLin (s.tileValue a.toNat s.me.csr.grp) s.me.csr.grp s.me.csr.sew s.me.csr.len e))
      (s.me.csr.fmt.decode (elemLin ((s.tileTaken a.toNat s.me.csr.grp).tileValue b.toNat s.me.csr.grp) s.me.csr.grp s.me.csr.sew s.me.csr.len e)))) ?_
  · rw [elemLin_index hk, elemLin_index hk, elem2_eq]
    rfl
  · unfold vfpWide
    rw [exec_getState_bind, exec_bind_ok hv.coreOnly_ok, exec_bind_ok (checkTileSrc_ok hasrc hafits), exec_bind_ok (checkTileSrc_ok hbsrc hbfits),
      exec_bind_ok (checkUnscaled_ok hblk), exec_bind_ok hcheck, exec_bind_ok (checkDisjoint_ok hda), exec_bind_ok (checkDisjoint_ok hdb), exec_bind_ok (checkFmt_ok hfmt),
      exec_bind_ok hfirst, exec_bind_ok hsecond, exec_getState_bind, hu.1]
    simp only [hu.2]

/-- VFCLAMP is FMAX with s[B], then FMIN with s[B + 1] (R191). -/
theorem vfclamp_retires (h : Claims.tiles1 s d.toNat a.toNat) (hfmt : Claims.formatted s) (hb : 1 ≤ b.toNat ∧ b.toNat ≤ 110) :
    s.retiresTile (.vfclamp d a b m) (s.tileTaken a.toNat s.me.csr.grp) d.toNat s.me.csr.grp s.me.csr.sew (s.each (m == 1) (fun j i =>
      let p := minMax s.me.csr.fmt true (Claims.elem s a.toNat j i) ((s.me.readS b.toNat).toNat % 2 ^ s.me.csr.sew)
      let q := minMax s.me.csr.fmt false p.1 ((s.me.readS (b.toNat + 1)).toNat % 2 ^ s.me.csr.sew)
      (q.1, p.2 ||| q.2))) := by
  obtain ⟨hv, -, ha, hd, -⟩ := id h
  obtain ⟨p, hp, hread, hu⟩ := readTile_first hv.2.2 ha
  have hscalar (n : Nat) : ((s.tileTaken a.toNat s.me.csr.grp).midway p s.me.csr.vstart).me.issued.readS n = s.me.readS n := by
    rw [hp.issued_of_me State.tileTaken_me]
    rfl
  refine retiresTile_of_elementwise rfl hv State.tileTaken_me hp hd Csr.grp_pos Csr.sew_pos Csr.sew_dvd (fun j k hk => ?_)
    (op := fun e =>
      let p := minMax s.me.csr.fmt true (elemLin (s.tileValue a.toNat s.me.csr.grp) s.me.csr.grp s.me.csr.sew s.me.csr.len e) ((s.me.readS b.toNat).toNat % 2 ^ s.me.csr.sew)
      let q := minMax s.me.csr.fmt false p.1 ((s.me.readS (b.toNat + 1)).toNat % 2 ^ s.me.csr.sew)
      (q.1, p.2 ||| q.2)) ?_
  · dsimp only
    rw [elemLin_index hk]
    rfl
  · unfold vfclampBody
    rw [exec_bind_ok (checkOne_ok h), exec_bind_ok (require_of (decide_eq_true hb)), exec_bind_ok (checkFmt_ok hfmt), exec_bind_ok (readTile_inForce rfl hread),
      exec_getState_bind, hu.1]
    simp only [hscalar]

end

/-- Settles O26: each member runs the body of its form, and the body's result is the tile of its table. -/
theorem vectorArithmeticFollowsItsTables : Obligations.VectorArithmeticFollowsItsTables := by
  unfold Obligations.VectorArithmeticFollowsItsTables
  refine ⟨fun p hp d a b m s => vints_retire hp, fun d a b m s hfmt => ⟨fun p hp => vfpPairs_retire hp hfmt, fun p hp h8 => ?_, fun p hp hv hblk h64 hg ha hb hd hda hdb => ?_,
    fun h h1 h110 => vfclamp_retires h hfmt ⟨h1, h110⟩⟩⟩
  · obtain ⟨fn, hfn, hval, hexec⟩ := exec_vfpUnary hp
    rw [← hval]
    exact ⟨fun h => vfpV_retires h hfmt (fun h' => hfn (h8 h')) (hexec d a m s).1,
      fun hv hblk hb hhere hd => vfpS_retires hv hblk hb hhere hd hfmt (fun h' => hfn (h8 h')) (hexec d b m s).2⟩
  · exact vfpWide_retires hv hblk h64 hg ha hb hd hda hdb hfmt (exec_vfpWides hp d a b m s)

end Sys2Proof.Machine

end

section
/-! PROOFS. Conversions, VINDEX and block scales (O31): one element of each conversion is that of its code (R199), the factor of a block is read from k0 (R59, R200), and
VBSCALE sets one byte of kD for each block, every one apart from the others. -/

namespace Sys2Proof.Machine

open Sys2Proof

/-! ## Codes of VCVT -/

theorem codeWidth_eq (c : Nat) : codeWidth c = Claims.codeBits c := by
  unfold codeWidth formatNibbles Claims.codeBits
  by_cases h14 : c = 14
  · simp [h14]
  · rw [if_neg h14]
    split_ifs <;> omega

/-- The width of a code is one that tiles have. -/
theorem codeBits_ge_dvd (c : Nat) : 8 ≤ Claims.codeBits c ∧ Claims.codeBits c ∣ 1024 := by
  unfold Claims.codeBits
  have hlt : c % 4 < 4 := Nat.mod_lt _ (by omega)
  split_ifs
  · interval_cases c % 4 <;> decide
  all_goals decide

/-! ## One element converted (R199) -/

section
variable {w n x : Nat}

theorem toSigned_ofNat (hw : 0 < w) (hx : x < 2 ^ w) : toSigned w x = (BitVec.ofNat w x).toInt := by
  rw [← toSigned_toNat hw, BitVec.toNat_ofNat, Nat.mod_eq_of_lt hx]

/-- A natural number brought into the range of unsigned integers of `n` bits. -/
theorem saturated_toNat : (BitVec.ofInt n (max 0 (min (2 ^ n - 1) (x : Int)))).toNat = min x (2 ^ n - 1) := by
  have hpos := Nat.two_pow_pos n
  have hcast : max 0 (min (2 ^ n - 1) (x : Int)) = ((min x (2 ^ n - 1) : Nat) : Int) := by
    rw [show (2 : Int) ^ n = ((2 ^ n : Nat) : Int) by norm_cast]
    generalize 2 ^ n = q at hpos ⊢
    omega
  rw [hcast, BitVec.ofInt_natCast, BitVec.toNat_ofNat, Nat.mod_eq_of_lt (by omega)]

/-- It is out of that range exactly where it is greater than the last of them. -/
theorem outside_iff : ((x : Int) < 0 ∨ (2 : Int) ^ n - 1 < x) ↔ 2 ^ n - 1 < x := by
  have hpos := Nat.two_pow_pos n
  rw [show (2 : Int) ^ n = ((2 ^ n : Nat) : Int) by norm_cast]
  generalize 2 ^ n = q at hpos ⊢
  omega

/-- Each conversion of R199 runs its body with a function of its own, whose value is that of the table for the codes that it takes. -/
theorem exec_conversions {p : _} (hp : p ∈ Claims.conversions) : ∃ fn, (∀ d a k m s, exec (p.1 d a k m) s = runVector (convertBody fn d a k m) s) ∧ (fn ≤ 1 → p.2.2.1 = true) ∧
    ∀ (c : Csr) (k mode r x : Nat), p.2.1 k = true → x < 2 ^ c.sew → convertFn fn c.fmt c.sew k c.nfmt.toNat mode r x = p.2.2.2 c k mode r x := by
  simp only [Claims.conversions, List.mem_cons, List.not_mem_nil, or_false] at hp
  rcases hp with rfl | rfl | rfl | rfl
  · exact ⟨0, fun _ _ _ _ _ => rfl, fun _ => rfl, fun _ _ _ _ _ _ _ => rfl⟩
  · refine ⟨1, fun _ _ _ _ _ => rfl, fun _ => rfl, fun c k mode r x _ _ => ?_⟩
    dsimp only
    rw [← codeWidth_eq]
    rfl
  · refine ⟨2, fun _ _ _ _ _ => rfl, fun h => absurd h (by decide), fun c k mode r x _ hx => ?_⟩
    dsimp only
    rw [← toSigned_ofNat Csr.sew_pos hx]
    rfl
  · refine ⟨6, fun _ _ _ _ _ => rfl, fun h => absurd h (by decide), fun c k mode r x _ hx => ?_⟩
    unfold convertFn nvIf
    dsimp only
    rw [codeWidth_eq]
    by_cases hk : k < 4
    · simp only [hk, if_true, decide_eq_true_eq]
      rw [toSigned_ofNat Csr.sew_pos hx, ofSigned_eq]
    · simp only [hk, if_false, decide_eq_true_eq]
      rw [saturated_toNat]
      simp only [outside_iff]

end

section
variable {s : State} {d a k : BitVec 7} {m : BitVec 1}

/-- A conversion may have one tile for D and A where the width stays, and the number of registers to a row with it (R199). -/
theorem checkConvert_ok {w : Nat}
    (hda : s.apart d.toNat (max 1 (s.me.csr.grp * w / s.me.csr.sew)) a.toNat s.me.csr.grp ∨ (w = s.me.csr.sew ∧ d = a)) :
    checkConvert d.toNat (max 1 (s.me.csr.grp * w / s.me.csr.sew)) a.toNat s.me.csr.grp (s.me.csr.sew == w) s = .ok () s := by
  unfold checkConvert
  by_cases hsame : s.me.csr.sew = w
  · have hgd : max 1 (s.me.csr.grp * w / s.me.csr.sew) = s.me.csr.grp := by
      rw [← hsame, Nat.mul_div_cancel _ Csr.sew_pos]
      exact max_eq_right Csr.grp_pos
    rw [if_pos (beq_iff_eq.2 hsame)]
    exact checkOverlap_ok (hda.symm.imp_left (fun h => ⟨congrArg BitVec.toNat h.2, hgd⟩))
  · rw [if_neg (by simpa using hsame)]
    exact checkDisjoint_ok (hda.resolve_right (fun h => hsame h.1.symm))

/-- A conversion delivers every performed element to its code, in a tile of that width (R199). -/
theorem convert_retires {fn : Nat} {i : Instr} (hv : s.vectorHere) (hblk : s.me.csr.blk = 0) (hfmt : fn ≤ 1 → Claims.formatted s)
    (h14 : k = 14 → narrowLegal s.me.csr.nfmt.toNat = true) (hgw : s.me.csr.grp * Claims.codeBits k.toNat ≤ 8 * s.me.csr.sew) (ha : s.tileHere a.toNat s.me.csr.grp)
    (hd : (s.tileTaken a.toNat s.me.csr.grp).tileRoom d.toNat (max 1 (s.me.csr.grp * Claims.codeBits k.toNat / s.me.csr.sew)))
    (hda : s.apart d.toNat (max 1 (s.me.csr.grp * Claims.codeBits k.toNat / s.me.csr.sew)) a.toNat s.me.csr.grp ∨ (Claims.codeBits k.toNat = s.me.csr.sew ∧ d = a))
    (hi : exec i s = runVector (convertBody fn d a k m) s) :
    s.retiresTile i (s.tileTaken a.toNat s.me.csr.grp) d.toNat (max 1 (s.me.csr.grp * Claims.codeBits k.toNat / s.me.csr.sew)) (Claims.codeBits k.toNat)
      (s.each (m == 1) (fun j l => convertFn fn s.me.csr.fmt s.me.csr.sew k.toNat s.me.csr.nfmt.toNat (s.rounding (Claims.index s j l)).1 (s.rounding (Claims.index s j l)).2
        (Claims.elem s a.toNat j l))) := by
  obtain ⟨hasrc, hafits, -⟩ := id ha
  obtain ⟨hdst, hdfits, -⟩ := id hd
  rw [tileTaken_dstOk] at hdst
  rw [tileFits_congr State.tileTaken_me] at hdfits
  obtain ⟨p, hp, hread, hu⟩ := readTile_first hv.2.2 ha
  obtain ⟨hge, hdvd⟩ := codeBits_ge_dvd k.toNat
  have hcode : (decide (k.toNat ≠ 14) || narrowLegal s.me.csr.nfmt.toNat) = true := by
    by_cases h : k = 14
    · simp [h14 h]
    · have : k.toNat ≠ 14 := fun h' => h (BitVec.eq_of_toNat_eq h')
      simp [this]
  have hmaybe (r : Unit → Exec Unit) : (if fn ≤ 1 then checkFmt >>= r else r ()) s = r () s := by
    by_cases hfn : fn ≤ 1
    · rw [if_pos hfn, exec_bind_ok (checkFmt_ok (hfmt hfn))]
    · rw [if_neg hfn]
  refine retiresTile_of_elementwise hi hv State.tileTaken_me hp hd (by omega) (by omega) hdvd (fun j l hl => ?_)
    (op := fun e => convertFn fn s.me.csr.fmt s.me.csr.sew k.toNat s.me.csr.nfmt.toNat (s.rounding e).1 (s.rounding e).2
      (elemLin (s.tileValue a.toNat s.me.csr.grp) s.me.csr.grp s.me.csr.sew s.me.csr.len e)) ?_
  · exact congrArg (convertFn fn _ _ _ _ _ _) (elemLin_index hl)
  · unfold convertBody
    rw [exec_getState_bind, codeWidth_eq, exec_bind_ok hv.coreOnly_ok, exec_bind_ok (checkTileSrc_ok hasrc hafits), exec_bind_ok (require_of (decide_eq_true hgw)),
      exec_bind_ok (checkTileDst_ok hdst hdfits), exec_bind_ok (checkUnscaled_ok hblk), exec_bind_ok (checkConvert_ok hda)]
    rw [hmaybe]
    beta_reduce
    rw [exec_bind_ok (require_of hcode), exec_bind_ok hread, exec_getState_bind]
    simp only [hu.2]

/-- VINDEX writes START9 + e × STEP9 (R201). -/
theorem vindex_retires {x9 y9 : BitVec 9} (hv : s.vectorHere) (hblk : s.me.csr.blk = 0) (hd : s.tileRoom d.toNat s.me.csr.grp) :
    s.retiresTile (.vindex d m x9 y9) s d.toNat s.me.csr.grp s.me.csr.sew (s.each (m == 1) (fun j l =>
      ((BitVec.ofInt s.me.csr.sew (x9.toInt + (Claims.index s j l : Int) * y9.toInt)).toNat, 0))) := by
  obtain ⟨hdst, hdfits, -⟩ := id hd
  refine retiresTile_of_elementwise rfl hv rfl operandsOnly_none hd Csr.grp_pos Csr.sew_pos Csr.sew_dvd (fun j l _ => ?_)
    (op := fun e => (ofSigned s.me.csr.sew (x9.toInt + (e : Int) * y9.toInt), 0)) ?_
  · exact congrArg (·, 0) (ofSigned_eq _)
  · unfold vindexBody
    rw [State.midway_self hv.2.2, exec_getState_bind, exec_bind_ok hv.coreOnly_ok, exec_bind_ok (checkTileDst_ok hdst hdfits), exec_bind_ok (checkUnscaled_ok hblk)]

/-! ## Block scales (R59, R60, R200) -/

theorem checkScaled_ok (h : Claims.scaled s) : checkScaled s = .ok () s := by
  obtain ⟨hv, hsew, h3, h8, hgrp, hblocks, hfmt⟩ := h
  unfold checkScaled
  rw [exec_getState_bind, exec_bind_ok hv.coreOnly_ok, exec_bind_ok (require_of (decide_eq_true ⟨hsew, h3, h8, hgrp, hblocks⟩))]
  exact checkFmt_ok hfmt

/-- Entry `b` of a scale register is its byte `b`. -/
theorem scaleEntry_eq (q : KReg) (b : Nat) : scaleEntry q b = q.toNat / 2 ^ (8 * b) % 256 := by
  unfold scaleEntry field
  rw [BitVec.extractLsb'_toNat, Nat.shiftRight_eq_div_pow]

/-- The factor that an element is multiplied by is that of its block. -/
theorem scaleBy_blockFactor {q : KReg} {e : Nat} {v : Val} {x : Int} {invert : Bool} (hq : q = s.me.readK 0)
    (hx : x = if invert then 127 - (scaleEntry q (e / 2 ^ s.me.csr.blk) : Int) else (scaleEntry q (e / 2 ^ s.me.csr.blk) : Int) - 127) :
    scaleBy (scaleEntry q (e / 2 ^ s.me.csr.blk) == 255) x v = mulVal v (Claims.blockFactor s invert e) := by
  subst hx hq
  unfold scaleBy Claims.blockFactor
  dsimp only
  rw [← scaleEntry_eq]
  by_cases h : scaleEntry (s.me.readK 0) (e / 2 ^ s.me.csr.blk) = 255 <;> simp [h]

/-- k0 as the instruction finds it, where it has read its tile. -/
theorem readTile_scales {c g : Nat} (hs : s.me.savedNow = none) (h : s.tileHere c g) :
    ∃ p, OperandsOnly p ∧ readTile c g s = .ok (s.tileValue c g) ((s.tileTaken c g).midway p s.me.csr.vstart) ∧
      ((s.tileTaken c g).midway p s.me.csr.vstart).computesAs s ∧ ((s.tileTaken c g).midway p s.me.csr.vstart).me.issued.readK 0 = s.me.readK 0 := by
  obtain ⟨p, hp, hread, hu⟩ := readTile_first hs h
  refine ⟨p, hp, hread, hu, ?_⟩
  rw [hp.issued_of_me State.tileTaken_me]
  rfl

/-- VQNT multiplies by the inverse of the block's scale and delivers to the narrow format (R200). -/
theorem vqnt_retires (h : Claims.scaled s) (hk : k.toNat = fkCode s.me.csr) (ha : s.tileHere a.toNat (4 * s.me.csr.grp))
    (hd : (s.tileTaken a.toNat (4 * s.me.csr.grp)).tileRoom d.toNat s.me.csr.grp) (hda : s.apart d.toNat s.me.csr.grp a.toNat (4 * s.me.csr.grp)) :
    s.retiresTile (.vqnt d a k m) (s.tileTaken a.toNat (4 * s.me.csr.grp)) d.toNat s.me.csr.grp 8 (s.each (m == 1) (fun j i =>
      finish s.me.csr.fmt (s.rounding (Claims.index s j i)).1 (s.rounding (Claims.index s j i)).2
        (mulVal (fp32.decode (elemAt (s.tileValue a.toNat (4 * s.me.csr.grp)) (4 * s.me.csr.grp) 32 j i)) (Claims.blockFactor s true (Claims.index s j i))))) := by
  obtain ⟨hv, -⟩ := id h
  obtain ⟨hasrc, hafits, -⟩ := id ha
  obtain ⟨hdst, hdfits, -⟩ := id hd
  rw [tileTaken_dstOk] at hdst
  rw [tileFits_congr State.tileTaken_me] at hdfits
  obtain ⟨p, hp, hread, hu, hk0⟩ := readTile_scales hv.2.2 ha
  refine retiresTile_of_elementwise rfl hv State.tileTaken_me hp hd Csr.grp_pos (by decide) (by decide) (fun j i hi => ?_)
    (op := fun e => finish s.me.csr.fmt (s.rounding e).1 (s.rounding e).2
      (mulVal (fp32.decode (elemLin (s.tileValue a.toNat (4 * s.me.csr.grp)) (4 * s.me.csr.grp) 32 s.me.csr.len e)) (Claims.blockFactor s true e))) ?_
  · rw [elemLin_index hi]
    rfl
  · unfold vqntBody
    rw [exec_bind_ok (checkScaled_ok h), exec_getState_bind, exec_bind_ok (require_of (beq_iff_eq.2 hk)), exec_bind_ok (checkTileSrc_ok hasrc hafits),
      exec_bind_ok (checkTileDst_ok hdst hdfits), exec_bind_ok (checkDisjoint_ok hda), exec_bind_ok hread, exec_getState_bind, hk0]
    simp only [hu.2]
    congr 1
    funext e
    exact congrArg (finish _ _ _) (scaleBy_blockFactor (invert := true) rfl rfl)

/-- VDQNT multiplies by the block's scale and delivers to the format of its code (R200). -/
theorem vdqnt_retires (h : Claims.scaled s) (ha : s.tileHere a.toNat s.me.csr.grp)
    (hd : (s.tileTaken a.toNat s.me.csr.grp).tileRoom d.toNat (s.me.csr.grp * Claims.codeBits k.toNat / 8))
    (hda : s.apart d.toNat (s.me.csr.grp * Claims.codeBits k.toNat / 8) a.toNat s.me.csr.grp) :
    s.retiresTile (.vdqnt d a k m) (s.tileTaken a.toNat s.me.csr.grp) d.toNat (s.me.csr.grp * Claims.codeBits k.toNat / 8) (Claims.codeBits k.toNat)
      (s.each (m == 1) (fun j i => finish (codeFmt k.toNat 0) (s.rounding (Claims.index s j i)).1 (s.rounding (Claims.index s j i)).2
        (mulVal (s.me.csr.fmt.decode (Claims.elem s a.toNat j i)) (Claims.blockFactor s false (Claims.index s j i))))) := by
  obtain ⟨hv, hsew, -⟩ := id h
  obtain ⟨hasrc, hafits, -⟩ := id ha
  obtain ⟨hdst, hdfits, -⟩ := id hd
  rw [tileTaken_dstOk] at hdst
  rw [tileFits_congr State.tileTaken_me] at hdfits
  obtain ⟨p, hp, hread, hu, hk0⟩ := readTile_scales hv.2.2 ha
  obtain ⟨hge, hdvd⟩ := codeBits_ge_dvd k.toNat
  have hpos : 0 < s.me.csr.grp * Claims.codeBits k.toNat / 8 := Nat.div_pos (hge.trans (Nat.le_mul_of_pos_left _ Csr.grp_pos)) (by omega)
  refine retiresTile_of_elementwise rfl hv State.tileTaken_me hp hd hpos (by omega) hdvd (fun j i hi => ?_)
    (op := fun e => finish (codeFmt k.toNat 0) (s.rounding e).1 (s.rounding e).2
      (mulVal (s.me.csr.fmt.decode (elemLin (s.tileValue a.toNat s.me.csr.grp) s.me.csr.grp 8 s.me.csr.len e)) (Claims.blockFactor s false e))) ?_
  · rw [elemLin_index hi, ← hsew]
    rfl
  · unfold vdqntBody
    rw [exec_bind_ok (checkScaled_ok h), exec_getState_bind, codeWidth_eq, exec_bind_ok (checkTileSrc_ok hasrc hafits),
      exec_bind_ok (checkTileDst_ok hdst hdfits), exec_bind_ok (checkDisjoint_ok hda), exec_bind_ok hread, exec_getState_bind, hk0]
    simp only [hu.2]
    congr 1
    funext e
    exact congrArg (finish _ _ _) (scaleBy_blockFactor (invert := false) rfl rfl)

end

/-! ## VBSCALE (R200) -/

theorem blockScale_lt (top : Val) (vs : List Val) : blockScale top vs < 256 := by
  unfold blockScale
  split
  · decide
  · split
    · split
      · decide
      · dsimp only
        omega
    · decide

/-- Bit `n` of a word with a field replaced. -/
theorem getLsbD_setField {w lo len v n : Nat} {x : BitVec w} (hn : n < w) :
    (setField x lo len v).getLsbD n = if lo ≤ n ∧ n < lo + len then v.testBit (n - lo) else x.getLsbD n := by
  unfold setField
  dsimp only
  rw [BitVec.getLsbD_or, BitVec.getLsbD_and, BitVec.getLsbD_not, BitVec.getLsbD_ofNat, BitVec.getLsbD_ofNat, Nat.testBit_mul_two_pow, Nat.testBit_mul_two_pow,
    Nat.testBit_two_pow_sub_one, Nat.testBit_mod_two_pow]
  by_cases hlo : lo ≤ n
  · by_cases hhi : n < lo + len
    · simp [hn, hlo, hhi, (by omega : n - lo < len)]
    · rw [if_neg (by omega), decide_eq_false (by omega : ¬n - lo < len)]
      simp [hn]
  · simp [hn, hlo]

theorem scaleEntry_testBit {q : KReg} {b n : Nat} : (scaleEntry q b).testBit n = (decide (n < 8) && q.getLsbD (8 * b + n)) := by
  unfold scaleEntry field
  rw [BitVec.extractLsb'_toNat, Nat.testBit_mod_two_pow, Nat.testBit_shiftRight]
  rfl

/-- One byte set leaves every other as it is. -/
theorem scaleEntry_setField {q : KReg} {i b v : Nat} (hb : b < 256) (hv : v < 256) :
    scaleEntry (setField q (8 * i) 8 v) b = if b = i then v else scaleEntry q b := by
  refine Nat.eq_of_testBit_eq fun n => ?_
  rw [scaleEntry_testBit]
  by_cases hn : n < 8
  · rw [getLsbD_setField (by omega)]
    by_cases hbi : b = i
    · subst hbi
      simp [hn]
    · rw [if_neg (by omega), if_neg hbi, scaleEntry_testBit]
  · have hlarge : v < 2 ^ n := lt_of_lt_of_le hv (Nat.pow_le_pow_right (n := 2) (by omega) (Nat.le_of_not_lt hn))
    split
    · simp [hn, Nat.testBit_lt_two_pow hlarge]
    · rw [scaleEntry_testBit]
      simp [hn]

/-- The entries of a scale register set one after another. -/
theorem scaleEntry_foldl {entry : Nat → Nat} (hlt : ∀ i, entry i < 256) {b : Nat} (hb : b < 256) : ∀ (l : List Nat) (q : KReg),
    scaleEntry (l.foldl (fun k i => setField k (8 * i) 8 (entry i)) q) b = if b ∈ l then entry b else scaleEntry q b := by
  intro l
  induction l with
  | nil => simp
  | cons i l ih =>
    intro q
    rw [List.foldl_cons, ih, scaleEntry_setField hb (hlt i)]
    by_cases hl : b ∈ l
    · simp [hl]
    · by_cases hbi : b = i
      · subst hbi
        simp [hl]
      · simp [hl, hbi]

/-- The blocks that elements 0 to n − 1 make (R59). -/
theorem lt_blocks {n c b : Nat} (hc : 0 < c) : b < (n + c - 1) / c ↔ b * c < n := by
  rw [Nat.lt_div_iff_mul_lt hc]
  omega

section
variable {s : State} {d a k : BitVec 7} {kd : BitVec 3} {m : BitVec 1}

/-- Element `e` of the strip is performed where the instruction has no mask, or its bit of p0 is set (R186). -/
def State.performs (s : State) (m : BitVec 1) (e : Nat) : Bool := m == 0 || Claims.lane (s.me.readP 0) (e / s.me.csr.len) (e % s.me.csr.len)

/-- An instruction under way performs the elements that it would where it started. -/
theorem midway_active {t : State} {o : Option Saved} {n : Word} (hme : t.me = s.me) (ho : OperandsOnly o) (e : Nat) :
    (t.midway o n).me.active (m == 1) e = s.performs m e := by
  unfold State.performs Hart.active predBit Claims.lane
  rw [ho.issued_of_me hme, Nat.mul_comm 1024]
  have hmask : (!(m == 1)) = (m == 0) := by
    revert m
    decide
  rw [hmask, show (t.midway o n).me.csr.len = s.me.csr.len from congrArg (fun h => h.csr.len) hme]
  rfl

/-- Element `e` of a tile of FP32 elements, as VBSCALE reads it (R200). -/
def State.wideVal (s : State) (a e : Nat) : Val :=
  fp32.decode (elemAt (s.tileValue a (4 * s.me.csr.grp)) (4 * s.me.csr.grp) 32 (e / s.me.csr.len) (e % s.me.csr.len))

/-- The scale of block `b` of that tile (R200). -/
def State.blockEntry (s : State) (m : BitVec 1) (a b : Nat) : Nat :=
  blockScale (s.me.csr.fmt.decode s.me.csr.fmt.maxMag)
    (((range (b * 2 ^ s.me.csr.blk) (2 ^ s.me.csr.blk)).filter (fun e => decide (e < s.me.csr.rows * s.me.csr.len) && s.performs m e)).map (s.wideVal a))

/-- kD as VBSCALE leaves it: the entries of the blocks set, one after another. -/
def State.scaleReg (s : State) (m : BitVec 1) (a n : Nat) : KReg :=
  (range 0 ((s.me.csr.rows * s.me.csr.len + 2 ^ s.me.csr.blk - 1) / 2 ^ s.me.csr.blk)).foldl (fun q i => setField q (8 * i) 8 (s.blockEntry m a i)) (s.me.readK n)

/-- Each block has its own entry, and the other entries stay (R59, R200). -/
theorem scaleReg_entry {n c b : Nat} (hb : b < 256) :
    (s.scaleReg m c n).toNat / 2 ^ (8 * b) % 256 =
      if b * 2 ^ s.me.csr.blk < s.me.csr.rows * s.me.csr.len then s.blockEntry m c b else (s.me.readK n).toNat / 2 ^ (8 * b) % 256 := by
  unfold State.scaleReg
  rw [← scaleEntry_eq, ← scaleEntry_eq, scaleEntry_foldl (entry := s.blockEntry m c) (fun _ => blockScale_lt _ _) hb]
  simp only [range_eq_range', List.mem_range'_1, Nat.zero_le, Nat.zero_add, true_and, lt_blocks (Nat.two_pow_pos _)]

/-- `s` with `q` in a scale register. -/
def State.writeK (s : State) (n : Nat) (q : KReg) : State := { s with me := s.me.writeK n q }

/-- NV where an element that is performed is signalling (R52). -/
def State.blockFlags (s : State) (m : BitVec 1) (a : Nat) : Nat :=
  nvIf ((range 0 (s.me.csr.rows * s.me.csr.len)).any (fun e => s.performs m e && (s.wideVal a e).signals))

/-- VBSCALE writes its entries to kD, and raises NV for a signalling element that is performed (R52, R200). -/
theorem vbscale_retires (h : Claims.scaled s) (hk : k.toNat = fkCode s.me.csr) (hstart : s.me.csr.vstart = 0) (ha : s.tileHere a.toNat (4 * s.me.csr.grp)) :
    s.retiresWith (.vbscale kd a k m) ((s.tileTaken a.toNat (4 * s.me.csr.grp)).writeK kd.toNat (s.scaleReg m a.toNat kd.toNat)) (s.blockFlags m a.toNat) := by
  obtain ⟨hv, -⟩ := id h
  obtain ⟨hasrc, hafits, -⟩ := id ha
  obtain ⟨p, hp, hread, -⟩ := readTile_first hv.2.2 ha
  obtain ⟨q, hraise, hq⟩ := raiseSaved_midway (t := (s.tileTaken a.toNat (4 * s.me.csr.grp)).writeK kd.toNat (s.scaleReg m a.toNat kd.toNat)) (o := p)
    (n := s.me.csr.vstart) (s.blockFlags m a.toNat)
  have hflags : savedFlags q = BitVec.ofNat 64 (s.blockFlags m a.toNat) := by
    rw [hq, hp.savedFlags]
    exact BitVec.zero_or
  have hstart0 : checkStart0 s = .ok () s := require_of (by rw [hstart]; rfl)
  have hme : (s.tileTaken a.toNat (4 * s.me.csr.grp)).me = s.me := State.tileTaken_me
  have hold : ((s.tileTaken a.toNat (4 * s.me.csr.grp)).midway p s.me.csr.vstart).me.readK kd.toNat = s.me.readK kd.toNat := congrArg (fun h => h.readK kd.toNat) hme
  refine ⟨q, hflags, hv.runVector_eq (body := vbscaleBody kd a k m) ?_⟩
  rw [Hart.withSaved_eq_midway, show (State.writeK _ _ _).me.csr.vstart = s.me.csr.vstart from congrArg (fun h => h.csr.vstart) hme]
  refine Eq.trans ?_ hraise
  unfold vbscaleBody
  rw [exec_bind_ok (checkScaled_ok h), exec_getState_bind, exec_bind_ok (require_of (beq_iff_eq.2 hk)), exec_bind_ok hstart0, exec_bind_ok (checkTileSrc_ok hasrc hafits),
    exec_bind_ok hread, exec_getState_bind, exec_modMe_bind]
  simp only [midway_active hme hp, hold]
  rfl

end

/-- Settles O31: each conversion, VINDEX and the three block-scale instructions run bodies whose elements are those of their codes. -/
theorem conversionsDeliverTheirFormat : Obligations.ConversionsDeliverTheirFormat := by
  unfold Obligations.ConversionsDeliverTheirFormat
  refine ⟨fun d a k m x9 y9 s hv hblk => ⟨fun p hp hcode hfmt h14 hgw ha hd hda => ?_, vindex_retires hv hblk⟩, fun d a k kd m s h => ⟨vqnt_retires h, fun _ _ => vdqnt_retires h,
    fun hk hstart ha => ⟨s.scaleReg m a.toNat kd.toNat, fun b hb => scaleReg_entry hb, vbscale_retires h hk hstart ha⟩⟩⟩
  obtain ⟨fn, hexec, hfn, hval⟩ := exec_conversions hp
  have helem (j i : Nat) : Claims.elem s a.toNat j i < 2 ^ s.me.csr.sew := elemAt_lt
  have hret := convert_retires hv hblk (fun h => hfmt (hfn h)) h14 hgw ha hd hda (hexec d a k m s)
  simpa only [hval s.me.csr k.toNat _ _ _ hcode (helem _ _)] using hret

end Sys2Proof.Machine

end

section
/-! PROOFS. Sums of nodes (R74–R77): what the model's lists of nodes compute is the sum of the statements, in ascending order, by the tree, by doubling, or in some
association. A signalling start raises NV in the first addition that it enters, so its own flag is in every sum of at least one element. -/

namespace Sys2Proof.Machine

open Sys2Proof

/-! ## Flags of an addition -/

section
variable {f : Fmt} {mode r x y : Nat}

theorem or_or_self (x y : Nat) : x ||| y ||| y = x ||| y := by rw [Nat.or_assoc, Nat.or_self]

/-- The flags of an addition hold those of its exact sum. -/
theorem fAdd_flags_or {fl : Nat} (h : (addVal mode (f.decode x) (f.decode y)).2 ||| fl = (addVal mode (f.decode x) (f.decode y)).2) :
    (fAdd f mode r x y).2 ||| fl = (fAdd f mode r x y).2 := by
  show (_ ||| _) ||| fl = _ ||| _
  rw [Nat.or_assoc, h]

/-- A signalling first operand raises NV (R52, R164). -/
theorem fAdd_raises_left : (fAdd f mode r x y).2 ||| nvIf (f.decode x).signals = (fAdd f mode r x y).2 := by
  refine fAdd_flags_or ?_
  cases f.decode x with
  | nan s => cases s <;> simp [addVal, Val.signals, nvIf]
  | inf _ => simp [Val.signals, nvIf]
  | num _ _ _ _ => simp [Val.signals, nvIf]

/-- So does a signalling second operand. -/
theorem fAdd_raises_right : (fAdd f mode r x y).2 ||| nvIf (f.decode y).signals = (fAdd f mode r x y).2 := by
  refine fAdd_flags_or ?_
  cases f.decode y with
  | nan s => cases f.decode x <;> cases s <;> simp [addVal, Val.signals, nvIf]
  | inf _ => simp [Val.signals, nvIf]
  | num _ _ _ _ => simp [Val.signals, nvIf]

end

section
variable {s u : State} {start fl : Nat}

theorem startFlags_eq : Claims.startFlags s start = nvIf (s.me.csr.fmt.decode start).signals := rfl

theorem addNodes_raises_left {x y : Node} : (addNodes s x y).2 ||| Claims.startFlags s x.val = (addNodes s x y).2 := fAdd_raises_left
theorem addNodes_raises_right {x y : Node} : (addNodes s x y).2 ||| Claims.startFlags s y.val = (addNodes s x y).2 := fAdd_raises_right

/-! ## The same sums in a state under way -/

theorem addNodes_congr (h : u.computesAs s) : addNodes u = addNodes s := by
  funext x y
  unfold addNodes
  simp only [h.1, h.2]

theorem combine_congr (h : u.computesAs s) : combine u = combine s := by
  funext x y
  unfold combine
  rw [addNodes_congr h]

theorem ascending_congr (h : u.computesAs s) {l : List Node} {t : Node} : ascending u t l = ascending s t l := by
  induction l generalizing t with
  | nil => rfl
  | cons x l ih => rw [ascending, ascending, addNodes_congr h, ih]

theorem treeLevel_congr (h : u.computesAs s) {l : List (Option Node)} : treeLevel u l = treeLevel s l := by
  induction l using treeLevel.induct u with
  | case1 => rfl
  | case2 x => rfl
  | case3 x y r ih => rw [treeLevel, treeLevel, combine_congr h, ih]

theorem treeRoot_congr (h : u.computesAs s) {n : Nat} {l : List (Option Node)} : treeRoot u n l = treeRoot s n l := by
  induction n generalizing l with
  | zero => rfl
  | succ n ih => rw [treeRoot, treeRoot, treeLevel_congr h, ih]

theorem doubling_congr (h : u.computesAs s) {n d : Nat} {l : List (Option Node)} : doubling u n d l = doubling s n d l := by
  induction n generalizing d l with
  | zero => rfl
  | succ n ih =>
    unfold doubling doublingStep
    rw [combine_congr h]
    simp only [ih]

theorem chosenSum_congr (h : u.computesAs s) {n k : Nat} {l : List Node} : chosenSum u n k l = chosenSum s n k l := by
  induction n generalizing k l with
  | zero => rfl
  | succ n ih =>
    match l with
    | [] => rfl
    | [x] => rfl
    | x :: y :: l =>
      unfold chosenSum
      simp only [addNodes_congr h, ih]

/-! ## Ascending sums (R74) -/

/-- One addition of an ascending sum: the draw is that of the element added. -/
def sumStep (s : State) (t x : Nat × Nat) : Nat × Nat :=
  let q := fAdd s.me.csr.fmt (s.rounding x.2).1 (s.rounding x.2).2 t.1 x.1
  (q.1, t.2 ||| q.2)

theorem sumUp_eq {xs : List (Nat × Nat)} : Claims.sumUp s start xs = xs.foldl (sumStep s) (start, Claims.startFlags s start) := rfl

/-- An element with its linear index, as a node of a sum. -/
def elemNode (x : Nat × Nat) : Node := ⟨x.1, some x.2⟩

/-- An element later than all that a sum holds gives it its draw. -/
theorem addNodes_later {t : Node} {x : Nat × Nat} (h : ∀ k, t.idx = some k → k ≤ x.2) :
    addNodes s t (elemNode x) = (⟨(sumStep s (t.val, fl) x).1, some x.2⟩, (fAdd s.me.csr.fmt (s.rounding x.2).1 (s.rounding x.2).2 t.val x.1).2) := by
  have hidx : joinIdx t.idx (some x.2) = some x.2 := by
    unfold joinIdx
    cases hk : t.idx with
    | none => rfl
    | some k => exact congrArg some (Nat.max_eq_right (h k hk))
  unfold addNodes elemNode
  dsimp only
  rw [hidx]
  rfl

/-- The elements of a sum stand in ascending order, behind what the sum holds already. -/
def AscendFrom (i : Option Nat) (xs : List (Nat × Nat)) : Prop := (∀ k, i = some k → ∀ x ∈ xs, k ≤ x.2) ∧ xs.Pairwise (fun x y => x.2 < y.2)

theorem AscendFrom.cons {i : Option Nat} {x : Nat × Nat} {xs : List (Nat × Nat)} (h : AscendFrom i (x :: xs)) :
    (∀ k, i = some k → k ≤ x.2) ∧ AscendFrom (some x.2) xs := by
  obtain ⟨hi, hp⟩ := h
  rw [List.pairwise_cons] at hp
  exact ⟨fun k hk => hi k hk x (List.mem_cons_self ..), fun k hk y hy => by cases hk; exact Nat.le_of_lt (hp.1 y hy), hp.2⟩

/-- The last partial sum of the model's ascending sums is the ascending sum, and its flags are those of all of them. -/
theorem ascending_sum {xs : List (Nat × Nat)} {t : Node} (h : AscendFrom t.idx xs) :
    (((ascending s t (xs.map elemNode)).getLast?).map (·.1.val)).getD t.val = (xs.foldl (sumStep s) (t.val, fl)).1 ∧
    (ascending s t (xs.map elemNode)).foldl (fun a e => a ||| e.2) fl = (xs.foldl (sumStep s) (t.val, fl)).2 := by
  induction xs generalizing t fl with
  | nil => exact ⟨rfl, rfl⟩
  | cons x xs ih =>
    obtain ⟨hx, hxs⟩ := h.cons
    have hnext := ih (t := ⟨(sumStep s (t.val, fl) x).1, some x.2⟩) (fl := (sumStep s (t.val, fl) x).2) hxs
    rw [List.map_cons, ascending, addNodes_later (fl := fl) hx]
    refine ⟨?_, hnext.2⟩
    rw [List.foldl_cons, ← hnext.1, List.getLast?_cons]
    cases (ascending s _ (xs.map elemNode)).getLast? <;> rfl

theorem ascending_length {l : List Node} {t : Node} : (ascending s t l).length = l.length := by
  induction l generalizing t with
  | nil => rfl
  | cons x l ih => simp [ascending, ih]

/-- The partial sums of a list's beginning are the first ones of the list. -/
theorem ascending_prefix {l r : List Node} {t : Node} : ∃ q, ascending s t (l ++ r) = ascending s t l ++ q := by
  induction l generalizing t with
  | nil => exact ⟨_, rfl⟩
  | cons x l ih =>
    obtain ⟨q, hq⟩ := ih (t := (addNodes s t x).1)
    exact ⟨q, by rw [List.cons_append, ascending, ascending, hq, List.cons_append]⟩

/-! ## The tree (R75) -/

theorem combine_none_right {x : Option Node} : combine s x none = (x, 0) := by cases x <;> rfl

theorem combine_eq_none {x y : Option Node} (h : (combine s x y).1 = none) : x = none ∧ y = none ∧ (combine s x y).2 = 0 := by
  cases x with
  | none => exact ⟨rfl, h, rfl⟩
  | some x => cases y <;> exact nomatch h

theorem tree_absent {leaf : Nat → Option Node} {n lo : Nat} (h : ∀ i, lo ≤ i → leaf i = none) : Claims.tree s leaf n lo = (none, 0) := by
  induction n generalizing lo with
  | zero => rw [Claims.tree, h lo (Nat.le_refl _)]
  | succ n ih =>
    rw [Claims.tree, ih h, ih fun i hi => h i (Nat.le_of_add_right_le hi)]
    simp [combine]

/-- A tree without a present leaf raises nothing. -/
theorem tree_flags_of_none {leaf : Nat → Option Node} {n lo : Nat} (h : (Claims.tree s leaf n lo).1 = none) : (Claims.tree s leaf n lo).2 = 0 := by
  induction n generalizing lo with
  | zero => rfl
  | succ n ih =>
    rw [Claims.tree] at h ⊢
    obtain ⟨hx, hy, hc⟩ := combine_eq_none h
    dsimp only
    rw [ih hx, ih hy, hc]
    rfl

/-- The leaves of a tree, combined in pairs. -/
def pairLeaf (s : State) (leaf : Nat → Option Node) (i : Nat) : Option Node × Nat := combine s (leaf (2 * i)) (leaf (2 * i + 1))

/-- The flags of a level's pairs from `lo` on. -/
def pairFlags (s : State) (leaf : Nat → Option Node) (lo n : Nat) : Nat := (range lo n).foldl (fun a i => a ||| (pairLeaf s leaf i).2) 0

theorem range_append {lo m n : Nat} : range lo (m + n) = range lo m ++ range (lo + m) n := by
  simp only [range_eq_range', List.range'_append_1]

theorem pairFlags_add {leaf : Nat → Option Node} {lo m n : Nat} :
    pairFlags s leaf lo (m + n) = pairFlags s leaf lo m ||| pairFlags s leaf (lo + m) n := by
  unfold pairFlags
  rw [range_append, List.foldl_append, foldl_or]

/-- A tree is the tree over the pairs of its leaves. -/
theorem tree_pairs {leaf : Nat → Option Node} {n lo : Nat} :
    Claims.tree s leaf (n + 1) (2 * lo) =
      ((Claims.tree s (fun i => (pairLeaf s leaf i).1) n lo).1, (Claims.tree s (fun i => (pairLeaf s leaf i).1) n lo).2 ||| pairFlags s leaf lo (2 ^ n)) := by
  induction n generalizing lo with
  | zero =>
    simp only [Claims.tree, pairFlags, range, pairLeaf, List.foldl_cons, List.foldl_nil, pow_zero, Nat.zero_or]
  | succ n ih =>
    have hright : 2 * lo + 2 ^ (n + 1) = 2 * (lo + 2 ^ n) := by rw [Nat.pow_succ]; ring
    rw [Claims.tree, hright, ih, ih, Claims.tree, show 2 ^ (n + 1) = 2 ^ n + 2 ^ n by rw [Nat.pow_succ]; ring, pairFlags_add]
    refine Prod.ext rfl ?_
    dsimp only
    ac_rfl

/-- One level of the model's tree holds the pairs of its list, absent positions being absent leaves. -/
theorem treeLevel_getD {l : List (Option Node)} {i : Nat} : (treeLevel s l).1.getD i none = (pairLeaf s (l.getD · none) i).1 := by
  induction l using treeLevel.induct s generalizing i with
  | case1 => rfl
  | case2 x =>
    cases i with
    | zero => exact congrArg Prod.fst combine_none_right.symm
    | succ i => simp [treeLevel, pairLeaf, combine, Nat.mul_add]
  | case3 x y r ih =>
    cases i with
    | zero => rfl
    | succ i => exact ih

theorem treeLevel_length {l : List (Option Node)} : (treeLevel s l).1.length = (l.length + 1) / 2 := by
  induction l using treeLevel.induct s with
  | case1 => rfl
  | case2 x => simp [treeLevel]
  | case3 x y r ih =>
    rw [treeLevel]
    simp only [List.length_cons]
    omega

theorem range_succ_map {lo n : Nat} : range (lo + 1) n = (range lo n).map (· + 1) := by
  rw [range_eq_range', range_eq_range']
  simpa [Nat.add_comm] using (List.map_add_range' (a := 1) lo n 1).symm

theorem pairFlags_succ {leaf : Nat → Option Node} {n : Nat} :
    pairFlags s leaf 0 (n + 1) = (pairLeaf s leaf 0).2 ||| pairFlags s (fun i => leaf (i + 2)) 0 n := by
  unfold pairFlags
  rw [range, List.foldl_cons, foldl_or, range_succ_map, List.foldl_map, Nat.zero_or]
  rfl

theorem treeLevel_flags {l : List (Option Node)} {n : Nat} (h : l.length ≤ 2 * n) : (treeLevel s l).2 = pairFlags s (l.getD · none) 0 n := by
  induction l using treeLevel.induct s generalizing n with
  | case1 => exact (foldl_or_zero (fun _ => rfl) _).symm
  | case2 x =>
    obtain ⟨n, rfl⟩ : ∃ m, n = m + 1 := ⟨n - 1, by simp at h; omega⟩
    rw [pairFlags_succ]
    have hfirst : (pairLeaf s ([x].getD · none) 0).2 = 0 := congrArg Prod.snd combine_none_right
    rw [hfirst, Nat.zero_or]
    exact (foldl_or_zero (fun _ => rfl) _).symm
  | case3 x y r ih =>
    obtain ⟨n, rfl⟩ : ∃ m, n = m + 1 := ⟨n - 1, by simp at h; omega⟩
    rw [pairFlags_succ, treeLevel]
    exact congrArg (_ ||| ·) (ih (by simp at h; omega))

/-- The model's tree over a list is the tree over its positions. -/
theorem treeRoot_eq_tree {n : Nat} {l : List (Option Node)} (h : l.length ≤ 2 ^ n) : treeRoot s n l = Claims.tree s (l.getD · none) n 0 := by
  induction n generalizing l with
  | zero => cases l <;> rfl
  | succ n ih =>
    rw [Nat.pow_succ] at h
    have hpairs := tree_pairs (s := s) (leaf := (l.getD · none)) (n := n) (lo := 0)
    rw [Nat.mul_zero] at hpairs
    rw [hpairs, treeRoot, ih (by rw [treeLevel_length]; omega), treeLevel_flags (n := 2 ^ n) (by omega)]
    simp only [treeLevel_getD]
    rw [Nat.or_comm]

/-- A level above the whole tree changes nothing. -/
theorem treeRoot_succ {n : Nat} {l : List (Option Node)} (h : l.length ≤ 2 ^ n) : treeRoot s (n + 1) l = Claims.tree s (l.getD · none) n 0 := by
  rw [treeRoot_eq_tree (by rw [Nat.pow_succ]; omega), Claims.tree,
    tree_absent (lo := 0 + 2 ^ n) fun i hi => List.getD_eq_default _ _ (by omega), combine_none_right]
  simp

/-! ## Doubling (R76) -/

theorem doublingStep_length {d : Nat} {y : List (Option Node)} : (doublingStep s d y).1.length = y.length := by
  simp [doublingStep]

theorem combine_isSome {x y : Option Node} (h : y.isSome = true) : (combine s x y).1.isSome = true := by
  obtain ⟨y, rfl⟩ := Option.isSome_iff_exists.1 h
  cases x <;> rfl

/-- A present element stays present. -/
theorem doublingStep_isSome {d i : Nat} {y : List (Option Node)} (h : (y.getD i none).isSome = true) : ((doublingStep s d y).1.getD i none).isSome = true := by
  have hi : i < y.length := by
    by_contra hn
    rw [List.getD_eq_default _ _ (Nat.le_of_not_lt hn)] at h
    cases h
  have hi' : i < (doublingStep s d y).1.length := by rwa [doublingStep_length]
  rw [List.getD_eq_getElem _ _ hi] at h
  rw [List.getD_eq_getElem _ _ hi']
  simp only [doublingStep, List.getElem_map, List.getElem_zip, range_getElem]
  split
  · exact h
  · exact combine_isSome h

theorem doubling_isSome {n d i : Nat} {y : List (Option Node)} (h : (y.getD i none).isSome = true) : ((doubling s n d y).1.getD i none).isSome = true := by
  induction n generalizing d y with
  | zero => exact h
  | succ n ih =>
    unfold doubling
    split
    · exact h
    · exact ih (doublingStep_isSome h)

theorem doubling_length {n d : Nat} {y : List (Option Node)} : (doubling s n d y).1.length = y.length := by
  induction n generalizing d y with
  | zero => rfl
  | succ n ih =>
    unfold doubling
    split
    · rfl
    · exact ih.trans doublingStep_length

/-! ## Sums in some association (R77) -/

/-- Two members of a list, taken out one after the other. -/
theorem perm_dropNth {α : Type} {l : List α} {i : Nat} {x : α} (hi : i < l.length) : l.Perm (l.getD i x :: dropNth l i) := by
  rw [dropNth_eq_eraseIdx, List.getD_eq_getElem _ _ hi]
  exact (List.getElem_cons_eraseIdx_perm hi).symm

/-- A sum that has two members left takes two of them. -/
theorem chosenSum_step {n k : Nat} {l : List Node} (h : 2 ≤ l.length) : ∃ x y rest, l.Perm (x :: y :: rest) ∧
    chosenSum s (n + 1) k l = ((chosenSum s n (k + 2) ((addNodes s x y).1 :: rest)).1,
      (addNodes s x y).2 ||| (chosenSum s n (k + 2) ((addNodes s x y).1 :: rest)).2) := by
  match l, h with
  | x0 :: x1 :: l, _ =>
    have hfirst := perm_dropNth (x := x0) (Nat.mod_lt (Config.choice k) (show 0 < (x0 :: x1 :: l).length by simp))
    have hlen := hfirst.length_eq
    simp only [List.length_cons] at hlen
    have hrest := perm_dropNth (x := x0) (Nat.mod_lt (Config.choice (k + 1)) (show 0 < (dropNth (x0 :: x1 :: l) (Config.choice k % (x0 :: x1 :: l).length)).length by
      simp only [List.length_cons]; omega))
    exact ⟨_, _, _, hfirst.trans (List.Perm.cons _ hrest), rfl⟩

/-- What the hardware chooses is a sum in some association. -/
theorem chosenSum_sumsTo {n k : Nat} {l : List Node} (h : l ≠ []) (hn : l.length ≤ n + 1) : Claims.sumsTo s n l (chosenSum s (n + 1) k l) := by
  induction n generalizing k l with
  | zero =>
    match l, h with
    | [x], _ => exact ⟨rfl, rfl⟩
    | _ :: _ :: _, _ => simp at hn
  | succ n ih =>
    by_cases h2 : 2 ≤ l.length
    · obtain ⟨x, y, rest, hperm, hsum⟩ := chosenSum_step (s := s) (n := n + 1) (k := k) h2
      have hlen := hperm.length_eq
      simp only [List.length_cons] at hlen
      rw [hsum]
      exact .inr ⟨x, y, rest, _, hperm, ih (List.cons_ne_nil _ _) (by simp only [List.length_cons]; omega), rfl⟩
    · match l, h with
      | [x], _ => exact .inl ⟨rfl, rfl⟩
      | _ :: _ :: _, _ => simp at h2

/-- A signalling member raises NV in a sum of at least two. -/
theorem chosenSum_raises {n k : Nat} {l : List Node} {z : Node} (hz : z ∈ l) (h2 : 2 ≤ l.length) (hn : l.length ≤ n + 1) :
    (chosenSum s (n + 1) k l).2 ||| Claims.startFlags s z.val = (chosenSum s (n + 1) k l).2 := by
  induction n generalizing k l with
  | zero => omega
  | succ n ih =>
    obtain ⟨x, y, rest, hperm, hsum⟩ := chosenSum_step (s := s) (n := n + 1) (k := k) h2
    have hlen := hperm.length_eq
    simp only [List.length_cons] at hlen
    rw [hsum]
    dsimp only
    rcases List.mem_cons.1 (hperm.mem_iff.1 hz) with rfl | hz
    · rw [Nat.or_right_comm, addNodes_raises_left]
    · rcases List.mem_cons.1 hz with rfl | hz
      · rw [Nat.or_right_comm, addNodes_raises_right]
      · rw [Nat.or_assoc, ih (List.mem_cons_of_mem _ hz) (by simp only [List.length_cons]; have := List.length_pos_of_mem hz; omega)
          (by simp only [List.length_cons]; omega)]

/-- The model's choice is a sum of the start and the elements in some association, with what a signalling start raises. -/
theorem chosenSum_associates {k : Nat} {xs : List (Nat × Nat)} :
    let q := chosenSum s (xs.length + 1) k (⟨start, none⟩ :: xs.map elemNode)
    Claims.associates s start xs (q.1.val, q.2 ||| Claims.startFlags s start) :=
  ⟨_, chosenSum_sumsTo (List.cons_ne_nil _ _) (by simp), rfl⟩

end

end Sys2Proof.Machine

end

section
/-! PROOFS. Reductions and scans (O30): a member of VRED checks and reads its tiles, computes each row from its start and its active elements, and puts element 0 of every
row or every active element. -/

namespace Sys2Proof.Machine

open Sys2Proof

/-! ## The rows of the operands (R198) -/

/-- Element i of row j is active below VL. -/
def laneOn (s : State) (m : Bool) (j i : Nat) : Bool := !m || Claims.lane (s.me.readP 0) j i

/-- An element as a member reads it, floating ones by their low bits, with its linear index. -/
def redElem (s : State) (float : Bool) (a j i : Nat) : Nat × Nat := (readWidth s.me.csr float (Claims.elem s a j i), Claims.index s j i)

/-- The active elements among the first `n` of row j. -/
def redItems (s : State) (float m : Bool) (a j n : Nat) : List (Nat × Nat) := ((range 0 n).filter (laneOn s m j)).map (redElem s float a j)

/-- Row j of the operands: the start from B, and the elements of A. -/
def redRow (s : State) (float m : Bool) (a b j : Nat) : RedRow where
  start := readWidth s.me.csr float (Claims.elem2 s a b j 0)
  leaves := (range 0 s.me.csr.len).map (fun i => if laneOn s m j i then some (elemNode (redElem s float a j i)) else none)

section
variable {s t : State} {float m : Bool} {a b d j n : Nat}

theorem filterMap_ite {α β : Type} {p : α → Bool} {f : α → β} {l : List α} :
    (l.map (fun x => if p x then some (f x) else none)).filterMap id = (l.filter p).map f := by
  induction l with
  | nil => rfl
  | cons x l ih => by_cases h : p x = true <;> simp_all

theorem redRow_take (hn : n ≤ s.me.csr.len) : ((redRow s float m a b j).leaves.take n).filterMap id = (redItems s float m a j n).map elemNode := by
  obtain ⟨k, hk⟩ := Nat.exists_eq_add_of_le hn
  unfold redRow redItems
  dsimp only
  rw [hk, range_append, List.map_append, List.take_left' (by simp), filterMap_ite, List.map_map]
  rfl

theorem redRow_items : (redRow s float m a b j).items = (redItems s float m a j s.me.csr.len).map elemNode := by
  rw [← redRow_take (b := b) (Nat.le_refl _), List.take_of_length_le (by simp [redRow])]
  rfl

theorem redRow_leaf {i : Nat} : (redRow s float m a b j).leaves.getD i none =
    if i < s.me.csr.len ∧ laneOn s m j i = true then some (elemNode (redElem s float a j i)) else none := by
  unfold redRow
  by_cases hi : i < s.me.csr.len
  · rw [range_map_getD hi]
    simp [hi]
  · rw [List.getD_eq_default _ _ (by simpa using hi)]
    simp [hi]

theorem redRow_length : (redRow s float m a b j).leaves.length = s.me.csr.len := by simp [redRow]

/-- The elements of a row stand in ascending order. -/
theorem redItems_ascend : AscendFrom none (redItems s float m a j n) := by
  refine ⟨nofun, ?_⟩
  unfold redItems
  rw [range_eq_range', List.pairwise_map]
  exact (List.pairwise_lt_range' (s := 0) (n := n)).filter _ |>.imp fun h => Nat.add_lt_add_left h _

/-- The row of the statements, its elements read as the member reads them. -/
theorem row_eq_redItems : (Claims.row s a m j).map (fun e => (readWidth s.me.csr float e.1, e.2)) = redItems s float m a j s.me.csr.len := by
  unfold Claims.row redItems
  rw [List.map_map]
  rfl

/-- The elements of a row up to one of them. -/
theorem row_upTo {i : Nat} (hi : i < s.me.csr.len) :
    ((Claims.row s a m j).filter (fun e => e.2 ≤ Claims.index s j i)).map (fun e => (readWidth s.me.csr float e.1, e.2)) = redItems s float m a j (i + 1) := by
  obtain ⟨k, hk⟩ := Nat.exists_eq_add_of_le (Nat.succ_le_of_lt hi)
  have hfirst : ∀ l ∈ range 0 (i + 1), decide (Claims.index s j l ≤ Claims.index s j i) = true := fun l hl => by
    have := range_lt hl
    exact decide_eq_true (Nat.add_le_add_left (by omega) _)
  have hrest : ∀ l ∈ range (0 + (i + 1)) k, decide (Claims.index s j l ≤ Claims.index s j i) = false := fun l hl => by
    rw [range_eq_range', List.mem_range'_1] at hl
    exact decide_eq_false (Nat.not_le.2 (Nat.add_lt_add_left (by omega) _))
  unfold Claims.row redItems
  rw [List.filter_map, List.filter_filter, List.map_map, hk, range_append, List.filter_append]
  rw [List.filter_congr (q := laneOn s m j) fun l hl => by rw [Function.comp, hfirst l hl, Bool.true_and]; rfl,
    List.filter_congr (l := range (0 + (i + 1)) k) (q := fun _ => false) fun l hl => by rw [Function.comp, hrest l hl, Bool.false_and]]
  simp only [List.filter_false, List.append_nil]
  rfl

end

/-! ## Rows reduced -/

section
variable {s u : State} {m : Bool} {a b j k : Nat}

theorem reduceRow_congr (h : u.computesAs s) {fn : Nat} {r : RedRow} : reduceRow fn u k r = reduceRow fn s k r := by
  have hasc : ascending u = ascending s := by funext t l; exact ascending_congr h
  have htree : treeRoot u = treeRoot s := by funext n l; exact treeRoot_congr h
  have hsum : chosenSum u = chosenSum s := by funext n k l; exact chosenSum_congr h
  unfold reduceRow
  rw [h.1, hasc, htree, hsum, addNodes_congr h]

/-- VREDO sums in ascending order (R74). -/
theorem reduceRow_ascending : reduceRow 0 s k (redRow s true m a b j) =
    Claims.sumUp s (readWidth s.me.csr true (Claims.elem2 s a b j 0)) (redItems s true m a j s.me.csr.len) := by
  have h := ascending_sum (s := s) (t := ⟨readWidth s.me.csr true (Claims.elem2 s a b j 0), none⟩)
    (fl := Claims.startFlags s (readWidth s.me.csr true (Claims.elem2 s a b j 0))) (redItems_ascend (s := s) (float := true) (m := m) (a := a) (j := j) (n := s.me.csr.len))
  unfold reduceRow
  dsimp only
  rw [redRow_items]
  exact Prod.ext h.1 h.2

/-- VREDT sums by the tree (R75). -/
theorem reduceRow_tree {leaf : Nat → Option Node} (hlen : s.me.csr.len ≤ 1024)
    (hleaf : ∀ i, leaf i = (redRow s true m a b j).leaves.getD i none) : reduceRow 1 s k (redRow s true m a b j) =
      match (Claims.tree s leaf 10 0).1 with
      | none => (readWidth s.me.csr true (Claims.elem2 s a b j 0), Claims.startFlags s (readWidth s.me.csr true (Claims.elem2 s a b j 0)))
      | some x =>
        let q := addNodes s ⟨readWidth s.me.csr true (Claims.elem2 s a b j 0), none⟩ x
        (q.1.val, (Claims.tree s leaf 10 0).2 ||| q.2) := by
  rw [funext hleaf]
  unfold reduceRow
  dsimp only
  rw [treeRoot_succ (n := 10) (by rw [redRow_length]; exact hlen)]
  cases hroot : (Claims.tree s ((redRow s true m a b j).leaves.getD · none) 10 0).1 with
  | none =>
    dsimp only
    rw [tree_flags_of_none hroot, Nat.zero_or]
    rfl
  | some x =>
    refine Prod.ext rfl ?_
    show _ ||| _ ||| Claims.startFlags s _ = _
    rw [Nat.or_assoc]
    exact congrArg (_ ||| ·) (addNodes_raises_left (x := ⟨_, none⟩))

/-- VREDU sums in some association (R77). -/
theorem reduceRow_chosen : Claims.associates s (readWidth s.me.csr true (Claims.elem2 s a b j 0)) (redItems s true m a j s.me.csr.len)
    (reduceRow 2 s k (redRow s true m a b j)) := by
  unfold reduceRow
  dsimp only
  rw [redRow_items, List.length_map]
  exact chosenSum_associates

/-- A fold of whole numbers raises no flag. -/
theorem foldl_pair_zero {α β : Type} {f : α → β → α} {l : List β} {x : α} :
    l.foldl (fun (u : α × Nat) y => (f u.1 y, u.2 ||| 0)) (x, 0) = (l.foldl f x, 0) := by
  induction l generalizing x with
  | nil => rfl
  | cons y l ih =>
    rw [List.foldl_cons, Nat.or_zero]
    exact ih

/-- A reduction of whole numbers, as a fold over the row. -/
theorem reduceRow_whole {fn : Nat} {f : Nat → Nat → Nat} (h : ∀ r : RedRow, reduceRow fn s k r = (r.items.foldl (fun t x => f t x.val) r.start, 0)) :
    reduceRow fn s k (redRow s false m a b j) =
      (redItems s false m a j s.me.csr.len).foldl (fun u x => (f u.1 x.1, u.2 ||| 0)) (readWidth s.me.csr false (Claims.elem2 s a b j 0), 0) := by
  rw [h, redRow_items, List.foldl_map, foldl_pair_zero (f := fun t (x : Nat × Nat) => f t x.1)]
  rfl

/-- VFREDMIN and VFREDMAX, as a fold over the row. -/
theorem reduceRow_minMax {fn : Nat} {big : Bool} (h : ∀ r : RedRow, reduceRow fn s k r =
      r.items.foldl (fun t x => ((minMax s.me.csr.fmt big t.1 x.val).1, t.2 ||| (minMax s.me.csr.fmt big t.1 x.val).2)) (r.start, Claims.startFlags s r.start)) :
    reduceRow fn s k (redRow s true m a b j) =
      (redItems s true m a j s.me.csr.len).foldl (fun u x => ((minMax s.me.csr.fmt big u.1 x.1).1, u.2 ||| (minMax s.me.csr.fmt big u.1 x.1).2))
        (readWidth s.me.csr true (Claims.elem2 s a b j 0), Claims.startFlags s (readWidth s.me.csr true (Claims.elem2 s a b j 0))) := by
  rw [h, redRow_items, List.foldl_map]
  rfl

theorem toSigned_eq {w x : Nat} (hw : 0 < w) : toSigned w x = (BitVec.ofNat w x).toInt := by
  rw [← toSigned_toNat hw, BitVec.toNat_ofNat]
  unfold toSigned
  rw [Nat.mod_mod]

/-- Each reduction that folds a function over the row has a number of its own, by which it reads floating elements or whole ones (R198). -/
theorem exec_folds {p : _} (hp : p ∈ Claims.folds) : ∃ fn, fn ≠ 2 ∧ fn ≠ 10 ∧ vredFloats fn = p.2.1 ∧ (∀ d a b m s, exec (p.1 d a b m) s = runVector (reduceBody fn d a b m) s) ∧
    ∀ s k m a b j, reduceRow fn s k (redRow s p.2.1 m a b j) =
      (redItems s p.2.1 m a j s.me.csr.len).foldl (fun u x => let q := p.2.2 s u.1 x.1; (q.1, u.2 ||| q.2))
        (readWidth s.me.csr p.2.1 (Claims.elem2 s a b j 0), if p.2.1 then Claims.startFlags s (readWidth s.me.csr p.2.1 (Claims.elem2 s a b j 0)) else 0) := by
  simp only [Claims.folds, List.mem_cons, List.not_mem_nil, or_false] at hp
  rcases hp with rfl | rfl | rfl | rfl | rfl | rfl | rfl
  · exact ⟨3, by decide, by decide, rfl, fun _ _ _ _ _ => rfl, fun _ _ _ _ _ _ => reduceRow_minMax fun _ => rfl⟩
  · exact ⟨4, by decide, by decide, rfl, fun _ _ _ _ _ => rfl, fun _ _ _ _ _ _ => reduceRow_minMax fun _ => rfl⟩
  · exact ⟨5, by decide, by decide, rfl, fun _ _ _ _ _ => rfl, fun s _ _ _ _ _ => reduceRow_whole (f := fun x y => (x + y) % 2 ^ s.me.csr.sew) fun _ => rfl⟩
  · exact ⟨6, by decide, by decide, rfl, fun _ _ _ _ _ => rfl, fun s _ _ _ _ _ => reduceRow_whole
      (f := fun x y => if (BitVec.ofNat s.me.csr.sew y).slt (BitVec.ofNat s.me.csr.sew x) then y else x) fun r => by
        simp only [BitVec.slt_iff_toInt_lt, ← toSigned_eq Csr.sew_pos]
        rfl⟩
  · exact ⟨7, by decide, by decide, rfl, fun _ _ _ _ _ => rfl, fun s _ _ _ _ _ => reduceRow_whole
      (f := fun x y => if (BitVec.ofNat s.me.csr.sew x).slt (BitVec.ofNat s.me.csr.sew y) then y else x) fun r => by
        simp only [BitVec.slt_iff_toInt_lt, ← toSigned_eq Csr.sew_pos]
        rfl⟩
  · exact ⟨12, by decide, by decide, rfl, fun _ _ _ _ _ => rfl, fun _ _ _ _ _ _ => reduceRow_whole fun _ => rfl⟩
  · exact ⟨13, by decide, by decide, rfl, fun _ _ _ _ _ => rfl, fun _ _ _ _ _ _ => reduceRow_whole fun _ => rfl⟩

end

end Sys2Proof.Machine

end

section
/-! PROOFS. The members of VRED retire with their tiles (O30). -/

namespace Sys2Proof.Machine

open Sys2Proof

/-! ## Results that agree on the rows in force -/

section
variable {s t : State} {i : Instr} {d gd w : Nat} {f g : Nat → Nat → Elem}

/-- Two results with the same values, whose elements raise the same flags together, are one tile. -/
theorem State.retiresTile.congr (h : s.retiresTile i t d gd w f) (hval : ∀ j < s.me.csr.rows, ∀ k o, s.elemAfter w g j k o = s.elemAfter w f j k o)
    (hflags : ∀ j < s.me.csr.rows, (range 0 (gd * (1024 / w))).foldl (fun b k => b ||| (g j k).flags) 0 =
      (range 0 (gd * (1024 / w))).foldl (fun b k => b ||| (f j k).flags) 0) : s.retiresTile i t d gd w g := by
  obtain ⟨xs, hlen, hxs, hret⟩ := h
  have hfl : s.flagsOf (gd * (1024 / w)) g = s.flagsOf (gd * (1024 / w)) f := by
    unfold State.flagsOf
    refine List.foldl_ext _ _ _ fun a j hj => ?_
    rw [hflags j (by simpa using range_lt hj)]
  exact ⟨xs, hlen, fun j hj k hk => by rw [hval j hj]; exact hxs j hj k hk, by rw [hfl]; exact hret⟩

/-- Results that agree on the rows in force are one tile. -/
theorem State.retiresTile.of_rows (h : s.retiresTile i t d gd w f) (hrows : ∀ j < s.me.csr.rows, ∀ k, g j k = f j k) : s.retiresTile i t d gd w g :=
  h.congr (fun j hj k o => by unfold State.elemAfter; rw [hrows j hj k]) (fun j hj => by simp only [hrows j hj])

end

/-! ## Bodies -/

section
variable {s t : State} {fn : Nat} {d a b : BitVec 7} {m : BitVec 1} {o : Option Saved}

/-- The tiles of a reduction or scan, read. -/
def redTaken (s : State) (a b : Nat) : State := (s.tileTaken a s.me.csr.grp).tileTaken b s.me.csr.grp

theorem redTaken_me {a b : Nat} : (redTaken s a b).me = s.me := State.tileTaken_me.trans State.tileTaken_me

theorem checkReduce_ok (h : Claims.reduces s d.toNat a.toNat b.toNat) (hf : vredFloats fn = true → Claims.formatted s)
    (hdet : fn = 2 ∨ fn = 10 → s.me.csr.hctl.getLsbD 0 = false) : checkReduce fn d a b s = .ok () s := by
  obtain ⟨hv, hblk, hstart, ⟨ha, hfa, -⟩, ⟨hb, hfb, -⟩, ⟨hd, hfd, -⟩⟩ := h
  rw [tileTaken_srcOk] at hb
  rw [tileTaken_dstOk, tileTaken_dstOk] at hd
  rw [tileFits_congr State.tileTaken_me] at hfb
  rw [tileFits_congr (State.tileTaken_me.trans State.tileTaken_me)] at hfd
  have hstart0 : checkStart0 s = .ok () s := by
    unfold checkStart0
    rw [exec_getState_bind]
    exact require_of (by rw [hstart]; rfl)
  have hno : ¬ ((fn = 2 ∨ fn = 10) ∧ s.me.csr.hctl.getLsbD 0 = true) := by
    rintro ⟨hfn, hset⟩
    rw [hdet hfn] at hset
    cases hset
  unfold checkReduce
  rw [exec_getState_bind, exec_bind_ok hv.coreOnly_ok, exec_bind_ok (checkTileSrc_ok ha hfa), exec_bind_ok (checkTileSrc_ok hb hfb), exec_bind_ok (checkTileDst_ok hd hfd),
    exec_bind_ok (checkUnscaled_ok hblk), exec_bind_ok hstart0, if_neg hno]
  split
  next hfloat => exact exec_bind_ok (checkFmt_ok (hf hfloat))
  · rfl

/-- What a member of VRED does once it has its operands: it computes as the state that it started in. -/
theorem reduces_reads (h : Claims.reduces s d.toNat a.toNat b.toNat) : ∃ o, OperandsOnly o ∧ ((redTaken s a.toNat b.toNat).midway o s.me.csr.vstart).computesAs s ∧
    ∀ k : List VReg → List VReg → Exec Unit, (do let x ← readTile a.toNat s.me.csr.grp; let y ← readTile b.toNat s.me.csr.grp; k x y : Exec Unit) s =
      k (s.tileValue a.toNat s.me.csr.grp) ((s.tileTaken a.toNat s.me.csr.grp).tileValue b.toNat s.me.csr.grp) ((redTaken s a.toNat b.toNat).midway o s.me.csr.vstart) := by
  obtain ⟨hv, -, -, ha, hb, -⟩ := h
  obtain ⟨p, hp, hfirst, -⟩ := readTile_first hv.2.2 ha
  obtain ⟨q, hq, hsecond⟩ := readTile_here (k := s.me.csr.vstart) hp hb
  exact ⟨q, hq, midway_computesAs redTaken_me hv.2.2 hq (fun e => (tileTaken_rounding e).trans (tileTaken_rounding e)),
    fun k => (exec_bind_ok hfirst).trans (exec_bind_ok hsecond)⟩

theorem active_midway (ho : OperandsOnly o) (hme : t.me = s.me) {m : Bool} {n : Word} {j k : Nat} (hk : k < s.me.csr.len) :
    (t.midway o n).me.active m (j * s.me.csr.len + k) = laneOn s m j k := by
  have hlen : (t.midway o n).me.csr.len = s.me.csr.len := congrArg (fun h => h.csr.len) hme
  unfold Hart.active
  rw [ho.issued_of_me hme, hlen, predBit_index hk]
  rfl

/-- The rows that a member under way computes from are those of its operands. -/
theorem redRowOf_midway (ho : OperandsOnly o) (hme : t.me = s.me) {float m : Bool} {a b j : Nat} (hc : ((t.midway o s.me.csr.vstart).me.csr) = s.me.csr) :
    redRowOf (t.midway o s.me.csr.vstart) float m (s.tileValue a s.me.csr.grp) ((s.tileTaken a s.me.csr.grp).tileValue b s.me.csr.grp) j = redRow s float m a b j := by
  unfold redRowOf redRow
  rw [hc]
  dsimp only
  rw [elem2_eq]
  congr 1
  refine List.map_congr_left fun i hi => ?_
  rw [active_midway ho hme (by simpa using range_lt hi)]
  rfl

/-- A state that has drawn `n` of its free choices. -/
def State.drawn (s : State) (n : Nat) : State := { s with free := s.free + n }

/-- A reduction retires with the result of each row in element 0 (R198). -/
theorem reduce_retires {i : Instr} (h : Claims.reduces s d.toNat a.toNat b.toNat) (hf : vredFloats fn = true → Claims.formatted s)
    (hdet : fn = 2 → s.me.csr.hctl.getLsbD 0 = false) (hfn : fn ≠ 10) (hi : exec i s = runVector (reduceBody fn d a b m) s) :
    s.retiresTile i (if fn = 2 then (redTaken s a.toNat b.toNat).drawn ( 4096 * s.me.csr.rows) else redTaken s a.toNat b.toNat) d.toNat s.me.csr.grp s.me.csr.sew
      (Claims.first s (fun j => reduceRow fn s ((redTaken s a.toNat b.toNat).free + 4096 * j) (redRow s (vredFloats fn) (m == 1) a.toNat b.toNat j))) := by
  obtain ⟨hv, -, hstart, -, -, hroom⟩ := id h
  obtain ⟨o, ho, hu, hreads⟩ := reduces_reads h
  have hme : (if fn = 2 then (redTaken s a.toNat b.toNat).drawn ( 4096 * s.me.csr.rows) else redTaken s a.toNat b.toNat).me = s.me := by split <;> exact redTaken_me
  have hroom' : (if fn = 2 then (redTaken s a.toNat b.toNat).drawn ( 4096 * s.me.csr.rows) else redTaken s a.toNat b.toNat).tileRoom d.toNat s.me.csr.grp := by split <;> exact hroom
  refine (retiresTile_of_putRows hi hv hme ho hroom' Csr.grp_pos Csr.sew_pos Csr.sew_dvd (f := fun j k => if k = 0 ∧ 0 < s.me.csr.len then
      (let r := ((range 0 s.me.csr.rows).map (fun j => reduceRow fn s ((redTaken s a.toNat b.toNat).free + 4096 * j) (redRow s (vredFloats fn) (m == 1) a.toNat b.toNat j))).getD j (0, 0); .value r.1 r.2)
      else .inactive) (fun h0 j k => by rw [if_neg (by omega)]; rfl) ?_).of_rows (fun j hj k => ?_)
  · unfold reduceBody
    rw [exec_bind_ok (checkReduce_ok h hf (fun h => h.elim hdet (absurd · hfn))), exec_getState_bind, hreads, exec_getState_bind]
    simp only [redRowOf_midway ho redTaken_me hu.1, reduceRow_congr hu]
    split <;> rfl
  · rw [range_map_getD hj]
    rfl

/-- VREDROW retires with the sums down the columns in row 0 (R198). -/
theorem vredrow_retires (h : Claims.reduces s d.toNat a.toNat b.toNat) (hf : Claims.formatted s) :
    s.retiresTile (.vredrow d a b m) (redTaken s a.toNat b.toNat) d.toNat s.me.csr.grp s.me.csr.sew (fun j i =>
      if j ≠ 0 then .kept
      else if i < s.me.csr.len then
        let q := Claims.sumUp s (readWidth s.me.csr true (Claims.elem2 s a.toNat b.toNat 0 i))
          (((range 0 s.me.csr.rows).filter (fun j => laneOn s (m == 1) j i)).map (fun j => redElem s true a.toNat j i))
        .value q.1 q.2
      else .inactive) := by
  obtain ⟨hv, -, hstart, -, -, hroom⟩ := id h
  obtain ⟨o, ho, hu, hreads⟩ := reduces_reads h
  refine retiresTile_of_putRows rfl hv redTaken_me ho hroom Csr.grp_pos Csr.sew_pos Csr.sew_dvd (fun h0 j k => ?_) ?_
  · by_cases hj : j = 0 <;> simp [hj, h0, Elem.flags]
  · unfold vredrowBody
    rw [exec_bind_ok (checkReduce_ok h (fun _ => hf) (fun h => absurd h (by decide))), exec_getState_bind, hreads, exec_getState_bind]
    refine congrFun (congrArg (putRows _ _ _) (funext fun j => funext fun i => ?_)) _
    by_cases hi : i < s.me.csr.len
    · have hon : ∀ j, ((redTaken s a.toNat b.toNat).midway o s.me.csr.vstart).me.active (m == 1) (j * s.me.csr.len + i) = laneOn s (m == 1) j i := fun j => active_midway ho redTaken_me hi
      simp only [hon, addNodes_congr hu, sumUp_eq, List.foldl_map, elem2_eq]
      rfl
    · simp only [hi, if_false]

end

/-! ## Scans -/

section
variable {s u t : State} {fn : Nat} {d a b : BitVec 7} {m : BitVec 1} {o : Option Saved}

theorem scanRow_congr (h : u.computesAs s) {k : Nat} {r : RedRow} : scanRow fn u k r = scanRow fn s k r := by
  have hasc : ascending u = ascending s := by funext t l; exact ascending_congr h
  have hdbl : doubling u = doubling s := by funext n d l; exact doubling_congr h
  have hsum : chosenSum u = chosenSum s := by funext n k l; exact chosenSum_congr h
  unfold scanRow
  rw [h.1, hasc, hdbl, hsum, addNodes_congr h]

/-- A scan retires with what its rows hold for each lane (R198). -/
theorem scan_retires {i : Instr} {val : Nat → Nat → Nat × Nat} (h : Claims.reduces s d.toNat a.toNat b.toNat) (hf : vredFloats fn = true → Claims.formatted s)
    (hdet : fn = 10 → s.me.csr.hctl.getLsbD 0 = false) (hfn : fn ≠ 2) (hi : exec i s = runVector (scanBody fn d a b m) s)
    (hval : ∀ j k, (scanRow fn s ((redTaken s a.toNat b.toNat).free + 2 ^ 22 * j) (redRow s (vredFloats fn) (m == 1) a.toNat b.toNat j)).getD k none =
      if k < s.me.csr.len ∧ laneOn s (m == 1) j k = true then some (val j k) else none) :
    s.retiresTile i (if fn = 10 then (redTaken s a.toNat b.toNat).drawn ( 2 ^ 22 * s.me.csr.rows) else redTaken s a.toNat b.toNat) d.toNat s.me.csr.grp s.me.csr.sew (s.each (m == 1) val) := by
  obtain ⟨hv, -, hstart, -, -, hroom⟩ := id h
  obtain ⟨o, ho, hu, hreads⟩ := reduces_reads h
  have hme : (if fn = 10 then (redTaken s a.toNat b.toNat).drawn ( 2 ^ 22 * s.me.csr.rows) else redTaken s a.toNat b.toNat).me = s.me := by split <;> exact redTaken_me
  have hroom' : (if fn = 10 then (redTaken s a.toNat b.toNat).drawn ( 2 ^ 22 * s.me.csr.rows) else redTaken s a.toNat b.toNat).tileRoom d.toNat s.me.csr.grp := by split <;> exact hroom
  refine (retiresTile_of_putRows hi hv hme ho hroom' Csr.grp_pos Csr.sew_pos Csr.sew_dvd (f := fun j k =>
      match (((range 0 s.me.csr.rows).map (fun j => scanRow fn s ((redTaken s a.toNat b.toNat).free + 2 ^ 22 * j) (redRow s (vredFloats fn) (m == 1) a.toNat b.toNat j))).getD j []).getD k none with
      | some r => .value r.1 r.2
      | none => .inactive) (fun h0 j k => ?_) ?_).of_rows (fun j hj k => ?_)
  · by_cases hj : j < s.me.csr.rows
    · rw [range_map_getD hj, hval, if_neg (by omega)]
      rfl
    · rw [List.getD_eq_default (d := []) _ (by simpa using hj)]
      rfl
  · unfold scanBody
    rw [exec_bind_ok (checkReduce_ok h hf (fun h => h.elim (absurd · hfn) hdet)), exec_getState_bind, hreads, exec_getState_bind]
    simp only [redRowOf_midway ho redTaken_me hu.1, scanRow_congr hu]
    split <;> rfl
  · rw [range_map_getD hj, hval]
    unfold State.each
    by_cases hk : k < s.me.csr.len
    · have hzero : ¬ j * s.me.csr.len + k < s.me.csr.start := by
        unfold Csr.start
        rw [hstart]
        simp
      rw [if_neg (Nat.not_le.2 hk), if_neg hzero]
      unfold laneOn Claims.lane
      cases hm : (m == 1) <;> by_cases hlane : (s.me.readP 0).getLsbD (1024 * j + k) = true <;> simp [hk, hlane]
    · simp [hk, Nat.le_of_not_lt hk]

end

end Sys2Proof.Machine

end

section
/-! PROOFS. What a scan gives each active element (R74, R76, R77, R198), and the statement on reductions and scans (O30). -/

namespace Sys2Proof.Machine

open Sys2Proof

/-! ## Elements of a scan -/

section
variable {s : State} {m : Bool} {a b j k i n : Nat} {float : Bool}

/-- A value for each place of a row that holds an element. -/
def lanesOf (l : List (Option Node)) (g : Nat → Nat × Nat) : List (Option (Nat × Nat)) :=
  ((range 0 l.length).zip l).map (fun e => e.2.map (fun _ => g e.1))

theorem lanesOf_getD {l : List (Option Node)} {g : Nat → Nat × Nat} : (lanesOf l g).getD i none = (l.getD i none).map (fun _ => g i) := by
  unfold lanesOf
  by_cases hi : i < l.length
  · rw [List.getD_eq_getElem _ _ (by simpa using hi), List.getD_eq_getElem _ _ hi]
    simp [range_getElem]
  · rw [List.getD_eq_default _ _ (by simpa using hi), List.getD_eq_default _ _ (by omega)]
    rfl

theorem scanRow_eight {r : RedRow} : scanRow 8 s k r = lanesOf r.leaves fun i =>
    let sums := ascending s ⟨r.start, none⟩ r.items
    let q := sums[((r.leaves.take (i + 1)).filterMap id).length - 1]?
    ((q.map (·.1.val)).getD 0, (q.map (·.2)).getD 0) := rfl

theorem scanRow_nine {r : RedRow} : scanRow 9 s k r = (r.leaves.zip (doubling s 11 1 r.leaves).1).map fun e => match e.1, e.2 with
    | some _, some x => some ((addNodes s ⟨r.start, none⟩ x).1.val, (addNodes s ⟨r.start, none⟩ x).2 ||| (doubling s 11 1 r.leaves).2)
    | _, _ => none := rfl

theorem scanRow_ten {r : RedRow} : scanRow 10 s k r = lanesOf r.leaves fun i =>
    let l := ⟨r.start, none⟩ :: (r.leaves.take (i + 1)).filterMap id
    let q := chosenSum s l.length (k + 2048 * i) l
    (q.1.val, q.2) := rfl

theorem scanRow_eleven {r : RedRow} : scanRow 11 s k r = lanesOf r.leaves fun i =>
    (((r.leaves.take (i + 1)).filterMap id).foldl (fun t x => (t + x.val) % 2 ^ s.me.csr.sew) r.start, 0) := rfl

/-- A value for each active element of a row. -/
theorem leaf_map_eq {x y : Nat × Nat} (h : i < s.me.csr.len → laneOn s m j i = true → x = y) :
    ((redRow s float m a b j).leaves.getD i none).map (fun _ => x) = if i < s.me.csr.len ∧ laneOn s m j i = true then some y else none := by
  rw [redRow_leaf]
  by_cases hon : i < s.me.csr.len ∧ laneOn s m j i = true
  · rw [if_pos hon, if_pos hon, ← h hon.1 hon.2]
    rfl
  · rw [if_neg hon, if_neg hon]
    rfl

theorem redItems_succ : redItems s float m a j (n + 1) = redItems s float m a j n ++ if laneOn s m j n then [redElem s float a j n] else [] := by
  unfold redItems
  rw [range_append (m := n) (n := 1), List.filter_append, List.map_append, Nat.zero_add]
  by_cases hon : laneOn s m j n = true <;> simp [range, hon]

/-- VISCAN adds whole numbers (R198). -/
theorem scanRow_integers : (scanRow 11 s k (redRow s false m a b j)).getD i none =
    if i < s.me.csr.len ∧ laneOn s m j i = true then
      some ((redItems s false m a j (i + 1)).foldl (fun u x => (u + x.1) % 2 ^ s.me.csr.sew) (Claims.elem2 s a b j 0), 0) else none := by
  rw [scanRow_eleven]
  refine lanesOf_getD.trans (leaf_map_eq fun hi _ => ?_)
  rw [redRow_take hi, List.foldl_map]
  rfl

/-- VSCANT adds what doubling leaves at its place to the start (R76). -/
theorem scanRow_doubling : (scanRow 9 s k (redRow s true m a b j)).getD i none =
    if i < s.me.csr.len ∧ laneOn s m j i = true then
      some (let y := doubling s 11 1 (redRow s true m a b j).leaves
            let q := addNodes s ⟨readWidth s.me.csr true (Claims.elem2 s a b j 0), none⟩ ((y.1.getD i none).getD ⟨0, none⟩)
            (q.1.val, q.2 ||| y.2)) else none := by
  have hleaf := redRow_leaf (s := s) (float := true) (m := m) (a := a) (b := b) (j := j) (i := i)
  have hsome := doubling_isSome (s := s) (n := 11) (d := 1) (i := i) (y := (redRow s true m a b j).leaves)
  have hlen := doubling_length (s := s) (n := 11) (d := 1) (y := (redRow s true m a b j).leaves)
  rw [scanRow_nine]
  by_cases hi : i < (redRow s true m a b j).leaves.length
  · rw [List.getD_eq_getElem _ _ (by simpa [hlen] using hi), List.getElem_map, List.getElem_zip]
    rw [List.getD_eq_getElem _ _ hi] at hleaf hsome
    rw [List.getD_eq_getElem _ _ (by rwa [hlen])] at hsome
    dsimp only
    rw [List.getD_eq_getElem _ _ (by rwa [hlen])]
    by_cases hon : i < s.me.csr.len ∧ laneOn s m j i = true
    · rw [if_pos hon] at hleaf ⊢
      rw [hleaf] at hsome ⊢
      obtain ⟨x, hx⟩ := Option.isSome_iff_exists.1 (hsome rfl)
      rw [hx]
      rfl
    · rw [if_neg hon] at hleaf ⊢
      rw [hleaf]
  · rw [List.getD_eq_default _ _ (by simp [hlen]; omega), if_neg]
    rw [redRow_length] at hi
    exact fun h => hi h.1

/-- VSCANU adds the elements up to its place to the start in some association (R77). -/
def chosenScan (s : State) (m : Bool) (a b : Nat) (free : Nat → Nat) (j i : Nat) : Nat × Nat :=
  let start := readWidth s.me.csr true (Claims.elem2 s a b j 0)
  let q := chosenSum s ((redItems s true m a j (i + 1)).length + 1) (free j + 2048 * i) (⟨start, none⟩ :: (redItems s true m a j (i + 1)).map elemNode)
  (q.1.val, q.2 ||| Claims.startFlags s start)

theorem scanRow_chosen {free : Nat → Nat} : (scanRow 10 s (free j) (redRow s true m a b j)).getD i none =
    if i < s.me.csr.len ∧ laneOn s m j i = true then some (chosenScan s m a b free j i) else none := by
  rw [scanRow_ten]
  refine lanesOf_getD.trans (leaf_map_eq fun hi hon => ?_)
  rw [redRow_take hi]
  dsimp only
  rw [List.length_cons, List.length_map]
  refine Prod.ext rfl ?_
  refine (chosenSum_raises (z := ⟨_, none⟩) (List.mem_cons_self ..) ?_ (by simp)).symm
  rw [redItems_succ, if_pos hon]
  simp

/-! ## Ascending scans (R74) -/

/-- The last of the ascending sums of a list: one addition to the sum of all before. -/
theorem ascending_last {xs : List (Nat × Nat)} {x : Nat × Nat} {t : Node} {fl : Nat} (h : AscendFrom t.idx (xs ++ [x])) :
    (ascending s t ((xs ++ [x]).map elemNode)).getLast? =
      some (⟨(sumStep s (xs.foldl (sumStep s) (t.val, fl)) x).1, some x.2⟩,
        (fAdd s.me.csr.fmt (s.rounding x.2).1 (s.rounding x.2).2 (xs.foldl (sumStep s) (t.val, fl)).1 x.1).2) := by
  induction xs generalizing t fl with
  | nil =>
    rw [List.nil_append, List.map_cons, ascending, addNodes_later (fl := fl) h.cons.1]
    rfl
  | cons y xs ih =>
    rw [List.cons_append, List.map_cons, ascending, addNodes_later (fl := fl) h.cons.1, List.getLast?_cons,
      ih (t := ⟨(sumStep s (t.val, fl) y).1, some y.2⟩) (fl := (sumStep s (t.val, fl) y).2) h.cons.2]
    rfl

/-- What VSCANO gives an element: the last of the ascending sums up to it, with the flags of that addition alone. -/
def ascendScan (s : State) (m : Bool) (a b j i : Nat) : Nat × Nat :=
  let start := readWidth s.me.csr true (Claims.elem2 s a b j 0)
  let before := Claims.sumUp s start (redItems s true m a j i)
  let x := redElem s true a j i
  ((sumStep s before x).1, (fAdd s.me.csr.fmt (s.rounding x.2).1 (s.rounding x.2).2 before.1 x.1).2)

theorem scanRow_ascending : (scanRow 8 s k (redRow s true m a b j)).getD i none =
    if i < s.me.csr.len ∧ laneOn s m j i = true then some (ascendScan s m a b j i) else none := by
  rw [scanRow_eight]
  refine lanesOf_getD.trans (leaf_map_eq fun hi hon => ?_)
  have hitems : redItems s true m a j (i + 1) = redItems s true m a j i ++ [redElem s true a j i] := by rw [redItems_succ, if_pos hon]
  obtain ⟨r, hr⟩ : ∃ r, redItems s true m a j s.me.csr.len = redItems s true m a j (i + 1) ++ r := by
    obtain ⟨k, hk⟩ := Nat.exists_eq_add_of_le (Nat.succ_le_of_lt hi)
    unfold redItems
    rw [hk, range_append, List.filter_append, List.map_append]
    exact ⟨_, rfl⟩
  have hasc := redItems_ascend (s := s) (float := true) (m := m) (a := a) (j := j) (n := i + 1)
  rw [hitems] at hasc
  have hlast := ascending_last (s := s) (t := ⟨readWidth s.me.csr true (Claims.elem2 s a b j 0), none⟩)
    (fl := Claims.startFlags s (readWidth s.me.csr true (Claims.elem2 s a b j 0))) hasc
  rw [← hitems] at hlast
  obtain ⟨q, hq⟩ := ascending_prefix (s := s) (t := ⟨readWidth s.me.csr true (Claims.elem2 s a b j 0), none⟩)
    (l := (redItems s true m a j (i + 1)).map elemNode) (r := r.map elemNode)
  dsimp only
  rw [redRow_take hi, redRow_items, hr, List.map_append,
    show (⟨(redRow s true m a b j).start, none⟩ : Node) = ⟨readWidth s.me.csr true (Claims.elem2 s a b j 0), none⟩ from rfl, hq]
  rw [List.getLast?_eq_getElem?, ascending_length] at hlast
  have hidx : ((redItems s true m a j (i + 1)).map elemNode).length - 1 < (ascending s ⟨readWidth s.me.csr true (Claims.elem2 s a b j 0), none⟩ ((redItems s true m a j (i + 1)).map elemNode)).length := by
    rw [ascending_length, hitems]
    simp
  rw [List.getElem?_append_left hidx, hlast]
  rfl

/-- The flags of the elements of a row below lane `n`, as those of an ascending sum of them all, which has none without an element. -/
def sumFlags (s : State) (start : Nat) (xs : List (Nat × Nat)) : Nat := if xs = [] then 0 else (Claims.sumUp s start xs).2

theorem sumFlags_snoc {start : Nat} {xs : List (Nat × Nat)} {x : Nat × Nat} : sumFlags s start (xs ++ [x]) =
    sumFlags s start xs ||| (fAdd s.me.csr.fmt (s.rounding x.2).1 (s.rounding x.2).2 (Claims.sumUp s start xs).1 x.1).2 := by
  unfold sumFlags
  rw [if_neg (by simp), sumUp_eq, sumUp_eq, List.foldl_append]
  by_cases hxs : xs = []
  · subst hxs
    rw [if_pos rfl, Nat.zero_or]
    exact (Nat.or_comm _ _).trans fAdd_raises_left
  · rw [if_neg hxs]
    rfl

/-- An element is performed in a lane with these flags. -/
def laneFlags (s : State) (m : Bool) (j : Nat) (val : Nat → Nat × Nat) (i : Nat) : Nat := if i < s.me.csr.len ∧ laneOn s m j i = true then (val i).2 else 0

theorem range_snoc_foldl {g : Nat → Nat} : (range 0 (n + 1)).foldl (fun b k => b ||| g k) 0 = (range 0 n).foldl (fun b k => b ||| g k) 0 ||| g n := by
  rw [range_append (m := n) (n := 1), List.foldl_append, Nat.zero_add]
  rfl

/-- The flags of single additions and those of the sums up to each element are the same together: those of the whole sum. -/
theorem ascending_flags : (range 0 n).foldl (fun f i => f ||| laneFlags s m j (ascendScan s m a b j) i) 0 =
      sumFlags s (readWidth s.me.csr true (Claims.elem2 s a b j 0)) (redItems s true m a j (min n s.me.csr.len)) ∧
    (range 0 n).foldl (fun f i => f ||| laneFlags s m j (fun i => Claims.sumUp s (readWidth s.me.csr true (Claims.elem2 s a b j 0)) (redItems s true m a j (i + 1))) i) 0 =
      sumFlags s (readWidth s.me.csr true (Claims.elem2 s a b j 0)) (redItems s true m a j (min n s.me.csr.len)) := by
  induction n with
  | zero => rw [Nat.zero_min]; exact ⟨rfl, rfl⟩
  | succ n ih =>
    rw [range_snoc_foldl, range_snoc_foldl, ih.1, ih.2]
    unfold laneFlags
    by_cases hn : n < s.me.csr.len
    · rw [Nat.min_eq_left (Nat.le_of_lt hn), Nat.min_eq_left (Nat.succ_le_of_lt hn), redItems_succ]
      by_cases hon : laneOn s m j n = true
      · have hboth : n < s.me.csr.len ∧ laneOn s m j n = true := ⟨hn, hon⟩
        rw [if_pos hboth, if_pos hboth, if_pos hon]
        refine ⟨sumFlags_snoc.symm, ?_⟩
        dsimp only
        rw [redItems_succ, if_pos hon]
        have hlast : (Claims.sumUp s (readWidth s.me.csr true (Claims.elem2 s a b j 0)) (redItems s true m a j n ++ [redElem s true a j n])).2 =
            sumFlags s (readWidth s.me.csr true (Claims.elem2 s a b j 0)) (redItems s true m a j n ++ [redElem s true a j n]) := by
          unfold sumFlags
          rw [if_neg (by simp)]
        rw [hlast, sumFlags_snoc, ← Nat.or_assoc, Nat.or_self]
      · have hboth : ¬ (n < s.me.csr.len ∧ laneOn s m j n = true) := fun h => hon h.2
        rw [if_neg hboth, if_neg hboth, if_neg hon, List.append_nil]
        exact ⟨Nat.or_zero _, Nat.or_zero _⟩
    · rw [Nat.min_eq_right (Nat.le_of_not_lt hn), Nat.min_eq_right (by omega), if_neg (fun h => hn h.1), if_neg (fun h => hn h.1)]
      exact ⟨Nat.or_zero _, Nat.or_zero _⟩

theorem each_eq_of_start (h : s.me.csr.vstart = 0) {val : Nat → Nat → Nat × Nat} : s.each m val j i =
    if i < s.me.csr.len ∧ laneOn s m j i = true then .value (val j i).1 (val j i).2 else .inactive := by
  have hzero : ¬ j * s.me.csr.len + i < s.me.csr.start := by
    unfold Csr.start
    rw [h]
    simp
  unfold State.each laneOn Claims.lane
  by_cases hi : i < s.me.csr.len
  · rw [if_neg (Nat.not_le.2 hi), if_neg hzero]
    cases m <;> simp [hi]
  · simp [hi, Nat.le_of_not_lt hi]

theorem each_flags (h : s.me.csr.vstart = 0) {val : Nat → Nat → Nat × Nat} : (s.each m val j i).flags = laneFlags s m j (val j) i := by
  rw [each_eq_of_start h]
  unfold laneFlags
  split <;> rfl

end

/-- VSCANO retires with the ascending sums up to each element (R74, R198). -/
theorem vscano_retires {s : State} {d a b : BitVec 7} {m : BitVec 1} (h : Claims.reduces s d.toNat a.toNat b.toNat) (hf : Claims.formatted s) :
    s.retiresTile (.vscano d a b m) (redTaken s a.toNat b.toNat) d.toNat s.me.csr.grp s.me.csr.sew (s.each (m == 1) (fun j i =>
      Claims.sumUp s (readWidth s.me.csr true (Claims.elem2 s a.toNat b.toNat j 0)) (redItems s true (m == 1) a.toNat j (i + 1)))) := by
  have hstart : s.me.csr.vstart = 0 := h.2.2.1
  have hret := scan_retires (i := .vscano d a b m) h (fn := 8) (fun _ => hf) (fun h => absurd h (by decide)) (by decide) rfl (fun _ _ => scanRow_ascending)
  refine State.retiresTile.congr hret (fun j _ k o => ?_) (fun j _ => ?_)
  · unfold State.elemAfter
    rw [each_eq_of_start hstart, each_eq_of_start hstart]
    by_cases hk : k < s.me.csr.len ∧ laneOn s (m == 1) j k = true
    · rw [if_pos hk, if_pos hk, redItems_succ, if_pos hk.2, sumUp_eq, List.foldl_append]
      rfl
    · rw [if_neg hk, if_neg hk]
  · simp only [each_flags hstart]
    exact ascending_flags.2.trans ascending_flags.1.symm

/-! ## The statement -/

section
variable {s : State} {a b : Nat} {d : BitVec 7} {m : BitVec 1}

theorem laneOn_iff {j i : Nat} : laneOn s (m == 1) j i = true ↔ (m = 1 → Claims.lane (s.me.readP 0) j i = true) := by
  unfold laneOn
  rcases BitVec.eq_zero_or_eq_one m with rfl | rfl <;> simp

theorem laneOn_iff_zero {j i : Nat} : (m = 0 ∨ Claims.lane (s.me.readP 0) j i = true) ↔ laneOn s (m == 1) j i = true := by
  unfold laneOn
  rcases BitVec.eq_zero_or_eq_one m with rfl | rfl <;> simp

theorem laneOn_eq {j i : Nat} : (m == 0 || Claims.lane (s.me.readP 0) j i) = laneOn s (m == 1) j i := by
  unfold laneOn
  rcases BitVec.eq_zero_or_eq_one m with rfl | rfl <;> rfl

end

/-- Settles O30: each member of VRED runs its body, whose rows are those of the statement; VSCANO raises with each sum the flags of its last addition only, which are
together those of all sums. -/
theorem reductionsAndScansCombineElements : Obligations.ReductionsAndScansCombineElements := by
  unfold Obligations.ReductionsAndScansCombineElements
  refine ⟨fun d a b m s h hlen => ⟨fun p hp hf => ?_, fun hf => ⟨?_, ?_, fun hdet => ?_, ?_⟩⟩, fun d a b m s h => ⟨?_, fun hf => ⟨?_, ?_, fun hdet => ?_⟩⟩⟩
  · obtain ⟨fn, h2, h10, hfloat, hexec, hrow⟩ := exec_folds hp
    have hret := reduce_retires (m := m) h (fn := fn) (fun h => hf (hfloat ▸ h)) (fun h => absurd h h2) h10 (hexec d a b m s)
    rw [if_neg h2] at hret
    refine hret.of_rows fun j _ k => ?_
    unfold Claims.first
    dsimp only
    rw [hfloat, hrow, ← row_eq_redItems, List.foldl_map]
    cases p.2.1 <;> rfl
  · have hret := reduce_retires (i := .vredo d a b m) h (fn := 0) (fun _ => hf) (fun h => absurd h (by decide)) (by decide) rfl
    refine hret.of_rows fun j _ k => ?_
    unfold Claims.first
    dsimp only
    rw [show vredFloats 0 = true from rfl, reduceRow_ascending, ← row_eq_redItems]
    rfl
  · have hret := reduce_retires (i := .vredt d a b m) h (fn := 1) (fun _ => hf) (fun h => absurd h (by decide)) (by decide) rfl
    refine hret.of_rows fun j _ k => ?_
    unfold Claims.first
    dsimp only
    rw [show vredFloats 1 = true from rfl, reduceRow_tree hlen (fun i => ?_)]
    · rfl
    · rw [redRow_leaf]
      simp only [laneOn_iff]
      rfl
  · have hret := reduce_retires (i := .vredu d a b m) h (fn := 2) (fun _ => hf) (fun _ => hdet) (by decide) rfl
    rw [if_pos rfl] at hret
    refine ⟨_, _, hret, fun j _ => ?_⟩
    show Claims.associates s (readWidth s.me.csr true (Claims.elem2 s a.toNat b.toNat j 0))
      ((Claims.row s a.toNat (m == 1) j).map fun e => (readWidth s.me.csr true e.1, e.2)) _
    rw [row_eq_redItems]
    exact reduceRow_chosen
  · refine (vredrow_retires h hf).of_rows fun j _ k => ?_
    simp only [laneOn_eq]
    rfl
  · have hret := scan_retires (i := .viscan d a b m) h (fn := 11) (fun h => absurd h (by decide)) (fun h => absurd h (by decide)) (by decide) rfl (fun _ _ => scanRow_integers)
    refine hret.of_rows fun j _ k => ?_
    rw [each_eq_of_start h.2.2.1, each_eq_of_start h.2.2.1]
    split
    next hk =>
      rw [← row_upTo hk.1, List.foldl_map]
      rfl
    · rfl
  · refine (vscano_retires h hf).of_rows fun j _ k => ?_
    rw [each_eq_of_start h.2.2.1, each_eq_of_start h.2.2.1]
    split
    next hk =>
      rw [← row_upTo hk.1]
      rfl
    · rfl
  · have hret := scan_retires (i := .vscant d a b m) h (fn := 9) (fun _ => hf) (fun h => absurd h (by decide)) (by decide) rfl (fun _ _ => scanRow_doubling)
    simp only [laneOn_iff_zero]
    exact hret
  · have hret := scan_retires (i := .vscanu d a b m) (fn := 10) (val := chosenScan s (m == 1) a.toNat b.toNat fun j => (redTaken s a.toNat b.toNat).free + 2 ^ 22 * j)
      h (fun _ => hf) (fun _ => hdet) (by decide) rfl (fun j _ => scanRow_chosen (free := fun j => (redTaken s a.toNat b.toNat).free + 2 ^ 22 * j))
    rw [if_pos rfl] at hret
    refine ⟨_, _, hret, fun j _ i hi hon => ?_⟩
    rw [show (fun e : Nat × Nat => (e.1 % 2 ^ s.me.csr.fmt.width, e.2)) = fun e => (readWidth s.me.csr true e.1, e.2) from rfl, row_upTo hi]
    exact chosenSum_associates

end Sys2Proof.Machine

end

section
/-! PROOFS. The words of the tiles (R66, R69): what a word, an exact element or a whole tile holds after a write, and what a list of writes leaves alone. -/

namespace Sys2Proof.Machine

open Sys2Proof

/-! ## Integers of exact elements -/

/-- The integers of an exact element: 128 bits, two's complement (R69). -/
def Exact128 (x : Int) : Prop := -(2 : Int) ^ 127 ≤ x ∧ x < (2 : Int) ^ 127

theorem toSigned_ofSigned {x : Int} (h : Exact128 x) : toSigned 128 (ofSigned 128 x) = x := by
  obtain ⟨hlo, hhi⟩ := h
  rw [toSigned_eq (by decide), ofSigned_eq, BitVec.ofNat_toNat, BitVec.setWidth_eq, BitVec.toInt_ofInt]
  exact Int.bmod_eq_of_le (by norm_num at hlo ⊢; omega) (by norm_num at hhi ⊢; omega)

theorem ofSigned_lt {w : Nat} {x : Int} : ofSigned w x < 2 ^ w := by
  rw [ofSigned_eq]
  exact BitVec.isLt _

theorem toSigned_exact128 {x : Nat} : Exact128 (toSigned 128 x) := by
  rw [toSigned_eq (by decide)]
  exact ⟨BitVec.le_toInt _, BitVec.toInt_lt⟩

theorem exactBound_exact128 : Exact128 exactBound ∧ Exact128 (-exactBound) := by
  unfold Exact128 exactBound
  omega

/-! ## One word, one exact element -/

section
variable {t u : Tandem} {j k w x : Nat} {y : Int}

theorem word_setWord_same (ht : t.tidy) : (t.setWord j w x).word j w = BitVec.ofNat 32 x := sparseGet_set_same 0 t.zt _ _ ht

theorem setWord_other {i : Nat} (h : i ≠ 16384 * j + w) : sparseGet 0 (t.setWord j w x).zt i = sparseGet 0 t.zt i := sparseGet_set_other 0 t.zt _ _ _ h

theorem word_setWord_other {v : Nat} (h : v ≠ w) : (t.setWord j w x).word j v = t.word j v := setWord_other (by omega)

/-- A word of one tile or another, with words of one key written. -/
theorem word_setWord (ht : t.tidy) {v : Nat} : (t.setWord j w x).word j v = if v = w then BitVec.ofNat 32 x else t.word j v := by
  split
  next h => exact h ▸ word_setWord_same ht
  next h => exact word_setWord_other h

theorem foldl_range_four {α : Type} {f : α → Nat → α} {a : α} : (range 0 4).foldl f a = f (f (f (f a 0) 1) 2) 3 := rfl

theorem exact_eq : t.exact j k = toSigned 128 ((t.word j (4 * k)).toNat + (t.word j (4 * k + 1)).toNat * 2 ^ 32 + (t.word j (4 * k + 2)).toNat * 2 ^ 64 +
    (t.word j (4 * k + 3)).toNat * 2 ^ 96) := by
  unfold Tandem.exact
  rw [foldl_range_four]
  simp only [Nat.zero_add, Nat.add_zero, Nat.mul_zero, Nat.pow_zero, Nat.mul_one, Nat.reduceMul]

theorem exact_exact128 : Exact128 (t.exact j k) := toSigned_exact128

/-- An exact element is what its four words make. -/
theorem exact_congr (h : ∀ i < 4, u.word j (4 * k + i) = t.word j (4 * k + i)) : u.exact j k = t.exact j k := by
  have h0 := h 0 (by omega)
  rw [exact_eq, exact_eq, h 1 (by omega), h 2 (by omega), h 3 (by omega)]
  rw [Nat.add_zero] at h0
  rw [h0]

theorem setExact_eq : t.setExact j k y = (((t.setWord j (4 * k) (ofSigned 128 y)).setWord j (4 * k + 1) (ofSigned 128 y / 2 ^ 32)).setWord j (4 * k + 2)
    (ofSigned 128 y / 2 ^ 64)).setWord j (4 * k + 3) (ofSigned 128 y / 2 ^ 96) := by
  unfold Tandem.setExact
  rw [foldl_range_four]
  simp only [Nat.add_zero, Nat.mul_zero, Nat.pow_zero, Nat.div_one, Nat.reduceMul]

/-- The digits of a number of four words. -/
theorem digits_eq {n : Nat} (h : n < 2 ^ 128) :
    (BitVec.ofNat 32 n).toNat + (BitVec.ofNat 32 (n / 2 ^ 32)).toNat * 2 ^ 32 + (BitVec.ofNat 32 (n / 2 ^ 64)).toNat * 2 ^ 64 +
      (BitVec.ofNat 32 (n / 2 ^ 96)).toNat * 2 ^ 96 = n := by
  simp only [BitVec.toNat_ofNat]
  omega

theorem exact_setExact_same (ht : t.tidy) (hy : Exact128 y) : (t.setExact j k y).exact j k = y := by
  have h1 : (t.setWord j (4 * k) (ofSigned 128 y)).tidy := Tandem.setWord_tidy ht
  have h2 : ((t.setWord j (4 * k) (ofSigned 128 y)).setWord j (4 * k + 1) (ofSigned 128 y / 2 ^ 32)).tidy := Tandem.setWord_tidy h1
  have h3 : (((t.setWord j (4 * k) (ofSigned 128 y)).setWord j (4 * k + 1) (ofSigned 128 y / 2 ^ 32)).setWord j (4 * k + 2) (ofSigned 128 y / 2 ^ 64)).tidy :=
    Tandem.setWord_tidy h2
  rw [exact_eq, setExact_eq]
  simp only [word_setWord ht, word_setWord h1, word_setWord h2, word_setWord h3, Nat.add_left_cancel_iff, Nat.left_eq_add, Nat.reduceEqDiff, OfNat.ofNat_ne_zero,
    if_true, if_false, one_ne_zero]
  rw [digits_eq ofSigned_lt, toSigned_ofSigned hy]

theorem setExact_other {i : Nat} (h : ∀ c < 4, i ≠ 16384 * j + (4 * k + c)) : sparseGet 0 (t.setExact j k y).zt i = sparseGet 0 t.zt i := by
  rw [setExact_eq, setWord_other (h 3 (by omega)), setWord_other (h 2 (by omega)), setWord_other (h 1 (by omega)), setWord_other (w := 4 * k) (h 0 (by omega))]

theorem exact_setExact_other {l : Nat} (h : l ≠ k) : (t.setExact j k y).exact j l = t.exact j l :=
  exact_congr fun _ _ => setExact_other (by omega)

end

/-! ## Lists of writes -/

section
variable {α : Type} {t : Tandem} {f : Tandem → α → Tandem} {l : List α} {j : Nat}

/-- A write changes the words of the tiles and nothing else of a tandem. -/
def OnlyZt (f : Tandem → α → Tandem) : Prop := ∀ t x, f t x = { t with zt := (f t x).zt }

theorem OnlyZt.foldl (hf : OnlyZt f) : l.foldl f t = { t with zt := (l.foldl f t).zt } := by
  induction l generalizing t with
  | nil => rfl
  | cons x l ih =>
    rw [List.foldl_cons, ih, hf t x]

theorem onlyZt_setWord {w x : α → Nat} : OnlyZt fun t e => t.setWord j (w e) (x e) := fun _ _ => rfl

/-- A key that none of the writes names keeps its word. -/
theorem foldl_word_other {i : Nat} (h : ∀ x ∈ l, ∀ t : Tandem, sparseGet 0 (f t x).zt i = sparseGet 0 t.zt i) :
    sparseGet 0 (l.foldl f t).zt i = sparseGet 0 t.zt i := by
  induction l generalizing t with
  | nil => rfl
  | cons x l ih => rw [List.foldl_cons, ih fun y hy => h y (List.mem_cons_of_mem _ hy), h x List.mem_cons_self]

/-- Elements replaced one after the other, each by what the function makes of it: each element of the list is replaced once. -/
theorem foldl_setExact {val : Nat → Int → Int} {ks : List Nat} (ht : t.tidy) (hn : ks.Nodup) (hval : ∀ k y, Exact128 y → Exact128 (val k y)) {k : Nat} :
    (ks.foldl (fun t k => t.setExact j k (val k (t.exact j k))) t).exact j k = if k ∈ ks then val k (t.exact j k) else t.exact j k := by
  induction ks generalizing t with
  | nil => exact (if_neg List.not_mem_nil).symm
  | cons i ks ih =>
    obtain ⟨hi, hn⟩ := List.nodup_cons.1 hn
    rw [List.foldl_cons, ih (Tandem.setExact_tidy ht) hn]
    by_cases hk : k = i
    · subst hk
      rw [if_neg hi, if_pos List.mem_cons_self, exact_setExact_same ht (hval _ _ exact_exact128)]
    · simp only [exact_setExact_other hk, List.mem_cons, hk, false_or]

/-- One value written to each word of a list. -/
theorem foldl_setWord {x : Nat} {ws : List Nat} (ht : t.tidy) {w : Nat} :
    (ws.foldl (fun t w => t.setWord j w x) t).word j w = if w ∈ ws then BitVec.ofNat 32 x else t.word j w := by
  induction ws generalizing t with
  | nil => exact (if_neg List.not_mem_nil).symm
  | cons v ws ih =>
    rw [List.foldl_cons, ih (Tandem.setWord_tidy ht), word_setWord ht]
    by_cases hw : w = v <;> simp [hw]

end

/-! ## The configured elements of a tile (R66, R221) -/

section
variable {c : BitVec 64} {k : Nat}

theorem mem_configured : k ∈ configured c ↔ ∃ i < cfgM c, ∃ l < cfgN c, k = 64 * i + l := by
  unfold configured
  simp only [List.mem_flatMap, List.mem_map, range_eq_range', List.mem_range'_1, Nat.zero_le, Nat.zero_add, true_and, eq_comm]

/-- No element is configured twice where a row has at most 64. -/
theorem nodup_configured (h : cfgN c ≤ 64) : (configured c).Nodup := by
  unfold configured
  rw [range_eq_range', range_eq_range', List.nodup_flatMap]
  refine ⟨fun i _ => List.Nodup.map (fun a b hab => by simpa using hab) List.nodup_range', List.Pairwise.imp ?_ (List.nodup_range' (s := 0) (n := cfgM c))⟩
  intro a b hne x hx hy
  obtain ⟨l, hl, rfl⟩ := List.mem_map.1 hx
  obtain ⟨m, hm, heq⟩ := List.mem_map.1 hy
  rw [List.mem_range'_1] at hl hm
  omega

theorem any_configured {f : Nat → Bool} : (configured c).any f = Claims.someElem c f := by
  unfold configured Claims.someElem
  rw [List.any_flatMap]
  simp only [List.any_map]
  rfl

theorem cfgLegal.cols (h : cfgLegal c = true) (hm : cfgMode c ≠ 0) : cfgN c ≤ 64 := by
  unfold cfgLegal at h
  obtain ⟨h3, h1, h2, -⟩ := of_decide_eq_true h
  have : cfgMode c < 4 := field_lt _ _ _
  by_cases hone : cfgMode c = 1
  · exact (h1 hone).2
  · exact (h2 (by omega)).1

theorem cfgLegal.rows (h : cfgLegal c = true) (hm : cfgMode c = 1) : cfgM c ≤ 64 := by
  unfold cfgLegal at h
  exact ((of_decide_eq_true h).2.1 hm).1

theorem cfgM_le : cfgM c ≤ 128 := field_lt c 2 7

theorem cfgN_le : cfgN c ≤ 128 := field_lt c 9 7

end

/-! ## A tile zeroed (R222) -/

section
variable {t : Tandem} {j mode : Nat}

theorem sparseGet_append {β : Type} {d : β} {l r : List (Nat × β)} {i : Nat} :
    sparseGet d (l ++ r) i = if i ∈ l.map (·.1) then sparseGet d l i else sparseGet d r i := by
  induction l with
  | nil => rfl
  | cons e l ih =>
    simp only [List.cons_append, sparseGet, List.map_cons, List.mem_cons]
    by_cases h : i = e.1
    · simp [h]
    · rw [if_neg h, if_neg h, ih]
      exact if_congr (by simp [h]) rfl rfl

theorem sparseGet_of_not_mem {β : Type} {d : β} {l : List (Nat × β)} {i : Nat} (h : i ∉ l.map (·.1)) : sparseGet d l i = d := by
  induction l with
  | nil => rfl
  | cons e l ih =>
    rw [List.map_cons, List.mem_cons, not_or] at h
    rw [sparseGet, if_neg h.1, ih h.2]

/-- A key that the filter keeps is listed as before. -/
theorem sparseGet_filter {β : Type} {d : β} {p : Nat → Bool} {l : List (Nat × β)} {i : Nat} (h : p i = true) :
    sparseGet d (l.filter (fun e => p e.1)) i = sparseGet d l i := by
  induction l with
  | nil => rfl
  | cons e l ih =>
    by_cases hi : i = e.1
    · subst hi
      rw [List.filter_cons_of_pos (p := fun e : Nat × β => p e.1) h]
      simp [sparseGet]
    · by_cases hp : p e.1 = true
      · rw [List.filter_cons_of_pos (p := fun e : Nat × β => p e.1) hp, sparseGet, sparseGet, if_neg hi, if_neg hi, ih]
      · rw [List.filter_cons_of_neg (p := fun e : Nat × β => p e.1) hp, sparseGet, if_neg hi, ih]

theorem sparseGet_range {β : Type} {d v : β} {lo n i : Nat} :
    sparseGet d ((range lo n).map (fun k => (k, v))) i = if lo ≤ i ∧ i < lo + n then v else d := by
  induction n generalizing lo with
  | zero => rw [if_neg (by omega)]; rfl
  | succ n ih =>
    simp only [range, List.map_cons, sparseGet, ih]
    by_cases h : i = lo
    · rw [if_pos h, if_pos (by omega)]
    · rw [if_neg h]
      exact if_congr (by omega) rfl rfl

theorem sparseGet_append_left {β : Type} {d : β} {l r : List (Nat × β)} {i : Nat} (h : i ∉ r.map (·.1)) : sparseGet d (l ++ r) i = sparseGet d l i := by
  rw [sparseGet_append]
  split
  · rfl
  next hl => rw [sparseGet_of_not_mem h, sparseGet_of_not_mem hl]

theorem sparseGet_append_right {β : Type} {d : β} {l r : List (Nat × β)} {i : Nat} (h : i ∉ l.map (·.1)) : sparseGet d (l ++ r) i = sparseGet d r i := by
  rw [sparseGet_append, if_neg h]

theorem not_mem_keys {β : Type} {p : Nat → Bool} {l : List (Nat × β)} {i : Nat} (h : p i = false) : i ∉ (l.filter (fun e => p e.1)).map (·.1) := by
  intro hi
  obtain ⟨e, he, rfl⟩ := List.mem_map.1 hi
  have hp := (List.mem_filter.1 he).2
  rw [h] at hp
  cases hp

/-- The words of tile `j` that MZERO leaves other than 0. -/
def zeroWords (j mode : Nat) : List (Nat × BitVec 32) := if mode = 2 then (range (16384 * j) 8192).map (fun k => (k, 0x3F800000)) else []

theorem zeroWords_get {i : Nat} : sparseGet 0 (zeroWords j mode) i = if mode = 2 ∧ 16384 * j ≤ i ∧ i < 16384 * j + 8192 then 0x3F800000 else 0 := by
  unfold zeroWords
  by_cases hm : mode = 2
  · simp only [hm, if_true, true_and, sparseGet_range]
  · simp only [hm, if_false, false_and, sparseGet]

theorem zeroWords_keys {i : Nat} (h : i < 16384 * j ∨ 16384 * (j + 1) ≤ i) : i ∉ (zeroWords j mode).map (·.1) := by
  unfold zeroWords
  split
  · simp only [List.map_map, List.mem_map, range_eq_range', List.mem_range'_1, Function.comp]
    omega
  · exact List.not_mem_nil

theorem zeroTile_zt : (zeroTile j mode t).zt = t.zt.filter (fun e => decide (e.1 < 16384 * j)) ++ zeroWords j mode ++ t.zt.filter (fun e => decide (16384 * (j + 1) ≤ e.1)) := rfl

/-- A tile zeroed holds the gains of 1 in mode 2 and 0 elsewhere; the words of the other tiles stay (R222). -/
theorem zeroTile_zeroed : Claims.zeroed t.zt (zeroTile j mode t).zt j mode := by
  have hbelow {i : Nat} (h : 16384 * j ≤ i) := not_mem_keys (p := fun k => decide (k < 16384 * j)) (l := t.zt) (i := i) (decide_eq_false (by omega))
  have habove {i : Nat} (h : i < 16384 * (j + 1)) := not_mem_keys (p := fun k => decide (16384 * (j + 1) ≤ k)) (l := t.zt) (i := i) (decide_eq_false (by omega))
  refine ⟨fun k hk => ?_, fun w hw => ?_⟩
  · have hout : k < 16384 * j ∨ 16384 * (j + 1) ≤ k := by
      by_contra hno
      exact hk (k - 16384 * j) (by omega) trivial (by omega)
    rw [zeroTile_zt]
    rcases hout with h | h
    · rw [sparseGet_append_left (habove (by omega)), sparseGet_append_left (zeroWords_keys (.inl h)),
        sparseGet_filter (p := fun k => decide (k < 16384 * j)) (decide_eq_true h)]
    · rw [List.append_assoc, sparseGet_append_right (hbelow (by omega)), sparseGet_append_right (zeroWords_keys (.inr h)),
        sparseGet_filter (p := fun k => decide (16384 * (j + 1) ≤ k)) (decide_eq_true h)]
  · rw [zeroTile_zt, sparseGet_append_left (habove (by omega)), sparseGet_append_right (hbelow (by omega)), zeroWords_get]
    exact if_congr (by omega) rfl rfl

end

end Sys2Proof.Machine

end

section
/-! PROOFS. The members of MZ under way (R13, R40, R72, R221): their checks, the wait for their tile, their operands, and their retirement. -/

namespace Sys2Proof.Machine

open Sys2Proof

section
variable {s t u : State} {j n : Nat} {k : Word} {o p : Option Saved} {b : Exec Unit} {i : Instr} {fl : Nat}

/-! ## Checks -/

theorem engineSide_ok (h : Claims.engineSide s) : engineSide s = .ok () s := by
  unfold engineSide
  rw [exec_getState_bind, if_neg]
  · rfl
  · rw [h.1, h.2]
    decide

theorem checkStart0_ok (h : s.me.csr.vstart = 0) : checkStart0 s = .ok () s := by
  unfold checkStart0
  rw [exec_getState_bind]
  exact require_of (by rw [h]; rfl)

theorem checkTile_ok (h : j < s.tan.z) : checkTile j s = .ok () s := by
  unfold checkTile
  rw [exec_getState_bind]
  exact require_of (decide_eq_true h)

theorem mzBegin_none_ok (h : Claims.engineSide s) (hv : s.me.csr.vstart = 0) : mzBegin false none s = .ok () s := by
  unfold mzBegin
  rw [exec_bind_ok (engineSide_ok h)]
  exact exec_bind_ok (checkStart0_ok hv)

theorem mzBegin_ok (h : Claims.tileFree s j) (hv : s.me.csr.vstart = 0) : mzBegin false (some j) s = .ok () s := by
  unfold mzBegin
  rw [exec_bind_ok (engineSide_ok h.1)]
  exact (exec_bind_ok (checkStart0_ok hv)).trans (checkTile_ok h.2.1)

/-- A member that resumes where it stopped begins at any VSTART. -/
theorem mzBegin_resumes_ok (h : Claims.tileFree s j) : mzBegin true (some j) s = .ok () s := by
  unfold mzBegin
  rw [exec_bind_ok (engineSide_ok h.1)]
  exact checkTile_ok h.2.1

theorem reportOverflow_ok {q : Overflow → Bool} (h : ∀ x ∈ s.tan.overflows, q x = true → x.done = true) : reportOverflow q s = .ok () s := by
  have hnone : s.tan.overflows.filter (fun x => !x.done && q x && x.first s.tan.overflows) = [] := by
    refine List.filter_eq_nil_iff.2 fun x hx => ?_
    by_cases hq : q x = true
    · simp [h x hx hq]
    · simp [hq]
  unfold reportOverflow
  dsimp only
  rw [hnone]

/-- No posted instruction targets the tile and no overflow of it is to be reported: nothing to wait for. -/
theorem awaitTile_ok (h : Claims.tileFree s j) : awaitTile j s = .ok () s := by
  obtain ⟨-, -, -, hposted, hover⟩ := h
  unfold awaitTile
  rw [exec_getState_bind, if_neg]
  · exact reportOverflow_ok fun x hx hq => hover x hx (beq_iff_eq.1 hq)
  · rw [List.any_eq_true]
    rintro ⟨q, hq, heq⟩
    exact hposted q hq (beq_iff_eq.1 heq)

theorem requireMode_ok {mode : Nat} (h : cfgMode (s.tan.cfg j) = mode) : requireMode j mode s = .ok () s := by
  unfold requireMode
  rw [exec_getState_bind]
  exact require_of (beq_iff_eq.2 h)

/-! ## Operands -/

/-- A scalar operand read leaves the tiles, their configurations and their anchors. -/
theorem srcTaken_tiles : (s.srcTaken n).tan.zt = s.tan.zt ∧ (s.srcTaken n).tan.zcfg = s.tan.zcfg ∧ (s.srcTaken n).tan.zanchor = s.tan.zanchor := by
  unfold State.srcTaken
  split <;> exact ⟨rfl, rfl, rfl⟩

/-- A scalar operand of a member of MZ that is here is read. -/
theorem vecScalar_here (ho : OperandsOnly o) (h : t.srcHere n) :
    ∃ p, OperandsOnly p ∧ vecScalar n (t.midway o k) = .ok (t.srcValue n) ((t.srcTaken n).midway p k) := by
  by_cases hn : n < 112
  · unfold vecScalar State.srcValue State.srcTaken
    rw [exec_getState_bind]
    simp only [hn, if_true]
    exact ⟨o, ho, rfl⟩
  · obtain ⟨p, hp, hread⟩ := vecValue_here (k := k) ho h
    refine ⟨p, hp, Eq.trans ?_ hread⟩
    unfold vecValue
    rw [exec_getState_bind, if_neg hn]

theorem vecScalar_first (hs : s.me.savedNow = none) (h : s.srcHere n) :
    ∃ p, OperandsOnly p ∧ vecScalar n s = .ok (s.srcValue n) ((s.srcTaken n).midway p s.me.csr.vstart) := by
  obtain ⟨p, hp, hread⟩ := vecScalar_here (k := s.me.csr.vstart) operandsOnly_none h
  rw [State.midway_self hs] at hread
  exact ⟨p, hp, hread⟩

/-! ## Effects under way -/

/-- The state with the tandem in focus replaced. -/
def State.withTan (s : State) (t : Tandem) : State := { s with tan := t }

theorem spoils_midway : spoils (t.midway o k) = .ok () (t.spoilStrip.midway o k) := rfl

theorem seeTds_midway : (t.midway o k).seeTds = t.seeTds.midway o k := by
  unfold State.seeTds
  dsimp only
  rw [apply_ite (fun u : State => u.midway o k)]
  rfl

theorem seeTds_spoilStrip : t.spoilStrip.seeTds = t.seeTds.spoilStrip := by
  unfold State.seeTds
  dsimp only
  rw [apply_ite State.spoilStrip]
  rfl

/-- Seeing what the other side has written leaves the hart and the tiles. -/
theorem seeTds_keeps : t.seeTds.me = t.me ∧ t.seeTds.tan.zt = t.tan.zt ∧ t.seeTds.tan.zcfg = t.tan.zcfg ∧ t.seeTds.tan.zanchor = t.tan.zanchor := by
  unfold State.seeTds
  dsimp only
  split <;> exact ⟨rfl, rfl, rfl, rfl⟩

theorem modTile_midway {f : Tandem → Tandem} : modTile f (t.midway o k) = .ok () ((t.withTan (f t.tan)).midway o k) := rfl

/-! ## Retirement -/

/-- A transfer that is not resumed and whose body ends retires with the flags it has kept. -/
theorem retiresWith_of_midway (hi : exec i s = runKeep b s) (hs : s.me.savedNow = none) (hv : t.me.csr.vstart = s.me.csr.vstart)
    (hb : b s = .ok () (t.midway o s.me.csr.vstart)) (hfl : savedFlags o = BitVec.ofNat 64 fl) : s.retiresWith i t fl := by
  have hbegin : beginVector s = s := by unfold beginVector; rw [hs]
  refine ⟨o, hfl, ?_⟩
  rw [hi, Hart.withSaved_eq_midway, hv]
  unfold runKeep
  rw [hbegin, hb]
  rfl

/-- The same where it has kept nothing. -/
theorem retiresWith_of_ok (hi : exec i s = runKeep b s) (hs : s.me.savedNow = none) (ht : t.me.savedNow = none) (hb : b s = .ok () t) : s.retiresWith i t 0 := by
  have hbegin : beginVector s = s := by unfold beginVector; rw [hs]
  refine ⟨none, rfl, ?_⟩
  rw [hi, Hart.withSaved_eq_midway, ← ht, Hart.midway_self]
  unfold runKeep
  rw [hbegin, hb]

end

end Sys2Proof.Machine

end

section
/-! PROOFS. The tile instructions (O35): MZCFG, MZERO, MANCH, MGAIN, MSTAT, MCOMMIT and MWAIT run their bodies once and retire (R69, R129, R222–R224, R232, R236). -/

namespace Sys2Proof.Machine

open Sys2Proof

/-! ## What the members make of a tandem -/

section
variable {t : Tandem} {j : Nat} {c x : BitVec 64}

theorem configureTile_frame : configureTile j c t =
    { t with zt := (configureTile j c t).zt, zcfg := sparseSet 0 t.zcfg j c, zanchor := (configureTile j c t).zanchor } := by
  unfold configureTile
  dsimp only
  split
  · rfl
  · split <;> rfl

theorem defaultAnchor_eq : defaultAnchor t c = Claims.anchorOf t c := by
  unfold defaultAnchor Claims.anchorOf
  dsimp only
  rw [← ite_not]
  exact if_congr (by simp only [not_or, Bool.not_eq_false, ne_eq]) rfl rfl

/-- The words and anchors that MZCFG leaves: those it found where the shape and mode stay, else a zeroed tile with its default anchor (R222). -/
theorem configureTile_words :
    if cfgMode (t.cfg j) = cfgMode c ∧ cfgM (t.cfg j) = cfgM c ∧ cfgN (t.cfg j) = cfgN c then (configureTile j c t).zt = t.zt ∧ (configureTile j c t).zanchor = t.zanchor
    else Claims.zeroed t.zt (configureTile j c t).zt j (cfgMode c) ∧
      (configureTile j c t).zanchor = if cfgMode c = 1 then sparseSet 0 t.zanchor j (Claims.anchorOf t c) else t.zanchor := by
  unfold configureTile
  dsimp only
  split
  next h => exact ⟨rfl, rfl⟩
  · rw [← defaultAnchor_eq]
    split
    · exact ⟨zeroTile_zeroed (t := { t with zcfg := sparseSet 0 t.zcfg j c }), rfl⟩
    · exact ⟨zeroTile_zeroed (t := { t with zcfg := sparseSet 0 t.zcfg j c }), rfl⟩

theorem roundShift_le {m n : Nat} (h : 0 < n) : (roundShift m n).1 ≤ m / 2 + 1 := by
  have hle : m / 2 ^ n ≤ m / 2 := Nat.div_le_div_left (by rw [← Nat.pow_one 2]; exact Nat.pow_le_pow_right (by omega) h) (by omega)
  unfold roundShift
  dsimp only
  split <;> omega

/-- A rescaled element stays in the range of exact elements (R69). -/
theorem rescale_exact128 {a b i : Int} (hi : Exact128 i) : Exact128 (rescale a b i).1 := by
  obtain ⟨hlo, hhi⟩ := id hi
  unfold rescale
  split
  · exact hi
  · split
    · dsimp only
      split
      · exact exactBound_exact128.1
      · split
        · exact exactBound_exact128.2
        next hle hge =>
          unfold exactBound at hle hge
          exact ⟨by omega, by omega⟩
    next hlt =>
      have hr : (roundShift i.natAbs (b - a).toNat).1 ≤ i.natAbs / 2 + 1 := roundShift_le (by omega)
      dsimp only
      unfold Exact128
      split <;> omega

/-- The elements of a tile as MANCH leaves them (R223). -/
def rescaled (j : Nat) (b : Int) (t : Tandem) : Tandem :=
  (configured (t.cfg j)).foldl (fun u k => u.setExact j k (rescale (t.anchor j) b (u.exact j k)).1) t

theorem rescaled_frame {b : Int} : rescaled j b t = { t with zt := (rescaled j b t).zt } :=
  OnlyZt.foldl fun _ _ => rfl

theorem rescaled_exact {b : Int} (ht : t.tidy) (hc : cfgN (t.cfg j) ≤ 64) {i l : Nat} (hi : i < cfgM (t.cfg j)) (hl : l < cfgN (t.cfg j)) :
    (rescaled j b t).exact j (64 * i + l) = (rescale (t.anchor j) b (t.exact j (64 * i + l))).1 := by
  unfold rescaled
  rw [foldl_setExact (val := fun _ y => (rescale (t.anchor j) b y).1) ht (nodup_configured hc) (fun _ _ => rescale_exact128),
    if_pos (mem_configured.2 ⟨i, hi, l, hl, rfl⟩)]

theorem rescaled_only {b : Int} (hc : cfgN (t.cfg j) ≤ 64) (hr : cfgM (t.cfg j) ≤ 64) :
    Claims.onlyWords t.zt (rescaled j b t).zt j (fun w => w / 4 % 64 < cfgN (t.cfg j) ∧ w / 256 < cfgM (t.cfg j)) := by
  intro k hk
  refine foldl_word_other fun e he u => setExact_other fun n hn heq => ?_
  obtain ⟨i, hi, l, hl, rfl⟩ := mem_configured.1 he
  exact hk (4 * (64 * i + l) + n) (by omega) ⟨by omega, by omega⟩ heq

/-- The gains of a tile as MGAIN leaves them (R236). -/
def gained (j g : Nat) (t : Tandem) : Tandem := (configured (t.cfg j)).foldl (fun u k => u.setWord j k g) t

theorem gained_frame {g : Nat} : gained j g t = { t with zt := (gained j g t).zt } := OnlyZt.foldl fun _ _ => rfl

theorem gained_word {g : Nat} (ht : t.tidy) {i l : Nat} (hi : i < cfgM (t.cfg j)) (hl : l < cfgN (t.cfg j)) :
    (gained j g t).word j (64 * i + l) = BitVec.ofNat 32 g := by
  unfold gained
  rw [foldl_setWord ht, if_pos (mem_configured.2 ⟨i, hi, l, hl, rfl⟩)]

theorem gained_only {g : Nat} (hc : cfgN (t.cfg j) ≤ 64) :
    Claims.onlyWords t.zt (gained j g t).zt j (fun w => w % 64 < cfgN (t.cfg j) ∧ w / 64 < cfgM (t.cfg j)) := by
  intro k hk
  refine foldl_word_other fun e he u => setWord_other fun heq => ?_
  obtain ⟨i, hi, l, hl, rfl⟩ := mem_configured.1 he
  have hm := cfgM_le (c := t.cfg j)
  exact hk (64 * i + l) (by omega) ⟨by omega, by omega⟩ heq

/-- MSTAT's word, bit by bit (R224). -/
theorem mstatWord_eq : mstatWord t j = field (t.cfg j) 0 28 +
    (if cfgMode (t.cfg j) = 2 ∧ Claims.someElem (t.cfg j) (fun k => t.word j k == 1) = true then 2 ^ 28 else 0) +
    (if cfgMode (t.cfg j) = 1 ∧ Claims.someElem (t.cfg j) (fun k => t.exact j k == exactBound || t.exact j k == -exactBound) = true then 2 ^ 29 else 0) +
    (if cfgMode (t.cfg j) = 1 ∧ Claims.someElem (t.cfg j) (fun k => t.exact j k == exactNaN) = true then 2 ^ 30 else 0) +
    (if cfgMode (t.cfg j) = 1 then (BitVec.ofInt 10 (t.anchor j)).toNat * 2 ^ 32 else 0) := by
  unfold mstatWord
  dsimp only
  simp only [any_configured, ofSigned_eq, Bool.and_eq_true, beq_iff_eq]

end

/-! ## Each member retires -/

section
variable {s t : State} {z : BitVec 4} {a d n : BitVec 7}

/-- The word of MZCFG's operand is legal: the tile takes it (R222). -/
theorem mzcfg_retires (h : Claims.tileReady s z.toNat) (hv : s.me.csr.vstart = 0) (hok : s.srcOk a.toNat) (hhere : s.srcHere a.toNat)
    (hx : cfgLegal (s.srcValue a.toNat) = true) :
    s.retiresWith (.mzcfg z a)
      ((s.srcTaken a.toNat).seeTds.spoilStrip.withTan (configureTile z.toNat (s.srcValue a.toNat) (s.srcTaken a.toNat).seeTds.spoilStrip.tan)) 0 := by
  obtain ⟨hfree, hs⟩ := h
  obtain ⟨p, hp, hread⟩ := vecScalar_first hs hhere
  have hcsr : (s.srcTaken a.toNat).seeTds.me.csr.vstart = s.me.csr.vstart := congrArg (fun h => h.csr.vstart) (seeTds_keeps.1.trans (srcTaken_me s a.toNat))
  refine retiresWith_of_midway (b := mzcfgBody z a) (o := p) rfl hs hcsr ?_ hp.savedFlags
  unfold mzcfgBody
  rw [exec_bind_ok (mzBegin_ok hfree hv), exec_bind_ok (checkSrc_ok hok), exec_bind_ok (awaitTile_ok hfree), exec_bind_ok hread, exec_bind_ok (require_of hx),
    exec_bind_ok spoils_midway, exec_modState_bind, seeTds_midway, seeTds_spoilStrip]
  exact modTile_midway

/-- MZERO (R222). -/
theorem mzero_retires (h : Claims.tileReady s z.toNat) (hv : s.me.csr.vstart = 0) :
    s.retiresWith (.mzero z) (s.spoilStrip.withTan (zeroTile z.toNat (cfgMode (s.tan.cfg z.toNat)) s.spoilStrip.tan)) 0 := by
  obtain ⟨hfree, hs⟩ := h
  refine retiresWith_of_ok (b := mzeroBody z) rfl hs hs ?_
  unfold mzeroBody
  rw [exec_bind_ok (mzBegin_ok hfree hv), exec_bind_ok (awaitTile_ok hfree)]
  rfl

/-- A tandem as MANCH leaves it (R223). -/
def anchored (j : Nat) (b : Int) (t : Tandem) : Tandem := { rescaled j b t with zanchor := sparseSet 0 (rescaled j b t).zanchor j b }

/-- MANCH of an exact tile and a word that an anchor holds (R223). -/
theorem manch_retires (h : Claims.tileReady s z.toNat) (hv : s.me.csr.vstart = 0) (hok : s.srcOk a.toNat) (hhere : s.srcHere a.toNat)
    (hm : cfgMode (s.tan.cfg z.toNat) = 1) (hlo : -512 ≤ (s.srcValue a.toNat).toInt) (hhi : (s.srcValue a.toNat).toInt ≤ 511) :
    ∃ fl, s.retiresWith (.manch z a)
      ((s.srcTaken a.toNat).spoilStrip.withTan (anchored z.toNat (s.srcValue a.toNat).toInt (s.srcTaken a.toNat).spoilStrip.tan)) fl := by
  obtain ⟨hfree, hs⟩ := h
  obtain ⟨p, hp, hread⟩ := vecScalar_first hs hhere
  have hraise := raiseSaved_midway (t := (s.srcTaken a.toNat).spoilStrip.withTan (anchored z.toNat (s.srcValue a.toNat).toInt (s.srcTaken a.toNat).spoilStrip.tan))
    (o := p) (n := s.me.csr.vstart)
  rw [hp.savedFlags] at hraise
  obtain ⟨q, hend, hq⟩ := hraise ((configured ((s.srcTaken a.toNat).spoilStrip.tan.cfg z.toNat)).foldl (fun f k =>
    f ||| (rescale ((s.srcTaken a.toNat).spoilStrip.tan.anchor z.toNat) (s.srcValue a.toNat).toInt ((s.srcTaken a.toNat).spoilStrip.tan.exact z.toNat k)).2) 0)
  refine ⟨_, retiresWith_of_midway (b := manchBody z a) (o := q) rfl hs (congrArg (fun h => h.csr.vstart) (srcTaken_me s a.toNat)) ?_ (hq.trans BitVec.zero_or)⟩
  unfold manchBody
  dsimp only
  rw [exec_bind_ok (mzBegin_ok hfree hv), exec_bind_ok (checkSrc_ok hok), exec_bind_ok (requireMode_ok hm), exec_bind_ok (awaitTile_ok hfree), exec_bind_ok hread,
    exec_bind_ok (require_of (decide_eq_true ⟨hlo, hhi⟩)), exec_bind_ok spoils_midway, exec_getState_bind, exec_bind_ok modTile_midway]
  exact hend

/-- MGAIN of an affine tile (R236). -/
theorem mgain_retires (h : Claims.tileReady s z.toNat) (hv : s.me.csr.vstart = 0) (hok : s.srcOk a.toNat) (hhere : s.srcHere a.toNat)
    (hm : cfgMode (s.tan.cfg z.toNat) = 2) :
    s.retiresWith (.mgain z a) ((s.srcTaken a.toNat).spoilStrip.withTan
      (gained z.toNat (gainIn ((s.srcValue a.toNat).toNat % 2 ^ 32)).1 (s.srcTaken a.toNat).spoilStrip.tan)) (gainIn ((s.srcValue a.toNat).toNat % 2 ^ 32)).2 := by
  obtain ⟨hfree, hs⟩ := h
  obtain ⟨p, hp, hread⟩ := vecScalar_first hs hhere
  have hraise := raiseSaved_midway (o := p) (n := s.me.csr.vstart) (t := (s.srcTaken a.toNat).spoilStrip.withTan
    (gained z.toNat (gainIn ((s.srcValue a.toNat).toNat % 2 ^ 32)).1 (s.srcTaken a.toNat).spoilStrip.tan))
  rw [hp.savedFlags] at hraise
  obtain ⟨q, hend, hq⟩ := hraise (gainIn ((s.srcValue a.toNat).toNat % 2 ^ 32)).2
  refine retiresWith_of_midway (b := mgainBody z a) (o := q) rfl hs (congrArg (fun h => h.csr.vstart) (srcTaken_me s a.toNat)) ?_ (hq.trans BitVec.zero_or)
  unfold mgainBody
  dsimp only
  rw [exec_bind_ok (mzBegin_ok hfree hv), exec_bind_ok (checkSrc_ok hok), exec_bind_ok (requireMode_ok hm), exec_bind_ok (awaitTile_ok hfree), exec_bind_ok hread,
    exec_bind_ok spoils_midway, exec_getState_bind, exec_bind_ok modTile_midway]
  exact hend

theorem dstPut_savedNow {k : Nat} {x : Word} : (s.dstPut k x).me.savedNow = s.me.savedNow := by
  unfold State.dstPut
  split
  · unfold Hart.writeS
    split <;> rfl
  · dsimp only
    split <;> rfl

/-- MSTAT (R224). -/
theorem mstat_retires (h : Claims.tileReady s z.toNat) (hv : s.me.csr.vstart = 0) (hok : s.dstOk d.toNat) (hroom : s.dstRoom d.toNat) :
    s.retiresWith (.mstat d z) (s.dstPut d.toNat (BitVec.ofNat 64 (mstatWord s.tan z.toNat))) 0 := by
  obtain ⟨hfree, hs⟩ := h
  refine retiresWith_of_ok (b := mstatBody d z) rfl hs (dstPut_savedNow.trans hs) ?_
  unfold mstatBody
  rw [exec_bind_ok (mzBegin_ok hfree hv), exec_bind_ok (checkDst_ok hok), exec_bind_ok (awaitTile_ok hfree), exec_getState_bind]
  exact writeS_room _ hroom

/-- MCOMMIT (R232). -/
theorem mcommit_retires (h : Claims.engineSide s) (hs : s.me.savedNow = none) (hv : s.me.csr.vstart = 0) :
    s.retiresWith .mcommit { s with tan := { s.tan with openBatch := s.tan.openBatch + 1 } } 0 := by
  refine retiresWith_of_ok (b := mcommitBody) rfl hs hs ?_
  unfold mcommitBody
  rw [exec_bind_ok (mzBegin_none_ok h hv)]
  rfl

/-- MWAIT with few enough batches outstanding and no overflow of a completed batch to report (R72, R232). -/
theorem mwait_retires (h : Claims.engineSide s) (hs : s.me.savedNow = none) (hv : s.me.csr.vstart = 0) (hn : s.tan.outstandingBatches ≤ n.toNat)
    (ho : ∀ o ∈ s.tan.overflows, o.done = true ∨ s.tan.openBatch ≤ o.batch ∨ ∃ p ∈ s.tan.matrix, p.batch = o.batch) : s.retiresWith (.mwait n) s 0 := by
  refine retiresWith_of_ok (b := mwaitBody n) rfl hs hs ?_
  unfold mwaitBody
  rw [exec_bind_ok (mzBegin_none_ok h hv), exec_getState_bind, if_neg (by omega)]
  refine reportOverflow_ok fun o hmem hq => ?_
  rw [Bool.and_eq_true, decide_eq_true_eq, List.all_eq_true] at hq
  rcases ho o hmem with hdone | hopen | ⟨p, hp, heq⟩
  · exact hdone
  · omega
  · exact absurd heq (of_decide_eq_true (hq.2 p hp))

end

/-! ## MWAIT waits -/

section
variable {s s0 t u : State}

/-- A stopped instruction keeps its place, its registers and its tandem: what stops adds concerns the recorder, the sweep and the saved operand state. -/
def State.sameWork (s t : State) : Prop := t.me.pc = s.me.pc ∧ t.tan = s.tan ∧ t.me.s = s.me.s ∧ t.me.v = s.me.v

theorem State.sameWork.refl : s.sameWork s := ⟨rfl, rfl, rfl, rfl⟩

theorem State.sameWork.trans (h : s.sameWork t) (h' : t.sameWork u) : s.sameWork u :=
  ⟨h'.1.trans h.1, h'.2.1.trans h.2.1, h'.2.2.1.trans h.2.2.1, h'.2.2.2.trans h.2.2.2⟩

theorem sameWork_withSaved {o : Option Saved} : s.sameWork { s with me := s.me.withSaved o } := by
  rw [Hart.withSaved_eq_midway]
  exact ⟨rfl, rfl, rfl, rfl⟩

theorem keepSpan_sameWork : s.sameWork (keepSpan s) := by
  unfold keepSpan
  split
  · exact sameWork_withSaved
  · exact .refl

theorem keepIssue_sameWork {e : Stop} : s.sameWork (keepIssue e s0 s) := by
  unfold keepIssue
  split
  · exact sameWork_withSaved
  · exact .refl

theorem measureHook_sameWork {done : Bool} : s.sameWork (measureHook done s) := by
  unfold measureHook
  split
  · exact .refl
  · split
    · exact .refl
    · dsimp only
      split
      · exact .refl
      · split
        · exact .refl
        · exact ⟨rfl, rfl, rfl, rfl⟩

theorem declineLoop_regs {code : Nat} {h : Hart} : (declineLoop code h).pc = h.pc ∧ (declineLoop code h).s = h.s ∧ (declineLoop code h).v = h.v := by
  unfold declineLoop
  split
  · split <;> exact ⟨rfl, rfl, rfl⟩
  · exact ⟨rfl, rfl, rfl⟩

theorem recordPartial_sameWork : s.sameWork (recordPartial s0 s) := by
  unfold recordPartial
  split
  · split
    · split
      · exact ⟨rfl, rfl, rfl, rfl⟩
      · exact ⟨declineLoop_regs.1, rfl, declineLoop_regs.2⟩
    · exact .refl
  · exact .refl

/-- A wait other than for a queue keeps the state up to where it stopped, with the reason in WAITRSN. -/
theorem stopped_wait {reason port need : Nat} {addr : Word} (h : (Stop.wait reason port addr need).atPop = false) :
    s.sameWork (stopped (.wait reason port addr need) s0 s) ∧ (stopped (.wait reason port addr need) s0 s).me.csr.waitrsn = BitVec.ofNat 64 reason := by
  unfold stopped
  rw [h]
  have hsame := (keepSpan_sameWork (s := s)).trans ((keepIssue_sameWork (s0 := beginVector s0) (e := .wait reason port addr need)).trans
    ((measureHook_sameWork (done := false)).trans (recordPartial_sameWork (s0 := s0))))
  exact ⟨⟨hsame.1, hsame.2.1, hsame.2.2.1, hsame.2.2.2⟩, rfl⟩

theorem mwait_waits {n : BitVec 7} (h : Claims.engineSide s) (hs : s.me.savedNow = none) (hv : s.me.csr.vstart = 0) (hn : n.toNat < s.tan.outstandingBatches) :
    exec (.mwait n) s = .next (stopped (.wait 6 0x42) s s) := by
  have hbegin : beginVector s = s := by unfold beginVector; rw [hs]
  have hbody : mwaitBody n s = .error (.wait 6 0x42) s := by
    unfold mwaitBody
    rw [exec_bind_ok (mzBegin_none_ok h hv), exec_getState_bind, if_pos hn]
    rfl
  show runKeep (mwaitBody n) s = _
  unfold runKeep
  rw [hbegin, hbody]

end

/-! ## The statement -/

section
variable {s t : State} {z : BitVec 4} {a : BitVec 7} {zt : List (Nat × BitVec 32)} {zcfg : List (Nat × BitVec 64)} {an : List (Nat × Int)}

theorem withTan_words : t.spoilStrip.withTan { t.spoilStrip.tan with zt := zt } = Claims.withTiles t zt := rfl

theorem withTan_anchors : t.spoilStrip.withTan { t.spoilStrip.tan with zt := zt, zanchor := an } =
    { Claims.withTiles t zt with tan := { (Claims.withTiles t zt).tan with zanchor := an } } := rfl

theorem withTan_config : t.spoilStrip.withTan { t.spoilStrip.tan with zt := zt, zcfg := zcfg, zanchor := an } =
    { Claims.withTiles t zt with tan := { (Claims.withTiles t zt).tan with zcfg := zcfg, zanchor := an } } := rfl

/-- MZCFG: the tile's configuration, and its words and anchor as R222 gives them. -/
theorem mzcfg_sets (h : Claims.tileReady s z.toNat) (hv : s.me.csr.vstart = 0) (hok : s.srcOk a.toNat) (hhere : s.srcHere a.toNat)
    (hx : cfgLegal (s.srcValue a.toNat) = true) :
    let v := (s.srcTaken a.toNat).seeTds
    let cfg := s.tan.cfg z.toNat
    let x := s.srcValue a.toNat
    ∃ zt an, s.retiresWith (.mzcfg z a) { Claims.withTiles v zt with tan := { (Claims.withTiles v zt).tan with
        zcfg := sparseSet 0 s.tan.zcfg z.toNat x, zanchor := an } } 0 ∧
      if cfgMode cfg = cfgMode x ∧ cfgM cfg = cfgM x ∧ cfgN cfg = cfgN x then zt = s.tan.zt ∧ an = s.tan.zanchor
      else Claims.zeroed s.tan.zt zt z.toNat (cfgMode x) ∧
        an = if cfgMode x = 1 then sparseSet 0 s.tan.zanchor z.toNat (Claims.anchorOf v.tan x) else s.tan.zanchor := by
  obtain ⟨hzt, hzcfg, hanchor⟩ := srcTaken_tiles (s := s) (n := a.toNat)
  obtain ⟨-, hvzt, hvzcfg, hvanchor⟩ := seeTds_keeps (t := s.srcTaken a.toNat)
  have hret := mzcfg_retires h hv hok hhere hx
  have hwords := configureTile_words (t := (s.srcTaken a.toNat).seeTds.spoilStrip.tan) (j := z.toNat) (c := s.srcValue a.toNat)
  rw [configureTile_frame, show (s.srcTaken a.toNat).seeTds.spoilStrip.tan.zcfg = s.tan.zcfg from hvzcfg.trans hzcfg, withTan_config] at hret
  rw [show (s.srcTaken a.toNat).seeTds.spoilStrip.tan.cfg z.toNat = s.tan.cfg z.toNat from congrArg (fun m => sparseGet 0 m z.toNat) (hvzcfg.trans hzcfg),
    show (s.srcTaken a.toNat).seeTds.spoilStrip.tan.zt = s.tan.zt from hvzt.trans hzt,
    show (s.srcTaken a.toNat).seeTds.spoilStrip.tan.zanchor = s.tan.zanchor from hvanchor.trans hanchor] at hwords
  exact ⟨_, _, hret, hwords⟩

/-- The tandem that a member works on once its operand is read: its tiles are those it began with. -/
theorem taken_tiles : (s.srcTaken a.toNat).spoilStrip.tan.zt = s.tan.zt ∧ (s.srcTaken a.toNat).spoilStrip.tan.cfg z.toNat = s.tan.cfg z.toNat ∧
    (s.srcTaken a.toNat).spoilStrip.tan.zanchor = s.tan.zanchor := by
  obtain ⟨hzt, hzcfg, hanchor⟩ := srcTaken_tiles (s := s) (n := a.toNat)
  exact ⟨hzt, congrArg (fun m => sparseGet 0 m z.toNat) hzcfg, hanchor⟩

theorem word_of_zt {t u : Tandem} (h : u.zt = t.zt) (j w : Nat) : u.word j w = t.word j w := by
  unfold Tandem.word
  rw [h]

theorem exact_of_zt {t u : Tandem} (h : u.zt = t.zt) (j k : Nat) : u.exact j k = t.exact j k := exact_congr fun _ _ => word_of_zt h _ _

/-- MANCH: each configured element rescaled, no other word changed, and the anchor (R223). -/
theorem manch_sets (hwf : s.tan.tidy) (h : Claims.tileReady s z.toNat) (hv : s.me.csr.vstart = 0) (hok : s.srcOk a.toNat) (hhere : s.srcHere a.toNat)
    (hm : cfgMode (s.tan.cfg z.toNat) = 1) (hlo : -512 ≤ (s.srcValue a.toNat).toInt) (hhi : (s.srcValue a.toNat).toInt ≤ 511) :
    let t := s.srcTaken a.toNat
    let cfg := s.tan.cfg z.toNat
    let x := s.srcValue a.toNat
    ∃ zt fl, s.retiresWith (.manch z a) { Claims.withTiles t zt with tan := { (Claims.withTiles t zt).tan with
        zanchor := sparseSet 0 s.tan.zanchor z.toNat x.toInt } } fl ∧
      (∀ i < cfgM cfg, ∀ k < cfgN cfg,
        ({ s.tan with zt := zt } : Tandem).exact z.toNat (64 * i + k) = (rescale (s.tan.anchor z.toNat) x.toInt (s.tan.exact z.toNat (64 * i + k))).1) ∧
      Claims.onlyWords s.tan.zt zt z.toNat (fun w => w / 4 % 64 < cfgN cfg ∧ w / 256 < cfgM cfg) := by
  have hlegal : cfgLegal (s.tan.cfg z.toNat) = true := h.1.2.2.1
  obtain ⟨hzt, hcfg, hanchor⟩ := taken_tiles (s := s) (z := z) (a := a)
  have htaken : (s.srcTaken a.toNat).spoilStrip.tan.tidy := by unfold Tandem.tidy; rw [hzt]; exact hwf
  have hcols : cfgN ((s.srcTaken a.toNat).spoilStrip.tan.cfg z.toNat) ≤ 64 := by rw [hcfg]; exact cfgLegal.cols hlegal (by omega)
  have hrows : cfgM ((s.srcTaken a.toNat).spoilStrip.tan.cfg z.toNat) ≤ 64 := by rw [hcfg]; exact cfgLegal.rows hlegal hm
  obtain ⟨fl, hret⟩ := manch_retires h hv hok hhere hm hlo hhi
  have honly := rescaled_only (b := (s.srcValue a.toNat).toInt) hcols hrows
  have hwords := fun i hi k hk => rescaled_exact (i := i) (l := k) (b := (s.srcValue a.toNat).toInt) htaken hcols hi hk
  unfold anchored at hret
  rw [rescaled_frame, hanchor, withTan_anchors] at hret
  rw [hcfg, hzt] at honly
  refine ⟨_, fl, hret, fun i hi k hk => ?_, honly⟩
  rw [← hcfg] at hi hk
  have helem := hwords i hi k hk
  rw [exact_of_zt hzt, show (s.srcTaken a.toNat).spoilStrip.tan.anchor z.toNat = s.tan.anchor z.toNat from congrArg (fun m => sparseGet 0 m z.toNat) hanchor] at helem
  exact (exact_of_zt rfl _ _).trans helem

/-- MGAIN: every configured gain set, no other word changed (R236). -/
theorem mgain_sets (hwf : s.tan.tidy) (h : Claims.tileReady s z.toNat) (hv : s.me.csr.vstart = 0) (hok : s.srcOk a.toNat) (hhere : s.srcHere a.toNat)
    (hm : cfgMode (s.tan.cfg z.toNat) = 2) :
    let t := s.srcTaken a.toNat
    let cfg := s.tan.cfg z.toNat
    let x := s.srcValue a.toNat
    ∃ zt, s.retiresWith (.mgain z a) (Claims.withTiles t zt) (gainIn (x.toNat % 2 ^ 32)).2 ∧
      (∀ i < cfgM cfg, ∀ k < cfgN cfg, ({ s.tan with zt := zt } : Tandem).word z.toNat (64 * i + k) = BitVec.ofNat 32 (gainIn (x.toNat % 2 ^ 32)).1) ∧
      Claims.onlyWords s.tan.zt zt z.toNat (fun w => w % 64 < cfgN cfg ∧ w / 64 < cfgM cfg) := by
  have hlegal : cfgLegal (s.tan.cfg z.toNat) = true := h.1.2.2.1
  obtain ⟨hzt, hcfg, -⟩ := taken_tiles (s := s) (z := z) (a := a)
  have htaken : (s.srcTaken a.toNat).spoilStrip.tan.tidy := by unfold Tandem.tidy; rw [hzt]; exact hwf
  have hcols : cfgN ((s.srcTaken a.toNat).spoilStrip.tan.cfg z.toNat) ≤ 64 := by rw [hcfg]; exact cfgLegal.cols hlegal (by omega)
  have hret := mgain_retires h hv hok hhere hm
  have honly := gained_only (g := (gainIn ((s.srcValue a.toNat).toNat % 2 ^ 32)).1) hcols
  rw [gained_frame, withTan_words] at hret
  rw [hcfg, hzt] at honly
  refine ⟨_, hret, fun i hi k hk => ?_, honly⟩
  rw [← hcfg] at hi hk
  exact (word_of_zt rfl _ _).trans (gained_word htaken hi hk)

end

/-- Settles O35: each member passes its checks, takes its operand, and leaves the tile that its body computes. -/
theorem tileInstructionsSetTheirTile : Obligations.TileInstructionsSetTheirTile := by
  unfold Obligations.TileInstructionsSetTheirTile
  intro z d a n s htidy hv
  have hwf : s.tan.tidy := htidy.2.2.2.1
  refine ⟨fun hready => ⟨mzcfg_sets hready hv, ⟨_, mzero_retires hready hv, zeroTile_zeroed⟩, manch_sets hwf hready hv, mgain_sets hwf hready hv, fun hok hroom => ?_⟩,
    fun hside hs => ⟨mcommit_retires hside hs hv, mwait_retires hside hs hv, fun hn => ?_⟩⟩
  · dsimp only
    rw [← mstatWord_eq]
    exact mstat_retires hready hv hok hroom
  · obtain ⟨⟨hpc, htan, hregs, hvregs⟩, hwait⟩ := stopped_wait (s := s) (s0 := s) (reason := 6) (port := 0x42) (need := 1) (addr := 0) rfl
    exact ⟨_, mwait_waits hside hs hv hn, hpc, hwait, congrArg Tandem.matrix htan, hregs, hvregs⟩

end Sys2Proof.Machine

end

section
/-! PROOFS. Columns of an affine tile and pairs of a carry register (R35, R79–R82): what one step of a scan writes, and what it leaves to the next. -/

namespace Sys2Proof.Machine

open Sys2Proof

/-! ## Codes of FP32 -/

/-- A finite magnitude is delivered as its sign with a magnitude no greater than the largest finite one, or with that of infinity. -/
theorem deliverNum_code {f : Fmt} {mode r : Nat} {neg : Bool} {m : Nat} {e : Int} {sticky : Bool} :
    ∃ k, (k ≤ f.maxMag ∨ k = f.top * 2 ^ f.mw) ∧ (f.deliverNum mode r neg m e sticky).1 = f.code neg k := by
  unfold Fmt.deliverNum
  dsimp only
  generalize Int.toNat _ * 2 ^ f.mw + _ + _ = code
  by_cases h : f.maxMag < code
  · rw [if_pos h]
    exact ⟨_, ite_holds (P := fun k => k ≤ f.maxMag ∨ k = f.top * 2 ^ f.mw) (.inl (Nat.le_refl _)) (.inr rfl), rfl⟩
  · rw [if_neg h]
    exact ⟨_, .inl (Nat.le_of_not_lt h), rfl⟩

theorem fp32_code_lt {neg : Bool} {m : Nat} (h : m < 2 ^ 31) : fp32.code neg m < 2 ^ 32 := by
  unfold Fmt.code
  cases neg <;> simp [fp32] <;> omega

theorem fp32_deliver_lt {mode r : Nat} {v : Val} : (fp32.deliver mode r v).1 < 2 ^ 32 := by
  have hcanon : fp32.canonical = some 0x7FC00000 := by decide
  have hmax : fp32.maxMag < 2 ^ 31 := by decide
  have htop : fp32.top * 2 ^ fp32.mw < 2 ^ 31 := by decide
  cases v with
  | nan _ =>
    simp only [Fmt.deliver, hcanon]
    decide
  | inf neg =>
    simp only [Fmt.deliver, show fp32.sgn = true from rfl, show fp32.spec = 2 from rfl, Bool.true_eq_false, false_and, if_false, if_true]
    exact fp32_code_lt htop
  | num neg m e sticky =>
    simp only [Fmt.deliver, show fp32.sgn = true from rfl, Bool.true_eq_false, false_and, if_false]
    split
    · exact fp32_code_lt (by decide)
    · obtain ⟨k, hk, heq⟩ := deliverNum_code (f := fp32) (mode := mode) (r := r) (neg := neg) (m := m) (e := e) (sticky := sticky)
      rw [heq]
      exact fp32_code_lt (by omega)
theorem gainIn_lt {x : Nat} : (gainIn x).1 < 2 ^ 32 := by
  unfold gainIn horizonMark
  split
  · exact (by decide : (0x7FC00000 : Nat) < 2 ^ 32)
  · split
    · decide
    · exact Nat.mod_lt _ (Nat.two_pow_pos _)
  · exact Nat.mod_lt _ (Nat.two_pow_pos _)

/-- A pair of codes that fit their words. -/
def Codes (p : Nat × Nat) : Prop := p.1 < 2 ^ 32 ∧ p.2 < 2 ^ 32

theorem compose_codes {p q : Nat × Nat} : Codes (compose p q).1 := by
  refine ⟨?_, fp32_deliver_lt⟩
  unfold compose
  dsimp only
  split
  · split
    · decide
    · exact fp32_deliver_lt
  · exact fp32_deliver_lt

/-! ## Sparse tables written twice -/

section
variable {β : Type} [DecidableEq β] {d x y : β} {l : List (Nat × β)} {i lo : Nat}

theorem sparseSet_below (h : sparseWfFrom d lo l = true) (hi : i < lo) : sparseSet d l i x = if x = d then l else (i, x) :: l := by
  cases l with
  | nil => rfl
  | cons e r =>
    obtain ⟨k, v⟩ := e
    simp only [sparseWfFrom, Bool.and_eq_true, decide_eq_true_eq] at h
    rw [sparseSet, if_pos (by omega)]

/-- A value written over another at one key is as if it were written alone. -/
theorem sparseSet_set (h : sparseWfFrom d lo l = true) : sparseSet d (sparseSet d l i x) i y = sparseSet d l i y := by
  induction l generalizing lo with
  | nil =>
    by_cases hx : x = d
    · simp [sparseSet, hx]
    · by_cases hy : y = d <;> simp [sparseSet, hx, hy]
  | cons e r ih =>
    obtain ⟨k, v⟩ := e
    simp only [sparseWfFrom, Bool.and_eq_true, decide_eq_true_eq] at h
    obtain ⟨-, hr⟩ := h
    by_cases hlt : i < k
    · by_cases hx : x = d
      · simp [sparseSet, hlt, hx]
      · simp [sparseSet, hlt, hx]
    · by_cases heq : i = k
      · subst heq
        by_cases hx : x = d
        · rw [sparseSet, if_neg hlt, if_pos rfl, if_pos hx, sparseSet_below hr (by omega), sparseSet, if_neg hlt, if_pos rfl]
        · simp [sparseSet, hx]
      · simp only [sparseSet, hlt, heq, if_false, ih hr]

/-- A table with the value that it has written at a key is the same table. -/
theorem sparseSet_get (h : sparseWfFrom d lo l = true) : sparseSet d l i (sparseGet d l i) = l := by
  induction l generalizing lo with
  | nil => simp [sparseSet, sparseGet]
  | cons e r ih =>
    obtain ⟨k, v⟩ := e
    simp only [sparseWfFrom, Bool.and_eq_true, decide_eq_true_eq] at h
    obtain ⟨⟨-, hv⟩, hr⟩ := h
    rw [sparseGet]
    by_cases heq : i = k
    · simp [sparseSet, heq, hv]
    · rw [if_neg heq]
      by_cases hlt : i < k
      · rw [sparseGet_below d r (k + 1) i (by omega) hr, sparseSet, if_pos hlt, if_pos rfl]
      · rw [sparseSet, if_neg hlt, if_neg heq, ih hr]

end

/-! ## Pairs of a carry register -/

section
variable {h : HReg} {m i : Nat} {p : Nat × Nat}

theorem field_setField {w lo len a n v : Nat} {x : BitVec w} (hin : lo ≤ a) (hle : a + n ≤ lo + len) (hw : lo + len ≤ w) :
    field (setField x lo len v) a n = v / 2 ^ (a - lo) % 2 ^ n := by
  refine Nat.eq_of_testBit_eq fun b => ?_
  unfold field
  rw [BitVec.testBit_toNat, BitVec.getLsbD_extractLsb', Nat.testBit_mod_two_pow, Nat.testBit_div_two_pow]
  by_cases hb : b < n
  · rw [getLsbD_setField (by omega), if_pos (by omega)]
    simp only [hb, decide_true, Bool.true_and]
    congr 1
    omega
  · simp [hb]

theorem field_setField_other {w lo len a n v : Nat} {x : BitVec w} (hout : a + n ≤ lo ∨ lo + len ≤ a) (hw : a + n ≤ w) :
    field (setField x lo len v) a n = field x a n := by
  refine Nat.eq_of_testBit_eq fun b => ?_
  unfold field
  rw [BitVec.testBit_toNat, BitVec.testBit_toNat, BitVec.getLsbD_extractLsb', BitVec.getLsbD_extractLsb']
  by_cases hb : b < n
  · rw [getLsbD_setField (by omega), if_neg (by omega)]
  · simp [hb]

theorem carryPair_set_same (hm : m < 128) (hp : Codes p) : carryPair (setCarryPair h m p) m = p := by
  obtain ⟨h1, h2⟩ := hp
  unfold carryPair setCarryPair
  rw [field_setField (by omega) (by omega) (by omega), field_setField (by omega) (by omega) (by omega), Nat.sub_self, Nat.add_sub_cancel_left]
  refine Prod.ext ?_ ?_
  · dsimp only
    omega
  · dsimp only
    omega

theorem carryPair_set_other (hi : i < 128) (h' : i ≠ m) : carryPair (setCarryPair h m p) i = carryPair h i := by
  unfold carryPair setCarryPair
  rw [field_setField_other (by omega) (by omega), field_setField_other (by omega) (by omega)]

theorem carryPair_codes : Codes (carryPair h m) := ⟨field_lt _ _ _, field_lt _ _ _⟩

/-- A carry register with each of its pairs written once. -/
theorem carryPair_foldl {f : Nat → Nat × Nat} (hf : ∀ m, Codes (f m)) {ms : List Nat} (hi : i < 128) :
    carryPair (ms.foldl (fun r m => setCarryPair r m (f m)) h) i = if i ∈ ms then f i else carryPair h i := by
  induction ms generalizing h with
  | nil => exact (if_neg List.not_mem_nil).symm
  | cons m ms ih =>
    rw [List.foldl_cons, ih]
    by_cases hm : i = m
    · subst hm
      rw [carryPair_set_same hi (hf i)]
      simp
    · rw [carryPair_set_other hi hm]
      simp [hm]

end

/-! ## The rows of a column -/

/-- The pairs of a column of an affine tile, top row first. -/
def colRows (j rows : Nat) (t : Tandem) (col : Nat) : List (Nat × Nat) :=
  (range 0 rows).map fun i => ((t.word j (64 * i + col)).toNat, (t.word j (8192 + 64 * i + col)).toNat)

/-- One row of a column written. -/
def writeRow (j col : Nat) (t : Tandem) (e : Nat × Nat × Nat) : Tandem := (t.setWord j (64 * e.1 + col) e.2.1).setWord j (8192 + 64 * e.1 + col) e.2.2

/-- The rows of a column written from row `lo` on. -/
def writeRows (j col lo n : Nat) (rows : List (Nat × Nat)) (t : Tandem) : Tandem := ((range lo n).zip rows).foldl (writeRow j col) t

section
variable {t : Tandem} {j col lo n i : Nat} {rows : List (Nat × Nat)}

theorem writeRow_tidy {e : Nat × Nat × Nat} (ht : t.tidy) : (writeRow j col t e).tidy := Tandem.setWord_tidy (Tandem.setWord_tidy ht)

theorem writeRows_tidy (ht : t.tidy) : (writeRows j col lo n rows t).tidy := foldl_holds (fun _ h _ _ => writeRow_tidy h) ht

theorem writeRows_frame : writeRows j col lo n rows t = { t with zt := (writeRows j col lo n rows t).zt } := OnlyZt.foldl fun _ _ => rfl

/-- Every key but the words of the rows written keeps its word. -/
theorem writeRows_other {k : Nat} (h : ∀ i, lo ≤ i → i < lo + n → k ≠ 16384 * j + (64 * i + col) ∧ k ≠ 16384 * j + (8192 + 64 * i + col)) :
    sparseGet 0 (writeRows j col lo n rows t).zt k = sparseGet 0 t.zt k := by
  refine foldl_word_other fun e he u => ?_
  have hmem := (List.of_mem_zip he).1
  rw [range_eq_range', List.mem_range'_1] at hmem
  obtain ⟨h1, h2⟩ := h e.1 hmem.1 hmem.2
  exact (setWord_other h2).trans (setWord_other h1)

/-- The words of a row that is written (R79). -/
theorem writeRows_word (ht : t.tidy) (hc : col < 64) (hn : lo + n ≤ 128) (hlen : rows.length = n) (hlo : lo ≤ i) (hi : i < lo + n) :
    (writeRows j col lo n rows t).word j (64 * i + col) = BitVec.ofNat 32 (rows.getD (i - lo) (0, 0)).1 ∧
      (writeRows j col lo n rows t).word j (8192 + 64 * i + col) = BitVec.ofNat 32 (rows.getD (i - lo) (0, 0)).2 := by
  induction n generalizing lo rows t with
  | zero => omega
  | succ n ih =>
    obtain ⟨r, rows, rfl⟩ := List.exists_cons_of_length_eq_add_one hlen
    have hstep : writeRows j col lo (n + 1) (r :: rows) t = writeRows j col (lo + 1) n rows (writeRow j col t (lo, r)) := rfl
    rw [hstep]
    by_cases heq : i = lo
    · subst heq
      have hsame : ∀ w, w = 64 * i + col ∨ w = 8192 + 64 * i + col →
          (writeRows j col (i + 1) n rows (writeRow j col t (i, r))).word j w = (writeRow j col t (i, r)).word j w := fun w hw =>
        writeRows_other fun l _ _ => by omega
      rw [hsame _ (.inl rfl), hsame _ (.inr rfl), Nat.sub_self]
      unfold writeRow
      exact ⟨(word_setWord_other (by omega)).trans (word_setWord_same ht), word_setWord_same (Tandem.setWord_tidy ht)⟩
    · have hrest := ih (writeRow_tidy (j := j) (col := col) (e := (lo, r)) ht) (by omega) (Nat.succ.inj hlen) (by omega : lo + 1 ≤ i) (by omega)
      rw [show i - lo = (i - (lo + 1)) + 1 by omega]
      exact hrest

/-- A column read back once its rows are written. -/
theorem colRows_writeRows_same (ht : t.tidy) (hc : col < 64) (hn : n ≤ 128) (hlen : rows.length = n) (hcodes : ∀ p ∈ rows, Codes p) :
    colRows j n (writeRows j col 0 n rows t) col = rows := by
  unfold colRows
  refine List.ext_getElem (by simp [hlen]) fun i hi hi' => ?_
  rw [hlen] at hi'
  obtain ⟨h1, h2⟩ := writeRows_word (rows := rows) (j := j) ht hc (lo := 0) (by omega) hlen (Nat.zero_le i) (by omega)
  have hlow := hcodes rows[i] (List.getElem_mem _)
  rw [List.getElem_map, range_getElem, Nat.zero_add, h1, h2, Nat.sub_zero, List.getD_eq_getElem _ _ (by omega), BitVec.toNat_ofNat, BitVec.toNat_ofNat,
    Nat.mod_eq_of_lt hlow.1, Nat.mod_eq_of_lt hlow.2]

/-- The other columns are as they were. -/
theorem colRows_writeRows_other {c : Nat} (hc : col < 64) (hc' : c < 64) (h : c ≠ col) (hn : n ≤ 128) : colRows j n (writeRows j col 0 n rows t) c = colRows j n t c := by
  unfold colRows
  refine List.map_congr_left fun i hi => ?_
  have hlt := range_lt hi
  have hkeep : ∀ w, w = 64 * i + c ∨ w = 8192 + 64 * i + c → (writeRows j col 0 n rows t).word j w = t.word j w := fun w hw =>
    writeRows_other fun l _ _ => by omega
  rw [hkeep _ (.inl rfl), hkeep _ (.inr rfl)]

theorem colRows_codes : ∀ p ∈ colRows j n t col, Codes p := by
  intro p hp
  obtain ⟨i, -, rfl⟩ := List.mem_map.1 hp
  exact ⟨BitVec.isLt _, BitVec.isLt _⟩

@[simp] theorem colRows_length : (colRows j n t col).length = n := by simp [colRows]

end

/-! ## One step of a scan (R81) -/

section
variable {d n : Nat} {rows : List (Nat × Nat)} {c : Nat × Nat}

theorem scanStep_length : (scanStep d rows).1.length = rows.length := by simp [scanStep]

theorem scanStep_codes (h : ∀ p ∈ rows, Codes p) : ∀ p ∈ (scanStep d rows).1, Codes p := by
  intro p hp
  unfold scanStep at hp
  simp only [List.map_map, List.mem_map, Function.comp] at hp
  obtain ⟨e, he, rfl⟩ := hp
  split
  · exact h _ (List.of_mem_zip he).2
  · exact compose_codes

theorem scanColumn_length : (scanColumn n rows c).1.length = rows.length := by
  unfold scanColumn
  dsimp only
  split
  · simp [scanStep_length]
  · exact scanStep_length

theorem scanColumn_codes (h : ∀ p ∈ rows, Codes p) (hc : Codes c) : (∀ p ∈ (scanColumn n rows c).1, Codes p) ∧ Codes (scanColumn n rows c).2.1 := by
  unfold scanColumn
  dsimp only
  split
  · have hall : ∀ p ∈ ((scanStep (2 ^ n) rows).1.map (compose c)).map (·.1), Codes p := by
      intro p hp
      simp only [List.map_map, List.mem_map, Function.comp] at hp
      obtain ⟨e, -, rfl⟩ := hp
      exact compose_codes
    refine ⟨hall, ?_⟩
    cases hlast : (((scanStep (2 ^ n) rows).1.map (compose c)).map (·.1)).getLast? with
    | none => exact hc
    | some p => exact hall p (List.mem_of_getLast? hlast)
  · exact ⟨scanStep_codes h, hc⟩

end

end Sys2Proof.Machine

end

section
/-! PROOFS. One step of MSCAN on every column (R81, R82, R236): a column's step reads and writes its own words and its own pair only, so each step finds what the
instruction found. -/

namespace Sys2Proof.Machine

open Sys2Proof

/-! ## The columns, one after the other -/

/-- What step `n + 1` of R81 makes of a column of tile `j` and of its pair of a carry register. -/
def columnStep (j rows n : Nat) (t : Tandem) (h : HReg) (col : Nat) : List (Nat × Nat) × (Nat × Nat) × Nat := scanColumn n (colRows j rows t col) (carryPair h col)

/-- A tile, a carry register and the flags, after the step of a column. -/
def scanCol (j rows n : Nat) (x : Tandem × HReg × Nat) (col : Nat) : Tandem × HReg × Nat :=
  let r := columnStep j rows n x.1 x.2.1 col
  (writeRows j col 0 rows r.1 x.1, setCarryPair x.2.1 col r.2.1, x.2.2 ||| r.2.2)

section
variable {j rows n : Nat} {x : Tandem × HReg × Nat} {cols : List Nat} {col c : Nat}

theorem columnStep_codes {t : Tandem} {h : HReg} : (∀ p ∈ (columnStep j rows n t h col).1, Codes p) ∧ Codes (columnStep j rows n t h col).2.1 :=
  scanColumn_codes colRows_codes carryPair_codes

theorem columnStep_length {t : Tandem} {h : HReg} : (columnStep j rows n t h col).1.length = rows := scanColumn_length.trans colRows_length

theorem scanCol_tidy (ht : x.1.tidy) : (scanCol j rows n x col).1.tidy := writeRows_tidy ht

theorem scanCol_rows (ht : x.1.tidy) (hr : rows ≤ 128) (hcol : col < 64) (hc : c < 64) :
    colRows j rows (scanCol j rows n x col).1 c = if c = col then (columnStep j rows n x.1 x.2.1 col).1 else colRows j rows x.1 c := by
  split
  next h =>
    subst h
    exact colRows_writeRows_same ht hcol hr columnStep_length columnStep_codes.1
  next h => exact colRows_writeRows_other hcol hc h hr

theorem scanCol_pair (hcol : col < 128) (hc : c < 128) :
    carryPair (scanCol j rows n x col).2.1 c = if c = col then (columnStep j rows n x.1 x.2.1 col).2.1 else carryPair x.2.1 c := by
  split
  next h =>
    subst h
    exact carryPair_set_same hcol columnStep_codes.2
  next h => exact carryPair_set_other hc h

/-- The step of a column is the same before and after that of another. -/
theorem columnStep_scanCol (ht : x.1.tidy) (hr : rows ≤ 128) (hcol : col < 64) (hc : c < 64) (h : c ≠ col) :
    columnStep j rows n (scanCol j rows n x col).1 (scanCol j rows n x col).2.1 c = columnStep j rows n x.1 x.2.1 c := by
  unfold columnStep
  rw [scanCol_rows ht hr hcol hc, scanCol_pair (by omega) (by omega), if_neg h, if_neg h]

theorem scanCols_tidy (ht : x.1.tidy) : (cols.foldl (scanCol j rows n) x).1.tidy :=
  foldl_holds (P := fun x : Tandem × HReg × Nat => x.1.tidy) (fun _ h _ _ => scanCol_tidy h) ht

theorem scanCols_frame : (cols.foldl (scanCol j rows n) x).1 = { x.1 with zt := (cols.foldl (scanCol j rows n) x).1.zt } := by
  induction cols generalizing x with
  | nil => rfl
  | cons c cols ih =>
    rw [List.foldl_cons, ih, show (scanCol j rows n x c).1 = writeRows j c 0 rows _ x.1 from rfl, writeRows_frame]

theorem scanCols_rows (ht : x.1.tidy) (hr : rows ≤ 128) (hn : cols.Nodup) (hcols : ∀ c ∈ cols, c < 64) (hc : c < 64) :
    colRows j rows (cols.foldl (scanCol j rows n) x).1 c = if c ∈ cols then (columnStep j rows n x.1 x.2.1 c).1 else colRows j rows x.1 c := by
  induction cols generalizing x with
  | nil => exact (if_neg List.not_mem_nil).symm
  | cons a cols ih =>
    obtain ⟨ha, hn⟩ := List.nodup_cons.1 hn
    have ha64 := hcols a List.mem_cons_self
    rw [List.foldl_cons, ih (scanCol_tidy ht) hn (fun c h => hcols c (List.mem_cons_of_mem _ h)), scanCol_rows ht hr ha64 hc]
    by_cases h : c = a
    · subst h
      rw [if_neg ha, if_pos rfl, if_pos List.mem_cons_self]
    · rw [columnStep_scanCol ht hr ha64 hc h, if_neg h]
      exact if_congr (by simp [h]) rfl rfl

theorem scanCols_pair (ht : x.1.tidy) (hr : rows ≤ 128) (hn : cols.Nodup) (hcols : ∀ c ∈ cols, c < 64) (hc : c < 128) :
    carryPair (cols.foldl (scanCol j rows n) x).2.1 c = if c ∈ cols then (columnStep j rows n x.1 x.2.1 c).2.1 else carryPair x.2.1 c := by
  induction cols generalizing x with
  | nil => exact (if_neg List.not_mem_nil).symm
  | cons a cols ih =>
    obtain ⟨ha, hn⟩ := List.nodup_cons.1 hn
    have ha64 := hcols a List.mem_cons_self
    have hrest := fun c h => hcols c (List.mem_cons_of_mem a h)
    rw [List.foldl_cons, ih (scanCol_tidy ht) hn hrest, scanCol_pair (by omega) hc]
    by_cases h : c = a
    · subst h
      rw [if_neg ha, if_pos rfl, if_pos List.mem_cons_self]
    · by_cases hmem : c ∈ cols
      · rw [if_pos hmem, if_pos (List.mem_cons_of_mem _ hmem), columnStep_scanCol ht hr ha64 (hrest c hmem) h]
      · rw [if_neg hmem, if_neg h, if_neg (by simp [h, hmem])]

theorem scanCols_flags (ht : x.1.tidy) (hr : rows ≤ 128) (hn : cols.Nodup) (hcols : ∀ c ∈ cols, c < 64) :
    (cols.foldl (scanCol j rows n) x).2.2 = cols.foldl (fun fl c => fl ||| (columnStep j rows n x.1 x.2.1 c).2.2) x.2.2 := by
  induction cols generalizing x with
  | nil => rfl
  | cons a cols ih =>
    obtain ⟨ha, hn⟩ := List.nodup_cons.1 hn
    have ha64 := hcols a List.mem_cons_self
    have hrest := fun c h => hcols c (List.mem_cons_of_mem a h)
    rw [List.foldl_cons, List.foldl_cons, ih (scanCol_tidy ht) hn hrest]
    refine List.foldl_ext _ _ _ fun fl c hc => ?_
    rw [columnStep_scanCol ht hr ha64 (hrest c hc) fun h => ha (h ▸ hc)]

/-- Only the words of the rows of these columns change. -/
theorem scanCols_other {k : Nat} (h : ∀ c ∈ cols, ∀ i < rows, k ≠ 16384 * j + (64 * i + c) ∧ k ≠ 16384 * j + (8192 + 64 * i + c)) :
    sparseGet 0 (cols.foldl (scanCol j rows n) x).1.zt k = sparseGet 0 x.1.zt k := by
  induction cols generalizing x with
  | nil => rfl
  | cons a cols ih =>
    rw [List.foldl_cons, ih fun c hc => h c (List.mem_cons_of_mem _ hc)]
    exact writeRows_other fun i _ hi => h a List.mem_cons_self i (by omega)

end

/-! ## The body of MSCAN -/

/-- A state with a carry register and the tandem in focus replaced. -/
def State.carried (s : State) (k : Nat) (t : Tandem) (h : HReg) : State := { s with tan := t, me := s.me.writeH k h }

/-- What MSCAN does for one column. -/
def columnBody (j rows n k col : Nat) : Exec Unit := do
  let s ← getState
  let r := columnStep j rows n s.tan (s.me.readH k) col
  modTile (writeRows j col 0 rows r.1)
  modMe (fun h => h.writeH k (setCarryPair (h.readH k) col r.2.1))
  raiseSaved r.2.2

section
variable {s : State} {j rows n k col : Nat} {o : Option Saved} {v : Word} {t : Tandem} {h g : HReg}

theorem writeH_writeH (hw : sparseWf 0 s.me.h = true) : (s.me.writeH k h).writeH k g = s.me.writeH k g := by
  unfold Hart.writeH
  dsimp only
  rw [sparseSet_set hw]

theorem readH_writeH (hw : sparseWf 0 s.me.h = true) : (s.me.writeH k h).readH k = h := sparseGet_set_same 0 _ _ _ hw

theorem writeH_readH (hw : sparseWf 0 s.me.h = true) : s.me.writeH k (s.me.readH k) = s.me := by
  unfold Hart.writeH Hart.readH
  rw [sparseSet_get hw]

theorem carried_self (hw : sparseWf 0 s.me.h = true) : s.carried k s.tan (s.me.readH k) = s := by
  unfold State.carried
  rw [writeH_readH hw]

/-- The step of one column, from a state in which others may have had theirs. -/
theorem columnBody_runs (hw : sparseWf 0 s.me.h = true) {fl : Nat} :
    let x := scanCol j rows n (t, h, fl) col
    ∃ p, columnBody j rows n k col ((s.carried k t h).midway o v) = .ok () ((s.carried k x.1 x.2.1).midway p v) ∧
      savedFlags p = savedFlags o ||| BitVec.ofNat 64 (columnStep j rows n t h col).2.2 := by
  intro x
  have hread : (s.me.writeH k h).readH k = h := readH_writeH hw
  obtain ⟨p, hraise, hp⟩ := raiseSaved_midway (t := s.carried k x.1 x.2.1) (o := o) (n := v) (columnStep j rows n t h col).2.2
  refine ⟨p, ?_, hp⟩
  unfold columnBody
  rw [exec_getState_bind, show ((s.carried k t h).midway o v).me.readH k = h from hread, show ((s.carried k t h).midway o v).tan = t from rfl, exec_bind_ok modTile_midway,
    exec_modMe_bind]
  refine Eq.trans (congrArg _ ?_) hraise
  unfold State.withTan State.carried State.midway
  dsimp only
  rw [show ((s.me.writeH k h).midway o v).readH k = h from hread]
  rw [show ((s.me.writeH k h).midway o v).writeH k (setCarryPair h col (columnStep j rows n t h col).2.1) =
    ((s.me.writeH k h).writeH k (setCarryPair h col (columnStep j rows n t h col).2.1)).midway o v from rfl, writeH_writeH hw]
  rfl

theorem foldl_exec {α : Type} {step : α → Exec Unit} {m : Exec Unit} {l : List α} :
    l.foldl (fun m x => do m; step x) m = (do m; l.forM step) := by
  induction l generalizing m with
  | nil => exact (bind_pure m).symm
  | cons x l ih => rw [List.foldl_cons, ih, bind_assoc]; rfl

/-- The steps of several columns. -/
theorem columns_run (hw : sparseWf 0 s.me.h = true) {cols : List Nat} {fl : Nat} {f : Word} (hfl : savedFlags o = f ||| BitVec.ofNat 64 fl) :
    let x := cols.foldl (scanCol j rows n) (t, h, fl)
    ∃ p, cols.forM (columnBody j rows n k) ((s.carried k t h).midway o v) = .ok () ((s.carried k x.1 x.2.1).midway p v) ∧
      savedFlags p = f ||| BitVec.ofNat 64 x.2.2 := by
  induction cols generalizing t h fl o with
  | nil => exact ⟨o, rfl, hfl⟩
  | cons c cols ih =>
    obtain ⟨p, hrun, hp⟩ := columnBody_runs (j := j) (rows := rows) (n := n) (col := c) (t := t) (h := h) (o := o) (v := v) (fl := fl) hw
    have hnext : savedFlags p = f ||| BitVec.ofNat 64 (fl ||| (columnStep j rows n t h c).2.2) := by
      rw [hp, hfl, BitVec.or_assoc, ← BitVec.ofNat_or]
    obtain ⟨q, hrest, hq⟩ := ih (t := (scanCol j rows n (t, h, fl) c).1) (h := (scanCol j rows n (t, h, fl) c).2.1) (o := p) hnext
    exact ⟨q, (exec_bind_ok hrun).trans hrest, hq⟩

end

end Sys2Proof.Machine

end

section
/-! PROOFS. MSCAN runs one step on every column (O37): it stays where it is until the last, which retires (R82, R236). -/

namespace Sys2Proof.Machine

open Sys2Proof

section
variable {s t : State} {z : BitVec 4} {k : BitVec 3} {n : Nat} {o : Option Saved}

/-- An instruction that is resumed where it stopped, or starts afresh, takes its operands again and keeps its flags (R18). -/
theorem beginVector_midway (h : ∀ x, s.me.savedNow = some x → x.pc = s.me.pc) :
    ∃ o, beginVector s = s.midway o s.me.csr.vstart ∧ savedFlags o = savedFlags s.me.savedNow := by
  unfold beginVector
  cases hs : s.me.savedNow with
  | none => exact ⟨none, (State.midway_self hs).symm, rfl⟩
  | some x =>
    dsimp only
    rw [if_pos (h x hs), Hart.withSaved_eq_midway]
    exact ⟨_, rfl, rfl⟩

/-- The columns that a step of MSCAN runs on, all of those configured, and none after the last step. -/
def scanColumns (cfg : BitVec 64) (n : Nat) : List Nat := if n = 7 then [] else range 0 (cfgN cfg)

/-- What a step of MSCAN makes of the tile and the carry register, with the flags. -/
def scanned (s : State) (j k n : Nat) : Tandem × HReg × Nat :=
  (scanColumns (s.tan.cfg j) n).foldl (scanCol j (cfgM (s.tan.cfg j)) n) (s.spoilStrip.tan, s.me.readH k, 0)

/-- A step of MSCAN under way: every column, and VSTART with the number of steps then complete (R82). -/
theorem mscanBody_runs (hw : sparseWf 0 s.me.h = true) (hf : Claims.tileFree s z.toNat) (hm : cfgMode (s.tan.cfg z.toNat) = 2) (hn : n ≤ 7)
    (hv : s.me.csr.vstart = BitVec.ofNat 64 n) :
    let x := scanned s z.toNat k.toNat n
    ∃ p, mscanBody z k (s.midway o s.me.csr.vstart) =
        .ok () ((s.spoilStrip.carried k.toNat x.1 x.2.1).midway p (BitVec.ofNat 64 (if n < 6 then n + 1 else 0))) ∧
      savedFlags p = savedFlags o ||| BitVec.ofNat 64 x.2.2 := by
  have hstart : (s.midway o s.me.csr.vstart).me.csr.start = n := by
    show s.me.csr.vstart.toNat = n
    rw [hv, BitVec.toNat_ofNat, Nat.mod_eq_of_lt (by omega)]
  have hfree : Claims.tileFree (s.midway o s.me.csr.vstart) z.toNat := hf
  obtain ⟨p, hrun, hp⟩ := columns_run (s := s.spoilStrip) (k := k.toNat) (j := z.toNat) (rows := cfgM (s.tan.cfg z.toNat)) (n := n) (o := o) (v := s.me.csr.vstart)
    (t := s.spoilStrip.tan) (h := s.me.readH k.toNat) (cols := scanColumns (s.tan.cfg z.toNat) n) (fl := 0) (f := savedFlags o) hw BitVec.or_zero.symm
  refine ⟨p, ?_, hp⟩
  unfold mscanBody
  dsimp only
  rw [exec_bind_ok (mzBegin_resumes_ok hfree), exec_getState_bind, exec_bind_ok (requireMode_ok (s := s.midway o s.me.csr.vstart) hm),
    exec_bind_ok (require_of (decide_eq_true (by rw [hstart]; exact hn))), exec_bind_ok (awaitTile_ok hfree), exec_bind_ok spoils_midway, exec_getState_bind]
  have hstart' : (s.spoilStrip.midway o s.me.csr.vstart).me.csr.start = n := hstart
  have hself : s.spoilStrip.carried k.toNat s.spoilStrip.tan (s.me.readH k.toNat) = s.spoilStrip := carried_self hw
  rw [hself] at hrun
  simp only [hstart']
  by_cases h7 : n = 7
  · rw [if_pos h7]
    rw [show scanColumns (s.tan.cfg z.toNat) n = [] from if_pos h7] at hrun
    unfold scanned
    rw [show scanColumns (s.tan.cfg z.toNat) n = [] from if_pos h7]
    exact (congrArg (setVstart (if n < 6 then n + 1 else 0)) (EStateM.Result.ok.inj hrun).2).trans rfl
  · rw [if_neg h7]
    unfold scanned
    rw [show scanColumns (s.tan.cfg z.toNat) n = range 0 (cfgN (s.tan.cfg z.toNat)) from if_neg h7] at hrun ⊢
    have hfold := (congrFun (foldl_exec (step := columnBody z.toNat (cfgM (s.tan.cfg z.toNat)) n k.toNat) (m := pure ())
      (l := range 0 (cfgN (s.tan.cfg z.toNat)))) (s.spoilStrip.midway o s.me.csr.vstart)).trans hrun
    exact (exec_bind_ok hfold).trans rfl

/-- MSCAN at a step: it stays at its place with the next in VSTART, or retires after the last (R82, R236). -/
theorem mscan_steps (hw : sparseWf 0 s.me.h = true) (hf : Claims.tileFree s z.toNat) (hpc : ∀ x, s.me.savedNow = some x → x.pc = s.me.pc)
    (hm : cfgMode (s.tan.cfg z.toNat) = 2) (hn : n ≤ 7) (hv : s.me.csr.vstart = BitVec.ofNat 64 n) :
    let x := scanned s z.toNat k.toNat n
    ∃ p, savedFlags p = savedFlags s.me.savedNow ||| BitVec.ofNat 64 x.2.2 ∧
      let u := (s.spoilStrip.carried k.toNat x.1 x.2.1).midway p (BitVec.ofNat 64 (if n < 6 then n + 1 else 0))
      exec (.mscan z k) s = .next (if n < 6 then { u with me := { u.me with stalled := none } } else retire s (s.me.pc + 4) u) := by
  obtain ⟨o, hbegin, ho⟩ := beginVector_midway hpc
  obtain ⟨p, hrun, hp⟩ := mscanBody_runs (k := k) (o := o) hw hf hm hn hv
  refine ⟨p, ho ▸ hp, ?_⟩
  show runStep (mscanBody z k) s = _
  unfold runStep
  rw [hbegin, hrun]
  dsimp only
  have hstart : ((s.spoilStrip.carried k.toNat (scanned s z.toNat k.toNat n).1 (scanned s z.toNat k.toNat n).2.1).midway p
      (BitVec.ofNat 64 (if n < 6 then n + 1 else 0))).me.csr.start = if n < 6 then n + 1 else 0 := by
    show (BitVec.ofNat 64 (if n < 6 then n + 1 else 0)).toNat = _
    rw [BitVec.toNat_ofNat, Nat.mod_eq_of_lt (by split <;> omega)]
  rw [hstart]
  by_cases h6 : n < 6
  · simp only [h6, if_true, if_neg (Nat.succ_ne_zero n)]
  · simp only [h6, if_false, if_true]

/-- The state of the statement: the tile's words, the carry register, the saved operand state, and VSTART. -/
theorem carried_midway {zt : List (Nat × BitVec 32)} {h : HReg} :
    (s.spoilStrip.carried k.toNat { s.spoilStrip.tan with zt := zt } h).midway o (BitVec.ofNat 64 (if n < 6 then n + 1 else 0)) =
      { Claims.withTiles s zt with me := { (s.spoilStrip.me.writeH k.toNat h).withSaved o with
         csr := { s.me.csr with vstart := if n < 6 then BitVec.ofNat 64 (n + 1) else 0 } } } := by
  rw [Hart.withSaved_eq_midway, apply_ite (BitVec.ofNat 64)]
  rfl

/-- MSCAN on an affine tile (R79–R82, R236). -/
theorem mscan_scans (htidy : s.Tidy) (hf : Claims.tileFree s z.toNat) (hpc : ∀ x, s.me.savedNow = some x → x.pc = s.me.pc)
    (hm : cfgMode (s.tan.cfg z.toNat) = 2) (hn : n ≤ 7) (hv : s.me.csr.vstart = BitVec.ofNat 64 n) :
    let cfg := s.tan.cfg z.toNat
    let step (col : Nat) := columnStep z.toNat (cfgM cfg) n s.tan (s.me.readH k.toNat) col
    let flags := (range 0 (cfgN cfg)).foldl (fun fl col => fl ||| (step col).2.2) 0
    ∃ zt h sv,
      (sv.map (·.flags)).getD 0 = (s.me.savedNow.map (·.flags)).getD 0 ||| BitVec.ofNat 64 (if n = 7 then 0 else flags) ∧
      (let u : State := { Claims.withTiles s zt with me := { (s.spoilStrip.me.writeH k.toNat h).withSaved sv with
         csr := { s.me.csr with vstart := if n < 6 then BitVec.ofNat 64 (n + 1) else 0 } } }
       exec (.mscan z k) s = .next (if n < 6 then { u with me := { u.me with stalled := none } } else retire s (s.me.pc + 4) u)) ∧
      (n < 7 → ∀ col < cfgN cfg, colRows z.toNat (cfgM cfg) { s.tan with zt := zt } col = (step col).1 ∧ carryPair h col = (step col).2.1) ∧
      (n = 7 → zt = s.tan.zt ∧ h = s.me.readH k.toNat) ∧
      (∀ m < 128, cfgN cfg ≤ m → carryPair h m = carryPair (s.me.readH k.toNat) m) ∧
      Claims.onlyWords s.tan.zt zt z.toNat (fun w => w % 64 < cfgN cfg ∧ w / 64 % 128 < cfgM cfg) := by
  intro cfg step flags
  have hwf : s.spoilStrip.tan.tidy := htidy.2.2.2.1
  have hw : sparseWf 0 s.me.h = true := htidy.me.h
  have hr : cfgM cfg ≤ 128 := cfgM_le
  have hcols64 : cfgN cfg ≤ 64 := cfgLegal.cols hf.2.2.1 (by rw [hm]; decide)
  have hcols : ∀ c ∈ scanColumns cfg n, c < cfgN cfg := by
    intro c hc
    unfold scanColumns at hc
    split at hc
    · exact absurd hc List.not_mem_nil
    · simpa using range_lt hc
  have hcols' : ∀ c ∈ scanColumns cfg n, c < 64 := fun c hc => by have := hcols c hc; omega
  have hnodup : (scanColumns cfg n).Nodup := by
    unfold scanColumns
    split
    · exact List.nodup_nil
    · rw [range_eq_range']
      exact List.nodup_range'
  have hmem {c : Nat} (h7 : n ≠ 7) (hc : c < cfgN cfg) : c ∈ scanColumns cfg n := by
    rw [scanColumns, if_neg h7, range_eq_range', List.mem_range'_1]
    omega
  have hrows {c : Nat} (hc : c < 64) := scanCols_rows (j := z.toNat) (n := n) (x := (s.spoilStrip.tan, s.me.readH k.toNat, 0)) hwf hr hnodup hcols' hc
  have hpairs {c : Nat} (hc : c < 128) := scanCols_pair (j := z.toNat) (n := n) (x := (s.spoilStrip.tan, s.me.readH k.toNat, 0)) hwf hr hnodup hcols' hc
  have hflags := scanCols_flags (j := z.toNat) (n := n) (x := (s.spoilStrip.tan, s.me.readH k.toNat, 0)) hwf hr hnodup hcols'
  obtain ⟨p, hp, hexec⟩ := mscan_steps (k := k) hw hf hpc hm hn hv
  have hframe : (scanned s z.toNat k.toNat n).1 = { s.spoilStrip.tan with zt := (scanned s z.toNat k.toNat n).1.zt } := scanCols_frame
  rw [hframe] at hexec
  simp only [carried_midway] at hexec
  refine ⟨(scanned s z.toNat k.toNat n).1.zt, (scanned s z.toNat k.toNat n).2.1, p, ?_, hexec, fun h7 c hc => ⟨?_, ?_⟩, fun h7 => ?_, fun m hm hc => ?_, fun key hkey => ?_⟩
  · refine hp.trans (congrArg (fun f => _ ||| BitVec.ofNat 64 f) ?_)
    refine hflags.trans ?_
    unfold scanColumns
    split <;> rfl
  · refine Eq.trans ?_ ((hrows (by omega)).trans (if_pos (hmem (by omega) hc)))
    unfold colRows
    simp only [word_of_zt (t := (scanned s z.toNat k.toNat n).1) (u := { s.tan with zt := (scanned s z.toNat k.toNat n).1.zt }) rfl]
    rfl
  · exact (hpairs (by omega)).trans (if_pos (hmem (by omega) hc))
  · unfold scanned scanColumns
    rw [if_pos h7]
    exact ⟨rfl, rfl⟩
  · exact (hpairs hm).trans (if_neg fun h => absurd (hcols m h) (by omega))
  · refine scanCols_other fun c hc i hi => ?_
    have hc' := hcols c hc
    have hi' : i < cfgM cfg := hi
    exact ⟨hkey (64 * i + c) (by omega) ⟨by omega, by omega⟩, hkey (8192 + 64 * i + c) (by omega) ⟨by omega, by omega⟩⟩

end

end Sys2Proof.Machine

end

section
/-! PROOFS. A transfer of a member of MZ reads and stores global memory under way (R105, R108, R169): what the accesses leave does not depend on the hart's registers. -/

namespace Sys2Proof.Machine

open Sys2Proof

section
variable {s t : State} {kind : AccessKind} {v : Bool} {a n : Nat} {xs : List Xlat} {h : Hart} {ns : List Note} {o : Option Saved} {k : Word}

/-! ## Accesses do not read the hart -/

/-- A state with another hart in focus and other notes. -/
def State.withMe (s : State) (h : Hart) (ns : List Note) : State := { s with me := h, notes := ns }

theorem installXlat_withMe {e : TlbEntry} : installXlat (s.withMe h ns) e = (installXlat s e).withMe h ns := by
  unfold installXlat
  dsimp only
  rw [apply_ite (fun t : State => t.withMe h ns), apply_ite (fun t : State => t.withMe h ns)]
  rfl

theorem setAccessed_withMe {x : Xlat} : setAccessed (s.withMe h ns) kind x = (setAccessed s kind x).withMe h ns := by
  unfold setAccessed
  dsimp only
  rw [apply_ite (fun t : State => t.withMe h ns)]
  cases x.mark with
  | inl pa =>
    dsimp only
    rw [apply_ite (fun t : State => t.withMe h ns)]
    rfl
  | inr idx => rfl

theorem markXlat_withMe {x : Xlat} : markXlat (s.withMe h ns) kind x = (markXlat s kind x).withMe h ns := by
  have hcache : cacheXlat (s.withMe h ns) x = (cacheXlat s x).withMe h ns := by
    unfold cacheXlat
    cases x.install with
    | none => rfl
    | some e => exact installXlat_withMe
  unfold markXlat
  rw [hcache, setAccessed_withMe]

theorem marked_withMe : (s.withMe h ns).marked kind xs = (s.marked kind xs).withMe h ns := by
  unfold State.marked
  induction xs generalizing s with
  | nil => rfl
  | cons x xs ih => rw [List.foldl_cons, List.foldl_cons, markXlat_withMe, ih]

theorem opens_withMe (ho : s.opens kind v a n xs) : (s.withMe h ns).opens kind v a n xs := by
  obtain ⟨htr, hx⟩ := ho
  exact ⟨(translateBytes_congr (s := s) (t := s.withMe h ns) rfl rfl rfl ..).trans htr, hx⟩

theorem midway_eq_withMe : s.midway o k = s.withMe (s.me.midway o k) s.notes := rfl

theorem srcTaken_unwatched (hu : s.unwatched) : (s.srcTaken a).unwatched := by
  unfold State.srcTaken
  split
  · exact hu
  · exact hu

theorem marked_midway : (s.midway o k).marked kind xs = (s.marked kind xs).midway o k := by
  obtain ⟨_, _, _, heq, -⟩ := marked_eq s kind xs
  rw [midway_eq_withMe, marked_withMe, midway_eq_withMe, heq]

/-- A load under way reads what the state that it started in reads. -/
theorem loadGlobal_midway (ho : t.opens .load v a n xs) (hs : t.sound xs) (hu : t.unwatched) {m : Bool} :
    ∃ ns, loadGlobal v m a n (t.midway o k) = .ok ((t.marked .load xs).globalBytes a n xs) (((t.marked .load xs).noted ns).midway o k) := by
  obtain ⟨ns, hload⟩ := loadGlobal_opens (s := t.midway o k) (m := m) (opens_withMe ho) hs hu
  rw [marked_midway] at hload
  exact ⟨ns, hload⟩

/-! ## A store is held -/

theorem foldl_fixed_of_mem {α β : Type} {f : β → α → β} {b : β} {l : List α} (h : ∀ x ∈ l, f b x = b) : l.foldl f b = b := by
  induction l with
  | nil => rfl
  | cons x l ih => rw [List.foldl_cons, h x List.mem_cons_self, ih fun y hy => h y (List.mem_cons_of_mem _ hy)]

/-- Writes to device memory enter no record (R273). -/
theorem enterRuns_device {runs : List (List (Nat × Xlat))} (h : ∀ r ∈ runs, ∀ x ∈ r, regionOf x.2.pa = .device) : enterRuns runs s = .ok () s := by
  unfold enterRuns
  dsimp only
  split
  · rfl
  · rw [foldl_fixed_of_mem fun r hr => ?_]
    cases r with
    | nil => rfl
    | cons x r =>
      dsimp only
      rw [h _ hr x List.mem_cons_self]

/-- The bytes that a strip buffer's list of stores takes. -/
def heldTotal (held : List HeldStore) : Nat := held.foldl (fun n x => n + x.bytes.length) 0

theorem heldTotal_from {held : List HeldStore} {n : Nat} : held.foldl (fun n x => n + x.bytes.length) n = n + heldTotal held := by
  unfold heldTotal
  induction held generalizing n with
  | nil => rfl
  | cons x held ih => rw [List.foldl_cons, List.foldl_cons, ih, ih (n := 0 + x.bytes.length)]; omega

theorem heldTotal_append {l r : List HeldStore} : heldTotal (l ++ r) = heldTotal l + heldTotal r := by
  unfold heldTotal
  rw [List.foldl_append, heldTotal_from]
  rfl

/-- The store of the bytes at an aligned address, as the strip buffer holds it (R108). -/
def heldPiece (s : State) (a : Nat) (bs : List Byte) (xs : List Xlat) : HeldStore :=
  { shared := false, eligible := false, strip := s.me.strip.serial,
    bytes := (((range a bs.length).map (fun b => b % 2 ^ 64)).zip (xs.zip bs)).map (fun e => { va := e.1, pa := e.2.1.pa, val := e.2.2, mask := 0xFF }) }

theorem hold_fits {bytes : List HeldByte} (hroom : heldTotal s.me.held + bytes.length ≤ s.stripShare) :
    hold false true bytes s = { s with me := { s.me with held := s.me.held ++ [{ shared := false, eligible := false, strip := s.me.strip.serial, bytes := bytes }] } } := by
  have hfits : makeRoom false (bytes.map (·.va)) s = s := by
    unfold makeRoom
    rw [List.length_map, heldTotal_from, if_pos (by omega)]
  unfold hold
  dsimp only
  rw [hfits]
  rfl

/-- A store in one piece, which the strip buffer has room for, is held behind those before it (R108). -/
theorem storeBytes_holds {bs : List Byte} (ho : s.opens .store v a bs.length xs) (hc : s.me.copies = []) (hd : s.dbg.comparators = [])
    (ha : a % bs.length = 0) (hroom : heldTotal (s.me.held ++ [heldPiece s a bs xs]) ≤ s.stripShare) :
    ∃ ns, storeBytes false v a bs s = .ok () ((s.marked .store xs).withMe { s.me with held := s.me.held ++ [heldPiece s a bs xs] } ns) := by
  obtain ⟨-, hx⟩ := id ho
  have hnodev : ∀ x ∈ xs, x.dev = false := fun x h => (hx x h).2.2.1
  have hany : xs.any (·.dev) = false := List.any_eq_false.2 fun x h => by rw [hnodev x h]; decide
  have hruns : ∀ r ∈ runsOf (((range a bs.length).map (fun b => b % 2 ^ 64)).zip xs), ∀ x ∈ r, regionOf x.2.pa = .device := by
    intro r hr x hxr
    have hmem : x ∈ (runsOf (((range a bs.length).map (fun b => b % 2 ^ 64)).zip xs)).flatten := List.mem_flatten.2 ⟨r, hr, hxr⟩
    rw [(runsOf_good _).2] at hmem
    exact (hx x.2 (List.of_mem_zip hmem).2).1
  obtain ⟨hme, htan, honA, hpeer, hdbg, hctxs, hbad, -⟩ := marked_frame s .store xs
  rw [heldTotal_append] at hroom
  have hfits : heldTotal (s.marked .store xs).me.held + (heldPiece s a bs xs).bytes.length ≤ (s.marked .store xs).stripShare := by
    unfold State.stripShare at hroom ⊢
    rw [hme, htan]
    exact (by simpa [heldTotal] using hroom)
  unfold storeBytes storeMasked
  rw [if_neg (by decide)]
  unfold storeGlobal
  rw [List.length_map, exec_bind_ok (resolve_opens ho), exec_bind_ok (comparators_none (by rw [hdbg]; exact hd)), exec_bind_ok (scoreboard_none ((congrArg Hart.copies hme).trans hc))]
  dsimp only
  rw [exec_getState_bind, exec_bind_ok (enterRuns_device hruns), exec_bind_ok (beforeDev_none hnodev), hany, if_neg (by decide), exec_modState_bind]
  have hbytes : (((range a bs.length).map (fun b => b % 2 ^ 64)).zip (xs.zip (bs.map fun b => (b, (0xFF : Byte))))).map
      (fun e => ({ va := e.1, pa := e.2.1.pa, val := e.2.2.1, mask := e.2.2.2 } : HeldByte)) = (heldPiece s a bs xs).bytes := by
    rw [List.zip_map_right, List.zip_map_right, List.map_map]
    rfl
  rw [hbytes, decide_eq_true ha, hold_fits hfits, hme]
  exact ⟨_, rfl⟩

end

end Sys2Proof.Machine

end

section
/-! PROOFS. MCARRY and MCARRYST (R237), and the statement on affine scans (O37). -/

namespace Sys2Proof.Machine

open Sys2Proof

section
variable {s t : State} {k : BitVec 3} {a : BitVec 7} {m : Nat}

/-! ## MCARRY -/

theorem mcarryBody_reset (hside : Claims.engineSide s) (hv : s.me.csr.vstart = 0) :
    mcarryBody k 0 s = .ok () { s with me := s.me.writeH k.toNat ((range 0 128).foldl (fun r m => setCarryPair r m (0x3F800000, 0)) 0) } := by
  have hok : s.srcOk (0 : BitVec 7).toNat := .inl (by decide)
  unfold mcarryBody
  rw [exec_bind_ok (mzBegin_none_ok hside hv), exec_bind_ok (checkSrc_ok hok), if_pos rfl]
  rfl

/-- MCARRY 0: every pair is the identity (R237). -/
theorem mcarry_resets (hside : Claims.engineSide s) (hs : s.me.savedNow = none) (hv : s.me.csr.vstart = 0) :
    ∃ h, (∀ m < 128, carryPair h m = (0x3F800000, 0)) ∧ s.retiresWith (.mcarry k 0) { s with me := s.me.writeH k.toNat h } 0 := by
  refine ⟨_, fun m hm => ?_, retiresWith_of_ok (b := mcarryBody k 0) rfl hs hs (mcarryBody_reset hside hv)⟩
  rw [carryPair_foldl (f := fun _ => (0x3F800000, 0)) (fun _ => ⟨by decide, by decide⟩) hm, if_pos (by simp [range_eq_range', hm])]

/-- The carry register that 1024 bytes make, as a number: gains and offsets by turns, a gain below the horizon as a mark (R80, R237). -/
def carryOf (v : Nat) : HReg :=
  (range 0 128).foldl (fun r m => setCarryPair r m ((gainIn (v / 2 ^ (64 * m) % 2 ^ 32)).1, v / 2 ^ (64 * m + 32) % 2 ^ 32)) 0

theorem carryPair_carryOf {v : Nat} (hm : m < 128) : carryPair (carryOf v) m = ((gainIn (v / 2 ^ (64 * m) % 2 ^ 32)).1, v / 2 ^ (64 * m + 32) % 2 ^ 32) := by
  unfold carryOf
  rw [carryPair_foldl (f := fun m => ((gainIn (v / 2 ^ (64 * m) % 2 ^ 32)).1, v / 2 ^ (64 * m + 32) % 2 ^ 32)) (fun _ => ⟨gainIn_lt, Nat.mod_lt _ (Nat.two_pow_pos _)⟩) hm,
    if_pos (by simp [range_eq_range', hm])]

/-- MCARRY from memory (R237). -/
theorem mcarry_loads {xs : List Xlat} (hside : Claims.engineSide s) (hs : s.me.savedNow = none) (hv : s.me.csr.vstart = 0) (ha : a ≠ 0) (hok : s.srcOk a.toNat)
    (hhere : s.srcHere a.toNat) (hu : s.unwatched) (hopens : s.opens .load false (s.srcValue a.toNat).toNat 1024 xs) (hsound : s.sound xs) :
    let t := (s.srcTaken a.toNat).marked .load xs
    let v := ofBytes (t.globalBytes (s.srcValue a.toNat).toNat 1024 xs)
    ∃ ns h fl, (∀ m < 128, carryPair h m = ((gainIn (v / 2 ^ (64 * m) % 2 ^ 32)).1, v / 2 ^ (64 * m + 32) % 2 ^ 32)) ∧
      s.retiresWith (.mcarry k a) { t.noted ns with me := t.me.writeH k.toNat h } fl := by
  intro t v
  have hme : t.me = s.me := (marked_frame _ _ _).1.trans (srcTaken_me s a.toNat)
  obtain ⟨p, hp, hread⟩ := vecScalar_first hs hhere
  have hsound' : (s.srcTaken a.toNat).sound xs := by
    unfold State.sound
    rw [(srcTaken_frame s a.toNat).2.2.1]
    exact hsound
  obtain ⟨ns, hload⟩ := loadGlobal_midway (o := p) (k := s.me.csr.vstart) (m := false) (opens_srcTaken hopens) hsound' (srcTaken_unwatched hu)
  have hraise := raiseSaved_midway (t := { t.noted ns with me := t.me.writeH k.toNat (carryOf v) }) (o := p) (n := s.me.csr.vstart)
  rw [hp.savedFlags] at hraise
  obtain ⟨q, hend, hq⟩ := hraise ((range 0 128).foldl (fun f m => f ||| (gainIn (v / 2 ^ (64 * m) % 2 ^ 32)).2) 0)
  refine ⟨ns, carryOf v, _, fun m hm => carryPair_carryOf hm,
    retiresWith_of_midway (b := mcarryBody k a) (o := q) rfl hs (congrArg (fun h => h.csr.vstart) hme) ?_ (hq.trans BitVec.zero_or)⟩
  unfold mcarryBody
  rw [exec_bind_ok (mzBegin_none_ok hside hv), exec_bind_ok (checkSrc_ok hok), if_neg ha, exec_bind_ok hread]
  refine (exec_bind_ok (m := loadBytes false false false (s.srcValue a.toNat).toNat 1024) hload).trans ?_
  exact hend

/-! ## MCARRYST -/

theorem toBytes_getD {n x i : Nat} (hi : i < n) : (toBytes n x).getD i 0 = BitVec.ofNat 8 (x / 256 ^ i) := by
  induction n generalizing x i with
  | zero => omega
  | succ n ih =>
    cases i with
    | zero => rw [Nat.pow_zero, Nat.div_one]; rfl
    | succ i =>
      refine (ih (x := x / 256) (by omega)).trans ?_
      rw [Nat.div_div_eq_div_mul, Nat.pow_succ']

/-- Byte `e` of what MCARRYST stores of a carry register: a mark as +0 (R237). -/
def carryByte (h : HReg) (e : Nat) : Nat :=
  let p := carryPair h (e / 8)
  (if e % 8 < 4 then (if p.1 = 1 then 0 else p.1) else p.2) / 256 ^ (e % 4) % 256

theorem carryBytes_length {h : HReg} : (carryBytes h).length = 1024 := by
  unfold carryBytes
  rw [List.length_flatMap]
  simp

theorem carryBytes_getD {h : HReg} {e : Nat} (he : e < 1024) : (carryBytes h).getD e 0 = BitVec.ofNat 8 (carryByte h e) := by
  unfold carryBytes carryByte
  have hsplit := flatMap_getD (f := fun m => toBytes 4 (gainOut (carryPair h m).1) ++ toBytes 4 (carryPair h m).2) (g := 8) (l := range 0 128) (j := e / 8) (i := e % 8)
    (y := 0) (fun m => by simp) (by rw [range_length]; omega) (by omega)
  rw [show e / 8 * 8 + e % 8 = e by omega] at hsplit
  rw [hsplit, range_getElem, Nat.zero_add]
  dsimp only
  have hmod (x : Nat) : BitVec.ofNat 8 (x % 256) = BitVec.ofNat 8 x := by
    apply BitVec.eq_of_toNat_eq
    simp
  rw [hmod]
  by_cases hlow : e % 8 < 4
  · rw [if_pos hlow, List.getD_append _ _ _ _ (by simpa using hlow), toBytes_getD hlow, show e % 8 = e % 4 by omega]
    rfl
  · rw [if_neg hlow, List.getD_append_right _ _ _ _ (by simpa using Nat.le_of_not_lt hlow), toBytes_length, toBytes_getD (by omega), show e % 8 - 4 = e % 4 by omega]

end

/-! ### The stores, one byte after another -/

section
variable {s u : State} {k : BitVec 3} {a : BitVec 7} {e n base : Nat} {bs : List Byte} {xs : Nat → List Xlat} {o : Option Saved} {v : Word} {kind : AccessKind}

theorem after_succ : Claims.after kind xs (range 0 (e + 1)) u = (Claims.after kind xs (range 0 e) u).marked kind (xs e) := by
  unfold Claims.after
  rw [range_append (m := e) (n := 1), List.foldl_append, Nat.zero_add]
  rfl

theorem after_frame : (Claims.after kind xs (range 0 e) u).me = u.me ∧ (Claims.after kind xs (range 0 e) u).tan = u.tan ∧ (Claims.after kind xs (range 0 e) u).dbg = u.dbg := by
  induction e with
  | zero => exact ⟨rfl, rfl, rfl⟩
  | succ e ih =>
    obtain ⟨hme, htan, -, -, hdbg, -⟩ := marked_frame (Claims.after kind xs (range 0 e) u) kind (xs e)
    rw [after_succ]
    exact ⟨hme.trans ih.1, htan.trans ih.2.1, hdbg.trans ih.2.2⟩

/-- The store of byte `e` of a list from address `base` on, as the strip buffer holds it. -/
def byteHeld (s : State) (base : Nat) (bs : List Byte) (xs : Nat → List Xlat) (e : Nat) : HeldStore := heldPiece s ((base + e) % 2 ^ 64) ((bs.drop e).take 1) (xs e)

/-- The state once the first `e` bytes of a list have been stored. -/
def storedTo (u : State) (base : Nat) (bs : List Byte) (xs : Nat → List Xlat) (ns : List Note) (e : Nat) : State :=
  (Claims.after .store xs (range 0 e) u).withMe { u.me with held := u.me.held ++ (range 0 e).map (byteHeld u base bs xs) } ns

theorem storedTo_succ (hlen : e < bs.length) (hu : u.me.copies = [] ∧ u.dbg.comparators = [])
    (ho : (Claims.after .store xs (range 0 e) u).opens .store false ((base + e) % 2 ^ 64) 1 (xs e))
    (hroom : heldTotal (u.me.held ++ (range 0 bs.length).map (byteHeld u base bs xs)) ≤ u.stripShare) {ns : List Note} :
    ∃ ns', storeBytes false false ((base + e) % 2 ^ 64) ((bs.drop e).take 1) ((storedTo u base bs xs ns e).midway o v) =
      .ok () ((storedTo u base bs xs ns' (e + 1)).midway o v) := by
  obtain ⟨-, htan, hdbg⟩ := after_frame (kind := .store) (xs := xs) (e := e) (u := u)
  have hone : ((bs.drop e).take 1).length = 1 := by simp; omega
  have hopens : ((storedTo u base bs xs ns e).midway o v).opens .store false ((base + e) % 2 ^ 64) ((bs.drop e).take 1).length (xs e) := by
    rw [hone]
    exact opens_withMe (opens_withMe ho)
  have hprefix : range 0 bs.length = range 0 (e + 1) ++ range (e + 1) (bs.length - (e + 1)) := by
    have happ := range_append (lo := 0) (m := e + 1) (n := bs.length - (e + 1))
    rwa [Nat.zero_add, show e + 1 + (bs.length - (e + 1)) = bs.length by omega] at happ
  have hlist : (range 0 (e + 1)).map (byteHeld u base bs xs) = (range 0 e).map (byteHeld u base bs xs) ++ [byteHeld u base bs xs e] := by
    rw [range_append (m := e) (n := 1), List.map_append, Nat.zero_add]
    rfl
  have hfits : heldTotal ((u.me.held ++ (range 0 e).map (byteHeld u base bs xs)) ++ [byteHeld u base bs xs e]) ≤ u.stripShare := by
    rw [hprefix, List.map_append, ← List.append_assoc, heldTotal_append, hlist, ← List.append_assoc] at hroom
    omega
  obtain ⟨ns', hstore⟩ := storeBytes_holds hopens hu.1 (hdbg ▸ hu.2) (by rw [hone, Nat.mod_one]) (by
    unfold State.stripShare at hfits ⊢
    rw [← htan] at hfits
    exact hfits)
  refine ⟨ns', hstore.trans ?_⟩
  rw [marked_midway]
  unfold storedTo
  rw [marked_withMe, after_succ, hlist, ← List.append_assoc]
  rfl

/-- Bytes stored from element `e` on. -/
theorem stores_run (hlen : e + n = bs.length) (hu : u.me.copies = [] ∧ u.dbg.comparators = [])
    (ho : ∀ e < bs.length, (Claims.after .store xs (range 0 e) u).opens .store false ((base + e) % 2 ^ 64) 1 (xs e))
    (hroom : heldTotal (u.me.held ++ (range 0 bs.length).map (byteHeld u base bs xs)) ≤ u.stripShare) {ns : List Note} :
    ∃ ns' v', elementsFrom (fun e => atomically (storeBytes false false ((base + e) % 2 ^ 64) ((bs.drop e).take 1))) n e ((storedTo u base bs xs ns e).midway o v) =
      .ok () ((storedTo u base bs xs ns' bs.length).midway o v') := by
  induction n generalizing e ns v with
  | zero =>
    rw [Nat.add_zero] at hlen
    subst hlen
    exact ⟨ns, v, rfl⟩
  | succ n ih =>
    obtain ⟨ns', hstore⟩ := storedTo_succ (o := o) (v := BitVec.ofNat 64 e) (ns := ns) (by omega) hu (ho e (by omega)) hroom
    obtain ⟨ns'', v', hrest⟩ := ih (ns := ns') (v := BitVec.ofNat 64 e) (e := e + 1) (by omega)
    refine ⟨ns'', v', ?_⟩
    unfold elementsFrom
    rw [exec_bind_ok (setVstart_midway e)]
    refine (exec_bind_ok (m := atomically _) (a := ()) (s' := (storedTo u base bs xs ns' (e + 1)).midway o (BitVec.ofNat 64 e)) ?_).trans hrest
    unfold atomically
    rw [hstore]

end

/-! ### MCARRYST retires -/

section
variable {s : State} {k : BitVec 3} {a : BitVec 7} {xs : Nat → List Xlat}

/-- The held store of a byte, as the statement writes it. -/
theorem byteHeld_eq {base e : Nat} {h : HReg} (he : e < 1024) : byteHeld s base (carryBytes h) xs e =
    { shared := false, eligible := false, strip := s.me.strip.serial
      bytes := Claims.heldBytes [(base + e) % 2 ^ 64] ((xs e).map (·.pa)) [BitVec.ofNat 8 (carryByte h e)] } := by
  have hbyte : ((carryBytes h).drop e).take 1 = [BitVec.ofNat 8 (carryByte h e)] := by
    rw [List.drop_eq_getElem_cons (by rw [carryBytes_length]; exact he), List.take_succ_cons, List.take_zero, ← carryBytes_getD he, List.getD_eq_getElem]
  unfold byteHeld heldPiece Claims.heldBytes
  rw [hbyte]
  rw [show range ((base + e) % 2 ^ 64) [BitVec.ofNat 8 (carryByte h e)].length = [(base + e) % 2 ^ 64] from rfl, List.map_cons, List.map_nil, Nat.mod_mod, List.zip_map_left, List.zip_map_right, List.map_map]
  rfl

/-- MCARRYST stores the pairs of the carry register, a mark as +0 (R237). -/
theorem mcarryst_stores (hside : Claims.engineSide s) (hs : s.me.savedNow = none) (hv : s.me.csr.vstart = 0) (hok : s.srcOk a.toNat) (hhere : s.srcHere a.toNat)
    (hu : s.unwatched) (ho : ∀ e < 1024, (Claims.after .store xs (range 0 e) (s.srcTaken a.toNat)).opens .store false (((s.srcValue a.toNat).toNat + e) % 2 ^ 64) 1 (xs e))
    (hroom : heldTotal (s.me.held ++ (range 0 1024).map (byteHeld s (s.srcValue a.toNat).toNat (carryBytes (s.me.readH k.toNat)) xs)) ≤ s.stripShare) :
    Claims.retiresStore s (.mcarryst k a) (Claims.after .store xs (range 0 1024) (s.srcTaken a.toNat))
      ((range 0 1024).map (byteHeld s (s.srcValue a.toNat).toNat (carryBytes (s.me.readH k.toNat)) xs)) 0 := by
  obtain ⟨p, hp, hread⟩ := vecScalar_first hs hhere
  have htaken : (s.srcTaken a.toNat).me = s.me := srcTaken_me s a.toNat
  obtain ⟨hme, -, -⟩ := after_frame (kind := .store) (xs := xs) (e := 1024) (u := s.srcTaken a.toNat)
  have hsame : byteHeld (s.srcTaken a.toNat) = byteHeld s := by
    unfold byteHeld heldPiece
    rw [htaken]
  have hlen := carryBytes_length (h := s.me.readH k.toNat)
  have hu' : (s.srcTaken a.toNat).me.copies = [] ∧ (s.srcTaken a.toNat).dbg.comparators = [] := ⟨(srcTaken_unwatched hu).1, (srcTaken_unwatched hu).2.1⟩
  have hshare : (s.srcTaken a.toNat).stripShare = s.stripShare := by
    unfold State.stripShare State.srcTaken
    split <;> rfl
  obtain ⟨ns, v, hrun⟩ := stores_run (n := 1024) (e := 0) (o := p) (v := s.me.csr.vstart) (base := (s.srcValue a.toNat).toNat) (xs := xs) (ns := (s.srcTaken a.toNat).notes)
    (Nat.zero_add 1024 ▸ hlen.symm) hu' (by rw [hlen]; exact ho) (by rw [hlen, hsame, htaken, hshare]; exact hroom)
  have hbegin : storedTo (s.srcTaken a.toNat) (s.srcValue a.toNat).toNat (carryBytes (s.me.readH k.toNat)) xs (s.srcTaken a.toNat).notes 0 = s.srcTaken a.toNat := by
    unfold storedTo
    rw [show range 0 0 = [] from rfl, List.map_nil, List.append_nil]
    rfl
  rw [hbegin, hlen] at hrun
  have hissued : ((s.srcTaken a.toNat).midway p s.me.csr.vstart).me.issued.readH k.toNat = s.me.readH k.toNat := by rw [hp.issued_of_me htaken]; rfl
  refine ⟨ns, retiresWith_of_midway (b := mcarrystBody k a) (o := p) rfl hs hv.symm ?_ hp.savedFlags⟩
  unfold mcarrystBody mzBegin
  rw [bind_assoc, exec_bind_ok (engineSide_ok hside)]
  refine (exec_bind_ok (m := (pure () : Exec Unit)) rfl).trans ?_
  rw [exec_bind_ok (checkSrc_ok hok), exec_bind_ok hread, exec_getState_bind, hissued]
  unfold storeFromVstart
  rw [exec_getState_bind, hlen, show ((s.srcTaken a.toNat).midway p s.me.csr.vstart).me.csr.start = 0 from by
    show s.me.csr.vstart.toNat = 0
    rw [hv]
    rfl]
  rw [exec_bind_ok hrun, setVstart_midway]
  unfold storedTo
  rw [hsame, htaken, hv]
  unfold State.withMe
  rw [hme, htaken]
  rfl

end

/-- Settles O37: MSCAN's step is one pass over the columns, each of which reads and writes words and a pair of its own; MCARRY writes each pair once; MCARRYST holds
its bytes one by one. -/
theorem affineScansCarryTheirColumns : Obligations.AffineScansCarryTheirColumns := by
  unfold Obligations.AffineScansCarryTheirColumns
  refine ⟨fun z k n s htidy hf hpc hm hn hv => mscan_scans htidy hf hpc hm hn hv, fun k a s _ hside hs hv => ⟨mcarry_resets hside hs hv,
    fun xs ha hok hhere hu hopens hsound => mcarry_loads hside hs hv ha hok hhere hu hopens hsound, fun xs hok hhere hu => ?_⟩⟩
  intro at' after ho byte new hroom
  have hnew : new = (range 0 1024).map (byteHeld s (s.srcValue a.toNat).toNat (carryBytes (s.me.readH k.toNat)) xs) :=
    List.map_congr_left fun e he => (byteHeld_eq (by simpa using range_lt he)).symm
  rw [hnew] at hroom ⊢
  exact mcarryst_stores hside hs hv hok hhere hu ho hroom

end Sys2Proof.Machine

end

section
/-! PROOFS. The elements of a posted product (R67–R72, R229): each is worked out from what its own words hold, and written to them alone. -/

namespace Sys2Proof.Machine

open Sys2Proof

/-! ## One element -/

/-- The word of element (i, n) of a tile that is not exact: an offset in mode 2 (R66). -/
def productWord (mode i n : Nat) : Nat := if mode = 2 then 8192 + 64 * i + n else 128 * i + n

/-- What element (i, n) of the tile of a product holds: the integer of an exact element, or a code. -/
def productGet (p : Posted) (t : Tandem) (i n : Nat) : Int :=
  if cfgMode p.cfg = 1 then t.exact p.tile (64 * i + n) else ((t.word p.tile (productWord (cfgMode p.cfg) i n)).toNat : Int)

/-- Element (i, n) of the tile of a product written. -/
def productSet (p : Posted) (t : Tandem) (i n : Nat) (x : Int) : Tandem :=
  if cfgMode p.cfg = 1 then t.setExact p.tile (64 * i + n) x else t.setWord p.tile (productWord (cfgMode p.cfg) i n) x.toNat

/-- A value that an element of the mode can hold. -/
def productFits (p : Posted) (x : Int) : Prop := if cfgMode p.cfg = 1 then Exact128 x else 0 ≤ x ∧ x < 2 ^ 32

section
variable {p : Posted} {as bs : List Nat} {t u : Tandem} {i n k l : Nat} {x : Int} {mode : Nat}

/-- The words of two elements are apart. -/
theorem productWord_ne (h : mode = 0 ∨ mode = 2 ∧ n < 64 ∧ l < 64) (hn : n < 128) (hl : l < 128) (hne : (k, l) ≠ (i, n)) : productWord mode k l ≠ productWord mode i n := by
  have hpair : k ≠ i ∨ l ≠ n := by
    by_contra hno
    rw [not_or, not_not, not_not] at hno
    exact hne (by rw [hno.1, hno.2])
  unfold productWord
  split <;> omega

theorem productSet_tidy (ht : t.tidy) : (productSet p t i n x).tidy := ite_holds (P := Tandem.tidy) (Tandem.setExact_tidy ht) (Tandem.setWord_tidy ht)

theorem productSet_frame : productSet p t i n x = { t with zt := (productSet p t i n x).zt } := by
  unfold productSet
  split <;> rfl

theorem productGet_set_same (ht : t.tidy) (hx : productFits p x) : productGet p (productSet p t i n x) i n = x := by
  unfold productGet productSet
  unfold productFits at hx
  by_cases hm : cfgMode p.cfg = 1
  · simp only [hm, if_true] at hx ⊢
    exact exact_setExact_same ht hx
  · simp only [hm, if_false] at hx ⊢
    rw [word_setWord_same ht, BitVec.toNat_ofNat, Nat.mod_eq_of_lt (by omega)]
    omega

theorem productGet_set_other (hc : cfgLegal p.cfg = true) (hn : n < cfgN p.cfg) (hl : l < cfgN p.cfg) (hne : (k, l) ≠ (i, n)) :
    productGet p (productSet p t i n x) k l = productGet p t k l := by
  have h128 := cfgN_le (c := p.cfg)
  unfold productGet productSet
  by_cases hm : cfgMode p.cfg = 1
  · have h64 := cfgLegal.cols hc (by omega)
    simp only [hm, if_true]
    refine exact_setExact_other fun heq => hne ?_
    rw [show k = i by omega, show l = n by omega]
  · have hmode : cfgMode p.cfg = 0 ∨ cfgMode p.cfg = 2 ∧ n < 64 ∧ l < 64 := by
      by_cases h0 : cfgMode p.cfg = 0
      · exact .inl h0
      · have h64 := cfgLegal.cols hc h0
        have h4 : cfgMode p.cfg < 4 := field_lt _ _ _
        have h3 : cfgMode p.cfg ≠ 3 := (of_decide_eq_true hc).1
        exact .inr ⟨by omega, by omega, by omega⟩
    simp only [hm, if_false]
    rw [word_setWord_other (productWord_ne hmode (by omega) (by omega) hne)]

/-- The elements' own words: no write to an element reaches another (R66). -/
theorem productSet_other {key : Nat} (h1 : cfgMode p.cfg = 1 → ∀ c < 4, key ≠ 16384 * p.tile + (4 * (64 * i + n) + c))
    (hw : cfgMode p.cfg ≠ 1 → key ≠ 16384 * p.tile + productWord (cfgMode p.cfg) i n) : sparseGet 0 (productSet p t i n x).zt key = sparseGet 0 t.zt key := by
  unfold productSet
  by_cases hm : cfgMode p.cfg = 1
  · rw [if_pos hm]
    exact setExact_other (h1 hm)
  · rw [if_neg hm]
    exact setWord_other (hw hm)

/-! ## What a product makes of an element -/

/-- An element is worked out from what it holds. -/
theorem productElem_congr (h : productGet p u i n = productGet p t i n) : Claims.productElem p as bs u i n = Claims.productElem p as bs t i n := by
  unfold productGet at h
  unfold Claims.productElem
  by_cases hm : cfgMode p.cfg = 1
  · simp only [hm, if_true] at h ⊢
    rw [h]
  · simp only [hm, if_false] at h ⊢
    have hw : (u.word p.tile (productWord (cfgMode p.cfg) i n)).toNat = (t.word p.tile (productWord (cfgMode p.cfg) i n)).toNat := by exact_mod_cast h
    unfold productWord at hw
    rw [hw]

theorem addExact_exact128 {a i : Int} {neg : Bool} {cs : List Val} (hi : Exact128 i) : Exact128 (addExact a neg i cs).1 := by
  have hb := exactBound_exact128
  have hnan : Exact128 exactNaN := by unfold Exact128 exactNaN; omega
  unfold addExact
  dsimp only
  split
  · exact hnan
  · split
    · exact hi
    · split
      · exact ite_holds (P := Exact128) hb.2 hb.1
      · split
        · exact hb.1
        · split
          · exact hb.2
          next hle hge =>
            unfold exactBound at hle hge
            exact ⟨by omega, by omega⟩

theorem addGroups_lt {neg : Bool} {gs : List (List Val)} {c : Nat × Nat} (hc : c.1 < 2 ^ 32) : (gs.foldl (addGroup neg) c).1 < 2 ^ 32 := by
  induction gs generalizing c with
  | nil => exact hc
  | cons g gs ih => exact ih fp32_deliver_lt

theorem productElem_fits : productFits p (Claims.productElem p as bs t i n).1 := by
  unfold productFits Claims.productElem
  dsimp only
  by_cases hm : cfgMode p.cfg = 1
  · rw [if_pos hm, if_pos hm]
    refine addExact_exact128 (ite_holds (P := Exact128) ?_ exact_exact128)
    unfold Exact128
    omega
  · rw [if_neg hm, if_neg hm]
    refine ⟨Int.natCast_nonneg _, ?_⟩
    dsimp only
    norm_cast
    exact addGroups_lt (ite_holds (P := fun k => k < 2 ^ 32) (by decide) (BitVec.isLt _))

/-! ## The elements of a list, one after another -/

/-- A tandem and the flags, after element `c` has taken its products. -/
def productStep (p : Posted) (as bs : List Nat) (x : Tandem × Nat) (c : Nat × Nat) : Tandem × Nat :=
  let r := Claims.productElem p as bs x.1 c.1 c.2
  (productSet p x.1 c.1 c.2 r.1, x.2 ||| r.2)

theorem productStep_elem (hc : cfgLegal p.cfg = true) (hn : n < cfgN p.cfg) (hl : l < cfgN p.cfg) (hne : (k, l) ≠ (i, n)) {x : Tandem × Nat} :
    Claims.productElem p as bs (productStep p as bs x (i, n)).1 k l = Claims.productElem p as bs x.1 k l := productElem_congr (productGet_set_other hc hn hl hne)

theorem products_tidy {cs : List (Nat × Nat)} {x : Tandem × Nat} (ht : x.1.tidy) : (cs.foldl (productStep p as bs) x).1.tidy :=
  foldl_holds (P := fun x : Tandem × Nat => x.1.tidy) (fun _ h _ _ => productSet_tidy h) ht

theorem products_frame {cs : List (Nat × Nat)} {x : Tandem × Nat} :
    (cs.foldl (productStep p as bs) x).1 = { x.1 with zt := (cs.foldl (productStep p as bs) x).1.zt } := by
  induction cs generalizing x with
  | nil => rfl
  | cons c cs ih => rw [List.foldl_cons, ih, show (productStep p as bs x c).1 = productSet p x.1 c.1 c.2 _ from rfl, productSet_frame]

/-- Each element of the list takes its products once. -/
theorem products_get (hc : cfgLegal p.cfg = true) {cs : List (Nat × Nat)} {x : Tandem × Nat} (ht : x.1.tidy) (hd : cs.Nodup) (hcs : ∀ c ∈ cs, c.2 < cfgN p.cfg)
    (hl : l < cfgN p.cfg) : productGet p (cs.foldl (productStep p as bs) x).1 k l =
      if (k, l) ∈ cs then (Claims.productElem p as bs x.1 k l).1 else productGet p x.1 k l := by
  induction cs generalizing x with
  | nil => exact (if_neg List.not_mem_nil).symm
  | cons c cs ih =>
    obtain ⟨i, n⟩ := c
    obtain ⟨hnot, hd⟩ := List.nodup_cons.1 hd
    have hn := hcs (i, n) List.mem_cons_self
    rw [List.foldl_cons, ih (productSet_tidy ht) hd fun c h => hcs c (List.mem_cons_of_mem _ h)]
    by_cases heq : (k, l) = (i, n)
    · rw [if_neg (heq ▸ hnot), if_pos (heq ▸ List.mem_cons_self)]
      obtain ⟨rfl, rfl⟩ := Prod.mk.inj heq
      exact productGet_set_same ht productElem_fits
    · rw [productStep_elem hc hn hl heq]
      unfold productStep
      dsimp only
      rw [productGet_set_other hc hn hl heq]
      exact if_congr (by simp [heq]) rfl rfl

theorem products_flags (hc : cfgLegal p.cfg = true) {cs : List (Nat × Nat)} {x : Tandem × Nat} (hd : cs.Nodup) (hcs : ∀ c ∈ cs, c.2 < cfgN p.cfg) :
    (cs.foldl (productStep p as bs) x).2 = cs.foldl (fun f c => f ||| (Claims.productElem p as bs x.1 c.1 c.2).2) x.2 := by
  induction cs generalizing x with
  | nil => rfl
  | cons c cs ih =>
    obtain ⟨i, n⟩ := c
    obtain ⟨hnot, hd⟩ := List.nodup_cons.1 hd
    rw [List.foldl_cons, List.foldl_cons, ih hd fun c h => hcs c (List.mem_cons_of_mem _ h)]
    refine List.foldl_ext _ _ _ fun f c hmem => ?_
    rw [productStep_elem hc (hcs (i, n) List.mem_cons_self) (hcs c (List.mem_cons_of_mem _ hmem)) fun heq => hnot (heq ▸ hmem)]

theorem products_other {cs : List (Nat × Nat)} {x : Tandem × Nat} {key : Nat}
    (h1 : cfgMode p.cfg = 1 → ∀ c ∈ cs, ∀ b < 4, key ≠ 16384 * p.tile + (4 * (64 * c.1 + c.2) + b))
    (hw : cfgMode p.cfg ≠ 1 → ∀ c ∈ cs, key ≠ 16384 * p.tile + productWord (cfgMode p.cfg) c.1 c.2) :
    sparseGet 0 (cs.foldl (productStep p as bs) x).1.zt key = sparseGet 0 x.1.zt key := by
  induction cs generalizing x with
  | nil => rfl
  | cons c cs ih =>
    rw [List.foldl_cons, ih (fun h c hc => h1 h c (List.mem_cons_of_mem _ hc)) fun h c hc => hw h c (List.mem_cons_of_mem _ hc)]
    exact productSet_other (fun h => h1 h c List.mem_cons_self) fun h => hw h c List.mem_cons_self

end

end Sys2Proof.Machine

end

section
/-! PROOFS. The product that completes (O40): its operands are read, its rows are performed, its flags join the E-side's, and it leaves the queue (R128, R229, R231). -/

namespace Sys2Proof.Machine

open Sys2Proof

/-! ## Its operands (R128) -/

section
variable {s : State} {x : Away} {d : Desc} {rows k free : Nat}

theorem scratchCodes_length {unit o q : Nat} {held : List HeldStore} : (scratchCodes s unit held d o q rows k).length = rows * k := by
  unfold scratchCodes
  rw [List.length_flatMap]
  simp

/-- The engine works from codes that its operand has held since the post, or holds now. -/
theorem sourceCodes_delivered {src : MatrixSource} (hu : x.t.unit = s.tan.unit) (hh : x.e.held = s.focusAway.e.held) :
    Claims.delivered s d rows k src (sourceCodes s x d rows k free src) := by
  cases src with
  | codes xs => rfl
  | scratch o q early =>
    intro hearly
    have hnow : scratchCodes s x.t.unit x.e.held d o q rows k = scratchCodes s s.tan.unit s.focusAway.e.held d o q rows k := by rw [hu, hh]
    have hlen : (scratchCodes s s.tan.unit s.focusAway.e.held d o q rows k).length = rows * k := scratchCodes_length
    unfold sourceCodes
    dsimp only
    rw [hnow]
    generalize scratchCodes s s.tan.unit s.focusAway.e.held d o q rows k = now at hlen ⊢
    refine ⟨by simp [hlen], fun e he => ?_⟩
    rw [← hlen] at he
    rw [List.getElem?_map, List.getElem?_eq_getElem (by simpa using he), List.getElem_zip, range_getElem, Nat.zero_add, Option.map_some]
    dsimp only
    cases hpick : early[Config.choice (free + e) % (early.length + 1)]? with
    | none => exact .inl (List.getElem?_eq_getElem he).symm
    | some xs =>
      have hmem := List.mem_of_getElem? hpick
      refine .inr ⟨xs, hmem, ?_⟩
      have hxs : e < xs.length := by rw [hearly xs hmem, ← hlen]; exact he
      dsimp only
      rw [List.getD_eq_getElem _ _ hxs, List.getElem?_eq_getElem hxs]

end

/-! ## Its rows (R229) -/

section
variable {p : Posted} {as bs : List Nat} {t : Tandem} {free : Nat}

/-- A fold of triples whose first two parts do not depend on the third. -/
theorem foldl_pair {α β γ δ : Type} {f : β × γ × δ → α → β × γ × δ} {g : β × γ → α → β × γ} (h : ∀ r x, ((f r x).1, (f r x).2.1) = g (r.1, r.2.1) x) {l : List α}
    {r : β × γ × δ} : ((l.foldl f r).1, (l.foldl f r).2.1) = l.foldl g (r.1, r.2.1) := by
  induction l generalizing r with
  | nil => rfl
  | cons x l ih => rw [List.foldl_cons, List.foldl_cons, ih, h]

/-- A row is its elements, one after another (R229). -/
theorem matrixRow_eq (hsplit : tdSplit p.tda ≠ 1 ∧ tdSplit p.tdb ≠ 1) {i : Nat} : ((matrixRow p as bs free i t).1, (matrixRow p as bs free i t).2.1) =
    ((range 0 (cfgN p.cfg)).map fun n => (i, n)).foldl (productStep p as bs) (t, 0) := by
  rw [List.foldl_map]
  unfold matrixRow
  refine foldl_pair (r := (t, 0, none)) fun r n => ?_
  have hno : decide (tdSplit p.tda = 1 ∨ tdSplit p.tdb = 1) = false := decide_eq_false (by simp [hsplit])
  unfold productStep productSet Claims.productElem Posted.depth depthGroups
  dsimp only
  rw [hno]
  by_cases hm : cfgMode p.cfg = 1
  · simp only [hm, if_true, Nat.lor_assoc]
  · simp only [hm, if_false, Nat.lor_assoc, Int.toNat_natCast]
    rfl

theorem productStep_flags {cs : List (Nat × Nat)} {fl : Nat} :
    cs.foldl (productStep p as bs) (t, fl) = ((cs.foldl (productStep p as bs) (t, 0)).1, fl ||| (cs.foldl (productStep p as bs) (t, 0)).2) := by
  induction cs generalizing t fl with
  | nil => rw [List.foldl_nil, List.foldl_nil, Nat.or_zero]
  | cons c cs ih =>
    rw [List.foldl_cons, List.foldl_cons, show productStep p as bs (t, fl) c = ((productStep p as bs (t, 0) c).1, fl ||| (productStep p as bs (t, 0) c).2) from by
      simp only [productStep, Nat.zero_or]]
    rw [ih, ← Prod.mk.eta (p := productStep p as bs (t, 0) c), ih (fl := (productStep p as bs (t, 0) c).2)]
    dsimp only
    rw [Nat.lor_assoc]

/-- The elements of some rows, row by row. -/
def productCells (p : Posted) (rows : List Nat) : List (Nat × Nat) := rows.flatMap fun i => (range 0 (cfgN p.cfg)).map fun n => (i, n)

theorem mem_productCells {rows : List Nat} {i n : Nat} : (i, n) ∈ productCells p rows ↔ i ∈ rows ∧ n < cfgN p.cfg := by
  unfold productCells
  simp only [List.mem_flatMap, List.mem_map, range_eq_range', List.mem_range'_1, Prod.mk.injEq]
  constructor
  · rintro ⟨_, hi, _, hn, rfl, rfl⟩
    exact ⟨hi, by omega⟩
  · rintro ⟨hi, hn⟩
    exact ⟨i, hi, n, by omega, rfl, rfl⟩

theorem nodup_productCells {rows : List Nat} (h : rows.Nodup) : (productCells p rows).Nodup := by
  unfold productCells
  refine List.nodup_flatMap.2 ⟨fun i _ => List.Nodup.map (fun a b hab => (Prod.mk.inj hab).2) (by rw [range_eq_range']; exact List.nodup_range'), h.imp fun hne => ?_⟩
  intro c hc hc'
  obtain ⟨_, -, rfl⟩ := List.mem_map.1 hc
  obtain ⟨_, -, heq⟩ := List.mem_map.1 hc'
  exact hne (Prod.mk.inj heq).1.symm

/-- Rows of a product, one after another: the tandem, the flags and the first overflow, as the model keeps them. -/
def rowsDone (p : Posted) (as bs : List Nat) (free : Nat) (rows : List Nat) (t : Tandem) : Tandem × Nat × Option Nat :=
  rows.foldl (fun r i =>
    let (t, fl, spill) := r
    let q := matrixRow p as bs free i t
    (q.1, fl ||| q.2.1, if spill.isSome then spill else q.2.2)) (t, p.flags, p.spill)

theorem rowsDone_eq (hsplit : tdSplit p.tda ≠ 1 ∧ tdSplit p.tdb ≠ 1) {rows : List Nat} :
    ((rowsDone p as bs free rows t).1, (rowsDone p as bs free rows t).2.1) = (productCells p rows).foldl (productStep p as bs) (t, p.flags) := by
  unfold productCells rowsDone
  rw [List.foldl_flatMap]
  refine foldl_pair (r := (t, p.flags, p.spill)) fun r i => ?_
  obtain ⟨u, f, sp⟩ := r
  dsimp only
  rw [productStep_flags, ← matrixRow_eq (free := free) hsplit]

end

/-! ## It leaves the queue (R231) -/

section
variable {s : State} {x : Away} {p : Posted} {k : Nat}

theorem setNth_getElem? {α : Type} {l : List α} {i : Nat} {y : α} (h : i < l.length) : (setNth l i y)[i]? = some y := by
  induction l generalizing i with
  | nil => simp at h
  | cons z l ih =>
    cases i with
    | zero => rfl
    | succ i => exact ih (Nat.lt_of_succ_lt_succ h)

theorem dropNth_setNth {α : Type} {l : List α} {i : Nat} {y : α} : dropNth (setNth l i y) i = l.eraseIdx i := by
  induction l generalizing i with
  | nil => rfl
  | cons z l ih =>
    cases i with
    | zero => rfl
    | succ i => exact congrArg (z :: ·) ih

/-- The rows of a posted product that are still open. -/
def openRows (p : Posted) : List Nat := range p.row (cfgM p.cfg - p.row)

/-- The rows that are still open are performed, and the operands are read for good (R128, R229). -/
theorem performRows_eq (hp : x.t.matrix[k]? = some p) (hsplit : tdSplit p.tda ≠ 1 ∧ tdSplit p.tdb ≠ 1) :
    let as := sourceCodes s x p.tda (cfgM p.cfg) (tdDepth p.tda) s.free p.a
    let bs := sourceCodes s x p.tdb (cfgN p.cfg) (tdDepth p.tda) (s.free + 2 ^ 20) p.b
    let r := (productCells p (openRows p)).foldl (productStep p as bs) (x.t, p.flags)
    ∃ f p', p'.flags = r.2 ∧ performRows s x k 128 = ({ s with free := f }, { x with t := { r.1 with matrix := setNth x.t.matrix k p' } }) := by
  intro as bs r
  obtain ⟨htile, hflags⟩ := Prod.mk.inj (rowsDone_eq (as := as) (bs := bs) (t := x.t) (free := s.free + 2 ^ 21) (rows := openRows p) hsplit)
  have hmatrix : r.1.matrix = x.t.matrix := by rw [show r.1 = _ from products_frame]
  refine ⟨s.free + 2 ^ 28, { p with a := .codes as, b := .codes bs, row := max p.row (min 128 (cfgM p.cfg))
                                    flags := (rowsDone p as bs (s.free + 2 ^ 21) (openRows p) x.t).2.1
                                    spill := (rowsDone p as bs (s.free + 2 ^ 21) (openRows p) x.t).2.2 }, hflags, ?_⟩
  rw [← hmatrix, show r.1 = _ from htile.symm]
  unfold performRows
  rw [hp]
  unfold rowsDone openRows
  dsimp only
  rw [Nat.min_eq_right cfgM_le]
  rfl

/-- A resident tandem's product that stands first for its tile completes. -/
theorem completePosted_eq (hp : x.t.matrix[k]? = some p) (hfirst : firstOfTile x.t.matrix k = true) (hz : x.t.zsaved = false) (hplace : ∃ c n, x.t.place = .resident c n)
    (hsplit : tdSplit p.tda ≠ 1 ∧ tdSplit p.tdb ≠ 1) :
    let as := sourceCodes s x p.tda (cfgM p.cfg) (tdDepth p.tda) s.free p.a
    let bs := sourceCodes s x p.tdb (cfgN p.cfg) (tdDepth p.tda) (s.free + 2 ^ 20) p.b
    let r := (productCells p (openRows p)).foldl (productStep p as bs) (x.t, p.flags)
    ∃ f ov, completePosted s x k = ({ s with free := f },
      { x with t := { r.1 with matrix := x.t.matrix.eraseIdx k, overflows := ov }, e := x.e.raise (BitVec.ofNat 64 r.2) }) := by
  intro as bs r
  obtain ⟨f, p', hflags, hperform⟩ := performRows_eq (s := s) hp hsplit
  obtain ⟨c, n, hres⟩ := hplace
  have hk : k < x.t.matrix.length := (List.getElem?_eq_some_iff.1 hp).1
  have hno : ¬ (firstOfTile x.t.matrix k = false ∨ x.t.zsaved = true) := by simp [hfirst, hz]
  have hplace' : r.1.place = .resident c n := by rw [show r.1 = _ from products_frame]; exact hres
  unfold completePosted
  rw [if_neg hno]
  dsimp only
  rw [hperform]
  dsimp only
  rw [setNth_getElem? hk]
  dsimp only
  rw [dropNth_setNth, hflags]
  rw [hplace']
  exact ⟨f, _, rfl⟩

end

end Sys2Proof.Machine

end

section
/-! PROOFS. The completion of posted matrix work (O40): the tandem whose product completes is the one in focus, and no other. -/

namespace Sys2Proof.Machine

open Sys2Proof

/-! ## The flags of the rows -/

section
variable {p : Posted} {as bs : List Nat} {t : Tandem}

theorem foldl_productCells {g : Nat × Nat → Nat} {rows : List Nat} {a : Nat} : (productCells p rows).foldl (fun f c => f ||| g c) a =
    rows.foldl (fun f i => f ||| (range 0 (cfgN p.cfg)).foldl (fun f n => f ||| g (i, n)) 0) a := by
  unfold productCells
  rw [List.foldl_flatMap]
  refine List.foldl_ext _ _ _ fun f i _ => ?_
  rw [List.foldl_map]
  exact foldl_or

/-! ## Its rows -/

theorem mem_openRows {i : Nat} : i ∈ openRows p ↔ p.row ≤ i ∧ i < cfgM p.cfg := by
  unfold openRows
  rw [range_eq_range', List.mem_range'_1]
  omega

theorem nodup_openRows : (openRows p).Nodup := by
  unfold openRows
  rw [range_eq_range']
  exact List.nodup_range'

/-- A word that no open element of the product has stays (R66, R229). -/
theorem products_word_other (hc : cfgLegal p.cfg = true) {f j w : Nat} (hw : w < 16384)
    (h : j ≠ p.tile ∨ (cfgMode p.cfg = 0 ∧ (w / 128 < p.row ∨ cfgM p.cfg ≤ w / 128 ∨ cfgN p.cfg ≤ w % 128)) ∨
      (cfgMode p.cfg = 1 ∧ (w / 256 < p.row ∨ cfgM p.cfg ≤ w / 256 ∨ cfgN p.cfg ≤ w / 4 % 64)) ∨
      (cfgMode p.cfg = 2 ∧ (w < 8192 ∨ w / 64 % 128 < p.row ∨ cfgM p.cfg ≤ w / 64 % 128 ∨ cfgN p.cfg ≤ w % 64))) :
    ((productCells p (openRows p)).foldl (productStep p as bs) (t, f)).1.word j w = t.word j w := by
  have hm128 := cfgM_le (c := p.cfg)
  have hn128 := cfgN_le (c := p.cfg)
  obtain ⟨hmode, hexact, hpair, -⟩ := of_decide_eq_true hc
  have h4 : cfgMode p.cfg < 4 := field_lt _ _ _
  refine products_other (x := (t, f)) (fun h1 c hmem b hb => ?_) fun h1 c hmem => ?_
  · obtain ⟨hi, hn⟩ := mem_productCells.1 (show (c.1, c.2) ∈ _ from hmem)
    obtain ⟨hlo, hhi⟩ := mem_openRows.1 hi
    obtain ⟨hm64, hn64⟩ := hexact h1
    omega
  · obtain ⟨hi, hn⟩ := mem_productCells.1 (show (c.1, c.2) ∈ _ from hmem)
    obtain ⟨hlo, hhi⟩ := mem_openRows.1 hi
    unfold productWord
    split
    next h2 =>
      have hn64 := (hpair h2).1
      omega
    · omega

theorem products_elem (hc : cfgLegal p.cfg = true) (ht : t.tidy) {f i n : Nat} (hi : i ∈ openRows p) (hn : n < cfgN p.cfg) :
    productGet p ((productCells p (openRows p)).foldl (productStep p as bs) (t, f)).1 i n = (Claims.productElem p as bs t i n).1 := by
  rw [products_get hc (x := (t, f)) ht (nodup_productCells nodup_openRows) (fun c hmem => (mem_productCells.1 (show (c.1, c.2) ∈ _ from hmem)).2) hn,
    if_pos (mem_productCells.2 ⟨hi, hn⟩)]

theorem productGet_plain {i n : Nat} (h : cfgMode p.cfg = 0) : productGet p t i n = ((t.word p.tile (128 * i + n)).toNat : Int) := by
  unfold productGet productWord
  rw [h, if_neg (by decide), if_neg (by decide)]

theorem productGet_exact {i n : Nat} (h : cfgMode p.cfg = 1) : productGet p t i n = t.exact p.tile (64 * i + n) := if_pos h

theorem productGet_offset {i n : Nat} (h : cfgMode p.cfg = 2) : productGet p t i n = ((t.word p.tile (8192 + 64 * i + n)).toNat : Int) := by
  unfold productGet productWord
  rw [h, if_neg (by decide), if_pos rfl]

theorem products_flags_rows (hc : cfgLegal p.cfg = true) : ((productCells p (openRows p)).foldl (productStep p as bs) (t, p.flags)).2 =
    (openRows p).foldl (fun f i => f ||| (range 0 (cfgN p.cfg)).foldl (fun f n => f ||| (Claims.productElem p as bs t i n).2) 0) p.flags := by
  rw [products_flags hc (x := (t, p.flags)) (nodup_productCells nodup_openRows) fun c hmem => (mem_productCells.1 (show (c.1, c.2) ∈ _ from hmem)).2]
  exact foldl_productCells (g := fun c => (Claims.productElem p as bs t c.1 c.2).2)

end

/-! ## The tandem in focus -/

section
variable {s : State}

/-- An event of a tandem that is in focus, and whose number no other has, changes the focus alone. -/
theorem mapTandems_alone {f : State → Away → State × Away} (h : Claims.alone s) (ha : (f s s.focusAway).1.away = s.away) :
    mapTandems (fun x => x.uid == s.tan.uid) f s = (f s s.focusAway).1.withFocus (f s s.focusAway).2 := by
  obtain ⟨hl, hother⟩ := h
  unfold mapTandems
  have hsel : (s.live && s.tan.uid == s.tan.uid) = true := by simp [hl]
  rw [if_pos hsel]
  dsimp only
  have hsame : mapAway (fun x => x.uid == s.tan.uid) f ((f s s.focusAway).1.withFocus (f s s.focusAway).2) ((f s s.focusAway).1.withFocus (f s s.focusAway).2).away =
      ((f s s.focusAway).1.withFocus (f s s.focusAway).2, ((f s s.focusAway).1.withFocus (f s s.focusAway).2).away) := by
    refine mapAway_eq_self fun x hx hp => absurd (eq_of_beq hp) (hother x ?_)
    rw [State.withFocus_away, ha] at hx
    exact hx
  rw [hsame]

theorem settleDraining_resident {t : Tandem} {c n : Nat} (h : t.place = .resident c n) : settleDraining t = t := by
  unfold settleDraining
  rw [h]

/-- MATRIX_COMPLETE of the tandem in focus, which runs with its tiles in place, is the completion of the product. -/
theorem exec_matrixComplete_eq {k : Nat} {y : Away} {f : Nat} (hr : Claims.runs s) (ha : Claims.alone s) (hz : s.tan.zsaved = false)
    (hy : completePosted s s.focusAway k = ({ s with free := f }, y)) (hplace : y.t.place = s.tan.place) :
    exec (.matrixComplete s.tan.uid k) s = .next (State.withFocus { s with free := f } y) := by
  have hfrozen := not_frozen_of_runs hr s.tan
  obtain ⟨-, -, -, -, c, n, hres⟩ := hr
  have hf : (if s.frozen s.focusAway.t then (s, s.focusAway)
      else if s.focusAway.t.stoppedSaved then ((completeSaved s s.focusAway k).1, { (completeSaved s s.focusAway k).2 with t := settleDraining (completeSaved s s.focusAway k).2.t })
      else ((completePosted s s.focusAway k).1, { (completePosted s s.focusAway k).2 with t := settleDraining (completePosted s s.focusAway k).2.t })) =
      ({ s with free := f }, y) := by
    have hstop : s.focusAway.t.stoppedSaved = false := by rw [State.focusAway_t]; unfold Tandem.stoppedSaved; rw [hz]; rfl
    rw [if_neg (by rw [State.focusAway_t, hfrozen]; simp), if_neg (by rw [hstop]; simp), hy]
    dsimp only
    rw [settleDraining_resident (hplace.trans hres)]
  refine congrArg Host.Outcome.next ((mapTandems_alone ha ?_).trans ?_)
  · exact congrArg (fun r : State × Away => r.1.away) hf
  · exact congrArg (fun r : State × Away => r.1.withFocus r.2) hf

end

/-- Settles O40: the product's open elements, one after another, each worked out from its own words. -/
theorem matrixWorkCompletes : Obligations.MatrixWorkCompletes := by
  unfold Obligations.MatrixWorkCompletes
  intro s k p hr ha htidy hp hfirst hz hc hsa hsb rows
  have ht : s.focusAway.t.tidy := by rw [State.focusAway_t]; exact htidy.2.2.2.1
  have hres : ∃ c n, s.focusAway.t.place = .resident c n := by rw [State.focusAway_t]; exact hr.2.2.2.2
  obtain ⟨f, ov, hdone⟩ := completePosted_eq (s := s) (x := s.focusAway) (by rw [State.focusAway_t]; exact hp) (by rw [State.focusAway_t]; exact hfirst)
    (by rw [State.focusAway_t]; exact hz) hres ⟨hsa, hsb⟩
  have has := sourceCodes_delivered (s := s) (x := s.focusAway) (d := p.tda) (rows := cfgM p.cfg) (k := tdDepth p.tda) (free := s.free) (src := p.a)
    (by rw [State.focusAway_t]) rfl
  have hbs := sourceCodes_delivered (s := s) (x := s.focusAway) (d := p.tdb) (rows := cfgN p.cfg) (k := tdDepth p.tda) (free := s.free + 2 ^ 20) (src := p.b)
    (by rw [State.focusAway_t]) rfl
  generalize sourceCodes s s.focusAway p.tda (cfgM p.cfg) (tdDepth p.tda) s.free p.a = as at hdone has
  generalize sourceCodes s s.focusAway p.tdb (cfgN p.cfg) (tdDepth p.tda) (s.free + 2 ^ 20) p.b = bs at hdone hbs
  dsimp only at hdone
  rw [State.focusAway_t] at hdone ht
  have hplace := congrArg Tandem.place (products_frame (p := p) (as := as) (bs := bs) (cs := productCells p (openRows p)) (x := (s.tan, p.flags)))
  refine ⟨_, as, bs, exec_matrixComplete_eq hr ha hz hdone hplace, has, hbs, fun i hi n hn => ?_, fun j w hw h => ?_, ?_, ?_, ?_, ?_⟩
  · have helem := products_elem (as := as) (bs := bs) (f := p.flags) hc ht hi hn
    rw [State.withFocus_tan]
    exact ⟨fun h0 => (productGet_plain h0).symm.trans helem, fun h1 => (productGet_exact h1).symm.trans helem, fun h2 => (productGet_offset h2).symm.trans helem⟩
  · rw [State.withFocus_tan]
    exact products_word_other hc hw h
  · rw [State.withFocus_tan]
  · rw [State.focusAway_withFocus, Hart.raise, products_flags_rows hc]
    rfl
  · rw [State.focusAway_withFocus]
    rfl
  · exact State.withFocus_mem _ _

end Sys2Proof.Machine

end

section
/-! PROOFS. The coherence order of device memory (R119–R122, R131): which steps of the die views leave the latest value of a byte, and what a store
makes of it. -/

namespace Sys2Proof.Machine

open Sys2Proof

/-! ## Cells and writes in flight -/

section
variable {m : Mem} {cells : List Host.Cell} {keep : Flight → Bool} {pa : Nat}

theorem readCell_writeCell {q : Nat} {v k : Byte} (hw : Memory.wf cells = true) :
    readCell (writeCell cells q v k) pa = if q = pa then (v &&& k) ||| (readCell cells pa &&& ~~~k) else readCell cells pa := by
  by_cases h : q = pa
  · subst h
    rw [if_pos rfl]
    exact sparseGet_set_same memDefault cells _ _ hw
  · rw [if_neg h]
    exact readCell_writeCell_other cells q pa v k (Ne.symm h)

theorem readCell_writeCells {bs : List (Nat × Byte × Byte)} (hw : Memory.wf cells = true) : readCell (writeCells cells bs) pa = overlay pa (readCell cells pa) bs := by
  induction bs generalizing cells with
  | nil => rfl
  | cons b bs ih =>
    obtain ⟨q, v, k⟩ := b
    refine (ih (writeCell_wf cells q v k hw)).trans ?_
    rw [readCell_writeCell hw]
    rfl

/-- Writes that every die has applied, folded into the cells, stand under every view that holds them. -/
theorem flightByte_settle {fs : List Flight} (hw : Memory.wf cells = true) (hk : ∀ f, (f.seen.all id && f.seen.length == 4) = true → keep f = true) :
    flightByte keep pa (readCell (settle cells fs).1 pa) (settle cells fs).2 = flightByte keep pa (readCell cells pa) fs := by
  induction fs generalizing cells with
  | nil => rfl
  | cons f fs ih =>
    unfold settle
    split
    next h =>
      rw [ih (writeCells_wf _ _ hw), readCell_writeCells hw]
      conv_rhs => unfold flightByte
      rw [hk f h, if_pos rfl]
    · rfl

theorem flightByte_map {g : Flight → Flight} {keep' : Flight → Bool} {fs : List Flight} {b : Byte} (hb : ∀ f, (g f).bytes = f.bytes) (hk : ∀ f, keep (g f) = keep' f) :
    flightByte keep pa b (fs.map g) = flightByte keep' pa b fs := by
  induction fs generalizing b with
  | nil => rfl
  | cons f fs ih =>
    rw [List.map_cons]
    unfold flightByte
    rw [ih, hb, hk]

/-! ## The latest value of a byte (R131) -/

theorem Mem.latestByte_settled (hm : m.tidy) : m.settled.latestByte pa = m.latestByte pa := flightByte_settle hm fun _ _ => rfl

theorem Mem.latestByte_seen {g : Flight → Flight} {cl : List (List Nat)} (hm : m.tidy) (hb : ∀ f, (g f).bytes = f.bytes) :
    (Mem.settled { m with clocks := cl, flight := m.flight.map g }).latestByte pa = m.latestByte pa :=
  (Mem.latestByte_settled (m := { m with clocks := cl, flight := m.flight.map g }) hm).trans (flightByte_map hb fun _ => rfl)

/-- A die that catches up with another changes no latest value (R122). -/
theorem Mem.latestByte_pull {d e : Nat} (hm : m.tidy) : (m.pull d e).latestByte pa = m.latestByte pa :=
  Mem.latestByte_seen hm fun f => by split <;> rfl

theorem Mem.latestByte_absorb {tag : List Nat} {d : Nat} (hm : m.tidy) : (m.absorb tag d).latestByte pa = m.latestByte pa :=
  Mem.latestByte_seen hm fun f => by split <;> rfl

theorem Mem.latestByte_catchUp {a n d : Nat} (hm : m.tidy) : (m.catchUp a n d).latestByte pa = m.latestByte pa :=
  (foldl_holds (P := fun x : Mem => x.tidy ∧ x.latestByte pa = m.latestByte pa)
    (fun _ h _ _ => ⟨Mem.absorb_tidy h.1, (Mem.latestByte_absorb h.1).trans h.2⟩) ⟨hm, rfl⟩).2

/-- A store is the latest of its bytes (R121). -/
theorem Mem.latestByte_store {d : Nat} {bs : List (Nat × Byte × Byte)} : (m.store d bs).latestByte pa = overlay pa (m.latestByte pa) bs := flightByte_append

/-! ## The view of the die that issued it (R119) -/

/-- A write, once die `e` has caught up with die `d` (R122). -/
def Flight.pulled (f : Flight) (d e : Nat) : Flight := if f.seenBy d then { f with seen := setNth f.seen e true } else f

theorem Mem.viewByte_settled {d : Nat} (hm : m.tidy) (hd : d < 4) : m.settled.viewByte d pa = m.viewByte d pa := by
  refine flightByte_settle hm fun f hf => ?_
  obtain ⟨hall, hlen⟩ := Bool.and_eq_true_iff.1 hf
  have hlt : d < f.seen.length := (beq_iff_eq.1 hlen).symm ▸ hd
  unfold Flight.seenBy
  rw [List.getD_eq_getElem _ _ hlt]
  exact List.all_eq_true.1 hall _ (List.getElem_mem hlt)

theorem Mem.viewByte_pull {h d : Nat} (hm : m.tidy) (hd : d < 4) :
    (m.pull h d).viewByte d pa = flightByte (fun f => f.seenBy d) pa (readCell m.cells pa) (m.flight.map (·.pulled h d)) :=
  Mem.viewByte_settled (m := { m with
    clocks := setNth m.clocks d ((range 0 4).map (fun j => max ((m.clocks.getD h [0, 0, 0, 0]).getD j 0) ((m.clocks.getD d [0, 0, 0, 0]).getD j 0)))
    flight := m.flight.map (·.pulled h d) }) hm hd

theorem seenBy_of_pulled {f : Flight} {h d : Nat} (hf : f.seenBy h = true) (hd : d < f.seen.length) : (f.pulled h d).seenBy d = true := by
  unfold Flight.pulled
  rw [if_pos hf]
  unfold Flight.seenBy
  rw [List.getD_eq_getElem?_getD, setNth_getElem? hd]
  rfl

theorem pulled_bytes {f : Flight} {h d : Nat} : (f.pulled h d).bytes = f.bytes := by
  unfold Flight.pulled
  split <;> rfl

/-- A store at one die is the latest of its bytes in the view of another too, once that has caught up with it. -/
theorem Mem.viewByte_store_pull {h d : Nat} {bs : List (Nat × Byte × Byte)} (hm : m.tidy) (hh : h < 4) (hd : d < 4) :
    ∃ b, ((m.store h bs).pull h d).viewByte d pa = overlay pa b bs := by
  have hpull := Mem.viewByte_pull (m := m.store h bs) (pa := pa) (h := h) hm hd
  unfold Mem.store at hpull ⊢
  rw [List.map_append, List.map_singleton, flightByte_append, if_pos (seenBy_of_pulled ?_ ?_), pulled_bytes] at hpull
  · exact ⟨_, hpull⟩
  · unfold Flight.seenBy
    rw [List.getD_eq_getElem _ _ (by simpa using hh), List.getElem_map, range_getElem]
    simp
  · simpa using hd

end

/-! ## Bytes written whole -/

section
variable {n pa q x : Nat} {b : Byte}

/-- The bytes of a number, as an atomic writes them from address `pa`. -/
def wholeBytes (pa n x : Nat) : List (Nat × Byte × Byte) := ((range pa n).zip (toBytes n x)).map (fun e => (e.1, e.2, (0xFF : Byte)))

theorem wholeBytes_succ : wholeBytes pa (n + 1) x = (pa, BitVec.ofNat 8 x, 0xFF) :: wholeBytes (pa + 1) n (x / 256) := rfl

theorem overlay_other (h : q < pa ∨ pa + n ≤ q) : overlay q b (wholeBytes pa n x) = b := by
  induction n generalizing pa x b with
  | zero => rfl
  | succ n ih =>
    rw [wholeBytes_succ]
    unfold overlay
    rw [if_neg (by omega)]
    exact ih (by omega)

theorem masked_whole {v : Byte} : (v &&& 0xFF) ||| (b &&& ~~~(0xFF : Byte)) = v := by
  have e : (0xFF : Byte) = BitVec.allOnes 8 := rfl
  rw [e, BitVec.and_allOnes, BitVec.not_allOnes, BitVec.and_zero, BitVec.or_zero]

theorem overlay_whole {i : Nat} (hi : i < n) : overlay (pa + i) b (wholeBytes pa n x) = Claims.byteOf x i := by
  induction n generalizing pa x b i with
  | zero => omega
  | succ n ih =>
    rw [wholeBytes_succ]
    unfold overlay
    cases i with
    | zero =>
      rw [Nat.add_zero, if_pos rfl, masked_whole, overlay_other (by omega)]
      exact congrArg (BitVec.ofNat 8) (Nat.div_one x).symm
    | succ i =>
      rw [show pa + (i + 1) = pa + 1 + i by omega, ih (by omega)]
      unfold Claims.byteOf
      rw [Nat.div_div_eq_div_mul, Nat.pow_succ']

end

end Sys2Proof.Machine

end

section
/-! PROOFS. What an atomic leaves of its hart: the end of its strip keeps the registers and the seat of the tandem, and so does its retirement (R108, R180). -/

namespace Sys2Proof.Machine

open Sys2Proof

/-! ## The end of a strip -/

/-- The tandem in focus is at the same core, and the same bytes of memory have an error. -/
def State.SameSeat (s t : State) : Prop := t.tan.core = s.tan.core ∧ t.tan.firmware = s.tan.firmware ∧ t.mem.bad = s.mem.bad

namespace State.SameSeat

variable {s t u : State}

theorem refl : s.SameSeat s := ⟨rfl, rfl, rfl⟩

theorem trans (h : s.SameSeat t) (h' : t.SameSeat u) : s.SameSeat u := ⟨h'.1.trans h.1, h'.2.1.trans h.2.1, h'.2.2.trans h.2.2⟩

theorem unit (h : s.SameSeat t) : t.tan.unit = s.tan.unit := by
  unfold Tandem.unit
  rw [h.1, h.2.1]

theorem die (h : s.SameSeat t) : t.tan.die = s.tan.die := by
  unfold Tandem.die
  rw [h.1, h.2.1]

end State.SameSeat

section
variable {s : State}

theorem imageWritten_seat {bs : List (Nat × Byte × Byte)} {x : Away} :
    (imageWritten s bs x).t.core = x.t.core ∧ (imageWritten s bs x).t.firmware = x.t.firmware := by
  unfold imageWritten
  split <;> exact ⟨rfl, rfl⟩

theorem mapAway_fst {p : Tandem → Bool} {g : State → Away → Away} {l : List Away} : (mapAway p (fun s x => (s, g s x)) s l).1 = s := by
  induction l with
  | nil => rfl
  | cons x l ih =>
    unfold mapAway
    cases hp : p x.t with
    | false => simp [ih]
    | true => simp [ih]

theorem mapTandems_seat {p : Tandem → Bool} {g : State → Away → Away} (hg : ∀ s x, (g s x).t.core = x.t.core ∧ (g s x).t.firmware = x.t.firmware) :
    s.SameSeat (mapTandems p (fun s x => (s, g s x)) s) := by
  have hfocus : s.SameSeat (if (s.live && p s.tan) = true then s.withFocus (g s s.focusAway) else s) := by
    split
    · unfold State.SameSeat
      rw [State.withFocus_tan, State.withFocus_mem, (hg _ _).1, (hg _ _).2, State.focusAway_t]
      exact ⟨rfl, rfl, rfl⟩
    · exact .refl
  unfold mapTandems
  refine hfocus.trans ?_
  dsimp only
  unfold State.SameSeat
  dsimp only
  rw [mapAway_fst]
  exact ⟨rfl, rfl, rfl⟩

theorem writeImages_seat {bs : List (Nat × Byte × Byte)} : s.SameSeat (writeImages bs s) :=
  mapTandems_seat (g := fun s x => if bs.any (fun b => x.imageMeets s b.1 1) then imageWritten s bs x else x) fun _ x =>
    ite_holds (P := fun y : Away => y.t.core = x.t.core ∧ y.t.firmware = x.t.firmware) imageWritten_seat ⟨rfl, rfl⟩

theorem landShared_seat {unit : Nat} {bs : List HeldByte} : s.SameSeat (landShared s unit bs) :=
  foldl_holds (P := s.SameSeat) (fun _ h _ _ => h) .refl

theorem landBytes_seat {d hart va strip : Nat} {posted : Bool} {bs : List (Nat × Byte × Byte)} : s.SameSeat (landBytes s d hart va posted strip bs).1 := by
  unfold landBytes
  split
  · exact .refl
  · split
    · exact ite_holds (P := s.SameSeat) (State.SameSeat.trans (t := { s with mem := s.mem.store d _ }) .refl writeImages_seat) .refl
    · split
      · split <;> exact .refl
      · exact .refl
    · split <;> exact .refl
    · exact .refl
    · exact .refl

theorem performAll_seat {d unit hart : Nat} {l : List HeldStore} : s.SameSeat (performAll s d unit hart l).1 := by
  induction l generalizing s with
  | nil => exact .refl
  | cons x l ih =>
    refine State.SameSeat.trans (t := (performOne s d unit hart x).1) ?_ ih
    unfold performOne
    split
    · exact landShared_seat
    · exact landBytes_seat

/-- The hart whose strip has ended keeps all but its held stores, what it awaits, and its strip. -/
theorem endStrip_hart : ∃ o st w, s.endStrip.me = { s.me with held := [], outstanding := o, strip := st, barWait := w } := by
  unfold State.endStrip
  split
  next h => exact ⟨s.me.outstanding, s.me.strip, s.me.barWait, by rw [← h.1]⟩
  · obtain ⟨w, hw⟩ := testBarrier_eq (s := { (performHeldOf s s.tan s.onA s.me).1 with
      me := (performHeldOf s s.tan s.onA s.me).2
      tan := if s.me.held = [] then (performHeldOf s s.tan s.onA s.me).1.tan.releaseTds s.onA else freeSpent ((performHeldOf s s.tan s.onA s.me).1.tan.releaseTds s.onA) s.onA })
      (t := if s.me.held = [] then (performHeldOf s s.tan s.onA s.me).1.tan.releaseTds s.onA else freeSpent ((performHeldOf s s.tan s.onA s.me).1.tan.releaseTds s.onA) s.onA)
      (h := (performHeldOf s s.tan s.onA s.me).2)
    have hheld : ∃ o st, (performHeldOf s s.tan s.onA s.me).2 = { s.me with held := [], outstanding := o, strip := st } := by
      unfold performHeldOf
      split
      next h => exact ⟨s.me.outstanding, s.me.strip, by rw [← h]⟩
      · exact ⟨_, _, rfl⟩
    obtain ⟨o, st, ho⟩ := hheld
    refine ⟨o, st, w, hw.trans ?_⟩
    rw [ho]

theorem endStrip_seat : s.SameSeat s.endStrip := by
  unfold State.endStrip
  split
  · exact .refl
  · refine State.SameSeat.trans (t := (performHeldOf s s.tan s.onA s.me).1) ?_ ?_
    · unfold performHeldOf
      split
      · exact .refl
      · exact performAll_seat
    · dsimp only
      split <;> exact ⟨rfl, rfl, rfl⟩

theorem marked_seat {kind : AccessKind} {xs : List Xlat} : s.SameSeat (s.marked kind xs) := by
  obtain ⟨f, m, p, h, hb⟩ := marked_eq s kind xs
  rw [h]
  exact ⟨rfl, rfl, hb⟩

theorem srcTaken_seat {n : Nat} : s.SameSeat (s.srcTaken n) := by
  unfold State.srcTaken
  split <;> exact .refl

end

/-! ## Retirement -/

section
variable {s0 t : State} {npc : Word}

/-- A context without a history ring counts vector instructions and no more (R380). -/
theorem historyHook_eq (h : t.myCtx.histBase = none) :
    ∃ n k, historyHook s0 t = { t with tan := { t.tan with vectorCount := n }, me := { t.me with history := k } } := by
  unfold historyHook
  split
  · exact ⟨t.tan.vectorCount, t.me.history, rfl⟩
  · dsimp only
    rw [show State.myCtx { t with tan := { t.tan with vectorCount := t.tan.vectorCount + 1 }, me := { t.me with history := t.me.history + 1 } } = t.myCtx from rfl, h]
    exact ⟨_, _, rfl⟩

/-- What a hart that nothing watches keeps as its instruction retires (R180). -/
theorem retire_of_quiet (hl : s0.me.loop = none) (htr : s0.me.csr.trctl.getLsbD 0 = false) (hq : t.Quiet) :
    (retire s0 npc t).mem = t.mem ∧ (retire s0 npc t).free = t.free ∧ (retire s0 npc t).me.pc = npc ∧ (retire s0 npc t).me.held = t.me.held ∧
      (∀ k, (retire s0 npc t).me.readS k = t.me.readS k) ∧ ∀ k, (retire s0 npc t).me.readV k = t.me.readV k := by
  obtain ⟨hloop, htrial, hhist, hpassed, howed, hreq⟩ := hq
  obtain ⟨n, k, hh⟩ := historyHook_eq (s0 := s0) hhist
  have hrec : recordHook s0 none t = t := by unfold recordHook; rw [hl]
  have hmeas : measureHook true t = t := by unfold measureHook; rw [hloop]
  unfold retire retireWith
  dsimp only
  rw [if_pos rfl, hrec, hmeas, hh]
  unfold trialHook
  dsimp only
  rw [if_pos (.inl htr), settled_of_quiet]
  · dsimp only
    unfold Hart.readS Hart.readV Hart.archV
    simp
  · refine ⟨?_, htrial, hhist, ?_, howed, fun r hr => hreq r (List.mem_filter.1 hr).1⟩
    · dsimp only
      rw [Hart.withSaved_loop]
      exact hloop
    · show (t.dbg.goneOn _).passed = []
      unfold Debug.goneOn
      dsimp only
      rw [hpassed]
      rfl

end

end Sys2Proof.Machine

end

section
/-! PROOFS. One atomic (R131, R173–R175): its read and its write in the shared space and in device memory, and the body around them. -/

namespace Sys2Proof.Machine

open Sys2Proof

/-! ## The value read -/

theorem ofBytes_lt {l : List Byte} : ofBytes l < 2 ^ (8 * l.length) := by
  induction l with
  | nil => exact Nat.one_pos
  | cons b l ih =>
    have hb : b.toNat < 256 := b.isLt
    have hpow : 2 ^ (8 * (l.length + 1)) = 256 * 2 ^ (8 * l.length) := by rw [Nat.mul_add, Nat.pow_add, Nat.mul_comm]
    rw [List.length_cons, hpow]
    unfold ofBytes
    omega

/-- What an atomic writes over its location, if anything. -/
def atomicBytes (pa n : Nat) (v : Option Nat) : List (Nat × Byte × Byte) := (v.map (wholeBytes pa n)).getD []

theorem atomicBytes_other {pa n q : Nat} {v : Option Nat} {b : Byte} (h : v = none ∨ q < pa ∨ pa + n ≤ q) : overlay q b (atomicBytes pa n v) = b := by
  cases v with
  | none => rfl
  | some x => exact overlay_other (h.resolve_left (by simp))

/-- The state behind an atomic: the strip has ended and cannot be run again (R108, R175), and memory has taken what is written. -/
def State.atomicDone (u : State) (m : Mem) (free : Nat) (ns : List Note) : State := { u.spoilStrip with mem := m, free := free, notes := ns }

section
variable {s t : State} {o q pa n op x e : Nat} {f : Nat → Option Nat × Nat} {xs : List Xlat}

/-! ## In the shared space (R175) -/

/-- Scratch written at once is scratch in which held bytes land. -/
theorem writeScratchNow_eq {bs : List (Byte × Byte)} : writeScratchNow o bs s =
    landShared s s.tan.unit (((range o bs.length).zip bs).map fun e => { va := e.1, pa := 0, val := e.2.1, mask := e.2.2 }) := by
  unfold writeScratchNow landShared
  rw [List.foldl_map]
  generalize (range o bs.length).zip bs = l
  have hstep (m : Mem) : l.foldl (fun s e => { s with mem := s.mem.writeScratch s.free s.tan.unit e.1 e.2.1 e.2.2 }) { s with mem := m } =
      l.foldl (fun t e => { t with mem := t.mem.writeScratch t.free s.tan.unit e.1 e.2.1 e.2.2 }) { s with mem := m } := by
    induction l generalizing m with
    | nil => rw [List.foldl_nil, List.foldl_nil]
    | cons e l ih => exact ih (m.writeScratch s.free s.tan.unit e.1 e.2.1 e.2.2)
  exact hstep s.mem

theorem writeScratchNow_whole {v : Nat} : ∃ m, writeScratchNow o ((toBytes n v).map fun b => (b, (0xFF : Byte))) s = { s with mem := m } ∧
    m.cells = s.mem.cells ∧ m.flight = s.mem.flight ∧
    ∀ q, m.scratchByte s.free s.tan.unit q = overlay q (s.mem.scratchByte s.free s.tan.unit q) (wholeBytes o n v) := by
  rw [writeScratchNow_eq, landShared_eq]
  refine ⟨_, rfl, landShared_mem.1, landShared_mem.2, fun q => landShared_scratchByte.trans (congrArg (overlay q _) ?_)⟩
  rw [List.map_map, List.length_map, toBytes_length, List.zip_map_right, List.map_map]
  rfl

theorem scratchRead_sound (h : s.soundShared o n) :
    scratchRead o n s = .ok (s.sharedBytes o n) { s with free := s.free + 1 } := by
  unfold scratchRead
  rw [List.find?_eq_none.2 fun b hb hc => h b hb (List.contains_iff_mem.1 hc)]
  rfl

theorem atomicMem_shared (hc : t.me.copies = []) (hf : t.tan.firmware = none) (htop : o + n ≤ 0x400000) (hs : t.endStrip.soundShared o n) :
    ∃ m ns, atomicMem true false o n op x e f t = .ok (ofBytes (t.endStrip.sharedBytes o n), (f (ofBytes (t.endStrip.sharedBytes o n))).2)
        (t.endStrip.atomicDone m (t.endStrip.free + 1) ns) ∧ m.cells = t.endStrip.mem.cells ∧ m.flight = t.endStrip.mem.flight ∧
      ∀ q, m.scratchByte (t.endStrip.free + 1) t.endStrip.tan.unit q =
        overlay q (t.endStrip.mem.scratchByte (t.endStrip.free + 1) t.endStrip.tan.unit q) (atomicBytes o n (f (ofBytes (t.endStrip.sharedBytes o n))).1) := by
  have hbounds : sharedBounds o n t = .ok () t := by
    unfold sharedBounds State.sharedTop
    rw [hf, if_pos (by simp only [Option.isSome_none, Bool.false_eq_true, if_false]; omega)]
  have hread := scratchRead_sound (s := { t.endStrip.spoilStrip with notes := { store := true, shared := true, va := o, pas := [], dev := false } :: t.endStrip.spoilStrip.notes }) (o := o) (n := n) hs
  unfold atomicMem
  rw [if_pos rfl, exec_bind_ok hbounds, exec_bind_ok (scoreboard_none hc), exec_modState_bind]
  unfold note
  rw [exec_modState_bind, exec_bind_ok hread]
  rw [show State.sharedBytes { t.endStrip.spoilStrip with notes := { store := true, shared := true, va := o, pas := [], dev := false } :: t.endStrip.spoilStrip.notes } o n =
    t.endStrip.sharedBytes o n from rfl]
  generalize ofBytes (t.endStrip.sharedBytes o n) = old
  dsimp only
  cases hv : (f old).1 with
  | none => exact ⟨t.endStrip.mem, _, rfl, rfl, rfl, fun _ => rfl⟩
  | some v =>
    obtain ⟨m, hw, hcells, hflight, hbytes⟩ := writeScratchNow_whole (s := { t.endStrip.spoilStrip with
      notes := { store := true, shared := true, va := o, pas := [], dev := false } :: t.endStrip.spoilStrip.notes, free := t.endStrip.spoilStrip.free + 1 }) (o := o) (n := n) (v := v)
    dsimp only
    rw [exec_modState_bind, hw]
    exact ⟨m, _, rfl, hcells, hflight, hbytes⟩

/-! ## In device memory (R131) -/

theorem lt_deviceTop_of_region (h : regionOf pa = .device) : pa < deviceTop := by
  by_contra hno
  unfold regionOf at h
  rw [if_neg hno] at h
  revert h
  repeat' split
  all_goals simp

theorem homeDie_lt (h : pa < deviceTop) : homeDie pa < 4 := by
  unfold deviceTop at h
  unfold homeDie homeStation
  omega

theorem atomicDevice_eq {d : Nat} (hm : s.mem.tidy) (hd : d < 4) (hpa : pa < deviceTop) :
    ∃ m, atomicDevice d pa n f s = ({ s with mem := m }, ofBytes ((range pa n).map s.mem.latestByte), (f (ofBytes ((range pa n).map s.mem.latestByte))).2) ∧
      (∀ k, m.latestByte k = overlay k (s.mem.latestByte k) (atomicBytes pa n (f (ofBytes ((range pa n).map s.mem.latestByte))).1)) ∧
      ∀ v, (f (ofBytes ((range pa n).map s.mem.latestByte))).1 = some v → ∀ i < n, m.viewByte d (pa + i) = Claims.byteOf v i := by
  have htidy : ((((s.mem.pull d (homeDie pa)).pull (homeDie pa) d).catchUp pa n (homeDie pa)).catchUp pa n d).tidy :=
    Mem.catchUp_tidy (Mem.catchUp_tidy (Mem.pull_tidy (Mem.pull_tidy hm)))
  have hlatest (k : Nat) : ((((s.mem.pull d (homeDie pa)).pull (homeDie pa) d).catchUp pa n (homeDie pa)).catchUp pa n d).latestByte k = s.mem.latestByte k := by
    rw [Mem.latestByte_catchUp (Mem.catchUp_tidy (Mem.pull_tidy (Mem.pull_tidy hm))), Mem.latestByte_catchUp (Mem.pull_tidy (Mem.pull_tidy hm)),
      Mem.latestByte_pull (Mem.pull_tidy hm), Mem.latestByte_pull hm]
  unfold atomicDevice
  dsimp only
  generalize (((s.mem.pull d (homeDie pa)).pull (homeDie pa) d).catchUp pa n (homeDie pa)).catchUp pa n d = m at htidy hlatest
  rw [funext hlatest]
  generalize ofBytes ((range pa n).map s.mem.latestByte) = old
  cases hv : (f old).1 with
  | none => exact ⟨m, rfl, hlatest, fun v h => nomatch h⟩
  | some v =>
    refine ⟨_, rfl, fun k => ?_, fun w hw i hi => ?_⟩
    · rw [Mem.latestByte_pull (Mem.store_tidy htidy), Mem.latestByte_store, hlatest]
      rfl
    · obtain ⟨b, hb⟩ := Mem.viewByte_store_pull (pa := pa + i) (bs := wholeBytes pa n v) htidy (homeDie_lt hpa) hd
      rw [← Option.some.inj hw]
      exact hb.trans (overlay_whole hi)

theorem atomicMem_device (ho : t.opens .atomic false q n xs) (hs : t.sound xs) (hc : t.me.copies = []) (hd : t.dbg.comparators = []) (hf : t.tan.firmware = none)
    (hcore : t.tan.core < 256) (htidy : t.Tidy) (hpas : xs.map (·.pa) = range pa n) (hn : 0 < n) :
    let u := (t.marked .atomic xs).endStrip
    let old := ofBytes ((range pa n).map u.mem.latestByte)
    ∃ m ns, atomicMem false false q n op x e f t = .ok (old, (f old).2) (u.atomicDone m u.free ns) ∧
      (∀ k, m.latestByte k = overlay k (u.mem.latestByte k) (atomicBytes pa n (f old).1)) ∧
      ∀ v, (f old).1 = some v → ∀ i < n, m.viewByte t.tan.die (pa + i) = Claims.byteOf v i := by
  intro u old
  have hseat : t.SameSeat u := marked_seat.trans endStrip_seat
  have htidyU : u.Tidy := State.endStrip_tidy (foldl_holds (fun _ h _ _ => markXlat_tidy h) htidy)
  have hframe := marked_frame t .atomic xs
  have hcopies : (t.marked .atomic xs).me.copies = [] := by rw [hframe.1]; exact hc
  have hcomp : (t.marked .atomic xs).dbg.comparators = [] := by rw [hframe.2.2.2.2.1]; exact hd
  have hbad : ∀ y ∈ xs, lookup u.spoilStrip.mem.bad y.pa = none := fun y hy => (congrArg (lookup · y.pa) hseat.2.2).trans (hs y hy)
  have hfw : u.spoilStrip.tan.firmware = none := hseat.2.1.trans hf
  have hdie : t.tan.die < 4 := by
    unfold Tandem.die coreDie
    rw [hf]
    dsimp only
    omega
  obtain ⟨x0, rest, rfl⟩ : ∃ x0 rest, xs = x0 :: rest := by
    cases xs with
    | nil =>
      obtain ⟨k, rfl⟩ := Nat.exists_eq_succ_of_ne_zero hn.ne'
      exact nomatch hpas
    | cons x0 rest => exact ⟨x0, rest, rfl⟩
  have hx0 : x0.pa = pa := by
    obtain ⟨k, rfl⟩ := Nat.exists_eq_succ_of_ne_zero hn.ne'
    exact (List.cons.inj hpas).1
  have hregion : regionOf pa = .device := hx0 ▸ (ho.2 x0 List.mem_cons_self).1
  obtain ⟨m, hat, hlatest, hview⟩ := atomicDevice_eq (s := u.spoilStrip) (pa := pa) (n := n) (f := f) (d := t.tan.die) htidyU.mem hdie (lt_deviceTop_of_region hregion)
  have hplace : atomicAt q x0.pa (x0 :: rest) n op x e f u.spoilStrip = .ok (old, (f old).2) { u.spoilStrip with mem := m } := by
    unfold atomicAt
    rw [exec_getState_bind, hx0, hregion]
    dsimp only
    rw [hfw, show u.spoilStrip.tan.die = t.tan.die from hseat.die, hat]
    rfl
  unfold atomicMem
  rw [if_neg Bool.false_ne_true, exec_bind_ok (resolve_opens ho), exec_bind_ok (comparators_none hcomp), exec_bind_ok (scoreboard_none hcopies), exec_modState_bind,
    exec_bind_ok (checkErrors_sound hbad)]
  dsimp only
  rw [exec_bind_ok hplace]
  exact ⟨m, _, rfl, hlatest, hview⟩

end

/-! ## The body (R173) -/

section
variable {s : State} {d a b : BitVec 7}

/-- The old value as an atomic leaves it in s[D] (R173). -/
def oldValue (op n old : Nat) : Word := if op ∈ [6, 7, 10, 11] then BitVec.ofNat 64 old else sextN (8 * n) old

theorem raise_run {f : Nat} : raise f s = .ok () { s with me := s.me.raise (BitVec.ofNat 64 f) } := by
  unfold raise
  split
  next h =>
    have hsame : s.me.raise (BitVec.ofNat 64 f) = s.me := by
      unfold Hart.raise
      rw [h, show BitVec.ofNat 64 0 = 0#64 from rfl, BitVec.or_zero]
    rw [hsame]
    rfl
  · rfl

/-- The hart of an atomic: flags and the old value come into it, and nothing else changes there. -/
theorem writeS_run {v : State} {y : Word} (hd : d.toNat < 112) : writeS d.toNat y v = .ok () { v with me := v.me.writeS d.toNat y } := if_pos hd

theorem atomicBody_runs {shared : Bool} {op n old fl : Nat} {r : BitVec 2} {z : BitVec 1} {t1 : State} (hr : Claims.atomicReady s d a b) (hf : s.tan.firmware = none)
    (hdet : op = 10 → s.me.csr.hctl.getLsbD 0 = false) (hn : (if z = 0 then 4 else 8) = n) (halign : (s.srcValue a.toNat).toNat % n = 0)
    (hm : let x := ((s.srcTaken a.toNat).srcValue b.toNat).toNat % 2 ^ (8 * n)
      let e := (s.me.readS d.toNat).toNat % 2 ^ (8 * n)
      atomicMem shared false (s.srcValue a.toNat).toNat n op x e (fun m => atomicNew op n m x e) ((s.srcTaken a.toNat).srcTaken b.toNat) = .ok (old, fl) t1) :
    atomicBody shared op r d a b z s = .ok () { t1 with me := (t1.me.raise (BitVec.ofNat 64 fl)).writeS d.toNat (oldValue op n old) } := by
  subst hn
  obtain ⟨⟨⟨ha, hb, -⟩, hha, hhb, -⟩, hd⟩ := hr
  have hD : ((s.srcTaken a.toNat).srcTaken b.toNat).srcHere d.toNat := .inl hd
  have hT : ((s.srcTaken a.toNat).srcTaken b.toNat).srcTaken d.toNat = (s.srcTaken a.toNat).srcTaken b.toNat := if_pos hd
  have hV : ((s.srcTaken a.toNat).srcTaken b.toNat).srcValue d.toNat = s.me.readS d.toNat := by
    unfold State.srcValue
    rw [if_pos hd, srcTaken_me, srcTaken_me]
  have hcheck {β : Type} {k : Unit → Exec β} : (if op = 10 then checkDet >>= k else k ()) ((s.srcTaken a.toNat).srcTaken b.toNat) = k () ((s.srcTaken a.toNat).srcTaken b.toNat) := by
    split
    next h =>
      refine exec_bind_ok ?_
      unfold checkDet
      rw [exec_getState_bind, srcTaken_me, srcTaken_me, hdet h]
      rfl
    · rfl
  unfold atomicBody
  rw [coreOnlyIf_bind hf]
  beta_reduce
  rw [exec_bind_ok (checkSrc_ok ha), exec_bind_ok (checkSrc_ok hb), exec_bind_ok (checkRmw_ok hd), exec_bind_ok (readS_here hha), exec_bind_ok (readS_here hhb),
    exec_bind_ok (readS_here hD), hT, hV, exec_bind_ok (s' := (s.srcTaken a.toNat).srcTaken b.toNat) (a := ()) (if_pos halign), hcheck]
  dsimp only at hm ⊢
  rw [exec_bind_ok hm, exec_bind_ok raise_run]
  exact writeS_run hd

/-- An atomic whose access is done retires with the old value in s[D], and leaves every other register (R173). -/
theorem atomic_retires {shared : Bool} {op n old fl free : Nat} {r : BitVec 2} {z : BitVec 1} {u : State} {m : Mem} {ns : List Note} {i : Instr}
    (hi : exec i s = runScalar (atomicBody shared op r d a b z) s) (hr : Claims.atomicReady s d a b) (hf : s.tan.firmware = none)
    (hdet : op = 10 → s.me.csr.hctl.getLsbD 0 = false) (hn : (if z = 0 then 4 else 8) = n) (halign : (s.srcValue a.toNat).toNat % n = 0) (htidy : s.Tidy) (hq : s.Quiet) (hu : u.Quiet)
    (hme : ∃ o st w, u.me = { s.me with held := [], outstanding := o, strip := st, barWait := w })
    (hm : let x := ((s.srcTaken a.toNat).srcValue b.toNat).toNat % 2 ^ (8 * n)
      let e := (s.me.readS d.toNat).toNat % 2 ^ (8 * n)
      atomicMem shared false (s.srcValue a.toNat).toNat n op x e (fun m => atomicNew op n m x e) ((s.srcTaken a.toNat).srcTaken b.toNat) =
        .ok (old, fl) (u.atomicDone m free ns)) :
    ∃ t, exec i s = .next t ∧ t.me.pc = s.me.pc + 4 ∧ t.me.held = [] ∧
      t.me.readS d.toNat = (if d = 0 then 0 else oldValue op n old) ∧
      (∀ k < 112, k ≠ d.toNat → t.me.readS k = s.me.readS k) ∧ (∀ k, t.me.readV k = s.me.readV k) ∧ t.mem = m ∧ t.free = free := by
  obtain ⟨o, st, w, hme⟩ := hme
  have hbody := atomicBody_runs (r := r) hr hf hdet hn halign hm
  have hd0 : d.toNat = 0 ↔ d = 0 := ⟨fun h => BitVec.eq_of_toNat_eq h, fun h => by rw [h]; rfl⟩
  have hdone : (u.atomicDone m free ns).me.raise (BitVec.ofNat 64 fl) = { s.me with
      held := [], outstanding := o, strip := { st with rewindable := false }, barWait := w
      csr := { s.me.csr with fflags := s.me.csr.fflags ||| BitVec.ofNat 64 fl } } := by
    unfold State.atomicDone State.spoilStrip Hart.raise
    rw [hme]
  rw [hdone] at hbody
  generalize hh : ({ s.me with
      held := [], outstanding := o, strip := { st with rewindable := false }, barWait := w
      csr := { s.me.csr with fflags := s.me.csr.fflags ||| BitVec.ofNat 64 fl } } : Hart) = h at hbody
  obtain ⟨hloop, htrial, hhist, hpassed, howed, hreq⟩ := hu
  have hkeeps (v : Word) : (h.writeS d.toNat v).held = [] ∧ (h.writeS d.toNat v).loop = none ∧ (h.writeS d.toNat v).csr.trctl.getLsbD 0 = false := by
    unfold Hart.writeS
    rw [← hh]
    split <;> exact ⟨rfl, hq.1, hq.2.1⟩
  obtain ⟨hmem, hfree, hpc, hheld, hS, hV⟩ := retire_of_quiet (s0 := s) (npc := s.me.pc + 4) (t := { u.atomicDone m free ns with me := h.writeS d.toNat (oldValue op n old) })
    hq.1 hq.2.1 ⟨(hkeeps _).2.1, (hkeeps _).2.2, hhist, hpassed, howed, hreq⟩
  have hreads (k : Nat) : h.readS k = s.me.readS k := by rw [← hh]; rfl
  have htidyS : sparseWf 0 h.s = true := by rw [← hh]; exact htidy.me.s
  refine ⟨_, hi.trans (by unfold runScalar; rw [hbody]), hpc, hheld.trans (hkeeps _).1, (hS _).trans ?_, fun k _ hk => ?_, fun k => ?_, hmem, hfree⟩
  · dsimp only
    split
    next h0 => rw [hd0.2 h0]; rfl
    next h0 => exact Hart.readS_writeS_same h d.toNat _ (fun h1 => h0 (hd0.1 h1)) htidyS
  · exact (hS k).trans ((Hart.readS_writeS_other h d.toNat k _ hk).trans (hreads k))
  · refine (hV k).trans ?_
    dsimp only
    unfold Hart.writeS
    rw [← hh]
    split <;> rfl

end

end Sys2Proof.Machine

end

section
/-! PROOFS. The members of AMG and AMS (O11): the table of their operations, and the bytes and the old value that they leave (R173, R174). -/

namespace Sys2Proof.Machine

open Sys2Proof

/-! ## The operations (R174) -/

section
variable {n e : Nat} {m x y : BitVec (8 * n)}

/-- What an operation writes is the word with its number. -/
theorem writes_word {v : Option Nat} {k : Nat} {w : BitVec (8 * n)} (hv : v = some k) (hw : BitVec.ofNat (8 * n) k = w) : v.map (BitVec.ofNat (8 * n)) = some w := by
  rw [hv, Option.map_some, hw]

theorem ofNat_word : BitVec.ofNat (8 * n) x.toNat = x := by rw [BitVec.ofNat_toNat, BitVec.setWidth_eq]

/-- A choice between two words is a choice between their numbers. -/
theorem ofNat_ite {c c' : Prop} [Decidable c] [Decidable c'] (h : c ↔ c') : BitVec.ofNat (8 * n) (if c then x.toNat else y.toNat) = if c' then x else y := by
  rw [if_congr h rfl rfl, ← apply_ite BitVec.toNat, ofNat_word]

theorem toSigned_lt_iff (hn : 0 < n) : toSigned (8 * n) x.toNat < toSigned (8 * n) y.toNat ↔ x.slt y = true := by
  rw [toSigned_toNat (by omega), toSigned_toNat (by omega), BitVec.slt_iff_toInt_lt]

theorem atomicNew_add : (atomicNew 0 n m.toNat x.toNat e).1.map (BitVec.ofNat (8 * n)) = some (m + x) :=
  writes_word rfl (by rw [← BitVec.toNat_add, ofNat_word])

theorem atomicNew_and : (atomicNew 1 n m.toNat x.toNat e).1.map (BitVec.ofNat (8 * n)) = some (m &&& x) :=
  writes_word rfl (by rw [← BitVec.toNat_and, ofNat_word])

theorem atomicNew_or : (atomicNew 2 n m.toNat x.toNat e).1.map (BitVec.ofNat (8 * n)) = some (m ||| x) :=
  writes_word rfl (by rw [← BitVec.toNat_or, ofNat_word])

theorem atomicNew_xor : (atomicNew 3 n m.toNat x.toNat e).1.map (BitVec.ofNat (8 * n)) = some (m ^^^ x) :=
  writes_word rfl (by rw [← BitVec.toNat_xor, ofNat_word])

theorem atomicNew_min (hn : 0 < n) : (atomicNew 4 n m.toNat x.toNat e).1.map (BitVec.ofNat (8 * n)) = some (if x.slt m then x else m) :=
  writes_word rfl (ofNat_ite (toSigned_lt_iff hn))

theorem atomicNew_max (hn : 0 < n) : (atomicNew 5 n m.toNat x.toNat e).1.map (BitVec.ofNat (8 * n)) = some (if m.slt x then x else m) :=
  writes_word rfl (ofNat_ite (toSigned_lt_iff hn))

theorem atomicNew_minn : (atomicNew 6 n m.toNat x.toNat e).1.map (BitVec.ofNat (8 * n)) = some (if x.ult m then x else m) :=
  writes_word rfl (by
    rw [min_comm, min_def_lt]
    exact ofNat_ite BitVec.ult_iff_lt.symm)

theorem atomicNew_maxn : (atomicNew 7 n m.toNat x.toNat e).1.map (BitVec.ofNat (8 * n)) = some (if m.ult x then x else m) :=
  writes_word rfl (by
    rw [max_def_lt]
    exact ofNat_ite BitVec.ult_iff_lt.symm)

theorem atomicNew_swap : (atomicNew 8 n m.toNat x.toNat e).1.map (BitVec.ofNat (8 * n)) = some x := writes_word rfl ofNat_word

theorem atomicNew_cas : (atomicNew 9 n m.toNat x.toNat y.toNat).1.map (BitVec.ofNat (8 * n)) = if m = y then some x else none := by
  have h : (atomicNew 9 n m.toNat x.toNat y.toNat).1 = if m = y then some x.toNat else none := if_congr BitVec.toNat_inj rfl rfl
  split
  next hmy => exact writes_word (h.trans (if_pos hmy)) ofNat_word
  next hmy => rw [h, if_neg hmy, Option.map_none]

theorem atomicNew_fadd : (atomicNew 10 n m.toNat x.toNat e).1.map (BitVec.ofNat (8 * n)) =
    some (BitVec.ofNat (8 * n) (fAdd (if 8 * n = 32 then fp32 else fp64) 0 0 m.toNat x.toNat).1) :=
  writes_word rfl (by rw [if_congr (show 8 * n = 32 ↔ n = 4 by omega) rfl rfl])

theorem atomicNew_inc : (atomicNew 11 n m.toNat x.toNat e).1.map (BitVec.ofNat (8 * n)) = some (if m.ult x then m + 1 else 0) := by
  refine writes_word rfl ?_
  by_cases h : m.toNat < x.toNat
  · rw [if_neg (by omega), if_pos (BitVec.ult_iff_lt.2 h), BitVec.ofNat_add, ofNat_word]
    rfl
  · rw [if_pos (by omega), if_neg fun hu => h (BitVec.ult_iff_lt.1 hu)]
    rfl

end

/-- Each member of the table has its operation: which body it runs, how it extends the old value, whether DET forbids it, and what it writes. -/
theorem atomics_operation {p} (hp : p ∈ Claims.atomics) : ∃ op,
    (∀ r d a b z s, exec (p.1 r d a b z) s = runScalar (atomicBody false op r d a b z) s ∧ exec (p.2.1 r d a b z) s = runScalar (atomicBody true op r d a b z) s) ∧
    (op ∈ [6, 7, 10, 11] ↔ p.2.2.1 = false) ∧ (op = 10 → p.2.2.2.1 = true) ∧
    ∀ n, 0 < n → ∀ m x e : BitVec (8 * n), (atomicNew op n m.toNat x.toNat e.toNat).1.map (BitVec.ofNat (8 * n)) = p.2.2.2.2 (8 * n) m x e := by
  simp only [Claims.atomics, List.mem_cons, List.not_mem_nil, or_false] at hp
  rcases hp with rfl | rfl | rfl | rfl | rfl | rfl | rfl | rfl | rfl | rfl | rfl | rfl
  · exact ⟨0, fun _ _ _ _ _ _ => ⟨rfl, rfl⟩, by decide, by decide, fun _ _ _ _ _ => atomicNew_add⟩
  · exact ⟨1, fun _ _ _ _ _ _ => ⟨rfl, rfl⟩, by decide, by decide, fun _ _ _ _ _ => atomicNew_and⟩
  · exact ⟨2, fun _ _ _ _ _ _ => ⟨rfl, rfl⟩, by decide, by decide, fun _ _ _ _ _ => atomicNew_or⟩
  · exact ⟨3, fun _ _ _ _ _ _ => ⟨rfl, rfl⟩, by decide, by decide, fun _ _ _ _ _ => atomicNew_xor⟩
  · exact ⟨4, fun _ _ _ _ _ _ => ⟨rfl, rfl⟩, by decide, by decide, fun _ hn _ _ _ => atomicNew_min hn⟩
  · exact ⟨5, fun _ _ _ _ _ _ => ⟨rfl, rfl⟩, by decide, by decide, fun _ hn _ _ _ => atomicNew_max hn⟩
  · exact ⟨6, fun _ _ _ _ _ _ => ⟨rfl, rfl⟩, by decide, by decide, fun _ _ _ _ _ => atomicNew_minn⟩
  · exact ⟨7, fun _ _ _ _ _ _ => ⟨rfl, rfl⟩, by decide, by decide, fun _ _ _ _ _ => atomicNew_maxn⟩
  · exact ⟨8, fun _ _ _ _ _ _ => ⟨rfl, rfl⟩, by decide, by decide, fun _ _ _ _ _ => atomicNew_swap⟩
  · exact ⟨9, fun _ _ _ _ _ _ => ⟨rfl, rfl⟩, by decide, by decide, fun _ _ _ _ _ => atomicNew_cas⟩
  · exact ⟨10, fun _ _ _ _ _ _ => ⟨rfl, rfl⟩, by decide, by decide, fun _ _ _ _ _ => atomicNew_fadd⟩
  · exact ⟨11, fun _ _ _ _ _ _ => ⟨rfl, rfl⟩, by decide, by decide, fun _ _ _ _ _ => atomicNew_inc⟩

/-! ## The bytes and the old value -/

section
variable {op n old : Nat}

theorem byteOf_ofNat {v i : Nat} (hi : i < n) : Claims.byteOf (BitVec.ofNat (8 * n) v).toNat i = Claims.byteOf v i := by
  have hpow : 2 ^ (8 * n) = 256 ^ i * 256 ^ (n - i) := by
    rw [← Nat.pow_add, show i + (n - i) = n by omega, show (256 : Nat) = 2 ^ 8 from rfl, ← Nat.pow_mul]
  unfold Claims.byteOf
  refine BitVec.eq_of_toNat_eq ?_
  rw [BitVec.toNat_ofNat, BitVec.toNat_ofNat, BitVec.toNat_ofNat, hpow, Nat.mod_mul_right_div_self]
  exact Nat.mod_mod_of_dvd _ (dvd_pow_self 256 (by omega))

theorem oldValue_eq {signed : Bool} (hn : 0 < n) (hold : old < 2 ^ (8 * n)) (hs : op ∈ [6, 7, 10, 11] ↔ signed = false) :
    oldValue op n old = if signed = true then (BitVec.ofNat (8 * n) old).signExtend 64 else (BitVec.ofNat (8 * n) old).setWidth 64 := by
  unfold oldValue
  cases signed with
  | false =>
    rw [if_pos (hs.2 rfl), if_neg Bool.false_ne_true]
    refine BitVec.eq_of_toNat_eq ?_
    rw [BitVec.toNat_setWidth, BitVec.toNat_ofNat, BitVec.toNat_ofNat, Nat.mod_eq_of_lt hold]
  | true =>
    rw [if_neg fun h => absurd (hs.1 h) (by decide), if_pos rfl]
    unfold sextN
    rw [toSigned_ofNat (by omega) hold]
    rfl

theorem bytesAt_lt {pa : Nat} {f : Nat → Byte} : ofBytes ((range pa n).map f) < 2 ^ (8 * n) := by
  have h := ofBytes_lt (l := (range pa n).map f)
  rwa [List.length_map, range_length] at h

end

section
variable {s : State} {r : BitVec 2} {d a b : BitVec 7} {z : BitVec 1}

theorem atomicWidth : (if z = 0 then 4 else 8) = 4 * (z.toNat + 1) := by
  have hz : z.toNat < 2 := z.isLt
  by_cases h : z = 0
  · rw [if_pos h, h]
    rfl
  · have h1 : z.toNat ≠ 0 := fun h0 => h (BitVec.eq_of_toNat_eq h0)
    rw [if_neg h]
    omega

theorem srcTaken_tidy {k : Nat} (h : s.Tidy) : (s.srcTaken k).Tidy := ite_holds (P := State.Tidy) h h

/-- The hart behind an end of its strip that the reads of its operands precede. -/
theorem hart_of_taken {t : State} (h : t.me = s.me) : ∃ o st w, t.endStrip.me = { s.me with held := [], outstanding := o, strip := st, barWait := w } := h ▸ endStrip_hart

variable {op n old : Nat} {x e : Word}

/-- The operation of a member on the operands as they are read (R174). -/
def atomicWrites (op n : Nat) (x e : Word) (old : Nat) : Option Nat × Nat := atomicNew op n old (x.toNat % 2 ^ (8 * n)) (e.toNat % 2 ^ (8 * n))

theorem atomicWrites_eq {tbl : (w : Nat) → BitVec w → BitVec w → BitVec w → Option (BitVec w)} (hold : old < 2 ^ (8 * n))
    (hnew : ∀ m x e : BitVec (8 * n), (atomicNew op n m.toNat x.toNat e.toNat).1.map (BitVec.ofNat (8 * n)) = tbl (8 * n) m x e) :
    tbl (8 * n) (BitVec.ofNat (8 * n) old) (x.setWidth _) (e.setWidth _) = (atomicWrites op n x e old).1.map (BitVec.ofNat (8 * n)) := by
  rw [← hnew, BitVec.toNat_setWidth, BitVec.toNat_setWidth, BitVec.toNat_ofNat, Nat.mod_eq_of_lt hold]
  rfl

/-- An atomic on the shared space (R173, R175). -/
theorem atomic_shared {i : Instr} (hi : exec i s = runScalar (atomicBody true op r d a b z) s) (hw : (if z = 0 then 4 else 8) = n) (hr : Claims.atomicReady s d a b)
    (htidy : s.Tidy) (hc : s.me.copies = []) (hq : s.Quiet) (hf : s.tan.firmware = none) (hdet : op = 10 → s.me.csr.hctl.getLsbD 0 = false)
    (halign : (s.srcValue a.toNat).toNat % n = 0) (htop : (s.srcValue a.toNat).toNat + n ≤ 0x400000)
    (hsound : ((s.srcTaken a.toNat).srcTaken b.toNat).endStrip.soundShared (s.srcValue a.toNat).toNat n) (hu : ((s.srcTaken a.toNat).srcTaken b.toNat).endStrip.Quiet) :
    let o := (s.srcValue a.toNat).toNat
    let u := ((s.srcTaken a.toNat).srcTaken b.toNat).endStrip
    let old := ofBytes (u.sharedBytes o n)
    let new := (atomicWrites op n ((s.srcTaken a.toNat).srcValue b.toNat) (s.me.readS d.toNat) old).1
    ∃ t, exec i s = .next t ∧ t.me.pc = s.me.pc + 4 ∧ t.me.held = [] ∧ t.me.readS d.toNat = (if d = 0 then 0 else oldValue op n old) ∧
      (∀ k < 112, k ≠ d.toNat → t.me.readS k = s.me.readS k) ∧ (∀ k, t.me.readV k = s.me.readV k) ∧
      (∀ q, t.mem.scratchByte t.free s.tan.unit q = overlay q (u.mem.scratchByte t.free s.tan.unit q) (atomicBytes o n new)) ∧
      t.mem.cells = u.mem.cells ∧ t.mem.flight = u.mem.flight := by
  intro o u old new
  have hme : ((s.srcTaken a.toNat).srcTaken b.toNat).me = s.me := by rw [srcTaken_me, srcTaken_me]
  have hunit : u.tan.unit = s.tan.unit := (srcTaken_seat.trans (srcTaken_seat.trans endStrip_seat)).unit
  obtain ⟨m, ns, hmem, hcells, hflight, hbytes⟩ := atomicMem_shared (t := (s.srcTaken a.toNat).srcTaken b.toNat) (o := o) (n := n) (op := op)
    (x := ((s.srcTaken a.toNat).srcValue b.toNat).toNat % 2 ^ (8 * n)) (e := (s.me.readS d.toNat).toNat % 2 ^ (8 * n))
    (f := atomicWrites op n ((s.srcTaken a.toNat).srcValue b.toNat) (s.me.readS d.toNat)) (hme ▸ hc) ((srcTaken_seat.trans srcTaken_seat).2.1.trans hf) htop hsound
  obtain ⟨t, ht, hpc, hheld, hold, hS, hV, htm, htf⟩ := atomic_retires hi hr hf hdet hw halign htidy hq hu (hart_of_taken hme) hmem
  refine ⟨t, ht, hpc, hheld, hold, hS, hV, fun q => ?_, htm ▸ hcells, htm ▸ hflight⟩
  rw [htm, htf, ← hunit]
  exact hbytes q

/-- An atomic on device memory (R131, R173). -/
theorem atomic_device {i : Instr} {xs : List Xlat} {pa : Nat} (hi : exec i s = runScalar (atomicBody false op r d a b z) s) (hw : (if z = 0 then 4 else 8) = n)
    (hn : 0 < n) (hr : Claims.atomicReady s d a b) (htidy : s.Tidy) (hun : s.unwatched) (hq : s.Quiet) (hcore : s.tan.core < 256) (hf : s.tan.firmware = none)
    (hdet : op = 10 → s.me.csr.hctl.getLsbD 0 = false) (halign : (s.srcValue a.toNat).toNat % n = 0) (ho : s.opens .atomic false (s.srcValue a.toNat).toNat n xs)
    (hsound : s.sound xs) (hpas : xs.map (·.pa) = range pa n) (hu : (((s.srcTaken a.toNat).srcTaken b.toNat).marked .atomic xs).endStrip.Quiet) :
    let u := (((s.srcTaken a.toNat).srcTaken b.toNat).marked .atomic xs).endStrip
    let old := ofBytes ((range pa n).map u.mem.latestByte)
    let new := (atomicWrites op n ((s.srcTaken a.toNat).srcValue b.toNat) (s.me.readS d.toNat) old).1
    ∃ t, exec i s = .next t ∧ t.me.pc = s.me.pc + 4 ∧ t.me.held = [] ∧ t.me.readS d.toNat = (if d = 0 then 0 else oldValue op n old) ∧
      (∀ k < 112, k ≠ d.toNat → t.me.readS k = s.me.readS k) ∧
      (∀ k, t.mem.latestByte k = overlay k (u.mem.latestByte k) (atomicBytes pa n new)) ∧
      ∀ v, new = some v → ∀ i < n, t.mem.viewByte s.tan.die (pa + i) = Claims.byteOf v i := by
  intro u old new
  have hseat : s.SameSeat ((s.srcTaken a.toNat).srcTaken b.toNat) := srcTaken_seat.trans srcTaken_seat
  have hme : ((s.srcTaken a.toNat).srcTaken b.toNat).me = s.me := by rw [srcTaken_me, srcTaken_me]
  obtain ⟨hc, hd, -⟩ := srcTaken_unwatched (a := b.toNat) (srcTaken_unwatched (a := a.toNat) hun)
  have hsoundT : ((s.srcTaken a.toNat).srcTaken b.toNat).sound xs := fun y hy => (congrArg (lookup · y.pa) hseat.2.2).trans (hsound y hy)
  obtain ⟨m, ns, hmem, hlatest, hview⟩ := atomicMem_device (t := (s.srcTaken a.toNat).srcTaken b.toNat) (op := op)
    (x := ((s.srcTaken a.toNat).srcValue b.toNat).toNat % 2 ^ (8 * n)) (e := (s.me.readS d.toNat).toNat % 2 ^ (8 * n))
    (f := atomicWrites op n ((s.srcTaken a.toNat).srcValue b.toNat) (s.me.readS d.toNat)) (opens_srcTaken (opens_srcTaken ho)) hsoundT hc hd
    (hseat.2.1.trans hf) (hseat.1.symm ▸ hcore) (srcTaken_tidy (srcTaken_tidy htidy)) hpas hn
  obtain ⟨t, ht, hpc, hheld, hold, hS, -, htm, -⟩ := atomic_retires hi hr hf hdet hw halign htidy hq hu
    (hart_of_taken ((marked_frame _ _ _).1.trans hme)) hmem
  refine ⟨t, ht, hpc, hheld, hold, hS, htm ▸ hlatest, fun v hv i hi => ?_⟩
  rw [htm, ← hseat.die]
  exact hview v hv i hi

end

/-- Settles O11: the body of each member takes its operands, ends the strip, and reads and writes its word once; its operation is the one of the table. -/
theorem atomicsReadAndWriteOnce : Obligations.AtomicsReadAndWriteOnce := by
  unfold Obligations.AtomicsReadAndWriteOnce
  constructor
  · intro p hp r d a b z s hr htidy hc hq hf hdet n o u halign htop hsound hu old new
    obtain ⟨op, hexec, hsign, hfadd, hnew⟩ := atomics_operation hp
    have hn : 0 < n := by omega
    have hlt : ofBytes (u.sharedBytes o n) < 2 ^ (8 * n) := bytesAt_lt
    obtain ⟨t, ht, hpc, hheld, hold, hS, hV, hbytes, hcells, hflight⟩ := atomic_shared (hexec r d a b z s).2 atomicWidth hr htidy hc hq hf (fun h => hdet (hfadd h))
      halign htop hsound hu
    have hwrite := atomicWrites_eq (x := (s.srcTaken a.toNat).srcValue b.toNat) (e := s.me.readS d.toNat) hlt (hnew n hn)
    refine ⟨t, ht, hpc, hheld, by rw [hold, oldValue_eq hn hlt hsign], hS, hV, ?_, fun q _ hq v hv => ?_, hcells, hflight⟩
    · cases hnw : (atomicWrites op n ((s.srcTaken a.toNat).srcValue b.toNat) (s.me.readS d.toNat) (ofBytes (u.sharedBytes o n))).1 with
      | none =>
        rw [hnw] at hwrite
        exact .inl (congrArg (Option.getD · old) hwrite)
      | some v =>
        rw [hnw] at hwrite hbytes
        have hnew : new = BitVec.ofNat (8 * n) v := congrArg (Option.getD · old) hwrite
        refine .inr fun i hi => ?_
        rw [hbytes, hnew, byteOf_ofNat hi]
        exact overlay_whole hi
    · rw [hbytes, atomicBytes_other (.inr hq)]
      unfold Mem.scratchByte
      rw [hv]
      rfl
  · intro p hp r d a b z s xs pa hr htidy hun hq hcore hf hdet n q u halign ho hsound hpas hu old new
    obtain ⟨op, hexec, hsign, hfadd, hnew⟩ := atomics_operation hp
    have hn : 0 < n := by omega
    have hlt : ofBytes ((range pa n).map u.mem.latestByte) < 2 ^ (8 * n) := bytesAt_lt
    obtain ⟨t, ht, hpc, hheld, hold, hS, hlatest, hview⟩ := atomic_device (hexec r d a b z s).1 atomicWidth hn hr htidy hun hq hcore hf (fun h => hdet (hfadd h))
      halign ho hsound hpas hu
    have hwrite : new = _ := atomicWrites_eq (x := (s.srcTaken a.toNat).srcValue b.toNat) (e := s.me.readS d.toNat) hlt (hnew n hn)
    refine ⟨t, ht, hpc, hheld, by rw [hold, oldValue_eq hn hlt hsign], hS, fun v hv i hi => ?_, fun k hk => ?_⟩
    · obtain ⟨w, hw, rfl⟩ := Option.map_eq_some_iff.1 (hwrite.symm.trans hv)
      rw [byteOf_ofNat hi, hlatest, hw]
      exact ⟨overlay_whole hi, hview w hw i hi⟩
    · rw [hlatest, atomicBytes_other (hk.imp_left fun h => Option.map_eq_none_iff.1 (hwrite.symm.trans h))]

end Sys2Proof.Machine

end
